-- ==== Sys2Proof/Word.lean ====
section
/-!
DEFINITION. The plainest types of the model: bytes and sparse tables.
-/
namespace Sys2Proof

/-- One byte as it stands in a slot, a frame or a memory. -/
abbrev Byte := BitVec 8

/-- A sparse table of values by number (a leg, a window, a parameter instance, an address). It is kept in one
canonical form: keys strictly rising, and no entry that equals what an unlisted key reads as. -/
abbrev Tab (α : Type) := List (Nat × α)

end Sys2Proof
end

