-- ==== Sys2Proof/Syntax.lean ====
section
/-!
DEFINITION. The commands that the block takes and the types of their operands.
-/
namespace Sys2Proof

/-- The units of which the SVP keeps a management view (R17). -/
inductive ViewUnit where
  | leg | window | facet | string | tier
  deriving DecidableEq, Repr

/-- How the parity of a transfer came out (R105, R343): good, good on its one replay, or failed twice. -/
inductive TransferParity where
  | good | replayed | failed
  deriving DecidableEq, Repr

/-- An error that the Casket's code finds in a word (R342). -/
structure EccError where
  /-- Usable Casket address of the word. -/
  addr : Nat
  /-- Two bits: not correctable. -/
  double : Bool
  deriving DecidableEq, Repr

/-- The other end of a UDP exchange. -/
structure Endpoint where
  ip : Nat
  port : Nat
  deriving DecidableEq, Repr

/-- A CAN frame as the bus delivers it (R397, R401). -/
structure CanFrame where
  /-- Identifier, 11 or 29 bits. -/
  id : Nat
  /-- Extended identifier. -/
  xtd : Bool
  /-- FD frame. -/
  fdf : Bool
  /-- Bit rate switch. -/
  brs : Bool
  /-- Error state indicator. -/
  esi : Bool
  /-- Remote frame. -/
  rtr : Bool
  /-- Data bytes. -/
  data : List Byte
  deriving DecidableEq, Repr

/-- How a transmission on a CAN port ended (R408). -/
inductive CanTxResult where
  | sent | cancelled | failed
  deriving DecidableEq, Repr

/-- What the parts of the device report of themselves during a start. -/
structure BootObs where
  /-- Bit f set: Facet f fails its self-calibration. -/
  facetFail : Nat
  /-- Verdict codes 3 or 5 of R546 that the Locket reads give for slot A and slot B; 0 when they read well. -/
  locketA : Nat
  locketB : Nat
  /-- The Casket trains. -/
  casketOk : Bool
  /-- The Carat residual in the retention SRAM passes its CRC. -/
  residualOk : Bool
  /-- ESTOP input low. -/
  estopLow : Bool
  deriving DecidableEq, Repr

/-- What an Ethernet frame carries, as the port's stack tells frames apart (R431). -/
inductive EthPayload where
  | arpRequest (senderIp senderMac targetIp : Nat)
  | arpReply (senderIp senderMac : Nat)
  | echoRequest (srcIp dstIp : Nat) (data : List Byte)
  | echoReply (srcIp dstIp : Nat) (data : List Byte)
  | udp (src : Endpoint) (dstIp dstPort : Nat) (body : List Byte)
  | fragment
  | ipv6
  | pause
  | ptp
  | other
  deriving DecidableEq, Repr

/-- An Ethernet frame (R431): its FCS, its length in bytes, its VLAN and priority, and what it carries. -/
structure EthFrame where
  fcsOk : Bool
  bytes : Nat
  vlan : Option (Nat × Nat)
  payload : EthPayload
  deriving DecidableEq, Repr

/-- An Announce message of IEEE 1588: the data set of the grandmaster it announces and the sender.
Log entry 148 (DESIGN CHOICE). -/
structure Announce where
  domain : Nat
  prio1 : Nat
  cls : Nat
  accuracy : Nat
  variance : Nat
  prio2 : Nat
  /-- grandmasterIdentity. -/
  gm : Nat
  steps : Nat
  /-- Port identity of the sender. -/
  sender : Nat
  deriving DecidableEq, Repr

/-- What an epoch record carries of one PV input (R461). -/
structure PvMirror where
  vref : Rat
  voc : Rat
  dir : Int
  step : Nat
  phase : Nat
  deriving DecidableEq, Repr

/-- An epoch record of the mirror (R461). -/
structure EpochRecord where
  tickMs : Nat
  /-- SYS_STATE as it reads. -/
  sysState : Nat
  thPred : Rat
  fEst : Rat
  fTune : Rat
  pR : Rat
  qCmd : Rat
  pTgt : Rat
  qTgt : Rat
  df : Rat
  thE : Rat
  eMag : Rat
  e0 : Rat
  tauU : Nat
  tauF : Nat
  uPre : Rat
  ipPre : Rat
  iqPre : Rat
  ipLast : Rat
  /-- RT_STAT as it reads. -/
  rtStat : Nat
  charmPeriod : Nat
  chips : Nat
  susp : Nat
  suspTimer : Nat
  /-- Setter: last SEQ, and SEQ and LAND_MS of the outstanding intent, or 0. -/
  seq : Nat
  intentSeq : Nat
  intentMs : Nat
  snapSeq : Nat
  /-- First 16 bytes of the digest of the mirrored configuration. -/
  digest : Nat
  pv : List PvMirror
  deriving DecidableEq, Repr

/-- A value of a parameter instance. -/
structure ParamVal where
  pid : Nat
  idx : Nat
  val : Nat
  deriving DecidableEq, Repr

/-- A chunk of a snapshot transfer (R456, R459): its place in the whole, and the values it carries. -/
structure SnapChunk where
  offset : Nat
  len : Nat
  total : Nat
  active : List ParamVal
  staged : List ParamVal
  bank : List ParamVal
  deriving DecidableEq, Repr

/-- What the standby measures in a transfer window (R469): mean and RMS in codes, or the angle in 0.001 degree for a
phase, and whether a result had OVR = 1 or VALID = 0. -/
structure XcalObs where
  mean : Rat
  rms : Rat
  phi : Int
  bad : Bool
  deriving DecidableEq, Repr

/-- Where an early warning comes from (R523). -/
inductive WarnSource where
  /-- PFAIL_N has been low since tick `since`. -/
  | pfail (since : Nat)
  /-- The last samples of VHOLD, in counts of 5 mV. -/
  | vhold (samples : List Nat)
  /-- A rail has been outside its limits since tick `since`. -/
  | rail (since : Nat)
  deriving DecidableEq, Repr

/-- A pair of integers. -/
structure IntPair where
  a : Int
  b : Int
  deriving DecidableEq, Repr

/-- A pair of numbers. -/
structure NatPair where
  a : Nat
  b : Nat
  deriving DecidableEq, Repr


/-- The commands of the block, one constructor for each row of the opcode table. The first operand `t` of every
command is the PWM tick count, in ticks of 2.5 ns of network time (R440), at which the command happens. -/
inductive Instr where
  /-- `POWER_APPLIED` (R24): VBAT is applied or VHOLD rises above 330 mV, so the Clasp starts and the device moves from OFF to CLASP. -/
  | powerApplied (t : Nat) (vbat : Bool) (vholdCold : Bool)
  /-- `COLD_START_COMPLETE` (R531): The cold-start oscillator brings the Clasp reservoir to 1.6 V, the boost takes over and the device enters CLASP with COLD = 1. -/
  | coldStartComplete (t : Nat)
  /-- `CLASP_SUPPLY_LOST` (R532): VHOLD falls below 250 mV while VBAT is below 1.8 V or absent, so the Clasp stops and the RTC, retention SRAM and last-state record are lost (OFF). -/
  | claspSupplyLost (t : Nat)
  /-- `WAKE_INPUT` (R507): An enabled WAKE level in CLASP drives PWR_EN high and starts the fast domains. -/
  | wakeInput (t : Nat) (level : Bool)
  /-- `RTC_ALARM` (R504): The RTC reaches clasp.rtc.alarm in CLASP and raises wake cause 0x03; an alarm that falls due in any other state is discarded. -/
  | rtcAlarm (t : Nat)
  /-- `MAIN_SUPPLY_GOOD` (R563): Every main rail has been inside its monitor window for 200 µs, so the fast domains are released and the start runs. -/
  | mainSupplyGood (t : Nat) (hostsel : Bool)
  /-- `PWR_WAIT_TIMEOUT` (R507): The main supplies are not good within clasp.pwr.wait, so PWR_EN goes low, PWR_FAIL is set and the device stays in CLASP. -/
  | pwrWaitTimeout (t : Nat)
  /-- `BOOT_COMPLETE` (R540): The start sequence ends: the device enters READY with SEQ 0x01, opens the mailbox and raises EV_RESET, EV_STATE and, where it applies, EV_FACTORY. -/
  | bootComplete (t : Nat) (obs : BootObs)
  /-- `RST_N_ASSERT` (R536): RST_N is recognised after being low for 0.5 µs: the gate outputs go to high impedance, DRVEN goes low and the disconnect channel takes a demand. -/
  | rstNAssert (t : Nat) (since : Nat)
  /-- `RST_N_RELEASE` (R535): The release of RST_N starts a warm start of KIND 2. -/
  | rstNRelease (t : Nat) (hostsel : Bool)
  /-- `SVP_WATCHDOG_EXPIRY` (R537): The firmware has not refreshed the watchdog for 100 ms, so the device takes a warm reset of KIND 3. -/
  | svpWatchdogExpiry (t : Nat) (hostsel : Bool)
  /-- `LOCKSTEP_MISMATCH` (R538): The SVP lockstep comparator reports a mismatch: the gates go off and the device enters TRIP with cause 0x28. -/
  | lockstepMismatch (t : Nat)
  /-- `LOCKSTEP_RESET` (R538): One millisecond after a lockstep mismatch, the device resets itself with KIND 4. -/
  | lockstepReset (t : Nat) (hostsel : Bool)
  /-- `TEST_EN_ASSERT` (R568): TEST_EN goes high: every output is held at high impedance and the SVP is stopped until the next start. -/
  | testEnAssert (t : Nat)
  /-- `REQ_CLASP` (R24): A sys.state.req write requests CLASP from READY. -/
  | reqClasp (t : Nat) (cls : Nat)
  /-- `REQ_READY` (R24): A sys.state.req write requests READY, from DOZE, SYNC (which opens the disconnect channel) or TRIP (which clears the trip). -/
  | reqReady (t : Nat) (cls : Nat)
  /-- `REQ_DOZE` (R552): A sys.state.req write requests DOZE from READY or SYNC. -/
  | reqDoze (t : Nat) (cls : Nat)
  /-- `REQ_SYNC` (R24): A sys.state.req write requests SYNC, from READY or DOZE, or from RUN with a ramp down. -/
  | reqSync (t : Nat) (cls : Nat)
  /-- `REQ_RUN` (R24): A sys.state.req write requests RUN, from SYNC, from DOZE with a phase check, or from a FORM entered by request. -/
  | reqRun (t : Nat) (cls : Nat)
  /-- `REQ_FORM` (R197): A sys.state.req write requests FORM from RUN; the forming weights land at the next epoch tick. -/
  | reqForm (t : Nat) (cls : Nat)
  /-- `REQ_SERVICE` (R24): A sys.state.req write from an engineer or warden session requests SERVICE and records SVC_RET. -/
  | reqService (t : Nat) (cls : Nat)
  /-- `DOZE_ENTRY_COMPLETE` (R552): Entry into DOZE completes: Carat saves, Loupe units store, the Casket enters self-refresh, and the Facets and PLLs stop. -/
  | dozeEntryComplete (t : Nat)
  /-- `DOZE_WAKE_CHECK_DONE` (R29): The phase and magnitude check of a wake from DOZE to RUN ends, and the device either switches or enters SYNC with cause 0x15. -/
  | dozeWakeCheckDone (t : Nat) (dPhase : Rat) (dMag : Rat) (slowLock : Bool)
  /-- `RUN_TO_SYNC_COMPLETE` (R187): P_r and Q_cmd reach 0 after a request to SYNC, so the gates go off and the device enters SYNC. -/
  | runToSyncComplete (t : Nat)
  /-- `MGMT_VIEW_RECONCILE` (R17): The SVP view of a unit disagrees with the hardware, so EV_DISAGREE is raised and the view is brought into line within 2 ms. -/
  | mgmtViewReconcile (t : Nat) (unit : ViewUnit) (idx : Nat)
  /-- `SCAN_TIMER_FIRE` (R35): Scan timer t reaches its period and triggers the Facets that use it. -/
  | scanTimerFire (t : Nat) (k : Nat)
  /-- `SCAN_START` (R34): The scan.delay after a trigger expires, and the Facet begins its scan at the next conversion edge. -/
  | scanStart (t : Nat) (f : Nat)
  /-- `AIN_RESULT_DELIVERED` (R31): A conversion completes and its processed result, with VALID, OVR, SEQ and STAMP, reaches the Filigree and the Loupe. -/
  | ainResultDelivered (t : Nat) (f : Nat) (p : Nat) (raw : Int) (clip : Bool) (stamp : Nat)
  /-- `SPARE_TAKEOVER` (R52): At the next scan boundary, Facet 12 takes over the inputs of a faulty core Facet without an overlap. -/
  | spareTakeover (t : Nat) (f : Nat)
  /-- `ROT_DWELL_START` (R60): A rotation dwell begins, and Facet 12 starts its self-calibration for the next core Facet. -/
  | rotDwellStart (t : Nat)
  /-- `FACET_SELFCAL_DONE` (R60): A self-calibration of a Facet completes, and the overlap of the rotation step starts. -/
  | facetSelfcalDone (t : Nat) (f : Nat) (pass : Bool)
  /-- `ROT_OVERLAP_END` (R61): An overlap of 256 scans ends: the converters are compared and the inputs are handed over or back, or EV_ROTFAIL is raised. -/
  | rotOverlapEnd (t : Nat) (diffs : List Int)
  /-- `FACET_FLT_WRITE` (R65): Writing 1 to a FACET_FLT bit starts the self-calibration of that core Facet and clears the bit if it passes. -/
  | facetFltWrite (t : Nat) (mask : Nat)
  /-- `SPARE_FLT_WRITE` (R65): Writing 1 to SPARE_FLT starts the self-calibration of Facet 12 and clears the bit if it passes. -/
  | spareFltWrite (t : Nat)
  /-- `CALZERO` (R55): The CALZERO command starts zero averaging on an input at a gain code. -/
  | calzero (t : Nat) (slot : Nat)
  /-- `CALZERO_DONE` (R55): CALZERO averaging completes: cal.offset is set, cal.state becomes 1, the result is journalled and EV_CALDONE is raised. -/
  | calzeroDone (t : Nat)
  /-- `CALFULL_DC` (R56): The CALFULL command in DC mode starts a gain calibration with an applied DC value. -/
  | calfullDc (t : Nat) (slot : Nat)
  /-- `CALFULL_AC` (R56): The CALFULL command in AC mode starts a gain calibration over whole cycles of an applied signal. -/
  | calfullAc (t : Nat) (slot : Nat)
  /-- `CALFULL_DONE` (R56): CALFULL measurement completes: cal.gain is set and cal.state becomes 2, or the command is refused. -/
  | calfullDone (t : Nat)
  /-- `CASCADE_EVAL_START` (R77): A ready cascade takes a free lane in priority order and begins its evaluation. -/
  | cascadeEvalStart (t : Nat) (c : Nat) (parity : TransferParity)
  /-- `CASCADE_EVAL_DONE` (R77): An evaluation completes and its output is written at the next tick edge. -/
  | cascadeEvalDone (t : Nat) (c : Nat) (parity : TransferParity)
  /-- `TRACE_POST_COMPLETE` (R102): A tap has recorded its post samples after the trigger and stops. -/
  | tracePostComplete (t : Nat) (tap : Nat)
  /-- `TRACE_FIRE` (R103): A write to trace[t].fire triggers a tap manually. -/
  | traceFire (t : Nat) (cls : Nat) (tap : Nat)
  /-- `MIRROR_COPY_DONE` (R90): The copy of the new active bank into the inactive bank after a swap completes, MIRROR is set and any held PSET proceeds. -/
  | mirrorCopyDone (t : Nat)
  /-- `FIL_STAGE_DISCARD` (R91): A write to fil.stage.discard restores every mirror from the active bank. -/
  | filStageDiscard (t : Nat) (cls : Nat)
  /-- `SP_FIXED_WRITE` (R99): A PSET of sp.fixed acts at the next evaluation that reads the setpoint. -/
  | spFixedWrite (t : Nat) (cls : Nat) (c : Nat) (v : Int)
  /-- `PIN_SP_EDGE` (R97): A filtered reference edge on PIN_SPq yields a new frequency or duty measurement. -/
  | pinSpEdge (t : Nat) (q : Nat) (level : Bool) (held : Nat)
  /-- `SETPOINT_TIMEOUT` (R98): No valid setpoint measurement arrives for sp.timeout, so EV_SPLOST is raised and the fallback acts. -/
  | setpointTimeout (t : Nat) (c : Nat)
  /-- `FILIGREE_PARITY_ERROR` (R106): A parity error in the active bank or state memory aborts the evaluation, holds the chain's legs off and starts a replay. -/
  | filigreeParityError (t : Nat) (c : Nat) (stateWord : Bool)
  /-- `REPLAY_END` (R106): A Filigree replay completes: the replay outputs load directly into the compare values and the hold lifts. -/
  | replayEnd (t : Nat) (repaired : Bool)
  /-- `FIL_UNC_WRITE` (R109): Writing 1 to UNC starts a full check of both banks and the state memory. -/
  | filUncWrite (t : Nat)
  /-- `FIL_CHECK_DONE` (R109): The full fabric check ends and clears UNC if it passes. -/
  | filCheckDone (t : Nat) (pass : Bool)
  /-- `BANK_SCRUB` (R110): The periodic read of both banks repairs or flags failing words. -/
  | bankScrub (t : Nat) (c : Nat) (activeBank : Bool)
  /-- `CARRIER_PERIOD_START` (R115): A leg's carrier starts a new period at the valley, which triggers scans and the sync chain. -/
  | carrierPeriodStart (t : Nat) (n : Nat)
  /-- `LOAD_POINT` (R120): At the valley or the peak, a leg takes its duty and sets the next edges of S. -/
  | loadPoint (t : Nat) (n : Nat) (peak : Bool)
  /-- `S_EDGE` (R120): The carrier reaches a planned edge of S, so S rises or falls and the opposite output turns off. -/
  | sEdge (t : Nat) (n : Nat) (rise : Bool)
  /-- `DEAD_TIME_EXPIRY` (R122): The dead-time delay after an edge of S ends, and GH or GL turns on. -/
  | deadTimeExpiry (t : Nat) (n : Nat) (high : Bool)
  /-- `SHOOT_LIMIT_TRIP` (R134): shoot.limit consecutive periods of a leg in service are blocked, so the leg trips and SHOOT_TRIP is set. -/
  | shootLimitTrip (t : Nat) (n : Nat)
  /-- `BOOT_REFRESH_ENFORCE` (R124): K periods pass without a refreshing interval, so the fall of S is moved to force a GL interval and BOOT_ENF is set. -/
  | bootRefreshEnforce (t : Nat) (n : Nat)
  /-- `LEG_SERVICE_ENTRY` (R125): A leg enters service at its period start, with a bootstrap start pulse before it. -/
  | legServiceEntry (t : Nat) (n : Nat)
  /-- `LEG_SERVICE_EXIT` (R278): A leaving leg stops at its first period start at or after its landing. -/
  | legServiceExit (t : Nat) (n : Nat)
  /-- `DUV_BLANK_END` (R126): The DUV blanking window after entry into service ends, and a DUV still asserted trips the leg. -/
  | duvBlankEnd (t : Nat) (n : Nat)
  /-- `DFLT_ASSERT` (R138): The filtered DFLT[n] asserts: for a leg in service, DFLT_LAT is set, both outputs go off and the leg leaves service. -/
  | dfltAssert (t : Nat) (n : Nat)
  /-- `DFLT_RELEASE` (R138): The filtered DFLT[n] releases and DFLT_IN clears. -/
  | dfltRelease (t : Nat) (n : Nat)
  /-- `DUV_ASSERT` (R139): The filtered DUV[n] asserts, and a leg in service outside its blanking window trips with DUV_LAT. -/
  | duvAssert (t : Nat) (n : Nat)
  /-- `DUV_RELEASE` (R139): The filtered DUV[n] releases and DUV_IN clears. -/
  | duvRelease (t : Nat) (n : Nat)
  /-- `BRIDGE_COMPANION_EXIT` (R183): At their next period start, the other two legs of a bridge with a leg missing leave service without a latch. -/
  | bridgeCompanionExit (t : Nat) (n : Nat)
  /-- `GATE_CLEAR` (R141): A write to leg[n].gate.clear clears DFLT_LAT, DUV_LAT and SHOOT_TRIP, or is refused. -/
  | gateClear (t : Nat) (cls : Nat) (n : Nat)
  /-- `OUT_FORCE` (R135): A write to leg[n].out.force in SERVICE forces the stage-3 outputs of a leg out of service. -/
  | outForce (t : Nat) (cls : Nat) (n : Nat) (v : Nat)
  /-- `DRV_CLEAR_GO` (R143): A write to drv[g].clear.go starts a driver clear of group g, holding its legs off. -/
  | drvClearGo (t : Nat) (cls : Nat) (g : Nat)
  /-- `DRV_CLEAR_LOW` (R143): Two microseconds into a driver clear, DRVENg is driven low. -/
  | drvClearLow (t : Nat) (g : Nat)
  /-- `DRV_CLEAR_HIGH` (R143): After the clear width, DRVENg is driven high again. -/
  | drvClearHigh (t : Nat) (g : Nat)
  /-- `DRV_CLEAR_DONE` (R143): The driver clear ends: CLR_BUSY clears, EV_DRVCLR is raised and held legs rejoin. -/
  | drvClearDone (t : Nat) (g : Nat)
  /-- `SYNC_OUT_PULSE_END` (R117): The SYNC_OUT pulse of syncout.width ticks ends. -/
  | syncOutPulseEnd (t : Nat)
  /-- `WINDOW_ASSERT` (R154): A Bezel window's filter output asserts, and the window acts as its act setting selects. -/
  | windowAssert (t : Nat) (w : Nat) (upper : Bool) (pin : List Int)
  /-- `CUT_LIMIT_TRIP` (R156): cut.limit consecutive periods are cut, so the window latches with CUT_TRIP and trips its leg. -/
  | cutLimitTrip (t : Nat) (w : Nat)
  /-- `WINDOW_RELEASE` (R153): A window's filter output releases after M consecutive inactive samples. -/
  | windowRelease (t : Nat) (w : Nat) (upper : Bool) (pin : List Int)
  /-- `WIN_CLEAR` (R159): A write to win[w].clear clears the window's latches, or is refused and sets CLR_REF. -/
  | winClear (t : Nat) (cls : Nat) (w : Nat)
  /-- `WIN_TEST_UPPER` (R165): A write of 1 to win[w].test.go starts the self-test of the upper comparator. -/
  | winTestUpper (t : Nat) (cls : Nat) (w : Nat)
  /-- `WIN_TEST_LOWER` (R165): A write of 2 to win[w].test.go starts the self-test of the lower comparator. -/
  | winTestLower (t : Nat) (cls : Nat) (w : Nat)
  /-- `WIN_TEST_RELEASE_CHECK` (R166): At 2 µs the filter must have released, and the test source steps beyond the trip code. -/
  | winTestReleaseCheck (t : Nat) (w : Nat) (released : Bool)
  /-- `WIN_TEST_ASSERT_DEADLINE` (R166): At 4 µs the filter must have asserted within the allowed delay. -/
  | winTestAssertDeadline (t : Nat) (w : Nat) (delay : Option Nat)
  /-- `WIN_TEST_SOURCE_RETURN` (R166): At 6 µs the test source steps back below the release code. -/
  | winTestSourceReturn (t : Nat) (w : Nat)
  /-- `WIN_TEST_END` (R166): At 8 µs the comparator returns to the pin, the result is stored, EV_BZTEST is raised and the window is armed. -/
  | winTestEnd (t : Nat) (w : Nat) (released : Bool)
  /-- `EPOCH_TICK` (R383): At each 1 ms fabric epoch tick, the device handles trips, commit landing, intent landing and its own synthesis writes in order, and runs its epoch work. -/
  | epochTick (t : Nat)
  /-- `GS_SETPOINT_WRITE` (R184): A PSET of gs.p.set, gs.q.set or gs.q.pf sets a dispatch target for the next epoch. -/
  | gsSetpointWrite (t : Nat) (cls : Nat) (pid : Nat) (v : Int)
  /-- `DISPATCH_POINT_STALE` (R184): A dispatch point is missing or stale for 100 ms, so the last target is held and EV_PTSTALE is raised. -/
  | dispatchPointStale (t : Nat)
  /-- `FORM_EXIT_HOLD` (R198): The exit conditions of an automatic FORM have held for gs.form.exit.hold, so the following weights are staged and the device returns to RUN with cause 0x14. -/
  | formExitHold (t : Nat)
  /-- `RIDE_EXIT_HOLD` (R209): The exit conditions have held for rt.exit.hold, so the device returns from RIDE to RUN with cause 0x11. -/
  | rideExitHold (t : Nat)
  /-- `RT_TIMER_REARM` (R207): The quantity has stayed inside the continuous region for rt.rearm, so τ_u or τ_f resets to 0. -/
  | rtTimerRearm (t : Nat) (freq : Bool)
  /-- `JUMP_HOLD_END` (R217): gs.est.lock.n epochs after a jump, active current is no longer held at 0. -/
  | jumpHoldEnd (t : Nat)
  /-- `CHARM_SUSP_CLEAR` (R229): charm.susp.t has passed after the last indication, so SUSP clears. -/
  | charmSuspClear (t : Nat)
  /-- `CHARM_BLANK_END` (R228): The charm.blank time after entry, return or a jump ends, and the passive methods resume. -/
  | charmBlankEnd (t : Nat)
  /-- `CHARM_NOTIME_EXPIRY` (R242): TIME_OK has been 0 for charm.notime.t, so charm.notime.act applies. -/
  | charmNotimeExpiry (t : Nat)
  /-- `CHARM_FORM_TMAX` (R245): An automatic FORM has lasted charm.form.tmax, so islanding is declared with FORMT. -/
  | charmFormTmax (t : Nat)
  /-- `CHARM_REC_HOLD` (R246): The grid has been healthy for charm.rec.hold, so cause 0x23 stops persisting. -/
  | charmRecHold (t : Nat)
  /-- `PV_START_HOLD` (R257): A waiting PV input has held its start voltage for pv.start.t, so it becomes available. -/
  | pvStartHold (t : Nat) (q : Nat)
  /-- `PV_STOP_HOLD` (R258): Interval power has stayed below the stop level for pv.stop.t, so the input releases its legs and returns to waiting. -/
  | pvStopHold (t : Nat) (q : Nat)
  /-- `PO_INTERVAL_END` (R260): A perturb-and-observe interval ends, and the next V_ref step is computed. -/
  | poIntervalEnd (t : Nat) (q : Nat)
  /-- `SHADE_HOLD_EXPIRY` (R263): The ratio or yield condition has held for pv.shade.t, giving a shading suspicion. -/
  | shadeHoldExpiry (t : Nat) (q : Nat) (yield : Bool)
  /-- `SWEEP_SCHEDULED` (R263): The pv.sweep.period timer of an input requests a sweep. -/
  | sweepScheduled (t : Nat) (q : Nat)
  /-- `SWEEP_AFTER_START` (R263): 10 s after an input starts tracking, a sweep is requested. -/
  | sweepAfterStart (t : Nat) (q : Nat)
  /-- `PV_SWEEP_GO` (R263): A write to pv[q].sweep.go requests a sweep. -/
  | pvSweepGo (t : Nat) (cls : Nat) (q : Nat)
  /-- `PV_P_MAX_WRITE` (R262): A PSET of pv[q].p.max sets the host ceiling at the next epoch. -/
  | pvPMaxWrite (t : Nat) (cls : Nat) (q : Nat) (v : Nat)
  /-- `SWEEP_START` (R264): The first epoch tick at which every sweep condition holds starts the queued sweep with its descent. -/
  | sweepStart (t : Nat) (q : Nat)
  /-- `SWEEP_DEFER_EXPIRY` (R264): A sweep request not started within pv.sweep.defer is dropped and counted in SKIPS. -/
  | sweepDeferExpiry (t : Nat) (q : Nat)
  /-- `SWEEP_RISING_START` (R265): The settle time after the descent ends, so the rising phase starts and the Loupe records. -/
  | sweepRisingStart (t : Nat)
  /-- `SWEEP_RISING_END` (R266): The rising phase ends after 40 ms, and the global maximum and Voc_est are extracted. -/
  | sweepRisingEnd (t : Nat)
  /-- `SWEEP_RESUME` (R265): The settle time at the return target ends, so P&O restarts and SWEEP_PH returns to 0. -/
  | sweepResume (t : Nat)
  /-- `SWEEP_RETRY` (R267): pv.sweep.gap after an extrapolation failure, a new sweep is requested. -/
  | sweepRetry (t : Nat) (q : Nat)
  /-- `PLACEMENT_CYCLE_START` (R275): At each cycle start, the Setter computes the next placement and publishes an intent if it differs. -/
  | placementCycleStart (t : Nat)
  /-- `INTENT_LANDING` (R278): At LAND_MS, the whole placement lands and a landed record follows. -/
  | intentLanding (t : Nat)
  /-- `UNPLANNED_CHANGE` (R279): At the first epoch tick after an unplanned change, the Setter retracts, publishes a fact and plans again. -/
  | unplannedChange (t : Nat)
  /-- `SETTER_ROTATION` (R287): The rotation period expires, and the most stressed bridge is swapped for the least stressed one. -/
  | setterRotation (t : Nat)
  /-- `STRESS_JOURNAL` (R287): Every 10 minutes, the leg stress is journalled in the Locket. -/
  | stressJournal (t : Nat)
  /-- `RACK_STALE_HOLD_EXPIRY` (R290): Stale rack points have outlasted set.rack.hold, so the string becomes unavailable. -/
  | rackStaleHoldExpiry (t : Nat) (str : Nat)
  /-- `TIER_AGE_EXPIRY` (R297): A tier-1 record held for set.tier.age moves to tier 0. -/
  | tierAgeExpiry (t : Nat) (recId : Nat)
  /-- `CARAT_SEL_WRITE` (R307): A write to CARAT_SEL selects a register and clears LVAL, or is ignored and sets SEL_ERR. -/
  | caratSelWrite (t : Nat) (v : Nat)
  /-- `CARAT_LO_READ` (R307): A read of CARAT_LO latches the high half and, for the interval form, resets the base and saves it. -/
  | caratLoRead (t : Nat)
  /-- `CARAT_PERIODIC_SAVE` (R316): Every carat.save.t, the Carat set is saved to the Locket. -/
  | caratPeriodicSave (t : Nat)
  /-- `CARAT_SAVE_GO` (R316): A write to carat.save.go saves the Carat set now. -/
  | caratSaveGo (t : Nat) (cls : Nat)
  /-- `CARAT_RESIDUAL_WRITE` (R317): Every 20 ms, the energy since the last save is written to the retention SRAM with a CRC. -/
  | caratResidualWrite (t : Nat)
  /-- `CARAT_PH_CAL_GO` (R315): A write to carat.cal.ph.go starts a phase calibration of one phase. -/
  | caratPhCalGo (t : Nat) (cls : Nat) (v : Nat)
  /-- `CARAT_PH_CAL_DONE` (R315): The phase measurement ends: carat.ph.corr is set and journalled, or the result is refused. -/
  | caratPhCalDone (t : Nat) (phiM : Int)
  /-- `LOUPE_ARM` (R327): A write to loupe[u].arm arms an idle unit, which starts FILLING. -/
  | loupeArm (t : Nat) (cls : Nat) (u : Nat)
  /-- `LOUPE_FIRE` (R328): A write to loupe[u].fire triggers a unit manually. -/
  | loupeFire (t : Nat) (cls : Nat) (u : Nat)
  /-- `LOUPE_STOP` (R335): A write to loupe[u].stop ends POST at the last complete row. -/
  | loupeStop (t : Nat) (cls : Nat) (u : Nat)
  /-- `LOUPE_PRE_FILLED` (R327): pre rows are in the ring, so the unit moves from FILLING to READY. -/
  | loupePreFilled (t : Nat) (u : Nat)
  /-- `LOUPE_POST_COMPLETE` (R335): len − pre rows after TRG are in the ring, so POST ends and STORE begins. -/
  | loupePostComplete (t : Nat) (u : Nat)
  /-- `LOUPE_STORE_DONE` (R336): The copy to the tier and the index entry complete, and EV_LPREC is raised. -/
  | loupeStoreDone (t : Nat) (u : Nat) (parity : TransferParity)
  /-- `LOUPE_REARM_HOLD` (R327): The HOLD of rearm.hold ends, so the unit arms and a master arms its group. -/
  | loupeRearmHold (t : Nat) (u : Nat)
  /-- `TRIG_IN_EDGE` (R328): A filtered edge on TRIG_INk is offered as a trigger to the units that name it. -/
  | trigInEdge (t : Nat) (k : Nat) (rising : Bool)
  /-- `CASKET_SCRUB` (R342): The daily read of the whole store corrects or marks ECC errors. -/
  | casketScrub (t : Nat) (errs : List EccError)
  /-- `EVENT_ARCHIVE_COPY` (R347): A log entry is copied to the Casket event archive within 10 ms. -/
  | eventArchiveCopy (t : Nat)
  /-- `MBX_DOOR_WRITE` (R358): A write to MBX_DOOR hands the rung slots to the device in ascending order. -/
  | mbxDoorWrite (t : Nat) (v : Nat)
  /-- `MBX_CQ_HEAD_WRITE` (R361): A host write advances the completion queue head, or is ignored with ACC_ERR. -/
  | mbxCqHeadWrite (t : Nat) (v : Nat)
  /-- `COMPLETION_POST` (R361): A completion entry is posted once there is room, the slot is freed and EV_MBXCQ is raised. -/
  | completionPost (t : Nat)
  /-- `EV_PEND_WRITE` (R367): Writing 1 to EV_PEND bits clears pending events. -/
  | evPendWrite (t : Nat) (k : Nat) (v : Nat)
  /-- `QSPI_FRAME` (R354): A QSPI frame from CS falling to CS rising performs a read or a write, or is ignored with ACC_ERR. -/
  | qspiFrame (t : Nat) (instr : Nat) (addr : Nat) (data : List Byte) (n : Nat)
  /-- `UDP_COMMAND` (R356): A type-1 Igzan datagram writes and rings a slot, or replays the stored completion of a repeat. -/
  | udpCommand (t : Nat) (src : Endpoint) (body : List Byte)
  /-- `UDP_REG_READ` (R355): A type-3 datagram reads up to 64 register words and is answered with type 4. -/
  | udpRegRead (t : Nat) (src : Endpoint) (body : List Byte)
  /-- `UDP_REG_WRITE` (R355): A type-5 datagram writes up to 64 register words and is acknowledged. -/
  | udpRegWrite (t : Nat) (src : Endpoint) (body : List Byte)
  /-- `UDP_EVENT_RENOTIFY` (R367): Every sys.ev.renotify while a line is asserted, a type-6 event notice is sent. -/
  | udpEventRenotify (t : Nat)
  /-- `REGISTER_CLEAR_ON_READ` (R352): A read covering byte 0 of a register or mirror with RC fields returns the value and clears those fields. -/
  | registerClearOnRead (t : Nat) (addr : Nat) (n : Nat)
  /-- `REGISTER_WRITE` (R352): A write to a direct register without a row of its own updates its writable fields, or sets ACC_ERR if partial. -/
  | registerWrite (t : Nat) (addr : Nat) (data : List Byte)
  /-- `PGET` (R364): The PGET command returns active values of a parameter over consecutive indices. -/
  | pget (t : Nat) (slot : Nat)
  /-- `PGET_SHADOW` (R379): A PGET with SHADOW set returns the staged values. -/
  | pgetShadow (t : Nat) (slot : Nat)
  /-- `PSET` (R364): The PSET command checks and writes staged or immediate values of a parameter, all or none. -/
  | pset (t : Nat) (slot : Nat)
  /-- `STAGE_DISCARD` (R386): A write to sys.stage.discard resets the staged values of the named groups. -/
  | stageDiscard (t : Nat) (cls : Nat) (mask : Nat)
  /-- `HOST_POINT_WRITE` (R395): A PSET of sys.pt.val writes a declared host point at once. -/
  | hostPointWrite (t : Nat) (cls : Nat) (k : Nat) (v : Nat)
  /-- `COMMIT` (R382): The COMMIT command starts the checks of the named groups, to land them at an epoch. -/
  | commit (t : Nat) (slot : Nat)
  /-- `COMMIT_CHECK_ONLY` (R364): A COMMIT with CHECK_ONLY runs every check, lands nothing and completes at once. -/
  | commitCheckOnly (t : Nat) (slot : Nat)
  /-- `COMMIT_CHECKS_DONE` (R380): The commit checks complete, either failing with CHECK or DENIED, or scheduling the landing. -/
  | commitChecksDone (t : Nat)
  /-- `COMMIT_LANDING` (R382): At the landing epoch, every changed instance of the named groups lands and the COMMIT completes. -/
  | commitLanding (t : Nat)
  /-- `SNAPSHOT_WRITE_DONE` (R387): A snapshot write to the Locket completes with its header written last. -/
  | snapshotWriteDone (t : Nat) (ok : Bool)
  /-- `SNAPSHOT_RETRY` (R388): 100 ms after a failed snapshot write, it is retried once. -/
  | snapshotRetry (t : Nat)
  /-- `EVREAD` (R368): The EVREAD command returns event log entries from a sequence number. -/
  | evread (t : Nat) (slot : Nat)
  /-- `EVREAD_ARCHIVE` (R368): An EVREAD with ARCHIVE set returns entries from the Casket archive. -/
  | evreadArchive (t : Nat) (slot : Nat)
  /-- `PTREAD` (R393): The PTREAD command returns point slots taken in one pass. -/
  | ptread (t : Nat) (slot : Nat)
  /-- `RECLIST` (R371): The RECLIST command returns record index entries filtered by class and tier. -/
  | reclist (t : Nat) (slot : Nat)
  /-- `RECREAD` (R364): The RECREAD command returns bytes of a stored record. -/
  | recread (t : Nat) (slot : Nat) (ecc : Option EccError)
  /-- `RECREAD_RELEASE` (R297): A RECREAD with RELEASE set releases the record from its tier after the read. -/
  | recreadRelease (t : Nat) (slot : Nat) (ecc : Option EccError)
  /-- `FWSTAGE_CHUNK` (R364): The FWSTAGE command writes a chunk of an image into the inactive slot. -/
  | fwstageChunk (t : Nat) (slot : Nat)
  /-- `FWSTAGE_LAST` (R478): An FWSTAGE with LAST set writes the final chunk and starts the image checks. -/
  | fwstageLast (t : Nat) (slot : Nat)
  /-- `FWSTAGE_CHECK_DONE` (R478): The image checks complete with OK and EV_FWSTAGED, or with SIGFAIL and EV_SIGFAIL. -/
  | fwstageCheckDone (t : Nat)
  /-- `FWACT_HANDOVER` (R470): FWACT MODE 0 swaps roles with the SYNCED peer and activates the new image as standby. -/
  | fwactHandover (t : Nat) (slot : Nat)
  /-- `FWACT_LIVE` (R470): FWACT MODE 1 verifies the staged slot, journals the activation mark and schedules the pause. -/
  | fwactLive (t : Nat) (slot : Nat)
  /-- `FWACT_NEXT_RESET` (R470): FWACT MODE 2 makes the new image active at the next reset. -/
  | fwactNextReset (t : Nat) (slot : Nat)
  /-- `FWACT_PAUSE_START` (R470): The live activation pause begins, PAUSED is set and epoch work is suspended. -/
  | fwactPauseStart (t : Nat)
  /-- `FWACT_PAUSE_END` (R470): The new firmware runs, FWACT completes, held commands run and epoch work resumes. -/
  | fwactPauseEnd (t : Nat)
  /-- `ATTEST` (R480): The ATTEST command requests a signed report, or further bytes of it. -/
  | attest (t : Nat) (slot : Nat)
  /-- `ATTEST_DONE` (R480): The signed attestation report is assembled and the command completes. -/
  | attestDone (t : Nat)
  /-- `SESSION_OPEN` (R485): A SESSION open checks the credential and opens a session that replaces the one in force, or fails with AUTHFAIL. -/
  | sessionOpen (t : Nat) (slot : Nat)
  /-- `SESSION_CLOSE` (R365): A SESSION close closes the session whose token it carries. -/
  | sessionClose (t : Nat) (slot : Nat)
  /-- `SESSION_IDLE_TIMEOUT` (R365): No command has carried the token for sys.session.idle, so the session closes. -/
  | sessionIdleTimeout (t : Nat)
  /-- `AUTH_LOCKOUT_END` (R486): sec.auth.lock after a lockout, SESSION opens are accepted again. -/
  | authLockoutEnd (t : Nat)
  /-- `LEGSVC_OUT` (R283): LEGSVC ACTION 0 holds a leg out, so it leaves service at the next intent landing. -/
  | legsvcOut (t : Nat) (slot : Nat)
  /-- `LEGSVC_OUT_NOW` (R283): LEGSVC ACTION 1 holds a leg out and takes it out at its next period start as an unplanned change. -/
  | legsvcOutNow (t : Nat) (slot : Nat)
  /-- `LEGSVC_IN` (R283): LEGSVC ACTION 2 frees a leg and clears its latches, or is refused. -/
  | legsvcIn (t : Nat) (slot : Nat)
  /-- `PAIR_UNPAIR` (R457): PAIR operation 0 ends the pair at once. -/
  | pairUnpair (t : Nat) (slot : Nat)
  /-- `PAIR_ACTIVE` (R455): PAIR operation 1 offers to pair as the active device. -/
  | pairActive (t : Nat) (slot : Nat)
  /-- `PAIR_STANDBY` (R455): PAIR operation 2 offers, in READY, to pair as standby. -/
  | pairStandby (t : Nat) (slot : Nat)
  /-- `PAIR_SWAP` (R468): PAIR operation 3 starts a planned role swap at a tick pnd.swap.lead ahead. -/
  | pairSwap (t : Nat) (slot : Nat)
  /-- `PAIR_TIMEOUT` (R457): SYNCED is not reached within 10 s, so PAIR completes with REFUSED. -/
  | pairTimeout (t : Nat)
  /-- `CAN_FRAME_RX` (R403): A received CAN frame is filtered into a high-priority buffer or the queue, or is discarded. -/
  | canFrameRx (t : Nat) (p : Nat) (frame : CanFrame)
  /-- `PARTNER_FRAME_PROCESS` (R406): The partner engine writes a held frame's fields into its bound points and acknowledges the entry. -/
  | partnerFrameProcess (t : Nat) (p : Nat)
  /-- `PARTNER_DATAGRAM_RX` (R418): A partner UDP datagram is checked and written into the points of its entry. -/
  | partnerDatagramRx (t : Nat) (port : Nat) (src : Endpoint) (body : List Byte)
  /-- `PARTNER_STALE` (R407): A point or entry has no update for ptn[e].stale, so STALE or LOST is set and EV_PTNLOST is raised. -/
  | partnerStale (t : Nat) (e : Nat)
  /-- `PARTNER_TX_PERIOD` (R409): An entry's transmit period falls due, so its frames are queued or replace pending ones. -/
  | partnerTxPeriod (t : Nat) (e : Nat)
  /-- `PARTNER_TX_ONCHANGE` (R409): A changed point queues its page at the next tick, no more often than tx.minint. -/
  | partnerTxOnchange (t : Nat) (e : Nat) (page : Nat)
  /-- `CAN_TX_DONE` (R408): A transmit entry completes as sent, cancelled or failed. -/
  | canTxDone (t : Nat) (p : Nat) (status : CanTxResult)
  /-- `CAN_BUS_ERROR` (R412): A bus error updates TEC and REC and can move the port to error passive or bus-off. -/
  | canBusError (t : Nat) (p : Nat) (tec : Nat) (rec : Nat) (lec : Nat)
  /-- `CAN_BOFF_WAIT_EXPIRY` (R412): boff.wait after bus-off, automatic recovery starts. -/
  | canBoffWaitExpiry (t : Nat) (p : Nat)
  /-- `CAN_RECOVER` (R412): A write to can[p].recover starts bus-off recovery, or is refused. -/
  | canRecover (t : Nat) (cls : Nat) (p : Nat)
  /-- `CAN_RECOVERY_DONE` (R412): 128 occurrences of 11 recessive bits have passed, so the port is error active again. -/
  | canRecoveryDone (t : Nat) (p : Nat)
  /-- `LANE_PRBS_PAT` (R428): A PSET of prbs.pat restarts the PRBS generator and checker in mode 2. -/
  | lanePrbsPat (t : Nat) (cls : Nat) (k : Nat) (v : Nat)
  /-- `CHAIN_FRAME_RX` (R432): A Chain frame is received and its slots are taken if its CRC is good. -/
  | chainFrameRx (t : Nat) (k : Nat) (frame : List Byte)
  /-- `CHAIN_TRIGGER_RX` (R434): A trigger message is delivered to the local units and forwarded within the hop limit. -/
  | chainTriggerRx (t : Nat) (k : Nat) (msg : List Byte)
  /-- `SETTER_MIRROR_RX` (R436): A Setter record message is received on the Pendant lane for the mirror. -/
  | setterMirrorRx (t : Nat) (record : List Byte)
  /-- `PROBE_EPOCH_RX` (R437): A probe epoch message is checked against the local time, and EPOCH_MIS is set on a mismatch. -/
  | probeEpochRx (t : Nat) (msg : List Byte)
  /-- `ETH_LINK_UP` (R430): An Ethernet port aligns and completes negotiation, so LINK rises. -/
  | ethLinkUp (t : Nat) (port : Nat) (speed : Nat) (fullDuplex : Bool)
  /-- `ETH_LINK_DOWN` (R430): An Ethernet port loses LINK and raises EV_LANEDOWN. -/
  | ethLinkDown (t : Nat) (port : Nat)
  /-- `ETH_FRAME_RX` (R431): A received Ethernet frame is filtered and served by ARP, ICMP or UDP, or discarded. -/
  | ethFrameRx (t : Nat) (port : Nat) (frame : EthFrame)
  /-- `ARP_ENTRY_EXPIRY` (R431): An ARP cache entry reaches its 60 s life. -/
  | arpEntryExpiry (t : Nat) (port : Nat) (ip : Nat)
  /-- `PTP_SYNC_RX` (R443): A Sync of a port in UNCALIBRATED or SLAVE gives an offset that the servo applies through INC or a step. -/
  | ptpSyncRx (t : Nat) (port : Nat) (offset : Int)
  /-- `PTP_ANNOUNCE_RX` (R442): An Announce is taken into master selection and the port states. -/
  | ptpAnnounceRx (t : Nat) (port : Nat) (ann : Announce)
  /-- `PTP_DELAY_RX` (R442): A delay or peer-delay message completes a path delay measurement. -/
  | ptpDelayRx (t : Nat) (port : Nat) (delay : Nat)
  /-- `PTP_MSG_SEND` (R442): A 1588 message interval expires and the engine sends its message. -/
  | ptpMsgSend (t : Nat) (port : Nat) (msgType : Nat)
  /-- `PTP_TX_TIMESTAMP` (R448): An event message leaves the lane and its time stamp is written to its queue entry. -/
  | ptpTxTimestamp (t : Nat) (j : Nat) (err : Int)
  /-- `TSQ_ENTRY_TIMEOUT` (R449): A written queue entry unread for 100 ms is freed and counted in TSQ_OVF. -/
  | tsqEntryTimeout (t : Nat) (j : Nat)
  /-- `CLOCK_STEP` (R443): At the next epoch tick, the local clock steps, T is reloaded and the carriers restart. -/
  | clockStep (t : Nat)
  /-- `TIME_SET` (R443): A PSET of time.set replaces SEC at the next epoch tick. -/
  | timeSet (t : Nat) (cls : Nat) (sec : Nat)
  /-- `TIME_HOLDOVER_END` (R444): time.holdover expires, so HOLDOVER clears and VALID may fall. -/
  | timeHoldoverEnd (t : Nat)
  /-- `TPULSE_EDGE` (R445): A scheduled instant of a timed output starts or ends its pulse. -/
  | tpulseEdge (t : Nat) (k : Nat) (start : Bool)
  /-- `TCAP_EDGE` (R447): A selected edge on TCAPk is captured as network time, setting NEW or OVR. -/
  | tcapEdge (t : Nat) (k : Nat) (falling : Bool)
  /-- `TIME_NS_READ` (R441): A read of TIME_NS latches the seconds of network time. -/
  | timeNsRead (t : Nat)
  /-- `TCAP_NS_READ` (R441): A read of TCAP_NS latches the capture seconds and clears NEW. -/
  | tcapNsRead (t : Nat)
  /-- `PND_HELLO_RX` (R455): A Pendant hello message brings the peer's digest, MIRVER and address, and may form the pair. -/
  | pndHelloRx (t : Nat) (digest : Nat) (mirver : Nat) (addr : Nat) (offer : Nat)
  /-- `PND_SWAP_MSG_RX` (R468): A swap message names the tick at which the roles are to be exchanged. -/
  | pndSwapMsgRx (t : Nat) (ms : Nat)
  /-- `PND_UNPAIR_MSG_RX` (R457): An unpair message from the peer ends the pair. -/
  | pndUnpairMsgRx (t : Nat)
  /-- `PND_XCAL_MSG_RX` (R469): A transfer window message sets up a calibration transfer. -/
  | pndXcalMsgRx (t : Nat) (sel : Nat) (sec : Nat)
  /-- `MIRROR_CASCADE_STATE_RX` (R462): A cascade state record replaces the standby's states when ORIGIN_LO matches. -/
  | mirrorCascadeStateRx (t : Nat) (c : Nat) (seq : Nat) (originLo : Nat) (states : List IntPair)
  /-- `MIRROR_LEG_RX` (R462): A leg record sets the standby's service state and compare values. -/
  | mirrorLegRx (t : Nat) (n : Nat) (insvc : Bool) (peak : Bool) (h : Nat)
  /-- `MIRROR_EPOCH_RX` (R462): An epoch record replaces the standby's epoch state. -/
  | mirrorEpochRx (t : Nat) (rec : EpochRecord)
  /-- `MIRROR_CARAT_RX` (R462): A Carat record replaces the standby's registers. -/
  | mirrorCaratRx (t : Nat) (m : Nat) (regs : List NatPair)
  /-- `MIRROR_PARAM_WRITE_RX` (R456): A parameter write record applies a mirrored PSET or immediate write on the standby. -/
  | mirrorParamWriteRx (t : Nat) (kind : Nat) (payload : List Byte)
  /-- `MIRROR_COMMIT_RX` (R456): A commit record lands the mirrored commit on the standby at its landing tick. -/
  | mirrorCommitRx (t : Nat) (groups : Nat) (landMs : Nat)
  /-- `MIRROR_SNAPSHOT_CHUNK_RX` (R456): A snapshot chunk is applied to the standby's configuration and Locket. -/
  | mirrorSnapshotChunkRx (t : Nat) (chunk : SnapChunk)
  /-- `MIRROR_XFER_STATS_RX` (R469): Transfer statistics arrive, and the standby sets its offset, gain or phase correction. -/
  | mirrorXferStatsRx (t : Nat) (sel : Nat) (mean : Rat) (rms : Rat)
  /-- `PND_HEARTBEAT_TIMEOUT` (R464): No good frame and no PND_HBI edge have arrived for 8 µs, so the peer is lost. -/
  | pndHeartbeatTimeout (t : Nat)
  /-- `PENDANT_TAKEOVER` (R465): At the takeover tick, the standby enters the mirrored state with cause 0x30 and enables its outputs. -/
  | pendantTakeover (t : Nat)
  /-- `ROLE_SWAP_TICK` (R468): At the swap tick, the drive passes from one device to the other. -/
  | roleSwapTick (t : Nat)
  /-- `PND_XCAL_GO` (R469): A PSET of pnd.xcal.go on a SYNCED standby requests a calibration transfer. -/
  | pndXcalGo (t : Nat) (cls : Nat) (v : Nat)
  /-- `PND_XCAL_WINDOW_START` (R469): At the next whole second, both devices start averaging for a transfer. -/
  | pndXcalWindowStart (t : Nat)
  /-- `PND_XCAL_DONE` (R469): The averaging window ends, and the transfer result is set. -/
  | pndXcalDone (t : Nat) (phi : Int)
  /-- `GD_CLOSE_HOLD_EXPIRY` (R489): The closing conditions have held for gd.close.hold, so GDL turns on and CLOSING is set. -/
  | gdCloseHoldExpiry (t : Nat)
  /-- `GD_READBACK_STEP` (R489): gd.rb.t into the closing sequence, the readbacks are checked and GDH turns on. -/
  | gdReadbackStep (t : Nat) (ghRb : Bool) (glRb : Bool)
  /-- `GD_PULLIN_CONFIRM` (R489): GD_ISNS exceeds gd.i.hold, so CLOSED is set. -/
  | gdPullinConfirm (t : Nat) (mv : Nat)
  /-- `GD_CLOSE_TIMEOUT` (R495): Pull-in is not confirmed within gd.close.t: FAULT with FCODE 5. -/
  | gdCloseTimeout (t : Nat)
  /-- `GD_OPEN_CONFIRMED` (R490): Both readbacks read off and the coil current is absent, so CLOSED clears and a pending transition to READY completes. -/
  | gdOpenConfirmed (t : Nat) (mv : Nat)
  /-- `GD_OPEN_TIMEOUT` (R495): The opening is not confirmed within gd.open.t: FAULT with FCODE 6 and a demand. -/
  | gdOpenTimeout (t : Nat)
  /-- `GDALM_TIMEOUT` (R495): A readback or the coil current persists beyond gd.open.t after both drives went off, so GDALM is asserted. -/
  | gdalmTimeout (t : Nat) (ghRb : Bool) (glRb : Bool) (mv : Nat)
  /-- `GD_OFFTEST_START` (R493): Every 60 s while CLOSED, the next side's drive turns off for an off-test. -/
  | gdOfftestStart (t : Nat)
  /-- `GD_OFFTEST_READBACK` (R493): The tested readback reads off, so the drive turns on again. -/
  | gdOfftestReadback (t : Nat) (mv : Nat)
  /-- `GD_OFFTEST_TIMEOUT` (R493): 300 µs into an off-test, the drive turns on, and a missing readback fails the test. -/
  | gdOfftestTimeout (t : Nat) (rb : Bool) (mv : Nat)
  /-- `GD_OFFTEST_END` (R493): gd.rb.t after the drive returns, the readback is checked and the test counts, or FAULT is set with FCODE 7. -/
  | gdOfftestEnd (t : Nat) (rb : Bool) (mv : Nat)
  /-- `GD_READBACK_MISMATCH` (R495): A readback differs from its drive beyond gd.rb.t: FAULT with FCODE 1 or 2. -/
  | gdReadbackMismatch (t : Nat) (low : Bool) (since : Nat)
  /-- `GD_COIL_CURRENT_FAULT` (R495): GD_ISNS contradicts the channel state: FAULT with FCODE 3 or 4. -/
  | gdCoilCurrentFault (t : Nat) (mv : Nat)
  /-- `GD_OSC_FAULT` (R495): The copies disagree or the safety oscillator departs from the reference: FAULT with FCODE 8 or 9. -/
  | gdOscFault (t : Nat) (osc : Bool)
  /-- `GD_REFRESH_MISS` (R491): Two consecutive epoch refreshes are missing while the watch is armed: a demand with FCODE 10. -/
  | gdRefreshMiss (t : Nat)
  /-- `GD_FAULT_WRITE` (R496): Writing 1 to GD_STAT.FAULT in READY starts the clearing test. -/
  | gdFaultWrite (t : Nat)
  /-- `GD_CLEAR_TEST_END` (R496): The clearing test ends, which clears FAULT or sets FCODE 11. -/
  | gdClearTestEnd (t : Nat) (ghUs : Nat) (glUs : Nat) (mv : Nat)
  /-- `ESTOP_ASSERT` (R492): ESTOP stays low for gd.estop.filt: the legs are held off, a demand is raised, EV_ESTOP is raised and the device enters TRIP with cause 0x24. -/
  | estopAssert (t : Nat) (since : Nat)
  /-- `ESTOP_RELEASE` (R492): ESTOP stays high for gd.estop.filt, so the filtered ESTOP releases. -/
  | estopRelease (t : Nat) (since : Nat)
  /-- `PWM_PLL_LOCK_LOSS` (R517): The PWM PLL loses lock: all gates go off, PLL_HOLD is set and the device enters TRIP with cause 0x26. -/
  | pwmPllLockLoss (t : Nat)
  /-- `SYS_C_LOCK_LOSS` (R517): SYS PLL channel C loses lock: the domains move to the reference, every cascade halts and the device enters TRIP with cause 0x27. -/
  | sysCLockLoss (t : Nat)
  /-- `SYS_M_LOCK_LOSS` (R517): SYS PLL channel M loses lock, so the Casket goes down. -/
  | sysMLockLoss (t : Nat)
  /-- `ADC_PLL_LOCK_LOSS` (R517): The ADC PLL loses lock: every result carries VALID = 0 and the rotation step is abandoned. -/
  | adcPllLockLoss (t : Nat)
  /-- `LANE_A_LOCK_LOSS` (R517): LANE PLL channel A loses lock: the Ethernet ports go down and 1588 moves to holdover. -/
  | laneALockLoss (t : Nat)
  /-- `LANE_B_LOCK_LOSS` (R517): LANE PLL channel B loses lock, and the Chain links go down. -/
  | laneBLockLoss (t : Nat)
  /-- `PLL_RELOCK` (R518): A loop relocks, and its domain resumes as its rules state. -/
  | pllRelock (t : Nat) (l : Nat) (band : Nat) (temp : Int)
  /-- `PLL_RELOCK_RETRY` (R518): A failed relock attempt is followed by another stored-result try or a full search every 10 ms. -/
  | pllRelockRetry (t : Nat) (l : Nat)
  /-- `REF_MISSING` (R509): The 25 MHz reference is declared missing: the SYS domains move to the fallback oscillator and cause 0x26 is reported. -/
  | refMissing (t : Nat)
  /-- `REF_RETURN` (R509): The reference returns and REF_OK is set. -/
  | refReturn (t : Nat)
  /-- `BAND_REFRESH` (R511): In DOZE, the die temperature has moved 10 °C, so the stored band results are refreshed. -/
  | bandRefresh (t : Nat) (temp : Int) (band : Nat)
  /-- `RTC_NETWORK_SET` (R504): At each whole second of valid network time, the RTC is set and its trim is derived. -/
  | rtcNetworkSet (t : Nat)
  /-- `ADC_SYNC_EDGE` (R515): A rising edge on ADC_SYNC checks, and if need be resets, the sampling phase. -/
  | adcSyncEdge (t : Nat)
  /-- `HOLD_GAUGE_UPDATE` (R521): Every 10 µs, the hold-up gauge is updated and SAVE_OK and GASP_OK are judged. -/
  | holdGaugeUpdate (t : Nat) (v : Nat)
  /-- `EARLY_WARNING` (R523): A supply-loss early warning from PFAIL_N, VHOLD or a rail monitor enters save mode with cause 0x40. -/
  | earlyWarning (t : Nat) (cause : WarnSource)
  /-- `SAVE_COMPLETE` (R524): The save bursts end, the last-state record is written and the device enters CLASP. -/
  | saveComplete (t : Nat) (bursts : Nat) (jlost : Nat)
  /-- `THERMAL_SAMPLE` (R580): Every 1 ms, T_die is read, EV_THERM is raised at its thresholds, and at 118 °C every leg leaves service. -/
  | thermalSample (t : Nat) (temps : List Int)
  /-- `PND_HBI_EDGE` (R472): An edge arrives on PND_HBI, so HB_OK returns to 1 and the heartbeat watch of R464 restarts. -/
  | pndHbiEdge (t : Nat)
  /-- `HEARTBEAT_PATH_SILENCE` (R464): Only one of the two heartbeat paths, PND_HBI edges or good Pendant frames, has been silent for 8 µs, so HB_OK or the frame watch falls and the standby raises EV_PNDLOST without taking over. -/
  | heartbeatPathSilence (t : Nat) (wire : Bool)
  /-- `PND_HBO_TOGGLE` (R454): Every 400 ticks, while the core supply is good and the PWM PLL is locked, PND_HBO changes level. -/
  | pndHboToggle (t : Nat)
  /-- `PRBS_CHECKER_LOCK` (R428): The PRBS checker of a lane in mode 2 locks after 64 consecutive error-free bits, or relocks after 32 errors within 64 bits. -/
  | prbsCheckerLock (t : Nat) (k : Nat) (locked : Bool)
  /-- `PRBS_BIT_ERROR` (R428): A locked PRBS checker finds a bit error, counts it in prbs.err and raises EV_PRBSERR at most once per lane per epoch. -/
  | prbsBitError (t : Nat) (k : Nat)
  /-- `CLASP_SUPPLY_CHANGE` (R502): VHOLD becomes able or unable to supply the Clasp, or VBAT appears or goes, so the Clasp changes its source without interruption and updates SRC, VBAT_OK and VHOLD_OK. -/
  | claspSupplyChange (t : Nat) (vbatOk : Bool) (vholdOk : Bool)
  /-- `PTP_ANNOUNCE_TIMEOUT` (R444): A port in UNCALIBRATED or SLAVE stops receiving Announce messages from its master and leaves those states, so that LOCK falls and HOLDOVER begins when no port remains in them. -/
  | ptpAnnounceTimeout (t : Nat) (port : Nat)
  deriving DecidableEq, Repr

end Sys2Proof
end

