-- ==== Sys2Proof/WellFormed.lean ====
section
/-!
DEFINITION. When the operands of a command name units that the device has: each index in its range, each session class
one of the four of R482.
-/
namespace Sys2Proof

/-- How many units the management view holds of each kind (R17): legs, windows, Facets, strings, tiers. -/
def ViewUnit.count : ViewUnit → Nat
  | .leg => 48
  | .window => 56
  | .facet => 13
  | .string => 16
  | .tier => 3

/-- A frame that a CAN bus can carry (ISO 11898-1): an identifier of 11 or 29 bits, at most 8 data bytes, or 64 in an FD
frame, which is never a remote frame. -/
def CanFrame.wf (f : CanFrame) : Bool :=
  decide (f.id < 2 ^ (if f.xtd then 29 else 11)) && decide (f.data.length ≤ (if f.fdf then 64 else 8)) && !(f.fdf && f.rtr)

/-- The operands of a command are in their ranges. -/
def Instr.wf : Instr → Bool
  | .powerApplied _ _ _ => true
  | .coldStartComplete _ => true
  | .claspSupplyLost _ => true
  | .wakeInput _ _ => true
  | .rtcAlarm _ => true
  | .mainSupplyGood _ _ => true
  | .pwrWaitTimeout _ => true
  | .bootComplete _ _ => true
  | .rstNAssert _ _ => true
  | .rstNRelease _ _ => true
  | .svpWatchdogExpiry _ _ => true
  | .lockstepMismatch _ => true
  | .lockstepReset _ _ => true
  | .testEnAssert _ => true
  | .reqClasp _ cls => decide (cls < 4)
  | .reqReady _ cls => decide (cls < 4)
  | .reqDoze _ cls => decide (cls < 4)
  | .reqSync _ cls => decide (cls < 4)
  | .reqRun _ cls => decide (cls < 4)
  | .reqForm _ cls => decide (cls < 4)
  | .reqService _ cls => decide (cls < 4)
  | .dozeEntryComplete _ => true
  | .dozeWakeCheckDone _ _ _ _ => true
  | .runToSyncComplete _ => true
  | .mgmtViewReconcile _ unit idx => decide (idx < unit.count)
  | .scanTimerFire _ k => decide (k < 8)
  | .scanStart _ f => decide (f < 13)
  | .ainResultDelivered _ f p _ _ _ => decide (f < 13) && decide (p < 16)
  | .spareTakeover _ f => decide (f < 13)
  | .rotDwellStart _ => true
  | .facetSelfcalDone _ f _ => decide (f < 13)
  | .rotOverlapEnd _ _ => true
  | .facetFltWrite _ _ => true
  | .spareFltWrite _ => true
  | .calzero _ slot => decide (slot < 16)
  | .calzeroDone _ => true
  | .calfullDc _ slot => decide (slot < 16)
  | .calfullAc _ slot => decide (slot < 16)
  | .calfullDone _ => true
  | .cascadeEvalStart _ c _ => decide (c < 128)
  | .cascadeEvalDone _ c _ => decide (c < 128)
  | .tracePostComplete _ tap => decide (tap < 16)
  | .traceFire _ cls tap => decide (cls < 4) && decide (tap < 16)
  | .mirrorCopyDone _ => true
  | .filStageDiscard _ cls => decide (cls < 4)
  | .spFixedWrite _ cls c _ => decide (cls < 4) && decide (c < 128)
  | .pinSpEdge _ q _ _ => decide (q < 4)
  | .setpointTimeout _ c => decide (c < 128)
  | .filigreeParityError _ c _ => decide (c < 128)
  | .replayEnd _ _ => true
  | .filUncWrite _ => true
  | .filCheckDone _ _ => true
  | .bankScrub _ c _ => decide (c < 128)
  | .carrierPeriodStart _ n => decide (n < 48)
  | .loadPoint _ n _ => decide (n < 48)
  | .sEdge _ n _ => decide (n < 48)
  | .deadTimeExpiry _ n _ => decide (n < 48)
  | .shootLimitTrip _ n => decide (n < 48)
  | .bootRefreshEnforce _ n => decide (n < 48)
  | .legServiceEntry _ n => decide (n < 48)
  | .legServiceExit _ n => decide (n < 48)
  | .duvBlankEnd _ n => decide (n < 48)
  | .dfltAssert _ n => decide (n < 48)
  | .dfltRelease _ n => decide (n < 48)
  | .duvAssert _ n => decide (n < 48)
  | .duvRelease _ n => decide (n < 48)
  | .bridgeCompanionExit _ n => decide (n < 48)
  | .gateClear _ cls n => decide (cls < 4) && decide (n < 48)
  | .outForce _ cls n _ => decide (cls < 4) && decide (n < 48)
  | .drvClearGo _ cls g => decide (cls < 4) && decide (g < 6)
  | .drvClearLow _ g => decide (g < 6)
  | .drvClearHigh _ g => decide (g < 6)
  | .drvClearDone _ g => decide (g < 6)
  | .syncOutPulseEnd _ => true
  | .windowAssert _ w _ _ => decide (w < 56)
  | .cutLimitTrip _ w => decide (w < 56)
  | .windowRelease _ w _ _ => decide (w < 56)
  | .winClear _ cls w => decide (cls < 4) && decide (w < 56)
  | .winTestUpper _ cls w => decide (cls < 4) && decide (w < 56)
  | .winTestLower _ cls w => decide (cls < 4) && decide (w < 56)
  | .winTestReleaseCheck _ w _ => decide (w < 56)
  | .winTestAssertDeadline _ w _ => decide (w < 56)
  | .winTestSourceReturn _ w => decide (w < 56)
  | .winTestEnd _ w _ => decide (w < 56)
  | .epochTick _ => true
  | .gsSetpointWrite _ cls _ _ => decide (cls < 4)
  | .dispatchPointStale _ => true
  | .formExitHold _ => true
  | .rideExitHold _ => true
  | .rtTimerRearm _ _ => true
  | .jumpHoldEnd _ => true
  | .charmSuspClear _ => true
  | .charmBlankEnd _ => true
  | .charmNotimeExpiry _ => true
  | .charmFormTmax _ => true
  | .charmRecHold _ => true
  | .pvStartHold _ q => decide (q < 16)
  | .pvStopHold _ q => decide (q < 16)
  | .poIntervalEnd _ q => decide (q < 16)
  | .shadeHoldExpiry _ q _ => decide (q < 16)
  | .sweepScheduled _ q => decide (q < 16)
  | .sweepAfterStart _ q => decide (q < 16)
  | .pvSweepGo _ cls q => decide (cls < 4) && decide (q < 16)
  | .pvPMaxWrite _ cls q _ => decide (cls < 4) && decide (q < 16)
  | .sweepStart _ q => decide (q < 16)
  | .sweepDeferExpiry _ q => decide (q < 16)
  | .sweepRisingStart _ => true
  | .sweepRisingEnd _ => true
  | .sweepResume _ => true
  | .sweepRetry _ q => decide (q < 16)
  | .placementCycleStart _ => true
  | .intentLanding _ => true
  | .unplannedChange _ => true
  | .setterRotation _ => true
  | .stressJournal _ => true
  | .rackStaleHoldExpiry _ str => decide (str < 16)
  | .tierAgeExpiry _ _ => true
  | .caratSelWrite _ _ => true
  | .caratLoRead _ => true
  | .caratPeriodicSave _ => true
  | .caratSaveGo _ cls => decide (cls < 4)
  | .caratResidualWrite _ => true
  | .caratPhCalGo _ cls _ => decide (cls < 4)
  | .caratPhCalDone _ _ => true
  | .loupeArm _ cls u => decide (cls < 4) && decide (u < 4)
  | .loupeFire _ cls u => decide (cls < 4) && decide (u < 4)
  | .loupeStop _ cls u => decide (cls < 4) && decide (u < 4)
  | .loupePreFilled _ u => decide (u < 4)
  | .loupePostComplete _ u => decide (u < 4)
  | .loupeStoreDone _ u _ => decide (u < 4)
  | .loupeRearmHold _ u => decide (u < 4)
  | .trigInEdge _ k _ => decide (k < 4)
  | .casketScrub _ _ => true
  | .eventArchiveCopy _ => true
  | .mbxDoorWrite _ v => decide (v < 2 ^ 16)
  | .mbxCqHeadWrite _ _ => true
  | .completionPost _ => true
  | .evPendWrite _ k v => decide (k < 4) && decide (v < 2 ^ 32)
  | .qspiFrame _ _ _ _ _ => true
  | .udpCommand _ _ _ => true
  | .udpRegRead _ _ _ => true
  | .udpRegWrite _ _ _ => true
  | .udpEventRenotify _ => true
  | .registerClearOnRead _ _ _ => true
  | .registerWrite _ _ _ => true
  | .pget _ slot => decide (slot < 16)
  | .pgetShadow _ slot => decide (slot < 16)
  | .pset _ slot => decide (slot < 16)
  | .stageDiscard _ cls _ => decide (cls < 4)
  | .hostPointWrite _ cls k _ => decide (cls < 4) && decide (k < 65536)
  | .commit _ slot => decide (slot < 16)
  | .commitCheckOnly _ slot => decide (slot < 16)
  | .commitChecksDone _ => true
  | .commitLanding _ => true
  | .snapshotWriteDone _ _ => true
  | .snapshotRetry _ => true
  | .evread _ slot => decide (slot < 16)
  | .evreadArchive _ slot => decide (slot < 16)
  | .ptread _ slot => decide (slot < 16)
  | .reclist _ slot => decide (slot < 16)
  | .recread _ slot _ => decide (slot < 16)
  | .recreadRelease _ slot _ => decide (slot < 16)
  | .fwstageChunk _ slot => decide (slot < 16)
  | .fwstageLast _ slot => decide (slot < 16)
  | .fwstageCheckDone _ => true
  | .fwactHandover _ slot => decide (slot < 16)
  | .fwactLive _ slot => decide (slot < 16)
  | .fwactNextReset _ slot => decide (slot < 16)
  | .fwactPauseStart _ => true
  | .fwactPauseEnd _ => true
  | .attest _ slot => decide (slot < 16)
  | .attestDone _ => true
  | .sessionOpen _ slot => decide (slot < 16)
  | .sessionClose _ slot => decide (slot < 16)
  | .sessionIdleTimeout _ => true
  | .authLockoutEnd _ => true
  | .legsvcOut _ slot => decide (slot < 16)
  | .legsvcOutNow _ slot => decide (slot < 16)
  | .legsvcIn _ slot => decide (slot < 16)
  | .pairUnpair _ slot => decide (slot < 16)
  | .pairActive _ slot => decide (slot < 16)
  | .pairStandby _ slot => decide (slot < 16)
  | .pairSwap _ slot => decide (slot < 16)
  | .pairTimeout _ => true
  | .canFrameRx _ p frame => decide (p < 12) && frame.wf
  | .partnerFrameProcess _ p => decide (p < 12)
  | .partnerDatagramRx _ port _ _ => decide (port < 2)
  | .partnerStale _ e => decide (e < 4096)
  | .partnerTxPeriod _ e => decide (e < 4096)
  | .partnerTxOnchange _ e _ => decide (e < 4096)
  | .canTxDone _ p _ => decide (p < 12)
  | .canBusError _ p _ _ _ => decide (p < 12)
  | .canBoffWaitExpiry _ p => decide (p < 12)
  | .canRecover _ cls p => decide (cls < 4) && decide (p < 12)
  | .canRecoveryDone _ p => decide (p < 12)
  | .lanePrbsPat _ cls k _ => decide (cls < 4) && decide (k < 8)
  | .chainFrameRx _ k _ => decide (k < 8)
  | .chainTriggerRx _ k _ => decide (k < 8)
  | .setterMirrorRx _ _ => true
  | .probeEpochRx _ _ => true
  | .ethLinkUp _ port speed _ => decide (port < 2) && decide ((speed = 10 ∨ speed = 100 ∨ speed = 1000))
  | .ethLinkDown _ port => decide (port < 2)
  | .ethFrameRx _ port _ => decide (port < 2)
  | .arpEntryExpiry _ port _ => decide (port < 2)
  | .ptpSyncRx _ port _ => decide (port < 2)
  | .ptpAnnounceRx _ port _ => decide (port < 2)
  | .ptpDelayRx _ port _ => decide (port < 2)
  | .ptpMsgSend _ port _ => decide (port < 2)
  | .ptpTxTimestamp _ j err => decide (j < 16) && decide (-8 ≤ err) && decide (err ≤ 8)
  | .tsqEntryTimeout _ j => decide (j < 16)
  | .clockStep _ => true
  | .timeSet _ cls _ => decide (cls < 4)
  | .timeHoldoverEnd _ => true
  | .tpulseEdge _ k _ => decide (k < 8)
  | .tcapEdge _ k _ => decide (k < 8)
  | .timeNsRead _ => true
  | .tcapNsRead _ => true
  | .pndHelloRx _ _ _ _ _ => true
  | .pndSwapMsgRx _ _ => true
  | .pndUnpairMsgRx _ => true
  | .pndXcalMsgRx _ _ _ => true
  | .mirrorCascadeStateRx _ c _ _ _ => decide (c < 128)
  | .mirrorLegRx _ n _ _ _ => decide (n < 48)
  | .mirrorEpochRx _ _ => true
  | .mirrorCaratRx _ m _ => decide (m < 33)
  | .mirrorParamWriteRx _ _ _ => true
  | .mirrorCommitRx _ _ _ => true
  | .mirrorSnapshotChunkRx _ _ => true
  | .mirrorXferStatsRx _ _ _ _ => true
  | .pndHeartbeatTimeout _ => true
  | .pendantTakeover _ => true
  | .roleSwapTick _ => true
  | .pndXcalGo _ cls _ => decide (cls < 4)
  | .pndXcalWindowStart _ => true
  | .pndXcalDone _ _ => true
  | .gdCloseHoldExpiry _ => true
  | .gdReadbackStep _ _ _ => true
  | .gdPullinConfirm _ _ => true
  | .gdCloseTimeout _ => true
  | .gdOpenConfirmed _ _ => true
  | .gdOpenTimeout _ => true
  | .gdalmTimeout _ _ _ _ => true
  | .gdOfftestStart _ => true
  | .gdOfftestReadback _ _ => true
  | .gdOfftestTimeout _ _ _ => true
  | .gdOfftestEnd _ _ _ => true
  | .gdReadbackMismatch _ _ _ => true
  | .gdCoilCurrentFault _ _ => true
  | .gdOscFault _ _ => true
  | .gdRefreshMiss _ => true
  | .gdFaultWrite _ => true
  | .gdClearTestEnd _ _ _ _ => true
  | .estopAssert _ _ => true
  | .estopRelease _ _ => true
  | .pwmPllLockLoss _ => true
  | .sysCLockLoss _ => true
  | .sysMLockLoss _ => true
  | .adcPllLockLoss _ => true
  | .laneALockLoss _ => true
  | .laneBLockLoss _ => true
  | .pllRelock _ l _ _ => decide (l < 6)
  | .pllRelockRetry _ l => decide (l < 6)
  | .refMissing _ => true
  | .refReturn _ => true
  | .bandRefresh _ _ _ => true
  | .rtcNetworkSet _ => true
  | .adcSyncEdge _ => true
  | .holdGaugeUpdate _ _ => true
  | .earlyWarning _ _ => true
  | .saveComplete _ _ _ => true
  | .thermalSample _ _ => true
  | .pndHbiEdge _ => true
  | .heartbeatPathSilence _ _ => true
  | .pndHboToggle _ => true
  | .prbsCheckerLock _ k _ => decide (k < 8)
  | .prbsBitError _ k => decide (k < 8)
  | .claspSupplyChange _ _ _ => true
  | .ptpAnnounceTimeout _ port => decide (port < 2)

end Sys2Proof
end

