-- ==== Sys2Proof/Decode.lean ====
section
/-!
DEFINITION. The command that a word spells by the bits of the opcode table.
-/
namespace Sys2Proof

/-- No row of the opcode table gives its command any bits, so no word spells a command. Commands reach the block as
accesses, frames, edges and elapsed times, and the opcodes of the mailbox (R358) are read from the slots in
`Sys2Proof.Machine.cmdAt`. Log entry 7 (DESIGN CHOICE). -/
def decodeTableWord (_nbits _w : Nat) : Option Instr := none

end Sys2Proof
end

