-- ==== Sys2Proof/Config.lean ====
section
/-!
DEFINITION. What an implementation fixes and the values that the spec leaves open. Each constant has no body, so a
statement about it holds for every value.
-/
namespace Sys2Proof.Config

/-- The value the spec leaves open, for the k-th reading of such a value, as a number. Log entry 8 (DESIGN CHOICE). -/
opaque freeNat : Nat → Nat

/-- The same as a rational number. Log entry 8 (DESIGN CHOICE). -/
opaque freeRat : Nat → Rat

/-- The same as a flag. Log entry 8 (DESIGN CHOICE). -/
opaque freeBool : Nat → Bool

/-- The square root of a rational, as the SVP computes it. Log entry 9 (DESIGN CHOICE). -/
opaque sqrt : Rat → Rat

/-- Sine and cosine of an angle in degrees, as the SVP computes them. Log entry 9 (DESIGN CHOICE). -/
opaque sinDeg : Rat → Rat
/-- Log entry 9 (DESIGN CHOICE). -/
opaque cosDeg : Rat → Rat

/-- The angle in degrees of the vector (x, y), as the SVP computes it: first y, then x. Log entry 9 (DESIGN CHOICE). -/
opaque atan2Deg : Rat → Rat → Rat

/-- The tangent of an angle in radians. Log entry 9 (DESIGN CHOICE). -/
opaque tan : Rat → Rat

/-- The exponential function. Log entry 9 (DESIGN CHOICE). -/
opaque exp : Rat → Rat

/-- The circle constant, as the SVP holds it. Log entry 9 (DESIGN CHOICE). -/
opaque pi : Rat

/-- The per-leg current in fabric units for 1 pu of block current, by which the virtual admittance is scaled, while no
bridge is available or no leg current is measured: R195 gives it for the m available bridges.
Log entry 161 (DEDUCED). -/
opaque idleShare : Rat

/-- Byte k of the identity digest of the device's Hallmark (R337, R474). Log entry 10 (DESIGN CHOICE). -/
opaque identity : Nat → Nat

/-- What the threshold of a comparator is off its nominal level, in µV, by window, upper or lower, and code; R149 bounds it.
Log entry 9 (DESIGN CHOICE). -/
opaque cmpError : Nat → Bool → Int → Rat

/-- The 1588 clock identity of the device (R442). Log entry 10 (DESIGN CHOICE). -/
opaque clockId : Nat

/-- The fixed input delay of a capture input, in ns (R447). Log entry 10 (DESIGN CHOICE). -/
opaque captureDelay : Nat

/-- The MAC address of Ethernet port i, set at manufacture (R431). Log entry 10 (DESIGN CHOICE). -/
opaque mac : Nat → Nat

/-- The mirror format version of the running firmware (R459, R460). Log entry 10 (DESIGN CHOICE). -/
opaque mirver : Nat

/-- The first 16 bytes of the SHA-256 digest of a mirrored configuration: of its parameter values and of the coefficient
bank in force (R461). Which bytes are digested is not stated. Log entry 11 (DESIGN CHOICE). -/
opaque cfgDigest : Tab Nat → Tab Nat → Nat

/-- The SHA-256 digest that the header of a snapshot carries, as a number of 32 bytes, by sys.snap.seq, parameter values
and coefficient bank (R387). The layout of a snapshot is not stated. Log entry 11 (DESIGN CHOICE). -/
opaque snapDigest : Nat → Tab Nat → Tab Nat → Nat

/-- The store that the board fits: odd 16 GiB, even 8 GiB raw (R340). Log entry 11 (DESIGN CHOICE). -/
opaque casketFit : Nat

/-- The firmware release that the device carries from manufacture (R477). Log entry 10 (DESIGN CHOICE). -/
opaque fwRelease : Nat

/-- The SHA-256 digest of the image that slot `s` carries from manufacture, as a number of 32 bytes (R480).
Log entry 10 (DESIGN CHOICE). -/
opaque fwDigest : Nat → Nat

/-- The modulus of firmware signing key `k`, whose digest the on-die ROM holds (R478). Log entry 10 (DESIGN CHOICE). -/
opaque romKey : Nat → Nat

/-- The length of the certificate chain and its 4-byte words (R475). Log entry 10 (DESIGN CHOICE). -/
opaque certLen : Nat
/-- Log entry 10 (DESIGN CHOICE). -/
opaque certWord : Nat → Nat

/-- The signature of the identity key over a report, as a number of 384 bytes (R473, R480).
Log entry 10 (DESIGN CHOICE). -/
opaque sign : List Byte → Nat

end Sys2Proof.Config
end

