-- ==== Sys2Proof/Machine/Ops.lean ====
section
/-!
DEFINITION. The named operations over tables, bytes, bit fields and numbers that every meaning uses.
-/
namespace Sys2Proof.Machine

/-! ### Sparse tables -/

/-- What table `m` holds at key `k`, `d` where it lists nothing. -/
def tget {α : Type} (d : α) (m : Tab α) (k : Nat) : α :=
  match m with
  | [] => d
  | (a, v) :: r => if a = k then v else tget d r k

/-- Table `m` without key `k`. -/
def tdel {α : Type} (k : Nat) (m : Tab α) : Tab α := m.filter (fun e => e.1 ≠ k)

/-- Insert `(k, v)` before the first key above `k`. -/
def tins {α : Type} (k : Nat) (v : α) (m : Tab α) : Tab α :=
  match m with
  | [] => [(k, v)]
  | (a, w) :: r => if k < a then (k, v) :: (a, w) :: r else (a, w) :: tins k v r

/-- Write `v` at key `k`; a value equal to what an unlisted key reads as leaves no entry. -/
def tput {α : Type} [DecidableEq α] (d : α) (k : Nat) (v : α) (m : Tab α) : Tab α :=
  if v = d then tdel k m else tins k v (tdel k m)

/-- Change the value at key `k` by `f`. -/
def tmod {α : Type} [DecidableEq α] (d : α) (k : Nat) (f : α → α) (m : Tab α) : Tab α :=
  tput d k (f (tget d m k)) m

/-- The canonical form of a table whose unlisted keys read as `d`. -/
def tabWf {α : Type} (d : α) (m : Tab α) : Prop :=
  m.Pairwise (fun a b => a.1 < b.1) ∧ ∀ e ∈ m, e.2 ≠ d

/-! ### Bytes and bit fields -/

/-- Bits `[hi:lo]` of `n` (R5). -/
def bits (n hi lo : Nat) : Nat := n / 2 ^ lo % 2 ^ (hi + 1 - lo)

/-- Bit `k` of `n`. -/
def bit (n k : Nat) : Bool := n / 2 ^ k % 2 = 1

/-- A flag as a bit. -/
def b01 (b : Bool) : Nat := if b then 1 else 0

/-- Two's complement reading of the `w` low bits of `n`. -/
def toInt (w n : Nat) : Int :=
  let m := n % 2 ^ w
  if m < 2 ^ (w - 1) then (m : Int) else (m : Int) - (2 : Int) ^ w

/-- The `w`-bit two's complement code of `v`. -/
def ofInt (w : Nat) (v : Int) : Nat := (v % (2 : Int) ^ w).toNat

/-- `k` bytes of `n`, least significant first (R7). -/
def le (k n : Nat) : List Byte :=
  match k with
  | 0 => []
  | k + 1 => BitVec.ofNat 8 n :: le k (n / 256)

/-- The number that bytes spell, least significant first (R7). -/
def ofLe (bs : List Byte) : Nat :=
  match bs with
  | [] => 0
  | b :: r => b.toNat + 256 * ofLe r

/-- The number that bytes spell, most significant first (the order of the published standards, R7). -/
def ofBe (bs : List Byte) : Nat := bs.foldl (fun a b => a * 256 + b.toNat) 0

/-- `k` bytes of `n`, most significant first. -/
def be (k n : Nat) : List Byte := (le k n).reverse

/-- Bytes `[hi:lo]` of a byte string, 0 beyond its end. -/
def field (bs : List Byte) (hi lo : Nat) : Nat := ofLe ((bs.drop lo).take (hi + 1 - lo))

/-- A byte string padded with 0 to `n` bytes. -/
def pad (n : Nat) (bs : List Byte) : List Byte := bs.take n ++ List.replicate (n - bs.length) 0

/-- `n` bytes of the memory `m` from address `a` on. -/
def readMem (m : Tab Byte) (a n : Nat) : List Byte := (List.range n).map (fun i => tget 0 m (a + i))

/-- Store `bs` into `m` from address `a` on. -/
def writeMem (m : Tab Byte) (a : Nat) (bs : List Byte) : Tab Byte :=
  match bs with
  | [] => m
  | b :: r => writeMem (tput 0 a b m) (a + 1) r

/-- The indices of the bits of `n` below `w` that are set, ascending. -/
def setBits (w n : Nat) : List Nat := (List.range w).filter (bit n)

/-- `n` with bit `k` set. -/
def setBit (n k : Nat) : Nat := n ||| 2 ^ k

/-- `n` with bit `k` clear. -/
def clrBit (n k : Nat) : Nat := if bit n k then n - 2 ^ k else n

/-- The sum of `f k · 2^k` over a list of flags. -/
def maskOf (w : Nat) (f : Nat → Bool) : Nat :=
  (List.range w).foldl (fun a k => if f k then a + 2 ^ k else a) 0

/-! ### Numbers -/

/-- `x` held inside `[lo, hi]`. Log entry 130 (DESIGN CHOICE). -/
def clampI (lo hi x : Int) : Int := if x < lo then lo else if hi < x then hi else x

/-- `x` held inside `[lo, hi]`. -/
def clampR (lo hi x : Rat) : Rat := if x < lo then lo else if hi < x then hi else x

/-- The larger of two rationals. -/
def maxR (a b : Rat) : Rat := if a < b then b else a

/-- The smaller of two rationals. -/
def minR (a b : Rat) : Rat := if a < b then a else b

/-- The magnitude of a rational. -/
def absR (a : Rat) : Rat := if a < 0 then -a else a

/-- The magnitude of an integer, as an integer. -/
def absI (a : Int) : Int := if a < 0 then -a else a

/-- Round to the nearest integer, ties away from zero (R39, R69). -/
def roundAway (x : Rat) : Int := if x < 0 then -(-x + 1 / 2).floor else (x + 1 / 2).floor

/-- `n / 2^k` rounded to nearest, ties away from zero (R69). -/
def shiftRound (n : Int) (k : Nat) : Int :=
  if n < 0 then -((-n * 2 + 2 ^ k) / 2 ^ (k + 1)) else (n * 2 + 2 ^ k) / 2 ^ (k + 1)

/-- An increment that saturates at `m`. -/
def incSat (m n : Nat) : Nat := if n < m then n + 1 else n

/-- `2^k` for any integer `k`. -/
def pow2 (k : Int) : Rat := if k < 0 then 1 / (2 ^ (-k).toNat : Nat) else ((2 ^ k.toNat : Nat) : Rat)

/-- The value of an IEEE 754 binary32 code; NaN, infinities and subnormals have none (R376 refuses them). -/
def f32Value (n : Nat) : Option Rat :=
  let e := bits n 30 23
  let m := bits n 22 0
  let sg : Rat := if bit n 31 then -1 else 1
  if e = 255 then none
  else if e = 0 then (if m = 0 then some 0 else none)
  else some (sg * ((8388608 + m : Nat) : Rat) * pow2 ((e : Int) - 150))

/-- The value of a binary32 code that was accepted, 0 for the codes that R376 refuses. -/
def f32 (n : Nat) : Rat := (f32Value n).getD 0

/-- The exponent `e` with `2^e ≤ n / d < 2^(e+1)` for a positive fraction. -/
def log2Frac (n d : Nat) : Int :=
  let e : Int := (Nat.log2 n : Int) - (Nat.log2 d : Int)
  if (if e < 0 then n * 2 ^ (-e).toNat < d else n < d * 2 ^ e.toNat) then e - 1 else e

/-- The binary32 code nearest to `x`, ties to even as IEEE 754 rounds; too small a value gives 0, too large a
value the largest finite code. -/
def f32Code (x : Rat) : Nat :=
  if x = 0 then 0
  else
    let sg := if x < 0 then 2 ^ 31 else 0
    let a := absR x
    let e := log2Frac a.num.toNat a.den
    if e < -126 then sg
    else
      let m := a * pow2 (23 - e)
      let lo := m.floor
      let fr := m - lo
      let r : Int := if fr < 1 / 2 then lo else if 1 / 2 < fr then lo + 1 else if lo % 2 = 0 then lo else lo + 1
      let code : Int := (e + 126) * 8388608 + r
      if code ≥ 0x7F800000 then sg + 0x7F7FFFFF else sg + code.toNat

/-! ### CRC-32 of IEEE 802.3 -/

/-- One bit of the reflected CRC-32. -/
def crcBit (c : Nat) : Nat := if c % 2 = 1 then (c / 2) ^^^ 0xEDB88320 else c / 2

/-- One byte of the reflected CRC-32. -/
def crcByte (c : Nat) (b : Byte) : Nat :=
  crcBit (crcBit (crcBit (crcBit (crcBit (crcBit (crcBit (crcBit (c ^^^ b.toNat))))))))

/-- The CRC-32 of IEEE 802.3 over a byte string. -/
def crc32 (bs : List Byte) : Nat := (bs.foldl crcByte 0xFFFFFFFF) ^^^ 0xFFFFFFFF

end Sys2Proof.Machine
end

