-- ==== Sys2Proof/Machine/State.lean ====
section
/-!
DEFINITION. The state of the block as plain data: every register, buffer, counter, mode and pin that the spec gives
it, and the queue of the commands that wait.
-/
namespace Sys2Proof.Machine

/-- The ten operating states (R3). -/
inductive OpState where
  | off | clasp | doze | ready | sync | run | ride | form | trip | service
  deriving DecidableEq, Repr

/-- A change of state that the device has begun and not finished (R23, R26). -/
inductive Auto where
  /-- Nothing is under way. -/
  | none
  /-- A SYNC request from RUN ramps the power to 0 (R187). -/
  | runToSync
  /-- A READY request from SYNC waits for the disconnect channel to open (R490). -/
  | syncToReady
  /-- A DOZE request runs its entry steps (R552). -/
  | toDoze
  /-- A RUN request from DOZE runs its phase check (R29). -/
  | wakeCheck
  /-- A FORM request waits for the next epoch tick (R197). -/
  | formByRequest
  /-- Service work of a device that returns to RUN is complete; the first tick after the pause decides (R27, R470). -/
  | svcExit
  /-- Automatic FORM staged at an epoch tick lands at the next (R197); the cause is 0x12 or 0x13. -/
  | formAuto (cause : Nat)
  /-- The return from FORM to RUN lands at the next epoch tick (R198); the cause is 0x14 or 0x05. -/
  | formExit (cause : Nat)
  deriving DecidableEq, Repr

/-- The state register and the request parameters (R18, R22, R23). Log entry 3 (DESIGN CHOICE). -/
structure Sys where
  st : OpState := .off
  prev : OpState := .off
  cause : Nat := 0
  formAuto : Bool := false
  factory : Bool := false
  standby : Bool := false
  /-- The state that SERVICE returns to; OFF (code 0) outside SERVICE. -/
  svcRet : OpState := .off
  seq : Nat := 0
  /-- READY has been reached since the last start, so the host window is open (R541). -/
  up : Bool := false
  /-- TEST_EN has stopped the SVP and holds every output at high impedance (R568). -/
  testStop : Bool := false
  /-- 0x0010 sys.state.req: the last accepted request. -/
  req : Nat := 0
  /-- 0x0011 sys.state.refusal. -/
  refusal : Nat := 0
  /-- The state from which DOZE was entered (R24). -/
  dozeFrom : OpState := .ready
  auto : Auto := .none
  /-- Tick of the last transition that the device itself made (R26). -/
  autoT : Option Nat := none
  /-- Trip causes that have arisen since entry into TRIP (R583). -/
  tripCauses : List Nat := []
  /-- The hold of charm.rec.hold has passed since the last 0x23 (R246). -/
  islandGone : Bool := true
  deriving DecidableEq, Repr

/-- An entry of the event log (R368). -/
structure LogEntry where
  seq : Nat
  ev : Nat
  st : Nat
  tNs : Nat
  stamp : Nat
  /-- ARG bytes [21:20]. -/
  idx : Nat
  /-- ARG bytes from [22] on. -/
  vals : List Byte
  deriving DecidableEq, Repr

/-- Events, their log and their archive (R367, R368, R347). -/
structure Events where
  /-- EV_PEND0–3. -/
  pend : BitVec 128 := 0
  /-- SEQ of the newest entry. -/
  seq : Nat := 0
  /-- The log, newest first, at most 4,096 entries. -/
  log : List LogEntry := []
  /-- The SEQ up to which entries have been copied to the archive. -/
  copied : Nat := 0
  /-- Epoch (plus 1) of the last EV_MBXERR. -/
  mbxErrEp : Nat := 0
  /-- Lines asserted as of the last type-6 notice (R367). -/
  notified : Nat := 0
  deriving DecidableEq, Repr

/-- A command handed over by a ring, in ring order (R358, R360). -/
structure Rung where
  slot : Nat
  deriving DecidableEq, Repr

/-- A long command in progress (R360). -/
structure LongCmd where
  slot : Nat
  op : Nat
  tag : Nat
  /-- Class of the session that issued it. -/
  cls : Nat
  payload : List Byte
  deriving DecidableEq, Repr

/-- A completion that waits to be posted (R361). -/
structure Completion where
  slot : Nat
  tag : Nat
  op : Nat
  status : Nat
  detail : Nat
  resp : List Byte
  /-- Network time in ms at completion. -/
  tMs : Nat
  deriving DecidableEq, Repr

/-- A datagram that the device has sent (R355, R356). -/
structure Datagram where
  dst : Endpoint
  body : List Byte
  deriving DecidableEq, Repr

/-- What a slot last completed, for the repeats of R356. -/
structure Stored where
  tag : Nat
  crc : Nat
  entry : List Byte
  resp : List Byte
  deriving DecidableEq, Repr

/-- The mailbox registers and queues (R357 to R372). Log entry 3 (DESIGN CHOICE). -/
structure Mailbox where
  busy : Nat := 0
  /-- Rung commands that wait for their start, in ring order. -/
  rung : List Nat := []
  /-- The first of them has passed the checks 1 to 6 of R359. -/
  checked : Bool := false
  long : List LongCmd := []
  /-- Completions that wait for posting, oldest first. -/
  done : List Completion := []
  tail : Nat := 0
  phase : Bool := true
  head : Nat := 0
  /-- Entries that the host has not read. -/
  unread : Nat := 0
  accErr : Bool := false
  wrBusy : Bool := false
  doorBusy : Nat := 0
  udpDrop : Nat := 0
  /-- CQ_FULL: a completion is held for space. -/
  cqFull : Bool := false
  paused : Bool := false
  hostsel : Bool := false
  /-- Status and detail that the last immediate write, or refusal, gave. -/
  lastStatus : Nat := 0
  lastDetail : Nat := 0
  /-- Session: open, its class, its token and the tick at which a command last carried it (R365). -/
  sessOpen : Bool := false
  sessClass : Nat := 0
  sessToken : Nat := 0
  sessLast : Nat := 0
  /-- Over UDP: the sender that each slot answers to, and its XID (R356). -/
  udpSrc : Tab (Option (Endpoint × Nat)) := []
  stored : Tab (Option Stored) := []
  lastSender : Option Endpoint := none
  /-- Tick of the last notice, from which sys.ev.renotify runs (R367). -/
  notifyT : Nat := 0
  /-- Datagrams sent, newest first. -/
  sent : List Datagram := []
  /-- The bytes that the last read over the host port returned. -/
  hostRd : List Byte := []
  /-- PSETs held by R90 (slots). -/
  heldPset : List Nat := []
  deriving DecidableEq, Repr

/-- A point slot (R345). -/
structure Point where
  value : Nat := 0
  tNs : Nat := 0
  typ : Nat := 0
  valid : Bool := false
  stale : Bool := false
  hostPt : Bool := false
  bound : Bool := false
  partner : Nat := 0xFFFF
  seq : Nat := 0
  deriving DecidableEq, Repr

/-- Coefficients of one Filigree bank: words by 0x2100–0x2103 key (pid · 2^16 + index). -/
abbrev Bank := Tab Nat

/-- A configuration snapshot slot of the Locket (R387, R545). -/
structure Snapshot where
  written : Bool := false
  header : Bool := false
  seq : Nat := 0
  /-- Release of the firmware whose format it has (R546). -/
  format : Nat := 0
  params : Tab Nat := []
  bank : Bank := []
  points : Tab Point := []
  deriving DecidableEq, Repr

/-- A Carat set as saved in the Locket or the Clasp (R316, R317). -/
structure CaratSave where
  regs : Tab Int := []
  bases : Tab Int := []
  tMs : Nat := 0
  deriving DecidableEq, Repr

/-- A journal record of the Locket (R389). -/
inductive JRec where
  /-- A calibration result, a phase correction, the stress of a leg or the last SEQ of the Setter: applied always. -/
  | always (key value : Nat)
  /-- An immediate-acting kept value, with the snapshot number in force when it was written. -/
  | immediate (key value snapSeq : Nat)
  | stress (n : Nat) (hours : Rat)
  | setSeq (seq : Nat)
  | carat (set : CaratSave)
  /-- An interval base of Carat (R307), by 16m + r. -/
  | base (key : Nat) (value : Int)
  | audit (entry : List Byte)
  deriving DecidableEq, Repr

/-- The snapshot writer and the Locket (R387 to R389). Log entry 4 (DEDUCED). -/
structure Locket where
  slotA : Snapshot := {}
  slotB : Snapshot := {}
  /-- The slot of the newest complete snapshot is B. -/
  newestB : Bool := false
  snapSeq : Nat := 0
  /-- 0 idle, 1 writing, 2 last write failed. -/
  snapState : Nat := 0
  /-- A COMMIT landed while a snapshot was being written (R388). -/
  again : Bool := false
  /-- The retry of a failed write is due (R388). -/
  retryDue : Bool := false
  /-- The write in progress is the retry. -/
  retrying : Bool := false
  /-- Tick at which a write last failed (R388). -/
  failT : Nat := 0
  /-- What is being written. -/
  body : Snapshot := {}
  /-- Journal, oldest first. -/
  journal : List JRec := []
  deriving DecidableEq, Repr

/-- Parameter values as they travel (R376), by pid · 2^16 + index; an unlisted instance has its factory value. -/
structure Params where
  active : Tab Nat := []
  /-- Staged values of the instances that a PSET has staged (R379). -/
  staged : Tab Nat := []
  /-- 0x0050 sys.pt.sel. -/
  ptSel : Nat := 0x100000
  /-- Declarations staged through 0x0052: point number to TYPE (R395). -/
  declStaged : Tab (Option Nat) := []
  absent : Nat := 0
  deriving DecidableEq, Repr

/-- A COMMIT in progress (R382). -/
structure CommitJob where
  groups : Nat
  slot : Nat
  cls : Nat
  /-- The checks have passed, at this tick. -/
  passedAt : Option Nat
  /-- Epoch at which it is due to land. -/
  landEp : Nat
  deriving DecidableEq, Repr

/-- The result of one conversion chain (R36). -/
structure Res where
  value : Int := 0
  valid : Bool := false
  ovr : Bool := false
  src : Bool := false
  cal : Bool := false
  seq : Nat := 0
  stamp : Nat := 0
  deriving DecidableEq, Repr

/-- An analogue input: its decimator, integrator and latest results (R39). -/
structure Ain where
  res : Res := {}
  /-- The latest results, newest first, for the fractional delay of R303. -/
  hist : List Res := []
  /-- Integrator stages and comb stages of the decimation filter. -/
  integ : List Rat := []
  comb : List Rat := []
  /-- Raw conversions taken into the current output. -/
  phase : Nat := 0
  /-- Raw conversions since the last clipped one. -/
  clipAge : Option Nat := none
  /-- Raw conversions still to be discarded, and outputs still invalid (R48, R49). -/
  discard : Nat := 0
  invalid : Nat := 0
  /-- Rogowski integrator. -/
  rog : Rat := 0
  ovrEp : Nat := 0
  deriving DecidableEq, Repr

/-- A conversion of a scan on its way through the converter (R31, R32). -/
structure ScanItem where
  pos : Nat
  /-- Tick of its sampling instant. -/
  at_ : Nat
  /-- Converted by Facet 12 for a core Facet. -/
  spare : Bool := false
  /-- Values that came into force at the start of the scan, on its first conversion (R46), by parameter key. -/
  change : Tab (Option Nat) := []
  deriving DecidableEq, Repr

/-- A Facet and its scan (R30 to R35). -/
structure Facet where
  /-- A trigger has started a scan that waits for its delay: the tick at which it may begin (R34). -/
  waiting : Option Nat := none
  /-- Tick at which the last conversion of the last scan was sampled, plus 1; 0 before the first scan. -/
  until_ : Nat := 0
  /-- In continuous mode: the next scan starts at the first conversion edge from this tick on (R33). -/
  next : Nat := 0
  /-- Conversions whose results are still to leave the converter, in the order of their sampling instants. -/
  due : List ScanItem := []
  /-- Landed values that wait for the next scan start (R46), by parameter key. -/
  change : Tab (Option Nat) := []
  missed : Nat := 0
  /-- Self-calibration running, and the tick at which it started. -/
  selfCal : Bool := false
  selfCalT : Nat := 0
  deriving DecidableEq, Repr

/-- A CALZERO or CALFULL in progress (R54 to R56). -/
structure CalJob where
  slot : Nat
  ain : Nat
  gain : Nat
  full : Bool
  ac : Bool
  applied : Rat
  /-- Outputs taken, their sum, and for AC the sums of squares and the whole cycles. -/
  count : Nat := 0
  sum : Rat := 0
  sumSq : Rat := 0
  cycles : Nat := 0
  /-- Square sum and count up to the last rising zero crossing. -/
  cycSq : Rat := 0
  cycN : Nat := 0
  /-- The last output was negative; none before the first. -/
  neg : Option Bool := none
  /-- A rising zero crossing has been seen. -/
  begun : Bool := false
  /-- An averaged output had OVR = 1 or VALID = 0; `badCyc` is the same for the cycle that runs. -/
  bad : Bool := false
  badCyc : Bool := false
  startT : Nat := 0
  deriving DecidableEq, Repr

/-- Acquisition (ACQ_STAT and the rotation, R60 to R65). Log entry 3 (DESIGN CHOICE). -/
structure Acq where
  ains : Tab Ain := []
  facets : Tab Facet := []
  /-- Diagnostic results by 2f + (p − 14). -/
  diag : Tab Res := []
  /-- Core Facet that Facet 12 serves; 15 none. -/
  spareFor : Nat := 15
  /-- ROT_NEXT: the core Facet of the next rotation step; `rotCur` is that of the present one (R60, R65). -/
  rotNext : Nat := 0
  rotCur : Nat := 0
  rotPhase : Nat := 0
  /-- Tick from which the dwells are counted (R60). -/
  rotBase : Nat := 0
  /-- Scans of the running overlap, at most 256 (R60, R63). -/
  overlap : Nat := 0
  /-- Core Facets whose inputs currently carry VALID = 0 for lack of a converter. -/
  facetFlt : Nat := 0
  spareFlt : Bool := false
  /-- A core Facet that Facet 12 is to take over at the next scan boundary (R52); 15 none. -/
  takeover : Nat := 15
  /-- Converter offsets found at overlap ends (R61), by Facet. -/
  trim : Tab Rat := []
  /-- A step of the rotation was abandoned by the loss of the ADC PLL (R64). -/
  rotRestart : Bool := false
  /-- Ticks at which the scan timers started (R35). -/
  timers : Tab Nat := []
  /-- Calibration results that apply from the next epoch (R57), by parameter key. -/
  calPend : Tab (Option Nat) := []
  calZero : Option CalJob := none
  calFull : Option CalJob := none
  deriving DecidableEq, Repr

/-- A leg: its carrier, its switching signal, its output chain and its service (R114 to R146).
Log entry 3 (DESIGN CHOICE). -/
structure Leg where
  insvc : Bool := false
  /-- Placed, to enter service at the next period start (R125, R278). -/
  entering : Bool := false
  /-- To leave service at the next period start (R278, R283). -/
  leaving : Bool := false
  /-- To leave service at the next period start as a companion of a bridge (R183). -/
  companion : Bool := false
  /-- Held out by LEGSVC (R283). -/
  held : Bool := false
  /-- Left service only through a cascade halt or as a companion (R284). -/
  mayReturn : Bool := false
  /-- Left service with a latch set, so that only LEGSVC brings it back (R284). -/
  barred : Bool := false
  /-- Ticks of the returns that the Setter made in the last hour (R284). -/
  returns : List Nat := []
  /-- Parameters of a landed commit that load at the next period start (R128). -/
  load : Tab (Option Nat) := []
  /-- Tick of the last period start, and the length of the period in ticks. -/
  start : Nat := 0
  len : Nat := 0
  running : Bool := false
  /-- Ticks of the latest period starts, newest first, from which the next leg's chain counts (R116). -/
  starts : List Nat := []
  /-- A landed commit of the leg's update group has not been loaded yet (R129, R147). -/
  pend : Bool := false
  /-- Tick of the placement that the leg waits to enter by, and the tick at which its DUV window ends (R125, R126). -/
  entT : Nat := 0
  duvEnd : Nat := 0
  /-- A transition period of R130 is running. -/
  transition : Bool := false
  /-- High times in fine steps taken at the valley and at the peak. -/
  h1 : Nat := 0
  h2 : Nat := 0
  /-- Last edges of S, in fine steps of the tick count. -/
  lastRise : Option Nat := none
  lastFall : Option Nat := none
  /-- Planned edges of S in fine steps from the valley. -/
  rise : Option Nat := none
  fall : Option Nat := none
  s : Bool := false
  /-- The turn-on that a running dead time will give: GH (true) or GL (false). -/
  dt : Option Bool := none
  /-- The fine step at which that turn-on is due (R122). -/
  dtAt : Nat := 0
  /-- Outputs of the dead-time generator (stage 3). -/
  gh3 : Bool := false
  gl3 : Bool := false
  /-- Service force: enable, GH, GL (R135). -/
  force : Nat := 0
  /-- The interlock holds both outputs off until the next period start. -/
  blocked : Bool := false
  shootRun : Nat := 0
  shootCnt : Nat := 0
  shootEp : Nat := 0
  /-- Periods without a refreshing interval, and whether one has passed in this period (R124). -/
  refresh : Nat := 0
  refreshed : Bool := false
  /-- The refresh has moved the fall of S in this period, so S stays low to its end. -/
  forceLow : Bool := false
  /-- Fine step from which GL has been on at the output (R124). -/
  glOn : Option Nat := none
  /-- The start pulse is due or given (R125). -/
  startPulse : Bool := false
  /-- DUV is ignored since the entry into service (R126). -/
  duvBlank : Bool := false
  dfltIn : Bool := false
  duvIn : Bool := false
  dfltLat : Bool := false
  duvLat : Bool := false
  shootTrip : Bool := false
  bootEnf : Bool := false
  eatenGh : Bool := false
  eatenGl : Bool := false
  skew : Bool := false
  /-- A replay holds the leg (R106). -/
  replayHold : Bool := false
  /-- Squared leg current summed over the running epoch, and the number of results (R287). -/
  isq : Rat := 0
  isn : Nat := 0
  /-- The leg's trip gate was held when it was last looked at (R584). -/
  gated : Bool := true
  /-- Accumulated stress in hours (R287). -/
  stress : Rat := 0
  deriving DecidableEq, Repr

/-- A Bezel window (R148 to R171). Log entry 3 (DESIGN CHOICE). -/
structure Window where
  hiAct : Bool := false
  loAct : Bool := false
  lat : Bool := false
  latHi : Bool := false
  latLo : Bool := false
  cutHold : Bool := false
  cutTrip : Bool := false
  armhold : Bool := false
  pllHold : Bool := false
  /-- The comparator under test: upper (true) or lower (false). -/
  testing : Option Bool := none
  /-- The result that a step of the test has already fixed; 0 none. -/
  testBad : Nat := 0
  /-- The step of R166 that the test has reached: 1 start, 2 after 2 µs, 3 after 4 µs, 4 after 6 µs; 0 none. -/
  testPh : Nat := 0
  /-- Tick at which the test began, and the code of the test source (R166). -/
  testT : Nat := 0
  testSrc : Int := 0
  failHi : Bool := false
  failLo : Bool := false
  clrRef : Bool := false
  testRes : Nat := 0
  testDelay : Nat := 0
  trips : Nat := 0
  cuts : Nat := 0
  cutRun : Nat := 0
  /-- Epoch (plus 1) of the last EV_BZMON and EV_BZCUT. -/
  monEp : Nat := 0
  cutEp : Nat := 0
  deriving DecidableEq, Repr

/-- What a gate ball carries (R136, R137): high impedance, a driven level, or a current in mA. -/
inductive PinOut where
  | hiZ
  | high
  | low
  | source (mA : Nat)
  | sink (mA : Nat)
  deriving DecidableEq, Repr

/-- The driver enable groups, SYNC_OUT and the summary bits (R142, R143, R147). -/
structure Pwm where
  clrBusy : Nat := 0
  /-- Groups whose DRVEN a clear holds low. -/
  clrLow : Nat := 0
  /-- Per group, the tick at which its clear began and the width of its pulse in µs (R143). -/
  clrT : Tab Nat := []
  clrW : Tab Nat := []
  /-- Legs that a live clear holds and that rejoin after it. -/
  rejoin : Nat := 0
  skewAny : Bool := false
  shootAny : Bool := false
  syncOut : Bool := false
  /-- Tick at which the pulse of SYNC_OUT ends (R117). -/
  syncEnd : Nat := 0
  /-- The device itself holds every leg off (R133). -/
  devHold : Bool := false
  deriving DecidableEq, Repr

/-- A publication of the Setter (R277). -/
structure SetRec where
  seq : Nat := 0
  typ : Nat := 0
  reason : Nat := 0
  landMs : Nat := 0
  legs : Nat := 0
  facet12 : Nat := 15
  pHi : Int := 0
  pLo : Int := 0
  share : List Nat := []
  deriving DecidableEq, Repr

/-- A battery string as the Setter sees it (R290). -/
structure Str where
  /-- Its share in 1/250. -/
  share : Nat := 0
  /-- A point is stale and the hold of set.rack.hold runs, or has run out. -/
  staleHold : Bool := false
  lost : Bool := false
  deriving DecidableEq, Repr

/-- The Setter (R274 to R300). Log entry 3 (DESIGN CHOICE). -/
structure Setter where
  seq : Nat := 0
  intent : Option SetRec := none
  last : SetRec := {}
  pHi : Int := 0
  pLo : Int := 0
  /-- The placement in force, as published. -/
  legs : Nat := 0
  facet12 : Nat := 15
  strs : Tab Str := []
  hDis : Rat := 0
  hCh : Rat := 0
  /-- Largest apparent power of the cycle so far, and the sums of the DC-link output over it. -/
  sf : Rat := 0
  dcSum : Rat := 0
  dcN : Nat := 0
  /-- Tick since which the shed condition holds. -/
  shedSince : Option Nat := none
  rotDue : Bool := false
  /-- Strings that their racks let be used, as last seen (R279, R290). -/
  strUp : Nat := 0
  /-- Ticks of the last rotation and of the last journalling of stress, or of the start (R287). -/
  rotT : Nat := 0
  stressT : Nat := 0
  /-- An unplanned change waits for the next epoch tick (R279). -/
  unplanned : Bool := false
  /-- A LEGSVC waits for the next intent. -/
  hostChange : Bool := false
  nobat : Bool := false
  frozen : Bool := false
  tierOvf : Bool := false
  retract : Bool := false
  /-- Bridges shed whose windows are still to be tested (R288). -/
  testQueue : List (Nat × Bool) := []
  /-- Records published, newest first. -/
  published : List SetRec := []
  /-- Network time in ms of the last cycle start. -/
  cycleMs : Nat := 0
  /-- PV ceilings in W by input (R293). -/
  pvCeil : Tab Rat := []
  /-- Weights w_s of R292 as planned. -/
  weights : Tab Rat := []
  /-- Bridges that the outstanding intent sheds (R288). -/
  shed : List Nat := []
  deriving DecidableEq, Repr

/-- A PV input (R253 to R271). -/
structure PvIn where
  mode : Nat := 0
  ilim : Bool := false
  vlim : Bool := false
  shade : Bool := false
  swpDone : Bool := false
  swpBad : Bool := false
  shadeSrc : Nat := 0
  vref : Rat := 0
  voc : Rat := 0
  dir : Int := 1
  /-- The next step of P&O is step.min (R265). -/
  firstStep : Bool := false
  /-- Mean power of the last two intervals. -/
  pBar : Option Rat := none
  pPrev : Option Rat := none
  /-- Epochs passed in the interval and the mean powers of its epochs, newest first. -/
  epochs : Nat := 0
  ps : List (Option Rat) := []
  satSeen : Bool := false
  /-- Sum, count and validity of p over the running epoch. -/
  pSum : Rat := 0
  pN : Nat := 0
  pBad : Bool := false
  /-- The P of the last whole epoch. -/
  pEp : Option Rat := none
  /-- The P of the epoch before it (R268). -/
  pEp1 : Option Rat := none
  /-- V_ref computed at the last tick, which lands at the next (R260, R265). -/
  vNext : Option Rat := none
  iEp : Rat := 0
  vEp : Rat := 0
  /-- Voltages of the last second, newest first (R257). -/
  vHist : List Rat := []
  ceil : Rat := 0
  /-- In CURT: P̄ before a downward step. -/
  downP : Option Rat := none
  lastEnd : Option Nat := none
  vg : Rat := 0
  pg : Rat := 0
  nMax : Nat := 0
  /-- The input may have its legs placed (R257). -/
  avail : Bool := false
  /-- Ticks since which the conditions of start, stop, ratio and yield hold (R257, R258, R263). -/
  startSince : Option Nat := none
  stopSince : Option Nat := none
  ratioSince : Option Nat := none
  yieldSince : Option Nat := none
  /-- Tick at which tracking started, and whether the sweep after it has been asked for. -/
  trackT : Nat := 0
  startDone : Bool := false
  /-- A new request is due pv.sweep.gap after the sweep (R267). -/
  retry : Bool := false
  deriving DecidableEq, Repr

/-- PV tracking as a whole and its sweep (R263 to R268, R272). Log entry 3 (DESIGN CHOICE). -/
structure Pv where
  ins : Tab PvIn := []
  sweepQ : Nat := 0
  sweepPh : Nat := 0
  skips : Nat := 0
  /-- Requests in the order in which they were made: input and tick. -/
  queue : List (Nat × Nat) := []
  vop : Rat := 0
  pBefore : Rat := 0
  /-- Mean of P / p.rated over the other tracking inputs before the descent. -/
  others : Option Rat := none
  target : Rat := 0
  aborted : Bool := false
  /-- Tick at which the reference reaches its target, and at which the rising phase began (R265). -/
  reachAt : Nat := 0
  riseT : Nat := 0
  /-- Tick that ended the rising phase (R265). -/
  extT : Nat := 0
  /-- Results of the rising phase, oldest first: voltage and current. -/
  rec_ : List (Rat × Rat) := []
  deriving DecidableEq, Repr

/-- One row of a recorder: its instant and its sample words (R325, R338). -/
structure Row where
  t : Nat
  words : List Nat
  deriving DecidableEq, Repr

/-- A recorder unit (R323 to R336). -/
structure RecUnit where
  st : Nat := 0
  /-- Rows, newest first. -/
  ring : List Row := []
  /-- Rows that wait for the two later results of the fractional delay, oldest first (instants). -/
  waiting : List Nat := []
  decN : Nat := 0
  /-- Instant and source of the accepted trigger; the instant of its TRG row; rows kept from TRG on. -/
  trigT : Option Nat := none
  trigSrc : Nat := 0xFFFF
  origin : Nat := 0
  trg : Option Nat := none
  post : Nat := 0
  groupSeq : Nat := 0
  /-- Fire already taken for this GROUP_SEQ (R333). -/
  fired : Bool := false
  armCount : Nat := 0
  preIgn : Nat := 0
  busyIgn : Nat := 0
  preIgnRec : Nat := 0
  busyIgnRec : Nat := 0
  maskViol : Nat := 0
  firstViol : Option Nat := none
  endCode : Nat := 0
  stTrg : Nat := 0
  tripSeen : Bool := false
  islandSeen : Bool := false
  damaged : Bool := false
  /-- Tick of the last row of the previous record, and dead time up to the first READY, in µs. -/
  lastRow : Option Nat := none
  deadUs : Nat := 0xFFFFFFFF
  readySeen : Bool := false
  /-- A record has been made since the last arm. -/
  hadRec : Bool := false
  /-- Pattern detector: rows since the channel was last on the other side of l1, whether l2 was reached, rows since
  it left l1. -/
  patAbove : Bool := false
  patRun : Nat := 0
  patL2 : Bool := false
  patSlew : Option Nat := none
  /-- Landed changes of channels, len, pre or dec that wait, by key (R348). -/
  cfgWait : Tab (Option Nat) := []
  /-- Tick at which HOLD began. -/
  holdT : Nat := 0
  /-- Slot of the accepted trigger (R330), and τ_u at its acceptance (R337). -/
  trigSlot : Nat := 4
  tau : Nat := 0
  /-- Instant of the last row that the masks have tested, and of the last row that the record keeps. -/
  tested : Option Nat := none
  endAt : Option Nat := none
  /-- R19 code at the last row (R337), and the tick at which STORE began (R336). -/
  stEnd : Nat := 0
  stT : Nat := 0
  deriving DecidableEq, Repr

/-- A stored record (R337, R371). -/
structure Rec where
  id : Nat
  cls : Nat
  tier : Nat
  life : Nat
  flags : Nat
  addr : Nat
  /-- Length in bytes, header included. -/
  len : Nat
  tS : Nat
  tNs : Nat
  groupSeq : Nat
  unit : Nat
  kind : Nat
  /-- Tick at which it was stored. -/
  at_ : Nat
  header : List Byte
  rows : List Row
  deriving DecidableEq, Repr

/-- The recorders (R349). Log entry 3 (DESIGN CHOICE). -/
structure Loupe where
  units : Tab RecUnit := []
  /-- Ticks of the last entry into TRIP and of the last islanding decision (R337). -/
  tripT : Option Nat := none
  islandT : Option Nat := none
  rec_ : Nat := 0
  mstop : Nat := 0
  deriving DecidableEq, Repr

/-- The Casket (R340 to R347). -/
structure Casket where
  up : Bool := false
  selfref : Bool := false
  /-- 0 none, 1 8 GiB, 2 16 GiB raw. -/
  size : Nat := 0
  unc : Bool := false
  cfg : Bool := false
  ceCnt : Nat := 0
  arcLost : Nat := 0
  /-- Tick of the last read of the whole store, or of the start (R342). -/
  scrubT : Nat := 0
  /-- Records by index entry, oldest first. -/
  recs : List Rec := []
  nextId : Nat := 1
  archive : List LogEntry := []
  deriving DecidableEq, Repr

/-- A cascade output (R79), with the full origin instant of R80. -/
structure CasOut where
  value : Int := 0
  valid : Bool := false
  sat : Bool := false
  rpl : Bool := false
  late : Bool := false
  seq : Nat := 0
  delay : Nat := 0
  origin : Nat := 0
  /-- Tick at which it was written. -/
  tick : Nat := 0
  deriving DecidableEq, Repr

/-- A section's states in accumulator LSBs (R69, R70). -/
structure SecState where
  s1 : Int := 0
  s2 : Int := 0
  deriving DecidableEq, Repr

/-- An evaluation that holds a lane: what it read and what it computes (R77, R94, R105). -/
structure EvalJob where
  /-- Source values read at the start. -/
  srcs : List Int
  origin : Nat
  start : Nat
  value : Int
  sat : Bool
  ovf : Bool
  /-- Section states that the evaluation takes when it completes. -/
  states : Tab SecState
  /-- Nodes for the trace taps: input sum, section outputs, setpoint. -/
  x : Int
  ys : List Int
  sp : Int
  /-- Lane cycles of this evaluation (R77), and whether it is the first one on a new bank (R89). -/
  cyc : Nat := 0
  onNew : Bool := false
  deriving DecidableEq, Repr

/-- A parity error that the running replay repairs (R106 to R108): its cascade, whether the word was a state word, the
origin instant of the aborted evaluation, and whether the cascade could not be restored. -/
structure RplJob where
  c : Nat
  stateErr : Bool
  origin : Nat
  lost : Bool
  deriving DecidableEq, Repr

/-- What a setpoint pin has shown (R97): its level, none before the first counted edge, and the ticks of its last counted
rising and falling edges. Log entry 3 (DESIGN CHOICE). -/
structure PinSp where
  level : Option Bool := none
  rise : Option Nat := none
  fall : Option Nat := none
  deriving DecidableEq, Repr

/-- A cascade (R66 to R112). Log entry 3 (DESIGN CHOICE). -/
structure Cas where
  out : CasOut := {}
  /-- VALUE of the latest output with VALID = 1 (R119). -/
  good : Int := 0
  states : Tab SecState := []
  /-- States before the last evaluation (R107). -/
  prev : Tab SecState := []
  /-- Bit k: trigger source k has delivered a new SEQ. -/
  fresh : Nat := 0
  ready : Bool := false
  readyAt : Nat := 0
  /-- Origin instant of the readiness. -/
  origin : Nat := 0
  /-- Ready again while its evaluation runs (R78), and the origin of that readiness. -/
  againOrigin : Nat := 0
  again : Bool := false
  job : Option EvalJob := none
  halt : Bool := false
  haltRaised : Bool := false
  mirror : Bool := true
  stageBad : Bool := false
  sat : Bool := false
  ovf : Bool := false
  lateF : Bool := false
  rplF : Bool := false
  ovfEp : Nat := 0
  lateEp : Nat := 0
  /-- Evaluations in the running epoch (R84): the epoch and their number. -/
  ep : Nat := 0
  epN : Nat := 0
  delayMax : Nat := 0
  overrun : Nat := 0
  /-- First evaluation on the new bank is still to come (R89). -/
  newBank : Bool := false
  /-- Setpoint unit: value, target, tick of the last update, whether a value exists yet (R95). -/
  spVal : Rat := 0
  spTick : Nat := 0
  spSet : Bool := false
  /-- Setpoint measurement, its validity and the loss of R98. -/
  spM : Rat := 0
  spOk : Bool := true
  spLost : Bool := false
  spSeq : Nat := 0
  /-- Tick of the last valid measurement, or of the start of the setpoint unit (R98). -/
  spT : Nat := 0
  /-- The latest outputs, newest first, for the fractional delay of R325. -/
  hist : List CasOut := []
  /-- Held source values of the last evaluation, for the replay. -/
  lastSrcs : List Int := []
  deriving DecidableEq, Repr

/-- A trace tap (R100 to R104). -/
structure Tap where
  ring : List Nat := []
  count : Nat := 0
  decN : Nat := 0
  /-- Post samples left, once triggered; stopped when none are left. -/
  post : Option Nat := none
  stopped : Bool := false
  ignored : Nat := 0
  last : Int := 0
  trgNext : Bool := false
  /-- Tick at which the tap's group took its trigger, and the state then. -/
  trigT : Nat := 0
  trigSt : Nat := 0
  deriving DecidableEq, Repr

/-- The fabric as a whole (R88 to R93, R106 to R113). -/
structure Fil where
  bank : Bool := false
  bank0 : Bank := []
  bank1 : Bank := []
  swapPend : Bool := false
  copying : Bool := false
  /-- Cascades that the running copy after a swap restores (R90). -/
  copySet : Nat := 0
  /-- Cascade whose parity error the running replay repairs. -/
  replay : Option Nat := none
  /-- Legs that the replay holds. -/
  rplHold : Nat := 0
  /-- The failing word is a state word (R107). -/
  stateErr : Bool := false
  /-- Every error that the running replay repairs, the first one first. -/
  rplJobs : List RplJob := []
  haltAll : Bool := false
  rplCnt : Nat := 0
  unc : Bool := false
  checking : Bool := false
  /-- Lane cycles used in the running and in the last epoch. -/
  cycles : Nat := 0
  cyclesLast : Nat := 0
  rateEp : Nat := 0
  cas : Tab Cas := []
  taps : Tab Tap := []
  pins : Tab PinSp := []
  deriving DecidableEq, Repr

/-- A complex number of two rationals: a phasor, or a vector in αβ. -/
structure Vec where
  re : Rat := 0
  im : Rat := 0
  deriving DecidableEq, Repr

/-- What a synthesis write that waits for the lift of a replay hold is to write (R176): the commands, gains and mode of its
tick, E at that tick, the retune, and the mode weights that were to land with it. -/
structure SynthDue where
  t : Nat := 0
  landP : Rat := 0
  landQ : Rat := 0
  landM : Nat := 0
  landVf : Rat := 0
  gd : Rat := 0
  gq : Rat := 0
  forming : Bool := false
  eMag : Rat := 0
  eTh : Rat := 0
  fE : Rat := 0
  fTune : Rat := 0
  retuneDue : Bool := false
  mode : Auto := .none
  deriving DecidableEq, Repr

/-- Grid synthesis: the estimator, the power commands and the forming law (R173 to R202).
Log entry 3 (DESIGN CHOICE). -/
structure Gs where
  lock : Bool := false
  everLock : Bool := false
  lockRun : Nat := 0
  unlockRun : Nat := 0
  /-- Tracked frequency in Hz; 0 before the first estimate, which starts at grid.base.f. -/
  fEst : Rat := 0
  /-- Predicted angle in degrees for the next tick; none before the first θ_m. -/
  thPred : Option Rat := none
  /-- The prediction for this tick and for the tick before, and the measured angle θ_m of this tick. -/
  thNow : Rat := 0
  thBefore : Rat := 0
  thM : Rat := 0
  thEst : Rat := 0
  err : Rat := 0
  /-- Positive- and negative-sequence vectors at the tick, in pu. -/
  vPos : Vec := {}
  vNeg : Vec := {}
  vMag : Rat := 0
  nMag : Rat := 0
  vValid : Bool := false
  /-- The raw angle at the tick in degrees, and the magnitude of the raw vector in pu (R180). -/
  raw : Option Rat := none
  rawMag : Rat := 0
  jump : Bool := false
  /-- Departure of the raw angle from θ_pred in degrees, and the raw vector in fabric units (R180, R217). -/
  rawDev : Rat := 0
  rawVec : Vec := {}
  /-- |V+|² in fabric units at the tick (R188). -/
  vf2 : Rat := 0
  /-- Frequency of the last retune. -/
  fTune : Rat := 0
  /-- Dispatch targets of R184 as the next epoch takes them. -/
  pSet : Rat := 0
  qSet : Rat := 0
  pf : Rat := 1
  pStale : Bool := false
  qStale : Bool := false
  pTgt : Rat := 0
  qTgt : Rat := 0
  pR : Rat := 0
  pCmd : Rat := 0
  qCmd : Rat := 0
  slim : Bool := false
  refage : Bool := false
  retune : Bool := false
  /-- A retune and a re-seed (R181, R217) wait for the next synthesis write. -/
  retuneDue : Bool := false
  reseed : Option Vec := none
  /-- Tick of the detection for which the re-seed is (R217). -/
  reseedT : Nat := 0
  /-- Tick from which the conditions of R198 have held. -/
  okSince : Option Nat := none
  deferF : Bool := false
  /-- A synthesis write waits for the lift of a replay hold (R176), and what it is to write. -/
  deferred : Bool := false
  due : SynthDue := {}
  /-- Owned cascades, as a mask, from before a landing whose rebuild waits for the lift (R176). -/
  rebuild : Option Nat := none
  /-- Tick for which the synthesis write in hand is. -/
  wrT : Nat := 0
  /-- P and Q of the epoch in which FORM was left (R198). -/
  exitP : Rat := 0
  exitQ : Rat := 0
  /-- Commands computed at the last tick land at the next (R186): kp, kq inputs and gains in force. -/
  landP : Rat := 0
  landQ : Rat := 0
  landM : Nat := 0
  landVf : Rat := 0
  gd : Rat := 0
  gq : Rat := 0
  /-- Mode weights in force: forming. -/
  forming : Bool := false
  /-- Forming oscillator: magnitude in pu, angle in degrees, frequency in Hz, df in pu. -/
  eMag : Rat := 0
  eTh : Rat := 0
  fE : Rat := 0
  df : Rat := 0
  e0 : Rat := 0
  /-- E of the last epoch in which LOCK was 1 (R197). -/
  goodE : Vec := {}
  goodF : Rat := 0
  goodT : Nat := 0
  /-- Measured powers of the epoch in pu. -/
  pMeas : Rat := 0
  qMeas : Rat := 0
  /-- Reference ages of the running epoch and the means of the last 100 epochs, newest first, by set; ages of Gα. -/
  ages : Tab (List Nat) := []
  ageHist : Tab (List Rat) := []
  ageG : List Nat := []
  ageGHist : List Rat := []
  misses : Nat := 0
  missNow : Bool := false
  /-- DC-link controller output sampled at the tick, in pu. -/
  dcOut : Rat := 0
  /-- P_r or Q_cmd has not reached its target (R201). -/
  ramping : Bool := false
  deriving DecidableEq, Repr

/-- Ride-through (R203 to R225). Log entry 3 (DESIGN CHOICE). -/
structure Rt where
  uLo : Rat := 0
  uHi : Rat := 0
  f : Rat := 0
  regU : Nat := 0
  regF : Nat := 3
  /-- τ_u and τ_f in ms, whether they run, and whether they are stopped and not yet reset. -/
  tauU : Nat := 0
  tauF : Nat := 0
  runU : Bool := false
  runF : Bool := false
  heldU : Bool := false
  heldF : Bool := false
  /-- Consecutive ticks outside the continuous region. -/
  outRun : Nat := 0
  uPre : Rat := 0
  ipPre : Rat := 0
  iqPre : Rat := 0
  /-- U+, P and Q of the last 20 epochs, newest first. -/
  hist : List (Rat × Rat × Rat) := []
  iq : Rat := 0
  ineg : Rat := 0
  ip : Rat := 0
  imax : Rat := 0
  ipLast : Rat := 0
  injLim : Bool := false
  pramp : Bool := false
  fast : Bool := false
  jumpF : Bool := false
  maskv : Bool := false
  reentry : Nat := 0
  /-- Active current is held at 0 after a jump (R217). -/
  jumpHold : Bool := false
  /-- Tick of the entry into RIDE, and ms since then, for mask B. -/
  rideAt : Nat := 0
  rideT : Nat := 0
  /-- Tick at which the jump of R217 was handled. -/
  jumpT : Nat := 0
  /-- Tick from which the exit conditions of R209 have held. -/
  okSince : Option Nat := none
  /-- Ticks at which the timers stopped inside the continuous region (R207). -/
  inSinceU : Nat := 0
  inSinceF : Nat := 0
  /-- τ_f paused at the last tick for want of LOCK (R207). -/
  pausedF : Bool := false
  /-- Frequency region known: LOCK has been 1 since the start (R203). -/
  known : Bool := false
  deriving DecidableEq, Repr

/-- One chip of the history: its means and the same over the period before (R236, R237). -/
structure Chip where
  n : Nat
  m : Rat
  a : Rat
  valid : Bool
  deriving DecidableEq, Repr

/-- Charm (R226 to R252). Log entry 3 (DESIGN CHOICE). -/
structure Charm where
  active : Bool := false
  valid : Bool := false
  susp : Bool := false
  suspSrc : Nat := 0
  noisy : Bool := false
  timeOk : Bool := false
  island : Bool := false
  gross : Bool := false
  formt : Bool := false
  clip : Bool := false
  restart : Bool := false
  zrun : Nat := 0
  zlow : Nat := 0
  /-- Closed chips, newest first, at most 512. -/
  chips : List Chip := []
  /-- Sums of the chip windows that are open: chip number to samples, Σ magnitude, Σ angle, validity. -/
  open_ : Tab (Option (Nat × Rat × Rat × Bool)) := []
  zm : Rat := 0
  za : Rat := 0
  z : Rat := 0
  sigma : Rat := 0
  /-- Noise-channel estimates of the last 1,024 ticks, newest first: the ms of the tick and the two channels. -/
  noise : List (Nat × Rat × Rat) := []
  fc : Rat := 0
  rocof : Rat := 0
  vs : Rat := 0
  /-- Unwrapped θ_m of the last ticks, and f_c of the last ticks, newest first. -/
  thHist : List Rat := []
  fcHist : List Rat := []
  /-- The tick of the newest entry of `thHist`. -/
  thT : Nat := 0
  uOut : Nat := 0
  fOut : Nat := 0
  /-- Passive methods are blanked (R228). -/
  blank : Bool := false
  blankFrom : Nat := 0
  /-- The period at whose start probing may resume (R242). -/
  resumeAt : Option Nat := none
  /-- TIME_OK has been 0 for charm.notime.t (R242). -/
  noTimeDone : Bool := false
  /-- The run of ticks that ZRUN counts has declared islanding; the decision that set ISLAND was reported (R244); the
  present FORM has reached charm.form.tmax. -/
  zDone : Bool := false
  reported : Bool := false
  formDone : Bool := false
  timeLostAt : Option Nat := none
  /-- Chip value computed for the next tick. -/
  eNext : Rat := 0
  /-- Tick of the last indication (R229). -/
  suspT : Nat := 0
  /-- Tick from which the grid has been healthy in TRIP (R246). -/
  recSince : Option Nat := none
  /-- On a standby, the active device probes (R247). -/
  peer : Bool := false
  deriving DecidableEq, Repr

/-- A metering point of Carat: its last sample, its gap and the sums of the running cycle (R303 to R311, R322). -/
structure CarPt where
  /-- STAMP of the last metering sample; none before the first. -/
  last : Option Nat := none
  gap : Bool := false
  /-- Gap time since the start, in ticks. -/
  gapT : Nat := 0
  /-- Samples of the running cycle, its first STAMP, and its sums: squares of voltages, currents and the neutral, phase
  powers, reactive power. -/
  n : Nat := 0
  first : Nat := 0
  sums : List Rat := []
  /-- Mean P of the last complete cycle, or second for a DC point. -/
  meanP : Rat := 0
  /-- Power summed over the running second of a DC point, its samples and its first STAMP. -/
  secP : Rat := 0
  secN : Nat := 0
  secT : Nat := 0
  /-- RMS currents of the phases over the last complete cycle. -/
  irms : List Rat := []
  deriving DecidableEq, Repr

/-- A phase calibration that runs (R315). -/
structure PhCal where
  x : Nat
  /-- Applied angle in 0.001 degree. -/
  phiA : Int
  bad : Bool := false
  /-- Whole cycles of the AC point since the start; the first boundary has been seen. -/
  begun : Bool := false
  cycles : Nat := 0
  deriving DecidableEq, Repr

/-- Carat (R301 to R322). Log entry 3 (DESIGN CHOICE). -/
structure Carat where
  /-- Lifetime registers by 16m + r, in 2^-32 of 1/65,536 Wh (R305). -/
  regs : Tab Int := []
  /-- Interval bases by 16m + r, in 1/65,536 Wh (R306). -/
  bases : Tab Int := []
  pts : Tab CarPt := []
  /-- Phase voltages of the AC point over the last 7 ms, newest first: STAMP, V, valid (R303). -/
  uHist : Tab (List (Nat × Rat × Bool)) := []
  selM : Nat := 0
  selR : Nat := 0
  selForm : Bool := false
  lval : Bool := false
  hi : Nat := 0
  gapF : Bool := false
  saving : Bool := false
  saveFail : Bool := false
  loss : Bool := false
  unbounded : Bool := false
  selErr : Bool := false
  /-- Bit m: point m qualified (R313). -/
  qual : Nat := 0
  /-- Bit x: the phase calibration of phase x is done (R315). -/
  phDone : Nat := 0
  phCal : Option PhCal := none
  /-- A correction that applies from the next epoch, by phase. -/
  phPend : Tab (Option Nat) := []
  /-- The last complete set in the Locket (R316). -/
  saved : CaratSave := {}
  /-- The closing boundary of an early warning has been taken (R318). -/
  closed : Bool := false
  /-- Tick of the last write of the residual (R317). -/
  resT : Nat := 0
  /-- Tick since which no sample is formed, and the unmetered time of this start in ticks (R310). -/
  stopT : Option Nat := none
  unmet : Nat := 0
  /-- The report of R319: restored energy in Wh, bound in Wh. -/
  restored : Rat := 0
  bound : Rat := 0
  deriving DecidableEq, Repr

/-- A received frame in a high-priority buffer or a receive entry (R401). -/
structure CanRx where
  /-- MATCH: the deciding element, 0x200 + h, or 0x3FF. -/
  by_ : Nat
  /-- Identifier word. -/
  idw : Nat
  esi : Bool
  stamp : Nat
  data : List Byte
  deriving DecidableEq, Repr

/-- A pending transmit entry (R408). -/
structure CanTx where
  idw : Nat
  data : List Byte
  /-- The partner entry and its page; none for a Setter record. -/
  ent : Option (Nat × Nat) := none
  /-- A cancel has been asked for (R410). -/
  cancel : Bool := false
  deriving DecidableEq, Repr

/-- A CAN port (R397 to R413, R421). -/
structure CanPort where
  /-- 0 error active, 1 error passive, 2 bus-off, 3 off. -/
  st : Nat := 3
  tec : Nat := 0
  rec_ : Nat := 0
  recov : Bool := false
  lec : Nat := 0
  pex : Bool := false
  /-- Tick of the entry into bus-off. -/
  boffT : Nat := 0
  recT : Nat := 0
  /-- Held receive entries, oldest first, and high-priority buffers. -/
  rx : List CanRx := []
  hp : Tab (Option CanRx) := []
  /-- Pending transmit entries in the order queued, and Setter records that wait for one. -/
  tx : List CanTx := []
  wait : List CanTx := []
  /-- RX, TX, RX_LOST, TX_DROP, UNBOUND (R420). -/
  nRx : Nat := 0
  nTx : Nat := 0
  rxLost : Nat := 0
  txDrop : Nat := 0
  unbound : Nat := 0
  /-- Epoch (plus 1) of the last EV_CANOVF. -/
  ovfEp : Nat := 0
  deriving DecidableEq, Repr

/-- A partner entry (R414 to R418, R422). -/
structure PtnEnt where
  lost : Bool := false
  seen : Bool := false
  txFail : Bool := false
  rxCnt : Nat := 0
  /-- Tick of the last frame or datagram, or of the start. -/
  lastRx : Nat := 0
  /-- Datagrams sent (SEQ of R418). -/
  txSeq : Nat := 0
  /-- Fields last queued, and the tick of the last sending on change, by page. -/
  sentVals : Tab (List Byte) := []
  changeT : Tab Nat := []
  deriving DecidableEq, Repr

/-- The partner buses (R397 to R423). -/
structure Can where
  ports : Tab CanPort := []
  ents : Tab PtnEnt := []
  /-- Tick of the last start (R407). -/
  startT : Nat := 0
  ovf : Bool := false
  deriving DecidableEq, Repr

/-- A serial lane and, on lanes 2 to 7, its Chain link (R424 to R436). -/
structure Lane where
  aligned : Bool := false
  /-- Chain link or Ethernet link up. -/
  link : Bool := false
  /-- Consecutive good and bad frames, and consecutive frame starts with and without K28.5. -/
  goodRun : Nat := 0
  badRun : Nat := 0
  sofRun : Nat := 0
  noSofRun : Nat := 0
  /-- FSEQ of the last good frame. -/
  fseq : Nat := 0
  /-- Segment number that the next MSG slot must carry; 0 between messages. -/
  seg : Nat := 0
  /-- MTYPE of the message under way. -/
  mtype : Nat := 0
  /-- Time, in hundredths of a tick, at which the last queued trigger message leaves. -/
  busyTo : Nat := 0
  /-- Code errors, good frames, bad frames, messages dropped (R450). -/
  codeErr : Nat := 0
  good : Nat := 0
  bad : Nat := 0
  dropped : Nat := 0
  prbsLock : Bool := false
  prbsErr : Nat := 0
  /-- An error has been met since the last lock. -/
  prbsSeen : Bool := false
  /-- Epoch (plus 1) of the last EV_PRBSERR. -/
  prbsEp : Nat := 0
  deriving DecidableEq, Repr

/-- A trigger message as it was passed on (R434). -/
structure TrigMsg where
  line : Nat
  fire : Bool
  hops : Nat
  origin : Nat
  seq : Nat
  /-- Trigger instant in ticks. -/
  inst : Nat
  deriving DecidableEq, Repr

/-- What the device has sent over Chain: the link and the message. -/
inductive ChainOut where
  | trig (link : Nat) (m : TrigMsg)
  | setter (link : Nat) (r : SetRec)
  | probe (link period code level chips : Nat)
  /-- Pendant control: kind 1 hello, 2 swap at a tick, 3 unpair, 4 transfer window (R459). -/
  | control (kind : Nat) (a b : Nat)
  /-- A mirror record of type `rtype` (R459), with what it carries. -/
  | mirror (rtype a b : Nat) (data : List Byte)
  deriving DecidableEq, Repr

/-- Chain as a whole (R434). -/
structure Chain where
  /-- Messages passed in the last millisecond, with their ticks. -/
  seen : List (Nat × TrigMsg) := []
  /-- Messages sent, newest first. -/
  out : List ChainOut := []
  deriving DecidableEq, Repr

/-- An entry of an ARP cache. -/
structure ArpEnt where
  ip : Nat
  mac : Nat
  at_ : Nat
  deriving DecidableEq, Repr

/-- An Ethernet port (R353, R430, R431). -/
structure Eth where
  link : Bool := false
  anDone : Bool := false
  speed : Nat := 0
  fcsErr : Nat := 0
  discard : Nat := 0
  arp : List ArpEnt := []
  /-- Frames that the port's stack has sent, newest first. -/
  sent : List EthFrame := []
  deriving DecidableEq, Repr

/-- An entry of the transmit time-stamp queue (R448). -/
structure TsqEnt where
  port : Nat
  msgType : Nat
  domain : Nat
  seqId : Nat
  /-- Written: the time stamp and the tick of its writing. -/
  stamp : Option (Nat × Nat × Nat) := none
  deriving DecidableEq, Repr

/-- A foreign master of a 1588 port: its last Announce, how many were heard, and the tick of the last. -/
structure Foreign where
  ann : Announce
  n : Nat
  at_ : Nat
  deriving DecidableEq, Repr

/-- A 1588 port (R442). Log entry 148 (DESIGN CHOICE). -/
structure PtpPort where
  /-- Port state by its standard code. -/
  st : Nat := 1
  foreign : List Foreign := []
  /-- Messages sent, for sequenceId, by messageType. -/
  seqs : Tab Nat := []
  /-- Messages sent, newest first: messageType and sequenceId. -/
  sent : List (Nat × Nat) := []
  deriving DecidableEq, Repr

/-- A timed output (R445, R446). -/
structure Pulse where
  active : Bool := false
  /-- The output is at its active level. -/
  out : Bool := false
  /-- A once pulse has fired, or was missed, since its landing. -/
  done : Bool := false
  /-- First instant in ns that a periodic output may take. -/
  from_ : Nat := 0
  /-- Instant in ns at which the pulse that is active ends. -/
  endNs : Nat := 0
  deriving DecidableEq, Repr

/-- A capture input (R447). -/
structure Capt where
  sec : Nat := 0
  ns : Nat := 0
  falling : Bool := false
  new_ : Bool := false
  ovr : Bool := false
  ep : Nat := 0
  deriving DecidableEq, Repr

/-- Network time and the 1588 clock (R438 to R451). Log entry 3 (DESIGN CHOICE). -/
structure Time where
  valid : Bool := false
  lock : Bool := false
  holdover : Bool := false
  align : Bool := false
  ports : Tab PtpPort := []
  /-- Last offset in ns, delay in ns, INC in 2⁻³² ns and its last values, newest first. -/
  offset : Int := 0
  delay : Nat := 0
  inc : Nat := 0x280000000
  incHist : List Nat := []
  /-- Consecutive offsets within time.lock.th, and beyond four times it. -/
  inRun : Nat := 0
  outRun : Nat := 0
  /-- The port whose offsets those are. -/
  runPort : Nat := 0
  /-- Tick at which holdover began. -/
  hoT : Nat := 0
  /-- A step by −offset, or a new SEC, that acts at the next epoch tick (R443). -/
  stepPend : Option Int := none
  setPend : Option Nat := none
  stepped : Bool := false
  epochMis : Bool := false
  missed : Bool := false
  tsq : Tab (Option TsqEnt) := []
  tsqOvf : Nat := 0
  tsqEp : Nat := 0
  pulses : Tab Pulse := []
  capts : Tab Capt := []
  capSel : Nat := 0
  /-- Latched seconds of TIME_NS and of TCAP_NS (R441). -/
  secLatch : Nat := 0
  capLatch : Nat := 0
  deriving DecidableEq, Repr

/-- The Pendant pair (R452 to R472). Log entry 3 (DESIGN CHOICE). -/
structure Pnd where
  /-- 0 alone, 1 active, 2 standby. -/
  role : Nat := 0
  /-- The pair has formed (R455). -/
  formed : Bool := false
  /-- PAIR operation 1 or 2 that has been issued and not ended, and the tick of its command. -/
  offer : Nat := 0
  offerT : Nat := 0
  /-- The last hello: digest, MIRVER, chain.addr and role offered (R459). -/
  hello : Option (Nat × Nat × Nat × Nat) := none
  /-- PHDR of the last good frame from the peer, and its tick (R459). -/
  peerActive : Bool := false
  peerFault : Bool := false
  peerTaken : Bool := false
  peerSynced : Bool := false
  peerClosed : Bool := false
  peerDem : Bool := false
  mirver : Nat := 0
  frameT : Option Nat := none
  /-- Tick of the last edge on PND_HBI, and the paths that have fallen silent: wire, frames. -/
  hbiT : Option Nat := none
  silentWire : Bool := false
  silentLink : Bool := false
  /-- A declared fault of this device (R464). -/
  fault : Bool := false
  /-- TAKEN and the ousted state of R466, which lasts until a new PAIR operation 2. -/
  taken : Bool := false
  oustedHold : Bool := false
  took : Bool := false
  ousted : Bool := false
  takes : Nat := 0
  synced : Bool := false
  syncRun : Nat := 0
  /-- A snapshot transfer runs, and its progress in percent. -/
  xfer : Bool := false
  xferPct : Nat := 0
  /-- Cascades with a matching state record in this epoch. -/
  matched : Nat := 0
  /-- Digest of the configuration that the peer's last epoch record carries, and the state that it shows. -/
  peerDigest : Nat := 0
  mirror : OpState := .off
  mirrorSvc : OpState := .off
  mirrorAuto : Bool := false
  /-- LAND_MS of the commit that a commit record announces, and its groups. -/
  commit : Option (Nat × Nat) := none
  /-- Network time in ms of the tick of a role swap (R468). -/
  swapMs : Option Nat := none
  /-- The slot of the PAIR or FWACT command that a swap completes. -/
  swapSlot : Option Nat := none
  /-- A FWACT MODE 0 activates the new image at the swap tick. -/
  swapFw : Bool := false
  /-- Transfer calibration: what is asked for, when its window starts (s), whether it runs, the active device's
  figures, and the last result (R469). -/
  xcal : Option Nat := none
  xcalSec : Nat := 0
  xcalRun : Bool := false
  xcalStats : Option (Rat × Rat) := none
  /-- What the standby measured in the window. -/
  xcalObs : Option XcalObs := none
  /-- The window of a transfer calibration: its last tick, and of the results in it their number, sum and sum of squares, and
  whether one was not usable (R469). -/
  xcalEnd : Nat := 0
  xcalN : Nat := 0
  xcalSum : Rat := 0
  xcalSq : Rat := 0
  xcalBad : Bool := false
  /-- Tick of the event, a declared fault of the peer or the silence of both paths, after which a standby takes over (R464). -/
  takeT : Option Nat := none
  xcalRes : Nat := 0
  deriving DecidableEq, Repr

/-- A firmware slot of the device (R364, R477, R480, R542, R543). -/
structure FwSlot where
  /-- OTHER of R480: 0 empty, 1 incomplete, 2 verified. -/
  st : Nat := 0
  /-- The slot carries an activation mark (R470), and its try count (R543). -/
  mark : Bool := false
  tries : Nat := 0
  /-- Header and payload staged so far. -/
  image : List Byte := []
  /-- TOTAL of the staging and the floor in force when it was verified (R542). -/
  total : Nat := 0
  floor : Nat := 0
  deriving DecidableEq, Repr

/-- Identity, firmware and access (R473 to R487, R501). Log entry 4 (DEDUCED). -/
structure Sec where
  /-- An enabled warden key has landed (R483). -/
  warden : Bool := false
  lockout : Bool := false
  lockEnd : Nat := 0
  /-- Ticks of the failed opens of the last 60 s (R486). -/
  fails : List Nat := []
  authFail : Nat := 0
  slot : Nat := 0
  keyed : Bool := false
  /-- sec.audit entries, newest first (R487). -/
  audit : List (List Byte) := []
  fwRes : Nat := 0
  /-- Active slot and the slots; `running` is the slot that was started. -/
  fwAct : Nat := 0
  running : Nat := 0
  fw0 : FwSlot := { st := 2 }
  fw1 : FwSlot := {}
  /-- A live activation: the slot of its command, and whether its pause runs (R470). -/
  live : Option Nat := none
  /-- Tick at which the pause of a live activation is due. -/
  liveAt : Nat := 0
  /-- The attestation in force: NONCE and report (R364, R480). -/
  attNonce : Option Nat := none
  attReport : List Byte := []
  /-- Bytes 0 to 255 of a report that is being made, taken at an epoch tick. -/
  attBody : Option (List Byte) := none
  deriving DecidableEq, Repr

/-- The grid disconnect channel (R488 to R499, R501). Log entry 3 (DESIGN CHOICE). -/
structure Gd where
  closed : Bool := false
  closing : Bool := false
  /-- Both drives are off and the opening is not confirmed. -/
  opening : Bool := false
  dem : Bool := false
  /-- The demand concerns the grid, so frames to the peer carry GD_DEM (R499). -/
  demGrid : Bool := false
  fault : Bool := false
  fcode : Nat := 0
  /-- Off-test (1) or clearing test (2) running; 0 none. -/
  testing : Nat := 0
  /-- The drive of the off-test has turned on again, at this tick. -/
  testBack : Option Nat := none
  /-- Tick at which the running sequence or test began. -/
  seqT : Nat := 0
  /-- Tick at which both drives last went off. -/
  offT : Nat := 0
  /-- Tick since which the closing conditions of R489 hold. -/
  holdFrom : Option Nat := none
  gdh : Bool := false
  gdl : Bool := false
  gdhRb : Bool := false
  gdlRb : Bool := false
  /-- GD_ISNS in mV as last observed. -/
  mv : Nat := 0
  estop : Bool := false
  alm : Bool := false
  nextSide : Bool := false
  tests : Nat := 0
  /-- Tick of the last off-test, or of the closing before the first. -/
  lastTest : Nat := 0
  /-- The refresh watch is armed, and the tick of the last refresh (R491). -/
  watch : Bool := false
  refreshT : Nat := 0
  /-- Closed under the pair hold (R499). -/
  pairHold : Bool := false
  /-- Values in force of area 0xE1xx that a landing has replaced during a test or a closing (R498). -/
  old : Tab (Option Nat) := []
  deriving DecidableEq, Repr

/-- A stored band search result (R510). -/
structure BandRes where
  cfg : Nat := 0
  band : Nat := 0
  temp : Int := 0
  /-- Order of last use; 0 an empty entry. -/
  used : Nat := 0
  /-- How often the result has been used (R376). -/
  uses : Nat := 0
  deriving DecidableEq, Repr

/-- The Clasp and its record of the last loss (R502 to R507, R520). -/
structure Clasp where
  vbatOk : Bool := false
  vholdOk : Bool := false
  /-- 0 VBAT, 1 VHOLD. -/
  src : Bool := false
  osc32Ok : Bool := false
  /-- In OFF: the cold-start oscillator charges the reservoir from VHOLD (R531). -/
  charging : Bool := false
  /-- Last-state record (R506): state, cause, TRIP, the RTC time of the loss, snapshot abandoned, journal lost. -/
  lastState : Nat := 0
  lastCause : Nat := 0
  lastTrip : Bool := false
  lossSec : Nat := 0
  lossFrac : Nat := 0
  snapLost : Bool := false
  jlost : Nat := 0
  cold : Bool := false
  wakeSrc : Nat := 0
  pwrFail : Bool := false
  rtcSet : Bool := false
  /-- The RTC: 48-bit seconds and a 15-bit fraction (R504), at the tick `rtcT`. -/
  rtcSec : Nat := 0
  rtcFrac : Nat := 0
  rtcT : Nat := 0
  trim : Int := 0
  /-- PWR_EN is driven high (R507); the tick at which it went high. -/
  pwrEn : Bool := false
  pwrT : Nat := 0
  /-- The fast domains run a start: kind, cause and tick t = 0 (R535, R540); none outside a start. -/
  start : Option (Nat × Nat × Nat) := none
  /-- RST_N is recognised low (R536). -/
  rstLow : Bool := false
  /-- Retention SRAM content that the rules give: interval bases and residual of Carat (R505, R307, R317). -/
  bases : Tab Int := []
  residual : Option CaratSave := none
  /-- Stored band search results, by 8 × loop + entry. -/
  bands : Tab BandRes := []
  bandUse : Nat := 0
  deriving DecidableEq, Repr

/-- The clock domains (R508 to R520). Loops: 0 SYS-C, 1 SYS-M, 2 PWM, 3 ADC, 4 LANE-A, 5 LANE-B.
Log entry 3 (DESIGN CHOICE). -/
structure Clk where
  refOk : Bool := false
  /-- Bit l: loop l locked. -/
  lock : Nat := 0
  onRef : Bool := false
  onFb : Bool := false
  search : Bool := false
  resync : Bool := false
  /-- Bit l: loop l has lost lock since the last read. -/
  loss : Nat := 0
  /-- Relock attempts of each loop with its stored result. -/
  tries : Tab Nat := []
  /-- Tick of the last attempt of each loop that failed. -/
  tryT : Tab Nat := []
  /-- Phase of the conversion dividers, modulo 10 (R515). -/
  phase : Nat := 0
  /-- Die temperature at the last refresh of the stored results (R511). -/
  bandTemp : Int := 0
  /-- Tick at which epoch ticks stopped, in DOZE or at a loss of the PWM PLL (R439, R517). -/
  stopT : Option Nat := none
  /-- The lockstep comparator has found a mismatch, at this tick (R538). -/
  lockstep : Option Nat := none
  deriving DecidableEq, Repr

/-- The hold-up supervisor (R521 to R530, R534). Log entry 3 (DESIGN CHOICE). -/
structure Hold where
  /-- VHOLD as last sampled, in counts of 5 mV, and the gauge E in µJ. -/
  v : Nat := 0
  e : Nat := 0
  saveOk : Bool := false
  gaspOk : Bool := false
  pfail : Bool := false
  /-- An early warning is in force; save mode is entered with it. -/
  warned : Bool := false
  saveMode : Bool := false
  /-- Save decided: 0 none, 1 minimal, 2 full. -/
  plan : Nat := 0
  lastSave : Nat := 0
  gaspSent : Bool := false
  /-- Event entries that burst 3 saved for the next start, newest first (R526, R551). -/
  savedLog : List LogEntry := []
  /-- The snapshot write that the warning abandoned (R526). -/
  snapAbandoned : Bool := false
  deriving DecidableEq, Repr

/-- What a start reports (R553, R554) and the temperature watch (R580). Log entry 3 (DESIGN CHOICE). -/
structure Boot where
  /-- The value of BOOT_STAT; 0 before t = 2.4 ms of a start. -/
  stat : Nat := 0
  jlost : Nat := 0
  why : Nat := 0
  /-- The start runs without an image: recovery (R544). -/
  recovery : Bool := false
  /-- The device has reached a start since the Casket last lost its supply (R341). -/
  casketKept : Bool := false
  /-- EV_THERM levels: T_die has risen through 105 °C and 118 °C. -/
  therm : Nat := 0
  /-- T_die in °C as last read, and the 13 readings. -/
  tDie : Int := 25
  temps : List Int := []
  /-- HOSTSEL strap of the start (R350). -/
  hostsel : Bool := false
  /-- Counts of DOOR_BUSY and UDP_DROP seen before READY are in the mailbox; the phase of PND_HBO (R454). -/
  hbo : Bool := false
  /-- Tick of its last change (R454). -/
  hboT : Nat := 0
  deriving DecidableEq, Repr

/-- The device without its queue and its host memory. Log entry 5 (DESIGN CHOICE). -/
structure Dev where
  /-- PWM tick count T (R440) of the command last taken: 2.5 ns ticks of network time. -/
  t : Nat := 0
  sys : Sys := {}
  ev : Events := {}
  mbx : Mailbox := {}
  pts : Tab Point := []
  lkt : Locket := {}
  prm : Params := {}
  commit : Option CommitJob := none
  acq : Acq := {}
  fil : Fil := {}
  legs : Tab Leg := []
  wins : Tab Window := []
  pwm : Pwm := {}
  gs : Gs := {}
  rt : Rt := {}
  charm : Charm := {}
  pv : Pv := {}
  setr : Setter := {}
  loupe : Loupe := {}
  cask : Casket := {}
  carat : Carat := {}
  sec : Sec := {}
  gd : Gd := {}
  clasp : Clasp := {}
  clk : Clk := {}
  hold : Hold := {}
  boot : Boot := {}
  can : Can := {}
  lanes : Tab Lane := []
  eth : Tab Eth := []
  chain : Chain := {}
  time : Time := {}
  pnd : Pnd := {}
  /-- A counter of the model's own: each reading of a free value takes the next number. -/
  free : Nat := 0
  deriving DecidableEq, Repr

/-- The whole state. -/
structure State where
  /-- The command slots and the completion queue of the host window (R351), by byte address; an unlisted byte reads
  0x00, the reset value of R357 and R361. -/
  hostMem : List Host.Cell := []
  dev : Dev := {}
  /-- The commands that wait, first in, first out. -/
  pending : List Instr := []
  deriving DecidableEq, Repr

/-- Why the machine could stop with a fault. Nothing raises one: the spec lets no command stop the block.
Log entry 146 (DESIGN CHOICE). -/
inductive Fault where
  /-- Raised by no meaning. It is here because the interface wants a type of faults. Safe. -/
  | unused
  deriving DecidableEq, Repr

/-- Why the machine could refuse a command. Log entry 146 (DESIGN CHOICE). -/
inductive Refusal where
  /-- A command whose meaning has not been written. Safe. -/
  | notModelled (mnemonic : String)
  deriving DecidableEq, Repr

/-- The block before any supply is applied: OFF, every register at the value that the spec gives for reset, or at the
value that the assumption log names (entries 3 and 4). Log entries 3 (DESIGN CHOICE), 4 (DEDUCED). -/
def State.reset : State := {}

end Sys2Proof.Machine
end

