-- ==== Sys2Proof/Machine/Params.lean ====
section
/-!
DEFINITION. The parameters of the device (R374 to R378): for each one its size, its last index, its kind, classes,
group, type, range and factory value, as the parameter tables of the chapters give them. Ranges and factory values
are counts as they travel (R376, R586).
-/
namespace Sys2Proof.Machine

/-- The descriptor of a parameter (R378) with its range and factory value. -/
structure Desc where
  pid : Nat
  /-- Number of instances, MAXIDX + 1. -/
  n : Nat
  /-- 0 RO, 1 committed, 2 immediate-acting, 3 WO, 4 banked. -/
  kind : Nat
  /-- Class of a PSET, and of a COMMIT without state conditions. -/
  cls : Nat
  ccls : Nat
  kept : Bool
  group : Nat
  vsize : Nat
  typ : Nat
  lo : Int
  hi : Int
  fac : Int
  deriving DecidableEq, Repr

/-- Parameters of area 0x0, part 0 (R22, R23, R373, R396, R477, R554). -/
def params0part0 : List Desc := [
  ⟨0x0002, 1, 0, 0, 2, false, 0xFF, 4, 1, 0, 0, 0⟩,
  ⟨0x0010, 1, 2, 1, 2, false, 0xFF, 4, 1, 0, 15, 0⟩,
  ⟨0x0011, 1, 0, 0, 2, false, 0xFF, 4, 1, 0, 0, 0⟩,
  ⟨0x0020, 128, 1, 2, 2, true, 0x00, 4, 1, 0, 4, 4⟩,
  ⟨0x0023, 1, 1, 2, 2, true, 0x00, 4, 1, 10, 10000, 100⟩,
  ⟨0x0024, 1, 1, 2, 2, true, 0x00, 4, 1, 10, 86400, 600⟩,
  ⟨0x0031, 1, 3, 2, 2, false, 0xFF, 4, 1, 0, 4294967295, 0⟩,
  ⟨0x0032, 1, 0, 0, 2, false, 0xFF, 4, 1, 0, 4294967295, 0⟩,
  ⟨0x0033, 1, 0, 0, 2, true, 0xFF, 4, 1, 0, 4294967295, 0⟩,
  ⟨0x0034, 1, 0, 0, 2, false, 0xFF, 4, 1, 0, 2, 0⟩,
  ⟨0x0035, 1, 0, 0, 2, false, 0xFF, 4, 1, 0, 65535, 0⟩,
  ⟨0x0036, 1, 0, 0, 2, false, 0xFF, 4, 1, 0, 65535, 0⟩,
  ⟨0x0037, 1, 0, 0, 2, false, 0xFF, 4, 1, 0, 0, 0⟩,
  ⟨0x0040, 65536, 0, 0, 2, false, 0xFF, 8, 8, 0, 0, 0⟩,
  ⟨0x0050, 1, 2, 1, 2, false, 0xFF, 4, 1, 1048576, 8388607, 1048576⟩,
  ⟨0x0051, 65536, 2, 1, 2, false, 0xFF, 8, 8, 0, 0, 0⟩,
  ⟨0x0052, 65536, 1, 2, 2, true, 0x00, 4, 1, 0, 7, 0⟩]

/-- Parameters of area 0x0. -/
def params0 : List Desc := params0part0

/-- Parameters of area 0x1, part 0 (R45). -/
def params1part0 : List Desc := [
  ⟨0x1000, 13, 1, 2, 2, true, 0x01, 4, 1, 0, 2, 0⟩,
  ⟨0x1001, 13, 1, 2, 2, true, 0x01, 4, 1, 0, 65535, 0⟩,
  ⟨0x1002, 13, 1, 2, 2, true, 0x01, 4, 1, 0, 55, 0⟩,
  ⟨0x1003, 13, 1, 2, 2, true, 0x01, 4, 1, 0, 2, 0⟩,
  ⟨0x1004, 13, 1, 2, 2, true, 0x01, 4, 1, 0, 65535, 0⟩,
  ⟨0x1005, 13, 1, 2, 2, true, 0x01, 4, 1, 0, 7, 1⟩,
  ⟨0x1006, 13, 1, 2, 2, true, 0x01, 4, 1, 0, 7, 5⟩,
  ⟨0x1007, 13, 0, 0, 2, false, 0xFF, 4, 1, 0, 65535, 0⟩,
  ⟨0x1010, 8, 1, 2, 2, true, 0x01, 4, 1, 0, 4294967295, 0⟩,
  ⟨0x1100, 168, 1, 2, 2, true, 0x01, 4, 1, 0, 3, 0⟩,
  ⟨0x1101, 168, 1, 2, 2, true, 0x01, 4, 1, 0, 3, 0⟩,
  ⟨0x1102, 168, 1, 2, 2, true, 0x01, 4, 1, 0, 3, 0⟩,
  ⟨0x1103, 168, 1, 2, 2, true, 0x01, 4, 1, 0, 8, 0⟩,
  ⟨0x1104, 168, 1, 2, 2, true, 0x01, 4, 3, 0, 0, 1065353216⟩,
  ⟨0x1105, 168, 1, 2, 2, true, 0x01, 4, 1, 1000, 65535000, 100000⟩,
  ⟨0x1106, 168, 1, 2, 2, true, 0x01, 4, 1, 5, 500, 10⟩,
  ⟨0x1107, 672, 0, 0, 2, true, 0xFF, 4, 2, (-8388608), 8388607, 0⟩,
  ⟨0x1108, 672, 0, 0, 2, true, 0xFF, 4, 1, 536870912, 2147483648, 1073741824⟩,
  ⟨0x1109, 672, 0, 0, 2, true, 0xFF, 4, 1, 0, 3, 0⟩,
  ⟨0x110A, 672, 1, 2, 2, true, 0x01, 4, 1, 1, 1000, 50⟩,
  ⟨0x1200, 1, 1, 2, 2, true, 0x01, 4, 1, 0, 1, 1⟩,
  ⟨0x1201, 1, 1, 2, 2, true, 0x01, 4, 1, 1, 3600, 60⟩,
  ⟨0x1202, 1, 1, 2, 2, true, 0x01, 4, 1, 1, 64, 4⟩]

/-- Parameters of area 0x1. -/
def params1 : List Desc := params1part0

/-- Parameters of area 0x2, part 0 (R111). -/
def params2part0 : List Desc := [
  ⟨0x2000, 1, 0, 0, 2, false, 0xFF, 4, 1, 0, 1, 0⟩,
  ⟨0x2001, 1, 1, 2, 2, false, 0x02, 4, 1, 0, 1, 0⟩,
  ⟨0x2002, 1, 3, 2, 2, false, 0xFF, 4, 1, 1, 1, 0⟩,
  ⟨0x2003, 1, 0, 0, 2, false, 0xFF, 4, 1, 0, 10000, 0⟩,
  ⟨0x2010, 128, 1, 2, 2, true, 0x02, 4, 1, 0, 1, 0⟩,
  ⟨0x2011, 128, 1, 2, 2, true, 0x02, 4, 1, 1, 16, 1⟩,
  ⟨0x2012, 512, 1, 2, 2, true, 0x02, 4, 1, 0, 65535, 0⟩,
  ⟨0x2013, 128, 1, 2, 2, true, 0x02, 4, 1, 0, 15, 1⟩,
  ⟨0x2014, 128, 1, 2, 2, true, 0x02, 4, 1, 0, 3, 0⟩,
  ⟨0x2015, 128, 1, 2, 2, true, 0x02, 4, 1, 1, 200000, 10000⟩,
  ⟨0x2016, 128, 1, 2, 2, true, 0x02, 4, 2, (-8388608), 8388607, 8388607⟩,
  ⟨0x2017, 128, 1, 2, 2, true, 0x02, 4, 2, (-8388608), 8388607, (-8388608)⟩,
  ⟨0x2018, 128, 1, 2, 2, true, 0x02, 4, 1, 0, 65535, 0⟩,
  ⟨0x2019, 128, 1, 2, 2, true, 0x02, 4, 1, 0, 1, 0⟩,
  ⟨0x201A, 128, 1, 2, 2, true, 0x02, 4, 1, 1, 65535, 65535⟩,
  ⟨0x201B, 128, 0, 0, 2, false, 0xFF, 4, 1, 0, 65535, 0⟩,
  ⟨0x201C, 128, 0, 0, 2, false, 0xFF, 4, 1, 0, 65535, 0⟩,
  ⟨0x201D, 128, 0, 0, 2, false, 0xFF, 4, 1, 0, 0, 0⟩,
  ⟨0x2100, 2048, 4, 2, 2, true, 0x02, 20, 4, 0, 0, 268435456⟩,
  ⟨0x2101, 2048, 4, 2, 2, true, 0x02, 4, 2, (-8), 7, 0⟩,
  ⟨0x2102, 2048, 4, 2, 2, true, 0x02, 4, 1, 0, 3, 0⟩,
  ⟨0x2103, 128, 4, 2, 2, true, 0x02, 16, 4, 0, 0, 268435456⟩,
  ⟨0x2104, 2048, 0, 0, 2, false, 0xFF, 20, 4, 0, 0, 0⟩,
  ⟨0x2200, 128, 1, 2, 2, true, 0x02, 4, 1, 0, 3, 0⟩,
  ⟨0x2201, 128, 1, 2, 2, true, 0x02, 4, 1, 0, 167, 0⟩,
  ⟨0x2202, 128, 2, 1, 2, true, 0xFF, 4, 2, (-8388608), 8388607, 0⟩,
  ⟨0x2203, 128, 1, 2, 2, true, 0x02, 4, 3, 0, 0, 1065353216⟩,
  ⟨0x2204, 128, 1, 2, 2, true, 0x02, 4, 3, 0, 0, 0⟩,
  ⟨0x2205, 128, 1, 2, 2, true, 0x02, 4, 1, 0, 8388607, 0⟩,
  ⟨0x2206, 128, 1, 2, 2, true, 0x02, 4, 1, 0, 2, 0⟩,
  ⟨0x2207, 128, 1, 2, 2, true, 0x02, 4, 1, 1, 10000, 100⟩,
  ⟨0x2210, 4, 1, 2, 2, true, 0x02, 4, 1, 0, 255, 4⟩,
  ⟨0x2211, 4, 1, 2, 2, true, 0x02, 4, 1, 0, 1, 0⟩,
  ⟨0x2300, 16, 1, 2, 2, true, 0x02, 4, 1, 0, 4294967295, 12288⟩,
  ⟨0x2301, 16, 1, 2, 2, true, 0x02, 4, 1, 1, 65536, 1⟩,
  ⟨0x2302, 16, 1, 2, 2, true, 0x02, 4, 1, 0, 2, 0⟩,
  ⟨0x2303, 16, 1, 2, 2, true, 0x02, 4, 1, 0, 65535, 768⟩,
  ⟨0x2304, 16, 1, 2, 2, true, 0x02, 4, 1, 0, 65535, 32768⟩,
  ⟨0x2305, 16, 1, 2, 2, true, 0x02, 4, 1, 0, 15, 0⟩,
  ⟨0x2306, 16, 1, 2, 2, true, 0x02, 4, 2, (-8388608), 8388607, 0⟩,
  ⟨0x2307, 16, 0, 0, 2, false, 0xFF, 4, 1, 0, 65535, 0⟩,
  ⟨0x2308, 16, 3, 1, 2, false, 0xFF, 4, 1, 1, 1, 0⟩,
  ⟨0x2309, 16, 1, 2, 2, true, 0x02, 4, 1, 0, 1, 1⟩]

/-- Parameters of area 0x2. -/
def params2 : List Desc := params2part0

/-- Parameters of area 0x3, part 0 (R145). -/
def params3part0 : List Desc := [
  ⟨0x3100, 48, 1, 2, 2, true, 0x03, 4, 1, 0, 15, 0⟩,
  ⟨0x3101, 48, 1, 2, 2, true, 0xFE, 4, 1, 0, 15, 0⟩,
  ⟨0x3102, 48, 1, 2, 2, true, 0xFE, 4, 1, 0, 1, 1⟩,
  ⟨0x3103, 48, 1, 2, 2, true, 0xFE, 4, 1, 0, 1, 0⟩,
  ⟨0x3104, 48, 1, 2, 2, true, 0xFE, 4, 1, 2000, 400000, 40000⟩,
  ⟨0x3105, 48, 1, 2, 2, true, 0xFE, 4, 1, 0, 399999, 0⟩,
  ⟨0x3106, 48, 1, 2, 2, true, 0xFE, 4, 1, 0, 6400000, 0⟩,
  ⟨0x3107, 48, 1, 2, 2, true, 0xFE, 4, 1, 0, 1, 0⟩,
  ⟨0x3108, 48, 1, 2, 2, true, 0xFE, 4, 1, 0, 1, 0⟩,
  ⟨0x3109, 48, 1, 2, 2, true, 0xFE, 4, 1, 0, 16383, 6400⟩,
  ⟨0x310A, 48, 1, 2, 2, true, 0xFE, 4, 1, 0, 16383, 6400⟩,
  ⟨0x310B, 48, 1, 2, 2, true, 0xFE, 4, 1, 0, 16383, 1600⟩,
  ⟨0x310C, 48, 1, 2, 2, true, 0xFE, 4, 1, 0, 255, 8⟩,
  ⟨0x310D, 48, 1, 2, 2, true, 0xFE, 4, 1, 0, 65535, 400⟩,
  ⟨0x3110, 48, 1, 2, 2, true, 0xFE, 4, 1, 0, 3, 2⟩,
  ⟨0x3111, 48, 1, 2, 2, true, 0xFE, 4, 1, 1, 16, 5⟩,
  ⟨0x3112, 48, 1, 2, 2, true, 0xFE, 4, 1, 0, 1, 0⟩,
  ⟨0x3113, 48, 3, 2, 2, false, 0xFF, 4, 1, 0, 7, 0⟩,
  ⟨0x3120, 48, 1, 2, 2, true, 0xFE, 4, 1, 0, 1, 0⟩,
  ⟨0x3121, 48, 1, 2, 2, true, 0xFE, 4, 1, 1, 15, 3⟩,
  ⟨0x3122, 48, 1, 2, 2, true, 0xFE, 4, 1, 0, 1, 0⟩,
  ⟨0x3123, 48, 1, 2, 2, true, 0xFE, 4, 1, 1, 255, 5⟩,
  ⟨0x3124, 48, 1, 2, 2, true, 0xFE, 4, 1, 1, 255, 3⟩,
  ⟨0x3130, 6, 1, 2, 2, true, 0x03, 4, 1, 1, 255, 10⟩,
  ⟨0x3131, 6, 1, 2, 2, true, 0x03, 4, 1, 0, 1, 0⟩,
  ⟨0x3132, 6, 3, 1, 2, false, 0xFF, 4, 1, 1, 1, 0⟩,
  ⟨0x3140, 1, 1, 2, 2, true, 0x03, 4, 1, 0, 1, 0⟩,
  ⟨0x3141, 1, 1, 2, 2, true, 0x03, 4, 1, 1, 255, 40⟩,
  ⟨0x3150, 48, 0, 0, 2, false, 0xFF, 4, 1, 0, 0, 0⟩,
  ⟨0x3151, 48, 3, 1, 2, false, 0xFF, 4, 1, 1, 1, 0⟩]

/-- Parameters of area 0x3. -/
def params3 : List Desc := params3part0

/-- Parameters of area 0x4, part 0 (R170). -/
def params4part0 : List Desc := [
  ⟨0x4000, 56, 1, 2, 2, true, 0x04, 4, 1, 0, 3, 0⟩,
  ⟨0x4001, 56, 1, 2, 2, true, 0x04, 4, 1, 0, 167, 0⟩,
  ⟨0x4002, 56, 1, 2, 2, true, 0x04, 4, 1, 0, 1, 0⟩,
  ⟨0x4003, 56, 1, 2, 2, true, 0x04, 4, 1, 0, 3, 3⟩,
  ⟨0x4004, 56, 1, 2, 2, true, 0x04, 4, 2, (-512), 511, 511⟩,
  ⟨0x4005, 56, 1, 2, 2, true, 0x04, 4, 2, (-512), 511, 511⟩,
  ⟨0x4006, 56, 1, 2, 2, true, 0x04, 4, 2, (-512), 511, (-512)⟩,
  ⟨0x4007, 56, 1, 2, 2, true, 0x04, 4, 2, (-512), 511, (-512)⟩,
  ⟨0x4008, 56, 1, 2, 2, true, 0x04, 4, 1, 1, 15, 4⟩,
  ⟨0x4009, 56, 1, 2, 2, true, 0x04, 4, 1, 1, 15, 3⟩,
  ⟨0x400A, 56, 1, 2, 2, true, 0x04, 4, 1, 1, 255, 8⟩,
  ⟨0x4010, 56, 3, 1, 2, false, 0xFF, 4, 1, 1, 1, 0⟩,
  ⟨0x4011, 56, 3, 2, 2, false, 0xFF, 4, 1, 1, 2, 0⟩,
  ⟨0x4012, 56, 0, 0, 2, false, 0xFF, 4, 1, 0, 6, 0⟩,
  ⟨0x4013, 56, 0, 0, 2, false, 0xFF, 4, 1, 0, 255, 0⟩,
  ⟨0x4014, 56, 0, 0, 2, false, 0xFF, 4, 1, 0, 65535, 0⟩,
  ⟨0x4015, 56, 0, 0, 2, false, 0xFF, 4, 1, 0, 0, 0⟩,
  ⟨0x4016, 56, 0, 0, 2, false, 0xFF, 4, 1, 0, 65535, 0⟩]

/-- Parameters of area 0x4. -/
def params4 : List Desc := params4part0

/-- Parameters of area 0x5, part 0 (R200). -/
def params5part0 : List Desc := [
  ⟨0x5000, 1, 1, 2, 2, true, 0x05, 4, 1, 10000, 8000000, 1000000⟩,
  ⟨0x5001, 1, 1, 2, 2, true, 0x05, 4, 1, 1000, 15000, 4000⟩,
  ⟨0x5002, 1, 1, 2, 2, true, 0x05, 4, 1, 50, 60, 50⟩,
  ⟨0x5003, 1, 1, 2, 2, true, 0x05, 4, 1, 0, 110, 64⟩,
  ⟨0x5004, 1, 1, 2, 2, true, 0x05, 4, 1, 1, 4, 1⟩,
  ⟨0x5010, 1, 1, 2, 2, true, 0x05, 4, 1, 0, 167, 0⟩,
  ⟨0x5011, 1, 1, 2, 2, true, 0x05, 4, 1, 0, 167, 1⟩,
  ⟨0x5012, 1, 1, 2, 2, true, 0x05, 4, 1, 0, 167, 2⟩,
  ⟨0x5013, 1, 1, 2, 2, true, 0x05, 4, 1, 0, 167, 3⟩,
  ⟨0x5020, 1, 1, 2, 2, true, 0x05, 4, 1, 500, 2000, 1414⟩,
  ⟨0x5021, 1, 1, 2, 2, true, 0x05, 4, 1, 10, 500, 100⟩,
  ⟨0x5022, 1, 1, 2, 2, true, 0x05, 4, 1, 50, 900, 200⟩,
  ⟨0x5023, 1, 1, 2, 2, true, 0x05, 4, 1, 1, 100, 20⟩,
  ⟨0x5024, 1, 1, 2, 2, true, 0x05, 4, 1, 1, 1000, 20⟩,
  ⟨0x5025, 1, 1, 2, 2, true, 0x05, 4, 1, 10, 900, 100⟩,
  ⟨0x5026, 1, 1, 2, 2, true, 0x05, 4, 1, 50, 600, 300⟩,
  ⟨0x5027, 1, 1, 2, 2, true, 0x05, 4, 1, 10, 1000, 500⟩,
  ⟨0x5028, 1, 1, 2, 2, true, 0x05, 4, 1, 1, 1000, 20⟩,
  ⟨0x5030, 1, 1, 2, 2, true, 0x05, 4, 1, 0, 1, 0⟩,
  ⟨0x5031, 1, 2, 1, 2, false, 0xFF, 4, 2, (-15000), 15000, 0⟩,
  ⟨0x5032, 1, 1, 2, 2, true, 0x05, 4, 1, 0, 8388607, 0⟩,
  ⟨0x5033, 1, 1, 2, 2, true, 0x05, 4, 1, 0, 2, 0⟩,
  ⟨0x5034, 1, 2, 1, 2, false, 0xFF, 4, 2, (-10000), 10000, 0⟩,
  ⟨0x5035, 1, 2, 1, 2, false, 0xFF, 4, 2, (-1000), 1000, 1000⟩,
  ⟨0x5036, 1, 1, 2, 2, true, 0x05, 4, 1, 0, 5000, 0⟩,
  ⟨0x5037, 1, 1, 2, 2, true, 0x05, 4, 1, 1, 10000, 100⟩,
  ⟨0x5038, 1, 1, 2, 2, true, 0x05, 4, 1, 1, 10000, 100⟩,
  ⟨0x5039, 1, 1, 2, 2, true, 0x05, 4, 1, 1, 10000, 1000⟩,
  ⟨0x503A, 1, 1, 2, 2, true, 0x05, 4, 1, 100, 1200, 1000⟩,
  ⟨0x503B, 1, 1, 2, 2, true, 0x05, 4, 1, 0, 1, 0⟩,
  ⟨0x503C, 1, 1, 2, 2, true, 0x05, 4, 1, 0, 8388607, 0⟩,
  ⟨0x503D, 1, 1, 2, 2, true, 0x05, 4, 1, 10, 150, 110⟩,
  ⟨0x5040, 8, 1, 2, 2, true, 0x05, 4, 1, 0, 25, 0⟩,
  ⟨0x5041, 8, 1, 2, 2, true, 0x05, 4, 1, 0, 2000, 0⟩,
  ⟨0x5042, 1, 1, 2, 2, true, 0x05, 4, 1, 0, 1, 0⟩,
  ⟨0x5043, 1, 1, 2, 2, true, 0x05, 4, 3, 0, 0, 1065353216⟩,
  ⟨0x5044, 1, 1, 2, 2, true, 0x05, 4, 1, 0, 2000, 0⟩,
  ⟨0x5045, 1, 1, 2, 2, true, 0x05, 4, 1, 100, 20000, 3000⟩,
  ⟨0x5050, 1, 1, 2, 2, true, 0x05, 4, 1, 0, 2, 2⟩,
  ⟨0x5051, 1, 1, 2, 2, true, 0x05, 4, 1, 1000, 15000, 10000⟩,
  ⟨0x5052, 1, 1, 2, 2, true, 0x05, 4, 1, 5, 200, 50⟩,
  ⟨0x5053, 1, 1, 2, 2, true, 0x05, 4, 3, 0, 0, 1073741824⟩,
  ⟨0x5054, 1, 1, 2, 2, true, 0x05, 4, 1, 0, 10000, 20⟩,
  ⟨0x5055, 1, 1, 2, 2, true, 0x05, 4, 1, 0, 200, 100⟩,
  ⟨0x5060, 16, 1, 2, 2, true, 0x05, 4, 1, 0, 4294967295, 0⟩]

/-- Parameters of area 0x5, part 1 (R200, R223). -/
def params5part1 : List Desc := [
  ⟨0x5061, 16, 1, 2, 2, true, 0x05, 4, 1, 0, 3, 0⟩,
  ⟨0x5070, 1, 1, 2, 2, true, 0x05, 4, 1, 0, 1, 0⟩,
  ⟨0x5071, 1, 1, 2, 2, true, 0x05, 4, 1, 1, 200, 40⟩,
  ⟨0x5072, 1, 1, 2, 2, true, 0x05, 4, 1, 0, 200, 20⟩,
  ⟨0x5073, 1, 1, 2, 2, true, 0x05, 4, 1, 0, 50, 5⟩,
  ⟨0x5074, 1, 1, 2, 2, true, 0x05, 4, 1, 0, 500, 20⟩,
  ⟨0x5075, 1, 1, 2, 2, true, 0x05, 4, 1, 50, 800, 250⟩,
  ⟨0x5076, 1, 1, 2, 2, true, 0x05, 4, 1, 10, 10000, 200⟩,
  ⟨0x5077, 1, 1, 2, 2, true, 0x05, 4, 1, 1, 100, 5⟩,
  ⟨0x5100, 1, 1, 2, 2, true, 0x05, 4, 1, 0, 1, 0⟩,
  ⟨0x5101, 1, 1, 2, 2, true, 0x05, 4, 1, 0, 1, 0⟩,
  ⟨0x5102, 1, 1, 2, 2, true, 0x05, 4, 1, 500, 1000, 900⟩,
  ⟨0x5103, 1, 1, 2, 2, true, 0x05, 4, 1, 1000, 1500, 1100⟩,
  ⟨0x5104, 1, 1, 2, 2, true, 0x05, 4, 1, 0, 100, 20⟩,
  ⟨0x5105, 1, 1, 2, 2, true, 0x05, 4, 1, 4000, 7000, 4900⟩,
  ⟨0x5106, 1, 1, 2, 2, true, 0x05, 4, 1, 4000, 7000, 5100⟩,
  ⟨0x5107, 1, 1, 2, 2, true, 0x05, 4, 1, 0, 100, 10⟩,
  ⟨0x5108, 1, 1, 2, 2, true, 0x05, 4, 1, 0, 1000, 700⟩,
  ⟨0x5109, 1, 1, 2, 2, true, 0x05, 4, 1, 1000, 2000, 1250⟩,
  ⟨0x510A, 1, 1, 2, 2, true, 0x05, 4, 1, 1, 20, 2⟩,
  ⟨0x510B, 1, 1, 2, 2, true, 0x05, 4, 1, 1, 10000, 20⟩,
  ⟨0x510C, 1, 1, 2, 2, true, 0x05, 4, 1, 0, 60000, 500⟩,
  ⟨0x510D, 1, 1, 2, 2, true, 0x05, 4, 1, 300, 900, 600⟩,
  ⟨0x5110, 1, 1, 2, 2, true, 0x05, 4, 1, 1, 32, 1⟩,
  ⟨0x5111, 32, 1, 2, 2, true, 0x05, 4, 1, 0, 4294967295, 0⟩,
  ⟨0x5112, 32, 1, 2, 2, true, 0x05, 4, 1, 0, 1000, 900⟩,
  ⟨0x5113, 32, 1, 2, 2, true, 0x05, 4, 1, 1000, 2000, 1100⟩,
  ⟨0x5114, 32, 1, 2, 2, true, 0x05, 4, 1, 0, 1, 0⟩,
  ⟨0x5120, 1, 1, 2, 2, true, 0x05, 4, 1, 1, 32, 1⟩,
  ⟨0x5121, 32, 1, 2, 2, true, 0x05, 4, 1, 0, 4294967295, 0⟩,
  ⟨0x5122, 32, 1, 2, 2, true, 0x05, 4, 1, 4000, 7000, 4900⟩,
  ⟨0x5123, 32, 1, 2, 2, true, 0x05, 4, 1, 4000, 7000, 5100⟩,
  ⟨0x5124, 32, 1, 2, 2, true, 0x05, 4, 1, 0, 1, 0⟩,
  ⟨0x5130, 1, 1, 2, 2, true, 0x05, 4, 1, 0, 1000, 200⟩,
  ⟨0x5131, 1, 1, 2, 2, true, 0x05, 4, 1, 0, 1000, 0⟩,
  ⟨0x5132, 1, 1, 2, 2, true, 0x05, 4, 1, 0, 200, 100⟩,
  ⟨0x5133, 1, 1, 2, 2, true, 0x05, 4, 1, 10, 150, 110⟩,
  ⟨0x5134, 1, 1, 2, 2, true, 0x05, 4, 1, 0, 1, 0⟩,
  ⟨0x5135, 1, 1, 2, 2, true, 0x05, 4, 1, 0, 2, 1⟩,
  ⟨0x5136, 1, 1, 2, 2, true, 0x05, 4, 1, 1, 10000, 200⟩,
  ⟨0x5140, 1, 1, 2, 2, true, 0x05, 4, 1, 0, 4, 4⟩,
  ⟨0x5141, 1, 1, 2, 2, true, 0x05, 4, 1, 1, 200, 30⟩,
  ⟨0x5142, 1, 1, 2, 2, true, 0x05, 4, 1, 1, 50, 10⟩]

/-- Parameters of area 0x5. -/
def params5 : List Desc := params5part0 ++ params5part1

/-- Parameters of area 0x6, part 0 (R250). -/
def params6part0 : List Desc := [
  ⟨0x6000, 1, 1, 2, 2, true, 0x06, 4, 1, 0, 1, 0⟩,
  ⟨0x6001, 1, 1, 2, 2, true, 0x06, 4, 1, 0, 1, 1⟩,
  ⟨0x6002, 1, 1, 2, 2, true, 0x06, 4, 1, 0, 1, 0⟩,
  ⟨0x6003, 1, 1, 2, 2, true, 0x06, 4, 1, 100, 60000, 2000⟩,
  ⟨0x6004, 1, 1, 2, 2, true, 0x06, 4, 1, 0, 3600, 300⟩,
  ⟨0x6010, 1, 1, 2, 2, true, 0x06, 4, 1, 0, 1023, 0⟩,
  ⟨0x6011, 1, 1, 2, 2, true, 0x06, 4, 1, 10, 500, 50⟩,
  ⟨0x6012, 1, 1, 2, 2, true, 0x06, 4, 1, 0, 90, 30⟩,
  ⟨0x6013, 1, 1, 2, 2, true, 0x06, 4, 1, 5, 500, 30⟩,
  ⟨0x6014, 1, 1, 2, 2, true, 0x06, 4, 1, 1, 64, 16⟩,
  ⟨0x6015, 1, 1, 2, 2, true, 0x06, 4, 1, 1, 64, 4⟩,
  ⟨0x6016, 1, 1, 2, 2, true, 0x06, 4, 1, 100, 10000, 1000⟩,
  ⟨0x6017, 1, 0, 0, 2, false, 0xFF, 4, 1, 1, 256, 1⟩,
  ⟨0x6020, 1, 1, 2, 2, true, 0x06, 4, 1, 500, 1000, 920⟩,
  ⟨0x6021, 1, 1, 2, 2, true, 0x06, 4, 1, 1000, 1500, 1080⟩,
  ⟨0x6022, 1, 1, 2, 2, true, 0x06, 4, 1, 4000, 7000, 4980⟩,
  ⟨0x6023, 1, 1, 2, 2, true, 0x06, 4, 1, 4000, 7000, 5020⟩,
  ⟨0x6024, 1, 1, 2, 2, true, 0x06, 4, 1, 5, 1000, 50⟩,
  ⟨0x6025, 1, 1, 2, 2, true, 0x06, 4, 1, 10, 1000, 200⟩,
  ⟨0x6026, 1, 1, 2, 2, true, 0x06, 4, 1, 10, 2000, 300⟩,
  ⟨0x6027, 1, 1, 2, 2, true, 0x06, 4, 1, 10, 300, 80⟩,
  ⟨0x6028, 1, 1, 2, 2, true, 0x06, 4, 1, 0, 2000, 200⟩,
  ⟨0x6030, 1, 1, 2, 2, true, 0x06, 4, 1, 1, 500, 20⟩,
  ⟨0x6031, 1, 1, 2, 2, true, 0x06, 4, 1, 0, 2, 0⟩,
  ⟨0x6032, 1, 1, 2, 2, true, 0x06, 4, 1, 1, 3600, 60⟩,
  ⟨0x6033, 1, 1, 2, 2, true, 0x06, 4, 1, 0, 100, 50⟩]

/-- Parameters of area 0x6. -/
def params6 : List Desc := params6part0

/-- Parameters of area 0x7, part 0 (R270). -/
def params7part0 : List Desc := [
  ⟨0x7000, 1, 1, 2, 2, true, 0x07, 4, 1, 0, 128, 96⟩,
  ⟨0x7001, 1, 1, 2, 2, true, 0x07, 4, 1, 0, 16, 0⟩,
  ⟨0x7002, 1, 1, 2, 2, true, 0x07, 4, 1, 0, 4, 4⟩,
  ⟨0x7003, 1, 1, 2, 2, true, 0x07, 4, 1, 2, 1000, 20⟩,
  ⟨0x7004, 1, 1, 2, 2, true, 0x07, 4, 1, 1, 500, 6⟩,
  ⟨0x7005, 1, 1, 2, 2, true, 0x07, 4, 1, 0, 100, 5⟩,
  ⟨0x7006, 1, 1, 2, 2, true, 0x07, 4, 1, 1, 500, 20⟩,
  ⟨0x7007, 1, 1, 2, 2, true, 0x07, 4, 1, 1, 100, 20⟩,
  ⟨0x7008, 1, 1, 2, 2, true, 0x07, 4, 1, 1, 200, 10⟩,
  ⟨0x7010, 1, 1, 2, 2, true, 0x07, 4, 1, 0, 1440, 15⟩,
  ⟨0x7011, 1, 1, 2, 2, true, 0x07, 4, 1, 10, 3600, 60⟩,
  ⟨0x7012, 1, 1, 2, 2, true, 0x07, 4, 1, 1, 600, 30⟩,
  ⟨0x7013, 1, 1, 2, 2, true, 0x07, 4, 1, 1, 31, 5⟩,
  ⟨0x7014, 1, 1, 2, 2, true, 0x07, 4, 1, 1, 50, 5⟩,
  ⟨0x7015, 1, 1, 2, 2, true, 0x07, 4, 1, 0, 1, 1⟩,
  ⟨0x7020, 1, 1, 2, 2, true, 0x07, 4, 1, 2, 90, 15⟩,
  ⟨0x7021, 1, 1, 2, 2, true, 0x07, 4, 1, 40, 95, 70⟩,
  ⟨0x7022, 1, 1, 2, 2, true, 0x07, 4, 1, 50, 100, 90⟩,
  ⟨0x7023, 1, 1, 2, 2, true, 0x07, 4, 1, 10, 100, 80⟩,
  ⟨0x7024, 1, 1, 2, 2, true, 0x07, 4, 1, 1, 600, 30⟩,
  ⟨0x7030, 1, 1, 2, 2, true, 0x07, 4, 1, 0, 15000, 5000⟩,
  ⟨0x7031, 1, 1, 2, 2, true, 0x07, 4, 1, 1, 3600, 60⟩,
  ⟨0x7032, 1, 1, 2, 2, true, 0x07, 4, 1, 0, 200, 10⟩,
  ⟨0x7033, 1, 1, 2, 2, true, 0x07, 4, 1, 1, 3600, 300⟩,
  ⟨0x7034, 1, 1, 2, 2, true, 0x07, 4, 1, 1, 10000, 100⟩,
  ⟨0x7035, 1, 1, 2, 2, true, 0x07, 4, 1, 0, 100, 20⟩,
  ⟨0x7040, 1, 1, 2, 2, true, 0x07, 4, 3, 0, 0, 1056964608⟩,
  ⟨0x7041, 1, 1, 2, 2, true, 0x07, 4, 1, 0, 2000, 50⟩,
  ⟨0x7042, 1, 1, 2, 2, true, 0x07, 4, 3, 0, 0, 1065353216⟩,
  ⟨0x7043, 1, 1, 2, 2, true, 0x07, 4, 1, 0, 5000, 500⟩,
  ⟨0x7100, 16, 1, 2, 2, true, 0x07, 4, 1, 0, 47, 0⟩,
  ⟨0x7101, 16, 1, 2, 2, true, 0x07, 4, 1, 0, 8, 0⟩,
  ⟨0x7102, 16, 1, 2, 2, true, 0x07, 4, 1, 0, 167, 0⟩,
  ⟨0x7103, 16, 1, 2, 2, true, 0x07, 4, 1, 0, 15000, 2000⟩,
  ⟨0x7104, 16, 1, 2, 2, true, 0x07, 4, 1, 0, 15000, 10000⟩,
  ⟨0x7105, 16, 1, 2, 2, true, 0x07, 4, 1, 1, 5000, 100⟩,
  ⟨0x7106, 16, 1, 2, 2, true, 0x07, 4, 1, 1, 4000, 100⟩,
  ⟨0x7107, 16, 2, 1, 2, false, 0xFF, 4, 1, 0, 1000, 1000⟩,
  ⟨0x7108, 16, 3, 1, 2, false, 0xFF, 4, 1, 1, 1, 0⟩,
  ⟨0x7109, 16, 0, 0, 2, false, 0xFF, 4, 1, 0, 0, 0⟩,
  ⟨0x710A, 16, 0, 0, 2, false, 0xFF, 4, 1, 0, 15000, 0⟩,
  ⟨0x7110, 48, 1, 2, 2, true, 0x07, 4, 1, 0, 167, 0⟩]

/-- Parameters of area 0x7. -/
def params7 : List Desc := params7part0

/-- Parameters of area 0x8, part 0 (R298). -/
def params8part0 : List Desc := [
  ⟨0x8001, 1, 1, 2, 2, true, 0x08, 4, 1, 0, 1, 0⟩,
  ⟨0x8002, 1, 1, 2, 2, true, 0x08, 4, 1, 1, 16, 3⟩,
  ⟨0x8003, 1, 1, 2, 2, true, 0x08, 4, 1, 10, 120, 80⟩,
  ⟨0x8004, 1, 1, 2, 2, true, 0x08, 4, 1, 5, 100, 60⟩,
  ⟨0x8005, 1, 1, 2, 2, true, 0x08, 4, 1, 1, 600, 10⟩,
  ⟨0x8006, 1, 1, 2, 2, true, 0x08, 4, 1, 0, 1440, 60⟩,
  ⟨0x8007, 1, 1, 2, 2, true, 0x08, 4, 1, 1, 10000, 100⟩,
  ⟨0x8008, 1, 1, 2, 2, true, 0x08, 4, 1, 0, 1, 1⟩,
  ⟨0x8009, 1, 1, 2, 2, true, 0x08, 4, 1, 0, 1, 1⟩,
  ⟨0x8010, 1, 1, 2, 2, true, 0x08, 4, 1, 0, 128, 112⟩,
  ⟨0x8011, 1, 1, 2, 2, true, 0x08, 4, 1, 0, 16, 0⟩,
  ⟨0x8012, 1, 1, 2, 2, true, 0x08, 4, 1, 0, 500, 100⟩,
  ⟨0x8013, 1, 1, 2, 2, true, 0x08, 4, 1, 10, 10000, 500⟩,
  ⟨0x8014, 1, 1, 2, 2, true, 0x08, 4, 1, 0, 600, 10⟩,
  ⟨0x8015, 1, 1, 2, 2, true, 0x08, 4, 3, 0, 0, 1065353216⟩,
  ⟨0x8016, 1, 1, 2, 2, true, 0x08, 4, 1, 0, 5000, 500⟩,
  ⟨0x8017, 1, 1, 2, 2, true, 0x08, 4, 1, 1, 50, 5⟩,
  ⟨0x8020, 12, 1, 2, 2, true, 0x08, 4, 1, 0, 3, 1⟩,
  ⟨0x8030, 3, 1, 2, 2, true, 0x08, 4, 1, 0, 12, 8⟩,
  ⟨0x8031, 8, 1, 2, 2, true, 0x08, 4, 1, 0, 2, 0⟩,
  ⟨0x8032, 1, 1, 2, 2, true, 0x08, 4, 1, 1, 8760, 720⟩,
  ⟨0x8100, 16, 1, 2, 2, true, 0x08, 4, 1, 0, 47, 0⟩,
  ⟨0x8101, 16, 1, 2, 2, true, 0x08, 4, 1, 1, 8, 1⟩,
  ⟨0x8102, 16, 1, 2, 2, true, 0x08, 4, 1, 0, 167, 0⟩,
  ⟨0x8103, 16, 1, 2, 2, true, 0x08, 4, 1, 0, 8388603, 0⟩,
  ⟨0x8104, 16, 1, 2, 2, true, 0x08, 4, 1, 1, 10000, 100⟩,
  ⟨0x8110, 48, 1, 2, 2, true, 0x08, 4, 1, 0, 167, 0⟩,
  ⟨0x8120, 48, 0, 0, 2, true, 0xFF, 4, 1, 0, 4294967295, 0⟩,
  ⟨0x8130, 1, 0, 0, 2, true, 0xFF, 4, 1, 0, 4294967295, 0⟩]

/-- Parameters of area 0x8. -/
def params8 : List Desc := params8part0

/-- Parameters of area 0x9, part 0 (R320). -/
def params9part0 : List Desc := [
  ⟨0x9000, 1, 1, 2, 2, true, 0x09, 4, 1, 0, 1, 0⟩,
  ⟨0x9001, 3, 1, 2, 2, true, 0x09, 4, 1, 0, 167, 0⟩,
  ⟨0x9002, 4, 1, 2, 2, true, 0x09, 4, 1, 0, 255, 255⟩,
  ⟨0x9003, 1, 1, 2, 2, true, 0x09, 4, 1, 0, 1, 0⟩,
  ⟨0x9004, 168, 1, 2, 2, true, 0x09, 4, 1, 0, 5000, 5000⟩,
  ⟨0x9005, 168, 1, 2, 2, true, 0x09, 4, 1, 0, 5000, 5000⟩,
  ⟨0x9006, 1, 1, 2, 2, true, 0x09, 4, 1, 1, 20000, 1000⟩,
  ⟨0x9007, 1, 3, 2, 2, false, 0xFF, 4, 1, 0, 4294967295, 0⟩,
  ⟨0x9008, 3, 0, 0, 2, true, 0xFF, 4, 2, (-2000), 2000, 0⟩,
  ⟨0x9009, 1, 1, 2, 2, true, 0x09, 4, 1, 0, 1, 0⟩,
  ⟨0x900A, 1, 1, 2, 2, true, 0x09, 4, 1, 10, 3600, 60⟩,
  ⟨0x900B, 1, 3, 1, 2, false, 0xFF, 4, 1, 1, 1, 0⟩,
  ⟨0x900C, 1, 1, 2, 2, true, 0x09, 4, 1, 1, 10000, 8000⟩,
  ⟨0x9010, 32, 1, 2, 2, true, 0x09, 4, 1, 0, 255, 255⟩,
  ⟨0x9011, 32, 1, 2, 2, true, 0x09, 4, 1, 0, 255, 255⟩,
  ⟨0x9012, 32, 1, 2, 2, true, 0x09, 4, 1, 0, 1, 0⟩,
  ⟨0x9013, 32, 1, 2, 2, true, 0x09, 4, 1, 1, 10000, 100⟩]

/-- Parameters of area 0x9. -/
def params9 : List Desc := params9part0

/-- Parameters of area 0xA, part 0 (R348). -/
def paramsApart0 : List Desc := [
  ⟨0xA000, 4, 1, 2, 2, true, 0x0A, 4, 1, 0, 2, 0⟩,
  ⟨0xA001, 4, 1, 2, 2, true, 0x0A, 4, 1, 1, 16, 1⟩,
  ⟨0xA002, 4, 1, 2, 2, true, 0x0A, 4, 1, 64, 8388608, 65536⟩,
  ⟨0xA003, 4, 1, 2, 2, true, 0x0A, 4, 1, 0, 8388607, 32768⟩,
  ⟨0xA004, 16, 1, 2, 2, true, 0x0A, 4, 1, 0, 65535, 65535⟩,
  ⟨0xA005, 4, 1, 2, 2, true, 0x0A, 4, 1, 0, 255, 255⟩,
  ⟨0xA006, 4, 1, 2, 2, true, 0x0A, 4, 1, 0, 1, 0⟩,
  ⟨0xA007, 4, 1, 2, 2, true, 0x0A, 4, 1, 0, 60000, 0⟩,
  ⟨0xA008, 4, 3, 1, 2, false, 0xFF, 4, 1, 1, 1, 0⟩,
  ⟨0xA009, 4, 3, 1, 2, false, 0xFF, 4, 1, 1, 1, 0⟩,
  ⟨0xA00A, 4, 3, 1, 2, false, 0xFF, 4, 1, 1, 1, 0⟩,
  ⟨0xA00C, 4, 0, 0, 2, false, 0xFF, 4, 1, 0, 65535, 0⟩,
  ⟨0xA00D, 4, 0, 0, 2, false, 0xFF, 4, 1, 0, 65535, 0⟩,
  ⟨0xA00F, 4, 1, 2, 2, true, 0x0A, 4, 1, 1, 256, 1⟩,
  ⟨0xA010, 64, 1, 2, 2, true, 0x0A, 4, 1, 0, 65535, 0⟩,
  ⟨0xA020, 4, 1, 2, 2, true, 0x0A, 4, 1, 0, 4, 0⟩,
  ⟨0xA021, 4, 1, 2, 2, true, 0x0A, 4, 1, 0, 15, 0⟩,
  ⟨0xA022, 4, 1, 2, 2, true, 0x0A, 4, 1, 0, 1, 0⟩,
  ⟨0xA023, 4, 1, 2, 2, true, 0x0A, 4, 3, 0, 0, 0⟩,
  ⟨0xA024, 4, 1, 2, 2, true, 0x0A, 4, 3, 0, 0, 0⟩,
  ⟨0xA025, 4, 1, 2, 2, true, 0x0A, 4, 1, 0, 65535, 1⟩,
  ⟨0xA026, 4, 1, 2, 2, true, 0x0A, 4, 1, 1, 16777215, 65535⟩,
  ⟨0xA030, 16, 1, 2, 2, true, 0x0A, 4, 1, 0, 255, 255⟩,
  ⟨0xA031, 16, 1, 2, 2, true, 0x0A, 4, 1, 0, 255, 255⟩,
  ⟨0xA032, 16, 1, 2, 2, true, 0x0A, 4, 1, 0, 1, 0⟩,
  ⟨0xA033, 16, 1, 2, 2, true, 0x0A, 4, 2, (-60000), 60000, 0⟩,
  ⟨0xA034, 16, 1, 2, 2, true, 0x0A, 4, 1, 1, 32, 1⟩,
  ⟨0xA035, 512, 1, 2, 2, true, 0x0A, 4, 1, 0, 4294967295, 0⟩,
  ⟨0xA036, 512, 1, 2, 2, true, 0x0A, 4, 3, 0, 0, 4048155338⟩,
  ⟨0xA037, 512, 1, 2, 2, true, 0x0A, 4, 3, 0, 0, 1900671690⟩,
  ⟨0xA038, 512, 1, 2, 2, true, 0x0A, 4, 1, 0, 1, 0⟩]

/-- Parameters of area 0xA. -/
def paramsA : List Desc := paramsApart0

/-- Parameters of area 0xB, part 0 (R420). -/
def paramsBpart0 : List Desc := [
  ⟨0xB000, 12, 1, 2, 2, true, 0x0B, 4, 1, 0, 3, 0⟩,
  ⟨0xB001, 12, 1, 2, 2, true, 0x0B, 4, 1, 0, 1, 1⟩,
  ⟨0xB002, 12, 1, 2, 2, true, 0x0B, 4, 1, 1, 32, 2⟩,
  ⟨0xB003, 12, 1, 2, 2, true, 0x0B, 4, 1, 2, 256, 63⟩,
  ⟨0xB004, 12, 1, 2, 2, true, 0x0B, 4, 1, 1, 128, 16⟩,
  ⟨0xB005, 12, 1, 2, 2, true, 0x0B, 4, 1, 1, 128, 16⟩,
  ⟨0xB006, 12, 1, 2, 2, true, 0x0B, 4, 1, 1, 32, 2⟩,
  ⟨0xB007, 12, 1, 2, 2, true, 0x0B, 4, 1, 1, 32, 15⟩,
  ⟨0xB008, 12, 1, 2, 2, true, 0x0B, 4, 1, 1, 16, 4⟩,
  ⟨0xB009, 12, 1, 2, 2, true, 0x0B, 4, 1, 1, 16, 4⟩,
  ⟨0xB00A, 12, 1, 2, 2, true, 0x0B, 4, 1, 0, 127, 0⟩,
  ⟨0xB00B, 12, 1, 2, 2, true, 0x0B, 4, 1, 2, 120, 32⟩,
  ⟨0xB00C, 12, 1, 2, 2, true, 0x0B, 4, 1, 0, 512, 0⟩,
  ⟨0xB00D, 12, 1, 2, 2, true, 0x0B, 4, 1, 0, 1, 0⟩,
  ⟨0xB00E, 12, 1, 2, 2, true, 0x0B, 4, 1, 0, 1, 1⟩,
  ⟨0xB00F, 12, 1, 2, 2, true, 0x0B, 4, 1, 0, 10000, 100⟩,
  ⟨0xB010, 12, 3, 1, 2, false, 0xFF, 4, 1, 1, 1, 0⟩,
  ⟨0xB011, 12, 0, 0, 2, false, 0xFF, 4, 1, 0, 0, 0⟩,
  ⟨0xB012, 12, 0, 0, 2, false, 0xFF, 20, 7, 0, 0, 0⟩,
  ⟨0xB020, 6144, 1, 2, 2, true, 0x0B, 8, 5, 0, 0, 0⟩,
  ⟨0xB021, 96, 1, 2, 2, true, 0x0B, 8, 5, 0, 0, 0⟩,
  ⟨0xB100, 4096, 1, 2, 2, true, 0x0B, 4, 1, 0, 2, 0⟩,
  ⟨0xB101, 4096, 1, 2, 2, true, 0x0B, 4, 1, 0, 11, 0⟩,
  ⟨0xB102, 4096, 1, 2, 2, true, 0x0B, 4, 1, 1048576, 8388607, 1048576⟩,
  ⟨0xB103, 4096, 1, 2, 2, true, 0x0B, 4, 1, 0, 4096, 0⟩,
  ⟨0xB104, 4096, 1, 2, 2, true, 0x0B, 4, 1, 1, 7, 4⟩,
  ⟨0xB105, 4096, 1, 2, 2, true, 0x0B, 4, 1, 0, 2, 0⟩,
  ⟨0xB106, 4096, 1, 2, 2, true, 0x0B, 4, 1, 0, 4294967295, 0⟩,
  ⟨0xB107, 4096, 1, 2, 2, true, 0x0B, 4, 1, 10, 60000, 1000⟩,
  ⟨0xB108, 4096, 1, 2, 2, true, 0x0B, 4, 1, 1, 64, 2⟩,
  ⟨0xB110, 4096, 1, 2, 2, true, 0x0B, 4, 1, 65536, 8388607, 1048576⟩,
  ⟨0xB111, 4096, 1, 2, 2, true, 0x0B, 4, 1, 0, 4096, 0⟩,
  ⟨0xB112, 4096, 1, 2, 2, true, 0x0B, 4, 1, 1, 8, 4⟩,
  ⟨0xB113, 4096, 1, 2, 2, true, 0x0B, 4, 1, 0, 4294967295, 0⟩,
  ⟨0xB114, 4096, 1, 2, 2, true, 0x0B, 4, 1, 0, 60000, 0⟩,
  ⟨0xB115, 4096, 1, 2, 2, true, 0x0B, 4, 1, 0, 59999, 0⟩,
  ⟨0xB116, 4096, 1, 2, 2, true, 0x0B, 4, 1, 0, 1, 0⟩,
  ⟨0xB117, 4096, 1, 2, 2, true, 0x0B, 4, 1, 1, 10000, 10⟩,
  ⟨0xB118, 4096, 1, 2, 2, true, 0x0B, 4, 1, 0, 2, 0⟩,
  ⟨0xB120, 4096, 1, 2, 2, true, 0x0B, 4, 1, 0, 1, 0⟩,
  ⟨0xB121, 4096, 1, 2, 2, true, 0x0B, 4, 1, 0, 4294967295, 0⟩,
  ⟨0xB130, 4096, 1, 2, 2, true, 0x0B, 4, 1, 0, 4294967295, 0⟩,
  ⟨0xB131, 4096, 1, 2, 2, true, 0x0B, 4, 1, 1, 65535, 18583⟩,
  ⟨0xB140, 4096, 0, 0, 2, false, 0xFF, 4, 1, 0, 0, 0⟩]

/-- Parameters of area 0xB. -/
def paramsB : List Desc := paramsBpart0

/-- Parameters of area 0xC, part 0 (R450). -/
def paramsCpart0 : List Desc := [
  ⟨0xC000, 8, 1, 2, 2, true, 0x0C, 4, 1, 0, 2, 0⟩,
  ⟨0xC001, 8, 1, 2, 2, true, 0x0C, 4, 1, 0, 2, 0⟩,
  ⟨0xC002, 8, 1, 2, 2, true, 0x0C, 4, 1, 0, 3, 0⟩,
  ⟨0xC003, 8, 1, 2, 2, true, 0x0C, 4, 1, 8, 20, 16⟩,
  ⟨0xC004, 8, 1, 2, 2, true, 0x0C, 4, 1, 0, 6, 0⟩,
  ⟨0xC005, 8, 2, 2, 2, false, 0xFF, 4, 1, 0, 3, 0⟩,
  ⟨0xC006, 8, 0, 0, 2, false, 0xFF, 4, 1, 0, 4294967295, 0⟩,
  ⟨0xC007, 8, 1, 2, 2, true, 0x0C, 4, 1, 0, 1, 0⟩,
  ⟨0xC008, 8, 0, 0, 2, false, 0xFF, 16, 7, 0, 0, 0⟩,
  ⟨0xC010, 2, 1, 2, 2, true, 0x0C, 4, 1, 0, 1, 0⟩,
  ⟨0xC011, 2, 1, 2, 2, true, 0x0C, 4, 1, 0, 10, 0⟩,
  ⟨0xC020, 2, 1, 2, 2, true, 0x0C, 4, 1, 0, 3, 1⟩,
  ⟨0xC021, 2, 1, 2, 2, true, 0x0C, 4, 1, 0, 4294967295, 3232247904⟩,
  ⟨0xC022, 2, 1, 2, 2, true, 0x0C, 4, 1, 0, 4294967295, 4294967040⟩,
  ⟨0xC023, 2, 1, 2, 2, true, 0x0C, 4, 1, 0, 4294967295, 0⟩,
  ⟨0xC024, 2, 1, 2, 2, true, 0x0C, 4, 1, 0, 4094, 0⟩,
  ⟨0xC025, 2, 1, 2, 2, true, 0x0C, 4, 1, 0, 7, 4⟩,
  ⟨0xC026, 2, 0, 0, 2, false, 0xFF, 8, 5, 0, 0, 0⟩,
  ⟨0xC027, 2, 1, 2, 2, true, 0x0C, 8, 4, 0, 0, 0⟩,
  ⟨0xC030, 1, 1, 2, 2, true, 0x0C, 4, 1, 0, 4095, 0⟩,
  ⟨0xC031, 1, 1, 2, 2, true, 0x0C, 4, 1, 2, 255, 255⟩,
  ⟨0xC032, 1, 1, 2, 2, true, 0x0C, 4, 1, 0, 7, 1⟩,
  ⟨0xC033, 8, 1, 2, 2, true, 0x0C, 4, 1, 0, 1, 1⟩,
  ⟨0xC040, 1, 1, 2, 2, true, 0x0C, 4, 1, 0, 2, 0⟩,
  ⟨0xC041, 1, 1, 2, 2, true, 0x0C, 4, 1, 0, 2, 2⟩,
  ⟨0xC042, 1, 1, 2, 2, true, 0x0C, 4, 1, 0, 255, 0⟩,
  ⟨0xC043, 1, 1, 2, 2, true, 0x0C, 4, 1, 0, 255, 128⟩,
  ⟨0xC044, 1, 1, 2, 2, true, 0x0C, 4, 1, 0, 255, 128⟩,
  ⟨0xC045, 1, 1, 2, 2, true, 0x0C, 4, 1, 0, 1, 1⟩,
  ⟨0xC046, 2, 1, 2, 2, true, 0x0C, 4, 1, 0, 1, 0⟩,
  ⟨0xC047, 2, 1, 2, 2, true, 0x0C, 4, 1, 0, 1, 0⟩,
  ⟨0xC048, 2, 1, 2, 2, true, 0x0C, 4, 2, (-4), 1, 0⟩,
  ⟨0xC049, 2, 1, 2, 2, true, 0x0C, 4, 2, (-3), 3, 0⟩,
  ⟨0xC04A, 2, 1, 2, 2, true, 0x0C, 4, 2, (-4), 5, 0⟩,
  ⟨0xC050, 1, 1, 2, 2, true, 0x0C, 4, 1, 100, 1000000000, 10000⟩,
  ⟨0xC051, 1, 1, 2, 2, true, 0x0C, 4, 1, 1, 200, 100⟩,
  ⟨0xC052, 1, 1, 2, 2, true, 0x0C, 4, 1, 10, 100000, 100⟩,
  ⟨0xC053, 1, 1, 2, 2, true, 0x0C, 4, 1, 1, 64, 4⟩,
  ⟨0xC054, 1, 1, 2, 2, true, 0x0C, 4, 1, 0, 86400, 600⟩,
  ⟨0xC055, 1, 1, 2, 2, true, 0x0C, 4, 1, 1, 100000, 1000⟩,
  ⟨0xC056, 1, 1, 2, 2, true, 0x0C, 4, 1, 0, 1, 0⟩,
  ⟨0xC060, 8, 1, 2, 2, true, 0x0C, 4, 1, 0, 2, 0⟩,
  ⟨0xC061, 8, 1, 2, 2, true, 0x0C, 8, 5, 0, 9223372036854775807, 0⟩,
  ⟨0xC062, 8, 1, 2, 2, true, 0x0C, 4, 1, 0, 999999999, 0⟩,
  ⟨0xC063, 8, 1, 2, 2, true, 0x0C, 4, 1, 100, 4294967295, 1000000000⟩]

/-- Parameters of area 0xC, part 1 (R450). -/
def paramsCpart1 : List Desc := [
  ⟨0xC064, 8, 1, 2, 2, true, 0x0C, 4, 1, 10, 4294967285, 100000⟩,
  ⟨0xC065, 8, 1, 2, 2, true, 0x0C, 4, 1, 0, 1, 0⟩,
  ⟨0xC066, 8, 1, 2, 2, true, 0x0C, 4, 1, 0, 1, 1⟩,
  ⟨0xC070, 8, 1, 2, 2, true, 0x0C, 4, 1, 0, 1, 0⟩,
  ⟨0xC071, 8, 1, 2, 2, true, 0x0C, 4, 1, 0, 2, 0⟩,
  ⟨0xC072, 1, 3, 2, 2, false, 0xFF, 8, 5, 0, 9223372036854775807, 0⟩,
  ⟨0xC080, 1, 0, 0, 2, false, 0xFF, 4, 2, 0, 0, 0⟩,
  ⟨0xC081, 1, 0, 0, 2, false, 0xFF, 4, 1, 0, 0, 0⟩,
  ⟨0xC082, 1, 0, 0, 2, false, 0xFF, 4, 1, 0, 4294967295, 4294967295⟩,
  ⟨0xC083, 1, 0, 0, 2, false, 0xFF, 8, 5, 0, 0, 0⟩,
  ⟨0xC090, 16, 0, 0, 2, false, 0xFF, 24, 8, 0, 0, 0⟩]

/-- Parameters of area 0xC. -/
def paramsC : List Desc := paramsCpart0 ++ paramsCpart1

/-- Parameters of area 0xD, part 0 (R471). -/
def paramsDpart0 : List Desc := [
  ⟨0xD000, 1, 0, 0, 2, false, 0xFF, 4, 1, 0, 2, 0⟩,
  ⟨0xD001, 1, 0, 0, 2, true, 0xFF, 16, 8, 0, 0, 0⟩,
  ⟨0xD002, 1, 1, 2, 2, true, 0x0D, 4, 1, 2, 1000, 10⟩,
  ⟨0xD003, 1, 1, 2, 2, true, 0x0D, 4, 1, 1, 1000, 16⟩,
  ⟨0xD004, 1, 1, 2, 2, true, 0x0D, 4, 1, 0, 1, 1⟩,
  ⟨0xD005, 1, 1, 2, 2, true, 0x0D, 4, 1, 0, 1, 1⟩,
  ⟨0xD010, 1, 0, 0, 2, false, 0xFF, 4, 1, 0, 10000, 0⟩,
  ⟨0xD011, 1, 0, 0, 2, false, 0xFF, 4, 1, 0, 100, 0⟩,
  ⟨0xD012, 1, 0, 0, 2, false, 0xFF, 4, 1, 0, 65535, 0⟩,
  ⟨0xD020, 1, 3, 2, 2, false, 0xFF, 4, 1, 0, 258, 0⟩,
  ⟨0xD021, 1, 0, 0, 2, false, 0xFF, 4, 1, 0, 5, 0⟩]

/-- Parameters of area 0xD. -/
def paramsD : List Desc := paramsDpart0

/-- Parameters of area 0xE, part 0 (R500). -/
def paramsEpart0 : List Desc := [
  ⟨0xE000, 1, 0, 0, 3, false, 0xFF, 4, 1, 0, 4096, 0⟩,
  ⟨0xE001, 1024, 0, 0, 3, false, 0xFF, 4, 8, 4, 4, 0⟩,
  ⟨0xE002, 1, 0, 0, 3, false, 0xFF, 32, 8, 0, 0, 0⟩,
  ⟨0xE010, 8, 1, 3, 3, true, 0x0E, 388, 8, 0, 0, 0⟩,
  ⟨0xE011, 8, 0, 0, 3, true, 0xFF, 8, 5, 0, 0, 0⟩,
  ⟨0xE012, 1, 1, 3, 3, true, 0x0E, 4, 1, 1, 600, 30⟩,
  ⟨0xE013, 1, 1, 3, 3, true, 0x0E, 4, 1, 1, 20, 5⟩,
  ⟨0xE014, 1, 1, 3, 3, true, 0x0E, 4, 1, 10, 3600, 60⟩,
  ⟨0xE020, 1, 1, 3, 3, true, 0x0E, 4, 1, 0, 4294967295, 0⟩,
  ⟨0xE021, 1, 0, 0, 3, false, 0xFF, 4, 1, 0, 6, 0⟩,
  ⟨0xE022, 2, 0, 0, 3, false, 0xFF, 32, 8, 0, 0, 0⟩,
  ⟨0xE030, 64, 0, 0, 3, true, 0xFF, 32, 8, 0, 0, 0⟩,
  ⟨0xE100, 1, 1, 3, 3, true, 0x0E, 4, 1, 0, 1, 0⟩,
  ⟨0xE101, 1, 1, 3, 3, true, 0x0E, 4, 1, 0, 1023, 1021⟩,
  ⟨0xE102, 1, 1, 3, 3, true, 0x0E, 4, 1, 100, 60000, 1000⟩,
  ⟨0xE103, 1, 1, 3, 3, true, 0x0E, 4, 1, 10, 1000, 200⟩,
  ⟨0xE104, 1, 1, 3, 3, true, 0x0E, 4, 1, 10, 1000, 100⟩,
  ⟨0xE105, 1, 1, 3, 3, true, 0x0E, 4, 1, 10, 250, 100⟩,
  ⟨0xE106, 1, 1, 3, 3, true, 0x0E, 4, 1, 10, 2000, 300⟩,
  ⟨0xE107, 1, 1, 3, 3, true, 0x0E, 4, 1, 5, 1000, 50⟩,
  ⟨0xE108, 1, 1, 3, 3, true, 0x0E, 4, 1, 100, 750, 500⟩]

/-- Parameters of area 0xE. -/
def paramsE : List Desc := paramsEpart0

/-- Parameters of area 0xF, part 0 (R519, R533). -/
def paramsFpart0 : List Desc := [
  ⟨0xF000, 1, 1, 2, 2, true, 0x0F, 4, 1, 10, 1000000, 470⟩,
  ⟨0xF001, 1, 1, 2, 2, true, 0x0F, 4, 1, 100, 1600, 800⟩,
  ⟨0xF002, 1, 1, 2, 2, true, 0x0F, 4, 1, 50, 100, 85⟩,
  ⟨0xF003, 1, 1, 2, 2, true, 0x0F, 4, 1, 3090, 1000000, 4000⟩,
  ⟨0xF004, 1, 1, 2, 2, true, 0x0F, 4, 1, 1050, 1000000, 1200⟩,
  ⟨0xF005, 1, 1, 2, 2, true, 0x0F, 4, 1, 0, 100000, 200⟩,
  ⟨0xF006, 1, 1, 2, 2, true, 0x0F, 4, 1, 100, 1800, 1100⟩,
  ⟨0xF007, 1, 1, 2, 2, true, 0x0F, 4, 1, 1, 100, 5⟩,
  ⟨0xF008, 1, 1, 2, 2, true, 0x0F, 4, 1, 0, 4095, 0⟩,
  ⟨0xF009, 1, 1, 2, 2, true, 0x0F, 4, 1, 0, 4294967295, 0⟩,
  ⟨0xF00A, 1, 0, 0, 2, false, 0xFF, 4, 1, 0, 4294967295, 0⟩,
  ⟨0xF100, 1, 1, 2, 2, true, 0x0F, 8, 5, 0, 281474976710655, 0⟩,
  ⟨0xF101, 1, 0, 0, 2, false, 0xFF, 4, 2, (-2000), 2000, 0⟩,
  ⟨0xF102, 1, 1, 2, 2, true, 0x0F, 4, 1, 0, 7, 7⟩,
  ⟨0xF103, 1, 1, 2, 2, true, 0x0F, 4, 1, 1, 1000, 20⟩,
  ⟨0xF104, 1, 0, 0, 2, false, 0xFF, 16, 8, 0, 0, 0⟩,
  ⟨0xF105, 1, 1, 2, 2, true, 0x0F, 4, 1, 0, 1, 0⟩,
  ⟨0xF200, 1, 1, 2, 2, true, 0x0F, 4, 1, 0, 1, 0⟩,
  ⟨0xF201, 1, 1, 2, 2, true, 0x0F, 4, 1, 1, 6250, 250⟩,
  ⟨0xF202, 64, 1, 2, 2, true, 0x0F, 4, 2, (-150000), 150000, 0⟩,
  ⟨0xF203, 1, 0, 0, 2, false, 0xFF, 4, 1, 0, 4096, 0⟩,
  ⟨0xF204, 1, 1, 2, 2, true, 0x0F, 4, 1, 0, 2, 1⟩,
  ⟨0xF205, 1, 1, 2, 2, true, 0x0F, 4, 1, 0, 9, 0⟩,
  ⟨0xF206, 1, 1, 2, 2, true, 0x0F, 4, 1, 5, 60, 20⟩,
  ⟨0xF207, 1, 1, 2, 2, true, 0x0F, 4, 1, 1, 16, 3⟩,
  ⟨0xF210, 48, 0, 0, 2, false, 0xFF, 8, 8, 0, 0, 0⟩]

/-- Parameters of area 0xF. -/
def paramsF : List Desc := paramsFpart0

/-- The parameters of an area, the top nibble of an ID (R374). -/
def areaParams (a : Nat) : List Desc :=
  match a with
  | 0 => params0
  | 1 => params1
  | 2 => params2
  | 3 => params3
  | 4 => params4
  | 5 => params5
  | 6 => params6
  | 7 => params7
  | 8 => params8
  | 9 => params9
  | 10 => paramsA
  | 11 => paramsB
  | 12 => paramsC
  | 13 => paramsD
  | 14 => paramsE
  | 15 => paramsF
  | _ => []

/-- The descriptor of parameter `pid`; none where no parameter uses the ID. -/
def descOf (pid : Nat) : Option Desc := (areaParams (pid / 4096)).find? (fun d => d.pid = pid)

/-- The factory route of an event (R369). -/
def evRoute (e : Nat) : Nat :=
  if e ≤ 6 ∨ e = 8 then 1
  else if 16 ≤ e ∧ e ≤ 19 then 2
  else if 24 ≤ e ∧ e ≤ 33 then 2
  else if 40 ≤ e ∧ e ≤ 44 then 0
  else if 48 ≤ e ∧ e ≤ 53 then 0
  else if 56 ≤ e ∧ e ≤ 61 then 2
  else if 64 ≤ e ∧ e ≤ 70 then (if e = 66 then 0 else 2)
  else if 72 ≤ e ∧ e ≤ 74 then 3
  else if 76 ≤ e ∧ e ≤ 78 then 3
  else if 80 ≤ e ∧ e ≤ 84 then 3
  else if 88 ≤ e ∧ e ≤ 92 then 2
  else if 96 ≤ e ∧ e ≤ 101 then 2
  else if 104 ≤ e ∧ e ≤ 106 then 0
  else if 108 ≤ e ∧ e ≤ 114 then (if 111 ≤ e ∧ e ≤ 113 then 0 else 1)
  else if e = 116 ∨ (118 ≤ e ∧ e ≤ 123) then (if 118 ≤ e ∧ e ≤ 121 then 0 else 2)
  else 4

/-- The factory tier of a record class (R297). -/
def classTier (k : Nat) : Nat :=
  match k with
  | 1 => 1
  | 2 => 2
  | 3 => 2
  | 5 => 2
  | _ => 0

/-- The factory value of an instance as it travels, where it depends on the index (R369, R297, R450, R111).
Log entry 4 (DEDUCED). -/
def factoryOf (d : Desc) (i : Nat) : Nat :=
  if d.pid = 0x0020 then evRoute i
  else if d.pid = 0x8031 then classTier i
  else if d.pid = 0x2305 then i
  else if d.pid = 0xC000 then (if i < 2 then 1 else 0)
  else if d.pid = 0xC021 then 0xC0A83060 + i
  else ofInt (8 * d.vsize) d.fac

/-- The factory value of instance `i` of parameter `pid`. -/
def factory (pid i : Nat) : Nat :=
  match descOf pid with
  | some d => factoryOf d i
  | none => 0

/-- The key of an instance in the parameter tables. -/
def pkey (pid i : Nat) : Nat := pid * 65536 + i

/-- The active value of an instance, as it travels. Log entry 34 (DEDUCED). -/
def prm (d : Dev) (pid i : Nat) : Nat := tget (factory pid i) d.prm.active (pkey pid i)

/-- The active value of a signed instance (int32). -/
def prmI (d : Dev) (pid i : Nat) : Int := toInt 32 (prm d pid i)

/-- The active value of a float32 instance. -/
def prmF (d : Dev) (pid i : Nat) : Rat := f32 (prm d pid i)

/-- The active value as a rational count times `1 / k`. -/
def prmQ (d : Dev) (pid i k : Nat) : Rat := (prmI d pid i : Rat) / k

/-- Write the active value of an instance. Log entry 34 (DEDUCED). -/
def setPrm (pid i v : Nat) (d : Dev) : Dev :=
  { d with prm := { d.prm with active := tput (factory pid i) (pkey pid i) v d.prm.active } }

/-- The ranges of float32 parameters that have one (R376 refuses NaN, infinities and subnormals for each).
Log entry 35 (DEDUCED). -/
def floatRange (pid : Nat) : Option (Rat × Rat) :=
  if pid = 0x1104 then some (1 / 1000000000000, 1000000)
  else if pid = 0x5043 then some (0, 8)
  else if pid = 0x5053 then some (0, 100)
  else if pid = 0x7040 ∨ pid = 0x7042 ∨ pid = 0x8015 then some (0, 8)
  else none

/-- The values inside its plain bounds that a parameter's range leaves out (a choice of codes, a gap, a parity).
Log entry 35 (DEDUCED). -/
def rangeExtra (pid v : Nat) : Bool :=
  if pid = 0x1010 then decide (v = 0 ∨ 100 ≤ v)
  else if pid = 0x2018 then decide (v = 0 ∨ (0x1000 ≤ v ∧ v < 0x1030))
  else if pid = 0x2303 then decide (v ≤ 0x7F ∨ (0x100 ≤ v ∧ v ≤ 0x103) ∨ v = 0x200 ∨ v = 0x201 ∨ v = 0x300)
  else if pid = 0x5002 then decide (v = 50 ∨ v = 60)
  else if pid = 0x5035 then decide (700 ≤ (absI (toInt 32 v)))
  else if pid = 0x5040 then decide (v = 0 ∨ 2 ≤ v)
  else if pid = 0x7013 then decide (v % 2 = 1)
  else if pid = 0x9002 ∨ pid = 0x9010 ∨ pid = 0x9011 then decide (v ≤ 167 ∨ v = 255)
  else if pid = 0xA005 then decide (v ≤ 7 ∨ v = 255)
  else if pid = 0xA030 ∨ pid = 0xA031 then decide (v ≤ 15 ∨ v = 255)
  else if pid = 0xC031 then decide (v ≤ 7 ∨ v = 255)
  else if pid = 0xD020 then decide (v ≤ 167 ∨ 0x100 ≤ v)
  else true

/-- The fixed range of a parameter (R377). Log entry 35 (DEDUCED). -/
def inRange (d : Desc) (v : Nat) : Bool :=
  if d.typ = 3 then
    match f32Value v with
    | none => false
    | some x =>
      match floatRange d.pid with
      | none => true
      | some (lo, hi) => decide (lo ≤ x ∧ x ≤ hi)
  else if d.typ = 1 ∨ d.typ = 5 then
    if d.pid = 0xB020 ∨ d.pid = 0xB021 then true
    else decide (d.lo ≤ (v : Int) ∧ (v : Int) ≤ d.hi) && rangeExtra d.pid v
  else if d.typ = 2 then
    decide (d.lo ≤ toInt 32 v ∧ toInt 32 v ≤ d.hi) && rangeExtra d.pid v
  else true

end Sys2Proof.Machine
end

