-- ==== Sys2Proof/Machine/LoupeOps.lean ====
section
/-!
DEFINITION. Triggers of the recorder units and of the trace taps (R102, R103, R327 to R333).
-/
namespace Sys2Proof.Machine

/-- The code of a state (R19). -/
def stCode (s : OpState) : Nat :=
  match s with
  | .off => 0 | .clasp => 1 | .doze => 2 | .ready => 3 | .sync => 4
  | .run => 5 | .ride => 6 | .form => 7 | .trip => 8 | .service => 9

/-- The state that a code names; codes 0xA to 0xF name none (R19). -/
def stOf (n : Nat) : Option OpState :=
  match n with
  | 0 => some .off | 1 => some .clasp | 2 => some .doze | 3 => some .ready | 4 => some .sync
  | 5 => some .run | 6 => some .ride | 7 => some .form | 8 => some .trip | 9 => some .service
  | _ => none

/-- The epoch number of tick `t` (R12: one epoch is 400,000 ticks). -/
def epochOf (t : Nat) : Nat := t / 400000

/-- The epoch of the present tick. Log entry 5 (DESIGN CHOICE). -/
def ep (d : Dev) : Nat := epochOf d.t

/-- Recorder unit `u`. -/
def unit (d : Dev) (u : Nat) : RecUnit := tget {} d.loupe.units u

/-- Change recorder unit `u`. -/
def modUnit (u : Nat) (f : RecUnit → RecUnit) (d : Dev) : Dev :=
  { d with loupe := { d.loupe with units := tmod {} u f d.loupe.units } }

/-- Trace tap `t`. -/
def tap (d : Dev) (t : Nat) : Tap := tget {} d.fil.taps t

/-- Change trace tap `t`. -/
def modTap (t : Nat) (f : Tap → Tap) (d : Dev) : Dev :=
  { d with fil := { d.fil with taps := tmod {} t f d.fil.taps } }

/-- The samples that a tap still records once it stops: it starts its post count, unless it is off, has been
triggered or has stopped (R103). Log entry 95 (DESIGN CHOICE). -/
def tapStop (k : Nat) (d : Dev) : Dev :=
  if prm d 0x2302 k = 0 ∨ (tap d k).post.isSome ∨ (tap d k).stopped then d
  else modTap k (fun x => { x with post := some (prm d 0x2304 k), trigT := d.t, trigSt := stCode d.sys.st }) d

/-- A trigger of tap `k`: accepted in mode 2 once 65,536 − post samples are in the ring, and it then stops every tap
of the group; earlier it is ignored and counted (R102, R103). -/
def tapTrigger (k : Nat) (d : Dev) : Dev :=
  if prm d 0x2302 k ≠ 2 ∨ (tap d k).post.isSome ∨ (tap d k).stopped then d
  else if (tap d k).count < 65536 - prm d 0x2304 k then
    modTap k (fun x => { x with ignored := incSat 65535 x.ignored }) d
  else
    (List.range 16).foldl (fun e j => if prm e 0x2305 j = prm e 0x2305 k then tapStop j e else e)
      (modTap k (fun x => { x with trgNext := true }) d)

/-- Trigger every tap whose source is `code` (R103). -/
def tapTriggers (code : Nat) (d : Dev) : Dev :=
  (List.range 16).foldl (fun e k => if prm e 0x2303 k = code then tapTrigger k e else e) d

/-- Unit `u` names source `code` in one of its slots. -/
def unitNames (d : Dev) (u code : Nat) : Bool :=
  (List.range 4).any (fun k => prm d 0xA004 (4 * u + k) = code)

/-- The unit is in a group (R332). -/
def inGroup (d : Dev) (u : Nat) : Bool := prm d 0xA005 u ≠ 255

/-- The rows of a ring that lie before instant `inst`. -/
def rowsBefore (r : List Row) (inst : Nat) : Nat := (r.filter (fun x => x.t < inst)).length

/-- The instant of the first row of the ring at or after `inst`, if it is there already. -/
def rowAt (r : List Row) (inst : Nat) : Option Nat :=
  (r.filter (fun x => inst ≤ x.t)).getLast?.map (fun x => x.t)

/-- The first slot of unit `u` that names source `code`; 4 where none does. -/
def trigSlot (d : Dev) (u code : Nat) : Nat :=
  ((List.range 4).find? (fun k => prm d 0xA004 (4 * u + k) = code)).getD 4

/-- Instant `inst` falls on the TRG row that an acceptance already has (R330): the row is still to come, or it is the
first row of the ring from `inst` on. Log entry 127 (DEDUCED). -/
def sameTrg (inst : Nat) (x : RecUnit) : Bool :=
  match x.trg with
  | none => true
  | some g => rowAt x.ring inst = some g

/-- What a trigger of source `src` (named by `slot`) and instant `inst` does to a unit: it is accepted in READY with
enough rows before TRG, joins an acceptance on the same TRG row, or is ignored and counted (R329, R330). `pre` is
loupe.pre, `st` the R19 code of the state and `tau` the timer τ_u. -/
def trigUnit (pre src slot inst origin st tau : Nat) (x : RecUnit) : RecUnit :=
  if x.st = 2 ∧ pre ≤ rowsBefore x.ring inst then
    { x with st := 3, trigT := some inst, trigSrc := src, trigSlot := slot, origin := origin,
             trg := rowAt x.ring inst, stTrg := st, tau := tau,
             post := (x.ring.filter (fun r => inst ≤ r.t)).length, tripSeen := st = 8, islandSeen := false,
             maskViol := 0, firstViol := none, endCode := 0, tested := none, endAt := none }
  else if x.st = 3 ∧ origin = 0 ∧ sameTrg inst x then
    (match x.trigT with
     | some a => if inst < a ∨ inst = a ∧ slot < x.trigSlot then
         { x with trigT := some inst, trigSrc := src, trigSlot := slot } else x
     | none => x)
  else if x.st = 1 ∨ x.st = 2 then { x with preIgn := incSat 65535 x.preIgn, preIgnRec := incSat 65535 x.preIgnRec }
  else if x.st = 0 ∧ ¬ x.hadRec then x
  else { x with busyIgn := incSat 65535 x.busyIgn, busyIgnRec := incSat 65535 x.busyIgnRec }

/-- Lane `k`. -/
def lane (d : Dev) (k : Nat) : Lane := tget {} d.lanes k

/-- Change lane `k`. -/
def modLane (k : Nat) (f : Lane → Lane) (d : Dev) : Dev := { d with lanes := tmod {} k f d.lanes }

/-- Frame period F of Chain on lane `k` in hundredths of a tick (R432): 1,280 bits at the lane's rate.
Log entry 127 (DEDUCED). -/
def framePeriod (d : Dev) (k : Nat) : Nat :=
  match prm d 0xC001 k with
  | 0 => 40960
  | 1 => 16384
  | _ => 8192

/-- Offer a trigger message to link `k` (R434): the queue holds 16 messages, each waits for a frame; one that finds it
full is dropped and counted. -/
def offerTrig (m : TrigMsg) (k : Nat) (d : Dev) : Dev :=
  let f := framePeriod d k
  let now := 100 * d.t
  let busy := max now (lane d k).busyTo
  if 16 * f ≤ busy - now then modLane k (fun x => { x with dropped := incSat 4294967295 x.dropped }) d
  else
    { modLane k (fun x => { x with busyTo := busy + f }) d with
      chain := { d.chain with out := .trig k m :: d.chain.out } }

/-- A Chain link of lane `k` is up (R433). -/
def chainUp (d : Dev) (k : Nat) : Bool := 2 ≤ k && k < 8 && prm d 0xC000 k = 1 && (lane d k).link

/-- Send an arm or a fire of group `g` on every Chain link that is up (R434). -/
def chainTrig (g : Nat) (fire : Bool) (seq inst : Nat) (d : Dev) : Dev :=
  (List.range 8).foldl (fun e k =>
    if chainUp e k then offerTrig ⟨g, fire, 0, prm e 0xC030 0, seq, inst⟩ k e else e) d

/-- A trigger reaches unit `u`: on acceptance the taps that name the unit are triggered (R103), a unit outside a group
triggers the units that name it, and a member of a group fires its line, which local members take at once and other
devices over Chain (R328, R332). `fuel` bounds the chain of local acceptances, of which there are at most four. -/
def trigger (fuel u src inst origin : Nat) (d : Dev) : Dev :=
  match fuel with
  | 0 => d
  | fuel + 1 =>
    let d1 := modUnit u (trigUnit (prm d 0xA003 u) src (trigSlot d u src) inst origin (stCode d.sys.st) d.rt.tauU)
      d
    if (unit d u).st = 2 ∧ (unit d1 u).st = 3 then
      let d2 := tapTriggers (0x100 + u) d1
      if inGroup d u then
        if origin = 0 then
          let g := prm d 0xA005 u
          let d3 := chainTrig g true (unit d2 u).groupSeq inst d2
          (List.range 4).foldl (fun e v =>
            if v ≠ u ∧ prm e 0xA005 v = g ∧ (unit e v).st = 2 then trigger fuel v (0x200 + g) inst 1 e else e) d3
        else d2
      else
        (List.range 4).foldl (fun e v =>
          if v ≠ u ∧ unitNames e v (0x500 + u) then trigger fuel v (0x500 + u) inst 0 e else e) d2
    else d1

/-- A source reaches every unit that names it (R328). -/
def triggers (code inst : Nat) (d : Dev) : Dev :=
  (List.range 4).foldl (fun e u => if unitNames e u code then trigger 4 u code inst 0 e else e) d

/-- A unit whose ring restarts empty: FILLING (R327). Log entry 40 (DEDUCED). -/
def refill (x : RecUnit) : RecUnit :=
  { x with st := 1, ring := [], waiting := [], decN := 0, trigT := none, trg := none, post := 0, readySeen := false,
           tripSeen := false, islandSeen := false, damaged := false, patAbove := false, patRun := 0, patL2 := false,
           patSlew := none }

/-- Landed changes that waited for IDLE or FILLING come into force (R348). Log entry 34 (DEDUCED). -/
def landCfg (u : Nat) (d : Dev) : Dev :=
  (unit d u).cfgWait.foldl (fun e kv => match kv.2 with
    | some v => setPrm (kv.1 / 65536) (kv.1 % 65536) v e
    | none => e) (modUnit u (fun x => { x with cfgWait := [] }) d)

/-- Arm unit `u`, if it is IDLE and its mode is not off: its ring restarts empty (R327). While the Casket is down arms
are refused (R344). -/
def armUnit (u seq : Nat) (d : Dev) : Dev :=
  if d.cask.up ∧ (unit d u).st = 0 ∧ prm d 0xA000 u ≠ 0 then
    modUnit u (fun x => { refill x with groupSeq := seq, fired := false }) (landCfg u d)
  else d

/-- The master `u` of a group arms it: every local member in IDLE arms, and the arm goes out on the group's line
(R332). -/
def armGroup (u : Nat) (d : Dev) : Dev :=
  let g := prm d 0xA005 u
  let seq := ((unit d u).armCount + 1) % 2 ^ 32
  let d1 := modUnit u (fun x => { x with armCount := seq }) d
  let d2 := chainTrig g false seq d.t d1
  (List.range 4).foldl (fun e v => if prm e 0xA005 v = g then armUnit v seq e else e) d2

end Sys2Proof.Machine
end

