-- ==== Sys2Proof/Machine/Events.lean ====
section
/-!
DEFINITION. Raising an event, the HIRQ lines, points, and the results that a command leaves (R361, R367, R368, R370).
-/
namespace Sys2Proof.Machine

/-- Network time in ns: the tick count is held to network time, 2.5 ns a tick (R116, R440).
Log entry 5 (DESIGN CHOICE). -/
def tNs (d : Dev) : Nat := d.t * 5 / 2

/-- Network time in ms. Log entry 5 (DESIGN CHOICE). -/
def tMs (d : Dev) : Nat := d.t / 400000

/-- Low 32 bits of the tick count (R36). -/
def stamp (d : Dev) : Nat := d.t % 2 ^ 32

/-- The next reading of a free value: its number, and the state that has taken it. Log entry 8 (DESIGN CHOICE). -/
def takeFree (d : Dev) : Nat × Dev := (d.free, { d with free := d.free + 1 })

/-- HIRQk is asserted while a pending event routes to line k (R367). -/
def lineOn (d : Dev) (k : Nat) : Bool :=
  (List.range 128).any (fun e => d.ev.pend.getLsbD e && prm d 0x0020 e = k)

/-- HIRQ_STAT (R372). -/
def hirq (d : Dev) : Nat := maskOf 4 (lineOn d)

/-- The body of a type-6 event notice: EV_PEND0–3, then EV_SEQ, under the header of R355. The XID of a notice is not
stated, so it is a free value. -/
def notice (d : Dev) : List Byte :=
  le 2 0x5A49 ++ [1, 6] ++ le 4 (Config.freeNat d.free) ++ le 16 d.ev.pend.toNat ++ le 4 d.ev.seq

/-- Send a type-6 notice to the last sender, over UDP and after the first command datagram (R367).
Log entry 30 (DESIGN CHOICE). -/
def sendNotice (d : Dev) : Dev :=
  match d.mbx.lastSender with
  | some e =>
    if d.mbx.hostsel then
      let b := notice d
      { d with free := d.free + 1, mbx := { d.mbx with sent := ⟨e, b⟩ :: d.mbx.sent, notifyT := d.t } }
    else d
  | none => d

/-- A notice for the lines that the routes of `after` assert where those of `before` do not (R367).
Log entry 30 (DESIGN CHOICE). -/
def lineRise (before after : Dev) : Dev :=
  if (List.range 4).any (fun k => lineOn { before with prm := after.prm } k && !lineOn before k) then sendNotice after
  else after

/-- Raise event `e` with index `idx` and the value bytes `vals` (R367, R368): its EV_PEND bit is set, an entry is
appended to the log, a notice goes out when a line becomes asserted, and the recorder units and trace taps that name
the event are triggered; an entry that the log overwrites before it is copied to the archive counts (R347). No event is raised before READY (R541).
Log entry 25 (DEDUCED). -/
def raise (e idx : Nat) (vals : List Byte) (d : Dev) : Dev :=
  if d.sys.up then
    let ent : LogEntry := ⟨d.ev.seq + 1, e, stCode d.sys.st, tNs d, stamp d, idx, vals⟩
    let lost := 4096 ≤ d.ev.log.length ∧ d.ev.copied + 4095 < d.ev.seq
    let d1 := { d with
      ev := { d.ev with
        pend := d.ev.pend ||| BitVec.twoPow 128 e,
        seq := (d.ev.seq + 1) % 2 ^ 32,
        log := (ent :: d.ev.log).take 4096 }
      cask := { d.cask with arcLost := if lost then incSat 255 d.cask.arcLost else d.cask.arcLost } }
    let k := prm d 0x0020 e
    let d2 := if k < 4 ∧ ¬ lineOn d k then sendNotice d1 else d1
    tapTriggers e (triggers e d.t d2)
  else d

/-- Raise an event that carries an index only. Log entry 25 (DEDUCED). -/
def raiseI (e idx : Nat) (d : Dev) : Dev := raise e idx [] d

/-- EV_MBXERR, at most once per epoch (R370): slot, STATUS and the bits of the cause. Log entry 26 (DEDUCED). -/
def mbxErr (slot status bitsV : Nat) (d : Dev) : Dev :=
  if d.ev.mbxErrEp = ep d + 1 then d
  else
    let d1 := raise 4 slot [BitVec.ofNat 8 status, BitVec.ofNat 8 bitsV] d
    if d.sys.up then { d1 with ev := { d1.ev with mbxErrEp := ep d + 1 } } else d1

/-- Set ACC_ERR (R352, R354, R361), with EV_MBXERR when it rises. Log entry 26 (DEDUCED). -/
def setAccErr (d : Dev) : Dev :=
  let d1 := { d with mbx := { d.mbx with accErr := true } }
  if d.mbx.accErr then d1 else mbxErr 0xFFFF 0 1 d1

/-- Set WR_BUSY (R358). Log entry 26 (DEDUCED). -/
def setWrBusy (d : Dev) : Dev :=
  let d1 := { d with mbx := { d.mbx with wrBusy := true } }
  if d.mbx.wrBusy then d1 else mbxErr 0xFFFF 0 2 d1

/-- Count a ring of a busy slot (R358). Log entry 26 (DEDUCED). -/
def countDoorBusy (d : Dev) : Dev :=
  let d1 := { d with mbx := { d.mbx with doorBusy := incSat 255 d.mbx.doorBusy } }
  if d.mbx.doorBusy = 0 then mbxErr 0xFFFF 0 4 d1 else d1

/-- Count a dropped datagram (R355). Log entry 26 (DEDUCED). -/
def countUdpDrop (d : Dev) : Dev :=
  let d1 := { d with mbx := { d.mbx with udpDrop := incSat 255 d.mbx.udpDrop } }
  if d.mbx.udpDrop = 0 then mbxErr 0xFFFF 0 8 d1 else d1

/-- Queue a completion for posting (R361). Log entry 16 (DESIGN CHOICE). -/
def complete (c : Completion) (d : Dev) : Dev :=
  { d with mbx := { d.mbx with done := d.mbx.done ++ [c] } }

/-- Leave the status and detail of an immediate write. Log entry 15 (DESIGN CHOICE). -/
def answer (status detail : Nat) (d : Dev) : Dev :=
  { d with mbx := { d.mbx with lastStatus := status, lastDetail := detail } }

/-- The point `p` (R345). Log entry 41 (DEDUCED). -/
def point (d : Dev) (p : Nat) : Point := tget {} d.pts p

/-- The number that a stored point holds, in its TYPE (R345); 64-bit floats and pairs give 0. -/
def pointNum (x : Point) : Rat :=
  match x.typ with
  | 1 | 3 => ((x.value % 2 ^ 32 : Nat) : Rat)
  | 2 => (toInt 32 x.value : Rat)
  | 4 => f32 (x.value % 2 ^ 32)
  | 5 => (toInt 64 x.value : Rat)
  | 6 => (x.value : Rat)
  | _ => 0

/-- Update the value of a point: VALUE, T_NS, VALID, SEQ (R394, R395). -/
def putPoint (p typ v : Nat) (d : Dev) : Dev :=
  let x := point d p
  { d with pts := tput {} p { x with value := v, typ := typ, tNs := tNs d, valid := true, stale := false,
                                     seq := (x.seq + 1) % 2 ^ 32 } d.pts }

/-- Update a float32 device point. -/
def putF (p : Nat) (x : Rat) (d : Dev) : Dev := putPoint p 4 (f32Code x) d

/-- Clear what the log's readers see at a reset (R368, R372). -/
def clearEvents (d : Dev) : Dev := { d with ev := {} }

end Sys2Proof.Machine
end

