-- ==== Sys2Proof/Machine/Mbx.lean ====
section
/-!
DEFINITION. The operations of the mailbox that commands of every family use: the command at the head of the ring order,
its completion, long commands and their end (R358 to R362).
-/
namespace Sys2Proof.Machine

/-- A command at tick `t` that acts on the device alone: the tick moves on and `f` acts; the host memory and the queue
stay. Log entries 2 (DESIGN CHOICE), 5 (DESIGN CHOICE). -/
def lift (t : Nat) (f : Dev → Dev) (s : State) : Host.Outcome State Fault Refusal :=
  .next { s with dev := f { s.dev with t := t } }

/-- Act only where `c` holds: a command that the state does not admit changes nothing but the tick.
Log entry 2 (DESIGN CHOICE). -/
def guarded (c : Bool) (f : Dev → Dev) (d : Dev) : Dev := if c then f d else d

/-- Offset of slot `s` in the host window (R351): sixteen 512-byte slots from 0x2000 on. -/
def slotAt (s : Nat) : Nat := 0x2000 + 512 * s

/-- The 512 bytes of slot `s`. -/
def slotBytes (m : List Host.Cell) (s : Nat) : List Byte := readMem m (slotAt s) 512

/-- A command as it stands in its slot (R357). -/
structure Cmd where
  slot : Nat
  op : Nat
  tag : Nat
  len : Nat
  sess : Nat
  body : List Byte
  deriving DecidableEq, Repr

/-- The command in slot `s` (R357): OPCODE at byte 0, TAG at byte 1, LEN at bytes [3:2], SESSION at [7:4], CRC at
[15:12], the payload from byte 16 on. -/
def cmdAt (m : List Host.Cell) (s : Nat) : Cmd :=
  let b := slotBytes m s
  let len := field b 3 2
  { slot := s, op := field b 0 0, tag := bits (field b 1 1) 3 0, len := len, sess := field b 7 4,
    body := (b.drop 16).take len }

/-- The class with which a command runs (R359): that of the open session it names, or observer. -/
def cmdClass (d : Dev) (c : Cmd) : Nat := if c.sess ≠ 0 ∧ d.mbx.sessOpen then d.mbx.sessClass else 0

/-- The bytes that the CRC of a slot covers, with the CRC field taken as 0 (R357). -/
def slotCrcBytes (b : List Byte) : List Byte :=
  b.take 12 ++ [0, 0, 0, 0] ++ (b.drop 16).take (field b 3 2)

/-- The LEN range of a command (R363, R376); none for an opcode that is not defined. -/
def lenRange (b : List Byte) : Option (Nat × Nat) :=
  match field b 0 0 with
  | 1 => some (8, 8)
  | 2 => let n := 8 + field b 21 20 * field b 23 22; some (n, n)
  | 3 => some (8, 8)
  | 4 => some (8, 8)
  | 5 => some (8, 8)
  | 6 => some (8, 8)
  | 7 => some (12, 12)
  | 8 => some (13, 496)
  | 9 => some (4, 4)
  | 10 => some (40, 40)
  | 11 => some (4, 496)
  | 12 => some (4, 4)
  | 13 => some (12, 12)
  | 14 => some (4, 4)
  | 15 => some (24, 24)
  | _ => none

/-- The reserved bits of a slot as byte offsets with masks: the header's, then those of the command (R357, R364, R484). -/
def reservedOf (op len : Nat) : List (Nat × Nat) :=
  [(1, 0xF0), (8, 0xFF), (9, 0xFF), (10, 0xFF), (11, 0xFF)] ++
  (match op with
   | 1 => [(22, 0xFE), (23, 0xFF)]
   | 3 => [(20, 0xFE), (21, 0xFF), (22, 0xFF), (23, 0xFF)]
   | 4 => [(22, 0xFE), (23, 0xFF)]
   | 5 => [(22, 0xFF), (23, 0xFF)]
   | 6 => [(21, 0xC0), (22, 0xF8), (23, 0xFF)]
   | 7 => [(26, 0xFE), (27, 0xFF)]
   | 8 => [(24, 0xFC), (25, 0xFF), (26, 0xFF), (27, 0xFF)]
   | 9 => [(17, 0xFF), (18, 0xFF), (19, 0xFF)]
   | 10 => [(54, 0xFF), (55, 0xFF)]
   | 11 => if len < 8 then [] else [(22, 0xFF), (23, 0xFF)]
   | 12 => [(19, 0xFF)]
   | 13 => [(24, 0xFF), (25, 0xFF), (26, 0xFF), (27, 0xFF)]
   | 14 => [(18, 0xFF), (19, 0xFF)]
   | 15 => [(17, 0xFF), (18, 0xFF), (19, 0xFF), (36, 0xFF), (37, 0xFF), (38, 0xFF), (39, 0xFF)]
   | _ => [])

/-- The lowest session class that may issue the command in a slot (R363, R374); that of a COMMIT depends on its
content. -/
def classOf (b : List Byte) : Nat :=
  match field b 0 0 with
  | 2 => (match descOf (field b 17 16) with
    | some x => if x.pid = 0x10 ∧ field b 27 24 = 9 then 2 else x.cls
    | none => 0)
  | 8 => 2
  | 9 => 2
  | 12 => 2
  | 13 => 2
  | 14 => 1
  | 15 => 2
  | _ => 0

/-- The first check of R359, 1 to 6, that the command in the slot bytes `b` fails: its status and DETAIL.
Log entry 14 (DEDUCED). -/
def slotFault (d : Dev) (b : List Byte) : Option (Nat × Nat) :=
  let len := field b 3 2
  let crc := crc32 (slotCrcBytes b)
  let tok := field b 7 4
  let cls := if tok = 0 then 0 else d.mbx.sessClass
  if crc ≠ field b 15 12 then some (4, crc)
  else
    match lenRange b with
    | none => some (5, 0)
    | some (lo, hi) =>
      if len < lo then some (6, lo)
      else if hi < len then some (6, hi)
      else
        match (reservedOf (field b 0 0) len).find? (fun r => field b r.1 r.1 &&& r.2 ≠ 0) with
        | some r => some (7, r.1)
        | none =>
          if tok ≠ 0 ∧ ¬ (d.mbx.sessOpen ∧ d.mbx.sessToken = tok) then some (3, 0)
          else if cls < classOf b then some (2, classOf b)
          else none

/-- The command in `slot` is next in ring order, has passed the checks 1 to 6 of R359 and has opcode `op` (R360): no
command starts in a pause, nor while TEST_EN stops the SVP. Log entry 17 (DEDUCED). -/
def isHead (m : List Host.Cell) (d : Dev) (slot op : Nat) : Bool :=
  d.mbx.checked && d.mbx.rung.head? = some slot && (cmdAt m slot).op = op && !d.mbx.paused && !d.sys.testStop

/-- The command leaves the ring order: it has completed, or it runs on as a long command. -/
def popRung (d : Dev) : Dev := { d with mbx := { d.mbx with rung := d.mbx.rung.tail, checked := false } }

/-- A quick command completes (R360, R361); BADCRC, BADCMD, BADLEN, RESV and NOSESS raise EV_MBXERR (R370).
Log entry 15 (DESIGN CHOICE). -/
def finish (c : Cmd) (status detail : Nat) (resp : List Byte) (d : Dev) : Dev :=
  let d1 := complete ⟨c.slot, c.tag, c.op, status, detail, resp, tMs d⟩ (popRung d)
  if 3 ≤ status ∧ status ≤ 7 then mbxErr c.slot status 0 d1 else d1

/-- The turn of the oldest waiting command has come and its checks are not made yet (R360): none has its turn in a pause,
nor while TEST_EN stops the SVP. Log entry 14 (DEDUCED). -/
def turnDue (d : Dev) : Bool := !d.mbx.rung.isEmpty && !d.mbx.checked && !d.mbx.paused && !d.sys.testStop

/-- The oldest commands that wait, in their turn (R359, R360): each that fails a check from 1 to 6 completes with its
status and changes nothing, up to the first that passes them all. The number bounds the commands looked at: there are 16
slots. Log entry 14 (DEDUCED). -/
def takeTurn (m : List Host.Cell) : Nat → Dev → Dev
  | 0, d => d
  | n + 1, d =>
    if turnDue d then
      let s := d.mbx.rung.headD 0
      match slotFault d (slotBytes m s) with
      | none => { d with mbx := { d.mbx with checked := true } }
      | some (st, dt) => takeTurn m n (finish (cmdAt m s) st dt [] d)
    else d

/-- A refusal whose DETAIL the spec does not state (a free value). Log entry 15 (DESIGN CHOICE). -/
def finishOpen (c : Cmd) (d : Dev) : Dev :=
  let (k, d1) := takeFree d
  finish c 1 (Config.freeNat k) [] d1

/-- A long command has passed its checks and runs on (R360). Log entry 17 (DEDUCED). -/
def goLong (c : Cmd) (d : Dev) : Dev :=
  let d1 := popRung d
  { d1 with mbx := { d1.mbx with long := d1.mbx.long ++ [⟨c.slot, c.op, c.tag, cmdClass d c, c.body⟩] } }

/-- The long command of opcode `op`, if one runs. Log entry 17 (DEDUCED). -/
def longOf (d : Dev) (op : Nat) : Option LongCmd := d.mbx.long.find? (fun l => l.op = op)

/-- The long command in `slot` ends (R360, R361). -/
def finishLong (slot status detail : Nat) (resp : List Byte) (d : Dev) : Dev :=
  match d.mbx.long.find? (fun l => l.slot = slot) with
  | none => d
  | some l =>
    complete ⟨l.slot, l.tag, l.op, status, detail, resp, tMs d⟩
      { d with mbx := { d.mbx with long := d.mbx.long.filter (fun x => x.slot ≠ slot) } }

/-- A long command ends with a refusal whose DETAIL the spec does not state. Log entry 15 (DESIGN CHOICE). -/
def finishLongOpen (slot : Nat) (d : Dev) : Dev :=
  let (k, d1) := takeFree d
  finishLong slot 1 (Config.freeNat k) [] d1

/-- The commands that recovery serves (R544): SESSION, FWSTAGE and FWACT MODE 2. -/
def recoveryServes (c : Cmd) : Bool := c.op = 0x0B || c.op = 0x08 || (c.op = 0x09 && field c.body 0 0 = 2)

/-- Run `f` on the command in `slot` if its turn has come and it has opcode `op`; a long command of an opcode that
runs already completes with BUSY (R360), and in recovery every command but three is refused (R544).
Log entry 17 (DEDUCED). -/
def runCmd (m : List Host.Cell) (slot op : Nat) (f : Cmd → Dev → Dev) (d : Dev) : Dev :=
  let e := takeTurn m 16 d
  if isHead m e slot op then
    let c := cmdAt m slot
    if e.boot.recovery ∧ ¬ recoveryServes c then finish c 1 10 [] e
    else if (longOf e op).isSome then finish c 0x0C op [] e
    else f c e
  else e

/-- A command of the mailbox at tick `t`: it reads its slot and acts on the device. Log entry 2 (DESIGN CHOICE). -/
def liftCmd (t slot op : Nat) (f : Cmd → Dev → Dev) (s : State) : Host.Outcome State Fault Refusal :=
  lift t (runCmd s.hostMem slot op f) s

/-- Append a record to the journal of the Locket (R389). -/
def journal (r : JRec) (d : Dev) : Dev := { d with lkt := { d.lkt with journal := d.lkt.journal ++ [r] } }

/-- A snapshot is being written (R387, R388). -/
def snapWriting (d : Dev) : Bool := d.lkt.snapState = 1

/-- The number of the snapshot that will be the newest: the one being written, or the newest complete one (R389).
Log entry 44 (DEDUCED). -/
def snapNext (d : Dev) : Nat := if snapWriting d then d.lkt.body.seq else d.lkt.snapSeq

/-- Write an immediate-acting kept value and journal it (R389). -/
def keepImm (pid i v : Nat) (d : Dev) : Dev := journal (.immediate (pkey pid i) v (snapNext d)) (setPrm pid i v d)

end Sys2Proof.Machine
end

