-- ==== Sys2Proof/Machine/Trans.lean ====
section
/-!
DEFINITION. The operations that every family shares: legs and their trip gate, the
disconnect channel's demand, aborting a sweep, and moving between states (R21 to R26, R133, R183, R268, R491, R584).
-/
namespace Sys2Proof.Machine

/-- Ticks of 2.5 ns in a millisecond. -/
def ticksPerMs : Nat := 400000

/-- Apply `f k` for every `k < n`, in ascending order. -/
def forAll (n : Nat) (f : Nat → Dev → Dev) (d : Dev) : Dev := (List.range n).foldl (fun e k => f k e) d

/-! ### Legs -/

/-- Leg `n`. -/
def leg (d : Dev) (n : Nat) : Leg := tget {} d.legs n

/-- Change leg `n`. -/
def modLeg (n : Nat) (f : Leg → Leg) (d : Dev) : Dev := { d with legs := tmod {} n f d.legs }

/-- Window `w`. -/
def win (d : Dev) (w : Nat) : Window := tget {} d.wins w

/-- Change window `w`. -/
def modWin (w : Nat) (f : Window → Window) (d : Dev) : Dev := { d with wins := tmod {} w f d.wins }

/-- The role of leg `n` (R13). -/
def role (d : Dev) (n : Nat) : Nat := prm d 0x3100 n

/-- Window `w` demands the trip gate of the legs it guards (R154). -/
def winHold (d : Dev) (w : Nat) : Bool :=
  (win d w).lat || (win d w).armhold || (win d w).cutHold || (win d w).pllHold

/-- A block window counts as latched (R583). -/
def blockLatched (d : Dev) : Bool :=
  (List.range 8).any (fun k =>
    (win d (48 + k)).lat || (win d (48 + k)).armhold || (win d (48 + k)).failHi || (win d (48 + k)).failLo)

/-- A window that guards leg `n` demands its gate (R148, R154). -/
def guardHold (d : Dev) (n : Nat) : Bool := winHold d n || (List.range 8).any (fun k => winHold d (48 + k))

/-- The loops are locked: bit `l` of the lock register (R520). -/
def locked (d : Dev) (l : Nat) : Bool := bit d.clk.lock l

/-- The inputs of the trip gate that a service force does not pass (R133, R135); a driver clear holds its legs until
they rejoin (R143). Log entry 52 (DEDUCED). -/
def hardHold (d : Dev) (n : Nat) : Bool :=
  guardHold d n || (leg d n).dfltLat || (leg d n).duvLat || bit d.pwm.clrBusy (n / 8) || bit d.pwm.rejoin n || d.pwm.devHold ||
    !locked d 2

/-- The trip gate holds both outputs of leg `n` off (R133). Log entry 65 (DEDUCED). -/
def gateHeld (d : Dev) (n : Nat) : Bool :=
  hardHold d n || (!bit (leg d n).force 0 && (!(leg d n).insvc || (leg d n).replayHold))

/-- The states in which outputs may follow the chain (R137): no gates in any other. Log entry 53 (DEDUCED). -/
def gatesState (d : Dev) : Bool :=
  match d.sys.st with
  | .run | .ride | .form | .service => true
  | _ => false

/-- Outputs are at high impedance (R137, R536, R568): in OFF and CLASP, in reset, during a start, on a standby, in
recovery and under TEST_EN. Log entry 105 (DEDUCED). -/
def hiZ (d : Dev) : Bool :=
  !d.sys.up || d.sys.standby || d.clasp.rstLow || d.sys.testStop || d.boot.recovery ||
    d.sys.st = .off || d.sys.st = .clasp

/-- The outputs of stage 4: the service force in the place of the dead-time generator (R133, R135). -/
def stage4 (x : Leg) : Bool × Bool := if bit x.force 0 then (bit x.force 1, bit x.force 2) else (x.gh3, x.gl3)

/-- The start pulse of R125 passes: no input of the trip gate holds the leg but its being out of service and a driver
clear, and the interlock does not block. Log entry 64 (DEDUCED). -/
def pulsePasses (d : Dev) (n : Nat) : Bool :=
  !(guardHold d n || (leg d n).dfltLat || (leg d n).duvLat || d.pwm.devHold || !locked d 2 ||
    (leg d n).replayHold || (leg d n).blocked)

/-- The leg has a bootstrap to refresh (R124, R144). -/
def refreshes (d : Dev) (n : Nat) : Bool := decide (1 ≤ prm d 0x310C n) && role d n ≠ 4

/-- The tick at which the running clear of group `g` ends (R143). -/
def clrEnd (d : Dev) (g : Nat) : Nat := tget 0 d.pwm.clrT g + 4800 + 400 * tget 0 d.pwm.clrW g

/-- Leg `n` starts, or starts again after a driver clear, at tick `a` (R125, R143): it has been placed boot.min ticks
before, so that its start pulse has room. Log entry 64 (DEDUCED). -/
def startsAt (d : Dev) (n a : Nat) : Bool :=
  ((leg d n).entering && (!refreshes d n || decide ((leg d n).entT + prm d 0x310D n ≤ a))) ||
    ((leg d n).insvc && bit d.pwm.rejoin n && (!bit d.pwm.clrBusy (n / 8) || decide (clrEnd d (n / 8) ≤ a)))

/-- The start pulse is on: the boot.min ticks immediately before the period start at which the leg starts (R125).
Log entry 64 (DEDUCED). -/
def pulseOn (d : Dev) (n : Nat) : Bool :=
  let a := (leg d n).start + (leg d n).len
  refreshes d n && (leg d n).running && pulsePasses d n && startsAt d n a &&
    decide (d.t < a ∧ a ≤ d.t + prm d 0x310D n)

/-- GH and GL of leg `n` behind the trip gate; none at high impedance (R133, R137). -/
def gateOut (d : Dev) (n : Nat) : Option (Bool × Bool) :=
  if hiZ d then none
  else if gatesState d && role d n ≠ 0 && pulseOn d n then some (false, true)
  else if !gatesState d || role d n = 0 || gateHeld d n || (leg d n).blocked then some (false, false)
  else some (stage4 (leg d n))

/-- What a ball carries in the stage that out.mode selects (R136): at mode 0 the levels, inverted by out.pol; else the
current of out.ion in mA, or high impedance. -/
def stageOut (d : Dev) (n : Nat) (on : Bool) : PinOut :=
  let i := 2 * prm d 0x3111 n
  match prm d 0x3110 n, on with
  | 0, _ => if on ≠ decide (prm d 0x3112 n = 1) then .high else .low
  | 1, true => .source i
  | 2, true => .sink i
  | 3, true => .source i
  | 3, false => .sink i
  | _, _ => .hiZ

/-- The balls GH[n] (`high`) and GL[n] (R136, R137). -/
def gateBall (d : Dev) (n : Nat) (high : Bool) : PinOut :=
  match gateOut d n with
  | none => .hiZ
  | some p => stageOut d n (if high then p.1 else p.2)

/-- The leg is in service. -/
def inSvc (d : Dev) (n : Nat) : Bool := (leg d n).insvc

/-- The leg is in service, or enters it at its next period start, and does not leave. -/
def legOn (d : Dev) (n : Nat) : Bool :=
  ((leg d n).insvc && !(leg d n).leaving && !(leg d n).companion) || (leg d n).entering

/-- The three legs of bridge `k` (R182). -/
def brLegs (d : Dev) (k : Nat) : List Nat :=
  [bits (prm d 0x5060 k) 5 0, bits (prm d 0x5060 k) 13 8, bits (prm d 0x5060 k) 21 16]

/-- Bridge `k` is enabled (R182). -/
def brEnabled (d : Dev) (k : Nat) : Bool := bit (prm d 0x5060 k) 31

/-- Bridge `k` is available: all three of its legs are in service (R183). Log entry 75 (DEDUCED). -/
def brAvail (d : Dev) (k : Nat) : Bool := brEnabled d k && (brLegs d k).all (legOn d)

/-- The enabled bridge that holds leg `n`. Log entry 75 (DEDUCED). -/
def bridgeOf (d : Dev) (n : Nat) : Option Nat :=
  (List.range 16).find? (fun k => brEnabled d k && (brLegs d k).contains n)

/-- The number of enabled bridges, m_cfg, and of available ones, m (R188, R285). -/
def mCfg (d : Dev) : Nat := ((List.range 16).filter (brEnabled d)).length
def mOn (d : Dev) : Nat := ((List.range 16).filter (brAvail d)).length

/-- What a leg keeps when it leaves service: its switching signal stops driving outputs, and its counts restart.
Log entry 75 (DEDUCED). -/
def legLeft (x : Leg) : Leg :=
  { x with insvc := false, entering := false, leaving := false, companion := false, gated := true, dt := none,
           shootRun := 0, refresh := 0, duvBlank := false, startPulse := false }

/-- The dead time in fine steps of the output that turns on after S rises or falls: dt.rise for GH and for the GL of a
brake leg, dt.fall for GL (R122, R144). -/
def turnOn (d : Dev) (n : Nat) (rise : Bool) : Nat := if rise then prm d 0x3109 n else prm d 0x310A n

/-- The output that the chain of leg `n` wants on: GH (true) or GL; a brake leg switches GL alone, with S (R144). -/
def wants (d : Dev) (n : Nat) : Option Bool :=
  if role d n = 4 then (if (leg d n).s then some false else none) else some (leg d n).s

/-- The GL on-interval that has lasted up to the fine step `f` counts as refreshing if it is long enough (R124). -/
def creditGl (n f : Nat) (d : Dev) : Dev :=
  match (leg d n).glOn with
  | some a =>
    if a + 16 * prm d 0x310D n ≤ f then modLeg n (fun x => { x with refreshed := true, refresh := 0 }) d else d
  | none => d

/-- The live follow-up of every change of a trip gate: a hold ends a pending turn-on, and after a lift each output
that the chain wants turns on after its own dead time (R584). Log entry 65 (DEDUCED). -/
def regateLeg (n : Nat) (d : Dev) : Dev :=
  let x := leg d n
  let h := gateHeld d n
  if !x.insvc || h = x.gated then d
  else if h then modLeg n (fun y => { y with gated := true, dt := none, glOn := none }) (creditGl n (16 * d.t) d)
  else
    modLeg n (fun y => { y with gated := false, gh3 := false, gl3 := false, glOn := none,
                                dt := wants d n, dtAt := 16 * d.t + turnOn d n x.s }) d

/-- `regateLeg` over all legs. -/
def regate (d : Dev) : Dev := forAll 48 regateLeg d

/-! ### Setpoints of owned cascades and the abort of a PV sweep -/

/-- An engineering value of an input as a code of that input (R36, 0x1104 ain.scale). -/
def toCode (d : Dev) (ain : Nat) (x : Rat) : Int := clampI (-8388608) 8388607 (roundAway (x / prmF d 0x1104 ain))

/-- Write sp.fixed of a cascade (R99, R260). -/
def setSp (c : Nat) (v : Int) (d : Dev) : Dev := setPrm 0x2202 c (ofInt 32 v) d

/-- Write sp.rate of a cascade, codes per ms (R95, R265). -/
def setSpRate (c : Nat) (r : Int) (d : Dev) : Dev := setPrm 0x2205 c (clampI 0 8388607 r).toNat d

/-- PV input `q`. -/
def pvIn (d : Dev) (q : Nat) : PvIn := tget {} d.pv.ins q

/-- Change PV input `q`. -/
def modPv (q : Nat) (f : PvIn → PvIn) (d : Dev) : Dev := { d with pv := { d.pv with ins := tmod {} q f d.pv.ins } }

/-- The cascade V(q) (R255). -/
def pvCas (d : Dev) (q : Nat) : Nat := prm d 0x7000 0 + q

/-- The sweep rate R of R265 in codes per ms. -/
def pvRate (d : Dev) (q : Nat) : Int := toCode d (prm d 0x7102 q) ((pvIn d q).voc * 45 / 4000)

/-- Set V_ref of input `q`, moved at `rate` codes per ms (R260, R265). -/
def setVref (q : Nat) (v : Rat) (rate : Int) (d : Dev) : Dev :=
  modPv q (fun x => { x with vref := v })
    (setSpRate (pvCas d q) rate (setSp (pvCas d q) (toCode d (prm d 0x7102 q) v) d))

/-- The tick at which the setpoint unit of V(q) reaches code `v` at the rate of R265. -/
def reachTick (d : Dev) (q : Nat) (v : Int) : Nat :=
  let x := tget ({} : Cas) d.fil.cas (pvCas d q)
  let r : Rat := (pvRate d q : Rat)
  if r ≤ 0 then d.t else d.t + (absR (x.spVal - (v : Rat)) / r * 400000).ceil.toNat

/-- Count a sweep that was dropped or aborted (R264, R268, R272). -/
def countSkip (q : Nat) (d : Dev) : Dev :=
  raiseI 69 q { d with pv := { d.pv with skips := incSat 255 d.pv.skips } }

/-- End POST of a recorder unit for the reason `code` (R335): the record ends at the newest row. -/
def endUnit (u code : Nat) (d : Dev) : Dev :=
  if (unit d u).st = 3 then
    modUnit u (fun x => { x with st := 4, endCode := code, stT := d.t, endAt := x.ring.head?.map (fun r => r.t) }) d
  else d

/-- Abort the sweep that runs (R268): the return phase follows to V_op from the current reference, with the ceiling state at
the power there (R265). Log entry 84 (DEDUCED). -/
def sweepAbort (d : Dev) : Dev :=
  if 2 ≤ d.pv.sweepPh ∧ d.pv.sweepPh ≤ 4 then
    let q := d.pv.sweepQ
    let d1 := { d with pv := { d.pv with sweepPh := 5, target := d.pv.vop, aborted := true,
                                         reachAt := reachTick d q (toCode d (prm d 0x7102 q) d.pv.vop) } }
    let d2 := modPv q (fun x => { x with swpBad := true, vNext := none, ceil := d.pv.pBefore })
      (setVref q d.pv.vop (pvRate d q) d1)
    countSkip q (endUnit (prm d 0x7002 0) 3 d2)
  else d

/-- The legs of PV input `q` (R253). -/
def pvLegs (d : Dev) (q : Nat) : List Nat := (List.range (prm d 0x7101 q)).map (fun i => prm d 0x7100 q + i)

/-- A leg of the input that sweeps leaves service (R268). -/
def sweepLegLost (n : Nat) (d : Dev) : Dev :=
  if d.pv.sweepPh ≠ 0 ∧ (pvLegs d d.pv.sweepQ).contains n then sweepAbort d else d

/-! ### The disconnect channel -/

/-- A parameter of area 0xE1xx as the channel uses it: a change that landed during a test or a closing waits for its
end (R498). -/
def gdPrm (d : Dev) (pid : Nat) : Nat :=
  match tget none d.gd.old pid with
  | some v => v
  | none => prm d pid 0

/-- Both drives go off at once (R490): a closing ends, an off-test is abandoned (R494), and the opening of a closed
channel waits for its confirmation. Log entries 98 (DEDUCED), 101 (DEDUCED). -/
def gdOff (d : Dev) : Dev :=
  { d with gd := { d.gd with
      gdh := false, gdl := false, closing := false,
      opening := d.gd.opening || d.gd.gdh || d.gd.gdl || d.gd.closed,
      offT := if d.gd.gdh || d.gd.gdl || d.gd.testing = 1 then d.t else d.gd.offT,
      testing := if d.gd.testing = 1 then 0 else d.gd.testing,
      testBack := none, holdFrom := none, pairHold := false, old := [] } }

/-- A demand (R491): DEM is set and both drives go off; `grid` where it concerns the grid (R499).
Log entry 98 (DEDUCED). -/
def gdDemand (grid : Bool) (d : Dev) : Dev :=
  let d1 := gdOff d
  { d1 with gd := { d1.gd with dem := true, demGrid := d1.gd.demGrid || grid } }

/-! ### Transitions -/

/-- States of R24 from which cause `c` brings TRIP. Log entry 51 (DEDUCED). -/
def canTrip (d : Dev) (c : Nat) : Bool :=
  match d.sys.st with
  | .sync | .run | .ride | .form | .service => true
  | .ready | .doze => c = 0x24 || (0x26 ≤ c && c ≤ 0x29)
  | _ => false

/-- What leaving a state undoes: SERVICE ends every force (R135), TRIP the hold of every leg and ISLAND (R244).
Log entry 53 (DEDUCED). -/
def leaveState (d : Dev) : Dev :=
  match d.sys.st with
  | .service =>
    let d1 := forAll 48 (fun n e => modLeg n (fun x => { x with force := 0 }) e) d
    { d1 with sys := { d1.sys with svcRet := .off } }
  | .trip => { d with sys := { d.sys with tripCauses := [] }, pwm := { d.pwm with devHold := false },
                      charm := { d.charm with island := d.charm.island && d.charm.reported, recSince := none } }
  | .form => { d with gs := { d.gs with forming := false, okSince := none } }
  | _ => d

/-- The power commands of no power (R187). -/
def zeroPower (d : Dev) : Dev :=
  { d with gs := { d.gs with pR := 0, qCmd := 0, pCmd := 0, landP := 0, landQ := 0, gd := 0, gq := 0, slim := false,
                             ramping := false } }

/-- What entering a state brings with it: DEM clears in READY (R491), a sweep aborts in RIDE, TRIP and SERVICE (R268),
the passive methods of Charm are blanked in RUN (R228), and a record that runs notes the TRIP (R337). -/
def enterState (target : OpState) (d : Dev) : Dev :=
  match target with
  | .ready => zeroPower { d with gd := { d.gd with dem := false, demGrid := false } }
  | .sync | .doze | .off | .clasp => zeroPower d
  | .ride | .service => sweepAbort d
  | .run => { d with charm := { d.charm with blank := true, blankFrom := d.t } }
  | .trip => sweepAbort (zeroPower (forAll 4 (fun u e => modUnit u (fun x =>
      if x.st = 3 then { x with tripSeen := true } else x) e) { d with loupe := { d.loupe with tripT := some d.t } }))
  | .form => { d with charm := { d.charm with formDone := false } }

/-- Probing stops (R235, R242): ACTIVE falls, the chips that have not yet ended are invalid (R236), and what would have
landed at the next tick loses its probe. -/
def charmStop (d : Dev) : Dev :=
  let m := d.t / 400000
  let c := d.charm
  if c.active then
    { d with
      charm := { c with
        active := false, eNext := 0,
        open_ := c.open_.map (fun e => (e.1, e.2.map (fun x => (x.1, x.2.1, x.2.2.1, x.2.2.2 && decide (e.1 < m))))) }
      gs := { d.gs with landQ := d.gs.landQ - c.eNext } }
  else d

/-- Charm probes in RUN, and in SERVICE that returns to RUN (R235). -/
def probeState (target : OpState) (d : Dev) : Dev :=
  if target = .run ∨ (target = .service ∧ d.sys.st = .run) then d else charmStop d

/-- The calibrations that run are cut off (R364): the state leaves the one R54 requires, or a landed commit changes
their input; DETAIL is the new state code. -/
def calAbort (ok : Nat → Bool) (d : Dev) : Dev :=
  let stop := fun (j : CalJob) => !ok j.ain
  let d1 := match d.acq.calZero with
    | some j => if stop j then finishLong j.slot 0x10 (stCode d.sys.st) [] { d with acq := { d.acq with calZero := none } }
      else d
    | none => d
  match d1.acq.calFull with
  | some j => if stop j then finishLong j.slot 0x10 (stCode d.sys.st) [] { d1 with acq := { d1.acq with calFull := none } }
    else d1
  | none => d1

/-- The running COMMIT ends without a landing, and with it a swap that waits (R113). -/
def dropCommit (d : Dev) : Dev := { d with commit := none, fil := { d.fil with swapPend := false } }

/-- A transition (R21): STATE, PREV, CAUSE and SEQ change together and EV_STATE is raised with the ARG of R370. After an
early warning none but that to CLASP follows (R26, R528). Log entry 53 (DEDUCED). -/
def transition (target : OpState) (cause : Nat) (d : Dev) : Dev :=
  if d.hold.warned ∧ target ≠ .clasp then d else
  let d1 := leaveState (probeState target d)
  let seq := (d1.sys.seq + 1) % 256
  let fa := target = .form && (cause = 0x12 || cause = 0x13 || (cause = 0x30 && d.pnd.mirrorAuto))
  let d2 := { d1 with sys := { d1.sys with
    st := target, prev := d.sys.st, cause := cause, seq := seq, auto := .none, formAuto := fa,
    autoT := if cause = 0x05 then d1.sys.autoT else some d.t } }
  calAbort (fun _ => target = .ready || target = .service) (enterState target (raise 0 (stCode target)
    [BitVec.ofNat 8 (stCode d.sys.st), BitVec.ofNat 8 cause, BitVec.ofNat 8 seq, BitVec.ofNat 8 (b01 fa)] d2))

/-- Every leg leaves service (R137, R279), an unplanned change where one was in service. Log entry 53 (DEDUCED). -/
def legsOut (d : Dev) : Dev :=
  let any := (List.range 48).any (fun n => (leg d n).insvc || (leg d n).entering)
  let d1 := forAll 48 (fun n e =>
    if (leg e n).insvc || (leg e n).entering then sweepLegLost n (modLeg n legLeft e) else e) d
  { d1 with setr := { d1.setr with unplanned := d1.setr.unplanned || any } }

/-- Lane `k` is in use (R424: a mode other than 0). -/
def laneUsed (d : Dev) (k : Nat) : Bool := prm d 0xC000 k ≠ 0

/-- The loops that the present set-up needs: the four of the cores, and a LANE channel with a lane in use (R507). -/
def loopsNeeded (d : Dev) : Nat :=
  15 + (if laneUsed d 0 ∨ laneUsed d 1 then 16 else 0) +
    (if (List.range 6).any (fun k => laneUsed d (k + 2)) then 32 else 0)

/-- Arm window `w` (R160): with act 2 or 3, each enabled comparator starts asserted and ARMHOLD is set. -/
def armWin (w : Nat) (d : Dev) : Dev :=
  if prm d 0x4000 w = 2 ∨ prm d 0x4000 w = 3 then
    modWin w (fun x => { x with hiAct := bit (prm d 0x4003 w) 0, loAct := bit (prm d 0x4003 w) 1, armhold := true }) d
  else d

/-- Arm every window that protects. -/
def armAll (d : Dev) : Dev := forAll 56 armWin d

/-- The fast domains wake from DOZE (R552): the loops lock, the Casket leaves self-refresh, Facets resume, windows are
armed and the carriers restart at their first period start (R118). -/
def wakeDomains (d : Dev) : Dev :=
  armAll { d with clk := { d.clk with lock := if d.clk.refOk then loopsNeeded d else 0 },
                  cask := { d.cask with selfref := false } }

/-- Enter TRIP with cause `c` (R24, R26): every leg is held off first; in TRIP already, or
during the save of an early warning, the cause is only noted (R26, R583). The entry demands a disconnect where gd.dem.mask or R491 says so, and the active device of a pair declares a fault
with a cause from 0x26 to 0x29 (R464). Log entry 51 (DEDUCED). -/
def enterTrip (c : Nat) (d00 : Dev) : Dev :=
  let d := if 0x26 ≤ c ∧ c ≤ 0x29 ∧ d00.pnd.role = 1 then { d00 with pnd := { d00.pnd with fault := true } } else d00
  if d.sys.st = .trip ∨ (d.hold.warned ∧ canTrip d c) then
    { d with sys := { d.sys with
      tripCauses := if d.sys.tripCauses.contains c then d.sys.tripCauses else c :: d.sys.tripCauses } }
  else if canTrip d c then
    let d0 := if d.sys.st = .doze then wakeDomains d else d
    let d1 := { d0 with pwm := { d0.pwm with devHold := true } }
    let d2 := transition .trip c (legsOut d1)
    let d3 := { d2 with sys := { d2.sys with tripCauses := [c] } }
    if bit (gdPrm d3 0xE101) (c - 0x20) ∨ (0x22 ≤ c ∧ c ≤ 0x25) then
      gdDemand (0x22 ≤ c && c ≤ 0x24) d3
    else d3
  else d

/-- The state runs AC legs for R25: RUN, RIDE, FORM, and SERVICE that returns to RUN. Log entry 53 (DEDUCED). -/
def acState (d : Dev) : Bool :=
  d.sys.st = .run || d.sys.st = .ride || d.sys.st = .form || (d.sys.st = .service && d.sys.svcRet = .run)

/-- R25: with no AC leg available in such a state, the device enters TRIP with cause 0x21. -/
def checkAc (d : Dev) : Dev := if acState d ∧ mOn d = 0 then enterTrip 0x21 d else d

/-- A bridge loses leg `n` (R183): its other two legs leave at their next period start, or enter no more, and EV_BRDOWN
is raised. `up` is whether the bridge was available before. Log entry 75 (DEDUCED). -/
def bridgeDown (n : Nat) (up : Bool) (d : Dev) : Dev :=
  match bridgeOf d n with
  | none => d
  | some k =>
    let d1 := (brLegs d k).foldl (fun e m =>
      if m = n then e
      else if inSvc e m then modLeg m (fun x => { x with companion := true }) e
      else if (leg e m).entering then modLeg m (fun x => { x with entering := false, mayReturn := true }) e
      else e) d
    if up then raiseI 59 k d1 else d1

/-- Leg `n` leaves service by itself, or loses its placement before it enters (R25, R75, R183, R580): an unplanned
change of R279. `back` says that it left only through a cascade halt, so that the Setter may return it (R284).
Log entry 75 (DEDUCED). -/
def legOut (n : Nat) (back : Bool) (d : Dev) : Dev :=
  if inSvc d n || (leg d n).entering then
    let up := match bridgeOf d n with
      | some k => brAvail d k
      | none => false
    let d1 := modLeg n (fun x => { legLeft x with mayReturn := back, barred := x.barred || !back }) d
    let d2 := { d1 with setr := { d1.setr with unplanned := true } }
    let d3 := bridgeDown n up (sweepLegLost n d2)
    if role d n = 1 then checkAc d3 else d3
  else d

/-- The channel declares a fault (R495): FAULT, FCODE, EV_GDFAULT and a demand of its own; in SYNC to SERVICE the
device enters TRIP with cause 0x25 (R20, R490). Log entries 25 (DEDUCED), 99 (DEDUCED). -/
def gdFault (code : Nat) (d : Dev) : Dev :=
  let d1 := { d with gd := { d.gd with fault := true, fcode := code } }
  enterTrip 0x25 (gdDemand false (raiseI 112 code d1))

/-- Enter READY (R24), which ends the standby role (R28), and TRIP at once where the filtered ESTOP is low (R492). -/
def enterReady (cause : Nat) (d : Dev) : Dev :=
  let d1 := transition .ready cause { d with sys := { d.sys with standby := false } }
  if d1.gd.estop then enterTrip 0x24 (raiseI 113 0 d1) else d1

end Sys2Proof.Machine
end

