-- ==== Sys2Proof/Machine/Legs.lean ====
section
/-!
DEFINITION. Carriers, the switching signal, dead times, the interlock, driver inputs and driver enables (R114 to R147,
R156, R183, R278, R584).
-/
namespace Sys2Proof.Machine

/-- An immediate write that needs session class `need`: DENIED below it (R359, R362); a standby refuses it with DETAIL 9
(R458). -/
def immediate (cls need : Nat) (f : Dev → Dev) (d : Dev) : Dev :=
  if ¬ d.sys.up ∨ d.sys.testStop then d
  else if cls < need then answer 2 need d
  else if d.boot.recovery then answer 1 10 d
  else if d.sys.standby then answer 1 9 d
  else f d

/-- A refusal whose DETAIL the spec does not state: a free value. Log entry 15 (DESIGN CHOICE). -/
def refuseOpen (d : Dev) : Dev :=
  let (k, d1) := takeFree d
  answer 1 (Config.freeNat k) d1

/-- The carriers run (R118): in every state from READY on but DOZE, while the PWM PLL is locked. -/
def carriersRun (d : Dev) : Bool :=
  locked d 2 &&
  match d.sys.st with
  | .ready | .sync | .run | .ride | .form | .trip | .service => true
  | .doze => d.sys.auto = .wakeCheck
  | _ => false

/-! ### Scan triggers (R34) -/

/-- Facet `f`. -/
def facet (d : Dev) (f : Nat) : Facet := tget {} d.acq.facets f

/-- Change Facet `f`. -/
def modFacet (f : Nat) (g : Facet → Facet) (d : Dev) : Dev :=
  { d with acq := { d.acq with facets := tmod {} f g d.acq.facets } }

/-- A trigger event reaches Facet `f` in mode 2: it starts a scan that waits for scan.delay, or it is ignored and
counted while a scan is busy (R34). Log entry 55 (DEDUCED). -/
def scanTrig (f : Nat) (d : Dev) : Dev :=
  if (facet d f).waiting.isSome ∨ d.t < (facet d f).until_ then
    modFacet f (fun x => { x with missed := incSat 65535 x.missed }) d
  else modFacet f (fun x => { x with waiting := some (d.t + prm d 0x1004 f) }) d

/-- A carrier event of leg `n`, valley or peak, triggers the Facets that name it (R35). -/
def legTrig (n : Nat) (peak : Bool) (d : Dev) : Dev :=
  forAll 13 (fun f e =>
    if prm e 0x1000 f = 2 ∧ prm e 0x1002 f = n ∧
        (prm e 0x1003 f = 2 ∨ prm e 0x1003 f = (if peak then 1 else 0)) then scanTrig f e else e) d

/-! ### The interlock (R134) -/

/-- Both outputs of stage 4 on: the interlock blocks the leg until its next period start, which ends an on-interval of GL.
Log entry 65 (DEDUCED). -/
def interlock (n : Nat) (d : Dev) : Dev :=
  let x := leg d n
  if (stage4 x).1 && (stage4 x).2 && !x.blocked then
    let d1 := modLeg n (fun y => { y with blocked := true, glOn := none, shootCnt := incSat 255 y.shootCnt }) d
    if x.shootEp = ep d + 1 then d1
    else
      let d2 := raiseI 41 n (modLeg n (fun y => { y with shootEp := ep d + 1 }) d1)
      { d2 with pwm := { d2.pwm with shootAny := true } }
  else d

/-! ### Period starts -/

/-- The cascade that drives leg `n`: enabled and with its dest on the leg (R86, R119). -/
def driver (d : Dev) (n : Nat) : Option Nat :=
  (List.range 128).find? (fun c => prm d 0x2010 c = 1 && prm d 0x2018 c = 0x1000 + n)

/-- A period of leg `n` starts at the present tick (R115, R116); after a change of period or phase, not before half a
new period has passed (R130). -/
def periodDue (d : Dev) (n : Nat) : Bool :=
  let p := prm d 0x3104 n
  let ph := prm d 0x3105 n
  if prm d 0x3103 n = 1 ∧ 0 < n then
    (leg d (n - 1)).running && (leg d (n - 1)).starts.any (fun a => d.t = a + ph)
  else
    decide (((d.t : Int) - (ph : Int)) % (p : Int) = 0) &&
      (!(leg d n).transition || decide ((leg d n).start * 2 + p ≤ d.t * 2))

/-- Load the committed values that wait for the period start (R128), and the skew rule of R131.
Log entry 63 (DEDUCED). -/
def loadShadow (n : Nat) (d : Dev) : Dev :=
  let x := leg d n
  if x.load = [] then d
  else
    let d1 := x.load.foldl (fun e kv => match kv.2 with
      | some v => setPrm kv.1 n v e
      | none => e) d
    let moved := prm d1 0x3104 n ≠ prm d 0x3104 n
    let d2 := modLeg n (fun y => { y with
      load := [], transition := prm d1 0x3103 n = 0 && (moved || prm d1 0x3105 n ≠ prm d 0x3105 n) }) d1
    if moved ∧ driver d2 n = none ∧ prm d1 0x3106 n = prm d 0x3106 n then
      let d3 := raiseI 40 n (modLeg n (fun y => { y with skew := true }) d2)
      let d4 := { d3 with pwm := { d3.pwm with skewAny := true } }
      if 16 * prm d4 0x3104 n < prm d4 0x3106 n then setPrm 0x3106 n (16 * prm d4 0x3104 n) d4 else d4
    else d2

/-- Length of the period that starts now: P, or the transition period of R130. Log entry 63 (DEDUCED). -/
def periodLen (d : Dev) (n : Nat) : Nat :=
  let p := prm d 0x3104 n
  if (leg d n).transition then
    let h := (p + 1) / 2
    let r := ((prm d 0x3105 n : Int) - ((d.t + h : Nat) : Int)) % (p : Int)
    h + r.toNat
  else p

/-- The cut of window `n` at a period start of its leg (R156): the period that ends counts where it was cut, and the
cut clears once both filters have released. Log entry 63 (DEDUCED). -/
def cutPeriod (n : Nat) (d : Dev) : Dev :=
  let x := win d n
  if x.cutHold then
    let d1 := modWin n (fun y => { y with cuts := incSat 65535 y.cuts, cutRun := y.cutRun + 1,
                                          cutHold := y.hiAct || y.loAct }) d
    if x.cutEp = ep d + 1 then d1 else raiseI 51 n (modWin n (fun y => { y with cutEp := ep d + 1 }) d1)
  else modWin n (fun y => { y with cutRun := 0 }) d

/-- A leg starts at its period start, GL on from the start pulse where that was given (R125): the refresh count starts
from zero. Log entry 64 (DEDUCED). -/
def startLeg (n : Nat) (d : Dev) : Dev :=
  let given := refreshes d n && pulsePasses d n
  modLeg n (fun x => { x with
    gh3 := false, gl3 := given && !x.s,
    dt := if given && !x.s then none else wants d n, dtAt := 16 * d.t + turnOn d n x.s,
    glOn := if given && !x.s && !gateHeld d n then some (16 * d.t) else none,
    refresh := 0, refreshed := false, startPulse := given, gated := gateHeld d n }) d

/-- The shoot-through count at a period start: a blocked period of a leg in service counts, and the block ends, so that
GL may be on again (R134). Log entry 66 (DEDUCED). -/
def shootPeriod (n : Nat) (d : Dev) : Dev :=
  let on := (leg d n).blocked && (stage4 (leg d n)).2 && !gateHeld d n
  modLeg n (fun x => { x with shootRun := if x.blocked && x.insvc then x.shootRun + 1 else 0, blocked := false,
                              glOn := if on then some (16 * d.t) else x.glOn }) d

/-- A GL on-interval that has refreshed the period that ends is measured anew for the one that starts (R124). -/
def creditPeriod (n : Nat) (d : Dev) : Dev :=
  let d1 := creditGl n (16 * d.t) d
  if (leg d n).glOn.isSome ∧ (leg d1 n).refreshed ∧ ¬ (leg d n).refreshed then
    modLeg n (fun x => { x with glOn := some (16 * d.t) }) d1 else d1

/-- The legs of a live clear that has ended rejoin at their period start (R125, R143); one that has left service
meanwhile does not. -/
def rejoinLeg (n : Nat) (d : Dev) : Dev :=
  if bit d.pwm.rejoin n ∧ ¬ bit d.pwm.clrBusy (n / 8) then
    let d1 := { d with pwm := { d.pwm with rejoin := clrBit d.pwm.rejoin n } }
    if inSvc d n then startLeg n d1 else d1
  else d

/-- `CARRIER_PERIOD_START`: the valley of leg `n`'s carrier (R115). Log entry 63 (DEDUCED). -/
def periodStart (n : Nat) (d : Dev) : Dev :=
  if n < 48 ∧ carriersRun d ∧ periodDue d n ∧ ((leg d n).running → (leg d n).start ≠ d.t) then
    let d0 := creditPeriod n d
    let d1 := modLeg n (fun x => { x with
      refresh := if x.refreshed then 0 else if x.insvc then x.refresh + 1 else 0,
      refreshed := false, transition := false, forceLow := false, rise := none, fall := none }) d0
    let d2 := loadShadow n d1
    let d3 := modLeg n (fun x => { x with start := d.t, len := periodLen d2 n, running := true, pend := false,
                                          starts := (d.t :: x.starts).take 4 }) d2
    let d4 := cutPeriod n (shootPeriod n d3)
    let d5 := regateLeg n d4
    let d6 := rejoinLeg n d5
    let d7 := if n = 47 ∧ prm d6 0x3140 0 = 1 then
      { d6 with pwm := { d6.pwm with syncOut := true, syncEnd := d.t + prm d6 0x3141 0 } } else d6
    interlock n (legTrig n false d7)
  else d

/-- Log entry 6 (DESIGN CHOICE). -/
def execCarrierPeriodStart (t n : Nat) (s : State) : Host.Outcome State Fault Refusal := lift t (periodStart n) s

/-! ### Load points (R119, R120, R123) -/

/-- The duty of leg `n` as a fraction (R119). Log entry 64 (DEDUCED). -/
def duty (d : Dev) (n : Nat) : Rat :=
  match driver d n with
  | some c =>
    let m : Rat := ((tget {} d.fil.cas c).good : Rat) / 8388608
    if prm d 0x3108 n = 0 then (1 + m) / 2 else maxR m 0
  | none => (prm d 0x3106 n : Rat) / (16 * prm d 0x3104 n : Nat)

/-- The high time in fine steps over a period of `l` ticks, rounded to the nearest, ties up (R120).
Log entry 64 (DEDUCED). -/
def highTime (d : Dev) (n l : Nat) : Nat := (duty d n * (16 * l : Nat) + 1 / 2).floor.toNat

/-- The planned rising edge for high time `h`, in fine steps from the valley, with the delay of R123 behind the last
fall, which a brake leg's GL does not need (R144); none where the high pulse is removed. -/
def planRise (d : Dev) (n h : Nat) : Option Nat :=
  let x := leg d n
  let tm := prm d 0x310B n
  if h < tm + prm d 0x3109 n then none
  else
    let base := if prm d 0x3102 n = 1 then (16 * x.len - h) / 2 else 0
    match x.lastFall with
    | some a => some (if role d n = 4 then base else max base (a + prm d 0x310A n + tm - 16 * x.start))
    | none => some base

/-- The planned falling edge for high time `h`, not before `now` fine steps from the valley, with the delay of R123
behind the last rise; none where the low gap is removed. -/
def planFall (d : Dev) (n h now : Nat) : Option Nat :=
  let x := leg d n
  let tm := prm d 0x310B n
  if role d n ≠ 4 ∧ 16 * x.len < h + tm + prm d 0x310A n then none
  else
    let base := if prm d 0x3102 n = 1 then 8 * x.len + (h + 1) / 2 else h
    match x.lastRise with
    | some a => some (max (max base now) (a + prm d 0x3109 n + tm - 16 * x.start))
    | none => some (max base now)

/-- The load at the valley: H1, the rising edge, and on a sawtooth with single update the falling edge too. -/
def loadValley (n : Nat) (d : Dev) : Dev :=
  let h := highTime d n (leg d n).len
  let r := planRise d n h
  let d1 := modLeg n (fun x => { x with
    h1 := h, h2 := if prm d 0x3107 n = 1 then x.h2 else h, rise := r, eatenGh := x.eatenGh || (r = none && 0 < h) }) d
  if prm d 0x3102 n = 0 ∧ prm d 0x3107 n = 0 then
    if r = none then modLeg n (fun x => { x with fall := if x.s then some 0 else none }) d1
    else
      let f := planFall d1 n h 0
      modLeg n (fun x => { x with fall := f, eatenGl := x.eatenGl || (f = none && h < 16 * x.len) }) d1
  else d1

/-- The load at the peak: H2 (with double update, else H1), and the falling edge. -/
def loadPeak (n : Nat) (d : Dev) : Dev :=
  let x := leg d n
  let h := if prm d 0x3107 n = 1 then highTime d n x.len else x.h1
  let d1 := modLeg n (fun y => { y with h2 := h }) d
  if prm d 0x3102 n = 1 ∨ prm d 0x3107 n = 1 then
    if ¬ x.s then d1
    else
      let f := planFall d1 n h (8 * x.len)
      modLeg n (fun y => { y with fall := f, eatenGl := y.eatenGl || (f = none && h < 16 * y.len) }) d1
  else d1

/-- `LOAD_POINT`: the valley or the peak of leg `n` (R119, R120); the peak also triggers scans (R35). -/
def loadPoint (n : Nat) (peak : Bool) (d : Dev) : Dev :=
  let x := leg d n
  if n < 48 ∧ carriersRun d ∧ x.running ∧ d.t = (if peak then x.start + x.len / 2 else x.start) then
    if peak then legTrig n true (loadPeak n d) else loadValley n d
  else d

def execLoadPoint (t n : Nat) (peak : Bool) (s : State) : Host.Outcome State Fault Refusal :=
  lift t (loadPoint n peak) s

/-! ### Edges of S and dead times -/

/-- S rises or falls (R122): the opposite output turns off on the same fine step, a pending turn-on is cancelled and
the dead time of the other output starts. A brake leg switches GL alone, with S (R144). Log entry 65 (DEDUCED). -/
def setS (n : Nat) (rise : Bool) (d : Dev) : Dev :=
  let at_ := if rise then (leg d n).rise else (leg d n).fall
  let abs_ := 16 * (leg d n).start + at_.getD (16 * (d.t - (leg d n).start))
  let d1 := if rise then creditGl n abs_ d else d
  let due := abs_ + turnOn d n rise
  if role d n = 4 then
    modLeg n (fun x =>
      if rise then { x with s := true, rise := none, lastRise := some abs_, gh3 := false, dt := some false, dtAt := due }
      else { x with s := false, fall := none, lastFall := some abs_, gh3 := false, gl3 := false, dt := none }) d1
  else
    modLeg n (fun x =>
      if rise then { x with s := true, rise := none, lastRise := some abs_, gl3 := false, glOn := none,
                            dt := some true, dtAt := due }
      else { x with s := false, fall := none, lastFall := some abs_, gh3 := false, dt := some false, dtAt := due }) d1

/-- The fine step `f` falls on the present tick edge, or between it and the one before. -/
def atFine (d : Dev) (f : Nat) : Bool := decide (f ≤ d.t * 16 ∧ d.t * 16 < f + 16)

/-- `S_EDGE`: a planned edge of S is reached (R120). An edge to the level that S already has does nothing. -/
def sEdge (n : Nat) (rise : Bool) (d : Dev) : Dev :=
  let x := leg d n
  let planned := if rise then x.rise else x.fall
  match planned with
  | none => d
  | some p =>
    if n < 48 ∧ carriersRun d ∧ x.running ∧ atFine d (x.start * 16 + p) then
      if x.s = rise ∨ (rise ∧ x.forceLow) then
        modLeg n (fun y => if rise then { y with rise := none } else { y with fall := none }) d
      else setS n rise d
    else d

def execSEdge (t n : Nat) (rise : Bool) (s : State) : Host.Outcome State Fault Refusal := lift t (sEdge n rise) s

/-- `DEAD_TIME_EXPIRY`: GH (`high`) or GL turns on at the fine step that is due (R122), and the interlock looks at the
pair (R134). Log entry 65 (DEDUCED). -/
def deadTime (n : Nat) (high : Bool) (d : Dev) : Dev :=
  if n < 48 ∧ carriersRun d ∧ (leg d n).dt = some high ∧ atFine d (leg d n).dtAt then
    interlock n (modLeg n (fun x =>
      if high then { x with gh3 := true, dt := none }
      else { x with gl3 := true, dt := none, glOn := if gateHeld d n || x.blocked then none else some x.dtAt }) d)
  else d

def execDeadTimeExpiry (t n : Nat) (high : Bool) (s : State) : Host.Outcome State Fault Refusal :=
  lift t (deadTime n high) s

/-- `SHOOT_LIMIT_TRIP` (R134). Log entry 66 (DEDUCED). -/
def shootLimit (n : Nat) (d : Dev) : Dev :=
  if n < 48 ∧ inSvc d n ∧ prm d 0x3124 n ≤ (leg d n).shootRun then
    legOut n false (modLeg n (fun x => { x with shootTrip := true }) d)
  else d

def execShootLimitTrip (t n : Nat) (s : State) : Host.Outcome State Fault Refusal := lift t (shootLimit n) s

/-- The fall that the refresh rule forces, in fine steps from the valley: P − (dt.fall + boot.min) (R124). -/
def refreshFall (d : Dev) (n : Nat) : Nat := 16 * (leg d n).len - (prm d 0x310A n + 16 * prm d 0x310D n)

/-- The refresh rule acts in this period (R124): it is the K-th without a refreshing interval, and S is high with its
fall planned later than the forced one, or not at all. -/
def refreshDue (d : Dev) (n : Nat) : Bool :=
  let x := leg d n
  x.insvc && refreshes d n && decide (prm d 0x310C n ≤ x.refresh + 1) && !x.refreshed && x.s &&
    (match x.fall with
     | some f => decide (refreshFall d n < f)
     | none => true)

/-- `BOOT_REFRESH_ENFORCE` (R124): S falls at P − (dt.fall + boot.min) from the valley and stays low to the end of the
period. -/
def bootRefresh (n : Nat) (d : Dev) : Dev :=
  let x := leg d n
  if n < 48 ∧ carriersRun d ∧ x.running ∧ refreshDue d n ∧ atFine d (16 * x.start + refreshFall d n) then
    modLeg n (fun y => { y with forceLow := true, bootEnf := true })
      (setS n false (modLeg n (fun y => { y with fall := some (refreshFall d n) }) d))
  else d

def execBootRefreshEnforce (t n : Nat) (s : State) : Host.Outcome State Fault Refusal := lift t (bootRefresh n) s

/-! ### Service of legs -/

/-- `LEG_SERVICE_ENTRY`: a placed leg enters service at its first period start that leaves room for its start pulse (R125,
R126, R278); during a driver clear of its group it joins the legs that rejoin after it (R143).
Log entry 64 (DEDUCED). -/
def legEntry (n : Nat) (d : Dev) : Dev :=
  let x := leg d n
  if n < 48 ∧ carriersRun d ∧ x.entering ∧ role d n ≠ 0 ∧ x.running ∧ d.t = x.start ∧ startsAt d n d.t then
    let d1 := if bit d.pwm.clrBusy (n / 8) then { d with pwm := { d.pwm with rejoin := setBit d.pwm.rejoin n } } else d
    startLeg n (modLeg n (fun y => { y with insvc := true, entering := false, leaving := false, companion := false,
                                            duvBlank := true, duvEnd := d.t + 400 * prm d 0x3123 n, mayReturn := false,
                                            shootRun := 0 }) d1)
  else d

def execLegServiceEntry (t n : Nat) (s : State) : Host.Outcome State Fault Refusal := lift t (legEntry n) s

/-- `LEG_SERVICE_EXIT`: a leaving leg stops at its period start (R278, R283). A bridge that keeps other legs goes down
with it (R183). -/
def legExit (n : Nat) (d : Dev) : Dev :=
  let x := leg d n
  if n < 48 ∧ x.insvc ∧ x.leaving ∧ x.running ∧ d.t = x.start then
    let d0 := { d with setr := { d.setr with unplanned := d.setr.unplanned || bit d.setr.legs n } }
    let d1 := sweepLegLost n (modLeg n (fun y => { legLeft y with mayReturn := false }) d0)
    let keeps := match bridgeOf d n with
      | some k => (brLegs d k).any (legOn d1)
      | none => false
    let d2 := if keeps then bridgeDown n true d1 else d1
    if role d n = 1 then checkAc d2 else d2
  else d

def execLegServiceExit (t n : Nat) (s : State) : Host.Outcome State Fault Refusal := lift t (legExit n) s

/-- `BRIDGE_COMPANION_EXIT`: a companion of a lost leg leaves at its period start, without a latch (R183).
Log entry 75 (DEDUCED). -/
def companionExit (n : Nat) (d : Dev) : Dev :=
  let x := leg d n
  if n < 48 ∧ x.insvc ∧ x.companion ∧ x.running ∧ d.t = x.start then
    let d1 := modLeg n (fun y => { legLeft y with mayReturn := true }) d
    let d2 := { d1 with setr := { d1.setr with unplanned := true } }
    checkAc d2
  else d

def execBridgeCompanionExit (t n : Nat) (s : State) : Host.Outcome State Fault Refusal := lift t (companionExit n) s

/-! ### Driver status inputs (R138 to R141) -/

/-- A DUV trip of leg `n` (R139). Log entry 66 (DEDUCED). -/
def duvTrip (n : Nat) (d : Dev) : Dev :=
  legOut n false (raiseI 43 n (modLeg n (fun x => { x with duvLat := true }) d))

/-- `DUV_BLANK_END`: duv.filt µs after the end of the start pulse (R126). -/
def duvBlankEnd (n : Nat) (d : Dev) : Dev :=
  if n < 48 ∧ inSvc d n ∧ (leg d n).duvBlank ∧ d.t = (leg d n).duvEnd then
    let d1 := modLeg n (fun x => { x with duvBlank := false }) d
    if (leg d1 n).duvIn then duvTrip n d1 else d1
  else d

def execDuvBlankEnd (t n : Nat) (s : State) : Host.Outcome State Fault Refusal := lift t (duvBlankEnd n) s

/-- `DFLT_ASSERT` (R138, R140). Log entry 66 (DEDUCED). -/
def dfltAssert (n : Nat) (d : Dev) : Dev :=
  if n < 48 then
    let d1 := modLeg n (fun x => { x with dfltIn := true }) d
    if inSvc d1 n then legOut n false (raiseI 42 n (modLeg n (fun x => { x with dfltLat := true }) d1)) else d1
  else d

def execDfltAssert (t n : Nat) (s : State) : Host.Outcome State Fault Refusal := lift t (dfltAssert n) s

/-- `DFLT_RELEASE` (R138): the latch stays. Log entry 66 (DEDUCED). -/
def dfltRelease (n : Nat) (d : Dev) : Dev :=
  if n < 48 then modLeg n (fun x => { x with dfltIn := false }) d else d

def execDfltRelease (t n : Nat) (s : State) : Host.Outcome State Fault Refusal := lift t (dfltRelease n) s

/-- `DUV_ASSERT` (R139, R126, R140). Log entry 66 (DEDUCED). -/
def duvAssert (n : Nat) (d : Dev) : Dev :=
  if n < 48 then
    let d1 := modLeg n (fun x => { x with duvIn := true }) d
    if inSvc d1 n ∧ ¬ (leg d1 n).duvBlank then duvTrip n d1 else d1
  else d

def execDuvAssert (t n : Nat) (s : State) : Host.Outcome State Fault Refusal := lift t (duvAssert n) s

/-- `DUV_RELEASE` (R139). -/
def duvRelease (n : Nat) (d : Dev) : Dev :=
  if n < 48 then modLeg n (fun x => { x with duvIn := false }) d else d

def execDuvRelease (t n : Nat) (s : State) : Host.Outcome State Fault Refusal := lift t (duvRelease n) s

/-- Clear the latches of leg `n` (R141). Log entry 143 (DEDUCED). -/
def clearLatches (n : Nat) (d : Dev) : Dev :=
  regateLeg n (modLeg n (fun x => { x with dfltLat := false, duvLat := false, shootTrip := false }) d)

/-- `GATE_CLEAR`: a write of 1 to leg[n].gate.clear (R141). -/
def gateClear (n : Nat) (d : Dev) : Dev :=
  if 48 ≤ n then answer 8 (0x3151 + 65536 * n) d
  else if (leg d n).dfltIn ∨ (leg d n).duvIn then answer 1 1 d
  else answer 0 0 (clearLatches n d)

def execGateClear (t cls n : Nat) (s : State) : Host.Outcome State Fault Refusal :=
  lift t (immediate cls 1 (gateClear n)) s

/-- `OUT_FORCE`: a write of `v` to leg[n].out.force (R135). -/
def outForce (n v : Nat) (d : Dev) : Dev :=
  if 48 ≤ n ∨ 7 < v then answer 8 (0x3113 + 65536 * n) d
  else if d.sys.st ≠ .service then answer 1 7 d
  else if inSvc d n then answer 1 8 d
  else answer 0 0 (interlock n (modLeg n (fun x => { x with force := v }) d))

def execOutForce (t cls n v : Nat) (s : State) : Host.Outcome State Fault Refusal :=
  lift t (immediate cls 2 (outForce n v)) s

/-! ### Driver enable groups (R142, R143) -/

/-- The level of DRVENg; none at high impedance (R142, R466, R536, R567). Log entry 144 (DEDUCED). -/
def drven (d : Dev) (g : Nat) : Option Bool :=
  if d.pnd.oustedHold then none
  else if d.sys.standby || d.sys.testStop || d.sys.st = .off || d.sys.st = .clasp || d.clasp.rstLow || !d.sys.up then
    (if d.sys.standby || d.sys.testStop then none else some false)
  else some ((List.range 8).any (fun k => role d (8 * g + k) ≠ 0) && !bit d.pwm.clrLow g)

/-- The legs of group `g` that are in service. Log entry 144 (DEDUCED). -/
def groupSvc (d : Dev) (g : Nat) : List Nat := ((List.range 8).map (fun k => 8 * g + k)).filter (inSvc d)

/-- `DRV_CLEAR_GO`: a write of 1 to drv[g].clear.go (R143); an ousted device refuses it (R466). The DETAIL of its refusal
is not stated. Log entry 144 (DEDUCED). -/
def drvClearGo (g : Nat) (d : Dev) : Dev :=
  if 6 ≤ g then answer 8 (0x3132 + 65536 * g) d
  else if bit d.pwm.clrBusy g ∨ d.pnd.oustedHold then refuseOpen d
  else if groupSvc d g ≠ [] ∧ prm d 0x3131 g = 0 then refuseOpen d
  else
    let held := groupSvc d g
    answer 0 0 (regate { d with pwm := { d.pwm with
      clrT := tput 0 g d.t d.pwm.clrT, clrW := tput 0 g (prm d 0x3130 g) d.pwm.clrW,
      clrBusy := setBit d.pwm.clrBusy g, rejoin := held.foldl setBit d.pwm.rejoin } })

def execDrvClearGo (t cls g : Nat) (s : State) : Host.Outcome State Fault Refusal :=
  lift t (immediate cls 1 (drvClearGo g)) s

/-- The clear of group `g` has run for `us` microseconds (R143). -/
def clrAt (d : Dev) (g us : Nat) : Bool := bit d.pwm.clrBusy g && decide (d.t = tget 0 d.pwm.clrT g + 400 * us)

/-- `DRV_CLEAR_LOW`: 2 µs into the clear. Log entry 144 (DEDUCED). -/
def drvClearLow (g : Nat) (d : Dev) : Dev :=
  if g < 6 ∧ clrAt d g 2 then { d with pwm := { d.pwm with clrLow := setBit d.pwm.clrLow g } } else d

def execDrvClearLow (t g : Nat) (s : State) : Host.Outcome State Fault Refusal := lift t (drvClearLow g) s

/-- `DRV_CLEAR_HIGH`: after the width of the pulse. Log entry 144 (DEDUCED). -/
def drvClearHigh (g : Nat) (d : Dev) : Dev :=
  if g < 6 ∧ clrAt d g (2 + tget 0 d.pwm.clrW g) then { d with pwm := { d.pwm with clrLow := clrBit d.pwm.clrLow g } } else d

def execDrvClearHigh (t g : Nat) (s : State) : Host.Outcome State Fault Refusal := lift t (drvClearHigh g) s

/-- `DRV_CLEAR_DONE`: 12 µs and the width after the start, CLR_BUSY clears and EV_DRVCLR is raised; the legs that a live
clear held rejoin at their period starts, so their gates stay held until then (R125, R143). Log entry 144 (DEDUCED). -/
def drvClearDone (g : Nat) (d : Dev) : Dev :=
  if g < 6 ∧ clrAt d g (12 + tget 0 d.pwm.clrW g) ∧ ¬ bit d.pwm.clrLow g then
    raiseI 44 g (regate { d with pwm := { d.pwm with clrBusy := clrBit d.pwm.clrBusy g } })
  else d

def execDrvClearDone (t g : Nat) (s : State) : Host.Outcome State Fault Refusal := lift t (drvClearDone g) s

/-- A step of the clock from tick `old` moves the instants of a running driver clear, self-test and SYNC_OUT pulse. -/
def stepPwm (old : Nat) (d : Dev) : Dev :=
  let mv := fun (a : Nat) => d.t + a - old
  { d with
    pwm := { d.pwm with syncEnd := mv d.pwm.syncEnd
                        clrT := (setBits 6 d.pwm.clrBusy).foldl (fun m g => tput 0 g (mv (tget 0 m g)) m) d.pwm.clrT }
    wins := d.wins.map (fun e => (e.1, if e.2.testing.isSome then { e.2 with testT := mv e.2.testT } else e.2)) }

/-- `SYNC_OUT_PULSE_END`: pwm.syncout.width ticks after the pulse began (R117). -/
def syncOutEnd (d : Dev) : Dev :=
  if d.t = d.pwm.syncEnd then { d with pwm := { d.pwm with syncOut := false } } else d

def execSyncOutPulseEnd (t : Nat) (s : State) : Host.Outcome State Fault Refusal := lift t syncOutEnd s

end Sys2Proof.Machine
end

