-- ==== Sys2Proof/Machine/Bezel.lean ====
section
/-!
DEFINITION. The Bezel windows: assertion, latch, cut, clear, arming and self-test (R148 to R171).
-/
namespace Sys2Proof.Machine

/-- A comparator of window `w` watches its pin: the window acts, the comparator is enabled and not under test, and the
filter clock runs (R151, R154, R165, R168). Log entry 67 (DEDUCED). -/
def watches (d : Dev) (w : Nat) (upper : Bool) : Bool :=
  w < 56 && prm d 0x4000 w ≠ 0 && bit (prm d 0x4003 w) (if upper then 0 else 1) && (win d w).testing ≠ some upper &&
    locked d 2

/-- The filter output of a comparator. -/
def winAct (x : Window) (upper : Bool) : Bool := if upper then x.hiAct else x.loAct

/-- Set the filter output of a comparator. -/
def setAct (upper v : Bool) (x : Window) : Window := if upper then { x with hiAct := v } else { x with loAct := v }

/-- The code that a comparator compares with: its release code while its filter output is asserted, else its trip code
(R150). -/
def cmpCode (d : Dev) (w : Nat) (upper : Bool) : Int :=
  if winAct (win d w) upper then (if upper then prmI d 0x4005 w else prmI d 0x4007 w)
  else (if upper then prmI d 0x4004 w else prmI d 0x4006 w)

/-- The level of code `k` of window `w` in µV, with the error that R149 bounds. Log entry 9 (DESIGN CHOICE). -/
def cmpLevel (d : Dev) (w : Nat) (upper : Bool) (k : Int) : Rat :=
  let wide := prm d 0x4002 w = 0
  let nom : Rat := k * (if wide then 4000 else 1000)
  let b : Rat := absR nom * 5 / 1000 + (if wide then 3000 else 1500)
  nom + clampR (-b) b (Config.cmpError w upper k)

/-- The comparator is active at a pin level in µV (R150). -/
def cmpActive (d : Dev) (w : Nat) (upper : Bool) (v : Int) : Bool :=
  let l := cmpLevel d w upper (cmpCode d w upper)
  if upper then decide (l < v) else decide ((v : Rat) < l)

/-- How many of the last M samples of the pin, newest first, are active (R151). Log entry 67 (DEDUCED). -/
def activeSamples (d : Dev) (w : Nat) (upper : Bool) (pin : List Int) : Nat :=
  ((pin.take (prm d 0x4008 w)).filter (cmpActive d w upper)).length

/-- TEST_FAIL (R167, R171). -/
def testFail (x : Window) : Bool := x.failHi || x.failLo

/-- A latching trip of window `w` (R155): a leg window takes its leg out, a block window takes the device to TRIP. The
gates go off first. -/
def winTrip (w : Nat) (d : Dev) : Dev :=
  let d1 := regate (modWin w (fun x => { x with lat := true, trips := incSat 65535 x.trips }) d)
  if w < 48 then legOut w false (raiseI 49 w d1)
  else enterTrip 0x20 (raiseI 50 w d1)

/-- What the assertion of a comparator does (R154 to R156). Log entry 67 (DEDUCED). -/
def winActs (w : Nat) (upper : Bool) (d : Dev) : Dev :=
  let a := prm d 0x4000 w
  if a = 1 then
    if (win d w).monEp = ep d + 1 then d else raiseI 48 w (modWin w (fun x => { x with monEp := ep d + 1 }) d)
  else if a = 2 then
    winTrip w (modWin w (fun x => if upper then { x with latHi := true } else { x with latLo := true }) d)
  else if a = 3 ∧ w < 48 then regateLeg w (modWin w (fun x => { x with cutHold := true }) d)
  else d

/-- `WINDOW_ASSERT`: the filter output asserts once N of the last M samples `pin`, in µV at 100 MHz and newest first, are
active (R151, R154), and a recorder unit may trigger on it (R328). Log entry 67 (DEDUCED). -/
def winAssert (w : Nat) (upper : Bool) (pin : List Int) (d : Dev) : Dev :=
  if watches d w upper ∧ ¬ winAct (win d w) upper ∧ prm d 0x4009 w ≤ activeSamples d w upper pin then
    triggers (0x300 + w) d.t (winActs w upper (modWin w (setAct upper true) d))
  else d

def execWindowAssert (t w : Nat) (upper : Bool) (pin : List Int) (s : State) : Host.Outcome State Fault Refusal :=
  lift t (winAssert w upper pin) s

/-- `CUT_LIMIT_TRIP` (R156). Log entry 67 (DEDUCED). -/
def cutLimit (w : Nat) (d : Dev) : Dev :=
  if w < 48 ∧ prm d 0x4000 w = 3 ∧ prm d 0x400A w ≤ (win d w).cutRun then
    winTrip w (modWin w (fun x => { x with cutTrip := true }) d)
  else d

def execCutLimitTrip (t w : Nat) (s : State) : Host.Outcome State Fault Refusal := lift t (cutLimit w) s

/-- ARMHOLD clears once every enabled comparator has released (R160). -/
def armCheck (w : Nat) (d : Dev) : Dev :=
  let en := prm d 0x4003 w
  modWin w (fun x => if x.armhold ∧ ¬ (bit en 0 ∧ x.hiAct) ∧ ¬ (bit en 1 ∧ x.loAct) then { x with armhold := false }
    else x) d

/-- `WINDOW_RELEASE`: the filter output releases after M consecutive inactive samples `pin` (R151, R153). -/
def winRelease (w : Nat) (upper : Bool) (pin : List Int) (d : Dev) : Dev :=
  if watches d w upper ∧ winAct (win d w) upper ∧ prm d 0x4008 w ≤ pin.length ∧ activeSamples d w upper pin = 0 then
    regate (armCheck w (modWin w (setAct upper false) d))
  else d

def execWindowRelease (t w : Nat) (upper : Bool) (pin : List Int) (s : State) : Host.Outcome State Fault Refusal :=
  lift t (winRelease w upper pin) s

/-- Why a clear of window `w` is refused (R159): the lowest number that holds. -/
def clearRefusal (x : Window) : Option Nat :=
  if x.hiAct ∨ x.loAct then some 2 else if x.armhold then some 3 else if testFail x then some 4 else none

/-- Clear the latches of window `w` (R159). -/
def clearWin (w : Nat) (d : Dev) : Dev :=
  regate (modWin w (fun x => { x with lat := false, latHi := false, latLo := false, cutTrip := false }) d)

/-- `WIN_CLEAR`: a write of 1 to win[w].clear (R159). -/
def winClear (w : Nat) (d : Dev) : Dev :=
  if 56 ≤ w then answer 8 (0x4010 + 65536 * w) d
  else
    match clearRefusal (win d w) with
    | some k => answer 1 k (modWin w (fun x => { x with clrRef := true }) d)
    | none => answer 0 0 (clearWin w d)

def execWinClear (t cls w : Nat) (s : State) : Host.Outcome State Fault Refusal :=
  lift t (immediate cls 1 (winClear w)) s

/-! ### Self-test (R165 to R167) -/

/-- A leg switches: its outputs follow the chain (R137, R146). -/
def switching (d : Dev) (n : Nat) : Bool := gatesState d && inSvc d n && !hiZ d && !gateHeld d n

/-- The self-test of window `w` is admitted (R165). Log entry 68 (DEDUCED). -/
def testAdmitted (d : Dev) (w : Nat) : Bool :=
  (win d w).testing = none && !(win d w).pllHold &&
    (if w < 48 then !inSvc d w && !switching d w else (List.range 48).all (fun n => !switching d n))

/-- The codes of the test source: 8 LSB inside the release code, and 8 LSB beyond the trip code (R166). -/
def relSource (d : Dev) (w : Nat) (upper : Bool) : Int := if upper then prmI d 0x4005 w - 8 else prmI d 0x4007 w + 8
def tripSource (d : Dev) (w : Nat) (upper : Bool) : Int := if upper then prmI d 0x4004 w + 8 else prmI d 0x4006 w - 8

/-- The test begins: the comparator is on the test source and its filter is forced asserted (R166).
Log entry 68 (DEDUCED). -/
def beginTest (w : Nat) (upper : Bool) (d : Dev) : Dev :=
  modWin w (fun x => setAct upper true { x with testing := some upper, testBad := 0, testPh := 1, testT := d.t,
                                                testSrc := relSource d w upper }) d

/-- A write to win[w].test.go. The DETAIL of its refusal is not stated. -/
def winTest (upper : Bool) (w : Nat) (d : Dev) : Dev :=
  if 56 ≤ w then answer 8 (0x4011 + 65536 * w) d
  else if testAdmitted d w then answer 0 0 (beginTest w upper d)
  else refuseOpen d

def execWinTestUpper (t cls w : Nat) (s : State) : Host.Outcome State Fault Refusal :=
  lift t (immediate cls 2 (winTest true w)) s

def execWinTestLower (t cls w : Nat) (s : State) : Host.Outcome State Fault Refusal :=
  lift t (immediate cls 2 (winTest false w)) s

/-- The steps of a test lie 2 µs apart (R166); phase `ph` ends at the present tick. -/
def testAt (d : Dev) (w ph : Nat) : Bool :=
  w < 56 && (win d w).testing.isSome && (win d w).testPh = ph && decide (d.t = (win d w).testT + 800 * ph)

/-- A step of a running test of window `w`, at the end of phase `ph`. Log entry 68 (DEDUCED). -/
def testStep (w ph : Nat) (f : Bool → Window → Window) (d : Dev) : Dev :=
  match (win d w).testing with
  | some upper => if testAt d w ph then modWin w (f upper) d else d
  | none => d

/-- `WIN_TEST_RELEASE_CHECK`: at 2 µs the filter must have released, otherwise the result is 4; the source steps to the
trip side. Log entry 68 (DEDUCED). -/
def testRelease (w : Nat) (released : Bool) (d : Dev) : Dev :=
  testStep w 1 (fun upper x => setAct upper (!released) { x with
    testPh := 2, testSrc := tripSource d w upper, testBad := if released then x.testBad else 4 }) d

def execWinTestReleaseCheck (t w : Nat) (released : Bool) (s : State) : Host.Outcome State Fault Refusal :=
  lift t (testRelease w released) s

/-- `WIN_TEST_ASSERT_DEADLINE`: no assertion by 4 µs gives result 2, a delay above N + 5 samples result 3.
Log entry 68 (DEDUCED). -/
def testDeadline (w : Nat) (delay : Option Nat) (d : Dev) : Dev :=
  testStep w 2 (fun upper x => setAct upper delay.isSome { x with
    testPh := 3, testDelay := match delay with
      | some k => min 255 k
      | none => x.testDelay,
    testBad := if x.testBad ≠ 0 then x.testBad else match delay with
      | some k => if prm d 0x4009 w + 5 < k then 3 else 0
      | none => 2 }) d

def execWinTestAssertDeadline (t w : Nat) (delay : Option Nat) (s : State) : Host.Outcome State Fault Refusal :=
  lift t (testDeadline w delay) s

/-- `WIN_TEST_SOURCE_RETURN`: at 6 µs the test source steps back. Log entry 68 (DEDUCED). -/
def testReturn (w : Nat) (d : Dev) : Dev :=
  testStep w 3 (fun upper x => { x with testPh := 4, testSrc := relSource d w upper }) d

def execWinTestSourceReturn (t w : Nat) (s : State) : Host.Outcome State Fault Refusal := lift t (testReturn w) s

/-- The end of a test with its result: TEST_FAIL of the comparator (R167), EV_BZTEST, and the window armed (R160). -/
def endTest (w result : Nat) (d : Dev) : Dev :=
  match (win d w).testing with
  | none => d
  | some upper =>
    let d1 := modWin w (fun x =>
      let y := { x with testing := none, testPh := 0, testRes := result, testBad := 0 }
      if result = 6 then y
      else if upper then { y with failHi := result ≠ 1 } else { y with failLo := result ≠ 1 }) d
    raiseI 53 w d1

/-- The Setter's next self-test of a shed bridge (R288): the first of the queue whose window admits it. -/
def nextTest (d : Dev) : Dev :=
  match d.setr.testQueue with
  | [] => d
  | (w, upper) :: r =>
    if testAdmitted d w then beginTest w upper { d with setr := { d.setr with testQueue := r } } else d

/-- `WIN_TEST_END`: at 8 µs the filter must have released, otherwise the result is 5; the comparator returns to the
pin. Log entry 68 (DEDUCED). -/
def testEnd (w : Nat) (released : Bool) (d : Dev) : Dev :=
  if testAt d w 4 then
    let b := (win d w).testBad
    let r := if b ≠ 0 then b else if released then 1 else 5
    nextTest (regate (armWin w (endTest w r (testStep w 4 (fun upper x => setAct upper (!released) x) d))))
  else d

def execWinTestEnd (t w : Nat) (released : Bool) (s : State) : Host.Outcome State Fault Refusal :=
  lift t (testEnd w released) s

/-- Loss of PWM PLL lock (R168): every test ends with result 6 and every window sets PLL_HOLD.
Log entry 69 (DEDUCED). -/
def pllHoldAll (d : Dev) : Dev :=
  forAll 56 (fun w e => modWin w (fun x => { x with pllHold := true }) (endTest w 6 e)) d

/-- Relock (R168): PLL_HOLD clears and the windows that protect are armed. Log entry 69 (DEDUCED). -/
def pllReleaseAll (d : Dev) : Dev :=
  regate (armAll (forAll 56 (fun w e => modWin w (fun x => { x with pllHold := false }) e) d))

end Sys2Proof.Machine
end

