-- ==== Sys2Proof/Machine/Acq.lean ====
section
/-!
DEFINITION. Acquisition: scans, the processing chain of an input, diagnostic positions, Facet faults, the rotation of
the spare Facet and system calibration (R30 to R65, R295).
-/
namespace Sys2Proof.Machine

/-- Input `i`. -/
def ain (d : Dev) (i : Nat) : Ain := tget {} d.acq.ains i

/-- Change input `i`. -/
def modAin (i : Nat) (f : Ain → Ain) (d : Dev) : Dev :=
  { d with acq := { d.acq with ains := tmod {} i f d.acq.ains } }

/-- The order K of a decimation filter (R41). -/
def filtOrder (ty : Nat) : Nat := if ty = 2 then 3 else if ty = 3 then 4 else 1

/-- The decimation ratio D of input `i` (R41). -/
def decRatio (d : Dev) (i : Nat) : Nat := 2 ^ prm d 0x1103 i

/-- The number of positions that Facet `f` scans (R32). Log entry 55 (DEDUCED). -/
def scanLen (d : Dev) (f : Nat) : Nat := (setBits 16 (prm d 0x1001 f)).length

/-- Input `i` is enabled in a scan. -/
def inScan (d : Dev) (i : Nat) : Bool := prm d 0x1000 (i / 14) ≠ 0 && bit (prm d 0x1001 (i / 14)) (i % 14)

/-- The raw sample rate of the inputs of Facet `f` in Hz (R32 to R35). -/
def rawRate (d : Dev) (f : Nat) : Rat :=
  if prm d 0x1000 f = 1 then (40000000 : Rat) / (scanLen d f : Nat)
  else if prm d 0x1000 f = 2 then
    let g := prm d 0x1002 f
    if g < 48 then (400000000 : Rat) / (prm d 0x3104 g : Nat) * (if prm d 0x1003 f = 2 then 2 else 1)
    else if prm d 0x1010 (g - 48) = 0 then 0 else (400000000 : Rat) / (prm d 0x1010 (g - 48) : Nat)
  else 0

/-- The output rate of input `i` in Hz (R41). -/
def outRate (d : Dev) (i : Nat) : Rat := if inScan d i then rawRate d (i / 14) / (decRatio d i : Nat) else 0

/-! ### Restarts (R48, R49) -/

/-- The invalid outputs N_int of a Rogowski input after a restart (R49). -/
def rogInvalid (d : Dev) (i : Nat) : Nat :=
  if prm d 0x1100 i = 3 then
    (5 * outRate d i / (2 * Config.pi * prmQ d 0x1106 i 100)).ceil.toNat
  else 0

/-- Input `i` discards `s0` raw conversions, or as many as an earlier change still asks for, and restarts its decimator:
N outputs are invalid (R48). Log entry 56 (DEDUCED). -/
def restartAin (i s0 : Nat) (d : Dev) : Dev :=
  let dr := decRatio d i
  let s := max s0 (ain d i).discard
  let n := (s + dr - 1) / dr + filtOrder (prm d 0x1102 i) - 1
  modAin i (fun x => { x with integ := [], comb := [], phase := 0, discard := s, invalid := n + rogInvalid d i,
                              rog := 0, clipAge := none }) d

/-- Every enabled input of Facet `f` restarts with `s` discarded conversions. Log entry 56 (DEDUCED). -/
def restartFacet (f s : Nat) (d : Dev) : Dev :=
  forAll 14 (fun p e => if bit (prm e 0x1001 f) p ∧ f < 12 then restartAin (14 * f + p) s e else e) d

/-- What the changes `ks` of Facet `f`, now in force, do to its inputs (R48): S is 2 for the mode or the mask, 8 for a
gain, 0 for the rest; the largest that applies to an input counts. Log entry 56 (DEDUCED). -/
def restartChanged (f : Nat) (ks : List Nat) (d : Dev) : Dev :=
  let has := fun (pid i : Nat) => ks.contains (pkey pid i)
  let mode := has 0x1000 f || has 0x1001 f
  let trig := has 0x1002 f || has 0x1003 f || has 0x1004 f || (List.range 8).any (has 0x1010)
  forAll 14 (fun p e =>
    let i := 14 * f + p
    if f < 12 ∧ bit (prm e 0x1001 f) p then
      if has 0x1101 i then restartAin i 8 e
      else if mode then restartAin i 2 e
      else if trig || has 0x1102 i || has 0x1103 i || has 0x1100 i || has 0x1105 i || has 0x1106 i then
        restartAin i 0 e
      else e
    else e) d

/-- A finished calibration becomes stale (R58), which the journal keeps. Log entry 56 (DEDUCED). -/
def staleCal (k : Nat) (d : Dev) : Dev :=
  if prm d 0x1109 k = 1 ∨ prm d 0x1109 k = 2 then journal (.always (pkey 0x1109 k) 3) (setPrm 0x1109 k 3 d) else d

/-- The Facet that an acquisition parameter concerns. -/
def facetOf (pid i : Nat) : Nat := if pid < 0x1100 then i else if pid = 0x110A then i / 56 else i / 14

/-- A landed value waits for the next scan start of Facet `f`. Log entry 56 (DEDUCED). -/
def addChange (f pid i v : Nat) (d : Dev) : Dev :=
  modFacet f (fun x => { x with change := tput none (pkey pid i) (some v) x.change }) d

/-- A landed acquisition value (R46): it waits for the next scan start of its Facet. A scan timer starts at the landing
(R35), and so does the count of the dwells (R60). A changed sensor, int.m or int.fc makes finished calibrations stale
(R58). Log entry 56 (DEDUCED). -/
def landAcq (pid i v : Nat) (d : Dev) : Dev :=
  let d1 := if pid = 0x1100 ∨ pid = 0x1105 ∨ pid = 0x1106 then forAll 4 (fun g e => staleCal (4 * i + g) e) d else d
  if pid = 0x1010 then
    let d2 := setPrm pid i v { d1 with acq := { d1.acq with timers := tput 0 i d1.t d1.acq.timers } }
    forAll 13 (fun f e => if prm e 0x1000 f = 2 ∧ prm e 0x1002 f = 48 + i then addChange f pid i v e else e) d2
  else if 0x1200 ≤ pid then
    setPrm pid i v (if pid ≤ 0x1201 then { d1 with acq := { d1.acq with rotBase := d1.t } } else d1)
  else addChange (facetOf pid i) pid i v d1

/-- Values by their keys come into force, without what their change starts. -/
def setVals (ch : Tab (Option Nat)) (d : Dev) : Dev :=
  ch.foldl (fun e kv => match kv.2 with
    | some v => setPrm (kv.1 / 65536) (kv.1 % 65536) v e
    | none => e) d

/-- The changes `ch` of Facet `f` act on its conversions (R46, R48). Log entry 56 (DEDUCED). -/
def applyChange (f : Nat) (ch : Tab (Option Nat)) (d : Dev) : Dev :=
  if ch = [] then d else restartChanged f (ch.map (fun kv => kv.1)) (setVals ch d)

/-- What waits for a scan start of Facet `f` acts at once, in one change: the Facet is off, or is switched off.
Log entry 56 (DEDUCED). -/
def applyNow (f : Nat) (d : Dev) : Dev :=
  let ch := (facet d f).change
  applyChange f ch (modFacet f (fun x => { x with change := [], next := d.t }) d)

/-- The end of a landing: a Facet that is off has no scan start to wait for. Log entry 56 (DEDUCED). -/
def landOff (d : Dev) : Dev :=
  forAll 13 (fun f e => if prm e 0x1000 f = 0 ∧ (facet e f).change ≠ [] then applyNow f e else e) d

/-- The conversions of Facet `f` that are under way end without results; what came into force with them stays. -/
def flushFacet (f : Nat) (d : Dev) : Dev :=
  (facet d f).due.foldl (fun e it => applyChange f it.change e) (modFacet f (fun x => { x with
    waiting := none, until_ := 0, next := d.t, due := [] }) d)

/-- The Facets stop: DOZE, save mode, loss of the ADC PLL (R64, R524, R552). -/
def stopFacets (d : Dev) : Dev := forAll 13 (fun f e => modFacet f (fun x => { x with selfCal := false }) (flushFacet f e)) d

/-- A step of the clock in READY: scans, scan timers and dwells go on from the new tick (R35, R443).
Log entry 132 (DEDUCED). -/
def stepScans (d : Dev) : Dev :=
  let d1 := forAll 8 (fun k e => { e with acq := { e.acq with timers := tput 0 k d.t e.acq.timers } })
    (forAll 13 flushFacet d)
  { d1 with acq := { d1.acq with rotBase := d.t } }

/-- A resumption of scans: a start, a wake or an ADC PLL relock (R48, R64). -/
def resumeScans (d : Dev) : Dev := forAll 13 (fun f e => restartFacet f 2 (flushFacet f e)) d

/-! ### Scans -/

/-- `SCAN_TIMER_FIRE`: scan timer `k` reaches its period (R35). Log entries 55 (DEDUCED), 150 (DESIGN CHOICE). -/
def timerFire (k : Nat) (d : Dev) : Dev :=
  let p := prm d 0x1010 k
  if k < 8 ∧ p ≠ 0 ∧ tget 0 d.acq.timers k ≤ d.t ∧ (d.t - tget 0 d.acq.timers k) % p = 0 then
    forAll 13 (fun f e => if prm e 0x1000 f = 2 ∧ prm e 0x1002 f = 48 + k then scanTrig f e else e) d
  else d

def execScanTimerFire (t k : Nat) (s : State) : Host.Outcome State Fault Refusal := lift t (timerFire k) s

/-- A scan of Facet `f` may start on the present conversion edge: in continuous mode the edge that follows the last
conversion (R33), in triggered mode the first at or after the trigger and its delay (R34). Log entry 55 (DEDUCED). -/
def scanDue (f : Nat) (d : Dev) : Bool :=
  let first := fun (w : Nat) => decide (w ≤ d.t ∧ d.t < w + 10)
  f < 13 && locked d 3 && d.t % 10 = d.clk.phase &&
    (if prm d 0x1000 f = 1 then first (facet d f).next
     else if prm d 0x1000 f = 2 then (match (facet d f).waiting with
       | some w => first w
       | none => false)
     else false)

/-- The conversions of a scan that starts now: the enabled positions in ascending order, 10 ticks apart (R32). -/
def scanItems (f : Nat) (ch : Tab (Option Nat)) (d : Dev) : List ScanItem :=
  ((setBits 16 (prm d 0x1001 f)).zipIdx).map (fun (p, k) =>
    { pos := p, at_ := d.t + 10 * k, spare := d.acq.spareFor = f, change := if k = 0 then ch else [] })

/-- An output of Facet `f` still carries VALID = 0, or a change is on its way to its conversions (R48, R63). -/
def unsettled (f : Nat) (d : Dev) : Bool :=
  (facet d f).due.any (fun it => it.change ≠ []) ||
    (List.range 14).any (fun p => bit (prm d 0x1001 f) p && (ain d (14 * f + p)).invalid ≠ 0)

/-- A scan of core `f` counts in its overlap, which a change restarts from scan 0 (R60, R63). -/
def overlapScan (f : Nat) (changed : Bool) (d : Dev) : Dev :=
  if (d.acq.rotPhase = 2 ∨ d.acq.rotPhase = 4) ∧ d.acq.rotCur = f then
    { d with acq := { d.acq with overlap := if changed || unsettled f d then 0 else min 256 (d.acq.overlap + 1) } }
  else d

/-- `SCAN_START`: the Facet begins its scan, under the values that waited for it (R46): those of the scan itself at
once, all others with its first conversion. Where they switch it off, no scan begins. Log entry 55 (DEDUCED). -/
def scanStart (f : Nat) (d : Dev) : Dev :=
  if scanDue f d then
    let ch := (facet d f).change
    let d1 := modFacet f (fun y => { y with waiting := none, change := [] })
      (setVals (ch.filter (fun kv => kv.1 / 65536 ≤ 0x1004)) d)
    let n := scanLen d1 f
    if prm d1 0x1000 f = 0 ∨ n = 0 then applyChange f ch d1
    else
      let d2 := overlapScan f (ch ≠ []) d1
      modFacet f (fun y => { y with until_ := d.t + 10 * (n - 1) + 1, next := d.t + 10 * n,
                                    due := y.due ++ scanItems f ch d1 }) d2
  else d

def execScanStart (t f : Nat) (s : State) : Host.Outcome State Fault Refusal := lift t (scanStart f) s

/-! ### Facet faults (R51, R52, R295) -/

/-- The faulty core Facet that Facet 12 is to serve (R295): the highest set.facet.prio, ties to the one it serves and
then to the lower. Log entry 58 (DEDUCED). -/
def spareChoice (d : Dev) : Nat :=
  (List.range 12).foldl (fun best f =>
    if bit d.acq.facetFlt f then
      if best = 15 then f
      else if prm d 0x8020 best < prm d 0x8020 f then f
      else if prm d 0x8020 best = prm d 0x8020 f ∧ d.acq.spareFor = f then f
      else best
    else best) 15

/-- The next core Facet from `f` on that is not faulty (R60). Log entry 58 (DEDUCED). -/
def nextCore (d : Dev) (f : Nat) : Nat :=
  ((List.range 12).map (fun k => (f + k) % 12)).find? (fun g => !bit d.acq.facetFlt g) |>.getD (f % 12)

/-- A self-calibration of Facet `f` starts. -/
def startSelfCal (f : Nat) (d : Dev) : Dev := modFacet f (fun x => { x with selfCal := true, selfCalT := d.t }) d

/-- What Facet 12 serves goes back to a core Facet that is not faulty; a self-calibration of that core is cut short, and
its previous one stands (R52). Log entry 58 (DEDUCED). -/
def giveBack (d : Dev) : Dev :=
  let f := d.acq.spareFor
  if f < 12 ∧ ¬ bit d.acq.facetFlt f then
    modFacet f (fun x => { x with selfCal := false }) { d with acq := { d.acq with spareFor := 15 } }
  else d

/-- Facet `f` is declared faulty (R51, R52): its bit and EV_FACETFLT; Facet 12 is to take over its inputs at its next
scan boundary where the choice of R295 says so. A faulty Facet 12 suspends the rotation (R64), and the core that it
serves takes its inputs back. Log entry 58 (DEDUCED). -/
def facetFault (f : Nat) (d : Dev) : Dev :=
  if f = 12 then
    if d.acq.spareFlt then d
    else giveBack (raiseI 17 12 { d with acq := { d.acq with spareFlt := true, rotPhase := 6, takeover := 15 } })
  else if bit d.acq.facetFlt f then d
  else
    let d0 := { d with acq := { d.acq with facetFlt := setBit d.acq.facetFlt f } }
    let d1 := raiseI 17 f { d0 with acq := { d0.acq with rotNext := nextCore d0 d0.acq.rotNext } }
    let c := spareChoice d1
    if d1.acq.spareFlt ∨ c = d1.acq.spareFor then d1
    else { d1 with acq := { d1.acq with takeover := c } }

/-- `SPARE_TAKEOVER`: at the scan boundary Facet 12 serves core Facet `f`, without an overlap (R52); what it served
before goes back. Log entry 58 (DEDUCED). -/
def spareTakeover (f : Nat) (d : Dev) : Dev :=
  if f < 12 ∧ d.acq.takeover = f ∧ ¬ d.acq.spareFlt ∧ (facet d f).until_ ≤ d.t then
    let d0 := giveBack d
    let d1 := { d0 with acq := { d0.acq with spareFor := f, takeover := 15, rotPhase := 5 } }
    modFacet 12 (fun x => { x with selfCal := false }) d1
  else d

def execSpareTakeover (t f : Nat) (s : State) : Host.Outcome State Fault Refusal := lift t (spareTakeover f) s

/-- The converter of a conversion for Facet `f`: Facet 12 where it stood in (`spare`). -/
def server (spare : Bool) (f : Nat) : Nat := if spare then 12 else f

/-- A result is trustworthy: the ADC PLL and the PWM PLL, its reference, are locked (R517), and its converter is not
faulty (R16, R52). -/
def facetGood (d : Dev) (spare : Bool) (f : Nat) : Bool :=
  locked d 2 && locked d 3 && (if spare || f = 12 then !d.acq.spareFlt else !bit d.acq.facetFlt f)

/-! ### One conversion (R39 to R42) -/

/-- The stages of a running sum: stage k adds the new value of stage k − 1. -/
def integrate (x : Rat) (ss : List Rat) : List Rat :=
  match ss with
  | [] => []
  | s :: r => (s + x) :: integrate (s + x) r

/-- The differences of a comb: each stage subtracts what it held; the last difference is the result.
Log entry 57 (DEDUCED). -/
def combStages (x : Rat) (ss : List Rat) : Rat × List Rat :=
  match ss with
  | [] => (x, [])
  | s :: r =>
    let (y, r') := combStages (x - s) r
    (y, x :: r')

/-- An input with a raw value fed into its decimation filter of order `k` and ratio `dr`; the output where one is
due. -/
def decimate (k dr : Nat) (x : Rat) (a : Ain) : Ain × Option Rat :=
  let i0 := if a.integ = [] then List.replicate k 0 else a.integ
  let c0 := if a.comb = [] then List.replicate k 0 else a.comb
  let i1 := integrate x i0
  if a.phase + 1 < dr then ({ a with integ := i1, comb := c0, phase := a.phase + 1 }, none)
  else
    let (y, c1) := combStages (i1.getLast?.getD 0) c0
    ({ a with integ := i1, comb := c1, phase := 0 }, some (y / ((dr ^ k : Nat) : Rat)))

/-- The gain of the Rogowski integrator (R42): the coil voltage of a code, integrated over an output period, in
codes of the primary current. -/
def rogGain (d : Dev) (i : Nat) : Rat :=
  let vlsb : Rat := (2048 : Rat) / 1000 / 8388608 / ((4 ^ prm d 0x1101 i : Nat) : Rat)
  let m : Rat := (prm d 0x1105 i : Rat) / 1000000000000
  vlsb / (outRate d i * m * prmF d 0x1104 i)

/-- A measured output, taken by the calibrations that run on input `i` (R55, R56): `z` ahead of the system offset and
the integrator, `y` after both, ahead of the gain. Log entries 57 (DEDUCED), 153 (DESIGN CHOICE). -/
def calFeed (i : Nat) (z y : Rat) (ovr valid : Bool) (d : Dev) : Dev :=
  let zero := match d.acq.calZero with
    | some j => if j.ain = i ∧ valid ∧ j.count < 1024 * prm d 0x110A (4 * i + j.gain) then
        some { j with count := j.count + 1, sum := j.sum + z } else some j
    | none => none
  let full := match d.acq.calFull with
    | some j =>
      let bad := ovr || !valid
      if j.ain ≠ i then some j
      else if ¬ j.ac then
        if j.count < 1024 * prm d 0x110A (4 * i + j.gain) then
          some { j with count := j.count + 1, sum := j.sum + y, bad := j.bad || bad } else some j
      else if prm d 0x110A (4 * i + j.gain) ≤ j.cycles ∨ j.startT + 800000000 < d.t then some j
      else
        let neg := decide (y < 0)
        if j.neg = some true ∧ ¬ neg then
          if j.begun then some { j with neg := some neg, cycles := j.cycles + 1, cycSq := j.sumSq, cycN := j.count,
                                        bad := j.bad || j.badCyc, badCyc := bad,
                                        sumSq := j.sumSq + y * y, count := j.count + 1 }
          else some { j with neg := some neg, begun := true, sumSq := y * y, count := 1, badCyc := bad }
        else if j.begun then some { j with neg := some neg, sumSq := j.sumSq + y * y, count := j.count + 1,
                                           badCyc := j.badCyc || bad }
        else some { j with neg := some neg }
    | none => none
  { d with acq := { d.acq with calZero := zero, calFull := full } }

/-- The inputs whose results a transfer calibration averages: the input asked for, or the two of a phase (R469). -/
def xcalTakes (d : Dev) (i : Nat) : Bool :=
  match d.pnd.xcal with
  | some v => d.pnd.xcalRun && (if v < 0x100 then v = i else prm d 0x9001 (v - 0x100) = i || prm d 0x9002 (v - 0x100) = i)
  | none => false

/-- A calibrated result in the window of a transfer calibration (R469). Log entry 140 (DEDUCED). -/
def xcalFeed (i : Nat) (r : Res) (d : Dev) : Dev :=
  if xcalTakes d i ∧ d.pnd.xcalSec * 400000000 ≤ r.stamp ∧ r.stamp < d.pnd.xcalEnd then
    { d with pnd := { d.pnd with xcalN := d.pnd.xcalN + 1, xcalSum := d.pnd.xcalSum + r.value,
                                 xcalSq := d.pnd.xcalSq + r.value * r.value, xcalBad := d.pnd.xcalBad || r.ovr || !r.valid } }
  else d

/-- The result of input `i` from a filter output `y` ahead of the gain (R36, R39). Log entry 54 (DEDUCED). -/
def deliver (i : Nat) (y : Rat) (ovr spare : Bool) (stampT : Nat) (d : Dev) : Dev :=
  let g := prm d 0x1101 i
  let v := clampI (-8388608) 8388607 (roundAway (y * (prm d 0x1108 (4 * i + g) : Rat) / 1073741824))
  let x := ain d i
  let r : Res := { value := v, valid := facetGood d spare (i / 14) && x.invalid = 0, ovr := ovr,
                   src := spare, cal := prm d 0x1109 (4 * i + g) = 2,
                   seq := (x.res.seq + 1) % 16, stamp := stampT }
  let d1 := xcalFeed i r (modAin i (fun a => { a with res := r, hist := (r :: a.hist).take 64, invalid := a.invalid - 1 }) d)
  if ovr ∧ x.ovrEp ≠ ep d + 1 then raiseI 16 i (modAin i (fun a => { a with ovrEp := ep d + 1 }) d1) else d1

/-- A conversion of input `i` with its raw 16-bit code (R39): offset, decimation, integrator, gain. The flag says that
a result was delivered. Log entries 54 (DEDUCED), 151 (DESIGN CHOICE). -/
def convert (i : Nat) (raw : Int) (clip spare : Bool) (stampT : Nat) (d : Dev) : Dev × Bool :=
  let g := prm d 0x1101 i
  let k := filtOrder (prm d 0x1102 i)
  let dr := decRatio d i
  let a := ain d i
  let off : Rat := (toInt 32 (prm d 0x1107 (4 * i + g)) : Rat)
  let code : Rat := ((raw : Rat) - tget 0 d.acq.trim (server spare (i / 14))) * 256
  let x := if a.discard = 0 then code - off else 0
  let age := if clip ∧ a.discard = 0 then some 0 else a.clipAge.map (fun n => n + 1)
  let (a1, out) := decimate k dr x { a with discard := a.discard - 1, clipAge := age }
  match out with
  | none => (modAin i (fun _ => a1) d, false)
  | some y =>
    let ovr := match age with
      | some n => decide (n < k * (dr - 1) + 1)
      | none => false
    if prm d 0x1100 i = 3 then
      let aa := Config.exp (-(2 * Config.pi * prmQ d 0x1106 i 100 / outRate d i))
      let r := aa * a1.rog + rogGain d i * y
      let d1 := modAin i (fun _ => { a1 with rog := r }) d
      let ok := facetGood d spare (i / 14) && a1.invalid = 0
      (deliver i r ovr spare stampT (calFeed i (y + off) r ovr ok d1), true)
    else
      let ok := facetGood d spare (i / 14) && a1.invalid = 0
      (deliver i y ovr spare stampT (calFeed i (y + off) y ovr ok (modAin i (fun _ => a1) d)), true)

/-- A result of a diagnostic position, in the unit of R50, and the checks of R51. -/
def diagResult (f p : Nat) (raw : Int) (clip spare : Bool) (stampT : Nat) (d : Dev) : Dev :=
  let code := if p = 14 then prm d 0x1005 f else prm d 0x1006 f
  let v := clampI (-8388608) 8388607 (if code = 0 then raw * 256 else raw)
  let j := 2 * f + (p - 14)
  let old : Res := tget {} d.acq.diag j
  let r : Res := { value := v, valid := facetGood d spare f, ovr := clip, src := spare, cal := false,
                   seq := (old.seq + 1) % 16, stamp := stampT }
  let bad := (code = 1 && decide (6000 < absI (raw - 1200000))) || (code = 0 && decide (64 < absI raw))
  let d1 := if bad then facetFault (server spare f) d else d
  let r1 := if bad then { r with valid := false } else r
  { d1 with acq := { d1.acq with diag := tput {} j r1 d1.acq.diag } }

/-! ### Rotation of the spare Facet (R59 to R65) -/

/-- A calibration runs on an input of Facet `f`. -/
def calBusy (d : Dev) (f : Nat) : Bool :=
  (match d.acq.calZero with | some j => j.ain / 14 = f | none => false) ||
    (match d.acq.calFull with | some j => j.ain / 14 = f | none => false)

/-- A step on core `f` begins with a self-calibration: of the core in place where its Facet is off, and of Facet 12
otherwise (R60). -/
def rotBegin (f : Nat) (d : Dev) : Dev :=
  if prm d 0x1000 f = 0 then startSelfCal f { d with acq := { d.acq with rotPhase := 3 } }
  else startSelfCal 12 { d with acq := { d.acq with rotPhase := 1 } }

/-- A dwell of acq.rot.dwell seconds starts at this tick (R60). Log entry 58 (DEDUCED). -/
def dwellDue (d : Dev) : Bool :=
  decide (d.acq.rotBase ≤ d.t) && (d.t - d.acq.rotBase) % (prm d 0x1201 0 * 400000000) = 0

/-- `ROT_DWELL_START`: a dwell begins with the next core Facet (R60). Inputs that Facet 12 kept after a failed overlap back
go to their core first; while a calibration runs on them, no step begins (R59).
Log entries 58 (DEDUCED), 154 (DESIGN CHOICE). -/
def dwellStart (d : Dev) : Dev :=
  if prm d 0x1200 0 = 1 ∧ d.acq.rotPhase = 0 ∧ ¬ d.acq.spareFlt ∧ locked d 3 ∧ dwellDue d ∧
      ¬ calBusy d d.acq.spareFor then
    let f := nextCore d d.acq.rotNext
    rotBegin f { d with acq := { d.acq with rotCur := f, rotNext := nextCore d (f + 1), spareFor := 15 } }
  else d

def execRotDwellStart (t : Nat) (s : State) : Host.Outcome State Fault Refusal := lift t dwellStart s

/-- The rotation is done with its present core Facet. -/
def rotIdle (d : Dev) : Dev := { d with acq := { d.acq with rotPhase := 0 } }

/-- Ticks of a self-calibration: 3,500 µs (R60). -/
def selfCalTicks : Nat := 1400000

/-- `FACET_SELFCAL_DONE` (R51, R60, R64, R65): a pass clears the Facet's fault and moves the rotation on, a failure
declares the Facet faulty. A finished self-calibration replaces the offset that an overlap had trimmed.
Log entry 58 (DEDUCED). -/
def selfCalDone (f : Nat) (pass : Bool) (d : Dev) : Dev :=
  if f < 13 ∧ (facet d f).selfCal ∧ d.t = (facet d f).selfCalT + selfCalTicks then
    let d1 := modFacet f (fun x => { x with selfCal := false })
      { d with acq := { d.acq with trim := tput 0 f 0 d.acq.trim } }
    if ¬ pass then
      let d2 := facetFault f d1
      if f < 12 ∧ d.acq.rotPhase = 3 ∧ d.acq.spareFor = f then { d2 with acq := { d2.acq with rotPhase := 5, takeover := 15 } }
      else if d.acq.rotPhase = 3 ∧ d.acq.rotCur = f then rotIdle d2
      else d2
    else if f = 12 then
      if d.acq.rotPhase = 1 then { d1 with acq := { d1.acq with rotPhase := 2, overlap := 0 } }
      else
        let d2 := { d1 with acq := { d1.acq with spareFlt := false, rotPhase := 0 } }
        let c := spareChoice d2
        if c = 15 then d2 else { d2 with acq := { d2.acq with takeover := c } }
    else if bit d.acq.facetFlt f then
      let held := d.acq.spareFor = f
      let d2 := { d1 with acq := { d1.acq with
        facetFlt := clrBit d1.acq.facetFlt f, takeover := if d1.acq.takeover = f then 15 else d1.acq.takeover,
        spareFor := if held then 15 else d1.acq.spareFor, rotPhase := if held then 0 else d1.acq.rotPhase } }
      let c := spareChoice d2
      if c = 15 ∨ c = d2.acq.spareFor ∨ d2.acq.spareFlt then d2 else { d2 with acq := { d2.acq with takeover := c } }
    else if d.acq.rotPhase = 3 ∧ d.acq.rotCur = f then
      (if d.acq.spareFor = f then { d1 with acq := { d1.acq with rotPhase := 4, overlap := 0 } } else rotIdle d1)
    else d1
  else d

def execFacetSelfcalDone (t f : Nat) (pass : Bool) (s : State) : Host.Outcome State Fault Refusal :=
  lift t (selfCalDone f pass) s

/-- The mean of raw code differences, and whether it and the RMS deviation from it lie within acq.rot.limit (R61).
Log entry 58 (DEDUCED). -/
def overlapMatch (lim : Nat) (ds : List Int) : Rat × Bool :=
  let n : Rat := (ds.length : Rat)
  let m : Rat := ((ds.sum : Int) : Rat) / n
  let var := (ds.map (fun (x : Int) => ((x : Rat) - m) * ((x : Rat) - m))).sum / n
  (m, decide (absR m ≤ (lim : Rat)) && decide (var ≤ (lim : Rat) * lim))

/-- `ROT_OVERLAP_END`: the differences of the raw codes, incoming less outgoing converter, over the 256 scans of the
overlap, at a scan boundary (R60, R61). A calibration on the Facet keeps the handover or handback from starting (R59).
Log entries 58 (DEDUCED), 155 (DESIGN CHOICE). -/
def overlapEnd (ds : List Int) (d : Dev) : Dev :=
  let f := d.acq.rotCur
  if ds ≠ [] ∧ ¬ calBusy d f ∧ (d.acq.rotPhase = 2 ∨ d.acq.rotPhase = 4) ∧ locked d 3 ∧ d.acq.overlap = 256 ∧
      (facet d f).until_ ≤ d.t then
    let (m, ok) := overlapMatch (prm d 0x1202 0) ds
    let inc := if d.acq.rotPhase = 2 then 12 else f
    let d1 := { d with acq := { d.acq with trim := tput 0 inc (tget 0 d.acq.trim inc + m) d.acq.trim } }
    if ¬ ok then rotIdle (raiseI 19 f d1)
    else if d.acq.rotPhase = 2 then
      startSelfCal f { d1 with acq := { d1.acq with spareFor := f, rotPhase := 3 } }
    else rotIdle { d1 with acq := { d1.acq with spareFor := 15 } }
  else d

def execRotOverlapEnd (t : Nat) (diffs : List Int) (s : State) : Host.Outcome State Fault Refusal :=
  lift t (overlapEnd diffs) s

/-- `FACET_FLT_WRITE`: 1 in a FACET_FLT bit starts the self-calibration of that Facet (R65). -/
def facetFltWrite (mask : Nat) (d : Dev) : Dev :=
  forAll 12 (fun f e => if bit mask f ∧ bit e.acq.facetFlt f then startSelfCal f e else e) d

def execFacetFltWrite (t mask : Nat) (s : State) : Host.Outcome State Fault Refusal := lift t (facetFltWrite mask) s

/-- `SPARE_FLT_WRITE` (R65). -/
def spareFltWrite (d : Dev) : Dev :=
  if d.acq.spareFlt then startSelfCal 12 d else d

def execSpareFltWrite (t : Nat) (s : State) : Host.Outcome State Fault Refusal := lift t spareFltWrite s

/-- Loss of the ADC PLL (R64): the rotation step is abandoned, and each set of inputs stays with its converter.
Log entry 58 (DEDUCED). -/
def rotAbandon (d : Dev) : Dev :=
  let run := 1 ≤ d.acq.rotPhase ∧ d.acq.rotPhase ≤ 4
  let d1 := forAll 13 (fun f e => modFacet f (fun x => { x with selfCal := false, waiting := none }) e) d
  { d1 with acq := { d1.acq with rotPhase := if run then 0 else d1.acq.rotPhase,
                                 rotRestart := d1.acq.rotRestart || run } }

/-- After relock the rotation restarts the same step from the self-calibration of Facet 12 (R64), which cannot serve a
core meanwhile: what it served goes back to its core. Log entry 58 (DEDUCED). -/
def rotResume (d : Dev) : Dev :=
  if d.acq.rotRestart ∧ ¬ d.acq.spareFlt then
    rotBegin d.acq.rotCur { d with acq := { d.acq with rotRestart := false, spareFor := 15 } }
  else d

/-- The rotation ends with DOZE: its step is abandoned, and the next dwell begins another (R60, R552).
Log entry 58 (DEDUCED). -/
def rotStop (d : Dev) : Dev :=
  let d1 := rotAbandon d
  { d1 with acq := { d1.acq with rotRestart := false } }

/-! ### System calibration (R54 to R57) -/

/-- The conditions of R54: READY, or SERVICE that returns to READY, and an input in a scan with valid results. -/
def calAdmitted (d : Dev) (i : Nat) : Bool :=
  (d.sys.st = .ready || (d.sys.st = .service && d.sys.svcRet = .ready)) && inScan d i && (ain d i).res.valid

/-- Journal the result of a calibration and let it apply from the next epoch (R57). Log entry 57 (DEDUCED). -/
def calResult (pid i g v : Nat) (d : Dev) : Dev :=
  let k := pkey pid (4 * i + g)
  journal (.always k v) { d with acq := { d.acq with calPend := tput none k (some v) d.acq.calPend } }

/-- Calibration results of the last epoch come into force at the epoch tick (R57). Log entry 57 (DEDUCED). -/
def calLand (d : Dev) : Dev :=
  let d1 := d.acq.calPend.foldl (fun e kv => match kv.2 with
    | some v => setPrm (kv.1 / 65536) (kv.1 % 65536) v e
    | none => e) d
  { d1 with acq := { d1.acq with calPend := [] } }

/-- `CALZERO`: start zero averaging (R54, R55). Log entry 152 (DESIGN CHOICE). -/
def calZeroStart (c : Cmd) (d : Dev) : Dev :=
  let i := field c.body 1 0
  let g := field c.body 2 2
  if 168 ≤ i ∨ 4 ≤ g then finish c 8 0 [] d
  else if ¬ calAdmitted d i then finish c 1 7 [] d
  else
    let d1 := goLong c d
    { d1 with acq := { d1.acq with calZero := some { slot := c.slot, ain := i, gain := g, full := false, ac := false,
                                                     applied := 0, startT := d.t } } }

def execCalzero (t slot : Nat) (s : State) : Host.Outcome State Fault Refusal := liftCmd t slot 0x0C calZeroStart s

/-- `CALZERO_DONE`: the average is the offset; cal.state becomes 1; EV_CALDONE (R55). Log entry 57 (DEDUCED). -/
def calZeroDone (d : Dev) : Dev :=
  match d.acq.calZero with
  | none => d
  | some j =>
    if j.count = 1024 * prm d 0x110A (4 * j.ain + j.gain) then
      let off := clampI (-8388608) 8388607 (roundAway (j.sum / (j.count : Rat)))
      let v := ofInt 32 off
      let d1 := { d with acq := { d.acq with calZero := none } }
      let d2 := calResult 0x1109 j.ain j.gain 1 (calResult 0x1107 j.ain j.gain v d1)
      finishLong j.slot 0 0 (le 4 v) (raiseI 18 j.ain d2)
    else d

def execCalzeroDone (t : Nat) (s : State) : Host.Outcome State Fault Refusal := lift t calZeroDone s

/-- The modes that R43 allows for a sensor type: DC (`ac = false`) and AC. -/
def calModeOk (sensor : Nat) (ac : Bool) : Bool := ac || sensor ≤ 1

/-- The start of CALFULL, DC or AC (R54, R56): conditions 1 and 2 of R56 are known at once. -/
def calFullStart (ac : Bool) (c : Cmd) (d : Dev) : Dev :=
  let i := field c.body 1 0
  let g := field c.body 2 2
  let m := field c.body 3 3
  if m = (if ac then 0 else 1) then d
  else if 168 ≤ i ∨ 4 ≤ g ∨ 1 < m then finish c 8 0 [] d
  else if ¬ calAdmitted d i then finish c 1 7 [] d
  else if prm d 0x1109 (4 * i + g) = 0 then finish c 1 1 [] d
  else if ¬ calModeOk (prm d 0x1100 i) ac then finish c 1 2 [] d
  else
    let d1 := goLong c d
    { d1 with acq := { d1.acq with calFull := some { slot := c.slot, ain := i, gain := g, full := true, ac := ac,
                                                     applied := f32 (field c.body 7 4), startT := d.t } } }

def execCalfullDc (t slot : Nat) (s : State) : Host.Outcome State Fault Refusal :=
  liftCmd t slot 0x0D (calFullStart false) s

def execCalfullAc (t slot : Nat) (s : State) : Host.Outcome State Fault Refusal :=
  liftCmd t slot 0x0D (calFullStart true) s

/-- The gain that a finished CALFULL finds (R56), in units of 2⁻³⁰; zero readings have none. -/
def calGain (d : Dev) (j : CalJob) : Option Rat :=
  let q := if j.ac then (if j.cycN = 0 then 0 else Config.sqrt (j.cycSq / (j.cycN : Rat)))
    else j.sum / (j.count : Rat)
  if absR q < 8388608 / 20 then none else some (j.applied / (prmF d 0x1104 j.ain * q))

/-- `CALFULL_DONE`: the measurement ends with the gain, or with the number of the condition of R56 that failed. The
phase calibration of a current input is then to be done again (R315). Log entry 57 (DEDUCED). -/
def calFullDone (d : Dev) : Dev :=
  match d.acq.calFull with
  | none => d
  | some j =>
    let avg := prm d 0x110A (4 * j.ain + j.gain)
    let full := if j.ac then avg ≤ j.cycles else j.count = 1024 * avg
    let late := j.ac ∧ j.startT + 800000000 ≤ d.t
    let d1 := { d with acq := { d.acq with calFull := none } }
    if j.bad then finishLong j.slot 1 3 [] d1
    else if full then
      match calGain d j with
      | none => finishLong j.slot 1 4 [] d1
      | some g =>
        if g < 1 / 2 ∨ 2 < g then finishLong j.slot 1 5 [] d1
        else
          let v := (roundAway (g * 1073741824)).toNat
          let ph := (List.range 3).foldl (fun m x => if prm d 0x9002 x = j.ain then clrBit m x else m) d1.carat.phDone
          let d2 := { d1 with carat := { d1.carat with phDone := ph } }
          finishLong j.slot 0 0 (le 4 v) (calResult 0x1109 j.ain j.gain 2 (calResult 0x1108 j.ain j.gain v d2))
    else if late then finishLong j.slot 1 6 [] d1
    else d

def execCalfullDone (t : Nat) (s : State) : Host.Outcome State Fault Refusal := lift t calFullDone s

end Sys2Proof.Machine
end

