-- ==== Sys2Proof/Machine/Filigree.lean ====
section
/-!
DEFINITION. The Filigree: number formats, sections, readiness, evaluations, halts, banks, setpoints, trace taps, parity
and replay (R66 to R113, R121).
-/
namespace Sys2Proof.Machine

/-! ### Banks (R87) -/

/-- A word of a bank; an unlisted one has its factory value. -/
def bankGet (b : Bank) (pid i : Nat) : Nat := tget (factory pid i) b (pkey pid i)

/-- Write a word of a bank. -/
def bankPut (pid i v : Nat) (b : Bank) : Bank := tput (factory pid i) (pkey pid i) v b

/-- The active and the inactive bank. -/
def activeBank (d : Dev) : Bank := if d.fil.bank then d.fil.bank1 else d.fil.bank0
def otherBank (d : Dev) : Bank := if d.fil.bank then d.fil.bank0 else d.fil.bank1

/-- Replace the inactive bank. -/
def setOther (b : Bank) (d : Dev) : Dev :=
  { d with fil := if d.fil.bank then { d.fil with bank0 := b } else { d.fil with bank1 := b } }

/-- Write a word into both banks (R175). -/
def bothBanks (pid i v : Nat) (d : Dev) : Dev :=
  { d with fil := { d.fil with bank0 := bankPut pid i v d.fil.bank0, bank1 := bankPut pid i v d.fil.bank1 } }

/-- The banked words of cascade `c`: coefficients, exponents and flags of sixteen sections, and the weights. -/
def bankKeys (c : Nat) : List (Nat × Nat) :=
  (0x2103, c) :: (List.range 16).flatMap (fun s => [(0x2100, 16 * c + s), (0x2101, 16 * c + s), (0x2102, 16 * c + s)])

/-- Copy the words of cascade `c` from the active into the inactive bank. -/
def copyCas (c : Nat) (d : Dev) : Dev :=
  setOther ((bankKeys c).foldl (fun b k => bankPut k.1 k.2 (bankGet (activeBank d) k.1 k.2) b) (otherBank d)) d

/-- The k-th 32-bit element of a multi-word value, signed. -/
def elem (v k : Nat) : Int := toInt 32 (v / 2 ^ (32 * k))

/-- Pack signed 32-bit elements, the first lowest. -/
def packElems (xs : List Int) : Nat := xs.foldr (fun x a => ofInt 32 x + 2 ^ 32 * a) 0

/-- A coefficient or weight as its 32-bit code in units of 2⁻²⁸, rounded and held inside the format (R69). -/
def coefCode (x : Rat) : Int := clampI (-2147483648) 2147483647 (roundAway (x * 268435456))

/-! ### Number formats (R69) -/

/-- Hold a signal inside 24 bits. Log entry 59 (DEDUCED). -/
def sat24 (x : Int) : Int := clampI (-8388608) 8388607 x

/-- Hold an accumulator inside 40 bits. Log entry 59 (DEDUCED). -/
def sat40 (x : Int) : Int := clampI (-549755813888) 549755813887 x

/-- An accumulator sum, with the flag of a saturation. Log entry 59 (DEDUCED). -/
def accAdd (a b : Int) : Int × Bool := (sat40 (a + b), decide (sat40 (a + b) ≠ a + b))

/-- The product of a coefficient (2⁻²⁸) and a signal (2⁻²³), rounded to the accumulator LSB 2⁻³¹.
Log entry 59 (DEDUCED). -/
def mulSig (w v : Int) : Int := shiftRound (w * v) 20

/-- The product of a coefficient and a section input held in 2⁻³⁹, rounded to the accumulator LSB.
Log entry 59 (DEDUCED). -/
def mulIn (w x : Int) : Int := shiftRound (w * x) 36

/-- The input sum of R67 in the accumulator format. -/
def inputSum (w : Nat) (vs : List Int) : Int × Bool :=
  (List.range 4).foldl (fun (a : Int × Bool) k =>
    let r := accAdd a.1 (mulSig (elem w k) (vs.getD k 0))
    (r.1, a.2 || r.2)) (0, false)

/-! ### A section (R70) -/

/-- What a section computes: its output, its next states before the rule of R94, and a saturation. -/
structure SecOut where
  y : Int
  s1 : Int
  s2 : Int
  ovf : Bool
  deriving DecidableEq, Repr

/-- Section with coefficients `cf`, exponent `e` and states `st` on input `x31`, an input in accumulator LSBs.
Log entry 59 (DEDUCED). -/
def section_ (cf : Nat) (e : Int) (st : SecState) (x31 : Int) : SecOut :=
  let xe := x31 * 2 ^ (e + 8).toNat
  let a := accAdd (mulIn (elem cf 0) xe) st.s1
  let y0 := shiftRound a.1 8
  let y := sat24 y0
  let p1 := accAdd (mulIn (elem cf 1) xe) (-(mulSig (elem cf 3) y))
  let q1 := accAdd p1.1 st.s2
  let q2 := accAdd (mulIn (elem cf 2) xe) (-(mulSig (elem cf 4) y))
  { y := y, s1 := q1.1, s2 := q2.1, ovf := a.2 || decide (y ≠ y0) || p1.2 || q1.2 || q2.2 }

/-- Sections `s`, `s + 1`, … of cascade `c` (`n` of them), each feeding the next. -/
def sections (b : Bank) (c : Nat) (sts : Tab SecState) (n s : Nat) (x31 : Int) : List SecOut :=
  match n with
  | 0 => []
  | n + 1 =>
    let o := section_ (bankGet b 0x2100 (16 * c + s)) (toInt 32 (bankGet b 0x2101 (16 * c + s))) (tget {} sts s) x31
    o :: sections b c sts n (s + 1) (o.y * 256)

/-- A section keeps its states where saturation forbids it to integrate (R94). -/
def keepStates (dir : Int) (fl : Nat) (old : SecState) (o : SecOut) : SecState :=
  let p : Int := if bit fl 1 then -1 else 1
  if bit fl 0 ∧ dir * p * (o.s1 - old.s1) > 0 then old else { s1 := o.s1, s2 := o.s2 }

/-- Cascade `c`. -/
def cas (d : Dev) (c : Nat) : Cas := tget {} d.fil.cas c

/-- Change cascade `c`. -/
def modCas (c : Nat) (f : Cas → Cas) (d : Dev) : Dev := { d with fil := { d.fil with cas := tmod {} c f d.fil.cas } }

/-- Lane cycles of an evaluation of `c` (R77). -/
def laneCycles (d : Dev) (c : Nat) : Nat := 5 * prm d 0x2011 c + 4

/-- An evaluation of cascade `c` on the source values `vs` and the states `sts` (R66 to R72, R94).
Log entry 59 (DEDUCED). -/
def evaluate (d : Dev) (c : Nat) (vs : List Int) (sts : Tab SecState) : EvalJob :=
  let b := activeBank d
  let x := inputSum (bankGet b 0x2103 c) vs
  let os := sections b c sts (prm d 0x2011 c) 0 x.1
  let y := (os.getLast?.map (fun o => o.y)).getD 0
  let hi := prmI d 0x2016 c
  let lo := prmI d 0x2017 c
  let v := clampI lo hi y
  let dir : Int := if hi < y then 1 else if y < lo then -1 else 0
  let st := (os.zipIdx).foldl (fun m (o, s) =>
    tput {} s (keepStates dir (bankGet b 0x2102 (16 * c + s)) (tget {} sts s) o) m) []
  { srcs := vs, origin := 0, start := d.t, value := v, sat := dir ≠ 0,
    ovf := x.2 || os.any (fun o => o.ovf), states := st, x := x.1, ys := os.map (fun o => o.y), sp := 0,
    cyc := laneCycles d c, onNew := (cas d c).newBank }

/-! ### Cascades and sources -/

/-- Cascade `c` is enabled (R66). -/
def casOn (d : Dev) (c : Nat) : Bool := prm d 0x2010 c = 1

/-- Source code `k` of cascade `c` (R68). -/
def srcCode (d : Dev) (c k : Nat) : Nat := prm d 0x2012 (4 * c + k)

/-- The target of the setpoint unit of `c` (R95, R98). Log entries 60 (DEDUCED), 160 (DESIGN CHOICE). -/
def spTarget (d : Dev) (c : Nat) : Rat :=
  let x := cas d c
  let lin := fun (m : Rat) => clampR (-8388608) 8388607 (prmF d 0x2204 c + prmF d 0x2203 c * m)
  let src := prm d 0x2200 c
  if src = 0 then (prmI d 0x2202 c : Rat)
  else if src = 1 then lin ((ain d (prm d 0x2201 c)).res.value : Rat)
  else if x.spLost ∧ prm d 0x2206 c = 0 then x.spVal
  else if x.spLost ∧ prm d 0x2206 c = 1 then (prmI d 0x2202 c : Rat)
  else lin x.spM

/-- The setpoint of `c` is valid: an AIN setpoint follows VALID (R96), and a lost pin setpoint with fallback 2 halts
(R98). Log entries 60 (DEDUCED), 160 (DESIGN CHOICE). -/
def spValid (d : Dev) (c : Nat) : Bool :=
  let src := prm d 0x2200 c
  if src = 1 then (ain d (prm d 0x2201 c)).res.valid
  else if src = 0 then true
  else !((cas d c).spLost && prm d 0x2206 c = 2)

/-- Update the setpoint unit of `c` (R95): at the first update it takes its target, later it moves by at most sp.rate
codes per 400,000 ticks, pro rata. Log entry 60 (DEDUCED). -/
def spUpdate (c : Nat) (d : Dev) : Dev :=
  let tg := spTarget d c
  let r := prm d 0x2205 c
  modCas c (fun x =>
    let lim : Rat := (r : Rat) * ((d.t - x.spTick : Nat) : Rat) / 400000
    let v := if !x.spSet || r = 0 then tg else x.spVal + clampR (-lim) lim (tg - x.spVal)
    { x with spVal := v, spTick := d.t, spSet := true }) d

/-- The value of source `code` of cascade `c`, none where it is invalid. Log entry 60 (DEDUCED). -/
def srcValue (d : Dev) (c code : Nat) : Option Int :=
  if code = 0 then some 0
  else if code = 0x3000 then (if spValid d c then some (sat24 (roundAway (cas d c).spVal)) else none)
  else if 0x2000 ≤ code then
    (let o := (cas d (code - 0x2000)).out; if o.valid then some o.value else none)
  else
    (let r := (ain d (code - 0x1000)).res; if r.valid then some r.value else none)

/-- The four sources of `c`; none where one of them is invalid (R74). -/
def sources (d : Dev) (c : Nat) : Option (List Int) :=
  (List.range 4).foldr (fun k acc => match acc, srcValue d c (srcCode d c k) with
    | some r, some v => some (v :: r)
    | _, _ => none) (some [])

/-- Cascade `c` has become ready on a trigger with origin instant `origin` (R73, R78). An evaluation that waits, be it
for a lane or for the one that runs, takes the newer values, and that is an overrun. Log entry 156 (DESIGN CHOICE). -/
def becomeReady (c origin : Nat) (d : Dev) : Dev :=
  modCas c (fun x =>
    let y := { x with fresh := 0, origin := origin }
    if x.job.isSome ∧ x.again then
      { y with origin := x.origin, againOrigin := origin, overrun := incSat 65535 x.overrun }
    else if x.job.isSome then { y with origin := x.origin, again := true, readyAt := d.t, againOrigin := origin }
    else if x.ready then { y with overrun := incSat 65535 x.overrun }
    else { y with ready := true, readyAt := d.t }) d

/-- Source `code` has delivered a new SEQ to cascade `c`: its trigger bits become fresh, and `c` is ready once all of
them are (R73). Log entry 54 (DEDUCED). -/
def freshen (code origin c : Nat) (d : Dev) : Dev :=
  if casOn d c then
    let tr := prm d 0x2013 c
    let hit := maskOf 4 (fun k => bit tr k && srcCode d c k = code)
    if hit = 0 then d
    else
      let fr := (cas d c).fresh ||| hit
      if fr &&& tr = tr then becomeReady c origin d else modCas c (fun x => { x with fresh := fr }) d
  else d

/-- Source `code` has delivered to every cascade that it triggers. -/
def deliverSrc (code origin : Nat) (d : Dev) : Dev := forAll 128 (freshen code origin) d

/-- The AIN result of input `i` reaches the fabric: as a source, and through AIN setpoint units. -/
def deliverAin (i : Nat) (d : Dev) : Dev :=
  let o := (ain d i).res.stamp
  forAll 128 (fun c e => if prm e 0x2200 c = 1 ∧ prm e 0x2201 c = i then freshen 0x3000 e.t c e else e)
    (deliverSrc (0x1000 + i) o d)

/-! ### Halts (R74, R75, R109) -/

/-- The leg whose duty cascade `c` drives. Log entry 61 (DEDUCED). -/
def destLeg (d : Dev) (c : Nat) : Option Nat :=
  let x := prm d 0x2018 c
  if 0x1000 ≤ x ∧ x < 0x1030 then some (x - 0x1000) else none

/-- The output of `c` with DELAY `dly` is late (R82). -/
def lateOut (d : Dev) (c dly : Nat) : Bool := decide (prm d 0x201A c < dly)

/-- A late output: the flag, and EV_FILLATE at most once an epoch (R82). -/
def noteLate (c : Nat) (late : Bool) (d : Dev) : Dev :=
  let e1 := ep d + 1
  if late then
    (if (cas d c).lateEp = e1 then modCas c (fun x => { x with lateF := true }) d
     else raiseI 26 c (modCas c (fun x => { x with lateF := true, lateEp := e1 }) d)) else d

/-- Cascade `c` halts, or misses another evaluation while halted (R74): an output with VALID = 0 and a new SEQ; a leg
that it drives trips (R75). Log entry 61 (DEDUCED). -/
def casHalt (c : Nat) (d : Dev) : Dev :=
  let x := cas d c
  let o := x.out
  let dly := min 65535 (d.t - x.origin)
  let o1 : CasOut := { value := o.value, valid := false, seq := (o.seq + 1) % 16, late := lateOut d c dly, delay := dly,
                       origin := x.origin, tick := d.t }
  let d1 := noteLate c o1.late (modCas c (fun y => { y with
    halt := true, ready := false, fresh := 0, job := none, haltRaised := true, out := o1, sat := false,
    delayMax := max y.delayMax dly, hist := (o1 :: y.hist).take 16 }) d)
  let d2 := if x.halt then d1 else raiseI 25 c d1
  let d3 := match destLeg d c with
    | some n => if x.halt then d2 else legOut n true d2
    | none => d2
  deliverSrc (0x2000 + c) x.origin d3

/-- Every enabled cascade halts with VALID = 0 (R109, R517). Log entry 61 (DEDUCED). -/
def haltEvery (d : Dev) : Dev :=
  forAll 128 (fun c e => if casOn e c then modCas c (fun x => { x with
    halt := true, ready := false, fresh := 0, job := none, again := false, out := { x.out with valid := false } }) e
    else e) { d with fil := { d.fil with haltAll := true } }

/-- An uncorrectable fabric error (R109): every cascade halts, held legs stay off, EV_FILUNC, UNC, TRIP with cause
0x29. -/
def fabricError (c : Nat) (d : Dev) : Dev :=
  let d1 := haltEvery { d with fil := { d.fil with unc := true, replay := none, rplJobs := [] } }
  enterTrip 0x29 (raiseI 32 c d1)

/-! ### Evaluations (R77 to R84) -/

/-- Cascade `a` takes a lane before `b` (R77): higher priority, then earlier readiness, then the lower number. -/
def before (d : Dev) (a b : Nat) : Bool :=
  let pa := prm d 0x2014 a
  let pb := prm d 0x2014 b
  if pa ≠ pb then pb < pa
  else if (cas d a).readyAt ≠ (cas d b).readyAt then (cas d a).readyAt < (cas d b).readyAt
  else a < b

/-- Lanes in use. -/
def lanesUsed (d : Dev) : Nat := ((List.range 128).filter (fun c => (cas d c).job.isSome)).length

/-- Cascade `c` may take a lane now. -/
def mayStart (d : Dev) (c : Nat) : Bool :=
  c < 128 && casOn d c && (cas d c).ready && (cas d c).job.isNone && d.fil.replay.isNone && !d.fil.haltAll &&
    lanesUsed d < 4 &&
    (List.range 128).all (fun b => b = c || !(casOn d b && (cas d b).ready && (cas d b).job.isNone) || before d c b)

/-- The states from which `c` evaluates: zero after a halt (R74) and, with swap.state 1, on a new bank (R89). -/
def startStates (d : Dev) (c : Nat) : Tab SecState :=
  let x := cas d c
  if x.halt ∨ x.newBank ∧ prm d 0x2019 c = 1 then [] else x.states

/-! ### What grid synthesis keeps of the evaluations (R190, R199) -/

/-- Role of the leg that cascade `c` drives; 0 where it drives none. Log entry 61 (DEDUCED). -/
def destRole (d : Dev) (c : Nat) : Nat := match destLeg d c with
  | some n => role d n
  | none => 0

/-- The set of an AC current loop: that of the bridge that holds its leg (R182). -/
def loopSet (d : Dev) (c : Nat) : Nat :=
  match destLeg d c with
  | some n => (match bridgeOf d n with
    | some k => prm d 0x5061 k
    | none => 0)
  | none => 0

/-- The origin of the cascade output that source 0 of `c` names. -/
def srcOrigin (d : Dev) (c k : Nat) : Nat := (cas d (srcCode d c k - 0x2000)).out.origin

/-- `c` starts an evaluation with origin `org`: the age of the reference that an AC current loop reads, and of the Gα
output that a phase reference reads (R190). -/
def noteAge (c org : Nat) (d : Dev) : Dev :=
  if destRole d c = 1 ∧ 0x2000 ≤ srcCode d c 0 then
    let s := loopSet d c
    let a := org - srcOrigin d c 0
    { d with gs := { d.gs with ages := tput [] s (a :: tget [] d.gs.ages s) d.gs.ages } }
  else if prm d 0x5003 0 ≤ c ∧ c < prm d 0x5003 0 + 3 * prm d 0x5004 0 then
    { d with gs := { d.gs with ageG := (org - srcOrigin d c 2) :: d.gs.ageG } }
  else d

/-- The first load point of leg `n` after instant `e` (R120), as the carrier that runs now places them. -/
def loadAfter (d : Dev) (n e : Nat) : Int :=
  let x := leg d n
  let iv : Int := if prm d 0x3107 n = 1 then (x.len : Int) / 2 else (x.len : Int)
  if iv = 0 then 0 else (x.start : Int) + (((e : Int) - (x.start : Int)) / iv + 1) * iv

/-- The tick of the trigger event of the scan that sampled position `p` of Facet `f` at `org` (R34). -/
def trigEvent (d : Dev) (f p org : Nat) : Nat :=
  org - prm d 0x1004 f - 10 * ((setBits 16 (prm d 0x1001 f)).filter (fun q => q < p)).length

/-- The input that an AC current loop measures: its first source that is an input. -/
def loopAin (d : Dev) (c : Nat) : Option Nat :=
  ((List.range 4).map (srcCode d c)).find? (fun s => 0x1000 ≤ s && s < 0x10A8) |>.map (fun s => s - 0x1000)

/-- An output of AC current loop `c` with origin `org` is written now: a miss where it comes less than 100 ticks before
the first load point after the trigger event of its scan (R199). -/
def noteMargin (c org : Nat) (d : Dev) : Dev :=
  match destLeg d c, loopAin d c with
  | some n, some i =>
    if destRole d c = 1 ∧ (leg d n).running ∧ prm d 0x1000 (i / 14) = 2 ∧
        loadAfter d n (trigEvent d (i / 14) (i % 14) org) < (d.t : Int) + 100 then
      { d with gs := { d.gs with misses := d.gs.misses + 1, missNow := true } }
    else d
  | _, _ => d

/-- `CASCADE_EVAL_START`: a ready cascade takes a free lane; it halts if a source is invalid (R74, R77), and a transfer
that fails its replay is an uncorrectable error (R105, R109). -/
def evalStart (c : Nat) (parity : TransferParity) (d : Dev) : Dev :=
  if mayStart d c then
    if parity = .failed then fabricError c d
    else
      let d1 := if (List.range 4).any (fun k => srcCode d c k = 0x3000) && spValid d c then spUpdate c d else d
      match sources d1 c with
      | none => casHalt c d1
      | some vs =>
        let x := cas d1 c
        let j := { evaluate d1 c vs (startStates d1 c) with
          origin := x.origin, sp := sat24 (roundAway x.spVal) }
        let d2 := noteAge c x.origin (modCas c (fun y => { y with
          job := some j, ready := false, fresh := 0 }) d1)
        { d2 with fil := { d2.fil with cycles := d2.fil.cycles + laneCycles d c } }
  else d

def execCascadeEvalStart (t c : Nat) (parity : TransferParity) (s : State) : Host.Outcome State Fault Refusal :=
  lift t (evalStart c parity) s

/-! ### Trace taps (R100 to R103) -/

/-- The node that tap `k` records, in the cascade's job and output: VALUE of R101. Log entry 157 (DESIGN CHOICE). -/
def nodeValue (d : Dev) (k : Nat) (j : EvalJob) : Int :=
  let nd := prm d 0x2300 k
  let s := bits nd 3 0
  match bits nd 15 12 with
  | 0 => sat24 (j.x / 256)
  | 1 => j.ys.getD s 0
  | 2 => (tget {} j.states s).s1 / 65536
  | 3 => j.value
  | _ => j.sp

/-- The cascade that tap `k` watches. -/
def tapCas (d : Dev) (k : Nat) : Nat := bits (prm d 0x2300 k) 11 5

/-- One evaluation of its cascade reaches tap `k`: level triggers, decimation, and a sample (R101 to R103).
Log entries 158 (DESIGN CHOICE), 159 (DESIGN CHOICE). -/
def tapFeed (j : EvalJob) (o : CasOut) (k : Nat) (d : Dev) : Dev :=
  let x := tap d k
  let m := prm d 0x2302 k
  if m = 0 ∨ x.stopped ∨ x.post = some 0 then d
  else
    let v := nodeValue d k j
    let lv := prmI d 0x2306 k
    let src := prm d 0x2303 k
    let hit := (src = 0x200 && x.last < lv && lv ≤ v) || (src = 0x201 && x.last > lv && lv ≥ v)
    let d1 := modTap k (fun y => { y with last := v }) (if hit then tapTrigger k d else d)
    if x.decN + 1 < prm d 0x2301 k then modTap k (fun y => { y with decN := y.decN + 1 }) d1
    else
      modTap k (fun y =>
        let w := ofInt 24 v + 2 ^ 24 * o.seq + 2 ^ 28 * b01 o.sat + 2 ^ 29 * b01 o.rpl + 2 ^ 30 * b01 o.valid +
          2 ^ 31 * b01 y.trgNext
        { y with decN := 0, ring := (w :: y.ring).take 65536, count := min 65536 (y.count + 1), trgNext := false,
                 post := y.post.map (fun n => n - 1) }) d1

/-- The taps that watch cascade `c`. -/
def tapsFeed (c : Nat) (j : EvalJob) (o : CasOut) (d : Dev) : Dev :=
  forAll 16 (fun k e => if tapCas e k = c then tapFeed j o k e else e) d

/-! ### Completion -/

/-- Flags and events of a new output: OVF, LATE, and the evaluation rate (R71, R82, R84). -/
def evalEvents (c : Nat) (j : EvalJob) (late : Bool) (d : Dev) : Dev :=
  let e1 := ep d + 1
  let d1 := if j.ovf then
    (if (cas d c).ovfEp = e1 then modCas c (fun x => { x with ovf := true }) d
     else raiseI 24 c (modCas c (fun x => { x with ovf := true, ovfEp := e1 }) d)) else d
  let d2 := noteLate c late d1
  let d3 := modCas c (fun x => if x.ep = e1 then { x with epN := x.epN + 1 } else { x with ep := e1, epN := 1 }) d2
  if prm d3 0x2015 c / 1000 + 1 < (cas d3 c).epN ∧ d3.fil.rateEp ≠ e1 then
    raiseI 27 c { d3 with fil := { d3.fil with rateEp := e1 } }
  else d3

/-- The voltage loop of a PV input is saturated at the current limit (R261). -/
def pvSat (c : Nat) (j : EvalJob) (d : Dev) : Dev :=
  if j.sat ∧ prm d 0x7000 0 ≤ c ∧ c < prm d 0x7000 0 + prm d 0x7001 0 ∧ j.value = prmI d 0x2016 c then
    modPv (c - prm d 0x7000 0) (fun x => { x with satSeen := true }) d
  else d

/-- Write the output of an evaluation of `c` (R79 to R82) and hand it to its consumers. Log entry 59 (DEDUCED). -/
def writeOut (c : Nat) (j : EvalJob) (rpl : Bool) (d : Dev) : Dev :=
  let x := cas d c
  let dly := min 65535 (d.t - j.origin)
  let late := lateOut d c dly
  let o : CasOut := { value := j.value, valid := true, sat := j.sat, rpl := rpl, late := late,
                      seq := (x.out.seq + 1) % 16, delay := dly, origin := j.origin, tick := d.t }
  let d1 := modCas c (fun y => { y with
    out := o, hist := (o :: y.hist).take 16, good := j.value, sat := j.sat, prev := y.states, states := j.states, lastSrcs := j.srcs,
    halt := false, job := none, newBank := y.newBank && !j.onNew, delayMax := max y.delayMax dly, rplF := y.rplF || rpl,
    ready := y.again, origin := if y.again then y.againOrigin else y.origin, again := false }) d
  deliverSrc (0x2000 + c) j.origin (tapsFeed c j o (noteMargin c j.origin (evalEvents c j late (pvSat c j d1))))

/-- The tick at which the output of an evaluation is due: the first tick edge at or after its lane cycles of 600 MHz
(R77). -/
def evalDue (j : EvalJob) : Nat := j.start + (2 * j.cyc + 2) / 3

/-- The end of an evaluation: its output is written at its due tick (R77). A transfer out of the Filigree that is replayed
delays it by at most 8 ticks, and one that fails its replay is an uncorrectable error (R105, R109). -/
def evalDone (c : Nat) (parity : TransferParity) (d : Dev) : Dev :=
  match (cas d c).job with
  | some j =>
    let due : Bool := match parity with
      | .good => decide (d.t = evalDue j)
      | _ => decide (evalDue j ≤ d.t ∧ d.t ≤ evalDue j + 8)
    if ¬ (c < 128 ∧ due) then d
    else if parity = .failed then fabricError c d
    else writeOut c j false d
  | none => d

/-- The enable of a cascade at a landing (R74). Log entry 61 (DEDUCED). -/
def casEnable (c : Nat) (d : Dev) : Dev :=
  modCas c (fun x => { x with
    out := { valid := true, seq := x.out.seq }, good := 0, states := [], prev := [], fresh := 0, ready := false,
    again := false, job := none, halt := false, sat := false, spSet := false, spLost := false, spT := d.t }) d

/-! ### Setpoints -/

/-- What setpoint pin `q` has shown. -/
def pinSp (d : Dev) (q : Nat) : PinSp := tget {} d.fil.pins q

/-- A measurement at PIN_SPq of period `period` with high time `high`, valid from 400 to 400,000,000 ticks (R97). -/
def pinMeasure (q period high : Nat) (d : Dev) : Dev :=
  if 400 ≤ period ∧ period ≤ 400000000 then
    forAll 128 (fun c e =>
      let src := prm e 0x2200 c
      if (src = 2 ∨ src = 3) ∧ prm e 0x2201 c = q then
        let m : Rat := if src = 2 then (400000000 : Rat) / (period : Rat) else (high : Rat) / (period : Rat)
        freshen 0x3000 e.t c (modCas c (fun x => { x with spM := m, spLost := false, spT := e.t }) e)
      else e) d
  else d

/-- The period and the high time that an edge of pin `q` at tick `a` ends (R97): from the edge before of the same
direction, and the high time within. -/
def pinPeriod (x : PinSp) (level : Bool) (a : Nat) : Option (Nat × Nat) :=
  match x.rise, x.fall with
  | some r, some f => if level then some (a - r, f - r) else some (a - f, a - r)
  | _, _ => none

/-- `PIN_SP_EDGE`: PIN_SPq has shown a level for `held` ticks. The edge counts once that is pin[q].filt (R97), at the
tick of the edge, and a reference edge, chosen by pin[q].edge, ends a measurement. Log entry 60 (DEDUCED). -/
def pinEdge (q : Nat) (level : Bool) (held : Nat) (d : Dev) : Dev :=
  let x := pinSp d q
  if q < 4 ∧ prm d 0x2210 q ≤ held ∧ held ≤ d.t ∧ x.level ≠ some level then
    let a := d.t - held
    let y : PinSp := if level then { x with level := some true, rise := some a }
      else { x with level := some false, fall := some a }
    let d1 := { d with fil := { d.fil with pins := tput {} q y d.fil.pins } }
    match pinPeriod x level a with
    | some (p, h) => if level = decide (prm d 0x2211 q = 0) then pinMeasure q p h d1 else d1
    | none => d1
  else d

/-- A step of the clock from tick `old` moves the instants from which the fabric counts, since no time has passed. -/
def stepFil (old : Nat) (d : Dev) : Dev :=
  let mv := fun (a : Nat) => d.t + a - old
  let d1 := forAll 128 (fun c e => modCas c (fun x => if x = {} then x else { x with
    readyAt := mv x.readyAt, origin := mv x.origin, againOrigin := mv x.againOrigin, spTick := mv x.spTick,
    spT := mv x.spT, job := x.job.map (fun j => { j with start := mv j.start, origin := mv j.origin }) }) e) d
  { d1 with fil := { d1.fil with
      pins := d1.fil.pins.map (fun e => (e.1, { e.2 with rise := e.2.rise.map mv, fall := e.2.fall.map mv })),
      rplJobs := d1.fil.rplJobs.map (fun j => { j with origin := mv j.origin }) } }

def execPinSpEdge (t q : Nat) (level : Bool) (held : Nat) (s : State) : Host.Outcome State Fault Refusal :=
  lift t (pinEdge q level held) s

/-- `SETPOINT_TIMEOUT` (R98): no valid measurement for sp.timeout ms. Log entry 60 (DEDUCED). -/
def spTimeout (c : Nat) (d : Dev) : Dev :=
  if c < 128 ∧ casOn d c ∧ (prm d 0x2200 c = 2 ∨ prm d 0x2200 c = 3) ∧ ¬ (cas d c).spLost ∧
      (cas d c).spT + prm d 0x2207 c * ticksPerMs ≤ d.t then
    raiseI 33 c (modCas c (fun x => { x with spLost := true }) d)
  else d

def execSetpointTimeout (t c : Nat) (s : State) : Host.Outcome State Fault Refusal := lift t (spTimeout c) s

/-! ### Banks and mirrors (R88 to R93, R110) -/

/-- The banks change roles (R88): every cascade meets the new bank at its next evaluation, one that runs completes on the
old bank, and the copy of R90 begins for the cascades with MIRROR = 0. Log entry 33 (DEDUCED). -/
def bankSwap (d : Dev) : Dev :=
  let d1 := forAll 128 (fun c e => if casOn e c then modCas c (fun x =>
    { x with newBank := true, job := x.job.map (fun j => { j with onNew := false }) }) e else e) d
  { d1 with fil := { d1.fil with bank := !d1.fil.bank, swapPend := false, copying := true,
                                 copySet := maskOf 128 (fun c => !(cas d c).mirror) } }

/-- Copy the active into the inactive bank for every cascade with MIRROR = 0, which ends STAGE_BAD (R91, R110).
Log entry 62 (DEDUCED). -/
def mirrorAll (d : Dev) : Dev :=
  forAll 128 (fun c e => if (cas e c).mirror then e
    else modCas c (fun x => { x with mirror := true, stageBad := false }) (copyCas c e)) d

/-- The end of the copy after a swap (R90): the cascades that had MIRROR = 0 at the swap have it set.
Log entry 62 (DEDUCED). -/
def mirrorDone (d : Dev) : Dev :=
  let d1 := setPrm 0x2001 0 0 (forAll 128 (fun c e => if bit d.fil.copySet c then
    modCas c (fun x => { x with mirror := true }) (copyCas c e) else e) d)
  { d1 with fil := { d1.fil with copying := false, copySet := 0 } }

/-- `FIL_STAGE_DISCARD`: a write of 1 to fil.stage.discard (R91). Log entry 33 (DEDUCED). -/
def stageDiscardFil (d : Dev) : Dev := answer 0 0 (mirrorAll d)

def execFilStageDiscard (t cls : Nat) (s : State) : Host.Outcome State Fault Refusal :=
  lift t (immediate cls 2 stageDiscardFil) s

/-! ### Parity and replay (R105 to R110) -/

/-- The cascades that read a member of `m`, a bit mask, and `m` itself. Log entry 62 (DEDUCED). -/
def readers (d : Dev) (m : Nat) : Nat :=
  m ||| maskOf 128 (fun c => casOn d c && (List.range 4).any (fun k =>
    let s := srcCode d c k
    0x2000 ≤ s && s < 0x2080 && bit m (s - 0x2000)))

/-- The chain of `c`: `c` and every cascade that reads it, directly or in turn (R106). Log entry 62 (DEDUCED). -/
def chainOf (d : Dev) (fuel m : Nat) : Nat :=
  match fuel with
  | 0 => m
  | fuel + 1 => let m' := readers d m; if m' = m then m else chainOf d fuel m'

/-- The legs driven by the enabled cascades of a mask. -/
def legsOf (d : Dev) (m : Nat) : Nat :=
  ((setBits 128 m).filter (casOn d)).foldl (fun a c => match destLeg d c with
    | some n => a ||| 2 ^ n
    | none => a) 0

/-- Every chain that the running replay repairs, as a mask (R106). -/
def rplChains (d : Dev) : Nat := d.fil.rplJobs.foldl (fun m j => m ||| chainOf d 128 (2 ^ j.c)) 0

/-- The evaluation of `c` is aborted and nothing of it is written: its source values are held for the replay, and one that
waited behind it is ready (R106). -/
def abortEval (c : Nat) (d : Dev) : Dev :=
  modCas c (fun x => match x.job with
    | some j => { x with job := none, lastSrcs := j.srcs, ready := x.ready || x.again, again := false,
                         origin := if x.again then x.againOrigin else j.origin }
    | none => x) d

/-- The gates of the legs in a mask are held off by a replay (R106). -/
def replayHolds (legs : Nat) (d : Dev) : Dev :=
  regate (forAll 48 (fun n e => if bit legs n then modLeg n (fun x => { x with replayHold := true }) e else e) d)

/-- A cascade with MIRROR = 0 cannot be restored (R108): it halts, EV_FILPAR is raised and the legs held off trip. What
waits for a lane keeps its place. -/
def casLost (c legs origin : Nat) (d : Dev) : Dev :=
  let x := cas d c
  let d1 := if casOn d c then casHalt c (modCas c (fun y => { y with origin := origin }) d) else d
  let d2 := raiseI 31 c (modCas c (fun y => { y with ready := x.ready, readyAt := x.readyAt, origin := x.origin }) d1)
  forAll 48 (fun n e => if bit legs n then legOut n true e else e) d2

/-- A parity error in the active bank or the state memory of `c` (R106, R110): its evaluation is aborted, the chain's legs
are held off, and a replay starts or takes it up; with MIRROR = 0 it cannot be restored (R108); a second error in a chain
that is being replayed is uncorrectable (R109). With a SYNCED peer and pnd.repl.act = 1 the device declares a fault
instead, and all legs are held off (R464). Log entry 62 (DEDUCED). -/
def parityError (c : Nat) (stateWord : Bool) (d : Dev) : Dev :=
  if 128 ≤ c ∨ d.fil.haltAll then d
  else if bit (rplChains d) c then fabricError c d
  else if d.pnd.role = 1 ∧ d.pnd.peerSynced ∧ prm d 0xD005 0 = 1 then
    regate { modCas c (fun x => { x with job := none }) d with
      pnd := { d.pnd with fault := true }
      pwm := { d.pwm with devHold := true } }
  else
    let x := cas d c
    let legs := legsOf d (chainOf d 128 (2 ^ c))
    let org := (x.job.map (fun j => j.origin)).getD x.origin
    let d1 := abortEval c d
    let d2 := { d1 with fil := { d1.fil with
      replay := some (d1.fil.replay.getD c), rplHold := d1.fil.rplHold ||| legs,
      stateErr := if d1.fil.replay.isSome then d1.fil.stateErr else stateWord,
      rplJobs := d1.fil.rplJobs ++ [⟨c, stateWord, org, !x.mirror⟩], rplCnt := incSat 255 d1.fil.rplCnt } }
    let d3 := raiseI 30 c (replayHolds legs d2)
    if x.mirror then d3 else casLost c legs org d3

def execFiligreeParityError (t c : Nat) (stateWord : Bool) (s : State) : Host.Outcome State Fault Refusal :=
  lift t (parityError c stateWord) s

/-- The next member of the chain to re-evaluate: one whose triggering sources in the chain are done, else the first. -/
def replayNext (d : Dev) (todo : List Nat) : Option Nat :=
  match todo.find? (fun c => (List.range 4).all (fun k =>
      !bit (prm d 0x2013 c) k || !todo.contains (srcCode d c k - 0x2000) || srcCode d c k < 0x2000 ||
        srcCode d c k - 0x2000 = c)) with
  | some c => some c
  | none => todo.head?

/-- A source of a member of the chain `ch` in the replay (R106): a source inside the chain gives its replayed output, and
any other the held value. Nothing comes of an output with VALID = 0 (R74); a halted member reads its sources anew.
Log entry 62 (DEDUCED). -/
def rplSource (d : Dev) (ch c k : Nat) : Option Int :=
  let s := srcCode d c k
  let inside := decide (0x2000 ≤ s ∧ s < 0x2080) && bit ch (s - 0x2000)
  match (cas d c).lastSrcs[k]? with
  | some v => if inside || (cas d c).halt then srcValue d c s else some v
  | none => srcValue d c s

/-- Re-evaluate a cascade of the chain with origin instant `org`; it halts where a source is invalid (R74, R106). -/
def rplEvalOne (ch org c : Nat) (d : Dev) : Dev :=
  let vs := (List.range 4).map (rplSource d ch c)
  let d1 := { d with fil := { d.fil with cycles := d.fil.cycles + laneCycles d c } }
  if vs.all Option.isSome then
    writeOut c { evaluate d c (vs.map (fun v => v.getD 0)) (startStates d c) with
      origin := org, sp := sat24 (roundAway (cas d c).spVal) } true d1
  else casHalt c (modCas c (fun x => { x with origin := org }) d)

/-- Re-evaluate the cascades of the chain in dependency order from their held source values (R106); a cascade that could
not be restored stays halted (R108). -/
def replayEval (fuel : Nat) (ch org : Nat) (lost : Nat) (todo : List Nat) (d : Dev) : Dev :=
  match fuel with
  | 0 => d
  | fuel + 1 =>
    match replayNext d todo with
    | none => d
    | some c =>
      replayEval fuel ch org lost (todo.filter (fun x => x ≠ c))
        (if bit lost c || !casOn d c then d else rplEvalOne ch org c d)

/-- The evaluations of `ch` that waited for a lane before the replay wait again (R106). -/
def requeue (old : Dev) (ch : Nat) (d : Dev) : Dev :=
  (setBits 128 ch).foldl (fun e c =>
    let x := cas old c
    modCas c (fun y => { y with ready := x.ready, readyAt := x.readyAt, fresh := x.fresh, overrun := x.overrun,
                                origin := x.origin, again := x.again, againOrigin := x.againOrigin }) e) d

/-- The replay output of a leg goes directly into its compare values (R121): both high times are taken anew, the edges
are planned again, and an edge that has passed takes effect at once; a forced refresh goes on (R124). -/
def replayLoad (n : Nat) (d : Dev) : Dev :=
  let x := leg d n
  if x.running then
    let h := highTime d n x.len
    let d1 := modLeg n (fun y => { y with h1 := h, h2 := h, lastRise := none, lastFall := none }) d
    let now := 16 * (d.t - x.start)
    let r := planRise d1 n h
    let f := planFall d1 n h 0
    let up := match r with | some a => decide (a ≤ now) | none => false
    let dn := match f with | some a => decide (a ≤ now) | none => false
    let want := if dn || x.forceLow then false else if up then true else if r = none then false else x.s && f = none
    let d2 := modLeg n (fun y => { y with rise := if up || x.forceLow then none else r, fall := if dn then none else f,
                                          lastRise := x.lastRise, lastFall := x.lastFall }) d1
    if want = x.s then d2 else setS n want d2
  else d

/-- A replay holds legs (R176). -/
def rplHolds (d : Dev) : Bool := d.fil.replay.isSome && d.fil.rplHold ≠ 0

/-- The end of a replay (R106): c restarts from its restored states (R107), the chain is re-evaluated, the outputs go
into the compare values and the hold lifts (R584). Log entry 62 (DEDUCED). -/
def replayDone (repaired : Bool) (d : Dev) : Dev :=
  match d.fil.replay with
  | none => d
  | some c =>
    if ¬ repaired then fabricError c d
    else
      let js := d.fil.rplJobs
      let lost := js.foldl (fun m j => if j.lost then setBit m j.c else m) 0
      let d1 := { d with fil := { d.fil with replay := none, stateErr := false, rplHold := 0, rplJobs := [] } }
      let d2 := js.foldl (fun e j => if j.stateErr then modCas j.c (fun x => { x with states := x.prev }) e else e) d1
      let d3 := js.foldl (fun e j =>
        let ch := chainOf d 128 (2 ^ j.c)
        requeue d ch (replayEval 128 ch j.origin lost (setBits 128 ch) e)) d2
      let legs := d.fil.rplHold
      let d4 := forAll 48 (fun n e => if bit legs n then
        replayLoad n (modLeg n (fun x => { x with replayHold := false }) e) else e) d3
      regate d4

/-- `FIL_UNC_WRITE`: 1 to UNC starts the full check (R109). -/
def uncWrite (d : Dev) : Dev := if d.fil.unc then { d with fil := { d.fil with checking := true } } else d

def execFilUncWrite (t : Nat) (s : State) : Host.Outcome State Fault Refusal := lift t uncWrite s

/-- `FIL_CHECK_DONE`: a pass clears UNC (R109), and cascades resume with zero states at their first valid evaluation
(R74). -/
def checkDone (pass : Bool) (d : Dev) : Dev :=
  if d.fil.checking then
    let d1 := { d with fil := { d.fil with checking := false } }
    if pass then
      let d2 := forAll 48 (fun n e => modLeg n (fun x => { x with replayHold := false }) e) d1
      regate { d2 with fil := { d2.fil with unc := false, haltAll := !locked d2 0, rplHold := 0, stateErr := false } }
    else d1
  else d

def execFilCheckDone (t : Nat) (pass : Bool) (s : State) : Host.Outcome State Fault Refusal := lift t (checkDone pass) s

/-- `BANK_SCRUB`: the periodic read finds a failing word of cascade `c` (R110). Log entry 62 (DEDUCED). -/
def bankScrub (c : Nat) (active : Bool) (d : Dev) : Dev :=
  if 128 ≤ c then d
  else if active then parityError c false d
  else if (cas d c).mirror then copyCas c d
  else modCas c (fun x => { x with stageBad := true }) d

def execBankScrub (t c : Nat) (activeBank : Bool) (s : State) : Host.Outcome State Fault Refusal :=
  lift t (bankScrub c activeBank) s

/-- `TRACE_FIRE`: a write of 1 to trace[t].fire (R103). Log entry 95 (DESIGN CHOICE). -/
def traceFire (k : Nat) (d : Dev) : Dev := if 16 ≤ k then answer 8 (0x2308 + 65536 * k) d else answer 0 0 (tapTrigger k d)

def execTraceFire (t cls tap : Nat) (s : State) : Host.Outcome State Fault Refusal :=
  lift t (immediate cls 1 (traceFire tap)) s

end Sys2Proof.Machine
end

