-- ==== Sys2Proof/Machine/Gs.lean ====
section
/-!
DEFINITION. Grid current synthesis: the owned cascades and how the device writes them, the estimator, the power
commands, the current references and grid forming (R173 to R202, R587).
-/
namespace Sys2Proof.Machine

/-! ### Complex arithmetic in rationals -/

/-- The vector of magnitude `r` at `deg` degrees. -/
def polar (r deg : Rat) : Vec := ⟨r * Config.cosDeg deg, r * Config.sinDeg deg⟩

/-- Sum, difference and product of vectors as complex numbers. -/
def vadd (a b : Vec) : Vec := ⟨a.re + b.re, a.im + b.im⟩
def vmul (a b : Vec) : Vec := ⟨a.re * b.re - a.im * b.im, a.re * b.im + a.im * b.re⟩

/-- Magnitude and angle of a vector. -/
def vabs (a : Vec) : Rat := Config.sqrt (a.re * a.re + a.im * a.im)
def varg (a : Vec) : Rat := Config.atan2Deg a.im a.re

/-- An angle in degrees wrapped to −180 … +180. -/
def wrap180 (x : Rat) : Rat := x - 360 * ((x - 180) / 360).ceil

/-- An angle in degrees reduced to 0 … 360. -/
def mod360 (x : Rat) : Rat := x - 360 * (x / 360).floor

/-- Degrees that frequency `f` turns in `n` ticks. -/
def turn (f : Rat) (n : Int) : Rat := 360 * f * (n : Rat) / 400000000

/-! ### Base values -/

/-- First owned cascade b, number of sets S, and index e = b + 5S (R173). -/
def gsBase (d : Dev) : Nat := prm d 0x5003 0
def gsSets (d : Dev) : Nat := prm d 0x5004 0
def gsE (d : Dev) : Nat := gsBase d + 5 * gsSets d

/-- Cascade `c` is one of the 5S + 13 that the device owns for synthesis (R173). -/
def gsOwned (d : Dev) (c : Nat) : Bool := gsBase d ≤ c && c < gsE d + 13

/-- Engineering value of a fabric 1.0 on input `i`: ain.scale × 2^23 (R188). Log entry 71 (DEDUCED). -/
def fullScale (d : Dev) (i : Nat) : Rat := prmF d 0x1104 i * 8388608

/-- U_fs of the voltage inputs. Log entry 71 (DEDUCED). -/
def uFs (d : Dev) : Rat := fullScale d (prm d 0x5012 0)

/-- The AC current loops: enabled cascades whose dest is a leg of role 1 (R182). -/
def acLoops (d : Dev) : List Nat := (List.range 128).filter (fun c => casOn d c && destRole d c = 1)

/-- I_fs of the leg current inputs, which R182 holds equal. Log entry 71 (DEDUCED). -/
def iFs (d : Dev) : Rat :=
  match (acLoops d).findSome? (loopAin d) with
  | some i => fullScale d i
  | none => 0

/-- S_base in VA, the base line voltage in V, and the nominal frequency. Log entry 71 (DEDUCED). -/
def sBase (d : Dev) : Rat := prm d 0x5000 0
/-- Log entry 71 (DEDUCED). -/
def uLl (d : Dev) : Rat := (prm d 0x5001 0 : Rat) / 10
/-- Log entry 71 (DEDUCED). -/
def fBase (d : Dev) : Rat := prm d 0x5002 0

/-- Peak base voltage phase to neutral. Log entry 71 (DEDUCED). -/
def vBase (d : Dev) : Rat := uLl d * Config.sqrt (2 / 3)

/-- Peak base current of the block. Log entry 71 (DEDUCED). -/
def iBase (d : Dev) : Rat := 2 * sBase d / (3 * vBase d)

/-- A fabric value of a 24-bit code. Log entry 71 (DEDUCED). -/
def fab (v : Int) : Rat := (v : Rat) / 8388608

/-- The 24-bit code of a fabric value. Log entry 71 (DEDUCED). -/
def unfab (x : Rat) : Int := sat24 (roundAway (x * 8388608))

/-- The code of gs.i.lim of one leg: its share of the base current over the enabled bridges. -/
def limCode (d : Dev) : Int := unfab ((prm d 0x503D 0 : Rat) / 100 * iBase d / (mCfg d : Nat) / iFs d)

/-! ### Writing owned cascades (R173, R175) -/

/-- The coefficients of a section. -/
structure Coefs where
  b0 : Rat := 1
  b1 : Rat := 0
  b2 : Rat := 0
  a1 : Rat := 0
  a2 : Rat := 0
  deriving DecidableEq, Repr

/-- Write the coefficients of section `s` of cascade `c` into both banks. -/
def putCoefs (c s : Nat) (k : Coefs) (d : Dev) : Dev :=
  bothBanks 0x2100 (16 * c + s) (packElems [coefCode k.b0, coefCode k.b1, coefCode k.b2, coefCode k.a1, coefCode k.a2]) d

/-- Write the input weights of cascade `c` into both banks. -/
def putWeights (c : Nat) (ws : List Rat) (d : Dev) : Dev :=
  bothBanks 0x2103 c (packElems ((List.range 4).map (fun k => coefCode (ws.getD k 0)))) d

/-- Write the flags of a section into both banks: INTEG bit 0, POL bit 1. -/
def putFlags (c s v : Nat) (d : Dev) : Dev := bothBanks 0x2102 (16 * c + s) v d

/-- Write the input exponent of a section into both banks. -/
def putExp (c s : Nat) (e : Int) (d : Dev) : Dev := bothBanks 0x2101 (16 * c + s) (ofInt 32 e) d

/-- The smallest exponent e ≥ 0 for which every weight divided by 2^e fits ±8 (R188). -/
def fitExp (ws : List Rat) (fuel e : Nat) : Nat :=
  match fuel with
  | 0 => e
  | fuel + 1 => if ws.all (fun w => absR w ≤ 8 * pow2 e) then e else fitExp ws fuel (e + 1)

/-- Write the coefficients of section `s` of cascade `c` with the smallest exponent e ≥ 0 for which its numerator fits
±8, as R188 sets an exponent: the exponent is what lets a section realise a larger gain (R70).
Log entry 161 (DEDUCED). -/
def putFit (c s : Nat) (k : Coefs) (d : Dev) : Dev :=
  let e := fitExp [k.b0, k.b1, k.b2] 7 0
  putExp c s e (putCoefs c s { k with b0 := k.b0 / pow2 e, b1 := k.b1 / pow2 e, b2 := k.b2 / pow2 e } d)

/-- Write the states of section 0 of cascade `c`, in fabric units; an evaluation that runs completes on the old values
and then leaves these. -/
def putStates (c : Nat) (s1 s2 : Rat) (d : Dev) : Dev :=
  let st : SecState := ⟨sat40 (roundAway (s1 * 2147483648)), sat40 (roundAway (s2 * 2147483648))⟩
  modCas c (fun x => { x with states := tput {} 0 st x.states,
                              job := x.job.map (fun j => { j with states := tput {} 0 st j.states }) }) d

/-- Configure owned cascade `c` (R173, R587): sources, trigger, priority, the rate of its trigger input `i`, no dest, a
pass-through section, and the factory value of what the table does not name. A cascade that was not enabled starts as R74
says. -/
def ownCas (c : Nat) (srcs : List Nat) (trig prio i : Nat) (d : Dev) : Dev :=
  let r := outRate d i
  let rate := if inScan d i then max 1 (r.floor.toNat) else 1
  let d1 := if casOn d c then d else casEnable c d
  let d2 := (List.range 4).foldl (fun e k => setPrm 0x2012 (4 * c + k) (srcs.getD k 0) e) d1
  let d3 := [0x2016, 0x2017, 0x2019, 0x201A, 0x2200, 0x2205].foldl (fun e pid => setPrm pid c (factory pid c) e) d2
  putFlags c 0 0 (putExp c 0 0 (putCoefs c 0 {}
    ([(0x2010, 1), (0x2011, 1), (0x2013, trig), (0x2014, prio), (0x2015, rate), (0x2018, 0)].foldl
      (fun e kv => setPrm kv.1 c kv.2 e) d3)))

/-- Give cascades `a`, …, `a + n − 1` back: they are disabled and their words take their factory values. -/
def releaseCas (a n : Nat) (d : Dev) : Dev :=
  forAll n (fun k e =>
    let c := a + k
    let e1 := [0x2010, 0x2011, 0x2013, 0x2014, 0x2015, 0x2016, 0x2017, 0x2018].foldl
      (fun x pid => setPrm pid c (factory pid c) x) e
    let e2 := (List.range 4).foldl (fun x j => setPrm 0x2012 (4 * c + j) 0 x) e1
    let e3 := (bankKeys c).foldl (fun x kk => bothBanks kk.1 kk.2 (factory kk.1 kk.2) x) e2
    { e3 with fil := { e3.fil with cas := tdel c e3.fil.cas } }) d

/-! ### Sections (R177, R192, R194, R195) -/

/-- tan(ω·T/2) for frequency `f` and rate `r`, by which Tustin's method is prewarped. Log entry 72 (DEDUCED). -/
def warp (f r : Rat) : Rat := Config.tan (Config.pi * f / r)

/-- Band-pass and low-pass sections of e+0 to e+3 (R177). Log entry 72 (DEDUCED). -/
def bandPass (k a : Rat) : Coefs :=
  let q := 1 + k * a + a * a
  { b0 := k * a / q, b1 := 0, b2 := -(k * a / q), a1 := 2 * (a * a - 1) / q, a2 := (1 - k * a + a * a) / q }
/-- Log entry 72 (DEDUCED). -/
def lowPass (k a : Rat) : Coefs :=
  let q := 1 + k * a + a * a
  { b0 := k * a * a / q, b1 := 2 * (k * a * a) / q, b2 := k * a * a / q, a1 := 2 * (a * a - 1) / q,
    a2 := (1 - k * a + a * a) / q }

/-- The undamped resonator of e+8 and e+9 (R195). Log entry 72 (DEDUCED). -/
def resonator (f r : Rat) : Coefs := { b0 := 0, a1 := -2 * Config.cosDeg (360 * f / r), a2 := 1 }

/-- The virtual admittance of e+10 and e+11 (R195), by Tustin's method, scaled to per-leg current over `m` bridges.
Log entries 72 (DEDUCED), 161 (DEDUCED). -/
def admittance (d : Dev) (r : Rat) (m : Nat) : Coefs :=
  let rv := (prm d 0x5074 0 : Rat) / 1000
  let q := 2 * r * ((prm d 0x5075 0 : Rat) / 1000) / (2 * Config.pi * fBase d)
  let share : Rat := if m = 0 ∨ iFs d = 0 then Config.idleShare else iBase d / (m : Nat) / iFs d
  let k := uFs d / vBase d * share
  { b0 := k / (rv + q), b1 := k / (rv + q), a1 := (rv - q) / (rv + q) }

/-- The DC-link controller of R194: error in pu of the setpoint, output with 1.0 equal to 2 pu.
Log entry 72 (DEDUCED). -/
def dcSection (d : Dev) (r : Rat) : Coefs :=
  let k := prmF d 0x5053 0 * (fullScale d (prm d 0x5013 0) / ((prm d 0x5051 0 : Rat) / 10)) / 2
  let h := (prm d 0x5054 0 : Rat) / (2 * r)
  { b0 := k * (1 + h), b1 := k * (h - 1), a1 := -1 }

/-- Sections of an AC current loop (R192) at rate `r` and tracked frequency `f`, with load interval and scan delay
giving the lead `lag` in seconds. Log entry 72 (DEDUCED). -/
def loopSections (d : Dev) (f r lag : Rat) : List Coefs :=
  let kp := prmF d 0x5043 0
  let a := warp f r
  let w := 2 * Config.pi * f
  let g := 2 * (prm d 0x5044 0 : Rat) * a / (w * (1 + a * a))
  let p := 2 * (a * a - 1) / (1 + a * a)
  let s0 : Coefs := { b0 := kp + g, b1 := kp * p, b2 := kp - g, a1 := p, a2 := 1 }
  let e := Config.exp (-(2 * Config.pi * (prm d 0x5045 0 : Rat) / r))
  let s1 : Coefs := { b0 := 1 - e, a1 := -e }
  let hs := ((List.range 8).filter (fun j => prm d 0x5040 j ≠ 0)).map (fun j =>
    let h : Rat := (prm d 0x5040 j : Rat)
    let kh : Rat := (prm d 0x5041 j : Rat)
    let wh := h * w
    let ph := 360 * h * f * lag
    let ah := warp (h * f) r
    let bb := 2 * kh * Config.cosDeg ph / wh * ah
    let cc := (1 - 2 * kh * Config.sinDeg ph / wh) * ah * ah
    let q := 1 + ah * ah
    ({ b0 := (1 + bb + cc) / q, b1 := (2 * cc - 2) / q, b2 := (1 - bb + cc) / q,
       a1 := 2 * (ah * ah - 1) / q, a2 := 1 } : Coefs))
  s0 :: s1 :: hs

/-- The lead time 1.5·L − d of R192 for loop `c`, in seconds. Log entry 72 (DEDUCED). -/
def loopLag (d : Dev) (c : Nat) : Rat :=
  let l : Rat := match destLeg d c with
    | some n => (prm d 0x3104 n : Rat) / (if prm d 0x3107 n = 1 then 2 else 1)
    | none => 0
  let dl : Rat := match loopAin d c with
    | some i => (prm d 0x1004 (i / 14) : Rat)
    | none => 0
  (3 * l / 2 - dl) / 400000000

/-- The number of harmonic orders in use. Log entry 73 (DEDUCED). -/
def orders (d : Dev) : Nat := ((List.range 8).filter (fun j => prm d 0x5040 j ≠ 0)).length

/-- Write the sections that the device owns in AC current loop `c` at frequency `f` (R192). -/
def putLoop (f : Rat) (c : Nat) (d : Dev) : Dev :=
  let ks := loopSections d f (prm d 0x2015 c) (loopLag d c)
  (ks.zipIdx).foldl (fun e (k, s) => putFlags c s (if s = 1 then 0 else 1) (putFit c s k e))
    (setPrm 0x2011 c (2 + orders d) d)

/-- Tracked frequency, from grid.base.f on (R178). -/
def fNow (d : Dev) : Rat := if d.gs.fEst = 0 then fBase d else d.gs.fEst

/-- The rate of the voltage inputs in Hz; 1 while the input is in no scan (R587). -/
def ucRate (d : Dev) : Rat := if inScan d (prm d 0x5012 0) then outRate d (prm d 0x5012 0) else 1

/-- Retune the sections that follow the tracked frequency (R181). The oscillators run at `fo`.
Log entry 73 (DEDUCED). -/
def putTuned (f fo : Rat) (d : Dev) : Dev :=
  let e := gsE d
  let k := (prm d 0x5020 0 : Rat) / 1000
  let a := warp f (ucRate d)
  let d1 := putCoefs e 0 (bandPass k a) (putCoefs (e + 1) 0 (lowPass k a)
    (putCoefs (e + 2) 0 (bandPass k a) (putCoefs (e + 3) 0 (lowPass k a) d)))
  let d2 := putCoefs (e + 8) 0 (resonator fo (ucRate d)) (putCoefs (e + 9) 0 (resonator fo (ucRate d)) d1)
  if prm d 0x5042 0 = 1 then (acLoops d).foldl (fun x c => putLoop f c x) d2 else d2

/-! ### The synthesis write (R175, R188 to R191) -/

/-- The mean of a list of ages in ticks. -/
def meanNat (xs : List Nat) : Rat := if xs = [] then 0 else (xs.foldl (· + ·) 0 : Nat) / (xs.length : Nat)
def meanRat (xs : List Rat) : Rat := if xs = [] then 0 else xs.foldl (· + ·) 0 / (xs.length : Nat)

/-- A_s and A_G of R190 in ticks. -/
def ageOf (d : Dev) (s : Nat) : Rat := meanRat (tget [] d.gs.ageHist s)
def ageG (d : Dev) : Rat := meanRat d.gs.ageGHist

/-- δ in degrees for an age in ticks. -/
def advance (d : Dev) (a : Rat) : Rat := 360 * fNow d * a / 400000000

/-- A row of a 2×2 matrix times Rot(δ). -/
def rowRot (x y deg : Rat) : Rat × Rat :=
  (x * Config.cosDeg deg + y * Config.sinDeg deg, y * Config.cosDeg deg - x * Config.sinDeg deg)

/-- The factor by which R188 reduces kp and kq, so that the reference amplitude stays within gs.i.lim. -/
def refScale (d : Dev) : Rat :=
  if d.gs.landM = 0 ∨ d.gs.landVf = 0 ∨ iFs d = 0 ∨ uFs d = 0 then 1
  else
    let k := 2 * sBase d / (3 * uFs d * iFs d * d.gs.landVf * (d.gs.landM : Nat))
    let amp := k * Config.sqrt ((d.gs.landP * d.gs.landP + d.gs.landQ * d.gs.landQ) * d.gs.landVf)
    let lim := fab (limCode d)
    if lim < amp then lim / amp else 1

/-- kp and kq for the powers that land (R188), held so that the reference amplitude stays within gs.i.lim; the flag
says that the clamp reduced them. With no voltage the spec states no value: they are free. -/
def gains (d : Dev) : (Rat × Rat × Bool) × Dev :=
  let p := d.gs.landP
  let q := d.gs.landQ
  if d.gs.landM = 0 ∨ p = 0 ∧ q = 0 then ((0, 0, false), d)
  else if d.gs.landVf = 0 ∨ iFs d = 0 ∨ uFs d = 0 then
    ((Config.freeRat d.free, Config.freeRat (d.free + 1), false), { d with free := d.free + 2 })
  else
    let k := 2 * sBase d / (3 * uFs d * iFs d * d.gs.landVf * (d.gs.landM : Nat))
    let r := refScale d
    ((k * p * r, k * q * r, decide (r ≠ 1)), d)

/-- Write the weights of A(s), B(s) and P(s,x) of set `s` (R188, R189). -/
def putSet (kp kq : Rat) (s : Nat) (d : Dev) : Dev :=
  let b := gsBase d
  let n := gsSets d
  let dl := advance d (ageOf d s)
  let dg := dl + advance d (ageG d)
  let a0 := rowRot kp kq dl
  let b0 := rowRot (-kq) kp dl
  let a1 := rowRot d.gs.gd (-d.gs.gq) (-dl)
  let b1 := rowRot d.gs.gq d.gs.gd (-dl)
  let wa := [a0.1, a0.2, a1.1, a1.2]
  let wb := [b0.1, b0.2, b1.1, b1.2]
  let e := fitExp (wa ++ wb) 7 0
  let put := fun (c : Nat) (ws : List Rat) (x : Dev) => putExp c 0 e (putWeights c (ws.map (fun w => w / pow2 e)) x)
  let d1 := put (b + 3 * n + 2 * s) wa (put (b + 3 * n + 2 * s + 1) wb d)
  let mf : Rat := if d.gs.forming then 0 else 1
  let mg : Rat := if d.gs.forming then 1 else 0
  let h := Config.sqrt 3 / 2
  let lim := limCode d
  ([((1 : Rat), (0 : Rat)), (-1 / 2, h), (-1 / 2, -h)].zipIdx).foldl (fun x (cx, ph) =>
    let g := rowRot cx.1 cx.2 dg
    let c := b + 3 * s + ph
    setPrm 0x2016 c (ofInt 32 lim) (setPrm 0x2017 c (ofInt 32 (-lim))
      (putWeights c [mf * cx.1, mf * cx.2, mg * g.1, mg * g.2] x))) d1

/-- Build the cascades of grid synthesis (R173): at a start and when their set-up lands. A, B and P
start with the weights of no power (R188, R189). -/
def buildGs (d : Dev) : Dev :=
  let b := gsBase d
  let s := gsSets d
  let e := gsE d
  let ua := 0x1000 + prm d 0x5010 0
  let ub := 0x1000 + prm d 0x5011 0
  let uci := prm d 0x5012 0
  let uc := 0x1000 + uci
  let k := fun (n : Nat) => 0x2000 + n
  let r3 := 1 / Config.sqrt 3
  let d1 := forAll s (fun j x =>
    let aS := k (b + 3 * s + 2 * j)
    let bS := k (b + 3 * s + 2 * j + 1)
    let x1 := forAll 3 (fun ph y => ownCas (b + 3 * j + ph) [aS, bS, k (e + 10), k (e + 11)] 3 2 uci y) x
    let seqs := [k (e + 4), k (e + 5), k (e + 6), k (e + 7)]
    ownCas (b + 3 * s + 2 * j) seqs 15 2 uci (ownCas (b + 3 * s + 2 * j + 1) seqs 15 2 uci x1)) d
  let own := fun (n : Nat) (srcs : List Nat) (ws : List Rat) (trig prio : Nat) (x : Dev) =>
    putWeights (e + n) ws (ownCas (e + n) srcs trig prio uci x)
  let d2 := own 0 [ua, ub, uc] [2 / 3, -1 / 3, -1 / 3] 4 2 (own 1 [ua, ub, uc] [2 / 3, -1 / 3, -1 / 3] 4 2 d1)
  let d3 := own 2 [ub, uc] [r3, -r3] 2 2 (own 3 [ub, uc] [r3, -r3] 2 2 d2)
  let d4 := own 4 [k e, k (e + 3)] [1 / 2, -1 / 2] 3 2 (own 5 [k (e + 1), k (e + 2)] [1 / 2, 1 / 2] 3 2 d3)
  let d5 := own 6 [k e, k (e + 3)] [1 / 2, 1 / 2] 3 2 (own 7 [k (e + 1), k (e + 2)] [-1 / 2, 1 / 2] 3 2 d4)
  let d6 := own 8 [uc] [0] 1 1 (own 9 [uc] [0] 1 1 d5)
  let d7 := own 10 [k (e + 8), k e] [1, -1] 1 1 (own 11 [k (e + 9), k (e + 2)] [1, -1] 1 1 d6)
  let vdc := prm d 0x5013 0
  let d8 := putWeights (e + 12) [1, -1] (ownCas (e + 12) [0x3000, 0x1000 + vdc] 2 1 vdc d7)
  let lim := unfab ((prm d 0x5055 0 : Rat) / 200)
  let d9 := setPrm 0x2016 (e + 12) (ofInt 32 lim) (setPrm 0x2017 (e + 12) (ofInt 32 (-lim)) d8)
  let d10 := setPrm 0x2200 (e + 12) 0 (setSp (e + 12) (toCode d9 vdc ((prm d 0x5051 0 : Rat) / 10)) d9)
  let vr := if inScan d vdc then outRate d vdc else 1
  let d11 := putFlags (e + 12) 0 1 (putFit (e + 12) 0 (dcSection d vr) d10)
  let d12 := { d11 with gs := { d11.gs with fTune := fNow d } }
  let ka := admittance d12 (ucRate d12) 0
  let d13 := putFit (e + 10) 0 ka (putFit (e + 11) 0 ka d12)
  forAll s (putSet 0 0) (putTuned (fNow d) (fNow d) d13)

/-- The origin of the next voltage result at or after the present tick: the last one and whole sample periods. -/
def nextUc (d : Dev) : Rat :=
  let s : Rat := ((ain d (prm d 0x5012 0)).res.stamp : Nat)
  let p := 400000000 / ucRate d
  s + p * (((d.t : Rat) - s) / p).ceil

/-- Write the forming oscillators so that they continue E, which is given for the tick of the write (R195, R196).
Log entry 73 (DEDUCED). -/
def putOsc (d : Dev) : Dev :=
  let e := gsE d
  let f := if d.gs.fE = 0 then fNow d else d.gs.fE
  let th := d.gs.eTh + 360 * f * (nextUc d - (d.gs.wrT : Rat)) / 400000000
  let back := th - 360 * f / ucRate d
  let m := d.gs.eMag * vBase d / uFs d
  let k := resonator f (ucRate d)
  putStates (e + 8) (m * Config.cosDeg th) (-(m * Config.cosDeg back))
    (putStates (e + 9) (m * Config.sinDeg th) (-(m * Config.sinDeg back))
      (putCoefs (e + 8) 0 k (putCoefs (e + 9) 0 k d)))

/-- The states that let a section with steady input `x` and output `y` at the next sample, and `x0`, `y0` at this one,
go on (R217). -/
def steady (c : Nat) (k : Coefs) (x y x0 y0 : Rat) (d : Dev) : Dev :=
  putStates c (y - k.b0 * x) (k.b2 * x0 - k.a2 * y0) d

/-- Re-seed e+0 to e+3 from the raw αβ vector `v` of the detection tick (R217). -/
def putReseed (v : Vec) (d : Dev) : Dev :=
  let e := gsE d
  let f := fNow d
  let k := (prm d 0x5020 0 : Rat) / 1000
  let a := warp f (ucRate d)
  let m := vabs v
  let th := varg v + 360 * f * (nextUc d - (d.gs.reseedT : Rat)) / 400000000
  let t0 := th - 360 * f / ucRate d
  let c := Config.cosDeg
  let s := Config.sinDeg
  let bp := bandPass k a
  let lp := lowPass k a
  steady e bp (m * c th) (m * c th) (m * c t0) (m * c t0)
    (steady (e + 1) lp (m * c th) (m * s th) (m * c t0) (m * s t0)
      (steady (e + 2) bp (m * s th) (m * s th) (m * s t0) (m * s t0)
        (steady (e + 3) lp (m * s th) (-(m * c th)) (m * s t0) (-(m * c t0)) d)))

/-- The synthesis write of a tick (R175): the weights of every set, a retune that is due to the frequency it recorded, the
oscillators, the virtual admittance for the bridges in force, and the re-seed of an earlier tick (R217). -/
def synthWrite (d : Dev) : Dev :=
  let ((kp, kq, clamped), d1) := gains d
  let d2 := forAll (gsSets d1) (putSet kp kq) d1
  let d3 := if d2.gs.retuneDue then
    putTuned d2.gs.fTune (if d2.gs.forming then d2.gs.fE else d2.gs.fTune) d2 else d2
  let d4 := putOsc d3
  let ka := admittance d4 (ucRate d4) d4.gs.landM
  let d5 := putFit (gsE d4 + 10) 0 ka (putFit (gsE d4 + 11) 0 ka d4)
  let d6 := match d5.gs.reseed with
    | some v => if d5.gs.reseedT < d5.gs.wrT then
        (let e := putReseed v d5
         { e with gs := { e.gs with reseed := none } }) else d5
    | none => d5
  { d6 with gs := { d6.gs with retuneDue := false, deferred := false },
            charm := { d6.charm with clip := d6.charm.clip || (clamped && d6.charm.active) } }

/-- What the synthesis write of the present tick is to write, with the mode weights `m` that land with it. -/
def dueNow (m : Auto) (d : Dev) : SynthDue :=
  let g := d.gs
  { t := d.t, landP := g.landP, landQ := g.landQ, landM := g.landM, landVf := g.landVf, gd := g.gd, gq := g.gq,
    forming := g.forming, eMag := g.eMag, eTh := g.eTh, fE := g.fE, fTune := g.fTune, retuneDue := g.retuneDue, mode := m }

/-- The device's own synthesis writes at an epoch tick: while a replay holds legs they wait for its end (R176), with the
mode weights `m` that were to land. -/
def ownWrites (m : Auto) (d : Dev) : Dev :=
  if rplHolds d then
    { d with gs := { d.gs with deferred := true, deferF := true, retuneDue := false, due := dueNow m d } }
  else synthWrite { d with gs := { d.gs with wrT := d.t } }

/-- The values of the deferred write take the place of the present ones. -/
def takeSynth (w : SynthDue) (d : Dev) : Dev :=
  { d with gs := { d.gs with
      wrT := w.t, landP := w.landP, landQ := w.landQ, landM := w.landM, landVf := w.landVf, gd := w.gd, gq := w.gq,
      forming := w.forming, eMag := w.eMag, eTh := w.eTh, fE := w.fE, fTune := w.fTune, retuneDue := w.retuneDue } }

/-- The deferred write `w` lands, and the values of the present tick stand again (R176). -/
def lateWrite (w : SynthDue) (d : Dev) : Dev :=
  let now := dueNow .none d
  let wr := d.gs.wrT
  let d1 := takeSynth now (synthWrite (takeSynth w d))
  { d1 with gs := { d1.gs with wrT := wr } }

/-! ### The estimator (R178 to R181) -/

/-- Control runs as in RUN: RUN itself, and SERVICE that returns to RUN (R27). -/
def runLike (d : Dev) : Bool := d.sys.st = .run || (d.sys.st = .service && d.sys.svcRet = .run)

/-- The owned cascades and the tracker run from READY to SERVICE, DOZE apart (R179). -/
def tracks (d : Dev) : Bool :=
  match d.sys.st with
  | .ready | .sync | .run | .ride | .form | .trip | .service => true
  | _ => false

/-- A parameter that counts thousandths, hundredths or tenths. -/
def milli (d : Dev) (pid : Nat) : Rat := (prm d pid 0 : Rat) / 1000
def centi (d : Dev) (pid : Nat) : Rat := (prm d pid 0 : Rat) / 100
def deci (d : Dev) (pid : Nat) : Rat := (prm d pid 0 : Rat) / 10

/-- The tracker at an epoch tick (R178). While v+α or v+β carries VALID = 0 its value is absent (R37): the prediction runs
on, and V+ and V− keep their last values. Log entry 70 (DEDUCED). -/
def estimate (d : Dev) : Dev :=
  let e := gsE d
  let f0 := fNow d
  let a := (cas d (e + 4)).out
  let b := (cas d (e + 5)).out
  let fwin := centi d 0x5027
  if a.valid ∧ b.valid ∧ casOn d (e + 4) then
    let x := fab a.value
    let y := fab b.value
    let vf2 := x * x + y * y
    let thm := Config.atan2Deg y x + turn f0 ((d.t : Int) - (a.origin : Int))
    let pred := mod360 (d.gs.thPred.getD thm)
    let err := wrap180 (thm - pred)
    let wt := 2 * Config.pi * deci d 0x5021 / 1000
    let est := pred + 2 * (707 / 1000) * wt * err
    let f := clampR (fBase d - fwin) (fBase d + fwin) (f0 + wt * wt * err * 1000 / 360)
    let n := (cas d (e + 6)).out
    let o := (cas d (e + 7)).out
    let k := uFs d / vBase d
    { d with gs := { d.gs with
        fEst := f, thBefore := d.gs.thNow, thNow := pred, thEst := est, thPred := some (est + 360 * f / 1000),
        thM := thm, err := err, vf2 := vf2, vMag := Config.sqrt vf2 * k, vValid := true, vPos := ⟨x, y⟩,
        vNeg := ⟨fab n.value, fab o.value⟩,
        nMag := Config.sqrt (fab n.value * fab n.value + fab o.value * fab o.value) * k } }
  else
    { d with gs := { d.gs with
        fEst := f0, thBefore := d.gs.thNow, thNow := mod360 (d.gs.thPred.getD 0),
        thPred := d.gs.thPred.map (fun p => mod360 p + 360 * f0 / 1000),
        err := 0, vValid := false } }

/-- LOCK (R179): its run of epochs, its loss, and EV_GSLOCK at each change. An epoch without valid outputs is not judged
(R37, R517). Log entry 70 (DEDUCED). -/
def lockStep (d : Dev) : Dev :=
  if ¬ d.gs.vValid then d else
  let g := d.gs
  let fwin := centi d 0x5027
  let inside := fBase d - fwin < g.fEst ∧ g.fEst < fBase d + fwin
  let low := g.vMag < milli d 0x5022
  let good := absR g.err ≤ deci d 0x5023 ∧ ¬ low ∧ inside
  let bad := deci d 0x5025 < absR g.err
  let lr := if good then g.lockRun + 1 else 0
  let ur := if bad then g.unlockRun + 1 else 0
  let d1 := { d with gs := { g with lockRun := lr, unlockRun := ur } }
  if g.lock then
    if 2 ≤ ur ∨ low then raise 56 0 [0] { d1 with gs := { d1.gs with lock := false, lockRun := 0 } } else d1
  else if prm d 0x5024 0 ≤ lr then
    raise 56 0 [1] { d1 with gs := { d1.gs with lock := true, everLock := true, unlockRun := 0 } }
  else d1

/-- The raw αβ vector at the tick and the phase jump (R180). Log entry 70 (DEDUCED). -/
def rawStep (d : Dev) : Dev :=
  let a := (ain d (prm d 0x5010 0)).res
  let b := (ain d (prm d 0x5011 0)).res
  let c := (ain d (prm d 0x5012 0)).res
  if a.valid ∧ b.valid ∧ c.valid then
    let x := (2 * fab a.value - fab b.value - fab c.value) / 3
    let y := (fab b.value - fab c.value) / Config.sqrt 3
    let mag := Config.sqrt (x * x + y * y) * uFs d / vBase d
    let ang := Config.atan2Deg y x + turn (fNow d) ((d.t : Int) - (c.stamp : Int))
    let dev := wrap180 (ang - d.gs.thNow)
    { d with gs := { d.gs with
        raw := some ang, rawMag := mag, rawDev := dev, rawVec := polar (Config.sqrt (x * x + y * y)) ang,
        jump := decide (d.gs.thPred.isSome ∧ milli d 0x5022 ≤ mag ∧ deci d 0x5026 < absR dev) } }
  else { d with gs := { d.gs with raw := none, rawMag := 0, rawDev := 0, jump := false } }

/-- A retune becomes due (R181); it lands with the next synthesis write. Log entry 73 (DEDUCED). -/
def retuneStep (d : Dev) : Dev :=
  if milli d 0x5028 < absR (fNow d - d.gs.fTune) then
    { d with gs := { d.gs with fTune := fNow d, retune := true, retuneDue := true } }
  else d

/-- Reference ages at the end of an epoch (R190): their means join the last hundred, and a spread is reported. -/
def ageStep (d : Dev) : Dev :=
  let d1 := forAll 4 (fun s x =>
    let xs := tget [] x.gs.ages s
    if xs = [] then x
    else
      let y := { x with gs := { x.gs with ageHist := tmod [] s (fun h => (meanNat xs :: h).take 100) x.gs.ageHist } }
      if 400 < xs.foldl max 0 - xs.foldl min (xs.headD 0) then
        raiseI 58 s { y with gs := { y.gs with refage := true } }
      else y) d
  { d1 with gs := { d1.gs with
      ages := [], ageG := [],
      ageGHist := if d.gs.ageG = [] then d.gs.ageGHist else (meanNat d.gs.ageG :: d.gs.ageGHist).take 100 } }

/-- EV_LOADMISS, at most once per epoch (R199). Log entry 76 (DEDUCED). -/
def missStep (d : Dev) : Dev :=
  if d.gs.missNow then raiseI 60 0 { d with gs := { d.gs with missNow := false } } else d

/-! ### Power commands (R184 to R187) -/

/-- Point `p` gives a dispatch value: it is valid and not older than 100 ms. -/
def dispatchOk (d : Dev) (p : Nat) : Bool :=
  let x := point d p
  x.valid && !x.stale && decide (tNs d - x.tNs < 100000000)

/-- The dispatch targets that the epoch takes (R184); a point that is missing or stale leaves the last one. -/
def dispatchStep (d : Dev) : Dev :=
  let src := prm d 0x5030 0
  let pp := prm d 0x5032 0
  let qp := prm d 0x503C 0
  let pOk := src = 0 || dispatchOk d pp
  let qOk := src = 0 || dispatchOk d qp
  let p := if src = 0 then prmQ d 0x5031 0 10000 else f32 (point d pp).value
  let q := if src = 0 then prmQ d 0x5034 0 10000 else f32 (point d qp).value
  { d with gs := { d.gs with
      pSet := if pOk then p else d.gs.pSet, qSet := if qOk then q else d.gs.qSet, pf := prmQ d 0x5035 0 1000,
      pStale := d.gs.pStale && !pOk, qStale := d.gs.qStale && !qOk } }

/-- Move `x` towards `y` by at most `r`. Log entry 74 (DEDUCED). -/
def towards (x y r : Rat) : Rat := if x < y then minR y (x + r) else maxR y (x - r)

/-- Charm has been without network time for charm.notime.t, and charm.notime.act selects `a` (R242). -/
def noTimeActs (d : Dev) (a : Nat) : Bool := prm d 0x6000 0 = 1 && !d.charm.timeOk && d.charm.noTimeDone && prm d 0x6031 0 = a

/-- The dispatch target inside the range that the Setter publishes (R186, R293), and inside the ceiling without network
time (R242). Log entry 74 (DEDUCED). -/
def pTarget (d : Dev) : Rat :=
  let hi : Rat := (d.setr.pHi : Rat) / 10000
  let lo : Rat := (d.setr.pLo : Rat) / 10000
  let x := minR hi (maxR lo d.gs.pSet)
  if noTimeActs d 1 then minR x (centi d 0x6033) else x

/-- The reactive target of R185 for active power `p`. Log entry 74 (DEDUCED). -/
def qTarget (d : Dev) (p : Rat) : Rat :=
  match prm d 0x5033 0 with
  | 0 => d.gs.qSet
  | 1 =>
    let f := d.gs.pf
    let v := absR p * Config.sqrt (1 - f * f) / absR f
    if f < 0 then -v else v
  | _ => centi d 0x5036 * (1 - d.gs.vMag)

/-- The apparent-power limit of R186: the limited pair, and whether it limited. Log entry 74 (DEDUCED). -/
def sLimit (d : Dev) (p q : Rat) : Rat × Rat × Bool :=
  let s := milli d 0x503A
  if p * p + q * q ≤ s * s then (p, q, false)
  else if prm d 0x503B 0 = 0 then
    let r := Config.sqrt (maxR (s * s - p * p) 0)
    (clampR (-s) s p, if q < 0 then -r else r, true)
  else
    let r := Config.sqrt (maxR (s * s - q * q) 0)
    (if p < 0 then -r else r, clampR (-s) s q, true)

/-- The commands of an epoch go to the S limit and are handed to R188 to land at the next tick, with the probe of R235
on top; EV_SLIMIT once per entry into the limit. -/
def landCommands (p q : Rat) (d : Dev) : Dev :=
  let (p1, q1, lim) := sLimit d p q
  let d1 := { d with gs := { d.gs with
    pCmd := p1, qCmd := q1, slim := lim, landP := p1, landQ := q1 + d.charm.eNext, landM := mOn d, landVf := d.gs.vf2 } }
  if lim ∧ ¬ d.gs.slim then raiseI 57 0 d1 else d1

/-- The AC side holds the DC link: mode 0, or mode 1 without any battery string (R186, R294).
Log entry 126 (DEDUCED). -/
def linkOnAc (d : Dev) : Bool := prm d 0x5050 0 = 0 || (prm d 0x5050 0 = 1 && d.setr.nobat)

/-- The power commands of RUN, FORM and SERVICE from RUN (R186, R187): the ramps, the DC-link correction and the limit. A
SYNC request ramps both to 0. Log entry 74 (DEDUCED). -/
def powerStep (d : Dev) : Dev :=
  let stop := d.sys.auto = .runToSync
  let tgt := if stop then 0 else pTarget d
  let up := if d.rt.pramp then centi d 0x5136 else milli d 0x5037
  let pr := towards d.gs.pR tgt ((if d.gs.pR < tgt then up else milli d 0x5038) / 1000)
  let p := if linkOnAc d then pr - d.gs.dcOut else pr
  let qt := if stop then 0 else qTarget d p
  let q := towards d.gs.qCmd qt (milli d 0x5039 / 1000)
  let d1 := { d with gs := { d.gs with pTgt := tgt, qTgt := qt, pR := pr, ramping := decide (pr ≠ tgt ∨ q ≠ qt),
                                       gd := 0, gq := 0 },
                     rt := { d.rt with pramp := d.rt.pramp && decide (pr ≠ tgt) } }
  landCommands p q d1

/-- Outside RUN, RIDE and FORM the weights of A and B are 0 (R187). -/
def powerOff (d : Dev) : Dev := zeroPower { d with gs := { d.gs with landM := mOn d } }

/-- The DC-link controller's output at the tick, in pu: 1.0 is 2 pu (R194). Log entry 74 (DEDUCED). -/
def dcSample (d : Dev) : Dev := { d with gs := { d.gs with dcOut := 2 * fab (cas d (gsE d + 12)).out.value } }

/-- The DC link is within its band (R187). -/
def linkInBand (d : Dev) : Bool :=
  let i := prm d 0x5013 0
  let v : Rat := ((ain d i).res.value : Rat) * prmF d 0x1104 i
  let s := deci d 0x5051
  (ain d i).res.valid && decide (absR (v - s) ≤ s * deci d 0x5052 / 100)

/-- Grid voltage is present (R179). Log entry 70 (DEDUCED). -/
def gridPresent (d : Dev) : Bool := d.gs.vValid && decide (milli d 0x5022 ≤ d.gs.vMag)

/-! ### Forming (R195 to R198) -/

/-- The current phasor that the weights of the F path command, in pu: the conjugate of S over that of V+, with the probe
and within the current limit (R188, R195, R235). -/
def iCommanded (d : Dev) : Vec :=
  let v := d.gs.vMag
  let r := refScale d
  if v = 0 then {} else vmul ⟨d.gs.landP * r / v, -(d.gs.landQ * r / v)⟩ (polar 1 d.gs.thM)

/-- An entry into FORM has been found or asked for, so that its E is kept (R197). -/
def formStaged (d : Dev) : Bool := match d.sys.auto with
  | .formByRequest => true
  | .formAuto _ => true
  | _ => false

/-- Outside FORM the oscillators follow E = V+ + Z_v·I_cmd, continued to the next tick (R195); the E of an epoch with
LOCK = 1 is kept for an entry (R197). -/
def followE (d : Dev) : Dev :=
  let e := vadd (polar d.gs.vMag d.gs.thM) (vmul ⟨milli d 0x5074, milli d 0x5075⟩ (iCommanded d))
  let f := fNow d
  let g := { d.gs with eMag := vabs e, eTh := varg e + 360 * f / 1000, fE := f }
  { d with gs := if d.gs.lock && !formStaged d then { g with goodE := e, goodF := f, goodT := d.t } else g }

/-- The G-path current as a phasor at the tick, in pu of the block. -/
def gCurrent (d : Dev) : Vec :=
  let a := (cas d (gsE d + 10)).out
  let b := (cas d (gsE d + 11)).out
  let x := fab a.value
  let y := fab b.value
  let k := iFs d * (mOn d : Nat) / iBase d
  polar (Config.sqrt (x * x + y * y) * k) (Config.atan2Deg y x + turn d.gs.fE ((d.t : Int) - (a.origin : Int)))

/-- The measured powers of the epoch (R196, R202): in FORM from V+ and the G-path current; elsewhere the spec does not
say how they are measured, so they are free values. Log entries 70 (DEDUCED), 77 (DESIGN CHOICE). -/
def measure (d : Dev) : Dev :=
  if d.gs.forming then
    let i := gCurrent d
    let v := polar d.gs.vMag d.gs.thM
    { d with gs := { d.gs with pMeas := v.re * i.re + v.im * i.im, qMeas := v.im * i.re - v.re * i.im } }
  else
    { d with free := d.free + 2,
             gs := { d.gs with pMeas := Config.freeRat d.free, qMeas := Config.freeRat (d.free + 1) } }

/-- The swing law of R196. Log entry 76 (DEDUCED). -/
def swing (d : Dev) : Dev :=
  let g := d.gs
  let pref := if linkOnAc d then g.pR - g.dcOut else g.pR
  let df := g.df + (1 / 1000) / (2 * deci d 0x5071) * (pref - g.pMeas - (prm d 0x5072 0 : Rat) * g.df)
  let fwin := centi d 0x5027
  let f := clampR (fBase d - fwin) (fBase d + fwin) (fBase d * (1 + df))
  { d with gs := { g with df := df, fE := f, eTh := mod360 (g.eTh + 360 * f / 1000),
                          eMag := clampR (1 / 2) (6 / 5) (g.e0 + centi d 0x5073 * (g.qTgt - g.qMeas)) } }

/-- The forming weights of tick `k` land (R197): E of the epoch kept, advanced at its frequency.
Log entry 76 (DEDUCED). -/
def formLand (cause k : Nat) (d : Dev) : Dev :=
  let g := d.gs
  let th := varg g.goodE + turn g.goodF ((k : Int) - (g.goodT : Int))
  transition .form cause { d with gs := { g with
    forming := true, e0 := vabs g.goodE, eMag := vabs g.goodE, eTh := th, fE := fNow d,
    df := fNow d / fBase d - 1, gd := 0, gq := 0, okSince := none } }

/-- The end of FORM is staged (R198): with the P and Q of the epoch in which it is found or asked for.
Log entry 76 (DEDUCED). -/
def stageExit (cause : Nat) (d : Dev) : Dev :=
  { d with sys := { d.sys with auto := .formExit cause },
           gs := { d.gs with exitP := d.gs.pMeas, exitQ := d.gs.qMeas } }

/-- The following weights land at this tick (R198): P_r and Q_cmd take the P and Q kept, and after cause 0x14 the ramp of
R218 runs in RUN. Log entry 76 (DEDUCED). -/
def formLeave (cause : Nat) (d : Dev) : Dev :=
  let g := d.gs
  transition .run cause { d with
    gs := { g with forming := false, pR := g.exitP, qCmd := g.exitQ, landP := g.exitP, landQ := g.exitQ,
                   landM := mOn d, landVf := g.vf2, okSince := none },
    rt := { d.rt with pramp := decide (cause = 0x14) } }

/-! ### Points (R202) -/

/-- Device points of grid synthesis, updated at every epoch tick. Log entry 77 (DESIGN CHOICE). -/
def gsPoints (d : Dev) : Dev :=
  let g := d.gs
  let xs : List Rat := [fNow d, g.vMag, g.nMag, mod360 g.thM, g.pMeas, g.qMeas, g.pCmd, g.qCmd, g.eMag,
    if g.fE = 0 then fNow d else g.fE, ageOf d 0, ageOf d 1, ageOf d 2, ageOf d 3, (g.misses : Nat), (mOn d : Nat)]
  (xs.zipIdx).foldl (fun e (x, i) => putF (0x50000 + i) x e) d

/-! ### Commands -/

/-- `GS_SETPOINT_WRITE`: an immediate write of gs.p.set, gs.q.set or gs.q.pf, which acts at the next epoch (R184). -/
def gsSetpoint (pid : Nat) (v : Int) (d : Dev) : Dev :=
  if pid = 0x5031 ∨ pid = 0x5034 ∨ pid = 0x5035 then
    match descOf pid with
    | some ds => if inRange ds (ofInt 32 v) ∧ -2147483648 ≤ v ∧ v < 2147483648 then
        answer 0 0 (setPrm pid 0 (ofInt 32 v) d) else answer 8 pid d
    | none => answer 9 pid d
  else answer 9 pid d

def execGsSetpointWrite (t cls pid : Nat) (v : Int) (s : State) : Host.Outcome State Fault Refusal :=
  lift t (immediate cls 1 (gsSetpoint pid v)) s

/-- `DISPATCH_POINT_STALE`: a dispatch point that supplies a target has been missing or stale for 100 ms: EV_PTSTALE once
(R184). -/
def dispatchStale (d : Dev) : Dev :=
  if prm d 0x5030 0 = 1 then
    let p := !dispatchOk d (prm d 0x5032 0) && !d.gs.pStale
    let q := prm d 0x5033 0 = 0 && !dispatchOk d (prm d 0x503C 0) && !d.gs.qStale
    let d1 := { d with gs := { d.gs with pStale := d.gs.pStale || p, qStale := d.gs.qStale || q } }
    let d2 := if p then raiseI 8 0 d1 else d1
    if q then raiseI 8 0 d2 else d2
  else d

def execDispatchPointStale (t : Nat) (s : State) : Host.Outcome State Fault Refusal := lift t dispatchStale s

end Sys2Proof.Machine
end

