-- ==== Sys2Proof/Machine/Ride.lean ====
section
/-!
DEFINITION. Fault ride-through: regions, timers, entry and exit of RIDE, the must-trip decision and the fault currents
(R203 to R225).
-/
namespace Sys2Proof.Machine

/-! ### Quantities and envelopes (R203, R204) -/

/-- Magnitudes of the three phase-to-neutral or line-to-line voltages from V+ and V−, in pu (R203): phasor x is
V+·e^(−jθx) plus the conjugate of V−·e^(jθx). -/
def phaseMags (d : Dev) : List Rat :=
  let k := uFs d / vBase d
  let p := d.gs.vPos
  let n := d.gs.vNeg
  let h := Config.sqrt 3 / 2
  let rot : List Vec := if prm d 0x5101 0 = 1 then [⟨h, 1 / 2⟩, ⟨-h, 1 / 2⟩, ⟨0, -1⟩] else [⟨1, 0⟩, ⟨-1 / 2, -h⟩, ⟨-1 / 2, h⟩]
  rot.map (fun r => k * vabs (vadd (vmul p r) (vmul ⟨n.re, -n.im⟩ ⟨r.re, -r.im⟩)))

/-- The limits of a table at τ ms (R204): `tp`, `lp`, `hp`, `sp` are its parameters, `n` its number of points and `q` the
counts per unit. -/
def envelope (d : Dev) (tp lp hp sp n q tau : Nat) : Rat × Rat :=
  let i := ((List.range n).filter (fun k => prm d tp k ≤ tau)).getLast?.getD 0
  let lo := fun (k : Nat) => (prm d lp k : Rat) / (q : Nat)
  let hi := fun (k : Nat) => (prm d hp k : Rat) / (q : Nat)
  if i + 1 < n ∧ prm d sp i = 1 then
    let w : Rat := ((tau - prm d tp i : Nat) : Rat) / ((prm d tp (i + 1) - prm d tp i : Nat) : Rat)
    (lo i + w * (lo (i + 1) - lo i), hi i + w * (hi (i + 1) - hi i))
  else (lo i, hi i)

/-- Voltage and frequency envelopes at their timers. -/
def envU (d : Dev) : Rat × Rat := envelope d 0x5111 0x5112 0x5113 0x5114 (prm d 0x5110 0) 1000 d.rt.tauU
def envF (d : Dev) : Rat × Rat := envelope d 0x5121 0x5122 0x5123 0x5124 (prm d 0x5120 0) 100 d.rt.tauF

/-- Inside the continuous region, voltage and frequency. -/
def contU (d : Dev) : Bool := decide (milli d 0x5102 ≤ d.rt.uLo ∧ d.rt.uHi ≤ milli d 0x5103)
def contF (d : Dev) : Bool := decide (centi d 0x5105 ≤ d.rt.f ∧ d.rt.f ≤ centi d 0x5106)

/-- Quantities of R203 at the tick. Log entry 70 (DEDUCED). -/
def rtQuantities (d : Dev) : Dev :=
  let ms := phaseMags d
  let lo := ms.foldl minR (ms.headD 0)
  let hi := ms.foldl maxR (ms.headD 0)
  { d with rt := { d.rt with
      uLo := lo, uHi := hi, f := if d.gs.lock then d.gs.fEst else d.rt.f, known := d.rt.known || d.gs.lock } }

/-- Capture of the values before a fault (R212): means over the last 20 epochs. Log entry 79 (DEDUCED). -/
def capturePre (d : Dev) : Dev :=
  let h := d.rt.hist
  let u := meanRat (h.map (fun x => x.1))
  let p := meanRat (h.map (fun x => if x.1 = 0 then 0 else x.2.1 / x.1))
  let q := meanRat (h.map (fun x => if x.1 = 0 then 0 else x.2.2 / x.1))
  { d with rt := { d.rt with uPre := u, ipPre := p, iqPre := q } }

/-- The timers of R207 at the tick, one epoch after the last: each runs from its first tick outside to the tick of the
return; τ_f pauses without LOCK. A new timer captures the values before it (R212). Log entry 78 (DEDUCED). -/
def timerStep (d : Dev) : Dev :=
  let outU := !contU d
  let pauseF := !d.gs.lock
  let outF := d.rt.known && !contF d
  let newU := outU && !d.rt.runU && !d.rt.heldU
  let newF := outF && !d.rt.runF && !d.rt.heldF && !pauseF
  let d0 := if newU || newF then capturePre d else d
  let r := d0.rt
  let againU := outU && r.heldU
  let againF := outF && r.heldF && !pauseF
  let u : Rt := if outU then
      { r with tauU := if r.runU then r.tauU + 1 else if r.heldU then r.tauU else 0, runU := true, heldU := false }
    else if r.runU then { r with tauU := r.tauU + 1, runU := false, heldU := true, inSinceU := d.t }
    else r
  let ran := u.tauF + (if u.runF && !u.pausedF then 1 else 0)
  let f : Rt := if pauseF then { u with tauF := ran, pausedF := true }
    else if outF then
      { u with tauF := if u.runF || u.heldF then ran else 0, runF := true, heldF := false, pausedF := false }
    else if u.runF then { u with tauF := ran, runF := false, heldF := true, inSinceF := d.t, pausedF := false }
    else { u with pausedF := false }
  { d0 with rt := { f with reentry := min 15 (f.reentry + b01 againU + b01 againF),
                           inSinceF := if pauseF && f.heldF then f.inSinceF + 400000 else f.inSinceF } }

/-- `RT_TIMER_REARM`: the quantity has stayed inside for rt.rearm, and its timer resets (R207). -/
def rearm (freq : Bool) (d : Dev) : Dev :=
  let hold := prm d 0x510C 0 * ticksPerMs
  if freq then
    if d.rt.heldF ∧ d.rt.inSinceF + hold ≤ d.t then { d with rt := { d.rt with heldF := false, tauF := 0 } } else d
  else if d.rt.heldU ∧ d.rt.inSinceU + hold ≤ d.t then { d with rt := { d.rt with heldU := false, tauU := 0 } }
  else d

/-- Log entry 145 (DESIGN CHOICE). -/
def execRtTimerRearm (t : Nat) (freq : Bool) (s : State) : Host.Outcome State Fault Refusal := lift t (rearm freq) s

/-- Regions of the tick (R203): 0 continuous, 1 ride-through, 2 must-trip, 3 unknown. Log entry 78 (DEDUCED). -/
def regionStep (d : Dev) : Dev :=
  let eu := envU d
  let ef := envF d
  let u := if contU d then 0 else if d.rt.uLo < eu.1 ∨ eu.2 < d.rt.uHi then 2 else 1
  let f := if ¬ d.rt.known then 3 else if contF d then 0 else if d.rt.f < ef.1 ∨ ef.2 < d.rt.f then 2 else 1
  { d with rt := { d.rt with regU := u, regF := f } }

/-- Everything that R203 and R207 form at a tick, and the epoch's entry in the history of R212.
Log entry 78 (DEDUCED). -/
def rtEvaluate (d : Dev) : Dev :=
  let d1 := rtQuantities d
  let d2 := regionStep (timerStep d1)
  let out := d2.rt.regU ≠ 0 ∨ d2.rt.regF = 1 ∨ d2.rt.regF = 2
  { d2 with rt := { d2.rt with
      outRun := if out then d2.rt.outRun + 1 else 0,
      hist := ((d2.gs.vMag, d2.gs.pMeas, d2.gs.qMeas) :: d2.rt.hist).take 20 } }

/-- The grid is inside the continuous region as R198 and R209 take it. -/
def insideHys (d : Dev) : Bool :=
  let h := milli d 0x5104
  let fh := centi d 0x5107
  d.gs.lock && !d.gs.jump && d.rt.known &&
    decide (milli d 0x5102 + h ≤ d.rt.uLo ∧ d.rt.uHi ≤ milli d 0x5103 - h) &&
    decide (centi d 0x5105 + fh ≤ d.rt.f ∧ d.rt.f ≤ centi d 0x5106 - fh)

/-- The grid is in the continuous region, as the entry into RUN needs it (R24). -/
def gridContinuous (d : Dev) : Bool := contU d && d.rt.known && contF d

/-- The conditions of R24 for READY to SYNC, in the order of R23. -/
def syncRefusal (d : Dev) : Option Nat :=
  if blockLatched d then some 0x20
  else if d.sys.factory then some 0x05
  else if ¬ gridPresent d then some 0x10
  else none

/-! ### Must-trip, entry and exit (R206 to R210) -/

/-- A must-trip decision of the tick (R208). Log entry 78 (DEDUCED). -/
def mustTrip (d : Dev) : Bool :=
  (runLike d || d.sys.st = .ride || d.sys.st = .form) &&
    (d.rt.regU = 2 || d.rt.regF = 2 || (d.gs.jump && decide (deci d 0x510D < absR d.gs.rawDev)))

/-- The raw test of R206. Log entry 78 (DEDUCED). -/
def fastTest (d : Dev) : Bool :=
  d.gs.raw.isSome && decide (d.gs.rawMag < milli d 0x5108 ∨ milli d 0x5109 < d.gs.rawMag)

/-- An entry condition of R206. Log entry 78 (DEDUCED). -/
def rideEntry (d : Dev) : Bool := fastTest d || decide (prm d 0x510A 0 ≤ d.rt.outRun) || d.gs.jump

/-- Fire the compliance recorder at an entry into RIDE and at a must-trip decision (R222). -/
def rtFire (d : Dev) : Dev :=
  let u := prm d 0x5140 0
  if u < 4 then trigger 4 u 0x600 d.t 0 d else d

/-- Enter RIDE (R206): the recovery ramp ends and the active current goes on from P / U+ (R218). -/
def enterRide (cause : Nat) (d : Dev) : Dev :=
  let ip := if d.gs.vMag = 0 then 0 else d.gs.pMeas / d.gs.vMag
  let fast := fastTest d
  rtFire (transition .ride cause { d with
    rt := { d.rt with pramp := false, ipLast := ip, fast := d.rt.fast || fast, rideAt := d.t, rideT := 0,
                      okSince := none, jumpHold := false } })

/-- Entry into RIDE, or with rt.enable = 0 into TRIP (R206, R210). In SERVICE from RUN the work is abandoned with cause
0x33. Log entry 51 (DEDUCED). -/
def rideStep (d : Dev) : Dev :=
  if runLike d ∧ rideEntry d then
    if prm d 0x5100 0 = 0 then enterTrip 0x22 d
    else enterRide (if d.sys.st = .service then 0x33 else 0x10) d
  else d

/-- Jumps and loss of LOCK found in RIDE (R180, R197, R217): an automatic FORM is staged for the next tick, or the
estimator is re-seeded. Log entry 145 (DESIGN CHOICE). -/
def rideJump (lostLock : Bool) (d : Dev) : Dev :=
  if d.sys.st = .ride ∧ (d.gs.jump ∨ lostLock) then
    if prm d 0x5070 0 = 1 then
      (match d.sys.auto with
       | .formAuto _ => d
       | _ => { d with sys := { d.sys with auto := .formAuto (if d.gs.jump then 0x13 else 0x12) } })
    else if d.gs.jump ∧ absR d.gs.rawDev ≤ deci d 0x510D then
      { d with
        gs := { d.gs with thPred := d.gs.raw.map (fun r => r + 360 * fNow d / 1000), reseed := some d.gs.rawVec,
                          reseedT := d.t },
        rt := { d.rt with jumpF := true, jumpHold := true, jumpT := d.t } }
    else d
  else d

/-- `JUMP_HOLD_END`: gs.est.lock.n epochs after a jump, active current may flow again (R217).
Log entry 145 (DESIGN CHOICE). -/
def jumpHoldEnd (d : Dev) : Dev :=
  if d.rt.jumpHold ∧ d.rt.jumpT + prm d 0x5024 0 * ticksPerMs ≤ d.t then
    { d with rt := { d.rt with jumpHold := false } } else d

def execJumpHoldEnd (t : Nat) (s : State) : Host.Outcome State Fault Refusal := lift t jumpHoldEnd s

/-- The run of the exit conditions of R209 and of R198. Log entry 145 (DESIGN CHOICE). -/
def exitRuns (d : Dev) : Dev :=
  let r := d.sys.st = .ride && insideHys d
  let noSat := (List.range (3 * gsSets d)).all (fun k => !(cas d (gsBase d + k)).out.sat)
  let f := d.sys.st = .form && d.sys.formAuto && insideHys d && noSat &&
    decide (absR (d.gs.fE - d.gs.fEst) ≤ centi d 0x5077)
  { d with
    rt := { d.rt with okSince := if r then some (d.rt.okSince.getD d.t) else none,
                      rideT := (d.t - d.rt.rideAt) / ticksPerMs },
    gs := { d.gs with okSince := if f then some (d.gs.okSince.getD d.t) else none } }

/-- A run that began at `since` has lasted `hold` ms. Log entry 78 (DEDUCED). -/
def heldFor (since : Option Nat) (hold : Nat) (d : Dev) : Bool :=
  match since with
  | some a => decide (a + hold * ticksPerMs ≤ d.t)
  | none => false

/-- `RIDE_EXIT_HOLD`: the exit conditions have held for rt.exit.hold; RUN with cause 0x11 (R209, R218). -/
def rideExit (d : Dev) : Dev :=
  if d.sys.st = .ride ∧ heldFor d.rt.okSince (prm d 0x510B 0) d then
    transition .run 0x11 { d with
      rt := { d.rt with pramp := true, okSince := none, injLim := false, jumpHold := false },
      gs := { d.gs with pR := d.gs.pCmd, qCmd := d.gs.qMeas } }
  else d

def execRideExitHold (t : Nat) (s : State) : Host.Outcome State Fault Refusal := lift t rideExit s

/-- `FORM_EXIT_HOLD`: the conditions of R198 have held for gs.form.exit.hold; the following weights are staged for the
next tick. Log entry 76 (DEDUCED). -/
def formExit (d : Dev) : Dev :=
  if d.sys.st = .form ∧ d.sys.formAuto ∧ heldFor d.gs.okSince (prm d 0x5076 0) d then
    stageExit 0x14 d
  else d

def execFormExitHold (t : Nat) (s : State) : Host.Outcome State Fault Refusal := lift t formExit s

/-! ### Fault currents (R213 to R216) -/

/-- Square root of what is left, 0 where nothing is. Log entry 79 (DEDUCED). -/
def root0 (x : Rat) : Rat := if x ≤ 0 then 0 else Config.sqrt x

/-- `x` with the sign of `s`. Log entry 79 (DEDUCED). -/
def signed (s x : Rat) : Rat := if s < 0 then -x else x

/-- The allocation of R213 and the gain of R214, for RIDE with FORMING = 0. Log entry 79 (DEDUCED). -/
def allocate (d : Dev) : Dev :=
  let r := d.rt
  let u := d.gs.vMag
  let un := d.gs.nMag
  let imax := centi d 0x5133 * (mOn d : Nat) / (mCfg d : Nat)
  let du := r.uPre - u
  let iq0 := r.iqPre + (if milli d 0x5132 < absR du then centi d 0x5130 * du else 0)
  let in0 := centi d 0x5131 * un
  let base := match prm d 0x5135 0 with
    | 0 => r.ipPre
    | 1 => if r.uPre = 0 then 0 else r.ipPre * u / r.uPre
    | _ => 0
  let dc := if linkOnAc d ∧ u ≠ 0 then base - d.gs.dcOut / u else base
  let step := centi d 0x5136 / 1000
  let ramped := if 0 ≤ dc then minR dc (r.ipLast + step) else maxR dc (r.ipLast - step)
  let ipw := if r.jumpHold ∧ d.t < r.jumpT + prm d 0x5024 0 * ticksPerMs then 0 else ramped
  let (iq, ineg, ip) :=
    if prm d 0x5134 0 = 0 then
      let q := clampR (-imax) imax iq0
      let n := minR in0 (imax - absR q)
      let room := root0 ((imax - n) * (imax - n) - q * q)
      (q, n, signed ipw (minR (absR ipw) room))
    else
      let p := clampR (-imax) imax ipw
      let q := signed iq0 (minR (absR iq0) (root0 (imax * imax - p * p)))
      (q, minR in0 (imax - root0 (p * p + q * q)), p)
  let gq := if un < 5 / 1000 ∨ iFs d = 0 ∨ mOn d = 0 then 0 else
    ineg / un * sBase d / (uLl d * uLl d) * uFs d / ((mOn d : Nat) * iFs d)
  let d1 := { d with
    rt := { r with iq := iq, ineg := ineg, ip := ip, imax := imax, ipLast := ip,
                   injLim := decide (iq ≠ iq0 ∨ ineg ≠ in0 ∨ ip ≠ ipw) },
    gs := { d.gs with gd := 0, gq := gq, pR := u * ip, ramping := false } }
  landCommands (u * ip) (u * iq) { d1 with gs := { d1.gs with qCmd := u * iq } }

/-- The commands of an epoch, by state (R186, R187, R213, R215). Log entry 74 (DEDUCED). -/
def commandStep (d : Dev) : Dev :=
  match d.sys.st with
  | .run | .form => powerStep d
  | .ride => if d.gs.forming then powerStep d else allocate d
  | .service => if d.sys.svcRet = .run then powerStep d else powerOff d
  | _ => powerOff d

/-! ### The compliance recorder (R222) and the points (R225) -/

/-- Mask B (R222) is violated: from rt.resp.t after the entry into RIDE, Q / U+ lies outside ±rt.resp.tol of the
commanded iq. -/
def violB (d : Dev) : Bool :=
  let m := if d.gs.vMag = 0 then 0 else d.gs.qMeas / d.gs.vMag
  d.sys.st = .ride && !d.gs.forming && decide (prm d 0x5141 0 ≤ d.rt.rideT) &&
    decide (centi d 0x5142 < absR (m - d.rt.iq))

/-- Mask A (R222) is violated: a voltage lies outside the envelope at τ_u. -/
def violA (d : Dev) : Bool := decide (d.rt.uLo < (envU d).1 ∨ (envU d).2 < d.rt.uHi)

/-- The derived channels of R222, in the order in which the spec names them. Log entry 79 (DEDUCED). -/
def rtChannels (d : Dev) : List Rat :=
  [d.rt.uLo, d.rt.uHi, d.rt.f, if d.gs.vMag = 0 then 0 else d.gs.qMeas / d.gs.vMag, d.rt.iq]

/-- Device points of ride-through, updated at every epoch tick. -/
def rtPoints (d : Dev) : Dev :=
  let r := d.rt
  let xs : List Rat := [r.uLo, r.uHi, (r.tauU : Nat), (r.tauF : Nat), r.uPre, r.ipPre, r.iq, r.ineg, r.ip, r.imax,
    r.uLo - (envU d).1, r.iqPre]
  (xs.zipIdx).foldl (fun e (x, i) => putF (0x50020 + i) x e) d

/-! ### The set-up of the compliance unit (R222, R324) -/

/-- The set-up that the device gives the compliance unit: five derived channels, 65,536 rows, 2,000 before the trigger,
mode 2 (R324). Log entry 40 (DEDUCED). -/
def setUpUnit (u : Nat) (d : Dev) : Dev :=
  let d1 := [(0xA000, 2), (0xA001, 5), (0xA002, 65536), (0xA003, 2000)].foldl (fun e kv => setPrm kv.1 u kv.2 e) d
  forAll 5 (fun k e => setPrm 0xA010 (16 * u + k) (0x4000 + k) e) d1

/-- The masks that a commit of the tables loads into the compliance unit (R222, R334): mask A as masks 0 and 1, of U_lo and
U_hi against the voltage envelope, and mask B as mask 2, of Q / U+ about the commanded iq. Log entry 40 (DEDUCED). -/
def loadMasks (u : Nat) (d : Dev) : Dev :=
  let n := prm d 0x5110 0
  let put := fun (pid i v : Nat) (e : Dev) => setPrm pid i v e
  let f := f32Code
  let env := fun (j : Nat) (e : Dev) => forAll 32 (fun k y =>
    let b := 32 * (4 * u + j) + k
    let g := fun (pid w : Nat) => if k < n then w else factory pid b
    put 0xA035 b (g 0xA035 (prm d 0x5111 k)) (put 0xA036 b (g 0xA036 (f (prmQ d 0x5112 k 1000)))
      (put 0xA037 b (g 0xA037 (f (prmQ d 0x5113 k 1000))) (put 0xA038 b (g 0xA038 (prm d 0x5114 k)) y)))) e
  let head := fun (j ch ref act t0 n : Nat) (e : Dev) =>
    [(0xA030, ch), (0xA031, ref), (0xA032, act), (0xA033, t0), (0xA034, n)].foldl (fun y kv => put kv.1 (4 * u + j) kv.2 y) e
  let tol := prmQ d 0x5142 0 100
  let b := 32 * (4 * u + 2)
  put 0xA036 b (f (-tol)) (put 0xA037 b (f tol) (head 2 3 4 1 (prm d 0x5141 0) 1
    (env 0 (head 0 0 255 0 0 n (env 1 (head 1 1 255 0 0 n d))))))

/-- The device sets up its compliance unit (R324). Log entry 40 (DEDUCED). -/
def ownUnit (d : Dev) : Dev :=
  let u := prm d 0x5140 0
  if u < 4 then loadMasks u (setUpUnit u d) else d

end Sys2Proof.Machine
end

