-- ==== Sys2Proof/Machine/Charm.lean ====
section
/-!
DEFINITION. Charm islanding detection: passive methods, probe codes, correlation, decisions (R226 to R252).
-/
namespace Sys2Proof.Machine

/-! ### Probe codes (R231 to R233) -/

/-- The next `n` bits of a sequence whose last eight are `st`, oldest first, with feedback `f`. -/
def mseq (f : List Bool → Bool) (n : Nat) (st : List Bool) : List Bool :=
  match n with
  | 0 => []
  | n + 1 => st.headD false :: mseq f n (st.tail ++ [f st])

/-- Exclusive or of the places `ks` of the window. -/
def taps (ks : List Nat) (st : List Bool) : Bool := (ks.filter (fun k => st.getD k false)).length % 2 = 1

/-- The window with which both sequences begin. -/
def seedBits : List Bool := [true, false, false, false, false, false, false, false]

/-- The m-sequences a and b of length 255. -/
def seqA : List Bool := mseq (taps [4, 3, 2, 0]) 255 seedBits
def seqB : List Bool := mseq (taps [5, 3, 1, 0]) 255 seedBits

/-- The 256 chips of code `g` as ±1; bit 0 is +1. -/
def codeChips (g : Nat) : List Int :=
  let b := seqB.drop (g % 255) ++ seqB.take (g % 255)
  let xs := if g = 255 then seqA else List.zipWith (fun x y => x != y) seqA b
  (xs ++ [false]).map (fun x => if x then -1 else 1)

/-- The code in use. -/
def codeOf (d : Dev) : Nat := prm d 0x6010 0 % 255

/-- e_M of R233 for a code. -/
def chipValue (cs : List Int) (m : Nat) : Int :=
  let v := cs.getD (m % 256) 1
  if m / 256 % 2 = 0 then v else -v

/-- Probe level L in pu. -/
def probeLevel (d : Dev) : Rat := (prm d 0x6011 0 : Rat) / 10000

/-- Sums of all prefixes. -/
def prefixes (cs : List Int) (a : Int) : List Int :=
  match cs with
  | [] => [a]
  | c :: r => a :: prefixes r (a + c)

/-- charm.code.pmax (R238): the largest |Σ e_M| over any run of at most 256 consecutive chips. A run inside a period is the
difference of two prefix sums; one that straddles a period start, where the sign alternates, is a suffix `total - s`
less a prefix no longer than what the suffix leaves out. -/
def codePmax (g : Nat) : Nat :=
  let ps := prefixes (codeChips g) 0
  let total := ps.getLastD 0
  let inside := ps.foldl max 0 - ps.foldl min 0
  (ps.foldl (fun (acc : Int × Int × Int) s =>
    let lo := min acc.1 s
    let hi := max acc.2.1 s
    (lo, hi, max acc.2.2 (max (absI (total - s - lo)) (absI (total - s - hi))))) (0, 0, inside)).2.2.toNat

/-! ### Chip means (R236) -/

/-- charm.lag in ticks. Log entry 80 (DEDUCED). -/
def lagTicks (d : Dev) : Nat := prm d 0x6012 0 * 4000

/-- θ_pred at instant `x`, linear between epoch ticks; `tick` is the last epoch tick. Log entry 80 (DEDUCED). -/
def predAt (d : Dev) (x tick : Nat) : Rat :=
  let g := d.gs
  let nx := g.thPred.getD g.thNow
  if tick ≤ x then g.thNow + (nx - g.thNow) * ((x - tick : Nat) : Rat) / 400000
  else g.thNow - (wrap180 (g.thNow - g.thBefore - 360 * fNow d / 1000) + 360 * fNow d / 1000) * ((tick - x : Nat) : Rat) / 400000

/-- A voltage sample: the uc result `c` with the latest ua and ub goes into the chip whose window holds its STAMP.
Log entry 80 (DEDUCED). -/
def charmSample (d : Dev) : Dev :=
  let a := (ain d (prm d 0x5010 0)).res
  let b := (ain d (prm d 0x5011 0)).res
  let c := (ain d (prm d 0x5012 0)).res
  let m := (c.stamp - lagTicks d) / 400000
  if c.stamp < lagTicks d then d
  else match tget none d.charm.open_ m with
    | none => d
    | some (n, sm, sa, ok) =>
      let x := (2 * fab a.value - fab b.value - fab c.value) / 3
      let y := (fab b.value - fab c.value) / Config.sqrt 3
      let mag := Config.sqrt (x * x + y * y) * uFs d / vBase d
      let ang := wrap180 (Config.atan2Deg y x - predAt d c.stamp (ep d * 400000)) * Config.pi / 180
      let e := (n + 1, sm + mag, sa + ang, ok && a.valid && b.valid && c.valid)
      { d with charm := { d.charm with open_ := tput none m (some e) d.charm.open_ } }

/-- Restart the history (R237): RESTART is set on every restart. -/
def charmRestart (d : Dev) : Dev :=
  { d with charm := { d.charm with restart := true, chips := [], valid := false, zrun := 0, zDone := false } }

/-- A landing that changes the code, the level or the lag restarts the history: no chip whose window is open counts, since it
was probed before (R237). -/
def charmReset (d : Dev) : Dev :=
  charmRestart { d with charm := { d.charm with
    open_ := d.charm.open_.map (fun e => (e.1, e.2.map (fun x => (x.1, x.2.1, x.2.2.1, false)))) } }

/-- The chip whose window has closed at tick `m` ms joins the history; an invalid one restarts it (R236, R237). The
chip that begins opens its window. Log entry 80 (DEDUCED). -/
def chipClose (m : Nat) (d : Dev) : Dev :=
  let c := if prm d 0x6012 0 = 0 then m - 1 else m - 2
  let probing := if d.sys.standby then d.charm.peer else d.charm.active
  let d1 := match tget none d.charm.open_ c with
    | some (n, sm, sa, true) =>
      if 4 ≤ n then
        let x : Chip := ⟨c, sm / (n : Nat), sa / (n : Nat), true⟩
        let d0 := match d.charm.chips with
          | h :: _ => if h.n + 1 = c then d else charmRestart d
          | [] => d
        { d0 with charm := { d0.charm with chips := (x :: d0.charm.chips).take 512 } }
      else charmRestart d
    | _ => charmRestart d
  { d1 with charm := { d1.charm with
      open_ := tput none m (some (0, 0, 0, probing)) ((d1.charm.open_).filter (fun e => c < e.1)) } }

/-! ### Correlation and noise (R237, R239) -/

/-- Cm and Ca of a code over the newest 512 chips. Log entry 80 (DEDUCED). -/
def correlate (cs : List Int) (h : List Chip) : Rat × Rat :=
  ((h.take 256).zip (h.drop 256)).foldl (fun acc (x, y) =>
    let e : Rat := (chipValue cs x.n : Rat)
    (acc.1 + e * (x.m - y.m), acc.2 + e * (x.a - y.a))) (0, 0)

/-- RMS of a list. -/
def rms (xs : List Rat) : Rat :=
  if xs = [] then 0 else Config.sqrt (xs.foldl (fun a x => a + x * x) 0 / (xs.length : Nat))

/-- The estimate, that of the noise channel, and ZRUN at a tick (R237, R239, R240). Log entry 80 (DEDUCED). -/
def correlateStep (d : Dev) : Dev :=
  let h := d.charm.chips
  let full := h.length = 512
  let zt := centi d 0x6013
  let k := 512 * probeLevel d
  if full then
    let c := correlate (codeChips (codeOf d)) h
    let n := correlate (codeChips 255) h
    let zm := c.1 / k
    let za := c.2 / k
    let z := Config.sqrt (zm * zm + za * za)
    { d with charm := { d.charm with
        valid := true, zm := zm, za := za, z := z, noise := (tMs d, n.1 / k, n.2 / k) :: d.charm.noise,
        zrun := if zt ≤ z then incSat 255 d.charm.zrun else 0, zDone := d.charm.zDone && decide (zt ≤ z),
        zlow := if z < zt then d.charm.zlow + 1 else 0 } }
  else { d with charm := { d.charm with valid := false, zrun := 0, zlow := 0, zDone := false } }

/-- σ_Z over the estimates of the last 1,024 ticks, and NOISY (R239). Log entry 80 (DEDUCED). -/
def noiseStep (d : Dev) : Dev :=
  let ns := d.charm.noise.filter (fun x => decide (tMs d < x.1 + 1024 ∧ x.1 ≤ tMs d))
  let sg := maxR (rms (ns.map (fun x => x.2.1))) (rms (ns.map (fun x => x.2.2)))
  let noisy := decide (centi d 0x6013 / 20 < sg)
  let d1 := { d with charm := { d.charm with noise := ns, sigma := sg, noisy := noisy } }
  if noisy ∧ ¬ d.charm.noisy then raiseI 65 0 d1 else d1

/-! ### Decisions (R240, R243 to R246) -/

/-- TRIP with cause 0x23; the cause persists until R246 clears it. -/
def trip23 (d : Dev) : Dev :=
  enterTrip 0x23 { d with sys := { d.sys with islandGone := false }, charm := { d.charm with recSince := none } }

/-- A decision acts as R243 states: with charm.act = 1, and in a FORM by request only with charm.form.act = 1 (R245). -/
def islandActs (d : Dev) : Bool :=
  prm d 0x6001 0 = 1 && (!(d.sys.st = .form && !d.sys.formAuto) || prm d 0x6002 0 = 1)

/-- An islanding decision (R243, R244): it trips or reports. A record that runs notes the decision (R337). -/
def islanding (d : Dev) : Dev :=
  let d0 := forAll 4 (fun u e => modUnit u (fun x => if x.st = 3 then { x with islandSeen := true } else x) e)
    { d with loupe := { d.loupe with islandT := some d.t } }
  let d1 := raiseI 66 0 { d0 with charm := { d0.charm with island := true, zlow := 0, reported := !islandActs d } }
  if islandActs d then trip23 d1 else d1

/-- Z has been at or above charm.z.trip for as many ticks as the decision needs (R229, R240). -/
def zDecides (d : Dev) : Bool :=
  d.charm.valid && decide ((if d.charm.susp then prm d 0x6015 0 else prm d 0x6014 0) ≤ d.charm.zrun)

/-- The decisions of a tick on Z (R240): one for a run of ticks, and another where the device now trips on it. A reported
ISLAND clears after charm.n ticks below charm.z.trip (R244). A standby does not decide here (R499).
Log entry 80 (DEDUCED). -/
def decideStep (d : Dev) : Dev :=
  if zDecides d ∧ (d.charm.zDone → islandActs d) ∧ d.sys.st ≠ .trip ∧ ¬ d.sys.standby then
    islanding { d with charm := { d.charm with zDone := true } }
  else if d.charm.reported ∧ d.charm.island ∧ prm d 0x6014 0 ≤ d.charm.zlow then
    { d with charm := { d.charm with island := false } }
  else d

/-! ### Passive methods (R226 to R230) -/

/-- One cycle T_c in ms. -/
def tc (d : Dev) : Nat := if prm d 0x5002 0 = 60 then 17 else 20

/-- The passive quantities at a tick: after a tick at which none were formed, the entries begin anew, so that the one taken
is that of T_c ago. Log entry 81 (DEDUCED). -/
def passiveQuantities (d : Dev) : Dev :=
  if d.gs.vValid then
    let n := tc d
    let hist := if d.charm.thT + 400000 = d.t then d.charm.thHist else []
    let th := match hist with
      | h :: _ => h + wrap180 (d.gs.thM - h)
      | [] => d.gs.thM
    let ths := (th :: hist).take (n + 1)
    let fc := match ths[n]? with
      | some o => some ((th - o) * 1000 / (360 * (n : Rat)))
      | none => none
    let fcs := match fc with
      | some f => (f :: d.charm.fcHist).take (n + 1)
      | none => []
    let ro := match fc, fcs[n]? with
      | some f, some o => (f - o) * 1000 / (n : Rat)
      | _, _ => 0
    { d with charm := { d.charm with
        thHist := ths, fcHist := fcs, thT := d.t, fc := fc.getD d.charm.fc, rocof := ro,
        vs := if d.gs.raw.isSome then d.gs.rawDev else d.charm.vs } }
  else { d with charm := { d.charm with thHist := [], fcHist := [], rocof := 0 } }

/-- The passive methods are evaluated at this tick (R228). -/
def passiveOn (d : Dev) : Bool :=
  prm d 0x6000 0 = 1 && runLike d && d.rt.regU = 0 && d.gs.lock &&
    !(d.charm.blank && decide (d.t < d.charm.blankFrom + prm d 0x6028 0 * ticksPerMs))

/-- The methods that indicate (R227): bit 0 voltage, 1 frequency, 2 ROCOF, 3 vector shift. Log entry 81 (DEDUCED). -/
def indications (d : Dev) : Nat :=
  let ro := absR d.charm.rocof
  let vs := absR d.charm.vs
  b01 (2 ≤ d.charm.uOut) + 2 * b01 (2 ≤ d.charm.fOut) + 4 * b01 (decide (centi d 0x6024 < ro)) +
    8 * b01 (d.gs.raw.isSome && decide (deci d 0x6027 < vs ∧ vs ≤ deci d 0x5026))

/-- An indication sets SUSP and its source (R229). Log entry 81 (DEDUCED). -/
def suspect (m : Nat) (d : Dev) : Dev :=
  if m = 0 then d
  else
    let d1 := { d with charm := { d.charm with
      susp := true, suspT := d.t, suspSrc := (if d.charm.susp then d.charm.suspSrc else 0) ||| m } }
    if d.charm.susp then d1 else raiseI 64 0 d1

/-- The passive methods at a tick (R227 to R230). Log entry 81 (DEDUCED). -/
def passiveStep (d : Dev) : Dev :=
  let d0 := if d.gs.jump ∧ runLike d then { d with charm := { d.charm with blank := true, blankFrom := d.t } } else d
  let d1 := passiveQuantities d0
  if passiveOn d1 then
    let u := d1.gs.vMag
    let f := d1.charm.fc
    let uo := if u < milli d1 0x6020 ∨ milli d1 0x6021 < u then d1.charm.uOut + 1 else 0
    let fo := if d1.charm.fcHist ≠ [] ∧ (f < centi d1 0x6022 ∨ centi d1 0x6023 < f) then d1.charm.fOut + 1 else 0
    let d2 := { d1 with charm := { d1.charm with uOut := uo, fOut := fo } }
    let d3 := suspect (indications d2) d2
    if centi d3 0x6026 < absR d3.charm.rocof then islanding { d3 with charm := { d3.charm with gross := true } } else d3
  else { d1 with charm := { d1.charm with uOut := 0, fOut := 0 } }

/-! ### Probing (R235, R242) -/

/-- The device probes from the next chip on (R235); after a loss of time, from the next period start on (R242). -/
def probeOn (d : Dev) (m : Nat) : Bool :=
  prm d 0x6000 0 = 1 && runLike d && d.charm.timeOk && !d.sys.standby &&
    (match d.charm.resumeAt with
     | some p => decide (p * 256 ≤ m + 1)
     | none => true)

/-- ACTIVE and the probe value of the chip that lands at the next tick (R235). A standby does not probe, but keeps the value
at hand of the device that does, for a takeover (R247). Log entry 81 (DEDUCED). -/
def probeStep (m : Nat) (d : Dev) : Dev :=
  let on := probeOn d m
  let ready := d.sys.standby && d.charm.peer && prm d 0x6000 0 = 1 && d.charm.timeOk
  let e := if on || ready then probeLevel d * (chipValue (codeChips (codeOf d)) (m + 1) : Rat) else 0
  let d1 := if on then d else charmStop d
  { d1 with charm := { d1.charm with active := on, eNext := e, resumeAt := if on then none else d1.charm.resumeAt } }

/-- The standby becomes the active device, or the active device the standby: the one probes where the other did, and both
go on with the history (R247). Log entry 81 (DEDUCED). -/
def probeSwap (d : Dev) : Dev := { d with charm := { d.charm with active := d.charm.peer, peer := d.charm.active } }

/-- TIME_OK changes (R242): its fall stops the probe, restarts the history and raises EV_CHTIME; its return lets probing
resume at the next period start. Log entry 81 (DEDUCED). -/
def charmTime (ok : Bool) (d : Dev) : Dev :=
  if ok = d.charm.timeOk then d
  else if ok then
    { d with charm := { d.charm with
        timeOk := true, resumeAt := some (tMs d / 256 + 1), noTimeDone := false, timeLostAt := none } }
  else
    raiseI 67 0 (charmRestart (charmStop { d with charm := { d.charm with timeOk := false, timeLostAt := some d.t } }))

/-- Choice 2 of charm.notime.act: TRIP with cause 0x23 from every state that R24 lets it leave (R242).
Log entry 81 (DEDUCED). -/
def noTimeTrip (d : Dev) : Dev :=
  if noTimeActs d 2 ∧ canTrip d 0x23 ∧ ¬ d.sys.standby then trip23 d else d

/-- The healthy time that R246 counts: the grid-side voltage inside the continuous region, with LOCK.
Log entry 81 (DEDUCED). -/
def recStep (d : Dev) : Dev :=
  if d.sys.st = .trip ∧ contU d ∧ d.gs.lock then
    { d with charm := { d.charm with recSince := some (d.charm.recSince.getD d.t) } }
  else { d with charm := { d.charm with recSince := none } }

/-- Seconds left of charm.rec.hold. -/
def recLeft (d : Dev) : Nat :=
  if d.sys.islandGone then 0
  else match d.charm.recSince with
    | some a => prm d 0x6004 0 - (d.t - a) / 400000000
    | none => prm d 0x6004 0

/-- Charm's work of a tick but the probe, in order: chips, correlation, passive methods, decision.
Log entry 51 (DEDUCED). -/
def charmStep (d : Dev) : Dev :=
  let m := tMs d
  recStep (noTimeTrip (decideStep (passiveStep (noiseStep (correlateStep (chipClose m d))))))

/-- Device points of Charm (R252). -/
def charmPoints (d : Dev) : Dev :=
  let c := d.charm
  let xs : List Rat := [c.zm, c.za, c.z, c.sigma, c.fc, c.rocof, c.vs, centi d 0x6011, (codeOf d : Nat),
    (tMs d / 256 % 2 ^ 24 : Nat), (c.chips.length : Nat), (recLeft d : Nat)]
  (xs.zipIdx).foldl (fun e (x, i) => putF (0x50040 + i) x e) d

/-! ### Commands -/

/-- `CHARM_SUSP_CLEAR`: charm.susp.t after the last indication (R229). Log entry 145 (DESIGN CHOICE). -/
def suspClear (d : Dev) : Dev :=
  if d.charm.susp ∧ d.charm.suspT + prm d 0x6016 0 * ticksPerMs ≤ d.t then
    { d with charm := { d.charm with susp := false, suspSrc := 0 } } else d

def execCharmSuspClear (t : Nat) (s : State) : Host.Outcome State Fault Refusal := lift t suspClear s

/-- `CHARM_BLANK_END`: the blanking of R228 ends. -/
def blankEnd (d : Dev) : Dev :=
  if d.charm.blankFrom + prm d 0x6028 0 * ticksPerMs ≤ d.t then { d with charm := { d.charm with blank := false } } else d

def execCharmBlankEnd (t : Nat) (s : State) : Host.Outcome State Fault Refusal := lift t blankEnd s

/-- `CHARM_NOTIME_EXPIRY`: TIME_OK has been 0 for charm.notime.t (R242). Log entry 145 (DESIGN CHOICE). -/
def noTime (d : Dev) : Dev :=
  match d.charm.timeLostAt with
  | some a =>
    if ¬ d.charm.timeOk ∧ ¬ d.charm.noTimeDone ∧ a + prm d 0x6032 0 * 400000000 ≤ d.t then
      noTimeTrip { d with charm := { d.charm with noTimeDone := true } }
    else d
  | none => d

def execCharmNotimeExpiry (t : Nat) (s : State) : Host.Outcome State Fault Refusal := lift t noTime s

/-- `CHARM_FORM_TMAX`: an automatic FORM has lasted charm.form.tmax (R245). Log entry 145 (DESIGN CHOICE). -/
def formTmax (d : Dev) : Dev :=
  if prm d 0x6000 0 = 1 ∧ d.sys.st = .form ∧ d.sys.formAuto ∧ ¬ d.charm.formDone ∧
      d.sys.autoT.getD d.t + prm d 0x6003 0 * ticksPerMs ≤ d.t then
    islanding { d with charm := { d.charm with formt := true, formDone := true } }
  else d

def execCharmFormTmax (t : Nat) (s : State) : Host.Outcome State Fault Refusal := lift t formTmax s

/-- `CHARM_REC_HOLD`: the grid has been healthy for charm.rec.hold, and cause 0x23 is gone (R246).
Log entry 145 (DESIGN CHOICE). -/
def recHold (d : Dev) : Dev :=
  match d.charm.recSince with
  | some a => if d.sys.st = .trip ∧ a + prm d 0x6004 0 * 400000000 ≤ d.t then
      { d with sys := { d.sys with islandGone := true } } else d
  | none => d

def execCharmRecHold (t : Nat) (s : State) : Host.Outcome State Fault Refusal := lift t recHold s

end Sys2Proof.Machine
end

