-- ==== Sys2Proof/Machine/Pv.lean ====
section
/-!
DEFINITION. PV maximum power point tracking: inputs and their cascades, power measurement, perturb and observe, the
ceiling, shading suspicions and the sweep (R253 to R273).
-/
namespace Sys2Proof.Machine

/-! ### Inputs and cascades (R253 to R255) -/

/-- Q, the number of enabled inputs. -/
def pvCount (d : Dev) : Nat := prm d 0x7001 0

/-- The legs of a role, ascending. -/
def legsOfRole (d : Dev) (r : Nat) : List Nat := (List.range 48).filter (fun n => role d n = r)

/-- Cascade `c` is one that the device owns for PV (R255). -/
def pvOwned (d : Dev) (c : Nat) : Bool :=
  1 ≤ pvCount d && prm d 0x7000 0 ≤ c && c < prm d 0x7000 0 + pvCount d + (legsOfRole d 2).length

/-- K(1 + K_i/s) by Tustin's method at rate `r` (R255). -/
def piCoefs (k ki r : Rat) : Coefs := { b0 := k * (1 + ki / (2 * r)), b1 := k * (ki / (2 * r) - 1), a1 := -1 }

/-- The rate with which an owned cascade on input `i` counts (R587). -/
def ownRate (d : Dev) (i : Nat) : Rat := if inScan d i then outRate d i else 1

/-- The rank of leg `n` among `xs`. -/
def rankOf (xs : List Nat) (n : Nat) : Nat := xs.findIdx (· = n)

/-- The current loop of leg `n` of input `q`. -/
def pvLegCas (d : Dev) (n : Nat) : Nat := prm d 0x7000 0 + pvCount d + rankOf (legsOfRole d 2) n

/-- The current input of leg `n` (R253). -/
def pvAin (d : Dev) (n : Nat) : Nat := prm d 0x7110 n

/-- A current loop I(n) on the reference cascade `ref`, measuring `i` and driving leg `n` (R255, R291). -/
def buildLoop (c ref i n : Nat) (k ki : Rat) (d : Dev) : Dev :=
  let d1 := ownCas c [0x2000 + ref, 0x1000 + i] 2 2 i d
  let d2 := putFlags c 0 1 (putFit c 0 (piCoefs k ki (ownRate d1 i)) (putWeights c [-1, 1] d1))
  setPrm 0x2018 c (0x1000 + n) (setPrm 0x2016 c 8220835 (setPrm 0x2017 c 0 d2))

/-- Build the cascades of PV tracking (R255). -/
def buildPv (d : Dev) : Dev :=
  if pvCount d = 0 then d
  else
    let d1 := forAll (pvCount d) (fun q x =>
      let c := pvCas x q
      let v := prm x 0x7102 q
      let i := pvAin x (prm x 0x7100 q)
      let x1 := putWeights c [1, -1] (ownCas c [0x1000 + v, 0x3000] 1 2 v x)
      let x2 := putFlags c 0 1 (putFit c 0 (piCoefs (prmF x1 0x7040 0) (prm x1 0x7041 0) (ownRate x1 v)) x1)
      let top := toCode x2 i (prm x2 0x7105 q : Rat)
      setPrm 0x2200 c 0 (setPrm 0x2016 c (ofInt 32 top) (setPrm 0x2017 c 0 x2))) d
    forAll (pvCount d) (fun q x => (pvLegs x q).foldl (fun y n =>
      buildLoop (pvLegCas y n) (pvCas y q) (pvAin y n) n (prmF y 0x7042 0) (prm y 0x7043 0) y) x) d1

/-- Engineering value of the latest result of input `i` with VALID = 1; a VALUE with VALID = 0 counts as absent (R37).
Log entry 82 (DEDUCED). -/
def eng (d : Dev) (i : Nat) : Rat :=
  (((ain d i).hist.find? (fun r => r.valid)).map (fun r => (r.value : Rat))).getD 0 * prmF d 0x1104 i

/-- The latest result of input `i` with a STAMP at or before `st`. -/
def resAt (d : Dev) (i st : Nat) : Res := ((ain d i).hist.find? (fun r => r.stamp ≤ st)).getD {}

/-- v_pv of input `q` in V. -/
def vPv (d : Dev) (q : Nat) : Rat := eng d (prm d 0x7102 q)

/-- The rating of input `q` in W, and the dead band e. -/
def pRated (d : Dev) (q : Nat) : Rat := 1000 * (prm d 0x7106 q : Rat)
def pEps (d : Dev) (q : Nat) : Rat := (prm d 0x7008 0 : Rat) / 10000 * pRated d q

/-- The input tracks, in CURT or not. -/
def pvTracks (d : Dev) (q : Nat) : Bool := (pvIn d q).mode = 2 || (pvIn d q).mode = 3 || (pvIn d q).mode = 4

/-- Input `q` sweeps. -/
def sweeping (d : Dev) (q : Nat) : Bool := d.pv.sweepPh ≠ 0 && d.pv.sweepQ = q

/-! ### Power (R259) -/

/-- A voltage result of input `q` (R259); in the rising phase it joins the record, and an invalid one aborts the sweep
(R266, R268). -/
def pvSample (q : Nat) (d : Dev) : Dev :=
  let r := (ain d (prm d 0x7102 q)).res
  let cs := (pvLegs d q).map (fun n => (resAt d (pvAin d n) r.stamp, pvAin d n))
  let ok := r.valid && cs.all (fun x => x.1.valid)
  let v := (r.value : Rat) * prmF d 0x1104 (prm d 0x7102 q)
  let i := cs.foldl (fun a x => a + (x.1.value : Rat) * prmF d 0x1104 x.2) 0
  let d1 := modPv q (fun x => { x with
    pSum := x.pSum + v * i, pN := x.pN + 1, pBad := x.pBad || !ok, iEp := i, vEp := v }) d
  if sweeping d q ∧ d.pv.sweepPh = 3 then
    if ok then { d1 with pv := { d1.pv with rec_ := d1.pv.rec_ ++ [(v, i)] } } else sweepAbort d1
  else d1

/-- A result of input `i` reaches the PV inputs whose voltage it is. -/
def pvFeed (i : Nat) (d : Dev) : Dev :=
  forAll (pvCount d) (fun q x => if prm x 0x7102 q = i then pvSample q x else x) d

/-! ### Limits and the ceiling (R261, R262) -/

/-- V_ref of input `q` limited under R261, and whether a limit holds it. Log entry 82 (DEDUCED). -/
def limVref (d : Dev) (q : Nat) (v : Rat) : Rat × Bool :=
  let lo := (prm d 0x7103 q : Rat) / 10
  let hi := minR ((prm d 0x7104 q : Rat) / 10) (pvIn d q).voc
  let x := clampR lo hi v
  (x, decide (x ≠ v))

/-- Saturation at the current limit bars a step to a lower voltage (R261). -/
def stepBarred (x : PvIn) (dv : Rat) : Bool := decide (dv < 0) && x.satSeen

/-- Move V_ref of input `q` by a step of P&O or CURT (R260 to R262): it lands at the first tick of the next interval.
Log entry 82 (DEDUCED). -/
def stepVref (q : Nat) (dv : Rat) (d : Dev) : Dev :=
  let x := pvIn d q
  if stepBarred x dv then modPv q (fun y => { y with ilim := true }) d
  else
    let (v, lim) := limVref d q (x.vref + dv)
    modPv q (fun y => { y with ilim := false, vlim := lim, vNext := some v }) d

/-- A V_ref that was computed at an earlier tick lands: with sp.rate = 0 in tracking (R260), moved at R in the return phase
of a sweep (R265). Log entry 82 (DEDUCED). -/
def vrefLand (q : Nat) (d : Dev) : Dev :=
  match (pvIn d q).vNext with
  | none => d
  | some v =>
    let d1 := modPv q (fun x => { x with vNext := none }) d
    if sweeping d q then
      setVref q v (pvRate d1 q) { d1 with pv := { d1.pv with reachAt := reachTick d1 q (toCode d1 (prm d1 0x7102 q) v) } }
    else setVref q v 0 d1

/-- The ceiling of an epoch (R262): it falls at once and rises at most at pv.ramp. Log entry 82 (DEDUCED). -/
def ceilStep (q : Nat) (d : Dev) : Dev :=
  let r := pRated d q
  let host := (prm d 0x7107 q : Rat) / 1000 * r
  let c := match tget none (d.setr.pvCeil.map (fun e => (e.1, some e.2))) q with
    | some s => minR host s
    | none => host
  modPv q (fun x => { x with ceil := if c ≤ x.ceil then c else minR c (x.ceil + (prm d 0x7034 0 : Rat) / 1000000 * r) }) d

/-- The mean of P̄ / p.rated over the tracking inputs other than `q`; none where there is none.
Log entry 82 (DEDUCED). -/
def othersMean (f : PvIn → Option Rat) (d : Dev) (q : Nat) : Option Rat :=
  let xs := ((List.range (pvCount d)).filter (fun k => k ≠ q && pvTracks d k)).filterMap (fun k =>
    (f (pvIn d k)).map (fun p => p / pRated d k))
  if xs = [] then none else some (meanRat xs)

/-- What an epoch tick does for input `q` (R257, R259, R262, R268). -/
def pvEpochIn (q : Nat) (d : Dev) : Dev :=
  let x := pvIn d q
  let p := if x.pN = 0 ∨ x.pBad then none else some (x.pSum / (x.pN : Nat))
  let v := vPv d q
  let vOk := (ain d (prm d 0x7102 q)).res.valid && decide ((prm d 0x7030 0 : Rat) / 10 ≤ v ∧ v ≤ (prm d 0x7104 q : Rat) / 10)
  let waiting := x.mode = 0 || x.mode = 1
  let o := (cas d (pvCas d q)).out
  let sat := o.valid && o.sat && o.value = prmI d 0x2016 (pvCas d q)
  let run := (x.mode = 2 || x.mode = 3) && !sweeping d q
  let out := run && !(pvLegs d q).any (legOn d)
  let d1 := modPv q (fun y => { y with
    mode := if y.mode = 0 ∨ out then 1 else y.mode, pEp := p, pEp1 := y.pEp, pSum := 0, pN := 0, pBad := false,
    ilim := y.ilim && !out, vlim := y.vlim && !out,
    vHist := if (ain d (prm d 0x7102 q)).res.valid then (v :: y.vHist).take 1000 else y.vHist,
    startSince := if waiting && vOk && d.sys.st = .run then some (y.startSince.getD d.t) else none,
    avail := y.avail && !out && (y.mode ≠ 1 || (vOk && d.sys.st = .run)),
    epochs := if run then y.epochs + 1 else y.epochs, ps := if run then p :: y.ps else y.ps,
    satSeen := y.satSeen || sat }) d
  let d2 := ceilStep q d1
  if sweeping d2 q ∧ (pvIn d2 q).ceil < d2.pv.pBefore then sweepAbort d2 else d2

/-! ### Sweep requests (R263) -/

/-- Request a sweep of input `q`: ignored within pv.sweep.gap of the last, absorbed by one that waits. -/
def sweepRequest (q : Nat) (d : Dev) : Dev :=
  let gap := prm d 0x7011 0 * 400000000
  let soon : Bool := match (pvIn d q).lastEnd with
    | some a => decide (d.t < a + gap)
    | none => false
  if pvCount d ≤ q ∨ soon ∨ sweeping d q ∨ d.pv.queue.any (fun e => e.1 = q) then d
  else
    let (a, b) := d.pv.queue.span (fun e => e.2 < d.t || e.1 < q)
    { d with pv := { d.pv with queue := a ++ (q, d.t) :: b } }

/-- A shading suspicion by the conditions `src` (R263). Log entry 83 (DEDUCED). -/
def shade (q src : Nat) (d : Dev) : Dev :=
  sweepRequest q (raiseI 68 q (modPv q (fun x => { x with shade := true, shadeSrc := src }) d))

/-! ### Perturb and observe (R260 to R262) -/

/-- A step size held between step.min and step.max, in parts of Voc_est. Log entry 83 (DEDUCED). -/
def stepSize (d : Dev) (x : Rat) : Rat := clampR ((prm d 0x7006 0 : Rat) / 10000) ((prm d 0x7007 0 : Rat) / 1000) x

/-- The smallest step. Log entry 83 (DEDUCED). -/
def stepMin (d : Dev) : Rat := (prm d 0x7006 0 : Rat) / 10000

/-- A step of R260 for the interval power `p` with drift `dr`. Log entry 83 (DEDUCED). -/
def poStep (q : Nat) (p dr : Rat) (d : Dev) : Dev :=
  let x := pvIn d q
  let e := pEps d q
  let (dir, s) := match x.firstStep, x.pPrev with
    | false, some p0 =>
      let del := p - p0 - dr
      let s := stepSize d ((prm d 0x7005 0 : Rat) / 10 * absR del / pRated d q)
      if e < del then (x.dir, s) else if del < -e then (-x.dir, s) else (-x.dir, stepMin d)
    | _, _ => (x.dir, stepMin d)
  stepVref q ((dir : Rat) * s * x.voc) (modPv q (fun y => { y with dir := dir, firstStep := false }) d)

/-- A step of CURT (R262): a downward step is noted where one is taken. Log entry 83 (DEDUCED). -/
def curtStep (q : Nat) (p : Rat) (d : Dev) : Dev :=
  let x := pvIn d q
  let e := pEps d q
  let sc := stepSize d ((prm d 0x7035 0 : Rat) / 100 * absR (p - x.ceil) / pRated d q)
  let lost : Bool := match x.downP with
    | some p0 => decide (p < p0 - e)
    | none => false
  if lost then poStep q p 0 (modPv q (fun y => { y with mode := 2, dir := 1, firstStep := true, downP := none }) d)
  else if x.ceil < p then stepVref q (sc * x.voc) (modPv q (fun y => { y with downP := none }) d)
  else if p < x.ceil - e then
    let taken := !stepBarred x (-(sc * x.voc)) && decide ((limVref d q (x.vref - sc * x.voc)).1 < x.vref)
    stepVref q (-(sc * x.voc)) (modPv q (fun y => { y with downP := if taken then some p else none }) d)
  else modPv q (fun y => { y with downP := none }) d

/-- The conditions that pv.shade.t and pv.stop.t time, at the end of an interval (R258, R263). -/
def pvHolds (q : Nat) (p : Rat) (d : Dev) : Dev :=
  let x := pvIn d q
  let rt := if x.voc = 0 then 0 else x.vref / x.voc
  let ratio := decide (rt < (prm d 0x7021 0 : Rat) / 100 ∨ (prm d 0x7022 0 : Rat) / 100 < rt)
  let yld := match othersMean (fun y => y.pBar) d q with
    | some m => decide (p / pRated d q < (prm d 0x7023 0 : Rat) / 100 * m)
    | none => false
  let stop := decide (p < (prm d 0x7032 0 : Rat) / 1000 * pRated d q)
  let upd := fun (c : Bool) (o : Option Nat) => if c then some (o.getD d.t) else none
  modPv q (fun y => { y with ratioSince := upd ratio y.ratioSince, yieldSince := upd yld y.yieldSince,
                             stopSince := upd stop y.stopSince }) d

/-- An interval of a PV input has run its epochs and is to be judged. -/
def intervalOver (d : Dev) (x : PvIn) : Bool := (x.mode = 2 || x.mode = 3) && decide (prm d 0x7003 0 ≤ x.epochs)

/-- Mean of the powers of some epochs; with none the spec gives no value. Log entry 83 (DEDUCED). -/
def meanPs (d : Dev) (xs : List Rat) : Rat := if xs = [] then Config.freeRat d.free else meanRat xs

/-- The two halves of an interval, oldest first, and h (R260); none where it contains an absent P (R259).
Log entry 83 (DEDUCED). -/
def intervalHalves (d : Dev) (x : PvIn) : Option (List Rat × List Rat × Nat) :=
  let all := (x.ps.take (prm d 0x7003 0)).reverse
  if all.any (fun p => p.isNone) then none
  else
    let ps := (all.drop (prm d 0x7004 0)).filterMap id
    let half := ps.length / 2
    some (ps.take half, ps.drop (ps.length - half), (ps.length + 1) / 2)

/-- P̄ of an input over the interval last ended and over the one before it: an interval that ends at this tick and has not
been judged yet counts. Log entry 83 (DEDUCED). -/
def pLatest (d : Dev) (x : PvIn) : Option Rat :=
  if intervalOver d x then
    match intervalHalves d x with
    | some (a, b, _) => some (meanPs d (a ++ b))
    | none => x.pBar
  else x.pBar

/-- P̄ of the interval before that of `pLatest`. Log entry 83 (DEDUCED). -/
def pBefore (d : Dev) (x : PvIn) : Option Rat :=
  if intervalOver d x && (intervalHalves d x).isSome then x.pBar else x.pPrev

/-- The drop condition of R263 for the new power `p` of input `q`, whose last one stands. Log entry 83 (DEDUCED). -/
def dropSeen (d : Dev) (q : Nat) (p : Rat) : Bool :=
  match (pvIn d q).pBar with
  | none => false
  | some p0 =>
    let dp := (prm d 0x7020 0 : Rat) / 100
    if p < (1 - dp) * p0 then
      match othersMean (pLatest d) d q, othersMean (pBefore d) d q with
      | some now, some was => decide (¬ (0 < was ∧ dp / 2 ≤ (was - now) / was))
      | _, _ => true
    else false

/-- `PO_INTERVAL_END`: the interval of input `q` ends at an epoch tick (R260); one with an absent P is skipped (R259). -/
def poEnd (q : Nat) (d : Dev) : Dev :=
  let x := pvIn d q
  let n := prm d 0x7003 0
  if q < pvCount d ∧ intervalOver d x ∧ ¬ sweeping d q ∧ d.t % 400000 = 0 then
    let d0 := modPv q (fun y => { y with epochs := 0, ps := [], satSeen := false }) d
    match intervalHalves d x with
    | none => d0
    | some (a, b, h) =>
      let p := meanPs d (a ++ b)
      let dr := (meanPs d b - meanPs d a) * (n : Nat) / (h : Nat)
      let df := if a = [] then { d0 with free := d0.free + 1 } else d0
      let d1 := if dropSeen df q p then shade q 1 df else df
      let d2 := modPv q (fun y => { y with satSeen := x.satSeen }) (pvHolds q p d1)
      let d3 := if x.mode = 2 ∧ (pvIn d2 q).ceil < p then
          modPv q (fun y => { y with mode := 3, downP := none }) d2 else d2
      let prev := modPv q (fun y => { y with pPrev := x.pBar }) d3
      let d4 := if (pvIn prev q).mode = 3 then curtStep q p prev else poStep q p dr prev
      modPv q (fun y => { y with pPrev := x.pBar, pBar := some p, satSeen := false }) d4
  else d

def execPoIntervalEnd (t q : Nat) (s : State) : Host.Outcome State Fault Refusal := lift t (poEnd q) s

/-! ### Start and stop (R257, R258) -/

/-- The voltage of input `q` has stayed in its range for pv.start.t: the Setter may place its legs. -/
def startHold (q : Nat) (d : Dev) : Dev :=
  match (pvIn d q).startSince with
  | some a => if q < pvCount d ∧ (pvIn d q).mode = 1 ∧ a + prm d 0x7031 0 * 400000000 ≤ d.t then
      modPv q (fun x => { x with avail := true }) d else d
  | none => d

def execPvStartHold (t q : Nat) (s : State) : Host.Outcome State Fault Refusal := lift t (startHold q) s

/-- P̄ has stayed below pv.p.stop for pv.stop.t: the input releases its legs to the Setter and waits again. -/
def stopHold (q : Nat) (d : Dev) : Dev :=
  match (pvIn d q).stopSince with
  | some a => if q < pvCount d ∧ ((pvIn d q).mode = 2 ∨ (pvIn d q).mode = 3) ∧ a + prm d 0x7033 0 * 400000000 ≤ d.t then
      modPv q (fun x => { x with mode := 1, avail := false, stopSince := none, startSince := none, ratioSince := none,
                                 yieldSince := none, pBar := none, pPrev := none, epochs := 0, ps := [], vNext := none,
                                 ilim := false, vlim := false }) d else d
  | none => d

def execPvStopHold (t q : Nat) (s : State) : Host.Outcome State Fault Refusal := lift t (stopHold q) s

/-- v_dc in V. -/
def vDc (d : Dev) : Rat := eng d (prm d 0x5013 0)

/-- State s1 of a current loop so that its output is `v` / v_dc (R257, R291). -/
def seedLoop (c : Nat) (v : Rat) (d : Dev) : Dev := if vDc d = 0 then putStates c 0 0 d else putStates c (v / vDc d) 0 d

/-- A leg of PV input `q` enters service (R257); an input that waited starts to track from open circuit. -/
def pvLegEnter (q n : Nat) (d : Dev) : Dev :=
  let d1 := seedLoop (pvLegCas d n) (vPv d q) d
  if (pvIn d1 q).mode = 1 then
    let v := vPv d1 q
    let d2 := putStates (pvCas d1 q) 0 0 d1
    let d3 := modPv q (fun x => { x with
      mode := 2, voc := meanRat x.vHist, dir := 1, firstStep := true, pBar := none, pPrev := none, epochs := 0,
      ps := [], trackT := d1.t, startDone := false, stopSince := none, ratioSince := none, yieldSince := none,
      downP := none, satSeen := false, avail := false, vNext := none, ilim := false, vlim := false }) d2
    setVref q v 0 d3
  else d1

/-! ### Sweeps (R263 to R268) -/

/-- `SHADE_HOLD_EXPIRY`: the ratio or the yield condition has held for pv.shade.t. -/
def shadeHold (q : Nat) (yld : Bool) (d : Dev) : Dev :=
  let since := if yld then (pvIn d q).yieldSince else (pvIn d q).ratioSince
  match since with
  | some a => if q < pvCount d ∧ pvTracks d q ∧ a + prm d 0x7024 0 * 400000000 ≤ d.t then
      shade q (if yld then 4 else 2) (modPv q (fun x =>
        if yld then { x with yieldSince := some d.t } else { x with ratioSince := some d.t }) d) else d
  | none => d

def execShadeHoldExpiry (t q : Nat) (yld : Bool) (s : State) : Host.Outcome State Fault Refusal :=
  lift t (shadeHold q yld) s

/-- The period of the scheduled sweeps of input `q` is up at this epoch tick (R263): the instants are q / Q of a period after
the whole periods of network time, taken at the first tick from then on. Log entry 83 (DEDUCED). -/
def sweepDue (d : Dev) (q : Nat) : Bool :=
  let p := prm d 0x7010 0 * 60 * 400000000
  let n := pvCount d
  d.t % 400000 = 0 && decide (0 < p ∧ (d.t * n + p * n - p * q) % (p * n) < 400000 * n)

/-- `SWEEP_SCHEDULED`: the period of input `q` is up. -/
def sweepScheduled (q : Nat) (d : Dev) : Dev := if q < pvCount d ∧ sweepDue d q then sweepRequest q d else d

def execSweepScheduled (t q : Nat) (s : State) : Host.Outcome State Fault Refusal := lift t (sweepScheduled q) s

/-- `SWEEP_AFTER_START`: 10 s after the input has started to track. -/
def sweepAfterStart (q : Nat) (d : Dev) : Dev :=
  if prm d 0x7015 0 = 1 ∧ pvTracks d q ∧ ¬ (pvIn d q).startDone ∧ (pvIn d q).trackT + 4000000000 ≤ d.t then
    sweepRequest q (modPv q (fun x => { x with startDone := true }) d)
  else d

def execSweepAfterStart (t q : Nat) (s : State) : Host.Outcome State Fault Refusal := lift t (sweepAfterStart q) s

/-- `PV_SWEEP_GO`: a write of 1 to pv[q].sweep.go. -/
def sweepGo (q : Nat) (d : Dev) : Dev :=
  if 16 ≤ q then answer 8 (0x7108 + 65536 * q) d else answer 0 0 (sweepRequest q d)

def execPvSweepGo (t cls q : Nat) (s : State) : Host.Outcome State Fault Refusal := lift t (immediate cls 1 (sweepGo q)) s

/-- `PV_P_MAX_WRITE`: an immediate write of pv[q].p.max, which acts at the next epoch. -/
def pMaxWrite (q v : Nat) (d : Dev) : Dev :=
  if 16 ≤ q ∨ 1000 < v then answer 8 (0x7107 + 65536 * q) d else answer 0 0 (setPrm 0x7107 q v d)

def execPvPMaxWrite (t cls q v : Nat) (s : State) : Host.Outcome State Fault Refusal :=
  lift t (immediate cls 1 (pMaxWrite q v)) s

/-- Battery discharge power P_bat in W: the string voltages times the latest currents of their legs (R293). -/
def pBat (d : Dev) : Rat :=
  (List.range (prm d 0x8011 0)).foldl (fun a s =>
    a + pointNum (point d (prm d 0x8103 s)) *
      ((List.range (prm d 0x8101 s)).foldl (fun b k => b + eng d (prm d 0x8110 (prm d 0x8100 s + k))) 0)) 0

/-- The conditions of R264 for a start at this tick, of a request that an earlier tick has left.
Log entry 84 (DEDUCED). -/
def sweepMayStart (d : Dev) (q : Nat) : Bool :=
  let x := pvIn d q
  let u := prm d 0x7002 0
  d.t % 400000 = 0 && d.pv.sweepPh = 0 && d.pv.queue.head?.any (fun e => e.1 = q && decide (e.2 < d.t)) && runLike d && prm d 0x5050 0 = 1 && x.mode = 2 &&
    decide (u < 4) && (unit d u).st = 0 && d.cask.up &&
    decide (x.pBar.getD 0 ≤ d.setr.hDis - pBat d ∧ pRated d q - x.pBar.getD 0 ≤ d.setr.hCh + pBat d)

/-- `SWEEP_START`: the descent begins (R264, R265). Log entry 84 (DEDUCED). -/
def sweepStart (q : Nat) (d : Dev) : Dev :=
  if q < pvCount d ∧ sweepMayStart d q then
    let x := pvIn d q
    let v := x.voc * 55 / 100
    let d1 := { d with pv := { d.pv with
      sweepQ := q, sweepPh := 2, queue := d.pv.queue.tail, vop := x.vref, pBefore := x.pBar.getD 0,
      others := othersMean (fun y => y.pEp1) d q, target := v, aborted := false, rec_ := [],
      reachAt := reachTick d q (toCode d (prm d 0x7102 q) v) } }
    setVref q v (pvRate d1 q) (modPv q (fun y => { y with mode := 4, vNext := none }) d1)
  else d

def execSweepStart (t q : Nat) (s : State) : Host.Outcome State Fault Refusal := lift t (sweepStart q) s

/-- `SWEEP_DEFER_EXPIRY`: a request that has not started within pv.sweep.defer is dropped (R264). -/
def sweepDefer (q : Nat) (d : Dev) : Dev :=
  if d.pv.queue.any (fun e => e.1 = q && e.2 + prm d 0x7012 0 * 400000000 ≤ d.t) then
    countSkip q { d with pv := { d.pv with queue := d.pv.queue.filter (fun e => e.1 ≠ q) } }
  else d

def execSweepDeferExpiry (t q : Nat) (s : State) : Host.Outcome State Fault Refusal := lift t (sweepDefer q) s

/-- The results of a rising phase of input `q`: 40 ms of its voltage input. -/
def riseLen (d : Dev) (q : Nat) : Nat := (ownRate d (prm d 0x7102 q) / 25).floor.toNat

/-- Configure the sweep unit for input `q` and trigger it (R324). Log entry 84 (DEDUCED). -/
def sweepRecord (u q : Nat) (d : Dev) : Dev :=
  let ls := pvLegs d q
  let d1 := [(0xA000, 1), (0xA001, 1 + ls.length), (0xA002, riseLen d q), (0xA003, 0), (0xA00F, 1)].foldl
    (fun e kv => setPrm kv.1 u kv.2 e) d
  let d2 := (((prm d 0x7102 q) :: ls.map (pvAin d)).zipIdx).foldl (fun e (i, k) =>
    setPrm 0xA010 (16 * u + k) (0x1000 + i) e) d1
  modUnit u (fun x => { x with
    st := 3, ring := [], waiting := [], decN := 0, trigT := some d.t, trigSrc := 0x600, origin := 0, trg := none,
    post := 0, groupSeq := 0, maskViol := 0, firstViol := none, endCode := 0, stTrg := stCode d.sys.st,
    tripSeen := false, islandSeen := false, damaged := false, tested := none, endAt := none }) d2

/-- `SWEEP_RISING_START`: pv.po.settle after the reference has reached 0.55 × Voc_est (R265). -/
def sweepRise (d : Dev) : Dev :=
  let q := d.pv.sweepQ
  if d.t % 400000 = 0 ∧ d.pv.sweepPh = 2 ∧ d.pv.reachAt + prm d 0x7004 0 * ticksPerMs ≤ d.t then
    let v := (pvIn d q).voc
    let d1 := { d with pv := { d.pv with sweepPh := 3, riseT := d.t, rec_ := [] } }
    let d2 := setVref q v (pvRate d1 q) d1
    let u := prm d 0x7002 0
    if u < 4 then sweepRecord u q d2 else d2
  else d

def execSweepRisingStart (t : Nat) (s : State) : Host.Outcome State Fault Refusal := lift t sweepRise s

/-- Centred means over 2a + 1 samples, within the record (R266). Log entry 84 (DEDUCED). -/
def smooth (a : Nat) (ps : List Rat) : List Rat :=
  (List.range ps.length).map (fun j => meanRat ((ps.drop (j - a)).take (j + a + 1 - (j - a))))

/-- The number of local maxima: the largest within ±16 samples and at least half of the largest of all.
Log entry 84 (DEDUCED). -/
def localMaxima (pg : Rat) (ps : List Rat) : Nat :=
  ((List.range ps.length).filter (fun j =>
    let w := (ps.drop (j - 16)).take (j + 17 - (j - 16))
    let p := ps.getD j 0
    decide (w.all (fun x => x ≤ p) ∧ pg / 2 ≤ p))).length

/-- The voltage of zero current on the least-squares line through (v, i) pairs; none where the line has no slope.
Log entry 84 (DEDUCED). -/
def zeroCurrent (xs : List (Rat × Rat)) : Option Rat :=
  let n : Rat := (xs.length : Nat)
  let si := xs.foldl (fun a x => a + x.2) 0
  let sv := xs.foldl (fun a x => a + x.1) 0
  let sii := xs.foldl (fun a x => a + x.2 * x.2) 0
  let siv := xs.foldl (fun a x => a + x.1 * x.2) 0
  let den := n * sii - si * si
  if den = 0 then none else some ((sv * sii - si * siv) / den)

/-- Voc_est after a sweep (R267), and whether a new request is due. Log entry 84 (DEDUCED). -/
def newVoc (d : Dev) (q : Nat) : Rat × Bool :=
  let xs := d.pv.rec_
  let big := xs.foldl (fun a x => maxR a x.2) 0
  let last := (xs.getLast?.map (fun x => x.2)).getD 0
  let vmax := (prm d 0x7104 q : Rat) / 10
  if last < big / 20 then
    match zeroCurrent (xs.drop (xs.length - 16)) with
    | some v => (v, false)
    | none => (Config.freeRat d.free, false)
  else (minR vmax ((pvIn d q).voc * 105 / 100), true)

/-- The return phase to `v` (R265), with the ceiling state at power `p`; the reference moves from the next tick on.
Log entry 84 (DEDUCED). -/
def sweepReturn (q : Nat) (v p : Rat) (d : Dev) : Dev :=
  let d1 := { d with pv := { d.pv with sweepPh := 5, target := v } }
  modPv q (fun x => { x with ceil := p, vNext := some v }) d1

/-- `SWEEP_RISING_END`: the tick 40 ms after the rising phase began ends the record; the extraction follows, or an abort
where the other inputs have moved (R265, R268). Log entry 84 (DEDUCED). -/
def sweepEnd (d : Dev) : Dev :=
  let q := d.pv.sweepQ
  if d.t % 400000 = 0 ∧ d.pv.sweepPh = 3 ∧ d.pv.riseT + 40 * ticksPerMs ≤ d.t then
    let moved : Bool := match d.pv.others, othersMean (fun y => y.pEp) d q with
      | some a, some b => decide ((prm d 0x7014 0 : Rat) / 100 < absR (b - a))
      | _, _ => false
    if moved then sweepAbort d else { d with pv := { d.pv with sweepPh := 4, extT := d.t } }
  else d

/-- The extraction at the tick that follows the rising phase, and the target of the return (R265 to R267).
Log entry 84 (DEDUCED). -/
def sweepExtract (d : Dev) : Dev :=
  let q := d.pv.sweepQ
  if d.pv.sweepPh = 4 ∧ d.pv.extT < d.t then
    let xs := d.pv.rec_
    let ps := smooth (prm d 0x7013 0 / 2) (xs.map (fun x => x.1 * x.2))
    let pg := ps.foldl maxR (ps.headD 0)
    let j := ps.findIdx (· = pg)
    let vg := (xs.getD j (0, 0)).1
    let (voc, again) := newVoc d q
    let d1 := modPv q (fun x => { x with
      vg := vg, pg := pg, nMax := localMaxima pg ps, swpDone := true, retry := again, voc := voc })
      { d with free := d.free + 1 }
    let d2 := raiseI 70 q d1
    if d.pv.pBefore + pEps d q < pg then
      let (v, lim) := limVref d2 q vg
      sweepReturn q v pg (modPv q (fun x => { x with vlim := lim }) d2)
    else sweepReturn q d.pv.vop d.pv.pBefore d2
  else d

/-- The epoch tick of PV: what was computed at an earlier tick lands, every enabled input takes its epoch, a sweep that has
ended its record is extracted, and the other inputs are disabled. Log entry 82 (DEDUCED). -/
def pvEpoch (d : Dev) : Dev :=
  let d1 := sweepExtract (forAll (pvCount d) (fun q x => pvEpochIn q (vrefLand q x)) d)
  forAll 16 (fun q x => if q < pvCount x then x else if (pvIn x q).mode = 0 then x else modPv q (fun _ => {}) x) d1

def execSweepRisingEnd (t : Nat) (s : State) : Host.Outcome State Fault Refusal := lift t sweepEnd s

/-- `SWEEP_RESUME`: pv.po.settle after the target is reached, R260 restarts (R265). -/
def sweepResume (d : Dev) : Dev :=
  let q := d.pv.sweepQ
  if d.t % 400000 = 0 ∧ d.pv.sweepPh = 5 ∧ (pvIn d q).vNext = none ∧ d.pv.reachAt + prm d 0x7004 0 * ticksPerMs ≤ d.t then
    setSpRate (pvCas d q) 0 (modPv q (fun x => { x with
      mode := if x.mode = 4 then 2 else x.mode, dir := 1, firstStep := true, lastEnd := some d.t, epochs := 0, ps := [],
      satSeen := false }) { d with pv := { d.pv with sweepPh := 0 } })
  else d

def execSweepResume (t : Nat) (s : State) : Host.Outcome State Fault Refusal := lift t sweepResume s

/-- `SWEEP_RETRY`: pv.sweep.gap after a sweep whose record did not reach open circuit (R267). -/
def sweepRetry (q : Nat) (d : Dev) : Dev :=
  match (pvIn d q).lastEnd with
  | some a => if (pvIn d q).retry ∧ a + prm d 0x7011 0 * 400000000 ≤ d.t then
      sweepRequest q (modPv q (fun x => { x with retry := false }) d) else d
  | none => d

def execSweepRetry (t q : Nat) (s : State) : Host.Outcome State Fault Refusal := lift t (sweepRetry q) s

/-! ### Status and points (R271 to R273) -/

/-- pv[q].stat (R271). -/
def pvStat (d : Dev) (q : Nat) : Nat :=
  let x := pvIn d q
  x.mode + 8 * b01 x.ilim + 16 * b01 x.vlim + 32 * b01 x.shade + 64 * b01 x.swpDone + 128 * b01 x.swpBad +
    256 * x.shadeSrc + 65536 * ((pvLegs d q).filter (inSvc d)).length

/-- Device points of PV, updated at every epoch tick (R273). -/
def pvPoints (d : Dev) : Dev :=
  forAll (pvCount d) (fun q e =>
    let x := pvIn e q
    let xs : List Rat := [vPv e q, x.iEp, x.pEp.getD 0 / 1000, x.vref, x.voc, x.vg, x.pg / 1000, (x.nMax : Nat)]
    (xs.zipIdx).foldl (fun y (v, i) => putF (0x50060 + 8 * q + i) v y) e) d

end Sys2Proof.Machine
end

