-- ==== Sys2Proof/Machine/PtnOps.lean ====
section
/-!
DEFINITION. CAN ports, their transmit queues, and what the device hands to its partner entries (R397 to R411, R417).
-/
namespace Sys2Proof.Machine

/-- CAN port `p`. -/
def canPort (d : Dev) (p : Nat) : CanPort := tget {} d.can.ports p

/-- Change CAN port `p`. -/
def modPort (p : Nat) (f : CanPort → CanPort) (d : Dev) : Dev :=
  { d with can := { d.can with ports := tmod {} p f d.can.ports } }

/-- Partner entry `e`. -/
def ptnEnt (d : Dev) (e : Nat) : PtnEnt := tget {} d.can.ents e

/-- Change partner entry `e`. -/
def modEnt (e : Nat) (f : PtnEnt → PtnEnt) (d : Dev) : Dev :=
  { d with can := { d.can with ents := tmod {} e f d.can.ents } }

/-- EV_CANOVF of port `p`, at most once per port per epoch (R404, R411). Log entry 121 (DEDUCED). -/
def canOvf (p : Nat) (d : Dev) : Dev :=
  if (canPort d p).ovfEp = ep d + 1 then d
  else raiseI 91 p (modPort p (fun x => { x with ovfEp := ep d + 1 }) { d with can := { d.can with ovf := true } })

/-- The states in which the ports run (R400): off in DOZE and CLASP, and before READY. Log entry 126 (DEDUCED). -/
def busesRun (d : Dev) : Bool :=
  d.sys.up && match d.sys.st with
  | .off | .clasp | .doze => false
  | _ => true

/-- The data lengths of a CAN frame; classical frames reach 8 (R415). -/
def canLens : List Nat := [0, 1, 2, 3, 4, 5, 6, 7, 8, 12, 16, 20, 24, 32, 48, 64]

/-- Pad data to the smallest data length that holds it. -/
def canPad (bs : List Byte) : List Byte := pad ((canLens.find? (fun n => bs.length ≤ n)).getD 64) bs

/-- Setter records that wait for a transmit entry move into the two reserved ones (R411). Log entry 124 (DEDUCED). -/
def fillReserved (p : Nat) (d : Dev) : Dev :=
  modPort p (fun x =>
    let n := (x.tx.filter (fun f => f.ent = none)).length
    { x with tx := x.tx ++ x.wait.take (2 - n), wait := x.wait.drop (2 - n) }) d

/-- Queue a Setter record on port `p`: two entries are reserved for them, and up to sixteen wait (R411).
Log entry 124 (DEDUCED). -/
def queueSetter (p idw : Nat) (bs : List Byte) (d : Dev) : Dev :=
  if 16 ≤ (canPort d p).wait.length then modPort p (fun x => { x with txDrop := incSat 4294967295 x.txDrop }) d
  else fillReserved p (modPort p (fun x => { x with wait := x.wait ++ [{ idw := idw, data := bs }] }) d)

/-- The arbitration rank of an identifier word: lower goes first; a base identifier precedes the extended ones that
share its bits (R408). Log entry 124 (DEDUCED). -/
def canRank (idw : Nat) : Nat := if bit idw 29 then 2 * (idw % 2 ^ 29) + 1 else 2 * ((idw % 2 ^ 11) * 2 ^ 18)

/-- The frame that goes next: one whose cancel waits for the bus, else the first in rank, equal ranks in the order
queued (R408, R410). Log entry 124 (DEDUCED). -/
def nextTx (xs : List CanTx) : Option CanTx :=
  match xs.find? (fun f => f.cancel) with
  | some f => some f
  | none => xs.foldl (fun b f => match b with
    | none => some f
    | some g => if canRank f.idw < canRank g.idw then some f else some g) none

/-- Ask for the cancel of the pending frame of entry and page `eg`: it succeeds at once where the frame cannot be on the
bus, that is in bus-off or behind another frame; else it waits for the bus (R410, R412). Log entry 124 (DEDUCED). -/
def cancelTx (p : Nat) (eg : Nat × Nat) (d : Dev) : Dev :=
  modPort p (fun x =>
    match x.tx.find? (fun f => f.ent = some eg) with
    | none => x
    | some f =>
      if x.st ≠ 2 ∧ nextTx x.tx = some f then
        { x with tx := x.tx.map (fun g => if g = f then { g with cancel := true } else g) }
      else { x with tx := x.tx.filter (fun g => g ≠ f) }) d

/-- Queue a value frame of entry `e`, page `g`, on port `p`; the previous frame of the page is replaced, and a frame
without a free unreserved entry is dropped (R409, R411). Log entry 124 (DEDUCED). -/
def queueValue (p e g idw : Nat) (bs : List Byte) (d : Dev) : Dev :=
  let d1 := cancelTx p (e, g) d
  let n := ((canPort d1 p).tx.filter (fun f => f.ent.isSome)).length
  if n + 2 < prm d 0xB00B p then
    modPort p (fun x => { x with tx := x.tx ++ [{ idw := idw, data := bs, ent := some (e, g) }] }) d1
  else canOvf p (modEnt e (fun x => { x with txFail := true })
    (modPort p (fun x => { x with txDrop := incSat 4294967295 x.txDrop }) d1))

/-- The header of a partner datagram (R418). Log entry 123 (DEDUCED). -/
def ptnHeader (typ page count vtype seq : Nat) : List Byte :=
  le 2 0x5A50 ++ [1] ++ le 1 typ ++ le 2 page ++ le 2 count ++ le 1 vtype ++ le 3 0 ++ le 4 seq

/-- Send a datagram to partner entry `e`. Log entry 123 (DEDUCED). -/
def sendPtn (e : Nat) (typ page count vtype : Nat) (bs : List Byte) (d : Dev) : Dev :=
  let b := ptnHeader typ page count vtype (ptnEnt d e).txSeq ++ bs
  let d1 := modEnt e (fun x => { x with txSeq := (x.txSeq + 1) % 2 ^ 32 }) d
  { d1 with mbx := { d1.mbx with sent := ⟨⟨prm d 0xB130 e, prm d 0xB131 e⟩, b⟩ :: d1.mbx.sent } }

/-- The 48 bytes of a Setter record (R277). Log entry 124 (DEDUCED). -/
def setRecBytes (r : SetRec) : List Byte :=
  le 4 r.seq ++ le 1 r.typ ++ le 1 r.reason ++ le 2 0 ++ le 8 r.landMs ++ le 6 r.legs ++ le 1 r.facet12 ++ le 1 0 ++
    le 4 (ofInt 32 r.pHi) ++ le 4 (ofInt 32 r.pLo) ++ pad 16 (r.share.map (BitVec.ofNat 8))

/-- A Setter publication goes to every subscriber (R417): one frame for the subscribers of a port with one identifier, a
datagram to each UDP subscriber, and over the Pendant lane to the peer (R436). A standby sends nothing (R400).
Log entry 124 (DEDUCED). -/
def sendSetRec (r : SetRec) (d : Dev) : Dev :=
  if d.sys.standby ∨ ¬ busesRun d then d
  else
    let subs := (List.range 4096).filter (fun e => prm d 0xB100 e ≠ 0 && bit (prm d 0xB120 e) 0)
    let cans := ((subs.filter (fun e => prm d 0xB100 e = 1)).map (fun e => (prm d 0xB101 e, prm d 0xB121 e))).eraseDups
    let d1 := cans.foldl (fun e pi => queueSetter pi.1 pi.2 (setRecBytes r) e) d
    let d2 := (subs.filter (fun e => prm d 0xB100 e = 2)).foldl (fun x e => sendPtn e 2 0 48 0 (setRecBytes r) x) d1
    let k := prm d2 0xC031 0
    if d2.pnd.role = 1 ∧ chainUp d2 k then { d2 with chain := { d2.chain with out := .setter k r :: d2.chain.out } } else d2

end Sys2Proof.Machine
end

