-- ==== Sys2Proof/Machine/SetterOps.lean ====
section
/-!
DEFINITION. The Setter: strings, the placement, intents and their landing (R220, R274 to R300, R585).
-/
namespace Sys2Proof.Machine

/-! ### Strings (R290 to R292) -/

/-- Number of enabled strings, and the legs of string `s`. -/
def strCount (d : Dev) : Nat := prm d 0x8011 0
def strLegs (d : Dev) (s : Nat) : List Nat := (List.range (prm d 0x8101 s)).map (fun k => prm d 0x8100 s + k)

/-- String `s` as the Setter holds it. -/
def str (d : Dev) (s : Nat) : Str := tget {} d.setr.strs s

/-- Change string `s`. -/
def modStr (s : Nat) (f : Str → Str) (d : Dev) : Dev := { d with setr := { d.setr with strs := tmod {} s f d.setr.strs } }

/-- Rack value `i` of string `s` (R290). -/
def rack (d : Dev) (s i : Nat) : Rat := pointNum (point d (prm d 0x8103 s + i))

/-- Age in ns of the oldest rack point of string `s`; none while one has no value. Log entry 87 (DEDUCED). -/
def rackAge (d : Dev) (s : Nat) : Option Nat :=
  (List.range 5).foldl (fun a i =>
    let x := point d (prm d 0x8103 s + i)
    match a with
    | some m => if x.valid then some (max m (tNs d - x.tNs)) else none
    | none => none) (some 0)

/-- The rack points are no older than set.rack.stale. Log entry 87 (DEDUCED). -/
def rackFresh (d : Dev) (s : Nat) : Bool :=
  match rackAge d s with
  | some a => decide (a ≤ prm d 0x8013 0 * 1000000)
  | none => false

/-- The rack lets string `s` be used: status 1, and its points fresh or inside the hold of R290.
Log entry 87 (DEDUCED). -/
def rackOk (d : Dev) (s : Nat) : Bool := rack d s 4 = 1 && !(str d s).lost && (rackAge d s).isSome

/-- String `s` is available (R290). Log entry 87 (DEDUCED). -/
def strAvail (d : Dev) (s : Nat) : Bool := s < strCount d && rackOk d s && (strLegs d s).all (legOn d)

/-- Rack limits per leg (R291): discharge and charge. -/
def iDis (d : Dev) (s : Nat) : Rat := minR (rack d s 2) (prm d 0x8104 s) / (prm d 0x8101 s : Nat)
def iCh (d : Dev) (s : Nat) : Rat := minR (rack d s 3) (prm d 0x8104 s) / (prm d 0x8101 s : Nat)

/-- H_s of R292 for discharge and charge, in W. -/
def hDisOf (d : Dev) (s : Nat) : Rat := rack d s 0 * iDis d s * (prm d 0x8101 s : Nat)
def hChOf (d : Dev) (s : Nat) : Rat := rack d s 0 * iCh d s * (prm d 0x8101 s : Nat)

/-- Owned battery cascades (R291). -/
def batOwned (d : Dev) (c : Nat) : Bool :=
  1 ≤ strCount d && prm d 0x8010 0 ≤ c && c < prm d 0x8010 0 + strCount d + (legsOfRole d 3).length
def batLegCas (d : Dev) (n : Nat) : Nat := prm d 0x8010 0 + strCount d + rankOf (legsOfRole d 3) n

/-- Cascade `c` is one that the device owns: grid synthesis, PV or battery (R174, R256, R291). -/
def casOwned (d : Dev) (c : Nat) : Bool := gsOwned d c || pvOwned d c || batOwned d c

/-- The limits of R(s), from the rack (R291). -/
def limStr (s : Nat) (d : Dev) : Dev :=
  let c := prm d 0x8010 0 + s
  let i := prm d 0x8110 (prm d 0x8100 s)
  setPrm 0x2016 c (ofInt 32 (toCode d i (iDis d s))) (setPrm 0x2017 c (ofInt 32 (toCode d i (-(iCh d s)))) d)

/-- Limits and weight of R(s), from the rack and the share in force (R291, R292). -/
def putStr (s : Nat) (w : Rat) (d : Dev) : Dev :=
  let c := prm d 0x8010 0 + s
  let e := fitExp [w] 7 0
  putExp c 0 e (putWeights c [w / pow2 e] (limStr s d))

/-- Build the battery cascades (R291). -/
def buildBat (d : Dev) : Dev :=
  let d1 := forAll (strCount d) (fun s x =>
    let c := prm x 0x8010 0 + s
    putStr s (tget 0 x.setr.weights s) (ownCas c [0x2000 + gsE x + 12] 1 1 (prm x 0x5013 0) x)) d
  forAll (strCount d) (fun s x => (strLegs x s).foldl (fun y n =>
    buildLoop (batLegCas y n) (prm y 0x8010 0 + s) (prm y 0x8110 n) n (prmF y 0x8015 0) (prm y 0x8016 0) y) x) d1

/-- Build every owned cascade, and give the host's words back where they were (R173, R255, R291). -/
def buildOwned (d : Dev) : Dev := buildBat (buildPv (buildGs d))

/-! ### Publications (R277) -/

/-- Publish a record: EV_SETPLACE, the numbering of R277, and the subscribers of R417. Log entry 86 (DEDUCED). -/
def publish (r : SetRec) (d : Dev) : Dev :=
  let d1 := { d with setr := { d.setr with last := r, published := r :: d.setr.published } }
  let d2 := if r.typ = 1 ∨ r.typ = 4 then
      journal (.setSeq r.seq) (setPrm 0x8130 0 r.seq { d1 with setr := { d1.setr with seq := r.seq } }) else d1
  let d3 := if r.typ = 2 then { d2 with setr := { d2.setr with retract := true } } else d2
  sendSetRec r (raiseI 72 0 d3)

/-- Retract the outstanding intent, with its number (R277, R279, R280, R282). Log entry 86 (DEDUCED). -/
def retract (reason : Nat) (d : Dev) : Dev :=
  match d.setr.intent with
  | some r => publish { r with typ := 2, reason := reason } { d with setr := { d.setr with intent := none, shed := [] } }
  | none => d

/-- Legs in service or entering, as a mask. -/
def legMask (d : Dev) : Nat := maskOf 48 (legOn d)

/-- The shares in force, in 1/250. -/
def shares (d : Dev) : List Nat := (List.range 16).map (fun s => (str d s).share)

/-- A fact record of the live state (R279). Log entry 86 (DEDUCED). -/
def factRec (reason : Nat) (d : Dev) : SetRec :=
  { seq := (d.setr.seq + 1) % 2 ^ 32, typ := 4, reason := reason, landMs := tMs d, legs := legMask d,
    facet12 := d.acq.spareFor, pHi := d.setr.pHi, pLo := d.setr.pLo, share := shares d }

/-! ### The placement (R283 to R289) -/

/-- A leg carries a latch that keeps it out (R284). -/
def legLatched (d : Dev) (n : Nat) : Bool :=
  (win d n).lat || (leg d n).dfltLat || (leg d n).duvLat || (leg d n).shootTrip || testFail (win d n) || (leg d n).barred

/-- The cascade that drives a leg, and whether all its sources are valid (R284). -/
def driverValid (d : Dev) (n : Nat) : Bool :=
  match driver d n with
  | some c => (sources d c).isSome
  | none => true

/-- The Setter may return a leg that left only through a halt or as a companion (R284). -/
def mayRet (d : Dev) (n : Nat) : Bool :=
  prm d 0x8009 0 = 1 && driverValid d n &&
    decide (((leg d n).returns.filter (fun a => d.t < a + 1440000000000)).length < 4)

/-- Leg `n` is free and can be placed (R283, R284, R288); above 100 °C none is (R580). -/
def canPlace (d : Dev) (n : Nat) : Bool :=
  role d n ≠ 0 && !(leg d n).held && !legOn d n && !legLatched d n && (win d n).testing.isNone &&
    !(d.setr.testQueue.any (fun e => e.1 = n)) && (!(leg d n).mayReturn || mayRet d n) && decide (d.boot.tDie ≤ 100)

/-- A bridge that is down and can be placed whole. -/
def bridgeFree (d : Dev) (k : Nat) : Bool :=
  brEnabled d k && !brAvail d k && (brLegs d k).all (fun n => canPlace d n || legOn d n)

/-- A bridge that left only through a halt or as a companion. -/
def bridgeReturns (d : Dev) (k : Nat) : Bool := bridgeFree d k && (brLegs d k).any (fun n => (leg d n).mayReturn)

/-- Stress of a bridge in hours (R287). Log entry 85 (DEDUCED). -/
def brStress (d : Dev) (k : Nat) : Rat := (brLegs d k).foldl (fun a n => a + (leg d n).stress) 0

/-- The element of a list with the smallest value of `f`, the first at ties. Log entry 85 (DEDUCED). -/
def argMin (f : Nat → Rat) (xs : List Nat) : Option Nat :=
  xs.foldl (fun a x => match a with
    | some b => if f x < f b then some x else some b
    | none => some x) none

/-- How many of the bridges `on` belong to set `s`. -/
def onInSet (d : Dev) (on : List Nat) (s : Nat) : Nat := (on.filter (fun k => prm d 0x5061 k = s)).length

/-- The bridge to add (R286): of the set with the fewest in service, the free one with the lowest stress.
Log entry 85 (DEDUCED). -/
def pickAdd (d : Dev) (on free : List Nat) : Option Nat :=
  let sets := (List.range 4).filter (fun s => free.any (fun k => prm d 0x5061 k = s))
  match argMin (fun s => (onInSet d on s : Nat)) sets with
  | some s => argMin (brStress d) (free.filter (fun k => prm d 0x5061 k = s))
  | none => none

/-- The bridge to remove (R286): of the set with the most in service, the one with the highest stress.
Log entry 85 (DEDUCED). -/
def pickRemove (d : Dev) (on : List Nat) : Option Nat :=
  match argMin (fun s => -((onInSet d on s : Nat) : Rat)) (List.range 4) with
  | some s => argMin (fun k => -(brStress d k)) (on.filter (fun k => prm d 0x5061 k = s))
  | none => none

/-- The swap of a rotation within set `s` (R287): out and in. Log entry 85 (DEDUCED). -/
def rotSwap (d : Dev) (on free : List Nat) (s : Nat) : Option (Nat × Nat) :=
  match argMin (fun k => -(brStress d k)) (on.filter (fun k => prm d 0x5061 k = s)),
        argMin (brStress d) (free.filter (fun k => prm d 0x5061 k = s)) with
  | some o, some i => if (prm d 0x8007 0 : Rat) < brStress d o - brStress d i then some (o, i) else none
  | _, _ => none

/-- Voluntary leg changes are frozen (R220). -/
def frozen (d : Dev) : Bool := d.sys.st = .ride || (d.sys.st = .form && d.sys.formAuto)

/-- The Setter places legs: RUN, SERVICE from RUN, and FORM by request. -/
def places (d : Dev) : Bool := runLike d || (d.sys.st = .form && !d.sys.formAuto)

/-- Everything free is placed: no shedding, or a FORM by request (R285). Log entry 85 (DEDUCED). -/
def placesAll (d : Dev) : Bool := prm d 0x8001 0 = 0 || d.sys.st = .form

/-- Legs of PV inputs and strings after the next placement (R258, R269, R289). -/
def dcLegs (d : Dev) : List Nat :=
  let pv := (List.range (pvCount d)).flatMap (fun q =>
    let x := pvIn d q
    if sweeping d q then (pvLegs d q).filter (legOn d)
    else if x.mode = 1 && !x.avail then []
    else (pvLegs d q).filter (fun n => legOn d n && !(leg d n).held || canPlace d n))
  let bat := (List.range (strCount d)).flatMap (fun s =>
    (strLegs d s).filter (fun n => legOn d n && !(leg d n).held || (rackOk d s && canPlace d n)))
  pv ++ bat

/-- Apparent power S_f of R285. -/
def loadOf (d : Dev) : Rat := d.setr.sf

/-- A placement as computed: bridges, legs, what was shed, its reason, and whether the removal condition holds. -/
structure Plan where
  on : List Nat
  shed : List Nat
  reason : Nat
  low : Bool
  deriving DecidableEq, Repr

/-- The bridges of the next placement (R284 to R287). `held` is whether the removal condition has held long enough.
Log entry 85 (DEDUCED). -/
def planBridges (d : Dev) (longLow : Bool) : Plan :=
  let now := (List.range 16).filter (brAvail d)
  if frozen d then ⟨now, [], 7, false⟩
  else if !places d then ⟨now, [], 0, false⟩
  else
    let stay := now.filter (fun k => !(brLegs d k).any (fun n => (leg d n).held))
    let host := decide (stay ≠ now) || d.setr.hostChange
    let free := (List.range 16).filter (bridgeFree d)
    let back := free.filter (bridgeReturns d)
    let base := if host then 2 else if back ≠ [] then 5 else 0
    let on1 := stay ++ back
    let free1 := free.filter (fun k => !back.contains k)
    if placesAll d then ⟨on1 ++ free1, [], base, false⟩
    else
      let m := on1.length
      let u := if m = 0 then 0 else loadOf d * (mCfg d : Nat) / (m : Nat)
      let low := decide (1 < m ∧ loadOf d * (mCfg d : Nat) < centi d 0x8004 * ((m - 1 : Nat) : Rat) ∧ prm d 0x8002 0 < m)
      if centi d 0x8003 < u ∨ m = 0 then
        match pickAdd d on1 free1 with
        | some k => ⟨on1 ++ [k], [], base, low⟩
        | none => ⟨on1, [], base, low⟩
      else if low ∧ longLow then
        match pickRemove d on1 with
        | some k => ⟨on1.filter (· ≠ k), [k], base, low⟩
        | none => ⟨on1, [], base, low⟩
      else if d.setr.rotDue then
        let sw := (List.range 4).filterMap (rotSwap d on1 free1)
        if sw = [] then ⟨on1, [], base, low⟩
        else ⟨on1.filter (fun k => !sw.any (fun e => e.1 = k)) ++ sw.map (fun e => e.2), [], 1, low⟩
      else ⟨on1, [], base, low⟩

/-- The legs of a plan as a mask. Log entry 85 (DEDUCED). -/
def planMask (d : Dev) (p : Plan) : Nat :=
  if frozen d then legMask d
  else if places d then
    let ls := p.on.flatMap (brLegs d) ++ dcLegs d
    maskOf 48 (fun n => ls.contains n)
  else legMask d

/-- Strings that are available once the legs of `mask` are in service. Log entry 85 (DEDUCED). -/
def planStrs (d : Dev) (mask : Nat) : List Nat :=
  (List.range (strCount d)).filter (fun s => rackOk d s && (strLegs d s).all (bit mask))

/-- Shares and weights of R292 over the strings `ss`: string, share, weight. Log entry 85 (DEDUCED). -/
def planShares (d : Dev) (ss : List Nat) : List (Nat × Rat × Rat) :=
  let up := 0 ≤ d.setr.dcSum
  let sg : Rat := if up then 1 else -1
  let soc := meanRat (ss.map (fun s => rack d s 1))
  let g := fun (s : Nat) =>
    (if up then hDisOf d s else hChOf d s) * maxR 0 (1 + sg * centi d 0x8012 * (rack d s 1 - soc))
  let sum := ss.foldl (fun a s => a + g s) 0
  ss.map (fun s =>
    let sh := if sum = 0 then 0 else g s / sum
    let i := fullScale d (prm d 0x8110 (prm d 0x8100 s))
    let w := if rack d s 0 = 0 ∨ i = 0 then 0 else sh * 2 * sBase d / (rack d s 0 * (prm d 0x8101 s : Nat) * i)
    (s, sh, w))

/-- The bounds of R293 for `m` bridges and strings `ss`: P_HI and P_LO in 0.0001 pu, H_dis and H_ch in W.
Log entry 85 (DEDUCED). -/
def planBounds (d : Dev) (m : Nat) (ss : List Nat) : Int × Int × Rat × Rat :=
  let pv := ((List.range (pvCount d)).filter (pvTracks d)).foldl (fun a q => a + (pvIn d q).pBar.getD 0) 0
  let hd := ss.foldl (fun a s => a + hDisOf d s) 0
  let hc := ss.foldl (fun a s => a + hChOf d s) 0
  let part := if mCfg d = 0 then 0 else (m : Rat) / (mCfg d : Nat) * milli d 0x503A
  (roundAway (10000 * minR part ((pv + hd) / sBase d)), roundAway (10000 * maxR (-part) ((pv - hc) / sBase d)), hd, hc)

/-- The PV ceilings of R293 in W. -/
def pvCeilings (d : Dev) (hc : Rat) : Tab Rat :=
  let tot := (List.range (pvCount d)).foldl (fun a q => a + pRated d q) 0
  (List.range (pvCount d)).map (fun q =>
    (q, if tot = 0 then 0 else (hc + maxR d.gs.pR 0 * sBase d) * pRated d q / tot))

/-- The core Facet that Facet 12 is to serve (R275, R295): the faulty one that the priorities choose, or the one that it serves
in the rotation. Log entry 85 (DEDUCED). -/
def facetPlan (d : Dev) : Nat :=
  let c := spareChoice d
  if c = 15 ∨ d.acq.spareFlt then d.acq.spareFor else c

/-- The record of a placement computed now, with its weights and what it sheds. Log entry 85 (DEDUCED). -/
def planRec (d : Dev) (longLow : Bool) (reason0 : Option Nat) : SetRec × Tab Rat × Plan :=
  let p := planBridges d longLow
  let mask := planMask d p
  let ss := planStrs d mask
  let sh := planShares d ss
  let (hi, lo, _, _) := planBounds d p.on.length ss
  let share := (List.range 16).map (fun s =>
    match sh.find? (fun e => e.1 = s) with
    | some e => (roundAway (e.2.1 * 250)).toNat
    | none => 0)
  let facet := facetPlan d
  let strDiff := decide (((List.range (strCount d)).filter (strAvail d)) ≠ ss)
  let reason := reason0.getD (if p.reason ≠ 0 then p.reason else if facet ≠ d.setr.facet12 then 4
    else if strDiff then 3 else 0)
  ({ seq := (d.setr.seq + 1) % 2 ^ 32, typ := 1, reason := reason, landMs := tMs d, legs := mask, facet12 := facet,
     pHi := hi, pLo := lo, share := share }, sh.map (fun e => (e.1, e.2.2)), p)

/-- A placement differs from the one in force (R275). -/
def differs (d : Dev) (r : SetRec) : Bool :=
  r.legs ≠ legMask d || r.facet12 ≠ d.setr.facet12 || decide (50 < absI (r.pHi - d.setr.pHi)) ||
    decide (50 < absI (r.pLo - d.setr.pLo)) ||
    (List.range 16).any (fun s => decide ((prm d 0x8017 0 : Int) < absI ((r.share.getD s 0 : Int) - ((str d s).share : Int))))

/-- The length of a placement cycle in ms (R274). -/
def cycleLen (d : Dev) : Nat := if prm d 0x5002 0 = 60 then 17 else 20

/-- The next cycle start after now, in ms. Log entry 86 (DEDUCED). -/
def nextCycle (d : Dev) : Nat :=
  let n := cycleLen d
  if d.time.valid then (tMs d / n + 1) * n else d.setr.cycleMs + ((tMs d - d.setr.cycleMs) / n + 1) * n

/-- Publish a placement as an intent that lands at `landMs`, if it differs; a change that the host has asked for waits while
the Setter places no legs (R220, R283). Log entry 86 (DEDUCED). -/
def intend (longLow : Bool) (reason : Option Nat) (landMs : Nat) (force : Bool) (d : Dev) : Dev :=
  let (r, ws, p) := planRec d longLow reason
  let keep := d.setr.hostChange && (frozen d || !places d)
  if force ∨ differs d r then
    let r1 := { r with landMs := landMs }
    publish r1 { d with setr := { d.setr with intent := some r1, weights := ws, shed := p.shed, hostChange := keep,
                                              rotDue := false } }
  else { d with setr := { d.setr with hostChange := keep, rotDue := false } }

/-- NOBAT follows the strings (R294). -/
def noBattery (d : Dev) : Dev :=
  let none_ := prm d 0x5050 0 = 1 && !(List.range (strCount d)).any (strAvail d)
  let d1 := { d with setr := { d.setr with nobat := none_ } }
  if none_ ∧ ¬ d.setr.nobat then raiseI 74 0 d1 else d1

/-! ### Landing (R278, R280) -/

/-- Leg `n` is to enter service at its next period start; its loops are written (R257, R278, R291). -/
def enterLeg (n : Nat) (d : Dev) : Dev :=
  let d1 := modLeg n (fun x => { x with
    entering := true, entT := d.t, leaving := false,
    returns := if x.mayReturn then d.t :: x.returns.filter (fun a => d.t < a + 1440000000000) else x.returns }) d
  let d2 := match (List.range (pvCount d1)).find? (fun q => (pvLegs d1 q).contains n) with
    | some q => if role d1 n = 2 then pvLegEnter q n d1 else d1
    | none => d1
  match (List.range (strCount d2)).find? (fun s => (strLegs d2 s).contains n) with
  | some s => if role d2 n = 3 then seedLoop (batLegCas d2 n) (rack d2 s 0) d2 else d2
  | none => d2

/-- Leg `n` belongs to the PV input that sweeps: no voluntary change to it is committed (R269). -/
def sweepLegs (d : Dev) (n : Nat) : Bool := d.pv.sweepPh ≠ 0 && (pvLegs d d.pv.sweepQ).contains n

/-- The whole placement of an intent lands (R278, R191, R183, R25), but for the legs of an input that sweeps (R269), and its
landed record follows. A Facet 12 assignment to a faulty Facet takes effect at that Facet's next scan boundary (R52).
Log entry 86 (DEDUCED). -/
def landIntent (r0 : SetRec) (d : Dev) : Dev :=
  let legs := maskOf 48 (fun n => if sweepLegs d n then legOn d n else bit r0.legs n)
  let r := { r0 with legs := legs }
  let down := (List.range 16).filter (fun k =>
    brAvail d k && (brLegs d k).any (fun n => (leg d n).held) && !(brLegs d k).all (bit r.legs))
  let d0 := if r.facet12 = 15 ∨ r.facet12 = d.acq.spareFor ∨ d.acq.spareFlt ∨ ¬ bit d.acq.facetFlt r.facet12 then d
    else { d with acq := { d.acq with takeover := r.facet12 } }
  let d1 := forAll 48 (fun n x =>
    if sweepLegs d n then x
    else if bit r.legs n then (if legOn x n then x else enterLeg n x)
    else if (leg x n).entering then modLeg n (fun y => { y with entering := false }) x
    else if legOn x n then modLeg n (fun y => { y with leaving := true }) x else x) d0
  let d2 := down.foldl (fun x k => raiseI 59 k x) d1
  let d3 := forAll (strCount d2) (fun s x =>
    putStr s (tget 0 x.setr.weights s) (modStr s (fun y => { y with share := r.share.getD s 0 }) x)) d2
  let tests := if prm d3 0x8008 0 = 1 then
    d3.setr.shed.flatMap (fun k => (brLegs d3 k).flatMap (fun n => [(n, true), (n, false)])) else []
  let d4 := { d3 with
    setr := { d3.setr with intent := none, legs := legs, facet12 := r.facet12, pHi := r.pHi, pLo := r.pLo,
                           testQueue := d3.setr.testQueue ++ tests, shed := [] },
    gs := { d3.gs with landM := mOn d3 } }
  noBattery (checkAc (publish { r with typ := 3 } d4))

/-- An intent that is due lands, or is refused because an unplanned change is found at its tick (R280). Where voluntary leg
changes freeze at this tick, an intent published before is to be retracted and does not land (R220); those published
since then land (R281). -/
def intentLanding (d : Dev) : Dev :=
  match d.setr.intent with
  | some r =>
    if frozen d ∧ ¬ d.setr.frozen then d
    else if r.landMs ≤ tMs d then (if d.setr.unplanned then retract 8 d else landIntent r d) else d
  | none => d

/-! ### Cycles (R275, R279, R281, R285, R585) -/

/-- The removal condition and its hold (R285), at a cycle start. -/
def shedHold (d : Dev) : Dev × Bool :=
  let low := (planBridges d false).low && d.sys.st = .run
  let since := if low then some (d.setr.shedSince.getD d.t) else none
  let long := match since with
    | some a => decide (a + prm d 0x8005 0 * 400000000 ≤ d.t)
    | none => false
  ({ d with setr := { d.setr with shedSince := since } }, long)

/-- `PLACEMENT_CYCLE_START`: a cycle starts at this tick (R274, R275): bounds, the limits of the strings, points, and an
intent where the placement differs and none is outstanding (R276). Log entry 86 (DEDUCED). -/
def cycleStart (d : Dev) : Dev :=
  let n := cycleLen d
  let due := d.t % 400000 = 0 ∧ (if d.time.valid then tMs d % n = 0 else (tMs d - d.setr.cycleMs) % n = 0)
  if due ∧ d.sys.up ∧ ¬ d.sys.standby then
    let (d0, long) := shedHold d
    let ss := planStrs d0 (legMask d0)
    let (_, _, hd, hc) := planBounds d0 (mOn d0) ss
    let d1 := { d0 with setr := { d0.setr with
      cycleMs := tMs d, hDis := hd, hCh := hc, pvCeil := pvCeilings d0 hc } }
    let d1 := forAll (strCount d1) limStr d1
    let d2 := if d1.setr.intent.isSome then d1 else intend long none (nextCycle d1) false d1
    let d3 := { d2 with setr := { d2.setr with sf := 0, dcSum := 0, dcN := 0 } }
    let xs : List Rat := [(d3.setr.pHi : Rat) / 10000, (d3.setr.pLo : Rat) / 10000, hd / 1000, hc / 1000] ++
      (shares d3).map (fun (s : Nat) => (s : Rat) / 250)
    nextTest ((xs.zipIdx).foldl (fun e (x, i) => putF (0x50100 + i) x e) d3)
  else d

/-- `UNPLANNED_CHANGE`: the first epoch tick after an unplanned change (R279): a retraction, a fact, and a new plan that
lands one cycle later. Log entry 86 (DEDUCED). -/
def unplannedStep (d : Dev) : Dev :=
  if d.setr.unplanned ∧ d.sys.up ∧ ¬ d.sys.standby then
    let d1 := retract 5 { d with setr := { d.setr with unplanned := false } }
    let d2 := publish (factRec 5 d1) { d1 with setr := { d1.setr with legs := legMask d1 } }
    let d3 := noBattery d2
    intend false (some 5) (tMs d3 + cycleLen d3) false d3
  else d

/-- Entry into RUN from SYNC (R585): every free bridge and battery leg is placed by an intent that lands at once.
Log entry 86 (DEDUCED). -/
def runPlacement (d : Dev) : Dev :=
  let d1 := retract 0 d
  let on := (List.range 16).filter (fun k => brAvail d1 k || bridgeFree d1 k)
  let ls := on.flatMap (brLegs d1) ++ dcLegs d1
  let (r, _, _) := planRec d1 false (some 0)
  let mask := maskOf 48 (fun n => ls.contains n)
  let ss := planStrs d1 mask
  let (hi, lo, _, _) := planBounds d1 on.length ss
  let sh := planShares d1 ss
  let r1 := { r with legs := mask, landMs := tMs d1, pHi := hi, pLo := lo, share := (List.range 16).map (fun s =>
    match sh.find? (fun e => e.1 = s) with
    | some e => (roundAway (e.2.1 * 250)).toNat
    | none => 0) }
  landIntent r1 (publish r1 { d1 with setr := { d1.setr with weights := sh.map (fun e => (e.1, e.2.2)), shed := [] } })

/-- RIDE and an automatic FORM freeze voluntary changes: a published intent is retracted (R220). -/
def freezeStep (d : Dev) : Dev :=
  if frozen d ∧ ¬ d.setr.frozen then
    retract 7 { d with setr := { d.setr with frozen := true } }
  else { d with setr := { d.setr with frozen := frozen d } }

/-- A string that was available and is so no longer, because of its rack, is an unplanned change (R279, R290).
Log entry 87 (DEDUCED). -/
def rackWatch (d : Dev) : Dev :=
  let m := maskOf 16 (fun s => s < strCount d && rackOk d s)
  let gone := (List.range (strCount d)).any (fun s => bit d.setr.strUp s && !bit m s && (strLegs d s).all (legOn d))
  { d with setr := { d.setr with strUp := m, unplanned := d.setr.unplanned || gone } }

/-- What the Setter gathers at each epoch tick: the largest apparent power and the DC-link output of the cycle (R285,
R292), and what the racks tell. -/
def setterStep (d0 : Dev) : Dev :=
  let d := rackWatch d0
  let g := d.gs
  let a := Config.sqrt (g.pTgt * g.pTgt + g.qTgt * g.qTgt)
  let b := Config.sqrt (g.pCmd * g.pCmd + g.qCmd * g.qCmd)
  { d with setr := { d.setr with sf := maxR d.setr.sf (maxR a b), dcSum := d.setr.dcSum + g.dcOut, dcN := d.setr.dcN + 1 } }

/-- The current input of leg `n`: the one its current loop measures, or its PV or battery input. -/
def legAin (d : Dev) (n : Nat) : Option Nat :=
  match role d n with
  | 1 => (driver d n).bind (loopAin d)
  | 2 => some (pvAin d n)
  | 3 => some (prm d 0x8110 n)
  | _ => none

/-- A current result of input `i` joins the squares of the legs that it measures (R287). -/
def stressFeed (i : Nat) (d : Dev) : Dev :=
  forAll 48 (fun n x =>
    if legOn x n ∧ legAin x n = some i ∧ (ain x i).res.valid then
      modLeg n (fun y => { y with isq := y.isq + eng x i * eng x i, isn := y.isn + 1 }) x
    else x) d

/-- The stress of an epoch (R287): (I_rms / I_leg)² per hour while the leg switches. -/
def stressStep (d : Dev) : Dev :=
  let il := if mCfg d = 0 then 0 else iBase d / (mCfg d : Nat)
  forAll 48 (fun n x =>
    let y := leg x n
    if y.isn = 0 then x
    else
      let add := if switching x n ∧ il ≠ 0 then y.isq / (y.isn : Nat) * 2 / (il * il) / 3600000 else 0
      modLeg n (fun z => { z with isq := 0, isn := 0, stress := z.stress + add }) x) d

/-! ### Commands -/

def execPlacementCycleStart (t : Nat) (s : State) : Host.Outcome State Fault Refusal := lift t cycleStart s

def execIntentLanding (t : Nat) (s : State) : Host.Outcome State Fault Refusal := lift t intentLanding s

def execUnplannedChange (t : Nat) (s : State) : Host.Outcome State Fault Refusal := lift t unplannedStep s

/-- `SETTER_ROTATION`: set.rot.period is up; the swap goes into the next placement (R287). -/
def setterRotation (d : Dev) : Dev :=
  if prm d 0x8006 0 = 0 ∨ d.t < d.setr.rotT + prm d 0x8006 0 * 60 * 400000000 then d
  else { d with setr := { d.setr with rotDue := true, rotT := d.t } }

def execSetterRotation (t : Nat) (s : State) : Host.Outcome State Fault Refusal := lift t setterRotation s

/-- `STRESS_JOURNAL`: every 10 min, the stress of the legs goes into the journal of the Locket (R287, R389). -/
def stressJournal (d : Dev) : Dev :=
  if d.t < d.setr.stressT + 600 * 400000000 then d
  else forAll 48 (fun n x => if (leg x n).stress = 0 then x else journal (.stress n (leg x n).stress) x)
    { d with setr := { d.setr with stressT := d.t } }

def execStressJournal (t : Nat) (s : State) : Host.Outcome State Fault Refusal := lift t stressJournal s

/-- `RACK_STALE_HOLD_EXPIRY`: set.rack.hold has passed since a point of string `k` went stale: the string is unavailable
and its legs leave service as an unplanned change (R290). Log entry 87 (DEDUCED). -/
def rackLost (k : Nat) (d : Dev) : Dev :=
  let expired : Bool := match rackAge d k with
    | some a => decide (prm d 0x8013 0 * 1000000 + prm d 0x8014 0 * 1000000000 ≤ a)
    | none => true
  if k < strCount d ∧ expired ∧ ¬ (str d k).lost then
    let d1 := modStr k (fun x => { x with lost := true, share := 0 }) d
    let d2 := (strLegs d1 k).foldl (fun e n =>
      if (leg e n).insvc || (leg e n).entering then modLeg n legLeft e else e) d1
    { d2 with setr := { d2.setr with unplanned := true } }
  else d

def execRackStaleHoldExpiry (t str : Nat) (s : State) : Host.Outcome State Fault Refusal := lift t (rackLost str) s

/-- A rack point of a string has been updated: fresh points end the loss (R290). Log entry 87 (DEDUCED). -/
def rackFeed (d : Dev) : Dev :=
  forAll (strCount d) (fun k x =>
    if (str x k).lost ∧ rackFresh x k then modStr k (fun y => { y with lost := false }) x else x) d

end Sys2Proof.Machine
end

