-- ==== Sys2Proof/Machine/Loupe.lean ====
section
/-!
DEFINITION. The Loupe recorder and the Casket record store: rows, patterns, masks, records, tiers, trace dumps, the event
archive and the errors of the store (R104, R323 to R349, R296, R297).
-/
namespace Sys2Proof.Machine

/-! ### The fractional delay (R303, R325) -/

/-- A result as the fractional delay reads it: its instant, its value in codes, its validity and its second flag (OVR
of an input, SAT of a cascade). -/
structure Tap4 where
  t : Nat
  v : Rat
  ok : Bool
  flag : Bool
  deriving DecidableEq, Repr

/-- The Lagrange polynomial through the points `ps`, at `x`. Log entry 92 (DEDUCED). -/
def lagrange (ps : List (Rat × Rat)) (x : Rat) : Rat :=
  ps.zipIdx.foldl (fun a (p, i) =>
    a + ps.zipIdx.foldl (fun m (q, j) => if i = j then m else m * ((x - q.1) / (p.1 - q.1))) p.2) 0

/-- The results `h`, newest first, at instant `x` by the four taps around it: two up to `x`, two after. With fewer taps
the value is that of the last result up to `x`, and it is not valid. Log entry 92 (DEDUCED). -/
def delayAt (h : List Tap4) (x : Rat) : Tap4 :=
  let a := (h.filter (fun r => ((r.t : Nat) : Rat) ≤ x)).take 2
  let b := (h.filter (fun r => x < ((r.t : Nat) : Rat))).reverse.take 2
  let ps := a ++ b
  if a.length = 2 ∧ b.length = 2 then
    ⟨x.floor.toNat, lagrange (ps.map (fun r => (((r.t : Nat) : Rat), r.v))) x, ps.all (fun r => r.ok),
      ps.any (fun r => r.flag)⟩
  else ⟨x.floor.toNat, (a.head?.map (fun r => r.v)).getD 0, false, false⟩

/-- The latest results of source `src` (R68): an input, or a cascade output by its origin instants. -/
def srcHist (d : Dev) (src : Nat) : List Tap4 :=
  if 0x2000 ≤ src then
    (cas d (src - 0x2000)).hist.map (fun o => ⟨o.origin, (o.value : Rat), o.valid, o.sat⟩)
  else (ain d (src - 0x1000)).hist.map (fun r => ⟨r.stamp, (r.value : Rat), r.valid, r.ovr⟩)

/-! ### Channels -/

/-- Unit `u` is owned by the device (R324). -/
def loupeOwned (d : Dev) (u : Nat) : Bool := prm d 0x5140 0 = u || (prm d 0x7002 0 = u && decide (0 < pvCount d))

/-- The source of channel `k` of unit `u`. -/
def chSrc (d : Dev) (u k : Nat) : Nat := prm d 0xA010 (16 * u + k)

/-- The engineering units per code of a source: ain.scale, 2⁻²³ for a cascade output, 2⁻¹⁶ for a derived value.
Log entry 92 (DEDUCED). -/
def srcScale (d : Dev) (src : Nat) : Rat :=
  if 0x4000 ≤ src then 1 / 65536
  else if 0x2000 ≤ src then 1 / 8388608
  else prmF d 0x1104 (src - 0x1000)

/-- The rate of a source in Hz (R41, R84, R222); 0 where it delivers nothing. Log entry 92 (DEDUCED). -/
def srcRate (d : Dev) (src : Nat) : Rat :=
  if 0x4000 ≤ src then 1000
  else if 0x2000 ≤ src then (if casOn d (src - 0x2000) then (prm d 0x2015 (src - 0x2000) : Rat) else 0)
  else if 0x1000 ≤ src then outRate d (src - 0x1000)
  else 0

/-- The row period of unit `u` in ticks, including dec (R337). -/
def rowTicks (d : Dev) (u : Nat) : Nat :=
  let r := srcRate d (chSrc d u 0)
  if r = 0 then 0 else (roundAway (400000000 * (prm d 0xA00F u : Rat) / r)).toNat

/-- A sample word (R338) without its MVIOL and TRG bits. -/
def sampleWord (x : Tap4) : Nat :=
  ofInt 24 (clampI (-8388608) 8388607 (roundAway x.v)) + 2 ^ 24 * b01 x.ok + 2 ^ 25 * b01 x.flag

/-- The words of a row of unit `u` at instant `t`: channel 0 as it is, the others by the fractional delay (R325). -/
def rowWords (d : Dev) (u t : Nat) : List Nat :=
  (List.range (prm d 0xA001 u)).map (fun k =>
    let h := srcHist d (chSrc d u k)
    if k = 0 then sampleWord ((h.find? (fun r => r.t = t)).getD ⟨t, 0, false, false⟩) else sampleWord (delayAt h t))

/-- The value of channel `k` in a row, in its engineering unit. Log entry 92 (DEDUCED). -/
def rowValue (d : Dev) (u k : Nat) (r : Row) : Rat :=
  (toInt 24 (r.words.getD k 0) : Rat) * srcScale d (chSrc d u k)

/-! ### Masks (R334) -/

/-- The limits of mask `j` of unit `u` at `x` ms after its origin, none before its first point (R204, R334). -/
def maskLimits (d : Dev) (u j : Nat) (x : Rat) : Option (Rat × Rat) :=
  let b := 32 * (4 * u + j)
  let pt := fun (k : Nat) => ((prm d 0xA035 (b + k) : Nat) : Rat)
  let n := prm d 0xA034 (4 * u + j)
  match ((List.range n).filter (fun k => pt k ≤ x)).getLast? with
  | none => none
  | some i =>
    let lo := fun (k : Nat) => prmF d 0xA036 (b + k)
    let hi := fun (k : Nat) => prmF d 0xA037 (b + k)
    if i + 1 < n ∧ prm d 0xA038 (b + i) = 1 then
      let w := (x - pt i) / (pt (i + 1) - pt i)
      some (lo i + w * (lo (i + 1) - lo i), hi i + w * (hi (i + 1) - hi i))
    else some (lo i, hi i)

/-- Row `r` violates mask `j` of unit `u`, whose TRG is at `g`. Log entry 93 (DEDUCED). -/
def maskHit (d : Dev) (u g : Nat) (r : Row) (j : Nat) : Bool :=
  let i := 4 * u + j
  let c := prm d 0xA030 i
  if c = 0xFF then false
  else
    let ref := prm d 0xA031 i
    let v := rowValue d u c r - (if ref = 0xFF then 0 else rowValue d u ref r)
    let x : Rat := (((r.t : Nat) : Rat) - ((g : Nat) : Rat)) / 400000 - (prmI d 0xA033 i : Rat)
    match maskLimits d u j x with
    | none => false
    | some (lo, hi) => !(decide (lo < v) && decide (v < hi))

/-- A row with its MVIOL bit set. Log entry 93 (DEDUCED). -/
def markViol (r : Row) : Row := { r with words := r.words.map (fun w => w ||| 2 ^ 26) }

/-- A violation in the row at `t`: it is marked and counted, and `stop` ends POST at that row (R334, R335).
Log entry 93 (DEDUCED). -/
def violate (u t : Nat) (stop : Bool) (d : Dev) : Dev :=
  let d1 := modUnit u (fun x => { x with
    ring := x.ring.map (fun r => if r.t = t then markViol r else r),
    maskViol := incSat 4294967295 x.maskViol, firstViol := if x.firstViol.isSome then x.firstViol else some t }) d
  if stop then
    let d2 := modUnit u (fun x => { x with st := 4, endCode := 1, stT := d.t, endAt := some t }) d1
    raiseI 80 u { d2 with loupe := { d2.loupe with mstop := setBit d2.loupe.mstop u } }
  else d1

/-- The rows of the record so far: `pre` rows before TRG at `g`, and all from it on, oldest first. -/
def recRows (pre g : Nat) (x : RecUnit) : List Row :=
  let rs := x.ring.reverse
  let a := rs.filter (fun r => r.t < g)
  a.drop (a.length - pre) ++ rs.filter (fun r => g ≤ r.t)

/-- Test the rows that the masks have not seen, oldest first, once TRG is known; a stop ends the tests. The masks of the
compliance unit go by τ_u and by the entries into RIDE (R222), so `derivedRow` tests its rows.
Log entry 93 (DEDUCED). -/
def maskTests (u : Nat) (d : Dev) : Dev :=
  let x := unit d u
  match x.trg with
  | none => d
  | some g =>
    if x.st = 3 ∧ prm d 0x5140 0 ≠ u then
      let new := (recRows (prm d 0xA003 u) g x).filter (fun r => match x.tested with
        | some a => a < r.t
        | none => true)
      new.foldl (fun e r =>
        if (unit e u).st ≠ 3 then e
        else
          let hits := (List.range 4).filter (maskHit e u g r)
          let e1 := modUnit u (fun y => { y with tested := some r.t }) e
          if hits = [] then e1 else violate u r.t (hits.any (fun j => prm e 0xA032 (4 * u + j) = 1)) e1) d
    else d

/-! ### The pattern detector (R331) -/

/-- What a kept row does to the detector of a unit: its next state, and whether the pattern completes at this row.
`y` is the level of pat.ch, negated with pat.pol = 1; `run` counts the rows on the present side.
Log entry 93 (DEDUCED). -/
def patStep (ty : Nat) (l1 l2 : Rat) (wmin wmax : Nat) (y : Rat) (x : RecUnit) : RecUnit × Bool :=
  let above := decide (l1 < y)
  let same := x.patRun = 0 || above = x.patAbove
  let run := if same then x.patRun + 1 else 1
  let l2hit := if above then (if same then x.patL2 else false) || decide (l2 ≤ y) else x.patL2
  let slew := if y < l1 then some 0 else x.patSlew.map (fun n => n + 1)
  let up := decide (l2 < y)
  let fire : Bool := match ty with
    | 1 => !same && !above && decide (wmin ≤ x.patRun ∧ x.patRun ≤ wmax)
    | 2 => !same && !above && !x.patL2
    | 3 => decide (run = wmax)
    | 4 => (match slew with
      | some n => up && decide (0 < n ∧ (n < wmin ∨ wmax < n))
      | none => false)
    | _ => false
  ({ x with patAbove := above, patRun := run, patL2 := l2hit, patSlew := if up then none else slew }, fire)

/-- Feed a kept row to the detector of unit `u`; a completed pattern triggers the unit where a slot names it.
Log entry 93 (DEDUCED). -/
def patFeed (u : Nat) (r : Row) (d : Dev) : Dev :=
  let ty := prm d 0xA020 u
  if ty = 0 then d
  else
    let sg : Rat := if prm d 0xA022 u = 1 then -1 else 1
    let (x, fire) := patStep ty (prmF d 0xA023 u) (prmF d 0xA024 u) (prm d 0xA025 u) (prm d 0xA026 u)
      (sg * rowValue d u (prm d 0xA021 u) r) (unit d u)
    let d1 := modUnit u (fun _ => x) d
    if fire ∧ unitNames d u 0x400 then trigger 4 u 0x400 r.t 0 d1 else d1

/-! ### Rows (R325, R326) -/

/-- The record of a unit in POST has all its rows. -/
def postFull (d : Dev) (u : Nat) : Bool :=
  (unit d u).st = 3 && (unit d u).trg.isSome && decide (prm d 0xA002 u - prm d 0xA003 u ≤ (unit d u).post)

/-- Row `r` reaches unit `u`: one in dec is kept; the first kept row from the trigger instant on is TRG. -/
def addRow (u : Nat) (r : Row) (d : Dev) : Dev :=
  let x := unit d u
  if x.st = 0 ∨ 4 ≤ x.st ∨ postFull d u then d
  else if x.decN + 1 < prm d 0xA00F u then modUnit u (fun y => { y with decN := y.decN + 1 }) d
  else
    let d1 := modUnit u (fun y =>
      let due : Bool := match y.trigT with
        | some a => decide (a ≤ r.t)
        | none => false
      let g := if y.st = 3 ∧ y.trg = none ∧ due then some r.t else y.trg
      { y with decN := 0, stEnd := stCode d.sys.st, ring := (r :: y.ring).take (prm d 0xA002 u), trg := g,
               post := if y.st = 3 ∧ g.isSome then y.post + 1 else y.post }) d
    maskTests u (patFeed u r d1)

/-- A result of source `src` with instant `t`: each capturing unit that has it on channel 0 owes a row, and the row is
written once two later results are there (R325). Log entry 92 (DEDUCED). -/
def rowResult (src t : Nat) (d : Dev) : Dev :=
  forAll 4 (fun u e =>
    let x := unit e u
    if chSrc e u 0 = src ∧ 1 ≤ x.st ∧ x.st ≤ 3 then
      let w := x.waiting ++ [t]
      match w with
      | a :: b :: c :: r => addRow u ⟨a, rowWords e u a⟩ (modUnit u (fun y => { y with waiting := b :: c :: r }) e)
      | _ => modUnit u (fun y => { y with waiting := w }) e
    else e) d

/-- The epoch tick gives the compliance unit a row of the five derived values, with the masks of R222: a violation of
mask A is marked, one of mask B stops the capture, sets MASKV and raises EV_RTMASK. Log entry 92 (DEDUCED). -/
def derivedRow (d : Dev) : Dev :=
  let u := prm d 0x5140 0
  if u < 4 then
    let ws := (rtChannels d).map (fun v => sampleWord ⟨d.t, v * 65536, true, false⟩)
    let d1 := addRow u ⟨d.t, ws⟩ d
    let run := (unit d1 u).st = 3 && (unit d1 u).trg.isSome
    let b := violB d
    if run && (violA d || b) then
      let d2 := violate u d.t b d1
      if b then raiseI 61 u { d2 with rt := { d2.rt with maskv := true } } else d2
    else d1
  else d

/-! ### Tiers (R296, R297, R340) -/

/-- Bytes of a GiB. -/
def gib : Nat := 1073741824

/-- Usable GiB of the tiers together (R340): 13, or 6 on an 8 GiB store. Log entry 94 (DEDUCED). -/
def tierSpace (d : Dev) : Nat := if d.cask.size = 1 then 6 * gib else 13 * gib

/-- Bytes of tier `t`. -/
def tierSize (d : Dev) (t : Nat) : Nat :=
  if t = 0 then tierSpace d - (prm d 0x8030 1 + prm d 0x8030 2) * (gib / 4) else prm d 0x8030 t * (gib / 4)

/-- The first address of tier `t`: tiers 2, 1 and 0 stand in that order upwards from 1 GiB (R340).
Log entry 94 (DEDUCED). -/
def tierBase (d : Dev) (t : Nat) : Nat :=
  gib + (if t = 2 then 0 else tierSize d 2) + (if t = 0 then tierSize d 1 else 0)

/-- The record still has its bytes. Log entry 46 (DEDUCED). -/
def recLive (r : Rec) : Bool := decide (r.life ≤ 2)

/-- The lowest place in tier `t` where `n` bytes fit between the live records. Log entry 94 (DEDUCED). -/
def fit (d : Dev) (t n : Nat) : Option Nat :=
  let rs := d.cask.recs.filter (fun r => r.tier = t && recLive r)
  let lo := tierBase d t
  let hi := lo + tierSize d t
  let cs := (lo :: rs.map (fun r => r.addr + r.len)).filter (fun a =>
    decide (lo ≤ a ∧ a + n ≤ hi) && rs.all (fun r => decide (r.addr + r.len ≤ a ∨ a + n ≤ r.addr)))
  cs.foldl (fun m a => match m with
    | none => some a
    | some b => some (min a b)) none

/-- Change the records that `p` picks. -/
def modRecs (p : Rec → Bool) (f : Rec → Rec) (d : Dev) : Dev :=
  { d with cask := { d.cask with recs := d.cask.recs.map (fun r => if p r then f r else r) } }

/-- The oldest live record of tier `t`. -/
def oldest (d : Dev) (t : Nat) : Option Rec := d.cask.recs.find? (fun r => r.tier = t && recLive r)

/-- A place of `n` bytes in tier 0: the oldest records are overwritten until there is one (R296).
Log entry 94 (DEDUCED). -/
def placeLoose (fuel n : Nat) (d : Dev) : Nat × Dev :=
  match fit d 0 n with
  | some a => (a, d)
  | none =>
    match fuel, oldest d 0 with
    | fuel + 1, some r => placeLoose fuel n (modRecs (fun x => x.id = r.id) (fun x => { x with life := 3 }) d)
    | _, _ => (tierBase d 0, d)

/-- Record `id` moves to tier 0 with life state `life` (R296, R297). -/
def moveLoose (id life : Nat) (d : Dev) : Dev :=
  match d.cask.recs.find? (fun r => r.id = id) with
  | none => d
  | some r =>
    let (a, d1) := placeLoose (d.cask.recs.length + 1) r.len d
    modRecs (fun x => x.id = id) (fun x => { x with tier := 0, life := life, addr := a }) d1

/-- A place of `n` bytes in tier 1: the oldest records move to tier 0, with EV_SETTIER (R296).
Log entry 94 (DEDUCED). -/
def placeHeld (fuel n : Nat) (d : Dev) : Nat × Nat × Dev :=
  match fit d 1 n with
  | some a => (1, a, d)
  | none =>
    match fuel, oldest d 1 with
    | fuel + 1, some r => placeHeld fuel n (raiseI 73 1 (moveLoose r.id 2 d))
    | _, _ => let (a, d1) := placeLoose (d.cask.recs.length + 1) n d; (0, a, d1)

/-- The tier, the place and the overflow flag of a new record of `n` bytes for tier `t` (R296).
Log entry 94 (DEDUCED). -/
def place (t n : Nat) (d : Dev) : Nat × Nat × Bool × Dev :=
  let fuel := d.cask.recs.length + 1
  if t = 0 then let (a, d1) := placeLoose fuel n d; (0, a, false, d1)
  else if t = 1 then let (k, a, d1) := placeHeld fuel n d; (k, a, false, d1)
  else
    match fit d 2 n with
    | some a => (2, a, false, d)
    | none =>
      let d1 := raiseI 73 2 { d with setr := { d.setr with tierOvf := true } }
      let (k, a, d2) := placeHeld fuel n d1
      (k, a, true, d2)

/-! ### Records (R336 to R339) -/

/-- What a header says beyond what the index entry holds. -/
structure Draft where
  kind : Nat
  cls : Nat
  unit : Nat
  nch : Nat
  endc : Nat
  flags : Nat
  groupSeq : Nat
  group : Nat
  origin : Nat
  src : Nat
  nPre : Nat
  ticks : Nat
  trg : Nat
  dead : Nat
  preIgn : Nat
  busyIgn : Nat
  viol : Nat
  firstViol : Nat
  stTrg : Nat
  stEnd : Nat
  app : List Byte
  chs : List (List Byte)
  rows : List Row
  deriving DecidableEq, Repr

/-- The bytes of rows. Log entry 95 (DESIGN CHOICE). -/
def rowBytes (rs : List Row) : List Byte := rs.flatMap (fun r => r.words.flatMap (le 4))

/-- The 512-byte header (R337) with record number `id`, flags `fl` and the CRC field `crc`. Log entry 94 (DEDUCED). -/
def header (x : Draft) (id fl crc : Nat) : List Byte :=
  let ns := x.trg * 5 / 2
  le 2 1 ++ le 1 x.kind ++ le 1 x.cls ++ le 4 id ++ le 1 x.unit ++ le 1 x.nch ++ le 1 x.endc ++ le 1 fl ++
    le 4 x.groupSeq ++ le 1 x.group ++ le 1 x.origin ++ le 2 x.src ++ le 4 x.nPre ++
    le 4 (x.rows.length - x.nPre) ++ le 4 x.ticks ++ le 8 (ns / 1000000000) ++ le 4 (ns % 1000000000) ++
    le 4 x.trg ++ le 4 x.dead ++ le 2 x.preIgn ++ le 2 x.busyIgn ++ le 4 x.viol ++ le 4 x.firstViol ++
    (List.range 16).map (fun k => BitVec.ofNat 8 (Config.identity k)) ++ le 1 x.stTrg ++ le 1 x.stEnd ++
    le 6 0 ++ pad 40 x.app ++ le 4 (4 * x.nch * x.rows.length) ++ le 4 crc ++ pad 120 [] ++
    pad 256 (x.chs.flatMap (pad 16))

/-- File a record of draft `x` for tier `t` (R297, R336, R344). Log entry 94 (DEDUCED). -/
def fileRec (x : Draft) (t : Nat) (d : Dev) : Dev :=
  let n := 512 + 4 * x.nch * x.rows.length
  let (k, a, ovf, d1) := place t n d
  let fl := x.flags + 16 * b01 ovf
  let id := d1.cask.nextId
  let h0 := header x id fl 0
  let h := header x id fl (crc32 (h0 ++ rowBytes x.rows))
  let ns := x.trg * 5 / 2
  let r : Rec := ⟨id, x.cls, k, 0, fl, a, n, ns / 1000000000, ns % 1000000000, x.groupSeq, x.unit, x.kind, d.t, h,
    x.rows⟩
  { d1 with cask := { d1.cask with
      recs := (d1.cask.recs ++ [r]).drop (d1.cask.recs.length + 1 - 2097152), nextId := (id + 1) % 2 ^ 32 } }

/-- The index entry of a record that was lost under END 4 (R335, R344). -/
def fileLost (x : Draft) (t : Nat) (d : Dev) : Dev :=
  let ns := x.trg * 5 / 2
  let r : Rec := ⟨d.cask.nextId, x.cls, t, 4, x.flags, 0, 0, ns / 1000000000, ns % 1000000000, x.groupSeq, x.unit,
    x.kind, d.t, [], []⟩
  { d with cask := { d.cask with
      recs := (d.cask.recs ++ [r]).drop (d.cask.recs.length + 1 - 2097152), nextId := (d.cask.nextId + 1) % 2 ^ 32 } }

/-- The class of the record of unit `u`: the first that applies in the order 5, 3, 4, 2, 1 (R335). -/
def recClass (d : Dev) (u : Nat) : Nat :=
  let x := unit d u
  if x.islandSeen then 5
  else if prm d 0x5140 0 = u then 3
  else if loupeOwned d u then 4
  else if 0 < x.maskViol ∨ x.stEnd = stCode .trip then 2
  else 1

/-- The 16 bytes of CH[k] (R337). -/
def chBytes (d : Dev) (src : Nat) : List Byte :=
  let a := src - 0x1000
  let isAin := 0x1000 ≤ src && src < 0x2000
  le 2 src ++ le 1 (if isAin then prm d 0x1101 a else 0) ++ le 1 (b01 (isAin && prm d 0x1100 a = 3)) ++
    le 4 (f32Code (srcScale d src))

/-- The APP bytes of unit `u` (R337): the sweep's figures, or τ_u at TRG. -/
def appBytes (d : Dev) (u : Nat) : List Byte :=
  if prm d 0x5140 0 = u then le 4 (unit d u).tau
  else if loupeOwned d u then
    let q := d.pv.sweepQ
    let x := pvIn d q
    le 4 (f32Code (q : Nat)) ++ le 4 (f32Code x.voc) ++ le 4 (f32Code x.vg) ++ le 4 (f32Code x.pg)
  else []

/-- Instant `t` lies between the first and the last of rows that stand in time order. -/
def within (rs : List Row) (t : Option Nat) : Bool :=
  match t, rs.head?, rs.getLast? with
  | some a, some x, some y => decide (x.t ≤ a ∧ a ≤ y.t)
  | _, _, _ => false

/-- The draft of the record of unit `u`. -/
def draftOf (d : Dev) (u : Nat) : Draft :=
  let x := unit d u
  let g := x.trg.getD (x.trigT.getD d.t)
  let rs0 := (recRows (prm d 0xA003 u) g x).filter (fun r => match x.endAt with
    | some e => r.t ≤ e
    | none => true)
  let rs := rs0.map (fun r => if some r.t = x.trg then { r with words := r.words.map (fun w => w ||| 2 ^ 27) } else r)
  { kind := 1, cls := recClass d u, unit := u, nch := prm d 0xA001 u, endc := x.endCode,
    flags := b01 (x.tripSeen || within rs d.loupe.tripT) + 2 * b01 (x.islandSeen || within rs d.loupe.islandT) +
      4 * b01 (0 < x.maskViol) + 8 * b01 x.damaged + 32 * b01 (x.endCode = 3),
    groupSeq := x.groupSeq, group := prm d 0xA005 u, origin := x.origin, src := x.trigSrc,
    nPre := (rs.filter (fun r => r.t < g)).length, ticks := rowTicks d u, trg := g, dead := x.deadUs,
    preIgn := x.preIgnRec, busyIgn := x.busyIgnRec, viol := x.maskViol,
    firstViol := match x.firstViol with
      | some f => (rs.filter (fun r => r.t < f)).length
      | none => 0xFFFFFFFF
    stTrg := x.stTrg, stEnd := x.stEnd, app := appBytes d u,
    chs := (List.range (prm d 0xA001 u)).map (fun k => chBytes d (chSrc d u k)), rows := rs }

/-- A unit after its record (R327): HOLD in mode 2 outside a group or as its master, else IDLE, where waiting changes
land. Log entry 94 (DEDUCED). -/
def afterStore (u : Nat) (d : Dev) : Dev :=
  let hold := prm d 0xA000 u = 2 && (!inGroup d u || prm d 0xA006 u = 1)
  let d1 := modUnit u (fun x => { x with
    st := if hold then 5 else 0, hadRec := true, lastRow := x.ring.head?.map (fun r => r.t), preIgnRec := 0,
    busyIgnRec := 0, holdT := d.t }) d
  if hold then d1 else landCfg u d1

/-- The record of unit `u` is lost (R335, R344). Log entry 94 (DEDUCED). -/
def loseRec (u : Nat) (d : Dev) : Dev :=
  let d1 := modUnit u (fun x => { x with endCode := 4 }) d
  afterStore u (fileLost (draftOf d1 u) (prm d 0x8031 (recClass d1 u)) d1)

/-- The Casket is no longer available (R344): UP is 0, EV_CASDOWN, and units in POST end with END 4.
Log entry 96 (DEDUCED). -/
def casketDown (d : Dev) : Dev :=
  let d1 := if d.cask.up then raiseI 84 0 { d with cask := { d.cask with up := false } } else d
  forAll 4 (fun u e => if (unit e u).st = 3 ∨ (unit e u).st = 4 then loseRec u e else e) d1

/-- An uncorrectable error of the Casket (R342, R343). Log entry 96 (DEDUCED). -/
def casUnc (d : Dev) : Dev := raiseI 83 0 { d with cask := { d.cask with unc := true } }

/-! ### Commands -/

/-- `LOUPE_PRE_FILLED`: pre rows are in the ring (R327); the first READY of a record fixes DEAD_US (R336). -/
def preFilled (u : Nat) (d : Dev) : Dev :=
  let x := unit d u
  if u < 4 ∧ x.st = 1 ∧ prm d 0xA003 u ≤ x.ring.length then
    modUnit u (fun y => { y with
      st := 2, readySeen := true,
      deadUs := if y.readySeen then y.deadUs else match y.lastRow with
        | some a => min 0xFFFFFFFF ((d.t - a) / 400)
        | none => 0xFFFFFFFF }) d
  else d

def execLoupePreFilled (t u : Nat) (s : State) : Host.Outcome State Fault Refusal := lift t (preFilled u) s

/-- `LOUPE_POST_COMPLETE`: len − pre rows from TRG on are in the ring (R327, R335). -/
def postComplete (u : Nat) (d : Dev) : Dev := if u < 4 ∧ postFull d u then endUnit u 0 d else d

def execLoupePostComplete (t u : Nat) (s : State) : Host.Outcome State Fault Refusal := lift t (postComplete u) s

/-- STORE lasts at most 0.5 ms and B / 2,000 µs, in ticks (R336). -/
def storeMax (d : Dev) (u : Nat) : Nat := 200000 + prm d 0xA001 u * prm d 0xA002 u * 4 / 5

/-- `LOUPE_STORE_DONE`: the copy and the index entry are complete, no later than R336 has it; a transfer that fails its
replay marks the record damaged (R343). Log entry 94 (DEDUCED). -/
def storeDone (u : Nat) (p : TransferParity) (d : Dev) : Dev :=
  if u < 4 ∧ (unit d u).st = 4 ∧ d.t ≤ (unit d u).stT + storeMax d u then
    if d.cask.up then
      let d1 := if p = .failed then casUnc (modUnit u (fun x => { x with damaged := true }) d) else d
      let x := draftOf d1 u
      let d2 := fileRec x (prm d1 0x8031 x.cls) d1
      afterStore u (raiseI 81 u { d2 with loupe := { d2.loupe with rec_ := setBit d2.loupe.rec_ u } })
    else loseRec u d
  else d

def execLoupeStoreDone (t u : Nat) (parity : TransferParity) (s : State) : Host.Outcome State Fault Refusal :=
  lift t (storeDone u parity) s

/-- `LOUPE_REARM_HOLD`: the hold ends, the unit arms, and a master arms its group (R327, R332). -/
def rearmHold (u : Nat) (d : Dev) : Dev :=
  let x := unit d u
  if u < 4 ∧ x.st = 5 ∧ x.holdT + prm d 0xA007 u * ticksPerMs ≤ d.t then
    let d1 := landCfg u (modUnit u (fun y => { y with st := 0 }) d)
    if inGroup d u then armGroup u d1 else armUnit u 0 d1
  else d

def execLoupeRearmHold (t u : Nat) (s : State) : Host.Outcome State Fault Refusal := lift t (rearmHold u) s

/-- A write to a WO parameter of unit `u`: an index that does not exist is out of range (R4), and an owned unit is
read-only (R324). -/
def loupeWrite (pid u : Nat) (f : Dev → Dev) (d : Dev) : Dev :=
  if 4 ≤ u then answer 8 (pid + 65536 * u) d
  else if loupeOwned d u then answer 0x0A (pid + 65536 * u) d
  else f d

/-- `LOUPE_ARM` (R327, R332, R344): a unit in a group arms only as its master, with the group. -/
def loupeArm (u : Nat) (d : Dev) : Dev :=
  if ¬ d.cask.up then refuseOpen d
  else if ¬ inGroup d u then answer 0 0 (armUnit u 0 d)
  else if prm d 0xA006 u = 1 ∧ (unit d u).st = 0 then answer 0 0 (armGroup u d)
  else answer 0 0 d

def execLoupeArm (t cls u : Nat) (s : State) : Host.Outcome State Fault Refusal :=
  lift t (immediate cls 1 (loupeWrite 0xA008 u (loupeArm u))) s

/-- `LOUPE_FIRE`: the manual trigger, for a unit that names it (R328). -/
def loupeFire (u : Nat) (d : Dev) : Dev :=
  answer 0 0 (if unitNames d u 0x600 then trigger 4 u 0x600 d.t 0 d else d)

def execLoupeFire (t cls u : Nat) (s : State) : Host.Outcome State Fault Refusal :=
  lift t (immediate cls 1 (loupeWrite 0xA009 u (loupeFire u))) s

/-- `LOUPE_STOP`: POST ends with END 2 (R335). -/
def loupeStop (u : Nat) (d : Dev) : Dev := answer 0 0 (endUnit u 2 d)

def execLoupeStop (t cls u : Nat) (s : State) : Host.Outcome State Fault Refusal :=
  lift t (immediate cls 1 (loupeWrite 0xA00A u (loupeStop u))) s

/-- `TRIG_IN_EDGE`: a filtered edge at TRIG_INk; its instant is the first of the two samples at 100 MHz (R328). -/
def trigIn (k : Nat) (rising : Bool) (d : Dev) : Dev :=
  if k < 4 then triggers ((if rising then 0x100 else 0x110) + k) (d.t - 4) d else d

def execTrigInEdge (t k : Nat) (rising : Bool) (s : State) : Host.Outcome State Fault Refusal :=
  lift t (trigIn k rising) s

/-- The record that holds address `a` is marked damaged, or the point slot there is not valid (R342).
Log entry 96 (DEDUCED). -/
def markDamage (a : Nat) (d : Dev) : Dev :=
  if a < 0x10000000 then
    let p := a / 32
    { d with pts := tput {} p { point d p with valid := false } d.pts }
  else if 0x38000000 ≤ a ∧ a < 0x40000000 then
    modUnit ((a - 0x38000000) / 0x2000000) (fun x => { x with damaged := true }) d
  else
    modRecs (fun r => recLive r && decide (r.addr ≤ a ∧ a < r.addr + r.len)) (fun r =>
      let fl := r.flags ||| 8
      { r with flags := fl, header := r.header.set 11 (BitVec.ofNat 8 fl) }) d

/-- An error that the code of the Casket finds on a read (R342). Log entry 96 (DEDUCED). -/
def eccError (e : EccError) (d : Dev) : Dev :=
  if e.double then casUnc (markDamage e.addr d)
  else { d with cask := { d.cask with ceCnt := incSat 255 d.cask.ceCnt } }

/-- `CASKET_SCRUB`: the read of the whole store, once every 24 h, with the errors it finds (R342).
Log entry 96 (DEDUCED). -/
def casketScrub (errs : List EccError) (d : Dev) : Dev :=
  if d.cask.up ∧ d.cask.scrubT + 86400 * 400000000 ≤ d.t then
    errs.foldl (fun e x => eccError x e) { d with cask := { d.cask with scrubT := d.t } }
  else d

def execCasketScrub (t : Nat) (errs : List EccError) (s : State) : Host.Outcome State Fault Refusal :=
  lift t (casketScrub errs) s

/-- `EVENT_ARCHIVE_COPY`: the entries of the log that are not yet in the archive go there (R347). -/
def archiveCopy (d : Dev) : Dev :=
  if d.cask.up then
    let new := d.ev.log.filter (fun e => d.ev.copied < e.seq)
    { d with ev := { d.ev with copied := d.ev.seq }
             cask := { d.cask with archive := (new ++ d.cask.archive).take 16777216 } }
  else d

def execEventArchiveCopy (t : Nat) (s : State) : Host.Outcome State Fault Refusal := lift t archiveCopy s

/-- `TIER_AGE_EXPIRY`: a tier-1 record has been held for set.tier.age hours (R297). Log entry 46 (DEDUCED). -/
def tierAge (id : Nat) (d : Dev) : Dev :=
  match d.cask.recs.find? (fun r => r.id = id) with
  | some r =>
    if r.tier = 1 ∧ recLive r ∧ r.at_ + prm d 0x8032 0 * 3600 * 400000000 ≤ d.t then moveLoose id 2 d else d
  | none => d

def execTierAgeExpiry (t recId : Nat) (s : State) : Host.Outcome State Fault Refusal := lift t (tierAge recId) s

/-- The draft of the trace record of tap `k` (R339): its samples from oldest to newest; what the header's fields for a
recorder say of a trace is not stated, but for TS_TICKS and APP, so DEAD_US is a free value.
Log entry 95 (DESIGN CHOICE). -/
def traceDraft (d : Dev) (k : Nat) : Draft :=
  let x := tap d k
  let ws := x.ring.reverse
  { kind := 2, cls := 0, unit := k, nch := 1, endc := 0, flags := 0, groupSeq := 0, group := 0xFF, origin := 0,
    src := prm d 0x2303 k, nPre := (ws.takeWhile (fun w => !bit w 31)).length, ticks := 0, trg := x.trigT,
    dead := Config.freeNat d.free % 2 ^ 32, preIgn := x.ignored, busyIgn := 0, viol := 0, firstViol := 0xFFFFFFFF,
    stTrg := x.trigSt, stEnd := stCode d.sys.st, app := le 4 (prm d 0x2300 k) ++ le 4 (prm d 0x2301 k),
    chs := [chBytes d (0x2000 + tapCas d k)],
    rows := ws.map (fun w => ⟨0, [w]⟩) }

/-- `TRACE_POST_COMPLETE`: the tap has its post samples and stops (R102); with dump = 1 its samples go to the Casket as
a trace record, with EV_TRACE (R104), unless the Casket is down (R344). -/
def tracePost (k : Nat) (d : Dev) : Dev :=
  if k < 16 ∧ (tap d k).post = some 0 ∧ ¬ (tap d k).stopped then
    let d1 := modTap k (fun x => { x with stopped := true }) d
    if prm d 0x2309 k = 1 ∧ d.cask.up then
      let x := traceDraft d1 k
      raiseI 29 k { fileRec x (prm d 0x8031 0) d1 with free := d.free + 1 }
    else d1
  else d

def execTracePostComplete (t tap : Nat) (s : State) : Host.Outcome State Fault Refusal := lift t (tracePost tap) s

end Sys2Proof.Machine
end

