-- ==== Sys2Proof/Machine/Carat.lean ====
section
/-!
DEFINITION. Carat energy metering: samples, energy registers, gaps, qualification, phase calibration, saves and the
register window (R301 to R322).
-/
namespace Sys2Proof.Machine

/-- Metering point `m`. -/
def carPt (d : Dev) (m : Nat) : CarPt := tget {} d.carat.pts m

/-- Change metering point `m`. -/
def modPt (m : Nat) (f : CarPt → CarPt) (d : Dev) : Dev := { d with carat := { d.carat with pts := tmod {} m f d.carat.pts } }

/-- Point `m` is metered (R301). -/
def metered (d : Dev) (m : Nat) : Bool :=
  prm d 0x9000 0 = 1 && (if m = 0 then prm d 0x9009 0 = 1 else prm d 0x9012 (m - 1) = 1)

/-- Samples are formed: the Facets run, and no closing boundary has been taken (R310, R318). -/
def caratRuns (d : Dev) : Bool := prm d 0x9000 0 = 1 && d.carat.stopT.isNone && !d.carat.closed

/-- The voltage input of DC point `m` (R301). -/
def dcVolt (d : Dev) (m : Nat) : Nat :=
  let v := prm d 0x9010 (m - 1)
  if v ≠ 0xFF then v else if m ≤ 16 then prm d 0x7102 (m - 1) else prm d 0x8102 (m - 17)

/-- The current inputs of DC point `m`: its own, or the legs of its PV input or string (R301). -/
def dcCurrents (d : Dev) (m : Nat) : List Nat :=
  let i := prm d 0x9011 (m - 1)
  if i ≠ 0xFF then [i]
  else if m ≤ 16 then (pvLegs d (m - 1)).map (pvAin d)
  else (strLegs d (m - 17)).map (fun n => prm d 0x8110 n)

/-- The first voltage input of point `m`, whose results time its samples (R303). -/
def firstVolt (d : Dev) (m : Nat) : Nat := if m = 0 then prm d 0x9001 0 else dcVolt d m

/-- Input `i` at instant `x` in engineering units. -/
def ainAt (d : Dev) (i : Nat) (x : Rat) : Tap4 :=
  let r := delayAt (srcHist d (0x1000 + i)) x
  { r with v := r.v * prmF d 0x1104 i }

/-- The delay in ticks of a phase current (R303): the lead of R42 on a Rogowski input, and the phase correction. -/
def currentLead (d : Dev) (x i : Nat) : Rat :=
  let f := fNow d
  let lead := if prm d 0x1100 i = 3 then Config.atan2Deg (prmQ d 0x1106 i 100) f else 0
  (lead + prmQ d 0x9008 x 1000) / 360 / f * 400000000

/-- Add `j` joules to register `r` of point `m`: in 2⁻³² of 1/65,536 Wh, wrapping modulo 2⁹⁶ (R305).
Log entry 88 (DEDUCED). -/
def addEnergy (m r : Nat) (j : Rat) (d : Dev) : Dev :=
  let e := roundAway (j / 3600 * 65536 * 4294967296)
  { d with carat := { d.carat with
      regs := tmod 0 (16 * m + r) (fun x => (x + e) % (2 : Int) ^ 96) d.carat.regs } }

/-- Energy of power `p` over `ts` ticks in joules. -/
def joules (p : Rat) (ts : Nat) : Rat := p * ((ts : Nat) : Rat) / 400000000

/-- Split an energy by its sign into registers `a` (positive) and `b` (R304). Log entry 88 (DEDUCED). -/
def splitEnergy (m a b : Nat) (j : Rat) (d : Dev) : Dev :=
  if 0 < j then addEnergy m a j d else if j < 0 then addEnergy m b (-j) d else d

/-- The register of the reactive energy of a sample (R304). Log entry 88 (DEDUCED). -/
def quadrant (p q : Rat) : Nat :=
  if p < 0 then (if q < 0 then 2 else 5) else (if q < 0 then 3 else 4)

/-- A gap sample of `ts` ticks (R309, R311): gap time, GAP and EV_CARGAP at the start, and the estimated energy of the
mean P of the last complete cycle. Log entry 88 (DEDUCED). -/
def gapSample (m ts : Nat) (d : Dev) : Dev :=
  let x := carPt d m
  let d1 := modPt m (fun y => { y with gap := true, gapT := y.gapT + ts, n := 0, sums := [], secN := 0 })
    { d with carat := { d.carat with gapF := true } }
  let d2 := if x.gap then d1 else raiseI 76 m d1
  if m = 0 then splitEnergy 0 12 13 (joules x.meanP ts) d2 else splitEnergy m 2 3 (joules x.meanP ts) d2

/-- Add lists element by element; the empty list counts as zeros. -/
def addSums (a b : List Rat) : List Rat := if a = [] then b else List.zipWith (· + ·) a b

/-- The mean-square roots and means of a complete cycle of the AC point as its points (R322). -/
def acPoints (d : Dev) (xs : List Rat) : Dev :=
  let g := fun (k : Nat) => xs.getD k 0
  let u := fun (k : Nat) => root0 (g k)
  let p := g 7 + g 8 + g 9
  let s := u 0 * u 3 + u 1 * u 4 + u 2 * u 5
  let vals := [u 0, u 1, u 2, u 3, u 4, u 5, u 6, g 7, g 8, g 9, p, g 10, if s = 0 then 0 else p / s,
    (((carPt d 0).gapT : Nat) : Rat) / 400000000]
  (vals.zipIdx).foldl (fun e (v, i) => putF (0x61000 + i) v e) d

/-- A whole cycle of the AC point counts for a phase calibration; the one that its start cut does not (R315).
Log entry 90 (DEDUCED). -/
def phCycle (d : Dev) : Dev :=
  { d with carat := { d.carat with
      phCal := d.carat.phCal.map (fun c => { c with begun := true, cycles := if c.begun then c.cycles + 1 else 0 }) } }

/-- A sample joins the running cycle; at its end the points are updated (R311, R322). Log entry 88 (DEDUCED). -/
def cycleAdd (m t : Nat) (ss : List Rat) (d : Dev) : Dev :=
  let x := carPt d m
  let y := if x.n = 0 then { x with n := 1, first := t, sums := ss }
    else { x with n := x.n + 1, sums := addSums x.sums ss }
  if x.n ≠ 0 ∧ 400000000 ≤ fNow d * ((t - y.first : Nat) : Rat) then
    let ms := x.sums.map (fun a => a / (x.n : Rat))
    let z := { y with n := 1, first := t, sums := ss }
    if m = 0 then
      phCycle (acPoints (modPt 0 (fun _ => { z with
        meanP := ms.getD 7 0 + ms.getD 8 0 + ms.getD 9 0, irms := ((ms.drop 3).take 3).map root0 }) d) ms)
    else
      putF (0x6100A + 16 * m) (ms.getD 2 0) (putF (0x61003 + 16 * m) (root0 (ms.getD 1 0))
        (putF (0x61000 + 16 * m) (root0 (ms.getD 0 0)) (modPt m (fun _ => z) d)))
  else modPt m (fun _ => y) d

/-- The mean P of the last second of a DC point (R311). Log entry 88 (DEDUCED). -/
def secondAdd (m t : Nat) (p : Rat) (d : Dev) : Dev :=
  modPt m (fun x =>
    if x.secN = 0 then { x with secN := 1, secP := p, secT := t }
    else if x.secT + 400000000 ≤ t then
      { x with meanP := x.secP / (x.secN : Rat), secN := 1, secP := p, secT := t }
    else { x with secN := x.secN + 1, secP := x.secP + p }) d

/-- The metering sample of the AC point at `t`, lasting `ts` ticks (R303, R304); a gap sample while channel C of the SYS
PLL is unlocked (R517). Log entry 88 (DEDUCED). -/
def acSample (t ts : Nat) (d : Dev) : Dev :=
  let tq : Rat := (t : Nat)
  let us := (List.range 3).map (fun x => if x = 0 then
      (let h := srcHist d (0x1000 + prm d 0x9001 0)
       let r := (h.find? (fun r => r.t = t)).getD ⟨t, 0, false, false⟩
       { r with v := r.v * prmF d 0x1104 (prm d 0x9001 0) })
    else ainAt d (prm d 0x9001 x) tq)
  let sg : Rat := if prm d 0x9003 0 = 1 then -1 else 1
  let is := (List.range 4).map (fun x =>
    let i := prm d 0x9002 x
    if i = 0xFF then (⟨t, 0, true, false⟩ : Tap4)
    else
      let r := ainAt d i (if x < 3 then tq - currentLead d x i else tq)
      { r with v := sg * r.v })
  let old := fun (x : Nat) => (tget [] d.carat.uHist x).map (fun e => (⟨e.1, e.2.1, e.2.2, false⟩ : Tap4))
  let back := tq - 100000000 / fNow d
  let d1 := { d with carat := { d.carat with
    uHist := (List.range 3).foldl (fun m x =>
      let u := us.getD x ⟨t, 0, false, false⟩
      tput [] x (((t, u.v, u.ok && !u.flag) :: tget [] m x).filter (fun e => t ≤ e.1 + 2800000)) m) d.carat.uHist } }
  let uq := (List.range 3).map (fun x => delayAt (old x) back)
  let ok := (us ++ is ++ uq).all (fun r => r.ok && !r.flag)
  let d2 := { d1 with carat := { d1.carat with
    phCal := d1.carat.phCal.map (fun c => { c with bad := c.bad || !ok }) } }
  if ¬ ok ∨ ¬ locked d 0 then gapSample 0 ts d2
  else
    let v := fun (l : List Tap4) (k : Nat) => ((l[k]?).map (fun r => r.v)).getD 0
    let ps := (List.range 3).map (fun x => v us x * v is x)
    let p := ps.foldl (· + ·) 0
    let q := (List.range 3).foldl (fun a x => a + v uq x * v is x) 0
    let sq := fun (a : Rat) => a * a
    let ss := [sq (v us 0), sq (v us 1), sq (v us 2), sq (v is 0), sq (v is 1), sq (v is 2), sq (v is 3)] ++ ps ++ [q]
    let d3 := splitEnergy 0 0 1 (joules p ts) (modPt 0 (fun y => { y with gap := false }) d2)
    let d4 := addEnergy 0 (quadrant p q) (joules (absR q) ts) d3
    let d5 := (List.range 3).foldl (fun e x => splitEnergy 0 (6 + 2 * x) (7 + 2 * x) (joules (ps.getD x 0) ts) e) d4
    cycleAdd 0 t ss d5

/-- The metering sample of DC point `m` at `t`, lasting `ts` ticks (R303, R304). -/
def dcPointSample (m t ts : Nat) (d : Dev) : Dev :=
  let iv := dcVolt d m
  let r := ((srcHist d (0x1000 + iv)).find? (fun r => r.t = t)).getD ⟨t, 0, false, false⟩
  let is := (dcCurrents d m).map (fun i => ainAt d i ((t : Nat) : Rat))
  if ¬ ((r :: is).all (fun x => x.ok && !x.flag)) ∨ ¬ locked d 0 then gapSample m ts d
  else
    let v := r.v * prmF d 0x1104 iv
    let i := is.foldl (fun a x => a + x.v) 0
    let d1 := splitEnergy m 0 1 (joules (v * i) ts) (modPt m (fun y => { y with gap := false }) d)
    secondAdd m t (v * i) (cycleAdd m t [v * v, i * i, v * i] d1)

/-- A result of input `i`: each metered point that it times forms the sample for which two later results are there
(R303). The time to the next sample is taken from STAMP; after a stop of the Facets it is one output period. -/
def caratFeed (i : Nat) (d : Dev) : Dev :=
  if caratRuns d then
    forAll 33 (fun m e =>
      if metered e m ∧ firstVolt e m = i then
        match (ain e i).hist with
        | _ :: b :: a :: _ =>
          let per := (400000000 / outRate e i).floor.toNat
          let gap := b.stamp - a.stamp
          let ts := if 2 * per < gap then per else gap
          let fresh : Bool := match (carPt e m).last with
            | some l => decide (l < a.stamp)
            | none => true
          if fresh then
            let e1 := modPt m (fun y => { y with last := some a.stamp }) e
            if m = 0 then acSample a.stamp ts e1 else dcPointSample m a.stamp ts e1
          else e
        | _ => e
      else e) d
  else d

/-- No samples from here on: the Facets stop (R310). -/
def caratStop (d : Dev) : Dev :=
  if d.carat.stopT.isSome then d else { d with carat := { d.carat with stopT := some d.t } }

/-- The Facets run again: the time since the stop is unmetered (R310, R318). -/
def caratResume (d : Dev) : Dev :=
  match d.carat.stopT with
  | some a => { d with carat := { d.carat with stopT := none, unmet := d.carat.unmet + (d.t - a) } }
  | none => d

/-! ### Qualification (R313) -/

/-- An input qualifies: calibrated at its active gain, with declared errors of at most 0.050 % and 0.050°.
Log entry 90 (DEDUCED). -/
def ainQualified (d : Dev) (i : Nat) : Bool :=
  prm d 0x1109 (4 * i + prm d 0x1101 i) = 2 && decide (prm d 0x9004 i ≤ 50) && decide (prm d 0x9005 i ≤ 50)

/-- Point `m` is qualified. -/
def qualified (d : Dev) (m : Nat) : Bool :=
  metered d m &&
  (if m = 0 then
    let us := (List.range 3).map (prm d 0x9001)
    let is := (List.range 3).map (prm d 0x9002)
    let all := us ++ is ++ (if prm d 0x9002 3 = 0xFF then [] else [prm d 0x9002 3])
    is.all (fun i => i ≠ 0xFF) && all.all (ainQualified d) && d.carat.phDone % 8 = 7 &&
      all.all (fun i => i / 14 = prm d 0x9001 0 / 14)
  else
    prm d 0x9011 (m - 1) ≠ 0xFF && ainQualified d (dcVolt d m) && ainQualified d (prm d 0x9011 (m - 1)))

/-- The qualification of every point, with EV_CARQUAL at each change. Log entry 90 (DEDUCED). -/
def qualStep (d : Dev) : Dev :=
  forAll 33 (fun m e =>
    let q := qualified e m
    if q = bit e.carat.qual m then e
    else raiseI 77 m { e with carat := { e.carat with
      qual := if q then setBit e.carat.qual m else clrBit e.carat.qual m } }) d

/-! ### Phase calibration (R315) -/

/-- `CARAT_PH_CAL_GO`: a write of carat.cal.ph.go, under the conditions of R54 for both inputs of the phase.
Log entry 90 (DEDUCED). -/
def phCalGo (v : Nat) (d : Dev) : Dev :=
  let x := bits v 1 0
  if x = 3 then answer 8 0x9007 d
  else if d.carat.phCal.isNone ∧ prm d 0x9002 x ≠ 0xFF ∧ calAdmitted d (prm d 0x9001 x) ∧ calAdmitted d (prm d 0x9002 x) then
    answer 0 0 { d with carat := { d.carat with phCal := some { x := x, phiA := toInt 16 (bits v 31 16) } } }
  else answer 1 7 d

def execCaratPhCalGo (t cls v : Nat) (s : State) : Host.Outcome State Fault Refusal :=
  lift t (immediate cls 2 (phCalGo v)) s

/-- `CARAT_PH_CAL_DONE`: the measurement ends after cal.avg cycles, or on a result that spoils it, with φ_m in 0.001°; the
result is refused where R315 says so. Log entry 90 (DEDUCED). -/
def phCalDone (phiM : Int) (d : Dev) : Dev :=
  match d.carat.phCal with
  | none => d
  | some c =>
    let n := prm d 0x9002 c.x
    if ¬ c.bad ∧ c.cycles < prm d 0x110A (4 * n + prm d 0x1101 n) then d else
    let d1 := { d with carat := { d.carat with phCal := none } }
    let corr := c.phiA - phiM
    let i := (carPt d 0).irms.getD c.x 0
    if c.bad ∨ i < (prm d 0x9006 0 : Rat) / 10 ∨ 2000 < absI corr then d1
    else
      let v := ofInt 32 corr
      raiseI 18 (prm d 0x9002 c.x) (journal (.always (pkey 0x9008 c.x) v)
        { d1 with carat := { d1.carat with phPend := tput none c.x (some v) d1.carat.phPend,
                                           phDone := setBit d1.carat.phDone c.x } })

def execCaratPhCalDone (t : Nat) (phiM : Int) (s : State) : Host.Outcome State Fault Refusal := lift t (phCalDone phiM) s

/-- Phase corrections apply from the next epoch (R315). Log entry 90 (DEDUCED). -/
def caratLand (d : Dev) : Dev :=
  let d1 := d.carat.phPend.foldl (fun e kv => match kv.2 with
    | some v => setPrm 0x9008 kv.1 v e
    | none => e) d
  { d1 with carat := { d1.carat with phPend := [] } }

/-! ### Saves (R316 to R318) -/

/-- The fraction of a register is not saved (R316). -/
def wholeUnits (x : Int) : Int := x / 4294967296 * 4294967296

/-- A complete save of the set to the Locket: the journal keeps the newest set, and the residual is cleared. -/
def caratSave (d : Dev) : Dev :=
  let set : CaratSave := { regs := d.carat.regs.map (fun e => (e.1, wholeUnits e.2)), bases := d.carat.bases,
                           tMs := tMs d }
  let old := d.lkt.journal.filter (fun r => match r with
    | .carat _ => false
    | .base _ _ => false
    | _ => true)
  { d with carat := { d.carat with saved := set }
           lkt := { d.lkt with journal := old ++ [.carat set] }
           clasp := { d.clasp with residual := none } }

/-- `CARAT_PERIODIC_SAVE`: carat.save.t seconds after the last save (R316). -/
def periodicSave (d : Dev) : Dev :=
  if caratRuns d ∧ d.carat.saved.tMs + 1000 * prm d 0x900A 0 ≤ tMs d then caratSave d else d

def execCaratPeriodicSave (t : Nat) (s : State) : Host.Outcome State Fault Refusal := lift t periodicSave s

/-- `CARAT_SAVE_GO`: save now. -/
def saveGo (d : Dev) : Dev := answer 0 0 (caratSave d)

def execCaratSaveGo (t cls : Nat) (s : State) : Host.Outcome State Fault Refusal := lift t (immediate cls 1 saveGo) s

/-- `CARAT_RESIDUAL_WRITE`: every 20 ms, the energy of every register since the last complete save goes to the retention
SRAM with the time of the last sample (R317). -/
def residualWrite (d : Dev) : Dev :=
  if caratRuns d ∧ d.carat.resT + 20 * ticksPerMs ≤ d.t then
    let diff := d.carat.regs.foldl (fun m e =>
      tput 0 e.1 ((e.2 - tget 0 d.carat.saved.regs e.1) % (2 : Int) ^ 96) m) []
    let lastT := (d.carat.pts.map (fun e => e.2.last.getD 0)).foldl max 0
    { d with carat := { d.carat with resT := d.t }
             clasp := { d.clasp with residual := some { regs := diff, bases := d.carat.bases, tMs := lastT / 400000 } } }
  else d

def execCaratResidualWrite (t : Nat) (s : State) : Host.Outcome State Fault Refusal := lift t residualWrite s

/-! ### The register window and the points (R306 to R308) -/

/-- The lifetime form of register `k` = 16m + r in units of 1/65,536 Wh, 64 bits. -/
def lifetime (d : Dev) (k : Nat) : Nat := ((tget 0 d.carat.regs k) / 4294967296 % (2 : Int) ^ 64).toNat

/-- The interval form: the lifetime value less the base (R306). -/
def interval (d : Dev) (k : Nat) : Nat := (((lifetime d k : Int) - tget 0 d.carat.bases k) % (2 : Int) ^ 64).toNat

/-- `CARAT_SEL_WRITE`: select a register; one that its point does not have is ignored (R307). -/
def selWrite (v : Nat) (d : Dev) : Dev :=
  let m := bits v 5 0
  let r := bits v 11 8
  if ¬ d.sys.up then d
  else if 32 < m ∨ (if m = 0 then 13 else 3) < r then { d with carat := { d.carat with selErr := true } }
  else { d with carat := { d.carat with selM := m, selR := r, selForm := bit v 12, lval := false, hi := 0 } }

def execCaratSelWrite (t v : Nat) (s : State) : Host.Outcome State Fault Refusal := lift t (selWrite v) s

/-- What CARAT_LO reads: the low half of the selected form. -/
def caratForm (d : Dev) : Nat :=
  let k := 16 * d.carat.selM + d.carat.selR
  if d.carat.selForm then interval d k else lifetime d k

/-- A read of CARAT_LO latches the high half; on the interval form it sets the base, in the retention SRAM and in the
journal (R9, R307). -/
def caratLoRead (d : Dev) : Dev :=
  let k := 16 * d.carat.selM + d.carat.selR
  let v := caratForm d
  let d1 := { d with carat := { d.carat with lval := true, hi := v / 2 ^ 32 } }
  if d.carat.selForm then
    let b : Int := lifetime d k
    let bs := tput 0 k b d.carat.bases
    journal (.base k b) { d1 with carat := { d1.carat with bases := bs }, clasp := { d1.clasp with bases := bs } }
  else d1

/-- `CARAT_LO_READ`: the low half is returned and the read has its effects. -/
def caratLoCmd (d : Dev) : Dev :=
  let d1 := caratLoRead d
  { d1 with mbx := { d1.mbx with hostRd := le 4 (caratForm d) } }

def execCaratLoRead (t : Nat) (s : State) : Host.Outcome State Fault Refusal := lift t caratLoCmd s

/-- The energy point 0x60000 + 32m + 2r + f, with 0 for a register that the point does not have (R308).
Log entry 91 (PRESUMED). -/
def energyPoint (d : Dev) (p : Nat) : Nat :=
  let x := p - 0x60000
  let k := 16 * (x / 32) + x % 32 / 2
  if x % 2 = 0 then lifetime d k else interval d k

/-- The report of R319 as points: restored energy, bound, unmetered time, time of the last complete save.
Log entry 91 (PRESUMED). -/
def reportPoints (d : Dev) : Dev :=
  let xs : List Rat := [d.carat.restored, d.carat.bound, ((d.carat.unmet : Nat) : Rat) / 400000000,
    ((d.carat.saved.tMs : Nat) : Rat) / 1000]
  (xs.zipIdx).foldl (fun e (x, i) => putF (0x62000 + i) x e) d

end Sys2Proof.Machine
end

