-- ==== Sys2Proof/Machine/Mailbox.lean ====
section
/-!
DEFINITION. The doorbell and the checks of a rung command, the completion queue, and the pending bits of events (R356 to
R362, R367, R372).
-/
namespace Sys2Proof.Machine

/-- A command that carries the token of the open session keeps it open (R365). Log entry 22 (DEDUCED). -/
def touchSession (b : List Byte) (d : Dev) : Dev :=
  if d.mbx.sessOpen ∧ field b 7 4 ≠ 0 ∧ field b 7 4 = d.mbx.sessToken then
    { d with mbx := { d.mbx with sessLast := d.t } }
  else d

/-- A ring of slot `s` (R358): a busy slot only counts; any other waits in ring order, and where it is the oldest that
waits its turn has come (R360). Log entry 14 (DEDUCED). -/
def ring (m : List Host.Cell) (s : Nat) (d : Dev) : Dev :=
  if bit d.mbx.busy s then countDoorBusy d
  else
    let d1 := touchSession (slotBytes m s) d
    let first := d1.mbx.rung.isEmpty
    takeTurn m 16 { d1 with mbx := { d1.mbx with
      busy := setBit d1.mbx.busy s, rung := d1.mbx.rung ++ [s], checked := d1.mbx.checked && !first } }

/-- `MBX_DOOR_WRITE`: the slots of the mask are rung, lower slots first (R358). During a start, each bit counts as a ring
of a busy slot (R541). Log entry 14 (DEDUCED). -/
def doorWrite (m : List Host.Cell) (v : Nat) (d : Dev) : Dev :=
  if d.sys.up then (setBits 16 v).foldl (fun e s => ring m s e) d
  else if d.clasp.start.isSome then (setBits 16 v).foldl (fun e _ => countDoorBusy e) d
  else d

def execMbxDoorWrite (t v : Nat) (s : State) : Host.Outcome State Fault Refusal := lift t (doorWrite s.hostMem v) s

/-- `MBX_CQ_HEAD_WRITE`: the host has read entries up to the new head; a head past the tail is ignored (R361). -/
def headWrite (v : Nat) (d : Dev) : Dev :=
  let h := v % 64
  let k := (h + 64 - d.mbx.head) % 64
  if ¬ d.sys.up then d
  else if d.mbx.unread < k then setAccErr d
  else { d with mbx := { d.mbx with head := h, unread := d.mbx.unread - k } }

def execMbxCqHeadWrite (t v : Nat) (s : State) : Host.Outcome State Fault Refusal := lift t (headWrite v) s

/-- The 16 bytes of a completion entry with phase `ph` (R361). -/
def cqEntry (c : Completion) (ph : Bool) : List Byte :=
  le 1 (c.slot + 16 * c.tag) ++ le 1 c.op ++ le 1 c.status ++ le 1 (b01 ph) ++ le 4 c.detail ++ le 4 c.resp.length ++
    le 4 c.tMs

/-- A slot after its completion (R358): LEN, CRC and payload are those of the response. -/
def slotDone (b : List Byte) (resp : List Byte) : List Byte :=
  let h := b.take 2 ++ le 2 resp.length ++ (b.drop 4).take 8
  h ++ le 4 (crc32 (h ++ [0, 0, 0, 0] ++ resp)) ++ resp

/-- The reply over UDP to the command in a slot: a type-2 datagram with the entry and the response (R355, R356). -/
def udpReply (slot : Nat) (ent resp : List Byte) (d : Dev) : Dev :=
  match tget none d.mbx.udpSrc slot with
  | none => d
  | some (e, xid) =>
    let b := le 2 0x5A49 ++ [1, 2] ++ le 4 xid ++ ent ++ resp
    { d with mbx := { d.mbx with sent := ⟨e, b⟩ :: d.mbx.sent } }

/-- The device side of a posting: tail, phase, the slot's BUSY, what a repeat over UDP gets, and EV_MBXCQ.
Log entry 16 (DESIGN CHOICE). -/
def postDev (c : Completion) (crc : Nat) (d : Dev) : Dev :=
  let x := d.mbx
  let tail := (x.tail + 1) % 64
  let ent := cqEntry c x.phase
  let d1 := { d with mbx := { x with
    done := x.done.tail, tail := tail, phase := if tail = 0 then !x.phase else x.phase, unread := x.unread + 1,
    cqFull := false, busy := clrBit x.busy c.slot,
    stored := tput none c.slot (some ⟨c.tag, crc, ent, c.resp⟩) x.stored } }
  raiseI 3 c.slot (udpReply c.slot ent c.resp d1)

/-- Post the oldest completion that waits, where the ring has room (R358, R361): the slot takes the response, then its
BUSY bit clears and the entry is posted. Log entries 13 (DESIGN CHOICE), 16 (DESIGN CHOICE). -/
def post (s : State) : State :=
  match s.dev.mbx.done with
  | [] => s
  | c :: _ =>
    if 64 ≤ s.dev.mbx.unread then { s with dev := { s.dev with mbx := { s.dev.mbx with cqFull := true } } }
    else
      let b := slotBytes s.hostMem c.slot
      let m1 := writeMem s.hostMem (slotAt c.slot) (slotDone b c.resp)
      let m2 := writeMem m1 (0x4000 + 16 * s.dev.mbx.tail) (cqEntry c s.dev.mbx.phase)
      { s with hostMem := m2, dev := postDev c (field b 15 12) s.dev }

/-- `COMPLETION_POST`: commands whose turn came and that fail a check complete first (R360). Log entry 14 (DEDUCED). -/
def execCompletionPost (t : Nat) (s : State) : Host.Outcome State Fault Refusal :=
  .next (post { s with dev := takeTurn s.hostMem 16 { s.dev with t := t } })

/-- `EV_PEND_WRITE`: 1 to a bit of EV_PENDk clears that pending event (R367). -/
def evPendWrite (k v : Nat) (d : Dev) : Dev :=
  if k < 4 ∧ d.sys.up then
    { d with ev := { d.ev with pend := d.ev.pend &&& ~~~ (BitVec.ofNat 128 (v % 2 ^ 32) <<< (32 * k)) } }
  else d

def execEvPendWrite (t k v : Nat) (s : State) : Host.Outcome State Fault Refusal := lift t (evPendWrite k v) s

/-- `UDP_EVENT_RENOTIFY`: while a line is asserted the notice is repeated sys.ev.renotify ms after the last one (R367).
Log entry 30 (DESIGN CHOICE). -/
def renotify (d : Dev) : Dev :=
  if hirq d ≠ 0 ∧ d.mbx.notifyT + prm d 0x0023 0 * ticksPerMs ≤ d.t then sendNotice d else d

def execUdpEventRenotify (t : Nat) (s : State) : Host.Outcome State Fault Refusal := lift t renotify s

/-! ### Sessions and event reads that need nothing but the mailbox (R365, R368) -/

/-- Close the session in force (R365); only an open raises EV_SESSION. Log entry 22 (DEDUCED). -/
def closeSession (d : Dev) : Dev :=
  { d with mbx := { d.mbx with sessOpen := false, sessClass := 0, sessToken := 0 } }

/-- `SESSION_IDLE_TIMEOUT`: no command has carried the token for sys.session.idle seconds. -/
def sessionIdle (d : Dev) : Dev :=
  if d.mbx.sessOpen ∧ d.mbx.sessLast + prm d 0x0024 0 * 400000000 ≤ d.t then closeSession d else d

def execSessionIdleTimeout (t : Nat) (s : State) : Host.Outcome State Fault Refusal := lift t sessionIdle s

/-- The 32 bytes of a log entry (R368). -/
def logBytes (e : LogEntry) : List Byte :=
  le 4 e.seq ++ le 1 e.ev ++ le 1 e.st ++ le 2 0 ++ le 8 e.tNs ++ le 4 e.stamp ++ le 2 e.idx ++ pad 10 e.vals

/-- The response of an EVREAD over the entries `es`, newest first (R364, R368). -/
def evResp (d : Dev) (es : List LogEntry) (from_ maxN : Nat) : List Byte :=
  let newest := match es.head? with
    | some e => e.seq
    | none => d.ev.seq
  let oldest := match es.getLast? with
    | some e => e.seq
    | none => newest + 1
  let out := (es.filter (fun e => max from_ oldest ≤ e.seq)).reverse.take maxN
  le 4 oldest ++ le 4 newest ++ out.flatMap logBytes

/-- The checks that EVREAD makes of its own: MAX from 1 to 15. -/
def evRead (arch : Bool) (c : Cmd) (d : Dev) : Dev :=
  let n := field c.body 5 4
  if bit (field c.body 6 6) 0 ≠ arch then d
  else if n = 0 ∨ 15 < n then finish c 8 0 [] d
  else finish c 0 0 (evResp d (if arch then d.cask.archive else d.ev.log) (field c.body 3 0) n) d

def execEvread (t slot : Nat) (s : State) : Host.Outcome State Fault Refusal := liftCmd t slot 0x04 (evRead false) s

def execEvreadArchive (t slot : Nat) (s : State) : Host.Outcome State Fault Refusal :=
  liftCmd t slot 0x04 (evRead true) s

end Sys2Proof.Machine
end

