-- ==== Sys2Proof/Machine/Points.lean ====
section
/-!
DEFINITION. Reading points: the device points that a read produces, the slot layout, and the conversion of values between
types (R38, R85, R277, R308, R345, R391, R392, R416).
-/
namespace Sys2Proof.Machine

/-- Word 0 and word 1 of an input's result (R36). -/
def resWord0 (r : Res) : Nat :=
  ofInt 24 r.value + 2 ^ 24 * b01 r.valid + 2 ^ 25 * b01 r.ovr + 2 ^ 26 * b01 r.src + 2 ^ 27 * b01 r.cal + 2 ^ 28 * r.seq
def resPair (r : Res) : Nat := resWord0 r + 2 ^ 32 * (r.stamp % 2 ^ 32)

/-- The word pair of a cascade output (R79). -/
def casWord0 (o : CasOut) : Nat :=
  ofInt 24 o.value + 2 ^ 24 * b01 o.valid + 2 ^ 25 * b01 o.sat + 2 ^ 26 * b01 o.rpl + 2 ^ 27 * b01 o.late + 2 ^ 28 * o.seq
def casPair (o : CasOut) : Nat := casWord0 o + 2 ^ 32 * (o.delay + 2 ^ 16 * (o.origin % 2 ^ 16))

/-- The device points that hold float32 values written by the device (R392). -/
def isF32Point (p : Nat) : Bool :=
  (0x50000 ≤ p && p < 0x50010) || (0x50020 ≤ p && p < 0x5002C) || (0x50040 ≤ p && p < 0x5004C) ||
    (0x50060 ≤ p && p < 0x500E0) || (0x50100 ≤ p && p < 0x50114) || (0x61000 ≤ p && p < 0x61210) ||
    (0x62000 ≤ p && p < 0x62004)

/-- What a read of point `p` returns (R345, R391, R392). Log entry 12 (DEDUCED). -/
def readPoint (d : Dev) (p : Nat) : Point :=
  if p < 0x10000 then {}
  else if p < 0x100000 then
    if p < 0x100A8 then
      let r := (ain d (p - 0x10000)).res
      { value := resPair r, typ := 8, tNs := r.stamp * 5 / 2, valid := true, seq := r.seq }
    else if 0x10100 ≤ p ∧ p < 0x1011A then
      let r : Res := tget {} d.acq.diag (p - 0x10100)
      { value := resPair r, typ := 8, tNs := r.stamp * 5 / 2, valid := true, seq := r.seq }
    else if 0x20000 ≤ p ∧ p < 0x20080 then
      let o := (cas d (p - 0x20000)).out
      { value := casPair o, typ := 8, tNs := o.tick * 5 / 2, valid := true, seq := o.seq }
    else if 0x50120 ≤ p ∧ p < 0x50126 then
      { value := ofLe (((setRecBytes d.setr.last).drop (8 * (p - 0x50120))).take 8), typ := 6,
        tNs := d.setr.last.landMs * 1000000, valid := true, seq := d.setr.last.seq }
    else if 0x60000 ≤ p ∧ p < 0x60420 then
      let t := ((carPt d ((p - 0x60000) / 32)).last).getD 0
      { value := energyPoint d p, typ := 6, tNs := t * 5 / 2, valid := true }
    else if isF32Point p then { point d p with typ := 4 }
    else {}
  else point d p

/-- The 32 bytes of a point slot (R345). -/
def pointBytes (x : Point) : List Byte :=
  le 8 x.value ++ le 8 x.tNs ++ le 1 x.typ ++
    le 1 (b01 x.valid + 2 * b01 x.stale + 4 * b01 x.hostPt + 8 * b01 x.bound) ++ le 2 x.partner ++ le 4 x.seq ++ le 8 0

/-- The size in bytes of a field of a type (R416). -/
def typeSize (ty : Nat) : Nat := if ty = 1 then 1 else if ty ≤ 4 then 4 else 8

/-- The value of a binary64 code; none for NaN and infinities. -/
def f64Value (n : Nat) : Option Rat :=
  let e := bits n 62 52
  let m := bits n 51 0
  let sg : Rat := if bit n 63 then -1 else 1
  if e = 2047 then none
  else if e = 0 then some (sg * ((m : Nat) : Rat) * pow2 (-1074))
  else some (sg * ((4503599627370496 + m : Nat) : Rat) * pow2 ((e : Int) - 1075))

/-- The binary64 code nearest to `x`, ties to even; what lies outside the normal range gives 0 or the largest. -/
def f64Code (x : Rat) : Nat :=
  if x = 0 then 0
  else
    let sg := if x < 0 then 2 ^ 63 else 0
    let a := absR x
    let e := log2Frac a.num.toNat a.den
    if e < -1022 then sg
    else
      let m := a * pow2 (52 - e)
      let lo := m.floor
      let fr := m - lo
      let r : Int := if fr < 1 / 2 then lo else if 1 / 2 < fr then lo + 1 else if lo % 2 = 0 then lo else lo + 1
      let code : Int := (e + 1022) * 4503599627370496 + r
      if code ≥ 0x7FF0000000000000 then sg + 0x7FEFFFFFFFFFFFFF else sg + code.toNat

/-- The number that a point holds, in its TYPE; the spec gives a word pair and a non-number none, so those are free
values. -/
def pointVal (d : Dev) (x : Point) : Rat :=
  match x.typ with
  | 4 => (f32Value (x.value % 2 ^ 32)).getD (Config.freeRat d.free)
  | 7 => (f64Value x.value).getD (Config.freeRat d.free)
  | 8 => Config.freeRat d.free
  | _ => pointNum x

/-- A number as a code of type `ty`, rounded to nearest and saturated (R416). -/
def toType (ty : Nat) (v : Rat) : Nat :=
  match ty with
  | 1 => (clampI 0 1 (roundAway v)).toNat
  | 2 => ofInt 32 (clampI (-2147483648) 2147483647 (roundAway v))
  | 3 => (clampI 0 4294967295 (roundAway v)).toNat
  | 4 => f32Code v
  | 5 => ofInt 64 (clampI (-9223372036854775808) 9223372036854775807 (roundAway v))
  | 6 => (clampI 0 18446744073709551615 (roundAway v)).toNat
  | _ => f64Code v

/-- The marker of a type for a point that is not valid (R416); type 8 has none. -/
def marker (ty : Nat) : Nat :=
  match ty with
  | 1 => 0xFF
  | 2 => 0x80000000
  | 3 => 0xFFFFFFFF
  | 4 => 0x7FC00000
  | 5 => 0x8000000000000000
  | 6 => 0xFFFFFFFFFFFFFFFF
  | _ => 0x7FF8000000000000

/-- A received code of type `ty` says that there is no value: the marker, or a NaN (R416). -/
def isMarker (ty v : Nat) : Bool :=
  v = marker ty || (ty = 4 && bits v 30 23 = 255 && bits v 22 0 ≠ 0) || (ty = 7 && bits v 62 52 = 2047 && bits v 51 0 ≠ 0)

/-- The field that a point gives in type `ty` (R416). -/
def sendField (d : Dev) (ty p : Nat) : List Byte :=
  let x := readPoint d p
  if ty = 8 then le 8 x.value
  else if ¬ x.valid then le (typeSize ty) (marker ty)
  else if x.typ = ty then le (typeSize ty) x.value
  else le (typeSize ty) (toType ty (pointVal d x))

/-- The checks of PTREAD: FIRST is a point, COUNT 1 to 15 (R364). -/
def ptRead (c : Cmd) (d : Dev) : Dev :=
  let a := field c.body 3 0
  let n := field c.body 5 4
  if 2 ^ 23 ≤ a then finish c 8 0 [] d
  else if n = 0 ∨ 15 < n then finish c 8 0 [] d
  else finish c 0 0 ((List.range (min n (2 ^ 23 - a))).flatMap (fun i => pointBytes (readPoint d (a + i)))) d

/-- `PTREAD`: one pass over the points (R393). -/
def execPtread (t slot : Nat) (s : State) : Host.Outcome State Fault Refusal := liftCmd t slot 0x05 ptRead s

end Sys2Proof.Machine
end

