-- ==== Sys2Proof/Machine/Partner.lean ====
section
/-!
DEFINITION. CAN reception and filters, partner frames and datagrams, transmissions of values, bus errors and bus-off (R397
to R423).
-/
namespace Sys2Proof.Machine

/-! ### Filters (R402, R403) -/

/-- The number of set bits of `n` below `w`. Log entry 122 (DEDUCED). -/
def popCount (w n : Nat) : Nat := (setBits w n).length

/-- The identifier width of a filter element or frame. Log entry 122 (DEDUCED). -/
def idWidth (xtd : Bool) : Nat := if xtd then 29 else 11

/-- Filter element `f` describes the identifier of a frame (R402). Log entry 121 (DEDUCED). -/
def describes (f : Nat) (fr : CanFrame) : Bool :=
  let base := bits f 28 0
  let span := bits f 60 32
  bit f 29 = fr.xtd &&
  (match bits f 63 61 with
   | 1 => decide (base ≤ fr.id ∧ fr.id ≤ base + span)
   | 2 => fr.id = base || fr.id = span
   | 3 => (List.range (idWidth fr.xtd)).all (fun k => bit span k || bit base k = bit fr.id k)
   | _ => false)

/-- The number of identifiers that an element describes (R402). Log entry 121 (DEDUCED). -/
def coverage (f : Nat) : Nat :=
  let base := bits f 28 0
  let span := bits f 60 32
  match bits f 63 61 with
  | 1 => span + 1
  | 2 => if base = span then 1 else 2
  | _ => 2 ^ popCount (idWidth (bit f 29)) span

/-- The element of the list that decides a frame: the smallest coverage, then the lower k (R403).
Log entry 121 (DEDUCED). -/
def decider (d : Dev) (p : Nat) (fr : CanFrame) : Option Nat :=
  (List.range (prm d 0xB00C p)).foldl (fun b k =>
    if describes (prm d 0xB020 (512 * p + k)) fr then
      match b with
      | none => some k
      | some j => if coverage (prm d 0xB020 (512 * p + k)) < coverage (prm d 0xB020 (512 * p + j)) then some k else some j
    else b) none

/-- The identifier word of a frame (R401). -/
def frameWord (fr : CanFrame) : Nat := fr.id + 2 ^ 29 * b01 fr.xtd + 2 ^ 30 * b01 fr.fdf + 2 ^ 31 * b01 fr.brs

/-- A frame that finds no free place (R404). Log entry 121 (DEDUCED). -/
def rxLost (p : Nat) (d : Dev) : Dev := canOvf p (modPort p (fun x => { x with rxLost := incSat 4294967295 x.rxLost }) d)

/-- A valid frame in the receive path of port `p`: high-priority buffers, then the filter list (R403, R404).
Log entry 121 (DEDUCED). -/
def acceptFrame (p : Nat) (fr : CanFrame) (d : Dev) : Dev :=
  let put := fun (by_ : Nat) => (⟨by_, frameWord fr, fr.esi, d.t, fr.data⟩ : CanRx)
  match (List.range 8).find? (fun h => describes (prm d 0xB021 (8 * p + h)) fr) with
  | some h =>
    if (tget none (canPort d p).hp h).isSome then rxLost p d
    else raise 89 (8 * p + h) (le 4 (frameWord fr))
      (modPort p (fun x => { x with hp := tput none h (some (put (0x200 + h))) x.hp }) d)
  | none =>
    let queue := fun (by_ : Nat) (e : Dev) =>
      if (canPort e p).rx.length < 128 - prm e 0xB00B p then modPort p (fun x => { x with rx := x.rx ++ [put by_] }) e
      else rxLost p e
    match decider d p fr with
    | some k => if bit (prm d 0xB020 (512 * p + k)) 30 then queue k d else d
    | none => if prm d 0xB00D p = 1 then queue 0x3FF d else d

/-- `CAN_FRAME_RX`: a frame on the bus of port `p` is valid for a receiver (R397, R398, R403, R405).
Log entry 121 (DEDUCED). -/
def canRx (p : Nat) (fr : CanFrame) (d : Dev) : Dev :=
  let x := canPort d p
  if 12 ≤ p ∨ ¬ busesRun d ∨ ¬ locked d 0 ∨ x.st = 2 ∨ x.st = 3 ∨ ¬ (prm d 0xB000 p = 1 ∨ prm d 0xB000 p = 2) then d
  else if fr.fdf ∧ prm d 0xB001 p = 0 then modPort p (fun y => { y with pex := true }) d
  else
    let d1 := modPort p (fun y => { y with nRx := incSat 4294967295 y.nRx }) d
    if fr.rtr then modPort p (fun y => { y with unbound := incSat 4294967295 y.unbound }) d1 else acceptFrame p fr d1

def execCanFrameRx (t p : Nat) (frame : CanFrame) (s : State) : Host.Outcome State Fault Refusal :=
  lift t (canRx p frame) s

/-! ### What partner entries receive (R394, R414 to R418) -/

/-- The pages of an entry that binds or sends `n` points. -/
def pagesOf (d : Dev) (e n : Nat) : Nat := (n + prm d 0xB108 e - 1) / prm d 0xB108 e

/-- Entry `e` claims a queued frame of port `p` (R414). Log entry 122 (DEDUCED). -/
def claims (d : Dev) (p : Nat) (r : CanRx) (e : Nat) : Bool :=
  let b := prm d 0xB106 e
  let id := r.idw % 2 ^ 29
  prm d 0xB100 e = 1 && prm d 0xB101 e = p && bit b 29 = bit r.idw 29 &&
    (if prm d 0xB105 e = 1 then decide (b % 2 ^ 29 ≤ id ∧ id < b % 2 ^ 29 + pagesOf d e (prm d 0xB103 e))
     else id = b % 2 ^ 29)

/-- Write field `v` received for point `p` of entry `e` at tick `at_` (R394, R416). Log entry 122 (DEDUCED). -/
def putField (e p v at_ : Nat) (d : Dev) : Dev :=
  let ty := prm d 0xB104 e
  let x := point d p
  { d with pts := tput {} p { x with value := v, typ := ty, tNs := at_ * 5 / 2, valid := !isMarker ty v, stale := false,
                                     seq := (x.seq + 1) % 2 ^ 32 } d.pts }

/-- The fields `bs` of page `g` received for entry `e`, at most `n` of them; a field beyond count is ignored (R415).
Log entry 122 (DEDUCED). -/
def putFields (e g n : Nat) (bs : List Byte) (at_ : Nat) (d : Dev) : Dev :=
  let sz := typeSize (prm d 0xB104 e)
  let first := g * prm d 0xB108 e
  (List.range (min n (bs.length / sz))).foldl (fun x k =>
    if first + k < prm d 0xB103 e then putField e (prm d 0xB102 e + first + k) (ofLe ((bs.drop (sz * k)).take sz)) at_ x
    else x) d

/-- An entry has received a frame or datagram (R407, R422). Log entry 122 (DEDUCED). -/
def entrySeen (e : Nat) (d : Dev) : Dev :=
  modEnt e (fun x => { x with lost := false, seen := true, rxCnt := (x.rxCnt + 1) % 65536, lastRx := d.t }) d

/-- The engine serves a received frame of port `p`: its entry takes the fields, or it is discarded and counted.
Log entry 122 (DEDUCED). -/
def serveFrame (p : Nat) (r : CanRx) (d : Dev) : Dev :=
  match (List.range 4096).find? (claims d p r) with
  | none => modPort p (fun x => { x with unbound := incSat 4294967295 x.unbound }) d
  | some e =>
    let mux := prm d 0xB105 e
    let g := if mux = 1 then r.idw % 2 ^ 29 - prm d 0xB106 e % 2 ^ 29 else if mux = 2 then field r.data 0 0 else 0
    let bs := if mux = 2 then r.data.drop 1 else r.data
    rackFeed (putFields e g (prm d 0xB108 e) bs r.stamp (entrySeen e d))

/-- `PARTNER_FRAME_PROCESS`: the engine takes the next held frame of port `p`, high-priority buffers of every port before
any queue entry, and acknowledges it (R406). Log entry 122 (DEDUCED). -/
def frameProcess (p : Nat) (d : Dev) : Dev :=
  let x := canPort d p
  if 12 ≤ p ∨ ¬ busesRun d then d
  else
    match (List.range 8).find? (fun h => (tget none x.hp h).isSome) with
    | some h =>
      (match tget none x.hp h with
       | some r => serveFrame p r (modPort p (fun y => { y with hp := tput none h none y.hp }) d)
       | none => d)
    | none =>
      if (List.range 12).any (fun q => (List.range 8).any (fun h => (tget none (canPort d q).hp h).isSome)) then d
      else
        match x.rx with
        | [] => d
        | r :: rs => serveFrame p r (modPort p (fun y => { y with rx := rs }) d)

def execPartnerFrameProcess (t p : Nat) (s : State) : Host.Outcome State Fault Refusal := lift t (frameProcess p) s

/-- A dropped datagram counts in UNBOUND of port 0 or 1 (R418). Log entry 123 (DEDUCED). -/
def ptnUnbound (i : Nat) (d : Dev) : Dev := modPort i (fun x => { x with unbound := incSat 4294967295 x.unbound }) d

/-- `PARTNER_DATAGRAM_RX`: a datagram at UDP port 18,583 of Ethernet port `i` (R414, R418). Log entry 123 (DEDUCED). -/
def ptnDatagram (i : Nat) (src : Endpoint) (b : List Byte) (d : Dev) : Dev :=
  if 2 ≤ i ∨ ¬ busesRun d ∨ ¬ (tget ({} : Eth) d.eth i).link then d
  else
    let typ := field b 3 3
    let cnt := field b 7 6
    let head := 16 ≤ b.length && b.length ≤ 1472 && field b 1 0 = 0x5A50 && field b 2 2 = 1 && field b 11 9 = 0
    match (List.range 4096).find? (fun e => prm d 0xB100 e = 2 && prm d 0xB101 e = i && prm d 0xB130 e = src.ip &&
        prm d 0xB131 e = src.port) with
    | none => ptnUnbound i d
    | some e =>
      let sz := typeSize (prm d 0xB104 e)
      if head && typ = 1 && field b 8 8 = prm d 0xB104 e && decide (cnt * sz ≤ 1456) && b.length = 16 + cnt * sz then
        rackFeed (putFields e (field b 5 4) cnt (b.drop 16) d.t (entrySeen e d))
      else if head && typ = 2 && field b 5 4 = 0 && cnt = 48 && field b 8 8 = 0 && b.length = 64 then entrySeen e d
      else ptnUnbound i d

def execPartnerDatagramRx (t i : Nat) (src : Endpoint) (body : List Byte) (s : State) :
    Host.Outcome State Fault Refusal := lift t (ptnDatagram i src body) s

/-- `PARTNER_STALE`: ptn.stale has passed for entry `e`: its points without an update in that time go stale, and an entry
that has received nothing is lost, with EV_PTNLOST once (R407). -/
def ptnStale (e : Nat) (d : Dev) : Dev :=
  if e < 4096 ∧ prm d 0xB100 e ≠ 0 ∧ busesRun d then
    let ms := prm d 0xB107 e
    let d1 := (List.range (prm d 0xB103 e)).foldl (fun x k =>
      let p := prm d 0xB102 e + k
      if (point x p).tNs + ms * 1000000 ≤ tNs d then
        { x with pts := tput {} p { point x p with stale := true } x.pts } else x) d
    if max d.can.startT (ptnEnt d e).lastRx + ms * ticksPerMs ≤ d.t ∧ ¬ (ptnEnt d e).lost then
      raiseI 92 e (modEnt e (fun x => { x with lost := true }) d1)
    else d1
  else d

def execPartnerStale (t e : Nat) (s : State) : Host.Outcome State Fault Refusal := lift t (ptnStale e) s

/-! ### What partner entries are sent (R409, R415) -/

/-- The fields of page `g` that entry `e` sends. -/
def pageFields (d : Dev) (e g : Nat) : List Byte :=
  let pg := prm d 0xB108 e
  let n := min pg (prm d 0xB111 e - g * pg)
  (List.range n).flatMap (fun k => sendField d (prm d 0xB112 e) (prm d 0xB110 e + g * pg + k))

/-- The device sends values to entry `e`: it is enabled, the device is no standby and its bus runs (R400). -/
def sends (d : Dev) (e : Nat) : Bool :=
  e < 4096 && !d.sys.standby && busesRun d && prm d 0xB111 e ≠ 0 &&
    (prm d 0xB100 e = 2 || (prm d 0xB100 e = 1 && (prm d 0xB000 (prm d 0xB101 e) = 1 || prm d 0xB000 (prm d 0xB101 e) = 3)))

/-- Queue or send page `g` of entry `e` (R409, R415, R418). Log entry 124 (DEDUCED). -/
def sendPage (e g : Nat) (d : Dev) : Dev :=
  let bs := pageFields d e g
  let d1 := modEnt e (fun x => { x with sentVals := tput [] g bs x.sentVals }) d
  if prm d 0xB100 e = 2 then
    sendPtn e 1 g (bs.length / typeSize (prm d 0xB112 e)) (prm d 0xB112 e) bs d1
  else
    let mux := prm d 0xB118 e
    let idw := prm d 0xB113 e + (if mux = 1 then g else 0)
    queueValue (prm d 0xB101 e) e g idw (canPad (if mux = 2 then BitVec.ofNat 8 g :: bs else bs)) d1

/-- `PARTNER_TX_PERIOD`: an epoch tick at which the period of entry `e` is due (R409). Log entry 124 (DEDUCED). -/
def txPeriod (e : Nat) (d : Dev) : Dev :=
  let per := prm d 0xB114 e
  if sends d e ∧ per ≠ 0 ∧ d.t % ticksPerMs = 0 ∧ (tMs d + per * 60000 - prm d 0xB115 e) % per = 0 then
    (List.range (pagesOf d e (prm d 0xB111 e))).foldl (fun x g => sendPage e g x) d
  else d

def execPartnerTxPeriod (t e : Nat) (s : State) : Host.Outcome State Fault Refusal := lift t (txPeriod e) s

/-- `PARTNER_TX_ONCHANGE`: the fields of a page have changed since it was last queued, no sooner than tx.minint after its
last sending on change (R409). Log entry 124 (DEDUCED). -/
def txOnChange (e g : Nat) (d : Dev) : Dev :=
  let x := ptnEnt d e
  if sends d e ∧ prm d 0xB116 e = 1 ∧ g < pagesOf d e (prm d 0xB111 e) ∧ d.t % ticksPerMs = 0 ∧
      pageFields d e g ≠ tget [] x.sentVals g ∧
      (tget 0 x.changeT g = 0 ∨ tget 0 x.changeT g + prm d 0xB117 e * ticksPerMs ≤ d.t) then
    sendPage e g (modEnt e (fun y => { y with changeT := tput 0 g d.t y.changeT }) d)
  else d

def execPartnerTxOnchange (t e page : Nat) (s : State) : Host.Outcome State Fault Refusal := lift t (txOnChange e page) s

/-- A port behaves as listen-only (R397, R400). Log entry 125 (DEDUCED). -/
def listenOnly (d : Dev) (p : Nat) : Bool := prm d 0xB000 p = 2 || (d.sys.standby && prm d 0xB000 p = 1)

/-- `CAN_TX_DONE`: the frame that stood first has ended (R408, R410); in loopback a sent frame enters the port's own
receive path (R397). Log entry 125 (DEDUCED). -/
def canTxDone (p : Nat) (st : CanTxResult) (d : Dev) : Dev :=
  let x := canPort d p
  if 12 ≤ p ∨ x.st = 2 ∨ x.st = 3 ∨ ¬ locked d 0 ∨ listenOnly d p then d
  else
    match nextTx x.tx with
    | none => d
    | some f =>
      if st = .cancelled ∧ ¬ f.cancel then d else
      let d1 := fillReserved p (modPort p (fun y => { y with
        tx := y.tx.erase f, nTx := if st = .sent then incSat 4294967295 y.nTx else y.nTx }) d)
      let d2 := match f.ent with
        | some (e, _) => if st = .failed then modEnt e (fun y => { y with txFail := true }) d1 else d1
        | none => d1
      if st = .sent ∧ prm d 0xB000 p = 3 then
        acceptFrame p ⟨f.idw % 2 ^ 29, bit f.idw 29, bit f.idw 30, bit f.idw 31, false, false, f.data⟩
          (modPort p (fun y => { y with nRx := incSat 4294967295 y.nRx }) d2)
      else d2

def execCanTxDone (t p : Nat) (status : CanTxResult) (s : State) : Host.Outcome State Fault Refusal :=
  lift t (canTxDone p status) s

/-! ### Errors and bus-off (R412, R413) -/

/-- `CAN_BUS_ERROR`: the error counters of port `p` have moved, with the kind of the last error.
Log entry 125 (DEDUCED). -/
def busError (p tec rec_ lec : Nat) (d : Dev) : Dev :=
  let x := canPort d p
  if 12 ≤ p ∨ x.st = 2 ∨ x.st = 3 ∨ ¬ busesRun d ∨ ¬ locked d 0 ∨ prm d 0xB000 p = 3 then d
  else if listenOnly d p then modPort p (fun y => { y with lec := lec % 8 }) d
  else
    let d1 := modPort p (fun y => { y with tec := min 255 tec, rec_ := min 255 rec_, lec := lec % 8 }) d
    if 255 < tec then raiseI 88 p (modPort p (fun y => { y with st := 2, recov := false, boffT := d.t }) d1)
    else if 127 < tec ∨ 127 < rec_ then
      (if x.st = 0 then raiseI 90 p (modPort p (fun y => { y with st := 1 }) d1) else d1)
    else modPort p (fun y => { y with st := 0 }) d1

def execCanBusError (t p tec rec lec : Nat) (s : State) : Host.Outcome State Fault Refusal :=
  lift t (busError p tec rec lec) s

/-- Recovery from bus-off starts (R412). -/
def startRecov (p : Nat) (d : Dev) : Dev :=
  modPort p (fun y => if y.recov then y else { y with recov := true, recT := d.t }) d

/-- `CAN_BOFF_WAIT_EXPIRY`: boff.wait after the entry into bus-off, with boff.auto = 1. Log entry 125 (DEDUCED). -/
def boffWait (p : Nat) (d : Dev) : Dev :=
  let x := canPort d p
  if p < 12 ∧ x.st = 2 ∧ ¬ x.recov ∧ prm d 0xB00E p = 1 ∧ x.boffT + prm d 0xB00F p * ticksPerMs ≤ d.t then
    startRecov p d
  else d

def execCanBoffWaitExpiry (t p : Nat) (s : State) : Host.Outcome State Fault Refusal := lift t (boffWait p) s

/-- `CAN_RECOVER`: a write of 1 to can.recover, refused outside bus-off. Log entry 125 (DEDUCED). -/
def canRecover (p : Nat) (d : Dev) : Dev :=
  if 12 ≤ p then answer 8 (0xB010 + 65536 * p) d
  else if (canPort d p).st ≠ 2 then refuseOpen d
  else answer 0 0 (startRecov p d)

def execCanRecover (t cls p : Nat) (s : State) : Host.Outcome State Fault Refusal :=
  lift t (immediate cls 1 (canRecover p)) s

/-- One bit of the nominal bit rate of port `p` in ticks: the CAN kernel clock is 80 MHz (R399).
Log entry 125 (DEDUCED). -/
def canBit (d : Dev) (p : Nat) : Nat := 5 * prm d 0xB002 p * (1 + prm d 0xB003 p + prm d 0xB004 p)

/-- `CAN_RECOVERY_DONE`: 128 occurrences of 11 recessive bits: error active with TEC = REC = 0.
Log entry 125 (DEDUCED). -/
def recoveryDone (p : Nat) (d : Dev) : Dev :=
  let x := canPort d p
  if p < 12 ∧ x.st = 2 ∧ x.recov ∧ x.recT + 1408 * canBit d p ≤ d.t then
    modPort p (fun y => { y with st := 0, tec := 0, rec_ := 0, recov := false }) d
  else d

def execCanRecoveryDone (t p : Nat) (s : State) : Host.Outcome State Fault Refusal := lift t (recoveryDone p) s

/-- A port starts or stops with its mode (R397): off, or error active with its counters at 0. -/
def canMode (p : Nat) (d : Dev) : Dev :=
  modPort p (fun x =>
    if prm d 0xB000 p = 0 then { x with st := 3, tec := 0, rec_ := 0, recov := false, tx := [], wait := [] }
    else { x with st := 0, tec := 0, rec_ := 0, recov := false }) d

/-- Every port goes off with its transmissions failed: DOZE and CLASP (R400). Log entry 125 (DEDUCED). -/
def canOff (d : Dev) : Dev :=
  forAll 12 (fun p e =>
    let d1 := (canPort e p).tx.foldl (fun y f => match f.ent with
      | some (k, _) => modEnt k (fun z => { z with txFail := true }) y
      | none => y) e
    modPort p (fun x => { x with st := 3, recov := false, tx := [], wait := [] }) d1) d

/-- Every port with a mode joins its bus: a start, a wake. Log entry 125 (DEDUCED). -/
def canOn (d : Dev) : Dev := forAll 12 (fun p e => canMode p e) d

/-- After a relock of the SYS PLL each port rejoins as from bus-off recovery, its frames still queued (R399).
Log entry 125 (DEDUCED). -/
def canRejoin (d : Dev) : Dev :=
  forAll 12 (fun p e => if prm e 0xB000 p = 0 then e else modPort p (fun x => { x with st := 2, recov := true, recT := e.t }) e) d

end Sys2Proof.Machine
end

