-- ==== Sys2Proof/Machine/Lanes.lean ====
section
/-!
DEFINITION. Serial lanes, PRBS, the Ethernet ports and their stack, Chain frames and trigger messages (R424 to R437).
-/
namespace Sys2Proof.Machine

/-! ### Lanes and PRBS (R424, R426, R428) -/

/-- The mode in which lane `k` works: LANE0 is in its function while HOSTSEL selects UDP (R424).
Log entry 126 (DEDUCED). -/
def laneMode (d : Dev) (k : Nat) : Nat := if k = 0 ∧ d.boot.hostsel then 1 else prm d 0xC000 k

/-- The mode in which Ethernet port `i` works (R424, R430). -/
def ethMode (d : Dev) (i : Nat) : Nat :=
  if i = 0 ∧ d.boot.hostsel ∧ prm d 0xC020 0 = 0 then 1 else prm d 0xC020 i

/-- The lane's PLL channel is locked (R425): channel A for lanes 0 and 1, channel B for the others.
Log entry 126 (DEDUCED). -/
def lanePll (d : Dev) (k : Nat) : Bool := if k < 2 then locked d 4 else locked d 5

/-- Ethernet port `i`. -/
def ethPort (d : Dev) (i : Nat) : Eth := tget {} d.eth i

/-- Change Ethernet port `i`. -/
def modEth (i : Nat) (f : Eth → Eth) (d : Dev) : Dev := { d with eth := tmod {} i f d.eth }

/-- The link of lane `k` goes down: EV_LANEDOWN for an Ethernet port (R430), EV_CHAINDOWN for a Chain link, whose queued
messages are discarded (R433). Log entry 126 (DEDUCED). -/
def laneDown (k : Nat) (d : Dev) : Dev :=
  let x := lane d k
  let d1 := modLane k (fun y => { y with link := false, goodRun := 0, badRun := 0, sofRun := 0, noSofRun := 0, seg := 0,
                                         busyTo := 0, aligned := false, prbsLock := false }) d
  if k < 2 then
    let d2 := modEth k (fun y => { y with link := false, anDone := false, speed := 0 }) d1
    if (ethPort d k).link then raiseI 96 k d2 else d2
  else if x.link then raiseI 101 k d1 else d1

/-- A landed change of mode, rate, polarity or loopback resets the lane (R426). Log entry 42 (DEDUCED). -/
def laneReset (k : Nat) (d : Dev) : Dev := laneDown k d

/-- `LANE_PRBS_PAT`: a PSET of prbs.pat, in mode 2 only; it restarts generator and checker and clears the counter
(R428). -/
def prbsPat (k v : Nat) (d : Dev) : Dev :=
  if 8 ≤ k ∨ 3 < v then answer 8 (0xC005 + 65536 * k) d
  else if laneMode d k ≠ 2 then refuseOpen d
  else answer 0 0 (modLane k (fun x => { x with prbsLock := false, prbsErr := 0, prbsSeen := false }) (setPrm 0xC005 k v d))

def execLanePrbsPat (t cls k v : Nat) (s : State) : Host.Outcome State Fault Refusal :=
  lift t (immediate cls 2 (prbsPat k v)) s

/-- `PRBS_CHECKER_LOCK`: the checker locks after 64 error-free bits, or relocks after 32 errors within 64 (R428). -/
def prbsCheck (k : Nat) (ok : Bool) (d : Dev) : Dev :=
  if k < 8 ∧ laneMode d k = 2 ∧ lanePll d k then modLane k (fun x => { x with prbsLock := ok, prbsSeen := false }) d else d

def execPrbsCheckerLock (t k : Nat) (locked : Bool) (s : State) : Host.Outcome State Fault Refusal :=
  lift t (prbsCheck k locked) s

/-- `PRBS_BIT_ERROR`: a bit error after the lock is counted; the first after a lock raises EV_PRBSERR, at most once per
lane per epoch (R428). -/
def prbsBit (k : Nat) (d : Dev) : Dev :=
  let x := lane d k
  if k < 8 ∧ laneMode d k = 2 ∧ x.prbsLock then
    let d1 := modLane k (fun y => { y with prbsErr := incSat 4294967295 y.prbsErr, prbsSeen := true }) d
    if x.prbsSeen ∨ x.prbsEp = ep d + 1 then d1 else raiseI 97 k (modLane k (fun y => { y with prbsEp := ep d + 1 }) d1)
  else d

def execPrbsBitError (t k : Nat) (s : State) : Host.Outcome State Fault Refusal := lift t (prbsBit k) s

/-! ### Ethernet (R430, R431) -/

/-- The code of a speed in Mbit/s (R353). -/
def speedCode (v : Nat) : Nat := if v = 10 then 1 else if v = 100 then 2 else if v = 1000 then 3 else 0

/-- Port `i` may be up: its lane is in its function with its PLL locked, and the port is not off. -/
def ethOn (d : Dev) (i : Nat) : Bool :=
  i < 2 && busesRun d && laneMode d i = 1 && ethMode d i ≠ 0 && lanePll d i && locked d 0

/-- `ETH_LINK_UP`: the port is aligned and, where it negotiates, negotiation is complete; a half-duplex SGMII partner
leaves it down (R430). -/
def ethUp (i v : Nat) (full : Bool) (d : Dev) : Dev :=
  if ethOn d i ∧ (full ∨ ethMode d i ≠ 3) then
    modLane i (fun x => { x with aligned := true, link := true }) (modEth i (fun x => { x with
      link := true, anDone := ethMode d i ≠ 2, speed := if ethMode d i = 3 then speedCode v else 3 }) d)
  else d

/-- A frame that the port discards for another reason than its FCS. Log entry 128 (DEDUCED). -/
def ethDiscard (i : Nat) (d : Dev) : Dev := modEth i (fun x => { x with discard := incSat 255 x.discard }) d

/-- Remember the MAC address of `ip` in the ARP cache of port `i`: 64 entries, the oldest gives way (R431).
Log entry 128 (DEDUCED). -/
def arpLearn (i ip mac : Nat) (d : Dev) : Dev :=
  modEth i (fun x => { x with arp := (⟨ip, mac, d.t⟩ :: x.arp.filter (fun e => e.ip ≠ ip)).take 64 }) d

/-- The port sends a frame with its VLAN and priority (R431). Log entry 128 (DEDUCED). -/
def ethSend (i : Nat) (p : EthPayload) (d : Dev) : Dev :=
  let v := prm d 0xC024 i
  modEth i (fun x => { x with
    sent := ⟨true, 64, if v = 0 then none else some (v, prm d 0xC025 i), p⟩ :: x.sent }) d

/-- The header of an Igzan datagram that the device takes: its TYPE is one that a host sends and the body is long enough
(R355). Log entry 128 (DEDUCED). -/
def igzanOk (b : List Byte) : Bool :=
  let typ := field b 3 3
  decide (8 ≤ b.length) && field b 1 0 = 0x5A49 && field b 2 2 = 1 &&
    ((typ = 1 && decide (28 ≤ b.length) && decide (28 + field b 15 14 ≤ b.length)) ||
     (typ = 3 && decide (12 ≤ b.length)) ||
     (typ = 5 && decide (12 ≤ b.length) && decide (12 + 4 * field b 11 10 ≤ b.length)))

/-- `ETH_FRAME_RX`: a frame reaches port `i` (R431). Datagrams of the ports that the stack knows act through their own
commands; here they are only admitted or dropped (R350, R355). Log entry 128 (DEDUCED). -/
def ethRx (i : Nat) (fr : EthFrame) (d : Dev) : Dev :=
  if i < 2 ∧ (ethPort d i).link then
    let v := prm d 0xC024 i
    let tagOk : Bool := match fr.vlan with
      | none => v = 0
      | some (w, _) => v = 0 || w = v
    if ¬ fr.fcsOk then modEth i (fun x => { x with fcsErr := incSat 255 x.fcsErr }) d
    else if 1522 < fr.bytes ∨ ¬ tagOk then ethDiscard i d
    else
      match fr.payload with
      | .pause => ethDiscard i d
      | .fragment => ethDiscard i d
      | .ipv6 => ethDiscard i d
      | .other => ethDiscard i d
      | .echoReply _ _ _ => ethDiscard i d
      | .ptp => d
      | .arpRequest ip mac tgt =>
        let d1 := arpLearn i ip mac d
        if tgt = prm d 0xC021 i then ethSend i (.arpReply tgt (Config.mac i)) d1 else d1
      | .arpReply ip mac => arpLearn i ip mac d
      | .echoRequest a b bs => if b = prm d 0xC021 i then ethSend i (.echoReply b a bs) d else ethDiscard i d
      | .udp _ a p bs =>
        if p = 319 ∨ p = 320 then d
        else if a ≠ prm d 0xC021 i then ethDiscard i d
        else if p = 18582 ∧ i = 0 then (if d.mbx.hostsel && igzanOk bs then d else countUdpDrop d)
        else if p = 18583 then d
        else ethDiscard i d
  else d

def execEthFrameRx (t i : Nat) (frame : EthFrame) (s : State) : Host.Outcome State Fault Refusal :=
  lift t (ethRx i frame) s

/-- `ARP_ENTRY_EXPIRY`: an entry of the ARP cache has lived 60 s (R431). Log entry 128 (DEDUCED). -/
def arpExpiry (i ip : Nat) (d : Dev) : Dev :=
  if i < 2 then
    modEth i (fun x => { x with arp := x.arp.filter (fun e => ¬ (e.ip = ip ∧ e.at_ + 24000000000 ≤ d.t)) }) d
  else d

def execArpEntryExpiry (t i ip : Nat) (s : State) : Host.Outcome State Fault Refusal := lift t (arpExpiry i ip) s

/-! ### Chain trigger messages (R332 to R334) -/

/-- A trigger instant in ticks from the low 32 bits of its seconds and its nanoseconds: the high bits put it nearest the
device's own time (R434). -/
def trigInstant (d : Dev) (s32 ns : Nat) : Nat :=
  let now := tNs d / 1000000000
  let base := now / 2 ^ 32 * 2 ^ 32 + s32
  let s := if base + 2 ^ 31 < now then base + 2 ^ 32 else if now + 2 ^ 31 < base ∧ 2 ^ 32 ≤ base then base - 2 ^ 32 else base
  (s * 1000000000 + ns) * 2 / 5

/-- A fire of line `g` reaches the local units (R328, R332, R333): each member takes the first fire of its GROUP_SEQ, and
a unit outside the group that names the line takes it as a plain trigger. -/
def fireLocal (m : TrigMsg) (d : Dev) : Dev :=
  forAll 4 (fun u e =>
    if prm e 0xA005 u = m.line then
      (if (unit e u).fired ∧ (unit e u).groupSeq = m.seq then e
       else
        let e1 := modUnit u (fun x => if x.groupSeq = m.seq then { x with fired := true } else x) e
        trigger 4 u (0x200 + m.line) m.inst 2 e1)
    else if unitNames e u (0x200 + m.line) then trigger 4 u (0x200 + m.line) m.inst 0 e
    else e) d

/-- An arm of line `g` reaches the local members (R332). -/
def armLocal (m : TrigMsg) (d : Dev) : Dev :=
  forAll 4 (fun u e => if prm e 0xA005 u = m.line then armUnit u m.seq e else e) d

/-- The same message as one already passed: ORIGIN, line, KIND and GROUP_SEQ agree (R434). Log entry 127 (DEDUCED). -/
def sameMsg (a b : TrigMsg) : Bool := a.origin = b.origin && a.line = b.line && a.fire = b.fire && a.seq = b.seq

/-- `CHAIN_TRIGGER_RX`: a trigger message on link `k` (R434): it is discarded, or it acts here and is forwarded. -/
def chainTrigRx (k : Nat) (b : List Byte) (d : Dev) : Dev :=
  let c := field b 0 0
  if chainUp d k ∧ bit c 7 then
    let m : TrigMsg := { line := bits c 2 0, fire := bit c 3, hops := bits c 6 4, origin := bits (field b 3 2) 11 0,
                         seq := field b 7 4, inst := trigInstant d (field b 11 8) (field b 15 12) }
    let recent := d.chain.seen.filter (fun e => d.t ≤ e.1 + 400000)
    if m.origin = prm d 0xC030 0 ∨ recent.any (fun e => sameMsg e.2 m) then d
    else
      let d1 := { d with chain := { d.chain with seen := (d.t, m) :: recent } }
      let d2 := if m.fire then fireLocal m d1 else armLocal m d1
      if m.hops + 1 ≤ prm d 0xC032 0 then
        forAll 8 (fun j e => if j ≠ k ∧ chainUp e j ∧ prm e 0xC033 j = 1 then
          offerTrig { m with hops := m.hops + 1 } j e else e) d2
      else d2
  else d

def execChainTriggerRx (t k : Nat) (msg : List Byte) (s : State) : Host.Outcome State Fault Refusal :=
  lift t (chainTrigRx k msg) s

/-! ### Chain frames (R427, R432, R433, R436) -/

/-- The MSG slot of a good frame (R436): the segments of a message are consecutive, from 0 to the last; what breaks the
order is discarded and counted. Log entry 127 (DEDUCED). -/
def msgSlot (k : Nat) (b : List Byte) (d : Dev) : Dev :=
  let h := field b 104 104
  let ty := bits h 3 0
  let sg := bits h 6 4
  let x := lane d k
  let drop := fun (y : Lane) => { y with seg := 0, mtype := 0, dropped := incSat 4294967295 y.dropped }
  if ty = 0 then (if x.seg = 0 then d else modLane k drop d)
  else if sg = 0 ∨ (sg = x.seg ∧ ty = x.mtype) then
    let e := if sg = 0 ∧ x.seg ≠ 0 then modLane k drop d else d
    modLane k (fun y => { y with seg := if bit h 7 then 0 else sg + 1, mtype := ty }) e
  else modLane k drop d

/-- A bad frame (R433): it is counted, a message under way is discarded, and four in a row take the link down.
Log entry 127 (DEDUCED). -/
def badFrame (k : Nat) (d : Dev) : Dev :=
  let x := lane d k
  let d1 := modLane k (fun y => { y with
    bad := incSat 4294967295 y.bad, goodRun := 0, badRun := y.badRun + 1, seg := 0, mtype := 0,
    dropped := if y.seg = 0 then y.dropped else incSat 4294967295 y.dropped }) d
  if 4 ≤ x.badRun + 1 ∧ x.link then raiseI 101 k (modLane k (fun y => { y with link := false, busyTo := 0 }) d1) else d1

/-- A good frame of a peer (R433): sixteen in a row bring the link up. Log entry 127 (DEDUCED). -/
def goodFrame (k fseq : Nat) (d : Dev) : Dev :=
  modLane k (fun y => { y with good := incSat 4294967295 y.good, goodRun := y.goodRun + 1, badRun := 0, fseq := fseq,
                               link := y.link || decide (16 ≤ y.goodRun + 1) }) d

/-- Alignment of a Chain receiver (R427): four frame starts with K28.5 align it, three without lose it.
Log entry 127 (DEDUCED). -/
def alignStep (k : Nat) (sof : Bool) (d : Dev) : Dev :=
  modLane k (fun y =>
    if sof then { y with sofRun := y.sofRun + 1, noSofRun := 0, aligned := y.aligned || decide (4 ≤ y.sofRun + 1) }
    else { y with sofRun := 0, noSofRun := y.noSofRun + 1, aligned := y.aligned && decide (y.noSofRun + 1 < 3) }) d

/-- The frame of 128 symbols is good: it starts with K28.5 (0xBC) and its CRC holds (R432). Log entry 127 (DEDUCED). -/
def frameGood (b : List Byte) : Bool :=
  b.length = 128 && field b 0 0 = 0xBC && crc32 ((b.drop 1).take 123) = field b 127 124

/-- `PROBE_EPOCH_RX`: a neighbour's probe epoch message: with valid time, a period that has no instant within 1 ms of the
reception sets EPOCH_MIS and raises EV_TIMELOCK with reason 4 (R436, R437). -/
def probeEpoch (b : List Byte) (d : Dev) : Dev :=
  let p := field b 7 0
  let now := tNs d
  if d.time.valid ∧ (p * 256000000 > now + 1000000 ∨ (p + 1) * 256000000 + 1000000 ≤ now) then
    raiseI 98 4 { d with time := { d.time with epochMis := true } }
  else d

def execProbeEpochRx (t : Nat) (msg : List Byte) (s : State) : Host.Outcome State Fault Refusal :=
  lift t (probeEpoch msg) s

/-- The probe epoch message that a probing device sends on every link at each Charm period start (R436). -/
def probeSend (d : Dev) : Dev :=
  if d.charm.active ∧ d.t % ticksPerMs = 0 ∧ tMs d % 256 = 0 then
    let n := (d.charm.chips.filter (fun c => c.valid)).length
    forAll 8 (fun k e => if chainUp e k then
      { e with chain := { e.chain with
          out := .probe k (tMs e / 256) (codeOf e) (prm e 0x6011 0) n :: e.chain.out } } else e) d
  else d

end Sys2Proof.Machine
end

