-- ==== Sys2Proof/Machine/Timing.lean ====
section
/-!
DEFINITION. Network time: the 1588 ports and their servo, validity, holdover and steps, timed outputs, captures and the
transmit time-stamp queue (R438 to R451).
-/
namespace Sys2Proof.Machine

/-! ### Validity (R444) -/

/-- 1588 port `i`. -/
def ptpPort (d : Dev) (i : Nat) : PtpPort := tget {} d.time.ports i

/-- Change 1588 port `i`. -/
def modPtp (i : Nat) (f : PtpPort → PtpPort) (d : Dev) : Dev :=
  { d with time := { d.time with ports := tmod {} i f d.time.ports } }

/-- Some 1588 port is in one of the states `ss`. -/
def ptpAny (d : Dev) (ss : List Nat) : Bool := (List.range 2).any (fun i => ss.contains (ptpPort d i).st)

/-- A trusted grandmaster (R444). Log entry 131 (DEDUCED). -/
def trustedMaster (d : Dev) : Bool := ptpAny d [6] && !ptpAny d [9] && prm d 0xC056 0 = 1

/-- 0xC082 time.offset.est in ns (R444). Log entry 131 (DEDUCED). -/
def offsetEst (d : Dev) : Nat :=
  let last := (absI d.time.offset).toNat
  if d.time.lock then last
  else if d.time.holdover then min 0xFFFFFFFF (last + (d.t - d.time.hoT) * prm d 0xC055 0 / 400000000)
  else if trustedMaster d then 0
  else 0xFFFFFFFF

/-- TIME_OK of Charm (R242): valid time whose offset is within charm.time.tol. Log entry 131 (DEDUCED). -/
def timeOkStep (d : Dev) : Dev := charmTime (d.time.valid && decide (offsetEst d ≤ 1000 * prm d 0x6030 0)) d

/-- The limits of INC in 2⁻³² ns (R439). Log entry 130 (DESIGN CHOICE). -/
def incLo : Nat := 10726680822
/-- Log entry 130 (DESIGN CHOICE). -/
def incHi : Nat := 10748155658

/-- The mean of the last INC values (R444). Log entry 130 (DESIGN CHOICE). -/
def incMean (d : Dev) : Nat :=
  if d.time.incHist = [] then d.time.inc else d.time.incHist.foldl (· + ·) 0 / d.time.incHist.length

/-- LOCK falls where no port is in UNCALIBRATED or SLAVE any longer, and holdover begins (R444).
Log entry 131 (DEDUCED). -/
def lockCheck (d : Dev) : Dev :=
  if d.time.lock ∧ ¬ ptpAny d [8, 9] then
    { d with time := { d.time with lock := false, inRun := 0, outRun := 0, holdover := decide (0 < prm d 0xC054 0),
                                   hoT := d.t, inc := incMean d } }
  else d

/-- VALID follows LOCK, HOLDOVER and the trusted grandmaster; each change raises EV_TIMELOCK (R444).
Log entry 131 (DEDUCED). -/
def validCheck (d : Dev) : Dev :=
  let v := d.time.lock || d.time.holdover || trustedMaster d
  let d1 := if v = d.time.valid then d
    else raiseI 98 (if v then 1 else 2) { d with time := { d.time with valid := v } }
  timeOkStep d1

/-- What follows a change of a port state. Log entry 130 (DESIGN CHOICE). -/
def timeUpdate (d : Dev) : Dev := validCheck (lockCheck d)

/-! ### Best master (R442) -/

/-- A data set as it is ranked: priority1, class, accuracy, variance, priority2, grandmaster, steps, sender.
Log entry 129 (PRESUMED). -/
def annRank (a : Announce) : List Nat := [a.prio1, a.cls, a.accuracy, a.variance, a.prio2, a.gm, a.steps, a.sender]

/-- Lexicographic order of ranks. Log entry 129 (PRESUMED). -/
def rankLt (a b : List Nat) : Bool :=
  match a, b with
  | x :: xs, y :: ys => decide (x < y) || (x = y && rankLt xs ys)
  | [], _ :: _ => true
  | _, [] => false

/-- The device's own data set: its announced quality (R442); the variance is the standard's default.
Log entry 129 (PRESUMED). -/
def ownAnn (d : Dev) : Announce :=
  { domain := prm d 0xC042 0, prio1 := prm d 0xC043 0, cls := if prm d 0xC056 0 = 1 then 13 else 248, accuracy := 0xFE,
    variance := 0xFFFF, prio2 := prm d 0xC044 0, gm := Config.clockId, steps := 0, sender := Config.clockId }

/-- The Announce interval of port `i` in ticks. Log entry 129 (PRESUMED). -/
def annTicks (d : Dev) (i : Nat) : Nat := (400000000 * pow2 (prmI d 0xC049 i)).floor.toNat

/-- The best of two announced data sets. Log entry 129 (PRESUMED). -/
def better (a b : Option Announce) : Option Announce :=
  match a, b with
  | some x, some y => if rankLt (annRank y) (annRank x) then some y else some x
  | some x, none => some x
  | none, y => y

/-- The best qualified foreign master of port `i`: heard twice, and not longer ago than the receipt timeout.
Log entry 129 (PRESUMED). -/
def portBest (d : Dev) (i : Nat) : Option Announce :=
  ((ptpPort d i).foreign.filter (fun f => decide (2 ≤ f.n ∧ d.t ≤ f.at_ + 3 * annTicks d i))).foldl
    (fun b f => better b (some f.ann)) none

/-- Port `i` takes part in 1588: the mode, its enable, its link. -/
def ptpOn (d : Dev) (i : Nat) : Bool :=
  i < 2 && prm d 0xC040 0 ≠ 0 && prm d 0xC046 i = 1 && (ethPort d i).link

/-- The state that the best master clock algorithm recommends for port `i` (R442). Log entry 129 (PRESUMED). -/
def recommend (d : Dev) (i : Nat) : Nat :=
  let own := ownAnn d
  let eb := better (if ptpOn d 0 then portBest d 0 else none) (if ptpOn d 1 then portBest d 1 else none)
  let er := portBest d i
  let st := (ptpPort d i).st
  let slave := if st = 9 then 9 else 8
  match eb with
  | none => if st = 6 then 6 else 4
  | some b =>
    let beats := rankLt (annRank own) (annRank b)
    if prm d 0xC045 0 = 1 then (if er = some b then slave else 4)
    else if own.cls < 128 then
      (match er with
       | none => if st = 6 then 6 else 4
       | some e => if rankLt (annRank own) (annRank e) then 6 else 7)
    else if beats then 6
    else if er = some b then slave
    else if er.isSome then 7
    else 6

/-- Every port takes its recommended state. Log entry 129 (PRESUMED). -/
def bmca (d : Dev) : Dev :=
  timeUpdate (forAll 2 (fun i e => if ptpOn e i then
    (let s := recommend e i; modPtp i (fun x => { x with st := s }) e) else e) d)

/-- A port as its link and parameters put it: disabled, faulty without a link, or listening (R442).
Log entry 42 (DEDUCED). -/
def ptpInit (i : Nat) (d : Dev) : Dev :=
  let s := if prm d 0xC040 0 = 0 ∨ prm d 0xC046 i = 0 then 3 else if (ethPort d i).link then 4 else 2
  timeUpdate (modPtp i (fun x => { x with st := s, foreign := [] }) d)

/-- `ETH_LINK_UP`: the 1588 port of the link begins to listen. -/
def linkUp (i v : Nat) (full : Bool) (d : Dev) : Dev :=
  let d1 := ethUp i v full d
  if i < 2 ∧ (ethPort d1 i).link ∧ ¬ (ethPort d i).link then ptpInit i d1 else d1

def execEthLinkUp (t i speed : Nat) (fullDuplex : Bool) (s : State) : Host.Outcome State Fault Refusal :=
  lift t (linkUp i speed fullDuplex) s

/-- `ETH_LINK_DOWN` (R430, R444). -/
def linkDown (i : Nat) (d : Dev) : Dev :=
  if i < 2 ∧ (ethPort d i).link then ptpInit i (laneDown i d) else d

def execEthLinkDown (t i : Nat) (s : State) : Host.Outcome State Fault Refusal := lift t (linkDown i) s

/-- `PTP_ANNOUNCE_RX`: an Announce of the device's domain is remembered by its sender; the port states follow.
Log entry 148 (DESIGN CHOICE). -/
def announceRx (i : Nat) (a : Announce) (d : Dev) : Dev :=
  if ptpOn d i ∧ a.domain = prm d 0xC042 0 then
    let x := ptpPort d i
    let n := match x.foreign.find? (fun f => f.ann.sender = a.sender) with
      | some f => if d.t ≤ f.at_ + 4 * annTicks d i then f.n + 1 else 1
      | none => 1
    bmca (modPtp i (fun y => { y with foreign := ⟨a, n, d.t⟩ :: y.foreign.filter (fun f => f.ann.sender ≠ a.sender) }) d)
  else d

def execPtpAnnounceRx (t i : Nat) (ann : Announce) (s : State) : Host.Outcome State Fault Refusal :=
  lift t (announceRx i ann) s

/-- `PTP_ANNOUNCE_TIMEOUT`: no qualified master is heard any longer on port `i`: it becomes master, or listens where the
device is slave-only (R442, R444). -/
def announceTimeout (i : Nat) (d : Dev) : Dev :=
  if ptpOn d i ∧ portBest d i = none then
    timeUpdate (modPtp i (fun x => { x with foreign := [], st := if prm d 0xC045 0 = 1 then 4 else 6 }) d)
  else d

def execPtpAnnounceTimeout (t i : Nat) (s : State) : Host.Outcome State Fault Refusal := lift t (announceTimeout i) s

/-! ### The servo (R443, R444) -/

/-- LOCK after an offset of port `i`. Log entry 131 (DEDUCED). -/
def lockRun (i : Nat) (off : Int) (d : Dev) : Dev :=
  let a := (absI off).toNat
  let th := prm d 0xC052 0
  let x : Time := if d.time.runPort = i then d.time else { d.time with inRun := 0, outRun := 0, runPort := i }
  let inn := if a ≤ th then x.inRun + 1 else 0
  let out := if 4 * th < a then x.outRun + 1 else 0
  let d1 := { d with time := { x with inRun := inn, outRun := out } }
  if x.lock ∧ 2 ≤ out then
    modPtp i (fun y => { y with st := if y.st = 9 then 8 else y.st }) { d1 with time := { d1.time with lock := false, inRun := 0 } }
  else if ¬ x.lock ∧ prm d 0xC053 0 ≤ inn then
    modPtp i (fun y => { y with st := 9 }) { d1 with time := { d1.time with lock := true, holdover := false } }
  else d1

/-- `PTP_SYNC_RX`: the servo measures an offset (R443): it asks for a step in READY, or writes INC; the spec does not
state the servo's law, so the new INC is a free value inside its limits (R439). In holdover INC is frozen (R444).
Log entries 130 (DESIGN CHOICE), 148 (DESIGN CHOICE). -/
def syncRx (i : Nat) (off : Int) (d : Dev) : Dev :=
  if ptpOn d i ∧ ((ptpPort d i).st = 8 ∨ (ptpPort d i).st = 9) ∧ ¬ d.mbx.paused then
    let o := clampI (-2147483648) 2147483647 off
    let d1 := { d with time := { d.time with offset := o } }
    if prm d 0xC050 0 < (absI off).toNat ∧ d.sys.st = .ready then
      { d1 with time := { d1.time with stepPend := some off } }
    else if d.time.holdover then validCheck (lockRun i off d1)
    else
      let inc := incLo + Config.freeNat d1.free % (incHi - incLo + 1)
      let d2 := { d1 with free := d1.free + 1, time := { d1.time with
        inc := inc, incHist := (inc :: d1.time.incHist).take 16 } }
      validCheck (lockRun i off d2)
  else d

def execPtpSyncRx (t i : Nat) (offset : Int) (s : State) : Host.Outcome State Fault Refusal := lift t (syncRx i offset) s

/-- `PTP_DELAY_RX`: a path or peer delay has been measured (R442); the time stamp of its request has been read, so its
queue entry is free (R448). Log entry 148 (DESIGN CHOICE). -/
def delayRx (i delay : Nat) (d : Dev) : Dev :=
  if ptpOn d i then
    let j := (List.range 16).find? (fun j => match tget none d.time.tsq j with
      | some e => e.port = i && e.stamp.isSome && (e.msgType = 1 || e.msgType = 2)
      | none => false)
    let d1 := { d with time := { d.time with delay := min 0xFFFFFFFF delay } }
    match j with
    | some k => { d1 with time := { d1.time with tsq := tput none k none d1.time.tsq } }
    | none => d1
  else d

def execPtpDelayRx (t i delay : Nat) (s : State) : Host.Outcome State Fault Refusal := lift t (delayRx i delay) s

/-- `TIME_HOLDOVER_END`: time.holdover seconds have passed (R444). Log entry 131 (DEDUCED). -/
def holdoverEnd (d : Dev) : Dev :=
  if d.time.holdover ∧ d.time.hoT + prm d 0xC054 0 * 400000000 ≤ d.t then
    validCheck { d with time := { d.time with holdover := false } }
  else d

def execTimeHoldoverEnd (t : Nat) (s : State) : Host.Outcome State Fault Refusal := lift t holdoverEnd s

/-! ### The time-stamp queue (R448, R449) -/

/-- A time stamp is lost: TSQ_OVF and EV_TSQOVF, at most once per epoch (R449). Log entry 133 (DEDUCED). -/
def tsqLost (j : Nat) (d : Dev) : Dev :=
  let d1 := { d with time := { d.time with tsqOvf := incSat 255 d.time.tsqOvf } }
  if d.time.tsqEp = ep d + 1 then d1 else raiseI 99 j { d1 with time := { d1.time with tsqEp := ep d + 1 } }

/-- The messages that the engine of port `i` sends in its state: a master its Sync, Follow_Up, Delay_Resp and Announce, a
port that follows one its Delay_Req, and either its peer delay messages, as the profile has it (R442).
Log entry 129 (PRESUMED). -/
def maySend (d : Dev) (i ty : Nat) : Bool :=
  let st := (ptpPort d i).st
  match ty with
  | 0 | 8 | 11 => st = 6
  | 9 => st = 6 && decide (prm d 0xC041 0 = 0)
  | 1 => (st = 8 || st = 9) && decide (prm d 0xC041 0 = 0)
  | 2 | 3 | 10 => decide (prm d 0xC041 0 ≠ 0)
  | _ => false

/-- `PTP_MSG_SEND`: the engine hands a message to port `i`. An event message reserves a queue entry (R448, R449); a
follow-up (messageType 8 or 10) has read the time stamp of its Sync or Pdelay_Resp, which frees that entry.
Log entries 133 (DEDUCED), 148 (DESIGN CHOICE). -/
def msgSend (i ty : Nat) (d : Dev) : Dev :=
  if ptpOn d i ∧ ¬ d.mbx.paused ∧ maySend d i ty then
    let sq := tget 0 (ptpPort d i).seqs ty
    let d1 := modPtp i (fun x => { x with seqs := tput 0 ty ((sq + 1) % 65536) x.seqs, sent := (ty, sq) :: x.sent }) d
    if ty ≤ 3 then
      match (List.range 16).find? (fun j => (tget none d.time.tsq j).isNone) with
      | some j => { d1 with time := { d1.time with tsq := tput none j (some ⟨i, ty, prm d 0xC042 0, sq, none⟩) d1.time.tsq } }
      | none => tsqLost 0xFFFF d1
    else if ty = 8 ∨ ty = 10 then
      let w := if ty = 8 then 0 else 3
      match (List.range 16).find? (fun j => match tget none d.time.tsq j with
          | some e => e.port = i && e.stamp.isSome && e.msgType = w
          | none => false) with
      | some j => { d1 with time := { d1.time with tsq := tput none j none d1.time.tsq } }
      | none => d
    else d1
  else d

def execPtpMsgSend (t i msgType : Nat) (s : State) : Host.Outcome State Fault Refusal := lift t (msgSend i msgType) s

/-- The time stamp in ns of a message that leaves port `i` now: `err` is its error, of at most 8 ns, and the latency of the
external transmit path is subtracted (R442). Log entry 133 (DEDUCED). -/
def txTime (i : Nat) (err : Int) (d : Dev) : Nat :=
  (((tNs d : Nat) : Int) + clampI (-8) 8 err - toInt 32 (bits (prm d 0xC027 i) 31 0)).toNat

/-- `PTP_TX_TIMESTAMP`: the time-stamp point of the message of entry `j` has left the lane (R448).
Log entry 133 (DEDUCED). -/
def txStamp (j : Nat) (err : Int) (d : Dev) : Dev :=
  match tget none d.time.tsq j with
  | some e => if j < 16 ∧ e.stamp.isNone then
      let n := txTime e.port err d
      let sec := n / 1000000000
      let ns := n % 1000000000
      { d with time := { d.time with tsq := tput none j (some { e with stamp := some (sec, ns, d.t) }) d.time.tsq } }
    else d
  | none => d

def execPtpTxTimestamp (t j : Nat) (err : Int) (s : State) : Host.Outcome State Fault Refusal := lift t (txStamp j err) s

/-- `TSQ_ENTRY_TIMEOUT`: an entry has been written but not read for 100 ms (R449). Log entry 133 (DEDUCED). -/
def tsqTimeout (j : Nat) (d : Dev) : Dev :=
  match tget none d.time.tsq j with
  | some e =>
    (match e.stamp with
     | some (_, _, w) => if w + 40000000 ≤ d.t then
         tsqLost j { d with time := { d.time with tsq := tput none j none d.time.tsq } } else d
     | none => d)
  | none => d

def execTsqEntryTimeout (t j : Nat) (s : State) : Host.Outcome State Fault Refusal := lift t (tsqTimeout j) s

/-! ### Timed outputs (R445, R446) -/

/-- Timed output `k`. -/
def pulse (d : Dev) (k : Nat) : Pulse := tget {} d.time.pulses k

/-- Change timed output `k`. -/
def modPulse (k : Nat) (f : Pulse → Pulse) (d : Dev) : Dev :=
  { d with time := { d.time with pulses := tmod {} k f d.time.pulses } }

/-- The start of output `k` in ns of network time. Log entry 133 (DEDUCED). -/
def pulseStart (d : Dev) (k : Nat) : Nat := prm d 0xC061 k * 1000000000 + prm d 0xC062 k

/-- Output `k` after a landing (`fresh`) or a step of the clock (R446): a once pulse whose start has passed is missed,
and a periodic output takes the first instant at least 10 µs ahead. Log entry 133 (DEDUCED). -/
def pulsePlan (fresh : Bool) (k : Nat) (d : Dev) : Dev :=
  let x := pulse d k
  if prm d 0xC060 k = 1 then
    let done := if fresh then false else x.done
    if ¬ done ∧ pulseStart d k ≤ tNs d then
      { modPulse k (fun y => { y with done := true }) d with time := { (modPulse k (fun y => { y with done := true }) d).time with missed := true } }
    else modPulse k (fun y => { y with done := done }) d
  else if prm d 0xC060 k = 2 then modPulse k (fun y => { y with from_ := tNs d + 10000 }) d
  else modPulse k (fun y => { y with active := false, out := false }) d

/-- The instant in ns at which a start edge of output `k` is due now, within a tick (R445, R446).
Log entry 133 (DEDUCED). -/
def pulseDue (d : Dev) (k : Nat) : Option Nat :=
  let now := tNs d
  let a := pulseStart d k
  if prm d 0xC060 k = 1 then (if ¬ (pulse d k).done ∧ a ≤ now + 2 ∧ now ≤ a + 2 then some a else none)
  else if prm d 0xC060 k = 2 then
    let b := now + 2 - (now + 2 - a) % prm d 0xC063 k
    if a ≤ now + 2 ∧ now ≤ b + 2 ∧ (pulse d k).from_ ≤ b then some b else none
  else none

/-- The level of output TPULSEk: active high, or low with tpulse[k].pol = 1 (R445). -/
def pulseLevel (d : Dev) (k : Nat) : Bool := (pulse d k).out != decide (prm d 0xC065 k = 1)

/-- `TPULSE_EDGE`: an edge of output `k` (R445, R446): the start of a pulse that is due, or its end after its width. With
gate = 1 a pulse that starts while VALID = 0 stays unseen. Log entry 133 (DEDUCED). -/
def pulseEdge (k : Nat) (start : Bool) (d : Dev) : Dev :=
  if 8 ≤ k ∨ ¬ d.sys.up then d
  else if start then
    match pulseDue d k with
    | some a =>
      if (pulse d k).active then d
      else modPulse k (fun x => { x with active := true, done := true, out := prm d 0xC066 k = 0 || d.time.valid,
                                         endNs := a + prm d 0xC064 k }) d
    | none => d
  else if (pulse d k).active ∧ (pulse d k).endNs ≤ tNs d + 2 then
    modPulse k (fun x => { x with active := false, out := false }) d
  else d

def execTpulseEdge (t k : Nat) (start : Bool) (s : State) : Host.Outcome State Fault Refusal := lift t (pulseEdge k start) s

/-! ### Captures and the time registers (R441, R447) -/

/-- Capture input `k`. -/
def capt (d : Dev) (k : Nat) : Capt := tget {} d.time.capts k

/-- `TCAP_EDGE`: an edge that TCAPk selects holds for its second tick: it is captured as the network time of the first of
the two, less the fixed input delay (R447). Log entry 133 (DEDUCED). -/
def tcapEdge (k : Nat) (falling : Bool) (d : Dev) : Dev :=
  let e := prm d 0xC071 k
  if k < 8 ∧ d.sys.up ∧ prm d 0xC070 k = 1 ∧ (e = 2 ∨ (e = 1 ∧ falling) ∨ (e = 0 ∧ ¬ falling)) then
    let x := capt d k
    let n := (d.t - 1) * 5 / 2 - Config.captureDelay
    let sec := n / 1000000000
    let ns := n % 1000000000
    let y : Capt := { sec := sec, ns := ns, falling := falling, new_ := true, ovr := x.ovr || x.new_, ep := ep d + 1 }
    let d1 := { d with time := { d.time with capts := tput {} k y d.time.capts } }
    if x.ep = ep d + 1 then d1 else raiseI 100 k d1
  else d

def execTcapEdge (t k : Nat) (falling : Bool) (s : State) : Host.Outcome State Fault Refusal :=
  lift t (tcapEdge k falling) s

/-- A read of TIME_NS latches the seconds (R441). -/
def timeNsLatch (d : Dev) : Dev := { d with time := { d.time with secLatch := tNs d / 1000000000 } }

/-- `TIME_NS_READ`. -/
def timeNsRead (d : Dev) : Dev :=
  let d1 := timeNsLatch d
  { d1 with mbx := { d1.mbx with hostRd := le 4 (tNs d % 1000000000) } }

def execTimeNsRead (t : Nat) (s : State) : Host.Outcome State Fault Refusal := lift t timeNsRead s

/-- TCAP_NS as it reads (R451). -/
def tcapWord (d : Dev) : Nat :=
  let x := capt d d.time.capSel
  x.ns + 2 ^ 30 * b01 x.falling + 2 ^ 31 * b01 x.new_

/-- A read of TCAP_NS latches the seconds of the capture and clears NEW (R441, R451). -/
def tcapLatch (d : Dev) : Dev :=
  let k := d.time.capSel
  { d with time := { d.time with capLatch := (capt d k).sec,
                                 capts := tmod {} k (fun x => { x with new_ := false }) d.time.capts } }

/-- `TCAP_NS_READ`. -/
def tcapNsRead (d : Dev) : Dev :=
  let d1 := tcapLatch d
  { d1 with mbx := { d1.mbx with hostRd := le 4 (tcapWord d) } }

def execTcapNsRead (t : Nat) (s : State) : Host.Outcome State Fault Refusal := lift t tcapNsRead s

/-! ### Steps (R443) -/

/-- A step of the clock from tick `old` takes no time: the instants from which delays, holds and ages are counted, and the
landing of a COMMIT that waits, move with it. Log entry 132 (DEDUCED). -/
def moveInstants (old : Nat) (d : Dev) : Dev :=
  let mv := fun (a : Nat) => d.t + a - old
  let mo := fun (a : Option Nat) => a.map mv
  let mt := fun (m : Tab Nat) => m.map (fun e => (e.1, mv e.2))
  { d with
    mbx := { d.mbx with sessLast := mv d.mbx.sessLast, notifyT := mv d.mbx.notifyT }
    lkt := { d.lkt with failT := mv d.lkt.failT }
    commit := d.commit.map (fun j => { j with passedAt := mo j.passedAt, landEp := d.t / 400000 + j.landEp - old / 400000 })
    acq := { d.acq with calZero := d.acq.calZero.map (fun j => { j with startT := mv j.startT })
                        calFull := d.acq.calFull.map (fun j => { j with startT := mv j.startT })
                        facets := d.acq.facets.map (fun e => (e.1, { e.2 with selfCalT := mv e.2.selfCalT })) }
    legs := d.legs.map (fun e => (e.1, { e.2 with returns := e.2.returns.map mv }))
    charm := { d.charm with suspT := mv d.charm.suspT, timeLostAt := mo d.charm.timeLostAt }
    pv := { d.pv with ins := d.pv.ins.map (fun e => (e.1, { e.2 with startSince := mo e.2.startSince })) }
    setr := { d.setr with shedSince := mo d.setr.shedSince, rotT := mv d.setr.rotT, stressT := mv d.setr.stressT }
    loupe := { d.loupe with units := d.loupe.units.map (fun e => (e.1, { e.2 with holdT := mv e.2.holdT, stT := mv e.2.stT })) }
    cask := { d.cask with scrubT := mv d.cask.scrubT, recs := d.cask.recs.map (fun r => { r with at_ := mv r.at_ }) }
    carat := { d.carat with stopT := mo d.carat.stopT, resT := mv d.carat.resT }
    can := { d.can with startT := mv d.can.startT
                        ports := d.can.ports.map (fun e => (e.1, { e.2 with boffT := mv e.2.boffT, recT := mv e.2.recT }))
                        ents := d.can.ents.map (fun e => (e.1, { e.2 with lastRx := mv e.2.lastRx, changeT := mt e.2.changeT })) }
    eth := d.eth.map (fun e => (e.1, { e.2 with arp := e.2.arp.map (fun a => { a with at_ := mv a.at_ }) }))
    chain := { d.chain with seen := d.chain.seen.map (fun m => (mv m.1, m.2)) }
    time := { d.time with hoT := mv d.time.hoT
                          pulses := d.time.pulses.map (fun e => (e.1, { e.2 with endNs := tNs d + e.2.endNs - old * 5 / 2 }))
                          tsq := d.time.tsq.map (fun e => (e.1, e.2.map (fun x => { x with
                            stamp := x.stamp.map (fun w => (w.1, w.2.1, mv w.2.2)) })))
                          ports := d.time.ports.map (fun e => (e.1, { e.2 with
                            foreign := e.2.foreign.map (fun f => { f with at_ := mv f.at_ }) })) }
    pnd := { d.pnd with offerT := mv d.pnd.offerT, frameT := mo d.pnd.frameT, hbiT := mo d.pnd.hbiT, takeT := mo d.pnd.takeT }
    boot := { d.boot with hboT := mv d.boot.hboT }
    sec := { d.sec with lockEnd := mv d.sec.lockEnd, fails := d.sec.fails.map mv, liveAt := mv d.sec.liveAt }
    gd := { d.gd with testBack := mo d.gd.testBack, seqT := mv d.gd.seqT, offT := mv d.gd.offT, holdFrom := mo d.gd.holdFrom,
                      lastTest := mv d.gd.lastTest, refreshT := mv d.gd.refreshT }
    clasp := { d.clasp with rtcT := mv d.clasp.rtcT, pwrT := mv d.clasp.pwrT }
    clk := { d.clk with lockstep := mo d.clk.lockstep, tryT := mt d.clk.tryT } }

/-- The clock takes the network time `n` in ns: T is reloaded, carriers restart as on a wake (R118), STEPPED and
EV_TIMELOCK with reason 3, LOCK falls, and timed outputs are planned anew (R443, R444, R446).
Log entry 132 (DEDUCED). -/
def stepTo (n : Nat) (d : Dev) : Dev :=
  let d0 := moveInstants d.t (stepPwm d.t (stepFil d.t (stepScans { d with t := n * 2 / 5 })))
  let d1 := forAll 48 (fun k e => modLeg k (fun x => { x with
    running := false, starts := [], lastRise := none, lastFall := none, dt := none, glOn := none }) e) d0
  let d2 := forAll 2 (fun i e => modPtp i (fun x => { x with st := if x.st = 9 then 8 else x.st }) e) d1
  let d3 := { d2 with time := { d2.time with stepped := true, lock := false, inRun := 0, outRun := 0, stepPend := none,
                                             setPend := none } }
  forAll 8 (pulsePlan false) (validCheck (raiseI 98 3 d3))

/-- `CLOCK_STEP`: the epoch tick at which a pending step or a written SEC acts; outside READY the clock is never
stepped. Log entry 132 (DEDUCED). -/
def clockStep (d : Dev) : Dev :=
  if d.t % ticksPerMs ≠ 0 then d
  else if d.sys.st ≠ .ready then { d with time := { d.time with stepPend := none, setPend := none } }
  else
    match d.time.setPend, d.time.stepPend with
    | some sec, _ => stepTo (sec * 1000000000 + tNs d % 1000000000) d
    | none, some off => stepTo ((tNs d : Int) - off).toNat d
    | none, none => d

def execClockStep (t : Nat) (s : State) : Host.Outcome State Fault Refusal := lift t clockStep s

/-- `TIME_SET`: a PSET of time.set, in READY while no port is in SLAVE (R443). Log entry 132 (DEDUCED). -/
def timeSet (sec : Nat) (d : Dev) : Dev :=
  if 2 ^ 63 ≤ sec then answer 8 0xC072 d
  else if d.sys.st = .ready ∧ ¬ ptpAny d [9] then answer 0 0 { d with time := { d.time with setPend := some sec } }
  else refuseOpen d

def execTimeSet (t cls sec : Nat) (s : State) : Host.Outcome State Fault Refusal := lift t (immediate cls 2 (timeSet sec)) s

end Sys2Proof.Machine
end

