-- ==== Sys2Proof/Machine/Pendant.lean ====
section
/-!
DEFINITION. The Pendant pair: forming it, the mirror, its heartbeat, takeover, role swap and transfer calibration
(R452 to R472, R499), and the reception of Chain frames (R432, R433).
-/
namespace Sys2Proof.Machine

/-! ### Readings of the pair -/

/-- The Pendant lane. -/
def pndLane (d : Dev) : Nat := prm d 0xC031 0

/-- The Pendant link is up (R463, R472). -/
def pndLink (d : Dev) : Bool := chainUp d (pndLane d)

/-- An edge on PND_HBI within 8 µs (R472). -/
def hbOk (d : Dev) : Bool :=
  match d.pnd.hbiT with
  | some a => decide (d.t ≤ a + 3200)
  | none => false

/-- Mirror formats that work together: equal, or one release apart (R460). Log entry 134 (DEDUCED). -/
def mirverOk (v : Nat) : Bool := v = Config.mirver || v + 1 = Config.mirver || v = Config.mirver + 1

/-- Load points of leg `n` a second (R119). Log entry 141 (DESIGN CHOICE). -/
def loadRate (d : Dev) (n : Nat) : Rat :=
  if role d n = 0 then 0 else (400000000 : Rat) / (prm d 0x3104 n : Nat) * (if prm d 0x3107 n = 1 then 2 else 1)

/-- The number of registers of Carat point `m` that a Carat record carries (R305, R459).
Log entry 141 (DESIGN CHOICE). -/
def caratRegs (m : Nat) : Nat := if m = 0 then 14 else 4

/-- Bytes a second that an active device streams (R459): the records of R459 by their length and rate.
Log entry 141 (DESIGN CHOICE). -/
def streamBytes (d : Dev) : Rat :=
  let cs : Rat := (List.range 128).foldl (fun a c =>
    if casOn d c then a + ((7 + 10 * prm d 0x2011 c) * prm d 0x2015 c : Nat) else a) 0
  let ls : Rat := (List.range 48).foldl (fun a n => a + 9 * loadRate d n) 0
  let cr : Nat := (List.range 33).foldl (fun a m => if metered d m then a + 4 + 16 * caratRegs m else a) 0
  cs + ls + ((139 + 16 * prm d 0x7001 0 + cr) * 1000 : Nat)

/-- Record bytes a second that the Pendant lane carries: 76 per frame period (R459). Log entry 141 (DESIGN CHOICE). -/
def streamCap (d : Dev) : Rat := (76 * 40000000000 : Nat) / (framePeriod d (pndLane d) : Nat)

/-- 0xD010 pnd.load in 0.01 % (R459, R471): of an active device. Log entry 141 (DESIGN CHOICE). -/
def pndLoad (d : Dev) : Nat :=
  if d.pnd.role = 1 then min 10000 (streamBytes d / streamCap d * 10000).floor.toNat else 0

/-- The checks of R453: every leg with a role has an output mode 1 or 2, and the load stays within 80 %.
Log entry 134 (DEDUCED). -/
def pairCheck (d : Dev) : Bool :=
  (List.range 48).all (fun n => role d n = 0 || prm d 0x3110 n = 1 || prm d 0x3110 n = 2) &&
    decide (streamBytes d * 10 ≤ streamCap d * 8)

/-- PHDR of the frames that the device sends over the Pendant lane (R459). Log entry 141 (DESIGN CHOICE). -/
def phdr (d : Dev) : Nat :=
  b01 (d.pnd.role = 1) + 2 * b01 d.pnd.fault + 4 * b01 d.pnd.taken + 8 * b01 (d.sys.standby && d.pnd.synced) +
    16 * b01 d.gd.closed + 32 * b01 (d.gd.dem && d.gd.demGrid)

/-- Send a Pendant control message (R459). Log entry 141 (DESIGN CHOICE). -/
def control (kind a b : Nat) (d : Dev) : Dev :=
  if pndLink d then { d with chain := { d.chain with out := .control kind a b :: d.chain.out } } else d

/-- Send a record of the mirror stream. Log entry 141 (DESIGN CHOICE). -/
def mirrorOut (rtype a b : Nat) (bs : List Byte) (d : Dev) : Dev :=
  if d.pnd.role = 1 ∧ pndLink d then { d with chain := { d.chain with out := .mirror rtype a b bs :: d.chain.out } } else d

/-- The digest of the device's own mirrored configuration (R461, R463). Log entry 134 (DEDUCED). -/
def ownDigest (d : Dev) : Nat := Config.cfgDigest (d.prm.active.filter (fun e =>
  !(0xC000 ≤ e.1 / 65536 && e.1 / 65536 < 0xE000) && !(0x20 ≤ e.1 / 65536 && e.1 / 65536 ≤ 0x24) &&
    !(0x1107 ≤ e.1 / 65536 && e.1 / 65536 ≤ 0x1109) && e.1 / 65536 ≠ 0x9008)) (activeBank d)

/-! ### Forming the pair (R455 to R457) -/

/-- The role that the payload names is offered by the peer. Log entry 134 (DEDUCED). -/
def peerOffers (d : Dev) : Bool :=
  match d.pnd.hello with
  | some (_, _, _, o) => o = 3 - d.pnd.offer
  | none => false

/-- The peer's hello shows the digest that the own PAIR names. Log entry 134 (DEDUCED). -/
def digestOk (d : Dev) : Bool :=
  match d.pnd.hello with
  | some (g, _, _, _) => g = prm d 0xD001 0
  | none => false

/-- The peer's mirror format works with the own. -/
def peerMirver (d : Dev) : Bool :=
  match d.pnd.hello with
  | some (_, v, _, _) => mirverOk v
  | none => false

/-- What an ended pair leaves behind. -/
def pndAlone (p : Pnd) : Pnd :=
  { p with role := 0, formed := false, offer := 0, synced := false, syncRun := 0, xfer := false, peerActive := false,
           peerFault := false, peerTaken := false, peerSynced := false, peerClosed := false, peerDem := false,
           fault := false, taken := false, commit := none, swapMs := none, swapSlot := none, swapFw := false,
           xcal := none, xcalRun := false, xcalStats := none, xcalObs := none, takeT := none }

/-- Set SYNCED; each change raises EV_PNDSYNC (R463). Log entry 135 (DEDUCED). -/
def setSynced (v : Bool) (d : Dev) : Dev :=
  if d.pnd.synced = v then d else raiseI 106 (b01 v) { d with pnd := { d.pnd with synced := v } }

/-- The pair forms when both devices have issued their operation and each has found the digest it names (R455): the
standby moves from READY to SYNC under the conditions of R24, so never on factory values (R11), and the active device
sends its configuration (R456). Log entry 134 (DEDUCED). -/
def tryForm (d : Dev) : Dev :=
  if d.pnd.offer ≠ 0 ∧ ¬ d.pnd.formed ∧ peerOffers d ∧ digestOk d ∧ peerMirver d ∧ pndLink d ∧ pairCheck d then
    let d1 := { d with pnd := { d.pnd with role := d.pnd.offer, formed := true, xfer := true, xferPct := 0, fault := false,
                                           taken := false, synced := false, syncRun := 0 } }
    if d.pnd.offer = 2 then
      if d.sys.st = .ready ∧ syncRefusal d = none then
        transition .sync 0x05 { d1 with sys := { d1.sys with standby := true }, pnd := { d1.pnd with oustedHold := false } }
      else d
    else mirrorOut 7 d1.lkt.snapSeq 0 [] d1
  else d

/-- `PND_HELLO_RX`: a hello of the peer (R455, R459, R460). Log entry 134 (DEDUCED). -/
def helloRx (digest mv addr offer : Nat) (d : Dev) : Dev :=
  if pndLink d then tryForm { d with pnd := { d.pnd with hello := some (digest, mv, addr, offer), mirver := mv } } else d

def execPndHelloRx (t digest mirver addr offer : Nat) (s : State) : Host.Outcome State Fault Refusal :=
  lift t (helloRx digest mirver addr offer) s

/-- States in which PAIR operation 1 is accepted (R455). -/
def pairStates (d : Dev) : Bool :=
  match d.sys.st with
  | .ready | .sync | .run | .form | .service => true
  | _ => false

/-- `PAIR_ACTIVE` and `PAIR_STANDBY`: the device offers to pair (R455). The DETAIL of a refusal by the state is not
stated. -/
def pairOffer (op : Nat) (c : Cmd) (d : Dev) : Dev :=
  let ok := if op = 1 then pairStates d else d.sys.st = .ready
  if field c.body 0 0 ≠ op then d
  else if ¬ ok ∨ d.sys.standby ∨ d.pnd.formed then finishOpen c d
  else
    let d1 := goLong c (setPrm 0xD001 0 (field c.body 19 4) d)
    tryForm (control 1 op 0 { d1 with pnd := { d1.pnd with offer := op, offerT := d1.t } })

def execPairActive (t slot : Nat) (s : State) : Host.Outcome State Fault Refusal := liftCmd t slot 0x0F (pairOffer 1) s

def execPairStandby (t slot : Nat) (s : State) : Host.Outcome State Fault Refusal := liftCmd t slot 0x0F (pairOffer 2) s

/-- The pair ends at once (R457): the standby loses SYNCED and stays in SYNC until its host requests READY. -/
def unpair (d : Dev) : Dev :=
  let d1 := setSynced false d
  { d1 with pnd := pndAlone d1.pnd }

/-- The first four bytes of every PAIR response: the role now (R364). -/
def pairResp (d : Dev) : List Byte := le 4 d.pnd.role

/-- `PAIR_UNPAIR` (R457): a PAIR or a FWACT that waits for a swap is cut off. -/
def pairUnpair (c : Cmd) (d : Dev) : Dev :=
  if field c.body 0 0 ≠ 0 then d
  else
    let d1 := match d.pnd.swapSlot with
      | some s => finishLong s 0x10 (stCode d.sys.st) [] d
      | none => d
    let d2 := unpair (control 3 0 0 d1)
    finish c 0 0 (pairResp d2) d2

def execPairUnpair (t slot : Nat) (s : State) : Host.Outcome State Fault Refusal := liftCmd t slot 0x0F pairUnpair s

/-- `PND_UNPAIR_MSG_RX` (R457). -/
def unpairRx (d : Dev) : Dev :=
  if d.pnd.formed then
    let d1 := match d.pnd.swapSlot with
      | some s => finishLong s 0x10 (stCode d.sys.st) [] d
      | none => d
    unpair d1
  else d

def execPndUnpairMsgRx (t : Nat) (s : State) : Host.Outcome State Fault Refusal := lift t unpairRx s

/-- The reason of R457 for which the pair has not come to SYNCED; none of the table gives no DETAIL.
Log entry 134 (DEDUCED). -/
def pairReason (d : Dev) : Option Nat :=
  if ¬ pndLink d ∨ ¬ hbOk d then some 1
  else if ¬ digestOk d then some 2
  else if ¬ peerMirver d then some 3
  else if ¬ peerOffers d then some 4
  else if ¬ pairCheck d then some 5
  else none

/-- `PAIR_TIMEOUT`: SYNCED has not come within 10 s (R457); a refused standby returns to READY.
Log entry 134 (DEDUCED). -/
def pairTimeout (d : Dev) : Dev :=
  match longOf d 0x0F with
  | none => d
  | some l =>
    if d.pnd.offer ≠ 0 ∧ d.pnd.offerT + 4000000000 ≤ d.t then
      let d1 := match pairReason d with
        | some r => finishLong l.slot 1 r [] d
        | none => finishLongOpen l.slot d
      let d2 := unpair d1
      if ¬ d.sys.standby then d2
      else if d.sys.st = .sync then enterReady 0x05 d2
      else { d2 with sys := { d2.sys with standby := false } }
    else d

def execPairTimeout (t : Nat) (s : State) : Host.Outcome State Fault Refusal := lift t pairTimeout s

/-- SYNCED is 1: of a standby its own, of an active device the peer's (R457). Log entry 135 (DEDUCED). -/
def pairSynced (d : Dev) : Bool := if d.sys.standby then d.pnd.synced else d.pnd.role = 1 && d.pnd.peerSynced

/-- The first epoch tick at which SYNCED = 1 completes PAIR (R457). Log entry 135 (DEDUCED). -/
def pairDone (d : Dev) : Dev :=
  match longOf d 0x0F with
  | some l =>
    if d.pnd.offer ≠ 0 ∧ d.pnd.formed ∧ pairSynced d ∧ d.t ≤ d.pnd.offerT + 4000000000 then
      finishLong l.slot 0 0 (pairResp d) { d with pnd := { d.pnd with offer := 0, xfer := false, xferPct := 100 } }
    else d
  | none => d

/-! ### Synchronism (R463) -/

/-- The sync conditions of this epoch. Log entry 135 (DEDUCED). -/
def syncConds (d : Dev) : Bool :=
  pndLink d && mirverOk d.pnd.mirver && !d.pnd.xfer && d.pnd.peerDigest = ownDigest d &&
    (List.range 128).all (fun c => !casOn d c || bit d.pnd.matched c) &&
    (List.range 168).all (fun i => !inScan d i || (ain d i).res.valid)

/-- SYNCED of a standby at an epoch tick (R463). Log entry 135 (DEDUCED). -/
def syncStep (d : Dev) : Dev :=
  if d.sys.standby ∧ d.pnd.formed then
    let ok := syncConds d
    let n := if ok then d.pnd.syncRun + 1 else 0
    setSynced (ok && decide (prm d 0xD003 0 ≤ n)) { d with pnd := { d.pnd with syncRun := n, matched := 0 } }
  else d

/-! ### The disconnect channel in a pair (R499) -/

/-- The closing sequence starts: GDL turns on (R489). Log entry 101 (DEDUCED). -/
def gdStart (d : Dev) : Dev :=
  { d with gd := { d.gd with gdl := true, closing := true, seqT := d.t, holdFrom := none } }

/-- A synced standby closes its channel under the pair hold once a good frame shows GD_CLOSED (R499).
Log entry 135 (DEDUCED). -/
def pairHoldClose (d : Dev) : Dev :=
  if d.sys.standby ∧ d.pnd.synced ∧ d.pnd.peerClosed ∧ prm d 0xE100 0 = 1 ∧ ¬ d.gd.dem ∧ ¬ d.gd.fault ∧
      ¬ d.gd.closed ∧ ¬ d.gd.closing ∧ ¬ d.gd.opening then
    let d1 := gdStart d
    { d1 with gd := { d1.gd with pairHold := true } }
  else d

/-- The epoch work of the pair hold and of the demand on a standby (R499). Log entry 135 (DEDUCED). -/
def pairHoldStep (d : Dev) : Dev :=
  if d.sys.standby then
    let d1 := if d.gd.pairHold ∧ ¬ d.pnd.peerClosed ∧ ¬ d.pnd.peerFault ∧ d.pnd.frameT.isSome then gdOff d else d
    if d1.pnd.mirror = .ready ∧ d1.gd.dem then { d1 with gd := { d1.gd with dem := false, demGrid := false } } else d1
  else d

/-- A good frame with GD_DEM raises a demand of the device's own, which does not set its own GD_DEM; an active device
trips with cause 0x25 and holds every leg off (R499). Log entry 135 (DEDUCED). -/
def peerDemand (d : Dev) : Dev :=
  if d.pnd.formed ∧ ¬ d.gd.dem then
    let d1 := gdDemand false d
    if d.pnd.role = 1 then
      let d2 := enterTrip 0x25 { d1 with pwm := { d1.pwm with devHold := true } }
      { d2 with gd := { d2.gd with demGrid := d.gd.demGrid } }
    else d1
  else d

/-! ### Takeover (R464 to R466) -/

/-- The conditions of R464 under which a standby takes over; not under an early warning of its own (R529).
Log entry 136 (DEDUCED). -/
def takeoverOk (d : Dev) : Bool :=
  d.sys.standby && !d.hold.warned && d.sys.st = .sync && d.pnd.synced && prm d 0xD004 0 = 1 && (prm d 0xE100 0 = 0 || d.gd.closed) &&
    (d.pnd.mirror = .run || d.pnd.mirror = .ride || d.pnd.mirror = .form ||
      (d.pnd.mirror = .service && d.pnd.mirrorSvc = .run))

/-- EV_PNDLOST of a standby. Log entry 136 (DEDUCED). -/
def pndLost (d : Dev) : Dev := if d.sys.standby then raiseI 104 0 d else d

/-- The device sees TAKEN from its peer (R466, R490): every leg leaves service, the channel opens, a running COMMIT is
cut off, and DRVEN goes to high impedance. Log entry 136 (DEDUCED). -/
def oust (d : Dev) : Dev :=
  if (gatesState d ∨ d.sys.st = .trip) ∧ ¬ d.sys.standby ∧ d.pnd.role = 1 ∧ ¬ d.pnd.oustedHold then
    let why := if d.pnd.fault then 1 else 2
    let d1 := { d with pnd := { d.pnd with ousted := true, oustedHold := true } }
    let d2 := raise 105 1 [BitVec.ofNat 8 why] (gdOff (legsOut d1))
    let d3 := enterTrip 0x21 d2
    match d3.commit with
    | some j => finishLong j.slot 0x10 (stCode d3.sys.st) [] (dropCommit d3)
    | none => d3
  else d

/-- What a good frame on the Pendant lane tells (R459): PHDR, MIRVER, and the tick of its reception.
Log entry 136 (DEDUCED). -/
def pndFrame (b : List Byte) (d : Dev) : Dev :=
  let h := field b 24 24
  let was := d.pnd.peerFault
  let d1 := { d with pnd := { d.pnd with
    peerActive := bit h 0, peerFault := bit h 1, peerTaken := bit h 2, peerSynced := bit h 3, peerClosed := bit h 4,
    peerDem := bit h 5, mirver := field b 25 25, frameT := some d.t, silentLink := false } }
  let d2 := if bit h 1 ∧ ¬ was then
      (if takeoverOk d1 then { d1 with pnd := { d1.pnd with takeT := some d.t } } else pndLost d1) else d1
  let d3 := if bit h 2 then oust d2 else d2
  let d4 := if bit h 5 then peerDemand d3 else d3
  pairHoldClose d4

/-- `CHAIN_FRAME_RX`: a frame of 128 symbols on link `k` (R432, R433): a good one counts and its slots are taken, a bad
one changes nothing but its counts. -/
def chainRx (k : Nat) (b : List Byte) (d : Dev) : Dev :=
  if 2 ≤ k ∧ k < 8 ∧ laneMode d k = 1 ∧ lanePll d k ∧ busesRun d then
    let d1 := alignStep k (field b 0 0 = 0xBC) d
    if frameGood b ∧ bits (field b 3 2) 11 0 ≠ prm d 0xC030 0 then
      let d2 := msgSlot k b (goodFrame k (field b 1 1) d1)
      if k = pndLane d then pndFrame b d2 else d2
    else badFrame k d1
  else d

def execChainFrameRx (t k : Nat) (frame : List Byte) (s : State) : Host.Outcome State Fault Refusal :=
  lift t (chainRx k frame) s

/-- `PND_HEARTBEAT_TIMEOUT`: neither a good frame nor an edge for 8 µs (R464). Log entry 136 (DEDUCED). -/
def hbTimeout (d : Dev) : Dev :=
  let old := fun (x : Option Nat) => decide (x.getD 0 + 3200 ≤ d.t)
  if d.pnd.formed ∧ old d.pnd.frameT ∧ old d.pnd.hbiT ∧ ¬ (d.pnd.silentLink ∧ d.pnd.silentWire) then
    let d1 := { d with pnd := { d.pnd with silentLink := true, silentWire := true, takeT := some d.t } }
    if takeoverOk d1 then d1 else pndLost d1
  else d

def execPndHeartbeatTimeout (t : Nat) (s : State) : Host.Outcome State Fault Refusal := lift t hbTimeout s

/-- `HEARTBEAT_PATH_SILENCE`: one path alone has been silent for 8 µs: the standby raises EV_PNDLOST and does not take
over (R464). Log entry 136 (DEDUCED). -/
def pathSilence (wire : Bool) (d : Dev) : Dev :=
  let own := if wire then d.pnd.hbiT else d.pnd.frameT
  let other := if wire then d.pnd.frameT else d.pnd.hbiT
  let known := if wire then d.pnd.silentWire else d.pnd.silentLink
  if d.pnd.formed ∧ own.getD 0 + 3200 ≤ d.t ∧ d.t < other.getD 0 + 3200 ∧ ¬ known then
    pndLost { d with pnd := if wire then { d.pnd with silentWire := true } else { d.pnd with silentLink := true } }
  else d

def execHeartbeatPathSilence (t : Nat) (wire : Bool) (s : State) : Host.Outcome State Fault Refusal :=
  lift t (pathSilence wire) s

/-- `PND_HBI_EDGE` (R472). -/
def hbiEdge (d : Dev) : Dev := { d with pnd := { d.pnd with hbiT := some d.t, silentWire := false } }

def execPndHbiEdge (t : Nat) (s : State) : Host.Outcome State Fault Refusal := lift t hbiEdge s

/-- `PND_HBO_TOGGLE`: every 400 ticks while the core supply is good and the PWM PLL is locked (R454). -/
def hboToggle (d : Dev) : Dev :=
  if d.clasp.pwrEn ∧ locked d 2 ∧ ¬ d.sys.testStop ∧ d.boot.hboT + 400 ≤ d.t then
    { d with boot := { d.boot with hbo := !d.boot.hbo, hboT := d.t } }
  else d

def execPndHboToggle (t : Nat) (s : State) : Host.Outcome State Fault Refusal := lift t hboToggle s

/-- A leg that its leg records show in service starts to drive at a takeover (R465): each output turns on after its dead
time, without a start pulse, with DUV blanking and a fresh refresh count; one that a latch of its own holds is out.
Log entry 136 (DEDUCED). -/
def takeLeg (n : Nat) (d : Dev) : Dev :=
  if inSvc d n then
    if guardHold d n ∨ (leg d n).dfltLat ∨ (leg d n).duvLat then legOut n false d
    else modLeg n (fun x => { x with
      gh3 := false, gl3 := false, glOn := none, duvBlank := true, duvEnd := d.t + 400 * prm d 0x3123 n,
      refresh := 0, refreshed := false, gated := false, dt := wants d n, dtAt := 16 * d.t + turnOn d n x.s }) d
  else d

/-- The event after which a standby takes over has come at an earlier tick (R464). Log entry 136 (DEDUCED). -/
def takeoverDue (d : Dev) : Bool :=
  match d.pnd.takeT with
  | some a => decide (a < d.t) && (d.pnd.peerFault || (d.pnd.silentLink && d.pnd.silentWire))
  | none => false

/-- `PENDANT_TAKEOVER`: the tick after a declared fault or the loss of both heartbeat paths (R464, R465).
Log entry 136 (DEDUCED). -/
def takeover (d : Dev) : Dev :=
  if takeoverOk d ∧ takeoverDue d then
    let entered := if d.pnd.mirror = .service then OpState.run else d.pnd.mirror
    let d1 := { d with sys := { d.sys with standby := false }
                       pnd := { d.pnd with role := 1, taken := true, took := true, takes := incSat 65535 d.pnd.takes,
                                           commit := none, takeT := none } }
    let d2 := transition entered 0x30 (probeSwap d1)
    let d3 := sweepAbort { d2 with gd := { d2.gd with pairHold := false } }
    let d4 := forAll 48 takeLeg d3
    retract 6 (setSynced false (raise 105 0 [if d.pnd.peerFault then 1 else 2] d4))
  else d

def execPendantTakeover (t : Nat) (s : State) : Host.Outcome State Fault Refusal := lift t takeover s

/-! ### Planned role swap (R468) -/

/-- The active device may swap (R468, R470). Log entry 137 (DEDUCED). -/
def swapOk (d : Dev) : Bool :=
  d.pnd.role = 1 && d.pnd.formed && runLike d && d.pnd.peerSynced && d.setr.intent.isNone && d.pnd.swapMs.isNone

/-- A swap begins (R468): SERVICE returns to RUN, and a message names the tick. `fw` says that a FWACT waits for it.
Log entry 137 (DEDUCED). -/
def swapStart (fw : Bool) (c : Cmd) (d : Dev) : Dev :=
  let d1 := goLong c d
  let d2 := if d1.sys.st = .service then transition .run 0x32 d1 else d1
  let ms := (d2.t + 399999) / 400000 + prm d2 0xD002 0
  control 2 ms 0 { d2 with pnd := { d2.pnd with swapMs := some ms, swapSlot := some c.slot, swapFw := fw } }

/-- `PAIR_SWAP`: PAIR operation 3 (R468). The DETAIL of its refusal is not stated. Log entry 137 (DEDUCED). -/
def pairSwap (c : Cmd) (d : Dev) : Dev :=
  if field c.body 0 0 ≠ 3 then d else if swapOk d then swapStart false c d else finishOpen c d

def execPairSwap (t slot : Nat) (s : State) : Host.Outcome State Fault Refusal := liftCmd t slot 0x0F pairSwap s

/-- `PND_SWAP_MSG_RX`: the peer names the tick of a swap (R468). Log entry 137 (DEDUCED). -/
def swapMsg (ms : Nat) (d : Dev) : Dev :=
  if d.sys.standby ∧ d.pnd.formed then { d with pnd := { d.pnd with swapMs := some ms } } else d

def execPndSwapMsgRx (t ms : Nat) (s : State) : Host.Outcome State Fault Refusal := lift t (swapMsg ms) s

/-- The swap is cancelled: PAIR, or the FWACT, completes with ABORTED (R468). Log entry 137 (DEDUCED). -/
def swapCancel (d : Dev) : Dev :=
  let d1 := match d.pnd.swapSlot with
    | some s => finishLong s 0x10 (stCode d.sys.st) [] d
    | none => d
  { d1 with pnd := { d1.pnd with swapMs := none, swapSlot := none, swapFw := false } }

/-- A grid fault, the loss of SYNCED or a new intent before the tick cancels a swap (R468). Log entry 137 (DEDUCED). -/
def swapStep (d : Dev) : Dev :=
  if d.pnd.swapMs.isNone then d
  else if d.sys.standby then (if d.pnd.synced ∧ d.pnd.mirror ≠ .ride ∧ d.pnd.mirror ≠ .trip then d else swapCancel d)
  else if d.sys.st = .run ∧ d.pnd.peerSynced ∧ d.setr.intent.isNone then d
  else swapCancel d

/-- Change firmware slot `i`. Log entry 137 (DEDUCED). -/
def modFw (i : Nat) (f : FwSlot → FwSlot) (d : Dev) : Dev :=
  if i = 0 then { d with sec := { d.sec with fw0 := f d.sec.fw0 } } else { d with sec := { d.sec with fw1 := f d.sec.fw1 } }

/-- A live activation begins (R470): the slot that is not active takes the activation mark, and the pause follows. -/
def liveStart (slot : Nat) (d : Dev) : Dev :=
  let d1 := modFw (1 - d.sec.fwAct) (fun x => { x with mark := true, tries := 0 }) d
  { d1 with sec := { d1.sec with live := some slot, liveAt := d1.t } }

/-- `ROLE_SWAP_TICK`: the drive passes between two ticks (R468). The device that yields enters SYNC as standby, and with
a FWACT activates the new image; the other enters RUN with its outputs enabled without any dead-time delay.
Log entry 137 (DEDUCED). -/
def roleSwap (d00 : Dev) : Dev :=
  let d := swapStep d00
  match d.pnd.swapMs with
  | none => d
  | some ms =>
    if d.t ≠ 400000 * ms ∨ d.hold.warned then d
    else if d.sys.standby then
      let d1 := { d with sys := { d.sys with standby := false }
                         pnd := { d.pnd with role := 1, swapMs := none, xfer := false } }
      let d2 := transition .run 0x30 (setSynced false (probeSwap d1))
      let d3 := raise 105 0 [3] { d2 with gd := { d2.gd with pairHold := false } }
      forAll 48 (fun n e => modLeg n (fun x => { x with gated := gateHeld e n }) e) d3
    else
      let d1 := { d with sys := { d.sys with standby := true }
                         pnd := { d.pnd with role := 2, swapMs := none, swapSlot := none, swapFw := false, syncRun := 0,
                                             mirror := .run, mirrorSvc := .off, mirrorAuto := false, xfer := false } }
      let d2 := raise 105 2 [3] (transition .sync 0x31 (probeSwap d1))
      match d.pnd.swapSlot with
      | none => d2
      | some s =>
        if d.pnd.swapFw then liveStart s d2
        else finishLong s 0 0 (pairResp d2) d2

def execRoleSwapTick (t : Nat) (s : State) : Host.Outcome State Fault Refusal := lift t roleSwap s

/-! ### The mirror on the standby (R459, R461, R462) -/

/-- A device that applies mirror records: a formed standby. -/
def mirrors (d : Dev) : Bool := d.sys.standby && d.pnd.formed

/-- The states of a cascade from a list of pairs. Log entry 138 (DEDUCED). -/
def stateTab (k : Nat) (xs : List IntPair) : Tab SecState :=
  match xs with
  | [] => []
  | p :: r => tput {} k ⟨p.a, p.b⟩ (stateTab (k + 1) r)

/-- `MIRROR_CASCADE_STATE_RX`: the states replace those of cascade `c` where ORIGIN_LO matches its last evaluation (R462).
Log entry 138 (DEDUCED). -/
def mirrorCas (c originLo : Nat) (xs : List IntPair) (d : Dev) : Dev :=
  if mirrors d ∧ c < 128 ∧ casOn d c ∧ (cas d c).out.origin % 65536 = originLo then
    let d1 := modCas c (fun x => { x with states := stateTab 0 xs }) d
    { d1 with pnd := { d1.pnd with matched := setBit d1.pnd.matched c } }
  else d

def execMirrorCascadeStateRx (t c seq originLo : Nat) (states : List IntPair) (s : State) :
    Host.Outcome State Fault Refusal :=
  lift t (fun d => if seq < 16 then mirrorCas c originLo states d else d) s

/-- `MIRROR_LEG_RX`: the service state and the compare value of leg `n` (R462). Log entry 138 (DEDUCED). -/
def mirrorLeg (n : Nat) (insvc peak : Bool) (h : Nat) (d : Dev) : Dev :=
  if mirrors d ∧ n < 48 then
    modLeg n (fun x =>
      let y := { x with insvc := insvc, entering := false, leaving := false, companion := false }
      if peak then { y with h2 := h } else { y with h1 := h }) d
  else d

def execMirrorLegRx (t n : Nat) (insvc peak : Bool) (h : Nat) (s : State) : Host.Outcome State Fault Refusal :=
  lift t (mirrorLeg n insvc peak h) s

/-- The PV inputs of an epoch record, from input `q` on. Log entry 138 (DEDUCED). -/
def mirrorPv (q : Nat) (xs : List PvMirror) (d : Dev) : Dev :=
  match xs with
  | [] => d
  | p :: r =>
    let d1 := modPv q (fun x => { x with vref := p.vref, voc := p.voc, dir := p.dir, firstStep := decide (p.step = 0) }) d
    let d2 := if p.phase ≠ 0 then { d1 with pv := { d1.pv with sweepQ := q, sweepPh := p.phase } }
      else if d1.pv.sweepQ = q then { d1 with pv := { d1.pv with sweepPh := 0 } } else d1
    mirrorPv (q + 1) r d2

/-- `MIRROR_EPOCH_RX`: an epoch record replaces the standby's epoch state (R461, R462). Log entry 138 (DEDUCED). -/
def mirrorEpoch (r : EpochRecord) (d : Dev) : Dev :=
  if mirrors d then
    let d1 := { d with
      gs := { d.gs with thPred := some r.thPred, fEst := r.fEst, fTune := r.fTune, pR := r.pR, qCmd := r.qCmd,
                        pTgt := r.pTgt, qTgt := r.qTgt, df := r.df, eTh := r.thE, eMag := r.eMag, e0 := r.e0 }
      rt := { d.rt with tauU := r.tauU, tauF := r.tauF, uPre := r.uPre, ipPre := r.ipPre, iqPre := r.iqPre,
                        ipLast := r.ipLast, regU := bits r.rtStat 1 0, regF := bits r.rtStat 3 2,
                        pramp := bit r.rtStat 6, injLim := bit r.rtStat 7 }
      charm := { d.charm with susp := decide (r.susp ≠ 0), suspSrc := r.susp, suspT := r.tickMs * 400000 - r.suspTimer * 400000,
                              peer := decide (0 < r.chips) }
      setr := { d.setr with seq := r.seq, intent := if r.intentSeq = 0 ∧ r.intentMs = 0 then none else d.setr.intent }
      pnd := { d.pnd with mirror := (stOf (bits r.sysState 3 0)).getD .off, mirrorSvc := (stOf (bits r.sysState 23 20)).getD .off,
                          mirrorAuto := bit r.sysState 16, peerDigest := r.digest } }
    mirrorPv 0 r.pv d1
  else d

def execMirrorEpochRx (t : Nat) (rec : EpochRecord) (s : State) : Host.Outcome State Fault Refusal :=
  lift t (mirrorEpoch rec) s

/-- The registers of a Carat record, from register `r` of point `m` on: the lifetime form and the base.
Log entry 138 (DEDUCED). -/
def mirrorRegs (m r : Nat) (xs : List NatPair) (d : Dev) : Dev :=
  match xs with
  | [] => d
  | p :: rest =>
    mirrorRegs m (r + 1) rest { d with carat := { d.carat with
      regs := tput 0 (16 * m + r) ((p.a : Int) * 4294967296) d.carat.regs,
      bases := tput 0 (16 * m + r) (p.b : Int) d.carat.bases } }

/-- `MIRROR_CARAT_RX` (R462). Log entry 138 (DEDUCED). -/
def mirrorCarat (m : Nat) (xs : List NatPair) (d : Dev) : Dev := if mirrors d ∧ m < 33 then mirrorRegs m 0 xs d else d

def execMirrorCaratRx (t m : Nat) (regs : List NatPair) (s : State) : Host.Outcome State Fault Refusal :=
  lift t (mirrorCarat m regs) s

/-- A Setter record from its bytes (R277). -/
def parseSetRec (b : List Byte) : SetRec :=
  { seq := field b 3 0, typ := field b 4 4, reason := field b 5 5, landMs := field b 15 8, legs := field b 21 16,
    facet12 := field b 22 22, pHi := toInt 32 (field b 27 24), pLo := toInt 32 (field b 31 28),
    share := ((b.drop 32).take 16).map (fun x => x.toNat) }

/-- `SETTER_MIRROR_RX`: a publication of the active device (R282, R436): an intent is outstanding until its landed record
or its retraction. Log entry 138 (DEDUCED). -/
def setterMirror (b : List Byte) (d : Dev) : Dev :=
  if mirrors d ∧ b.length = 48 then
    let r := parseSetRec b
    let d1 := setPrm 0x8130 0 r.seq { d with setr := { d.setr with
      seq := r.seq, last := r, intent := if r.typ = 1 then some r else none } }
    if r.typ = 3 ∨ r.typ = 4 then
      forAll 16 (fun k e => modStr k (fun x => { x with share := r.share.getD k 0 }) e)
        { d1 with setr := { d1.setr with legs := r.legs, facet12 := r.facet12, pHi := r.pHi, pLo := r.pLo } }
    else d1
  else d

def execSetterMirrorRx (t : Nat) (record : List Byte) (s : State) : Host.Outcome State Fault Refusal :=
  lift t (setterMirror record) s

/-! ### Transfer calibration (R469) -/

/-- Set pnd.xcal.res and end the transfer. Log entry 140 (DEDUCED). -/
def xcalEnd (res : Nat) (d : Dev) : Dev :=
  setPrm 0xD021 0 res { d with pnd := { d.pnd with xcal := none, xcalRun := false, xcalStats := none, xcalObs := none,
                                                   xcalRes := res } }

/-- `PND_XCAL_GO`: an engineer's PSET of pnd.xcal.go on a standby (R458, R469). Log entry 140 (DEDUCED). -/
def xcalGo (v : Nat) (d : Dev) : Dev :=
  if ¬ (v ≤ 167 ∨ (0x100 ≤ v ∧ v ≤ 0x102)) then answer 8 0xD020 d
  else if ¬ (mirrors d ∧ d.pnd.synced) then refuseOpen (xcalEnd 5 d)
  else
    let sec := tNs d / 1000000000 + 1
    answer 0 0 (control 4 v sec { d with pnd := { d.pnd with xcal := some v, xcalSec := sec, xcalRun := false,
                                                             xcalStats := none, xcalObs := none } })

def execPndXcalGo (t cls v : Nat) (s : State) : Host.Outcome State Fault Refusal :=
  lift t (fun d => if cls < 2 then answer 2 2 d else xcalGo v d) s

/-- `PND_XCAL_MSG_RX`: the active device learns of a transfer window. Log entry 140 (DEDUCED). -/
def xcalMsg (sel sec : Nat) (d : Dev) : Dev :=
  if d.pnd.role = 1 ∧ d.pnd.formed then
    { d with pnd := { d.pnd with xcal := some sel, xcalSec := sec, xcalRun := false } }
  else d

def execPndXcalMsgRx (t sel sec : Nat) (s : State) : Host.Outcome State Fault Refusal := lift t (xcalMsg sel sec) s

/-- The length in ticks of the window of a transfer calibration: cal.avg whole cycles of the AC point (R469).
Log entry 140 (DEDUCED). -/
def xcalLength (d : Dev) (v : Nat) : Nat :=
  let i := if v < 0x100 then v else prm d 0x9002 (v - 0x100)
  ((prm d 0x110A (4 * i + prm d 0x1101 i) : Nat) * 400000000 / fNow d).floor.toNat

/-- `PND_XCAL_WINDOW_START`: averaging starts at the whole second. Log entry 140 (DEDUCED). -/
def xcalStart (d : Dev) : Dev :=
  match d.pnd.xcal with
  | none => d
  | some v =>
    if d.pnd.xcalRun ∨ tNs d / 1000000000 < d.pnd.xcalSec then d
    else { d with pnd := { d.pnd with xcalRun := true, xcalEnd := d.pnd.xcalSec * 400000000 + xcalLength d v,
                                      xcalN := 0, xcalSum := 0, xcalSq := 0, xcalBad := false } }

def execPndXcalWindowStart (t : Nat) (s : State) : Host.Outcome State Fault Refusal := lift t xcalStart s

/-- The standby sets its correction once it has both figures (R469): a phase takes the angle of the active device; an
input takes the offset that gives its mean and the gain that gives its RMS. Log entry 140 (DEDUCED). -/
def xcalApply (d : Dev) : Dev :=
  match d.pnd.xcal, d.pnd.xcalStats, d.pnd.xcalObs with
  | some v, some (mean, rms), some o =>
    if mean = 0 ∧ rms = 0 then xcalEnd 2 d
    else if v < 0x100 ∧ rms < 8388608 / 10 then xcalEnd 3 d
    else if o.bad then xcalEnd 4 d
    else if 0x100 ≤ v then
      let x := v - 0x100
      let c := ofInt 32 (clampI (-2000) 2000 (prmI d 0x9008 x + roundAway mean - o.phi))
      raiseI 18 (prm d 0x9002 x) (journal (.always (pkey 0x9008 x) c) (xcalEnd 1
        { d with carat := { d.carat with phPend := tput none x (some c) d.carat.phPend, phDone := setBit d.carat.phDone x } }))
    else
      let g := prm d 0x1101 v
      let g0 : Rat := (prm d 0x1108 (4 * v + g) : Rat) / 1073741824
      let va := Config.sqrt (rms * rms - mean * mean)
      let vo := Config.sqrt (o.rms * o.rms - o.mean * o.mean)
      let g1 := if vo = 0 then g0 else clampR (1 / 2) 2 (g0 * va / vo)
      let off := o.mean / g0 + (prmI d 0x1107 (4 * v + g) : Rat) - mean / g1
      raiseI 18 v (calResult 0x1109 v g 2 (calResult 0x1108 v g (roundAway (g1 * 1073741824)).toNat
        (calResult 0x1107 v g (ofInt 32 (roundAway off)) (xcalEnd 1 d))))
  | _, _, _ => d

/-- The active device's calibration of what is transferred is complete (R469). Log entry 140 (DEDUCED). -/
def xcalKnown (d : Dev) (v : Nat) : Bool :=
  if 0x100 ≤ v then bit d.carat.phDone (v - 0x100) else prm d 0x1109 (4 * v + prm d 0x1101 v) = 2

/-- The figures of a window that has ended; `phi` is the angle measured of a phase (R469). Log entry 140 (DEDUCED). -/
def xcalFigures (phi : Int) (d : Dev) : XcalObs :=
  let n : Rat := (d.pnd.xcalN : Nat)
  { mean := d.pnd.xcalSum / n, rms := Config.sqrt (d.pnd.xcalSq / n), phi := phi, bad := d.pnd.xcalBad || d.pnd.xcalN = 0 }

/-- `PND_XCAL_DONE`: the window ends: the active device sends its figures, the standby keeps its own. The figures 0 and 0
say that the active device is not calibrated. Log entry 140 (DEDUCED). -/
def xcalDone (phi : Int) (d : Dev) : Dev :=
  match d.pnd.xcal with
  | none => d
  | some v =>
    let o := xcalFigures phi d
    if ¬ d.pnd.xcalRun ∨ d.t < d.pnd.xcalEnd then d
    else if mirrors d then xcalApply { d with pnd := { d.pnd with xcalObs := some o, xcalRun := false } }
    else
      let ok := xcalKnown d v
      let m := if 0x100 ≤ v then (o.phi : Rat) else o.mean
      let d1 := mirrorOut 8 v (if ok then 1 else 0) [] d
      { d1 with pnd := { d1.pnd with xcal := none, xcalRun := false, xcalStats := some (if ok then (m, o.rms) else (0, 0)) } }

def execPndXcalDone (t : Nat) (phi : Int) (s : State) : Host.Outcome State Fault Refusal := lift t (xcalDone phi) s

/-- `MIRROR_XFER_STATS_RX`: the figures of the active device arrive (R469). Log entry 140 (DEDUCED). -/
def xferStats (sel : Nat) (mean rms : Rat) (d : Dev) : Dev :=
  if mirrors d ∧ d.pnd.xcal = some sel then xcalApply { d with pnd := { d.pnd with xcalStats := some (mean, rms) } } else d

def execMirrorXferStatsRx (t sel : Nat) (mean rms : Rat) (s : State) : Host.Outcome State Fault Refusal :=
  lift t (xferStats sel mean rms) s

/-! ### Epoch work of the pair -/

/-- SYNCED, the pair hold, the completion of PAIR and the cancel of a swap at an epoch tick; a device says hello every
10 ms (R457, R459, R463, R468, R499). -/
def pndEpoch (d : Dev) : Dev :=
  let d1 := swapStep (pairDone (pairHoldStep (syncStep d)))
  if tMs d1 % 10 = 0 ∧ prm d1 0xC031 0 ≠ 255 then control 1 d1.pnd.offer Config.mirver d1 else d1

end Sys2Proof.Machine
end

