-- ==== Sys2Proof/Machine/Channel.lean ====
section
/-!
DEFINITION. The grid disconnect channel: closing, opening, off-tests, diagnostics, the clearing test and ESTOP (R488 to
R501).
-/
namespace Sys2Proof.Machine

/-- Every carrier stops (R118): a leg restarts at its first period start, with its outputs off. -/
def stopCarriers (d : Dev) : Dev :=
  forAll 48 (fun n e => modLeg n (fun x => { x with
    running := false, transition := false, starts := [], glOn := none, s := false, gh3 := false, gl3 := false, dt := none, rise := none,
    fall := none }) e) { d with clk := { d.clk with stopT := some (d.clk.stopT.getD d.t) } }

/-- The tick after `a` that is the next epoch tick. -/
def epochAfter (a : Nat) : Nat := (a / 400000 + 1) * 400000

/-- Epoch ticks come again: the estimator, which kept its last phase and frequency referenced to network time, predicts
the angle at the next tick (R29, R440). -/
def epochsResume (d : Dev) : Dev :=
  match d.clk.stopT with
  | none => d
  | some a =>
    { d with clk := { d.clk with stopT := none }
             gs := { d.gs with thPred := d.gs.thPred.map (fun p =>
               mod360 (p + turn (fNow d) ((epochAfter d.t : Int) - (epochAfter a : Int)))) } }

/-- The device wakes from DOZE (R29, R552): the loops lock, Facets, Casket and CAN ports resume, the windows are armed,
and the time without samples is unmetered. -/
def wakeAll (d : Dev) : Dev := epochsResume (canOn (caratResume (resumeScans (wakeDomains d))))

/-- The channel logic runs: in every state from DOZE to SERVICE (R488). -/
def chanRuns (d : Dev) : Bool :=
  match d.sys.st with
  | .off | .clasp => false
  | _ => d.sys.up

/-- The closing conditions of R489. Log entry 97 (DEDUCED). -/
def closeConds (d : Dev) : Bool :=
  d.sys.st = .sync && !d.sys.standby && prm d 0xE100 0 = 1 && !d.gd.dem && !d.gd.fault && d.gs.lock && d.rt.regU = 0 &&
    d.rt.regF = 0 && !blockLatched d && d.sys.islandGone

/-- Change the channel. -/
def modGd (f : Gd → Gd) (d : Dev) : Dev := { d with gd := f d.gd }

/-- Microseconds in ticks. -/
def usTicks (n : Nat) : Nat := 400 * n

/-- A good frame from the peer shows its channel closed (R499). -/
def peerHolds (d : Dev) : Bool := d.pnd.formed && d.pnd.peerClosed

/-- What the channel does at an epoch refresh (R489, R490, R491): the watch is armed, the closing conditions begin or
break, and in SYNC a must-trip region opens the channel. -/
def gdEpoch (d : Dev) : Dev :=
  let ok := closeConds d && !d.gd.closed && !d.gd.closing && !d.gd.opening
  let d1 := modGd (fun g => { g with refreshT := d.t, watch := true,
                                     holdFrom := if ok then some (g.holdFrom.getD d.t) else none }) d
  if d1.gd.closing ∧ ¬ d1.gd.pairHold ∧ ¬ closeConds d1 then gdOff d1
  else if d1.sys.st = .sync ∧ ¬ d1.sys.standby ∧ d1.gd.closed ∧ ¬ d1.gd.opening ∧ (d1.rt.regU = 2 ∨ d1.rt.regF = 2) then
    gdOff d1
  else d1

/-- `GD_CLOSE_HOLD_EXPIRY` (R489). Log entry 97 (DEDUCED). -/
def closeHold (d : Dev) : Dev :=
  match d.gd.holdFrom with
  | none => d
  | some a =>
    if closeConds d ∧ ¬ d.gd.closed ∧ ¬ d.gd.closing ∧ ¬ d.gd.opening ∧ a + ticksPerMs * gdPrm d 0xE102 ≤ d.t then gdStart d
    else d

def execGdCloseHoldExpiry (t : Nat) (s : State) : Host.Outcome State Fault Refusal := lift t closeHold s

/-- `GD_READBACK_STEP`: gd.rb.t into the closing, GDL_RB must read on and GDH_RB off, and GDH turns on; at 2 × gd.rb.t
both must read on (R489, R495). Log entry 97 (DEDUCED). -/
def readbackStep (gh gl : Bool) (d : Dev) : Dev :=
  if d.gd.closing ∧ d.gd.gdh then
    if d.gd.seqT + 2 * usTicks (gdPrm d 0xE105) ≤ d.t then
      let d1 := modGd (fun g => { g with gdhRb := gh, gdlRb := gl }) d
      if ¬ gl then gdFault 2 d1 else if ¬ gh then gdFault 1 d1 else d1
    else d
  else if d.gd.closing ∧ ¬ d.gd.gdh ∧ d.gd.seqT + usTicks (gdPrm d 0xE105) ≤ d.t then
    let d1 := modGd (fun g => { g with gdhRb := gh, gdlRb := gl }) d
    if ¬ gl then gdFault 2 d1
    else if gh then gdFault 1 d1
    else modGd (fun g => { g with gdh := true, gdhRb := true }) d1
  else d

def execGdReadbackStep (t : Nat) (ghRb glRb : Bool) (s : State) : Host.Outcome State Fault Refusal :=
  lift t (readbackStep ghRb glRb) s

/-- `GD_PULLIN_CONFIRM`: the coil current exceeds gd.i.hold (R489). Log entry 97 (DEDUCED). -/
def pullIn (mv : Nat) (d : Dev) : Dev :=
  if d.gd.closing ∧ d.gd.gdh ∧ gdPrm d 0xE106 < mv ∧ (d.gd.pairHold ∨ closeConds d) ∧
      d.t ≤ d.gd.seqT + ticksPerMs * gdPrm d 0xE103 then
    modGd (fun g => { g with closed := true, closing := false, mv := mv, lastTest := d.t, old := [] }) d
  else modGd (fun g => { g with mv := mv }) d

def execGdPullinConfirm (t mv : Nat) (s : State) : Host.Outcome State Fault Refusal := lift t (pullIn mv) s

/-- `GD_CLOSE_TIMEOUT`: FCODE 5 (R495). Log entry 97 (DEDUCED). -/
def closeTimeout (d : Dev) : Dev :=
  if d.gd.closing ∧ d.gd.seqT + ticksPerMs * gdPrm d 0xE103 ≤ d.t then gdFault 5 d else d

def execGdCloseTimeout (t : Nat) (s : State) : Host.Outcome State Fault Refusal := lift t closeTimeout s

/-- `GD_OPEN_CONFIRMED`: both readbacks read off, and the coil current is absent, which a paired device whose peer holds
the coil does not ask (R490, R499); a READY request that waits completes. Log entry 98 (DEDUCED). -/
def openConfirmed (mv : Nat) (d : Dev) : Dev :=
  if d.gd.opening ∧ (mv < gdPrm d 0xE107 ∨ peerHolds d) then
    let d1 := modGd (fun g => { g with closed := false, opening := false, gdhRb := false, gdlRb := false, mv := mv,
                                       old := [] }) d
    if d1.sys.auto = .syncToReady then enterReady 0x05 d1 else d1
  else modGd (fun g => { g with mv := mv }) d

def execGdOpenConfirmed (t mv : Nat) (s : State) : Host.Outcome State Fault Refusal := lift t (openConfirmed mv) s

/-- `GD_OPEN_TIMEOUT`: FCODE 6 (R490, R495). Log entry 98 (DEDUCED). -/
def openTimeout (d : Dev) : Dev :=
  if d.gd.opening ∧ ¬ (d.gd.fault ∧ d.gd.fcode = 6) ∧ d.gd.offT + ticksPerMs * gdPrm d 0xE104 ≤ d.t then gdFault 6 d else d

def execGdOpenTimeout (t : Nat) (s : State) : Host.Outcome State Fault Refusal := lift t openTimeout s

/-- `GDALM_TIMEOUT`: a readback or the coil current persists beyond gd.open.t after both drives went off (R495, R499).
Log entry 98 (DEDUCED). -/
def gdalm (gh gl : Bool) (mv : Nat) (d : Dev) : Dev :=
  if chanRuns d ∧ ¬ d.gd.gdh ∧ ¬ d.gd.gdl ∧ d.gd.offT + ticksPerMs * gdPrm d 0xE104 ≤ d.t then
    modGd (fun g => { g with gdhRb := gh, gdlRb := gl, mv := mv,
                             alm := g.alm || gh || gl || (decide (gdPrm d 0xE107 < mv) && !peerHolds d) }) d
  else d

def execGdalmTimeout (t : Nat) (ghRb glRb : Bool) (mv : Nat) (s : State) : Host.Outcome State Fault Refusal :=
  lift t (gdalm ghRb glRb mv) s

/-! ### Off-tests (R493, R494) -/

/-- Set the drive and the readback of one side: GDL where `low`. -/
def setSide (low on rb : Bool) (g : Gd) : Gd :=
  if low then { g with gdl := on, gdlRb := rb } else { g with gdh := on, gdhRb := rb }

/-- `GD_OFFTEST_START`: every 60 s while CLOSED. -/
def offtestStart (d : Dev) : Dev :=
  if chanRuns d ∧ d.gd.closed ∧ ¬ d.gd.opening ∧ d.gd.testing = 0 ∧ d.gd.lastTest + 24000000000 ≤ d.t then
    modGd (fun g => { (if g.nextSide then { g with gdl := false } else { g with gdh := false }) with
      testing := 1, seqT := d.t, testBack := none }) d
  else d

def execGdOfftestStart (t : Nat) (s : State) : Host.Outcome State Fault Refusal := lift t offtestStart s

/-- A check of the off-test fails: EV_GDTEST, FCODE 7, and the channel opens. Log entry 99 (DEDUCED). -/
def offtestFail (d : Dev) : Dev := gdFault 7 (raiseI 111 (b01 d.gd.nextSide) d)

/-- `GD_OFFTEST_READBACK`: the tested readback reads off, so the drive turns on again. Log entry 99 (DEDUCED). -/
def offtestReadback (mv : Nat) (d : Dev) : Dev :=
  if d.gd.testing = 1 ∧ d.gd.testBack.isNone ∧ d.t ≤ d.gd.seqT + 120000 then
    let d1 := modGd (fun g => { g with mv := mv }) d
    if mv ≤ gdPrm d 0xE106 then offtestFail d1
    else modGd (fun g => { setSide g.nextSide true false g with testBack := some d.t }) d1
  else d

def execGdOfftestReadback (t mv : Nat) (s : State) : Host.Outcome State Fault Refusal := lift t (offtestReadback mv) s

/-- `GD_OFFTEST_TIMEOUT`: 300 µs into the test the drive turns on; a readback that still reads on fails the test. -/
def offtestTimeout (rb : Bool) (mv : Nat) (d : Dev) : Dev :=
  if d.gd.testing = 1 ∧ d.gd.testBack.isNone ∧ d.gd.seqT + 120000 ≤ d.t then
    let d1 := modGd (fun g => { g with mv := mv }) d
    if rb ∨ mv ≤ gdPrm d 0xE106 then offtestFail d1
    else modGd (fun g => { setSide g.nextSide true false g with testBack := some d.t }) d1
  else d

def execGdOfftestTimeout (t : Nat) (rb : Bool) (mv : Nat) (s : State) : Host.Outcome State Fault Refusal :=
  lift t (offtestTimeout rb mv) s

/-- `GD_OFFTEST_END`: gd.rb.t after the drive returned, the readback must read on; the test counts. -/
def offtestEnd (rb : Bool) (mv : Nat) (d : Dev) : Dev :=
  match d.gd.testBack with
  | none => d
  | some a =>
    if d.gd.testing = 1 ∧ a + usTicks (gdPrm d 0xE105) ≤ d.t then
      let d1 := modGd (fun g => { g with mv := mv }) d
      if ¬ rb ∨ mv ≤ gdPrm d 0xE106 then offtestFail d1
      else modGd (fun g => { setSide g.nextSide true true g with
        testing := 0, testBack := none, tests := incSat 255 g.tests, nextSide := !g.nextSide, lastTest := d.gd.seqT,
        old := [] }) d1
    else d

def execGdOfftestEnd (t : Nat) (rb : Bool) (mv : Nat) (s : State) : Host.Outcome State Fault Refusal :=
  lift t (offtestEnd rb mv) s

/-! ### Diagnostics (R495, R496, R499) -/

/-- `GD_READBACK_MISMATCH`: a readback that has differed from its drive since tick `since`, for longer than gd.rb.t, outside
the windows of R489 and R493: FCODE 1 or 2. Log entry 99 (DEDUCED). -/
def readbackMismatch (low : Bool) (since : Nat) (d : Dev) : Dev :=
  if chanRuns d ∧ since + usTicks (gdPrm d 0xE105) < d.t ∧ d.gd.testing = 0 ∧ (d.gd.closing → d.gd.seqT + 2 * usTicks (gdPrm d 0xE105) ≤ d.t) then
    gdFault (if low then 2 else 1)
      (modGd (fun g => if low then { g with gdlRb := !g.gdl } else { g with gdhRb := !g.gdh }) d)
  else d

def execGdReadbackMismatch (t : Nat) (low : Bool) (since : Nat) (s : State) : Host.Outcome State Fault Refusal :=
  lift t (readbackMismatch low since) s

/-- `GD_COIL_CURRENT_FAULT`: FCODE 3 or 4, not checked while the peer's channel is closed (R499).
Log entry 99 (DEDUCED). -/
def coilFault (mv : Nat) (d : Dev) : Dev :=
  let d1 := modGd (fun g => { g with mv := mv }) d
  if ¬ chanRuns d ∨ peerHolds d then d1
  else if d.gd.closed ∧ ¬ d.gd.opening ∧ mv < gdPrm d 0xE107 then gdFault 3 d1
  else if ¬ d.gd.gdh ∧ ¬ d.gd.gdl ∧ gdPrm d 0xE107 < mv ∧ d.gd.offT + ticksPerMs * gdPrm d 0xE104 ≤ d.t then gdFault 4 d1
  else d1

def execGdCoilCurrentFault (t mv : Nat) (s : State) : Host.Outcome State Fault Refusal := lift t (coilFault mv) s

/-- `GD_OSC_FAULT`: FCODE 8, or 9 for the safety oscillator. Log entry 99 (DEDUCED). -/
def oscFault (osc : Bool) (d : Dev) : Dev := if chanRuns d then gdFault (if osc then 9 else 8) d else d

def execGdOscFault (t : Nat) (osc : Bool) (s : State) : Host.Outcome State Fault Refusal := lift t (oscFault osc) s

/-- `GD_REFRESH_MISS`: two consecutive epoch refreshes are missing while the watch is armed (R491): FCODE 10. The watch is
disarmed in DOZE, in a firmware pause and while the PWM PLL is unlocked. Log entry 99 (DEDUCED). -/
def refreshMiss (d : Dev) : Dev :=
  if chanRuns d ∧ d.sys.st ≠ .doze ∧ ¬ d.mbx.paused ∧ locked d 2 ∧ d.gd.watch ∧ d.gd.refreshT + 2 * ticksPerMs ≤ d.t then
    gdFault 10 (modGd (fun g => { g with watch := false }) d)
  else d

def execGdRefreshMiss (t : Nat) (s : State) : Host.Outcome State Fault Refusal := lift t refreshMiss s

/-- `GD_FAULT_WRITE`: writing 1 to FAULT in READY starts the clearing test (R496). Log entry 100 (DEDUCED). -/
def faultWrite (d : Dev) : Dev :=
  if d.sys.st = .ready ∧ d.gd.fault ∧ d.gd.testing = 0 then modGd (fun g => { g with testing := 2, seqT := d.t }) d else d

def execGdFaultWrite (t : Nat) (s : State) : Host.Outcome State Fault Refusal := lift t faultWrite s

/-- The clearing test passes (R496): each readback followed its drive within gd.rb.t µs, and the coil current, which a paired
device whose peer holds the coil does not judge (R499), stayed below gd.i.zero mV. Log entry 100 (DEDUCED). -/
def clearPass (ghUs glUs mv : Nat) (d : Dev) : Bool :=
  decide (ghUs ≤ gdPrm d 0xE105) && decide (glUs ≤ gdPrm d 0xE105) && (decide (mv < gdPrm d 0xE107) || peerHolds d)

/-- `GD_CLEAR_TEST_END`: FAULT clears, and GDALM with it, or FCODE becomes 11 (R495, R496); `ghUs` and `glUs` are the times
that the readbacks took. Log entry 100 (DEDUCED). -/
def clearTestEnd (ghUs glUs mv : Nat) (d : Dev) : Dev :=
  if d.gd.testing = 2 then
    let pass := clearPass ghUs glUs mv d
    let d1 := modGd (fun g => { g with testing := 0, gdh := false, gdl := false }) d
    if pass then modGd (fun g => { g with fault := false, alm := false, gdhRb := false, gdlRb := false }) d1
    else gdFault 11 d1
  else d

def execGdClearTestEnd (t ghUs glUs mv : Nat) (s : State) : Host.Outcome State Fault Refusal :=
  lift t (clearTestEnd ghUs glUs mv) s

/-! ### ESTOP (R492) -/

/-- The ESTOP ball has held its level since tick `since` for gd.estop.filt (R492). -/
def estopHeld (since : Nat) (d : Dev) : Bool := decide (since + usTicks (gdPrm d 0xE108) ≤ d.t)

/-- `ESTOP_ASSERT`: ESTOP has been low since `since`: once that is gd.estop.filt, the filtered ESTOP holds every leg off,
demands, and trips the device with cause 0x24. Log entry 52 (DEDUCED). -/
def estopAssert (since : Nat) (d : Dev) : Dev :=
  let d1 := modGd (fun g => { g with estop := true }) d
  if ¬ estopHeld since d then d
  else if chanRuns d ∧ ¬ d.gd.estop then
    let d2 := if d1.sys.st = .doze then wakeAll d1 else d1
    enterTrip 0x24 (raiseI 113 0 (gdDemand true (regate { d2 with pwm := { d2.pwm with devHold := true } })))
  else d1

def execEstopAssert (t since : Nat) (s : State) : Host.Outcome State Fault Refusal := lift t (estopAssert since) s

/-- `ESTOP_RELEASE`: ESTOP has been high since `since`. -/
def estopRelease (since : Nat) (d : Dev) : Dev := if estopHeld since d then modGd (fun g => { g with estop := false }) d else d

def execEstopRelease (t since : Nat) (s : State) : Host.Outcome State Fault Refusal := lift t (estopRelease since) s

end Sys2Proof.Machine
end

