-- ==== Sys2Proof/Machine/Crypto.lean ====
section
/-!
DEFINITION. SHA-256 of FIPS 180-4 and the verification of RSASSA-PKCS1-v1_5 signatures with SHA-256 of PKCS #1 v2.2, as
R474, R477 and R484 name them.
-/
namespace Sys2Proof.Machine

/-- A word of SHA-256. -/
abbrev ShaWord := BitVec 32

/-- The first 32 round constants. -/
def shaK0 : List ShaWord := [
  0x428A2F98, 0x71374491, 0xB5C0FBCF, 0xE9B5DBA5, 0x3956C25B, 0x59F111F1, 0x923F82A4, 0xAB1C5ED5,
  0xD807AA98, 0x12835B01, 0x243185BE, 0x550C7DC3, 0x72BE5D74, 0x80DEB1FE, 0x9BDC06A7, 0xC19BF174,
  0xE49B69C1, 0xEFBE4786, 0x0FC19DC6, 0x240CA1CC, 0x2DE92C6F, 0x4A7484AA, 0x5CB0A9DC, 0x76F988DA,
  0x983E5152, 0xA831C66D, 0xB00327C8, 0xBF597FC7, 0xC6E00BF3, 0xD5A79147, 0x06CA6351, 0x14292967]

/-- The other 32 round constants. -/
def shaK1 : List ShaWord := [
  0x27B70A85, 0x2E1B2138, 0x4D2C6DFC, 0x53380D13, 0x650A7354, 0x766A0ABB, 0x81C2C92E, 0x92722C85,
  0xA2BFE8A1, 0xA81A664B, 0xC24B8B70, 0xC76C51A3, 0xD192E819, 0xD6990624, 0xF40E3585, 0x106AA070,
  0x19A4C116, 0x1E376C08, 0x2748774C, 0x34B0BCB5, 0x391C0CB3, 0x4ED8AA4A, 0x5B9CCA4F, 0x682E6FF3,
  0x748F82EE, 0x78A5636F, 0x84C87814, 0x8CC70208, 0x90BEFFFA, 0xA4506CEB, 0xBEF9A3F7, 0xC67178F2]

/-- The initial hash value. -/
def shaInit : List ShaWord := [
  0x6A09E667, 0xBB67AE85, 0x3C6EF372, 0xA54FF53A, 0x510E527F, 0x9B05688C, 0x1F83D9AB, 0x5BE0CD19]

/-- The message schedule, newest word first: `n` more words after those of `w`. -/
def shaSchedule (n : Nat) (w : List ShaWord) : List ShaWord :=
  match n with
  | 0 => w
  | n + 1 =>
    let x := w.getD 1 0
    let y := w.getD 14 0
    let s1 := x.rotateRight 17 ^^^ x.rotateRight 19 ^^^ (x >>> 10)
    let s0 := y.rotateRight 7 ^^^ y.rotateRight 18 ^^^ (y >>> 3)
    shaSchedule n ((s1 + w.getD 6 0 + s0 + w.getD 15 0) :: w)

/-- One round on the eight working variables. -/
def shaRound (v : List ShaWord) (kw : ShaWord × ShaWord) : List ShaWord :=
  match v with
  | [a, b, c, d, e, f, g, h] =>
    let t1 := h + (e.rotateRight 6 ^^^ e.rotateRight 11 ^^^ e.rotateRight 25) + ((e &&& f) ^^^ (~~~e &&& g)) + kw.1 + kw.2
    let t2 := (a.rotateRight 2 ^^^ a.rotateRight 13 ^^^ a.rotateRight 22) + ((a &&& b) ^^^ (a &&& c) ^^^ (b &&& c))
    [t1 + t2, a, b, c, d + t1, e, f, g]
  | _ => v

/-- The words of a block, most significant byte first, newest first. -/
def shaWords (n : Nat) (bs : List Byte) (acc : List ShaWord) : List ShaWord :=
  match n with
  | 0 => acc
  | n + 1 => shaWords n (bs.drop 4) (BitVec.ofNat 32 (ofBe (bs.take 4)) :: acc)

/-- The hash value after one more block of 64 bytes. -/
def shaBlock (h : List ShaWord) (bs : List Byte) : List ShaWord :=
  let w := (shaSchedule 48 (shaWords 16 bs [])).reverse
  let v := ((shaK0 ++ shaK1).zip w).foldl shaRound h
  (h.zip v).map (fun p => p.1 + p.2)

/-- The hash value after `n` blocks. -/
def shaBlocks (n : Nat) (bs : List Byte) (h : List ShaWord) : List ShaWord :=
  match n with
  | 0 => h
  | n + 1 => shaBlocks n (bs.drop 64) (shaBlock h (bs.take 64))

/-- A message with its padding. -/
def shaPad (bs : List Byte) : List Byte :=
  bs ++ [0x80] ++ List.replicate ((119 - bs.length % 64) % 64) 0 ++ be 8 (8 * bs.length)

/-- The 32 bytes of the SHA-256 digest. -/
def sha256 (bs : List Byte) : List Byte :=
  let p := shaPad bs
  (shaBlocks (p.length / 64) p shaInit).flatMap (fun w => be 4 w.toNat)

/-- `b ^ (2 ^ k) mod m` by `k` squarings. -/
def sqMod (k b m : Nat) : Nat :=
  match k with
  | 0 => b % m
  | k + 1 => sqMod k (b * b % m) m

/-- `b ^ 65537 mod m`. -/
def pow65537 (b m : Nat) : Nat := sqMod 16 b m * b % m

/-- The DER prefix of a SHA-256 digest in PKCS #1. -/
def derSha256 : List Byte :=
  [0x30, 0x31, 0x30, 0x0D, 0x06, 0x09, 0x60, 0x86, 0x48, 0x01, 0x65, 0x03, 0x04, 0x02, 0x01, 0x05, 0x00, 0x04, 0x20]

/-- The encoded message of 384 bytes that a signature over `msg` opens to. -/
def pkcs1Em (msg : List Byte) : List Byte :=
  [0x00, 0x01] ++ List.replicate 330 0xFF ++ [0x00] ++ derSha256 ++ sha256 msg

/-- A signature of 384 bytes, most significant first, verifies over `msg` under the modulus `n` with exponent 65,537. -/
def rsaVerify (n : Nat) (msg sig : List Byte) : Bool :=
  sig.length = 384 && decide (ofBe sig < n) && pow65537 (ofBe sig) n = ofBe (pkcs1Em msg)

end Sys2Proof.Machine
end

