-- ==== Sys2Proof/Machine/Regs.lean ====
section
/-!
DEFINITION. What registers and parameters read as, and what reading them clears (R8, R9, R351 to R353, R378 and the
register layouts of the chapters).
-/
namespace Sys2Proof.Machine

/-- Place fields: each flag or number at its lowest bit. -/
def fields (xs : List (Nat × Nat)) : Nat := xs.foldl (fun a x => a + x.2 * 2 ^ x.1) 0

/-! ### Status words -/

/-- SYS_STATE (R18): before READY it reads CLASP with no history. -/
def sysStateReg (d : Dev) : Nat :=
  let s := d.sys
  if ¬ s.up then 1
  else fields [(0, stCode s.st), (4, stCode s.prev), (8, s.cause), (16, b01 s.formAuto), (17, b01 s.factory),
    (18, b01 s.standby), (20, if s.st = .service then stCode s.svcRet else 0), (24, s.seq)]

/-- ACQ_STAT (R65). -/
def acqStat (d : Dev) : Nat :=
  fields [(0, d.acq.spareFor), (4, d.acq.rotNext), (8, d.acq.rotPhase), (12, d.acq.facetFlt), (24, b01 d.acq.spareFlt),
    (25, b01 (locked d 3))]

/-- leg[n].gate.stat (R146). -/
def legStat (d : Dev) (n : Nat) : Nat :=
  let x := leg d n
  fields [(0, b01 x.insvc), (1, b01 (switching d n)), (2, b01 x.dfltIn), (3, b01 x.duvIn), (4, b01 x.dfltLat),
    (5, b01 x.duvLat), (6, b01 x.shootTrip), (7, b01 x.bootEnf), (8, b01 x.eatenGh), (9, b01 x.eatenGl), (10, b01 x.skew),
    (11, b01 (hiZ d)), (16, x.shootCnt)]

/-- win[w].stat (R171). -/
def winStat (d : Dev) (w : Nat) : Nat :=
  let x := win d w
  fields [(0, b01 x.hiAct), (1, b01 x.loAct), (2, b01 x.lat), (3, b01 x.latHi), (4, b01 x.latLo), (5, b01 x.cutHold),
    (6, b01 x.cutTrip), (7, b01 x.armhold), (8, b01 x.pllHold), (9, b01 x.testing.isSome), (10, b01 (x.failHi || x.failLo)),
    (11, b01 x.clrRef)]

/-- cas[c].stat (R112). -/
def casStat (d : Dev) (c : Nat) : Nat :=
  let x := cas d c
  fields [(0, b01 (casOn d c && !x.halt && !d.fil.haltAll)), (1, b01 x.halt), (2, b01 x.mirror), (3, b01 x.stageBad),
    (4, b01 x.sat), (5, b01 x.ovf), (6, b01 x.lateF), (7, b01 x.rplF)]

/-- FIL_STAT (R113). -/
def filStat (d : Dev) : Nat :=
  fields [(0, b01 d.fil.bank), (1, b01 d.fil.swapPend), (2, b01 d.fil.copying), (3, b01 d.fil.replay.isSome),
    (4, b01 d.fil.haltAll), (8, min 255 (d.fil.cyclesLast * 100 / 2400000)), (16, d.fil.rplCnt), (24, b01 d.fil.unc),
    (25, b01 ((List.range 128).any (fun c => (cas d c).stageBad)))]

/-- PWM_STAT and PWM_UGPEND (R147). -/
def pwmStat (d : Dev) : Nat :=
  fields [(0, maskOf 6 (fun g => drven d g = some true)), (6, d.pwm.clrBusy), (16, b01 (locked d 2)),
    (17, b01 (!locked d 2 || !gatesState d)), (18, b01 d.pwm.skewAny), (19, b01 d.pwm.shootAny)]
def ugPend (d : Dev) : Nat :=
  maskOf 16 (fun g => (List.range 48).any (fun n => prm d 0x3101 n = g && (leg d n).pend))

/-- BZ_HOLD and BZ_ACT over all 56 windows (R172). -/
def bzHold (d : Dev) : Nat := maskOf 56 (winHold d)
def bzAct (d : Dev) : Nat := maskOf 56 (fun w => (win d w).hiAct || (win d w).loAct)

/-- GS_STAT (R201). -/
def gsStat (d : Dev) : Nat :=
  let g := d.gs
  fields [(0, b01 g.lock), (1, b01 g.forming), (2, b01 g.ramping), (3, b01 g.slim),
    (4, b01 g.refage), (5, b01 g.retune), (6, b01 g.deferF), (8, mOn d),
    (16, if g.everLock then min 65535 (roundAway (g.fEst * 1000)).toNat else 0)]

/-- RT_STAT. -/
def rtStat (d : Dev) : Nat :=
  let r := d.rt
  fields [(0, r.regU), (2, r.regF), (4, b01 r.fast), (5, b01 r.jumpF), (6, b01 r.pramp), (7, b01 r.injLim), (8, b01 r.maskv),
    (9, b01 (r.heldU || r.heldF)), (12, r.reentry), (16, min 65535 r.tauU)]

/-- CHARM_STAT (R251). -/
def charmStat (d : Dev) : Nat :=
  let c := d.charm
  fields [(0, b01 c.active), (1, b01 c.valid), (2, b01 c.susp), (3, b01 c.noisy), (4, b01 c.timeOk), (5, b01 c.island),
    (6, b01 c.gross), (7, b01 c.formt), (8, b01 c.clip), (9, b01 c.restart), (10, c.suspSrc % 16), (16, min 255 c.zrun)]

/-- PV_STAT (R272). -/
def pvStatReg (d : Dev) : Nat :=
  fields [(0, if d.pv.sweepPh = 0 then 0 else d.pv.sweepQ), (4, d.pv.sweepPh), (8, d.pv.skips),
    (16, maskOf 16 (fun q => (pvIn d q).mode = 2 || (pvIn d q).mode = 3))]

/-- SET_STAT (R299). -/
def setStat (d : Dev) : Nat :=
  fields [(0, b01 d.setr.intent.isSome), (1, b01 d.setr.nobat), (2, b01 d.setr.frozen), (3, b01 d.setr.tierOvf),
    (4, b01 d.setr.retract),
    (8, ((List.range 16).filter (fun k => brEnabled d k && (brLegs d k).all (inSvc d))).length), (16, d.setr.seq % 65536)]

/-- CARAT_SEL, CARAT_STAT and CARAT_QUAL (R307, R321). -/
def caratSel (d : Dev) : Nat :=
  fields [(0, d.carat.selM), (8, d.carat.selR), (12, b01 d.carat.selForm), (16, b01 d.carat.lval)]
def caratStat (d : Dev) : Nat :=
  let c := d.carat
  fields [(0, b01 (caratRuns d)), (1, b01 (bit c.qual 0)), (2, b01 c.gapF), (3, b01 c.saving), (4, b01 c.saveFail),
    (5, b01 c.loss), (6, b01 c.unbounded), (7, b01 c.selErr)]
def caratQual (d : Dev) : Nat := d.carat.qual / 2

/-- LOUPE_STAT and CASKET_STAT (R349). -/
def loupeStat (d : Dev) : Nat :=
  fields [(0, (unit d 0).st), (4, (unit d 1).st), (8, (unit d 2).st), (12, (unit d 3).st), (16, d.loupe.rec_),
    (20, d.loupe.mstop)]
def casketStat (d : Dev) : Nat :=
  let c := d.cask
  fields [(0, b01 c.up), (1, b01 c.selfref), (2, c.size), (4, b01 c.unc), (5, b01 c.cfg), (8, c.ceCnt), (16, c.arcLost)]

/-- MBX_STAT (R372). -/
def mbxStat (d : Dev) : Nat :=
  let m := d.mbx
  fields [(0, b01 m.hostsel), (1, b01 m.sessOpen), (2, m.sessClass), (4, b01 m.cqFull), (5, b01 m.paused),
    (6, b01 m.accErr), (7, b01 m.wrBusy), (8, m.doorBusy), (16, m.udpDrop)]

/-- can[p].stat, ptn[e].stat and CAN_STAT (R421 to R423). -/
def canPortStat (d : Dev) (p : Nat) : Nat :=
  let x := canPort d p
  fields [(0, min 255 x.tec), (8, min 255 x.rec_), (16, x.st), (18, b01 x.recov), (19, x.lec % 8), (22, b01 x.pex)]
def ptnStat (d : Dev) (e : Nat) : Nat :=
  let x := ptnEnt d e
  fields [(0, b01 x.lost), (1, b01 x.seen), (2, b01 x.txFail), (16, x.rxCnt % 65536)]
def canStat (d : Dev) : Nat :=
  fields [(0, maskOf 12 (fun p => (canPort d p).st = 2)), (12, maskOf 12 (fun p => (canPort d p).st = 1)),
    (24, b01 (d.can.ents.any (fun e => e.2.lost))), (25, b01 d.can.ovf)]

/-- TIME_STAT, LANE_STAT and TCAP_SEL (R451). -/
def tsqUsed (d : Dev) : Nat := ((List.range 16).filter (fun j => (tget none d.time.tsq j).isSome)).length
def timeStat (d : Dev) : Nat :=
  let x := d.time
  fields [(0, b01 x.valid), (1, b01 x.lock), (2, b01 x.holdover), (3, b01 x.align), (4, (ptpPort d 0).st),
    (8, (ptpPort d 1).st), (12, b01 x.stepped), (13, b01 x.epochMis), (14, b01 x.missed), (15, tsqUsed d), (20, x.tsqOvf)]
def laneStat (d : Dev) : Nat :=
  fields [(0, maskOf 8 (fun k => (lane d k).aligned)), (8, maskOf 8 (fun k => (lane d k).link || (lane d k).prbsLock)),
    (16, b01 (locked d 4)), (17, b01 (locked d 5))]
def tcapSel (d : Dev) : Nat := fields [(0, d.time.capSel), (8, maskOf 8 (fun k => (capt d k).ovr))]

/-- PND_STAT (R472). -/
def pndStat (d : Dev) : Nat :=
  let p := d.pnd
  fields [(0, p.role), (2, b01 (pndLink d)), (3, b01 (hbOk d)), (4, b01 (d.sys.standby && p.synced)), (5, b01 p.peerSynced),
    (6, b01 p.took), (7, b01 p.ousted), (8, b01 p.xfer), (16, pndLoad d)]

/-- Firmware slot `i`. Log entry 4 (DEDUCED). -/
def fwSlot (d : Dev) (i : Nat) : FwSlot := if i = 0 then d.sec.fw0 else d.sec.fw1

/-- The slot that is not active (R477). -/
def otherSlot (d : Dev) : Nat := 1 - d.sec.fwAct

/-- OTHER of R480: 0 empty, 1 incomplete, 2 verified, 3 activation marked. -/
def fwOther (d : Dev) : Nat := let x := fwSlot d (otherSlot d); if x.mark then 3 else x.st

/-- The release of the running firmware (R477). -/
def fwRelease (d : Dev) : Nat :=
  let x := fwSlot d d.sec.running
  if x.image = [] then Config.fwRelease else field x.image 11 8

/-- The SHA-256 digest of the image in slot `i`, header included; 0 for an empty slot (R480, R500). -/
def fwDigest (d : Dev) (i : Nat) : List Byte :=
  let x := fwSlot d i
  if x.image ≠ [] then sha256 x.image else if x.st = 2 then le 32 (Config.fwDigest i) else le 32 0

/-- SEC_STAT and GD_STAT (R501). -/
def secStat (d : Dev) : Nat :=
  let s := d.sec
  fields [(0, b01 (!s.warden)), (1, b01 s.lockout), (2, if d.mbx.sessOpen then s.slot else 0),
    (5, b01 (d.mbx.sessOpen && s.keyed)), (6, fwOther d), (8, s.authFail), (16, s.fwAct)]
def gdStat (d : Dev) : Nat :=
  let g := d.gd
  fields [(0, b01 g.closed), (1, b01 g.closing), (2, b01 g.dem), (3, b01 g.fault), (4, b01 (g.testing ≠ 0)), (5, b01 g.gdh),
    (6, b01 g.gdl), (7, b01 g.gdhRb), (8, b01 g.gdlRb), (9, b01 (decide (gdPrm d 0xE106 < g.mv))), (10, b01 g.estop),
    (11, b01 g.alm), (12, b01 g.nextSide), (16, g.fcode), (24, g.tests)]

/-- CLASP_STAT and CLK_STAT (R520). -/
def claspStat (d : Dev) : Nat :=
  let c := d.clasp
  fields [(0, b01 c.vbatOk), (1, b01 c.vholdOk), (2, b01 c.src), (3, b01 c.osc32Ok), (4, c.lastState), (8, c.lastCause),
    (16, b01 c.lastTrip), (17, b01 c.cold), (18, c.wakeSrc), (20, b01 c.pwrFail), (21, b01 c.rtcSet)]
def clkStat (d : Dev) : Nat :=
  let c := d.clk
  fields [(0, b01 c.refOk), (1, c.lock % 64), (7, b01 c.onRef), (8, b01 c.onFb),
    (9, b01 (prm d 0xF200 0 = 1 && locked d 2)), (10, b01 c.search), (11, b01 c.resync), (12, c.loss % 64)]

/-- HOLD_STAT and BOOT_STAT (R534, R553); BOOT_STAT reads 0 until t = 2.4 ms of a start. -/
def holdStat (d : Dev) : Nat :=
  let h := d.hold
  fields [(0, b01 h.saveOk), (1, b01 h.gaspOk), (2, b01 h.pfail), (3, b01 h.saveMode), (4, h.lastSave),
    (6, b01 h.gaspSent), (16, min 65535 (h.e / 4))]
def bootStat (d : Dev) : Nat :=
  if d.sys.up then d.boot.stat
  else match d.clasp.start with
    | some (_, _, t0) => if t0 + 960000 ≤ d.t then d.boot.stat else 0
    | none => 0

/-- ETH_STAT (R353). -/
def ethStat (d : Dev) (i : Nat) : Nat :=
  let e := ethPort d i
  fields [(0, b01 e.link), (1, b01 e.anDone), (2, e.speed), (8, e.fcsErr), (16, e.discard)]

/-! ### The direct registers (R351, R353) -/

/-- The host window serves a direct register: after READY every one, before only those of R541.
Log entry 12 (DEDUCED). -/
def regServed (d : Dev) (off : Nat) : Bool :=
  d.sys.up || off = 0 || off = 4 || off = 0x44 || off = 0x130 || off = 0x13C

/-- The word at offset `off` of the direct registers, side effects apart. Log entry 12 (DEDUCED). -/
def regVal (d : Dev) (off : Nat) : Nat :=
  if ¬ regServed d off then 0
  else match off with
  | 0x000 => 0x4896A210
  | 0x004 => sysStateReg d
  | 0x044 => if d.sys.up then d.mbx.busy else 0xFFFF
  | 0x048 => d.mbx.tail + 64 * b01 d.mbx.phase
  | 0x04C => d.mbx.head
  | 0x050 => mbxStat d
  | 0x060 => d.ev.pend.toNat % 2 ^ 32
  | 0x064 => d.ev.pend.toNat / 2 ^ 32 % 2 ^ 32
  | 0x068 => d.ev.pend.toNat / 2 ^ 64 % 2 ^ 32
  | 0x06C => d.ev.pend.toNat / 2 ^ 96
  | 0x070 => d.ev.seq
  | 0x074 => hirq d
  | 0x080 => acqStat d
  | 0x090 => filStat d
  | 0x0A0 => pwmStat d
  | 0x0A4 => ugPend d
  | 0x0B0 => bzHold d % 2 ^ 32
  | 0x0B4 => bzHold d / 2 ^ 32
  | 0x0B8 => bzAct d % 2 ^ 32
  | 0x0BC => bzAct d / 2 ^ 32
  | 0x0C0 => gsStat d
  | 0x0C4 => rtStat d
  | 0x0C8 => charmStat d
  | 0x0CC => pvStatReg d
  | 0x0D0 => setStat d
  | 0x0D4 => caratSel d
  | 0x0D8 => caratForm d % 2 ^ 32
  | 0x0DC => if d.carat.lval then d.carat.hi else 0
  | 0x0E0 => caratStat d
  | 0x0E4 => caratQual d
  | 0x0E8 => loupeStat d
  | 0x0EC => casketStat d
  | 0x0F0 => canStat d
  | 0x100 => tNs d % 1000000000
  | 0x104 => d.time.secLatch % 2 ^ 32
  | 0x108 => d.time.secLatch / 2 ^ 32 % 2 ^ 32
  | 0x10C => timeStat d
  | 0x110 => laneStat d
  | 0x114 => tcapSel d
  | 0x118 => tcapWord d
  | 0x11C => d.time.capLatch % 2 ^ 32
  | 0x120 => d.time.capLatch / 2 ^ 32 % 2 ^ 32
  | 0x124 => pndStat d
  | 0x128 => secStat d
  | 0x12C => gdStat d
  | 0x130 => claspStat d
  | 0x134 => clkStat d
  | 0x138 => holdStat d
  | 0x13C => bootStat d
  | _ =>
    if off % 4 ≠ 0 then 0
    else if 0x200 ≤ off ∧ off < 0x2C0 then legStat d ((off - 0x200) / 4)
    else if 0x300 ≤ off ∧ off < 0x3E0 then winStat d ((off - 0x300) / 4)
    else if 0x400 ≤ off ∧ off < 0x480 then
      let j := off - 0x400
      fields [(0, casStat d j), (8, casStat d (j + 1)), (16, casStat d (j + 2)), (24, casStat d (j + 3))]
    else if 0x480 ≤ off ∧ off < 0x4C0 then pvStat d ((off - 0x480) / 4)
    else if 0x4C0 ≤ off ∧ off < 0x4E0 then (lane d ((off - 0x4C0) / 4)).codeErr
    else if 0x4E0 ≤ off ∧ off < 0x4E8 then ethStat d ((off - 0x4E0) / 4)
    else 0

/-- Reading leg[n].gate.stat clears bits 7 to 10 and SHOOT_CNT (R146). -/
def legClear (n : Nat) (d : Dev) : Dev :=
  modLeg n (fun x => { x with bootEnf := false, eatenGh := false, eatenGl := false, skew := false, shootCnt := 0 }) d

/-- Reading win[w].stat clears CLR_REF (R171). -/
def winStatClear (w : Nat) (d : Dev) : Dev := modWin w (fun x => { x with clrRef := false }) d

/-- Reading cas[c].stat clears bits 5 to 7 (R112). -/
def casClear (c : Nat) (d : Dev) : Dev := modCas c (fun x => { x with ovf := false, lateF := false, rplF := false }) d

/-- Reading pv[q].stat clears SHADE, SWP_DONE and SWP_BAD (R271). -/
def pvClear (q : Nat) (d : Dev) : Dev := modPv q (fun x => { x with shade := false, swpDone := false, swpBad := false }) d

/-- What a read that covers byte 0 of the register at `off` does: RC fields clear, the RS register resets, and the high
half is latched (R8, R9, R352, R353). Log entry 31 (DEDUCED). -/
def regTouch (off : Nat) (d : Dev) : Dev :=
  if ¬ regServed d off then d
  else match off with
  | 0x050 => { d with mbx := { d.mbx with accErr := false, wrBusy := false, doorBusy := 0, udpDrop := 0 } }
  | 0x090 => { d with fil := { d.fil with rplCnt := 0 } }
  | 0x0C0 => { d with gs := { d.gs with refage := false, retune := false, deferF := false } }
  | 0x0C4 => { d with rt := { d.rt with fast := false, jumpF := false, maskv := false, reentry := 0 } }
  | 0x0C8 => { d with charm := { d.charm with gross := false, formt := false, clip := false, restart := false } }
  | 0x0CC => { d with pv := { d.pv with skips := 0 } }
  | 0x0D0 => { d with setr := { d.setr with tierOvf := false, retract := false } }
  | 0x0D8 => caratLoRead d
  | 0x0E0 => { d with carat := { d.carat with gapF := false, saveFail := false, loss := false, selErr := false } }
  | 0x0E8 => { d with loupe := { d.loupe with rec_ := 0, mstop := 0 } }
  | 0x0EC => { d with cask := { d.cask with unc := false, cfg := false, ceCnt := 0, arcLost := 0 } }
  | 0x100 => timeNsLatch d
  | 0x10C => { d with time := { d.time with stepped := false, epochMis := false, missed := false, tsqOvf := 0 } }
  | 0x114 => { d with time := { d.time with
      capts := (List.range 8).foldl (fun m k => tmod {} k (fun x => { x with ovr := false }) m) d.time.capts } }
  | 0x118 => tcapLatch d
  | 0x124 => { d with pnd := { d.pnd with took := false, ousted := false } }
  | 0x128 => { d with sec := { d.sec with authFail := 0 } }
  | 0x12C => { d with gd := { d.gd with tests := 0 } }
  | 0x130 => { d with clasp := { d.clasp with pwrFail := false } }
  | 0x134 => { d with clk := { d.clk with resync := false, loss := 0 } }
  | _ =>
    if off % 4 ≠ 0 then d
    else if 0x200 ≤ off ∧ off < 0x2C0 then legClear ((off - 0x200) / 4) d
    else if 0x300 ≤ off ∧ off < 0x3E0 then winStatClear ((off - 0x300) / 4) d
    else if 0x400 ≤ off ∧ off < 0x480 then
      let j := off - 0x400
      casClear (j + 3) (casClear (j + 2) (casClear (j + 1) (casClear j d)))
    else if 0x480 ≤ off ∧ off < 0x4C0 then pvClear ((off - 0x480) / 4) d
    else if 0x4C0 ≤ off ∧ off < 0x4E0 then modLane ((off - 0x4C0) / 4) (fun x => { x with codeErr := 0 }) d
    else if 0x4E0 ≤ off ∧ off < 0x4E8 then
      modEth ((off - 0x4E0) / 4) (fun x => { x with fcsErr := 0, discard := 0 }) d
    else d

/-! ### Parameters as PGET returns them -/

/-- The descriptor of parameter `pid` as a number of 8 bytes (R378); a read-only parameter has the staging class of its
area (R374). Log entry 35 (DEDUCED). -/
def pdesc (pid : Nat) : Nat :=
  match descOf pid with
  | none => 0
  | some x => fields [(0, x.vsize), (16, x.n - 1), (32, x.kind), (40, (if x.kind = 0 then x.ccls else x.cls) + 4 * x.ccls + 16 * b01 x.kept), (48, x.group),
      (56, x.typ)]

/-- The running phase of the ramp after each of its points, in 0.1 ppm ticks (R513). -/
def rampPhases (d : Dev) : List Int :=
  ((List.range 64).foldl (fun (a : Int × List Int) i =>
    let v := a.1 + prmI d 0xF202 i * (prm d 0xF201 0 : Int)
    (v, v :: a.2)) (0, [0])).2

/-- The excursion of the running phase in 0.1 ppm ticks, and 0xF203 clk.ramp.exc in 1/64 tick (R513). -/
def rampExc (d : Dev) : Int :=
  (rampPhases d).foldl max 0 - (rampPhases d).foldl min 0
def rampExcReg (d : Dev) : Nat := (rampExc d * 64 / 10000000).toNat

/-- Numbers of 4 bytes as one value. -/
def words (xs : List Nat) : Nat := xs.foldr (fun x a => x % 2 ^ 32 + 2 ^ 32 * a) 0

/-- clasp.last (R376, R506). Log entry 103 (DEDUCED). -/
def claspLast (d : Dev) : Nat :=
  let c := d.clasp
  fields [(0, c.lastState), (8, c.lastCause), (16, b01 c.lastTrip), (17, b01 c.cold), (18, b01 c.snapLost),
    (19, b01 (c.jlost ≠ 0)), (20, d.hold.lastSave), (22, b01 d.hold.gaspSent), (32, c.jlost % 65536),
    (64, c.lossSec % 2 ^ 48), (112, c.lossFrac % 65536)]

/-- clk.band[i] (R376, R510). -/
def bandReg (d : Dev) (i : Nat) : Nat :=
  let b := tget {} d.clasp.bands i
  if b.used = 0 then 0
  else fields [(0, i / 8), (7, 1), (8, b.band % 256), (16, b.cfg % 65536), (32, ofInt 16 b.temp), (48, min 65535 b.uses)]

/-- time.tsq[j] (R448). -/
def tsqReg (d : Dev) (j : Nat) : Nat :=
  match tget none d.time.tsq j with
  | none => 0
  | some e =>
    let (w, sec, ns) := match e.stamp with
      | some (s, n, _) => (1, s, n)
      | none => (0, 0, 0)
    fields [(0, j), (4, e.port), (7, w), (8, e.msgType), (16, e.domain), (32, e.seqId), (64, sec % 2 ^ 64), (128, ns)]

/-- 0x2003 fil.load: the committed lane demand as a share of 2.4 G, in 0.01 % (R83). -/
def laneDemand (d : Dev) : Nat :=
  (List.range 128).foldl (fun a c => if casOn d c then a + prm d 0x2015 c * laneCycles d c else a) 0

/-- The hallmark digest (R474). Log entry 106 (DEDUCED). -/
def hallmark : List Byte := (List.range 32).map (fun k => BitVec.ofNat 8 (Config.identity k))

/-! ### Staged values (R379, R395) -/

/-- The commit group bit of an instance (R374, R378): the update group of its leg, or none. -/
def groupOf (d : Dev) (pid i : Nat) : Option Nat :=
  match descOf pid with
  | none => none
  | some x => if x.group = 0xFF then none else if x.group = 0xFE then some (16 + prm d 0x3101 i) else some x.group

/-- The declared TYPE of point `p`, 0 where it is no declared host point (R395). -/
def declOf (d : Dev) (p : Nat) : Nat := let x := point d p; if x.hostPt then x.typ else 0

/-- The values that have landed and wait: for a period start, a scan start, or a recorder unit to be IDLE or FILLING (R46,
R128, R348). -/
def landedVals (d : Dev) : List (Nat × Nat) :=
  let legVals := d.legs.flatMap (fun kv => kv.2.load.filterMap (fun e => e.2.map (fun v => (pkey e.1 kv.1, v))))
  let acqVals := d.acq.facets.flatMap (fun kv =>
    (kv.2.due.flatMap (fun it => it.change) ++ kv.2.change).filterMap (fun e => e.2.map (fun v => (e.1, v))))
  let unitVals := d.loupe.units.flatMap (fun kv => kv.2.cfgWait.filterMap (fun e => e.2.map (fun v => (e.1, v))))
  legVals ++ acqVals ++ unitVals

/-- The value of an instance that has landed last, in force or not yet. Log entry 32 (DEDUCED). -/
def landedPrm (d : Dev) (pid i : Nat) : Nat :=
  match (landedVals d).reverse.find? (fun e => e.1 = pkey pid i) with
  | some e => e.2
  | none => prm d pid i

/-- The staged value of an instance (R379): its active value where nothing else is staged. Log entry 32 (DEDUCED). -/
def stagedVal (d : Dev) (pid i : Nat) : Nat :=
  if pid = 0x0052 then (tget none d.prm.declStaged (d.prm.ptSel + i)).getD (declOf d (d.prm.ptSel + i))
  else tget (prm d pid i) d.prm.staged (pkey pid i)

/-- Stage value `v` (R379): a value equal to the active one is no change, unless a landed one waits to replace that (R129).
Log entry 32 (DEDUCED). -/
def stage (pid i v : Nat) (d : Dev) : Dev :=
  if pid = 0x0052 then
    let p := d.prm.ptSel + i
    { d with prm := { d.prm with
        declStaged := tput none p (if v = declOf d p then none else some v) d.prm.declStaged } }
  else
    let rest := tdel (pkey pid i) d.prm.staged
    let same := v = prm d pid i ∧ v = landedPrm d pid i
    { d with prm := { d.prm with staged := if same then rest else tins (pkey pid i) v rest } }

/-- sys.stage.pend: the groups that hold staged changes (R379, R396). Log entry 32 (DEDUCED). -/
def pendMask (d : Dev) : Nat :=
  let m0 := if d.prm.declStaged = [] then 0 else 1
  d.prm.staged.foldl (fun m e =>
    match groupOf d (e.1 / 65536) (e.1 % 65536) with
    | some g => m ||| 2 ^ g
    | none => m) m0

/-- What parameter `pid`, instance `i`, reads as (R364, R379): the readings that are not stored values, and the active
value for every other. A write-only parameter reads 0 (R8). Log entry 31 (DEDUCED). -/
def prmRead (d : Dev) (pid i : Nat) : Nat :=
  match pid with
  | 0x0002 => fwRelease d
  | 0x0010 => d.sys.req
  | 0x0011 => d.sys.refusal
  | 0x0032 => pendMask d
  | 0x0033 => d.lkt.snapSeq
  | 0x0034 => d.lkt.snapState
  | 0x0035 => d.prm.absent
  | 0x0036 => d.boot.jlost
  | 0x0037 => d.boot.why
  | 0x0040 => pdesc i
  | 0x0050 => d.prm.ptSel
  | 0x0051 => (point d (d.prm.ptSel + i)).value
  | 0x0052 => declOf d (d.prm.ptSel + i)
  | 0x1007 => (facet d i).missed
  | 0x2000 => b01 d.fil.bank
  | 0x2003 => laneDemand d * 10000 / 2400000000
  | 0x201B => (cas d i).delayMax
  | 0x201C => (cas d i).overrun
  | 0x201D => casStat d i
  | 0x2100 => bankGet (activeBank d) 0x2100 i
  | 0x2101 => bankGet (activeBank d) 0x2101 i
  | 0x2102 => bankGet (activeBank d) 0x2102 i
  | 0x2103 => bankGet (activeBank d) 0x2103 i
  | 0x2104 => bankGet (otherBank d) 0x2100 i
  | 0x2307 => (tap d i).ignored
  | 0x3150 => legStat d i
  | 0x4012 => (win d i).testRes
  | 0x4013 => (win d i).testDelay
  | 0x4014 => (win d i).trips
  | 0x4015 => winStat d i
  | 0x4016 => (win d i).cuts
  | 0x6017 => codePmax (codeOf d)
  | 0x7109 => pvStat d i
  | 0x710A => (roundAway ((pvIn d i).voc * 10)).toNat
  | 0x8120 => min 4294967295 ((leg d i).stress * 1000).floor.toNat
  | 0x8130 => d.setr.seq
  | 0xA00C => (unit d i).preIgn
  | 0xA00D => (unit d i).busyIgn
  | 0xB011 => canPortStat d i
  | 0xB012 => let x := canPort d i; words [x.nRx, x.nTx, x.rxLost, x.txDrop, x.unbound]
  | 0xB140 => ptnStat d i
  | 0xC006 => (lane d i).prbsErr
  | 0xC008 => let x := lane d i; words [x.codeErr, x.good, x.bad, x.dropped]
  | 0xC026 => Config.mac i % 2 ^ 48
  | 0xC080 => ofInt 32 (clampI (-2147483648) 2147483647 d.time.offset)
  | 0xC081 => min 4294967295 d.time.delay
  | 0xC082 => offsetEst d
  | 0xC083 => d.time.inc
  | 0xC090 => tsqReg d i
  | 0xD000 => d.pnd.role
  | 0xD010 => pndLoad d
  | 0xD011 => d.pnd.xferPct
  | 0xD012 => d.pnd.takes
  | 0xD021 => d.pnd.xcalRes
  | 0xE000 => Config.certLen
  | 0xE001 => if Config.certLen ≤ 4 * i then 0
      else Config.certWord i % 2 ^ (8 * min 4 (Config.certLen - 4 * i))
  | 0xE002 => ofLe hallmark
  | 0xE021 => d.sec.fwRes
  | 0xE022 => ofLe (fwDigest d i)
  | 0xE030 => ofLe (d.sec.audit.getD i [])
  | 0xF00A => d.hold.e
  | 0xF101 => ofInt 32 d.clasp.trim
  | 0xF104 => claspLast d
  | 0xF203 => rampExcReg d
  | 0xF210 => bandReg d i
  | _ =>
    match descOf pid with
    | some x => if x.kind = 3 then 0 else prm d pid i
    | none => 0

/-- What a PGET of parameter `pid`, instance `i`, clears (R353 and the tables of the chapters).
Log entry 31 (DEDUCED). -/
def prmTouch (pid i : Nat) (d : Dev) : Dev :=
  match pid with
  | 0x1007 => modFacet i (fun x => { x with missed := 0 }) d
  | 0x201B => modCas i (fun x => { x with delayMax := 0 }) d
  | 0x201C => modCas i (fun x => { x with overrun := 0 }) d
  | 0x201D => casClear i d
  | 0x2307 => modTap i (fun x => { x with ignored := 0 }) d
  | 0x3150 => legClear i d
  | 0x4014 => modWin i (fun x => { x with trips := 0 }) d
  | 0x4015 => winStatClear i d
  | 0x4016 => modWin i (fun x => { x with cuts := 0 }) d
  | 0x7109 => pvClear i d
  | 0xA00C => modUnit i (fun x => { x with preIgn := 0 }) d
  | 0xA00D => modUnit i (fun x => { x with busyIgn := 0 }) d
  | 0xB011 => modPort i (fun x => { x with lec := 0, pex := false }) d
  | 0xB012 => modPort i (fun x => { x with nRx := 0, nTx := 0, rxLost := 0, txDrop := 0, unbound := 0 }) d
  | 0xB140 => modEnt i (fun x => { x with txFail := false }) d
  | 0xC006 => modLane i (fun x => { x with prbsErr := 0 }) d
  | 0xC008 => modLane i (fun x => { x with codeErr := 0, good := 0, bad := 0, dropped := 0 }) d
  | _ => d

end Sys2Proof.Machine
end

