-- ==== Sys2Proof/Machine/Requests.lean ====
section
/-!
DEFINITION. Requests through sys.state.req (R22 to R29), DOZE and its wakes (R552), the end of the ramp to SYNC (R187),
LEGSVC (R283, R364) and the management view (R17).
-/
namespace Sys2Proof.Machine

/-! ### What a refusal says (R23, R583) -/

/-- Trip cause `c` persists (R583). Log entry 51 (DEDUCED). -/
def causePersists (d : Dev) (c : Nat) : Bool :=
  match c with
  | 0x23 => !d.sys.islandGone
  | 0x24 => d.gd.estop
  | 0x26 => !locked d 2
  | 0x27 => !locked d 0
  | 0x28 => true
  | 0x29 => d.fil.unc
  | _ => false

/-- The lowest trip cause that persists (R23). Log entry 51 (DEDUCED). -/
def persisting (d : Dev) : Option Nat :=
  ((List.range 10).map (fun i => 0x20 + i)).find? (fun c => d.sys.tripCauses.contains c && causePersists d c)

/-- A request is refused (R23): sys.state.refusal and the DETAIL take the code. Log entry 48 (DEDUCED). -/
def refuseReq (code : Nat) (d : Dev) : Dev := answer 1 code { d with sys := { d.sys with refusal := code } }

/-- A request for state code `n` is accepted: the PSET completes with OK before the transition.
Log entry 48 (DEDUCED). -/
def acceptReq (n : Nat) (d : Dev) : Dev := answer 0 0 { d with sys := { d.sys with req := n } }

/-- An automatic transition is in progress, or one arose in this tick (R23, R26). Log entry 48 (DEDUCED). -/
def autoBusy (d : Dev) : Bool := d.sys.auto ≠ .none || d.sys.autoT = some d.t

/-- What every request passes first: the window is open, the class suffices (R22), no recovery (R544), no automatic
transition (R23), no early warning, which is the transition to CLASP under way (R26, R528). A standby is refused whatever the target, with DETAIL 9 (R28, R458).
Log entry 48 (DEDUCED). -/
def request (cls need : Nat) (standby : Bool) (f : Dev → Dev) (d : Dev) : Dev :=
  if ¬ d.sys.up ∨ d.sys.testStop then d
  else if cls < need then answer 2 need d
  else if d.boot.recovery then answer 1 10 d
  else if d.sys.standby ∧ ¬ standby then answer 1 9 { d with sys := { d.sys with refusal := 0x05 } }
  else if autoBusy d ∨ d.hold.warned then refuseReq 0x05 d
  else f d

/-- The conditions of R24 for SYNC to RUN, in the order of R23. -/
def runRefusal (d : Dev) : Option Nat :=
  if ¬ gridContinuous d then some 0x10
  else if ¬ d.gs.lock then some 0x12
  else if ¬ linkInBand d then some 0x05
  else if ¬ d.gd.closed then some 0x25
  else none

/-! ### Transitions by request (R24) -/

/-- Every leg leaves service, and power stops (R187). -/
def stopPower (d : Dev) : Dev := powerOff (legsOut d)

/-- RUN is entered from SYNC or DOZE: P_r and Q_cmd start at 0 (R187), the Setter places (R585), and with no AC leg the
device trips (R25). -/
def enterRun (d : Dev) : Dev := checkAc (runPlacement (transition .run 0x05 (powerOff d)))

/-- SERVICE is over (R24): to SVC_RET while its entry conditions hold, otherwise to READY.
Log entries 49 (DEDUCED), 143 (DEDUCED). -/
def svcExit (d : Dev) : Dev :=
  let ready := enterReady 0x32 (stopPower d)
  match d.sys.svcRet with
  | .run => if (runRefusal d).isNone then transition .run 0x32 d else ready
  | .sync => if (syncRefusal d).isNone then transition .sync 0x32 d else ready
  | _ => ready

/-- Where the request names SVC_RET, or READY, service work is complete. Log entry 49 (DEDUCED). -/
def svcRequest (n : Nat) (d : Dev) : Dev :=
  if stCode d.sys.svcRet = n then svcExit (acceptReq n d)
  else if n = 3 then enterReady 0x32 (stopPower (acceptReq n d))
  else refuseReq 0x05 d

/-- `REQ_CLASP`: from READY (R24). The fast domains lose their supply: `toClasp` is what that takes. -/
def reqClasp (toClasp : Dev → Dev) (d : Dev) : Dev :=
  if d.sys.st = .ready then toClasp (acceptReq 1 d) else refuseReq 0x05 d

/-- The disconnect channel opens for a request from SYNC to READY, and the state changes at the confirmation (R490). -/
def syncToReady (d : Dev) : Dev :=
  if prm d 0xE100 0 = 0 ∨ (¬ d.gd.closed ∧ ¬ d.gd.closing ∧ ¬ d.gd.opening) then enterReady 0x05 (gdOff d)
  else { gdOff d with sys := { d.sys with auto := .syncToReady } }

/-- `REQ_READY`: from DOZE entered from READY, from SYNC, from TRIP once every cause is gone and no block window is
latched, and out of SERVICE (R24). On a standby it ends the pairing (R28). Log entries 49 (DEDUCED), 50 (DEDUCED). -/
def reqReady (d : Dev) : Dev :=
  match d.sys.st with
  | .doze => if d.sys.dozeFrom = .ready then enterReady 0x05 (wakeAll (acceptReq 3 d)) else refuseReq 0x05 d
  | .sync => syncToReady (acceptReq 3 (if d.sys.standby then unpair (control 3 0 0 d) else d))
  | .trip =>
    (match persisting d with
     | some c => refuseReq c d
     | none => if blockLatched d then refuseReq 0x20 d else enterReady 0x05 (acceptReq 3 d))
  | .service => svcRequest 3 d
  | _ => refuseReq 0x05 d

def execReqReady (t cls : Nat) (s : State) : Host.Outcome State Fault Refusal := lift t (request cls 1 true reqReady) s

/-- `REQ_DOZE`: from READY or SYNC (R24); units in POST store before the Casket enters self-refresh (R335, R552).
Log entry 50 (DEDUCED). -/
def reqDoze (d : Dev) : Dev :=
  if d.sys.st = .ready ∨ d.sys.st = .sync then
    let d1 := acceptReq 2 d
    forAll 4 (fun u e => endUnit u 5 e) { d1 with sys := { d1.sys with auto := .toDoze, dozeFrom := d1.sys.st } }
  else refuseReq 0x05 d

def execReqDoze (t cls : Nat) (s : State) : Host.Outcome State Fault Refusal := lift t (request cls 1 false reqDoze) s

/-- `DOZE_ENTRY_COMPLETE`: Carat saves, the Casket enters self-refresh, Facets, carriers and PLLs stop, CAN ports go off
(R118, R310, R316, R400, R552), once no unit stores a record any longer (R335). The refresh watch of the channel is
disarmed (R491). Log entry 50 (DEDUCED). -/
def dozeDone (d : Dev) : Dev :=
  if d.sys.auto = .toDoze then
    let d1 := forAll 4 (fun u e => endUnit u 5 e) d
    if (List.range 4).any (fun u => (unit d1 u).st = 4) then d1 else
    let d2 := stopCarriers (canOff (caratStop (if prm d1 0x9000 0 = 1 then caratSave d1 else d1)))
    let d3 := rotStop (stopFacets d2)
    transition .doze 0x05 { d3 with
      cask := { d3.cask with selfref := true }, clk := { d3.clk with lock := 0 }, gd := { d3.gd with watch := false } }
  else d

def execDozeEntryComplete (t : Nat) (s : State) : Host.Outcome State Fault Refusal := lift t dozeDone s

/-- `REQ_SYNC`: from READY, from DOZE, from RUN with a ramp to 0 (R24, R187), and out of SERVICE entered from SYNC. On
factory values SYNC is never entered (R11). Log entry 50 (DEDUCED). -/
def reqSync (d : Dev) : Dev :=
  match d.sys.st with
  | .ready =>
    (match syncRefusal d with
     | some c => refuseReq c d
     | none => transition .sync 0x05 (acceptReq 4 d))
  | .doze => if d.sys.factory then refuseReq 0x05 d else transition .sync 0x05 (wakeAll (acceptReq 4 d))
  | .run => { acceptReq 4 d with sys := { (acceptReq 4 d).sys with auto := .runToSync } }
  | .service => svcRequest 4 d
  | _ => refuseReq 0x05 d

def execReqSync (t cls : Nat) (s : State) : Host.Outcome State Fault Refusal := lift t (request cls 1 false reqSync) s

/-- `RUN_TO_SYNC_COMPLETE`: at the epoch tick at which P_r and Q_cmd are 0 the gates go off (R187). -/
def runToSyncDone (d : Dev) : Dev :=
  if d.sys.st = .run ∧ d.sys.auto = .runToSync ∧ d.t % 400000 = 0 ∧ d.gs.pR = 0 ∧ d.gs.qCmd = 0 then
    transition .sync 0x05 (stopPower d)
  else d

def execRunToSyncComplete (t : Nat) (s : State) : Host.Outcome State Fault Refusal := lift t runToSyncDone s

/-- `REQ_RUN`: from SYNC, from DOZE entered from SYNC with a phase check (R29), from a FORM entered by request (R198), and
out of SERVICE entered from RUN. Log entry 50 (DEDUCED). -/
def reqRun (d : Dev) : Dev :=
  match d.sys.st with
  | .sync =>
    (match runRefusal d with
     | some c => refuseReq c d
     | none => enterRun (acceptReq 5 d))
  | .doze =>
    if d.sys.dozeFrom = .sync then
      let d1 := wakeAll (acceptReq 5 d)
      { d1 with sys := { d1.sys with auto := .wakeCheck } }
    else refuseReq 0x05 d
  | .form =>
    if d.sys.formAuto then refuseReq 0x05 d
    else if ¬ d.gs.lock then refuseReq 0x12 d
    else stageExit 0x05 (acceptReq 5 d)
  | .service => svcRequest 5 d
  | _ => refuseReq 0x05 d

/-- Log entry 6 (DESIGN CHOICE). -/
def execReqRun (t cls : Nat) (s : State) : Host.Outcome State Fault Refusal := lift t (request cls 1 false reqRun) s

/-- `DOZE_WAKE_CHECK_DONE`: phase within 5° and magnitude within 0.1 pu of the prediction, the channel closed, and every
loop locked from its stored result; otherwise SYNC with cause 0x15 (R29, R511). Log entry 162 (DEDUCED). -/
def wakeCheckDone (dPhase dMag : Rat) (slow : Bool) (d : Dev) : Dev :=
  if d.sys.auto = .wakeCheck then
    if d.gd.closed ∧ absR dPhase ≤ 5 ∧ absR dMag ≤ 1 / 10 ∧ ¬ slow then enterRun d
    else transition .sync 0x15 d
  else d

def execDozeWakeCheckDone (t : Nat) (dPhase dMag : Rat) (slowLock : Bool) (s : State) :
    Host.Outcome State Fault Refusal :=
  lift t (wakeCheckDone dPhase dMag slowLock) s

/-- `REQ_FORM`: from RUN; the forming weights land at the next epoch tick, with the E of this epoch (R197). -/
def reqForm (d : Dev) : Dev :=
  if d.sys.st = .run then
    let d1 := acceptReq 7 d
    { d1 with
      sys := { d1.sys with auto := .formByRequest }
      gs := { d1.gs with goodE := polar d1.gs.eMag (d1.gs.eTh - 360 * d1.gs.fE / 1000), goodF := d1.gs.fE,
                         goodT := d1.t / 400000 * 400000 } }
  else refuseReq 0x05 d

def execReqForm (t cls : Nat) (s : State) : Host.Outcome State Fault Refusal := lift t (request cls 1 false reqForm) s

/-- `REQ_SERVICE`: from READY, SYNC or RUN, by an engineer or a warden; SVC_RET records the entry state (R22, R24). -/
def reqService (d : Dev) : Dev :=
  if d.sys.st = .ready ∨ d.sys.st = .sync ∨ d.sys.st = .run then
    let d1 := acceptReq 9 d
    transition .service 0x05 { d1 with sys := { d1.sys with svcRet := d1.sys.st } }
  else refuseReq 0x05 d

def execReqService (t cls : Nat) (s : State) : Host.Outcome State Fault Refusal :=
  lift t (request cls 2 false reqService) s

/-! ### LEGSVC (R283, R364) -/

/-- The response: what the leg is, and the SEQ of the outstanding intent. -/
def legsvcResp (d : Dev) (n : Nat) : List Byte :=
  let k := if (leg d n).held then 0 else if inSvc d n then 2 else 1
  le 4 k ++ le 4 (match d.setr.intent with
    | some r => r.seq
    | none => 0)

/-- The checks that every action shares: standby (R458), the leg, the action, the role. Log entry 143 (DEDUCED). -/
def legsvc (act : Nat) (f : Nat → Cmd → Dev → Dev) (c : Cmd) (d : Dev) : Dev :=
  let n := field c.body 0 0
  let a := field c.body 1 1
  if a ≠ act ∧ a ≤ 2 then d
  else if d.sys.standby then finish c 1 9 [] d
  else if 48 ≤ n then finish c 8 (65536 * n) [] d
  else if 2 < a then finish c 8 0 [] d
  else if role d n = 0 then finish c 1 5 [] d
  else f n c d

/-- ACTION 0: the leg is held out and leaves at the landing of the next intent. Log entry 143 (DEDUCED). -/
def legsvcOut (n : Nat) (c : Cmd) (d : Dev) : Dev :=
  let d1 := modLeg n (fun x => { x with held := true }) { d with setr := { d.setr with
    hostChange := d.setr.hostChange || legOn d n } }
  finish c 0 0 (legsvcResp d1 n) d1

def execLegsvcOut (t slot : Nat) (s : State) : Host.Outcome State Fault Refusal :=
  liftCmd t slot 0x0E (legsvc 0 legsvcOut) s

/-- ACTION 1: the leg is held out and leaves at its next period start; a leg that was to enter does not, and its bridge
goes down with it (R183). Log entry 143 (DEDUCED). -/
def legsvcOutNow (n : Nat) (c : Cmd) (d : Dev) : Dev :=
  let d1 := modLeg n (fun x => { x with held := true, leaving := x.leaving || x.insvc, entering := false }) d
  let d2 := if (leg d n).entering then
    bridgeDown n (match bridgeOf d n with
      | some k => brAvail d k
      | none => false) { d1 with setr := { d1.setr with unplanned := true } } else d1
  finish c 0 0 (legsvcResp d2 n) d2

def execLegsvcOutNow (t slot : Nat) (s : State) : Host.Outcome State Fault Refusal :=
  liftCmd t slot 0x0E (legsvc 1 legsvcOutNow) s

/-- Why ACTION 2 is refused, the first of R364 in the order 1, 2, 3, 4, 6. Log entry 143 (DEDUCED). -/
def legInRefusal (d : Dev) (n : Nat) : Option Nat :=
  if (leg d n).dfltIn ∨ (leg d n).duvIn then some 1
  else match clearRefusal (win d n) with
    | some k => some k
    | none => if 100 < d.boot.tDie then some 6 else none

/-- ACTION 2: the leg becomes free and its latches clear (R141), or it is refused; where its window stands against that,
CLR_REF is set (R159). Log entry 143 (DEDUCED). -/
def legsvcIn (n : Nat) (c : Cmd) (d : Dev) : Dev :=
  match legInRefusal d n with
  | some k => finish c 1 k [] (if (clearRefusal (win d n)).isSome then modWin n (fun x => { x with clrRef := true }) d
    else d)
  | none =>
    let d1 := clearWin n (clearLatches n (modLeg n (fun x => { x with held := false, barred := false, mayReturn := false,
                                                                      leaving := false }) d))
    let d2 := { d1 with setr := { d1.setr with hostChange := d1.setr.hostChange || !legOn d1 n } }
    finish c 0 0 (legsvcResp d2 n) d2

def execLegsvcIn (t slot : Nat) (s : State) : Host.Outcome State Fault Refusal :=
  liftCmd t slot 0x0E (legsvc 2 legsvcIn) s

/-! ### The management view (R17) -/

/-- `MGMT_VIEW_RECONCILE`: EV_DISAGREE for the unit; the view takes the hardware state, which is the only one held.
Log entry 142 (DEDUCED). -/
def reconcile (u : ViewUnit) (idx : Nat) (d : Dev) : Dev :=
  let n := match u with
    | .leg => 48
    | .window => 56
    | .facet => 13
    | .string => 16
    | .tier => 3
  if idx < n ∧ d.sys.up then raiseI 1 idx d else d

def execMgmtViewReconcile (t : Nat) (unit : ViewUnit) (idx : Nat) (s : State) : Host.Outcome State Fault Refusal :=
  lift t (reconcile unit idx) s

end Sys2Proof.Machine
end

