-- ==== Sys2Proof/Machine/Security.lean ====
section
/-!
DEFINITION. Sessions (R365, R482 to R486), firmware staging and activation (R364, R470, R477, R478) and attestation
(R480, R481).
-/
namespace Sys2Proof.Machine

/-! ### Sessions -/

/-- The bytes of key slot `k` (R482). -/
def keyBytes (d : Dev) (k : Nat) : List Byte := le 388 (prm d 0xE010 k)

/-- Key slot `k` is enabled, and the highest class that it opens (R482). -/
def keyEnabled (d : Dev) (k : Nat) : Bool := bit (field (keyBytes d k) 387 384) 31
def keyClass (d : Dev) (k : Nat) : Nat := bits (field (keyBytes d k) 387 384) 1 0

/-- What a CTYPE 1 signature covers (R484). -/
def credMsg (cls slot tms : Nat) : List Byte := hallmark ++ [BitVec.ofNat 8 cls, BitVec.ofNat 8 slot] ++ le 8 tms

/-- A CTYPE 1 open succeeds (R485); `cr` is the credential. Log entry 23 (DEDUCED). -/
def keyOpens (d : Dev) (cls : Nat) (cr : List Byte) : Bool :=
  let k := field cr 1 1
  let tms := field cr 11 4
  let w := 1000 * prm d 0xE012 0
  k < 8 && keyEnabled d k && decide (cls ≤ keyClass d k) && decide (tms ≤ tMs d + w ∧ tMs d ≤ tms + w) &&
    decide (prm d 0xE011 k < tms) &&
    rsaVerify (ofBe ((keyBytes d k).take 384)) (credMsg cls k tms) ((cr.drop 12).take 384)

/-- The credential opens class `cls` (R483, R484, R485). Log entry 23 (DEDUCED). -/
def credOpens (d : Dev) (cls : Nat) (cr : List Byte) : Bool :=
  match field cr 0 0 with
  | 0 => cr.length = 0 && (!d.sec.warden || cls = 0)
  | 1 => cr.length = 396 && keyOpens d cls cr
  | _ => false

/-- A failed open (R485, R486): EV_AUTHFAIL, a count, and the lockout once sec.auth.max failures fall within 60 s.
Log entries 23 (DEDUCED), 120 (DEDUCED). -/
def authFail (c : Cmd) (d : Dev) : Dev :=
  let fs := d.t :: d.sec.fails.filter (fun a => d.t < a + 24000000000)
  let lock := !d.sec.lockout && decide (prm d 0xE013 0 ≤ fs.length)
  let d1 := { d with sec := { d.sec with
    fails := fs, authFail := incSat 255 d.sec.authFail, lockout := d.sec.lockout || lock,
    lockEnd := if lock then d.t + 400000000 * prm d 0xE014 0 else d.sec.lockEnd } }
  raiseI 114 0 (finish c 0x11 0 [] d1)

/-- A new session replaces the one in force (R365); the token is any number but 0.
Log entries 22 (DEDUCED), 24 (DESIGN CHOICE). -/
def openSession (cls slot : Nat) (keyed : Bool) (c : Cmd) (d : Dev) : Dev :=
  let (k, d1) := takeFree d
  let tok := 1 + Config.freeNat k % (2 ^ 32 - 1)
  let d2 := { d1 with
    mbx := { d1.mbx with sessOpen := true, sessClass := cls, sessToken := tok, sessLast := d1.t }
    sec := { d1.sec with slot := slot, keyed := keyed } }
  raiseI 5 cls (finish c 0 0 (le 4 tok ++ le 4 (prm d2 0x0024 0)) d2)

/-- `SESSION_OPEN`: OP 0; the accepted T_MS is journalled before the command completes (R485).
Log entries 23 (DEDUCED), 120 (DEDUCED). -/
def sessionOpen (c : Cmd) (d : Dev) : Dev :=
  let op := field c.body 0 0
  let cls := field c.body 1 1
  let n := field c.body 3 2
  let cr := c.body.drop 4
  if op = 1 then d
  else if 1 < op ∨ 3 < cls then finish c 8 0 [] d
  else if c.len ≠ 4 + n then finish c 6 (4 + n) [] d
  else if d.sec.lockout ∨ ¬ credOpens d cls cr then authFail c d
  else if n = 0 then openSession cls 0 false c d
  else
    let k := field cr 1 1
    let tms := field cr 11 4
    openSession cls k true c (journal (.always (pkey 0xE011 k) tms) (setPrm 0xE011 k tms d))

def execSessionOpen (t slot : Nat) (s : State) : Host.Outcome State Fault Refusal := liftCmd t slot 0x0B sessionOpen s

/-- `SESSION_CLOSE`: OP 1 closes the session whose token the command carries (R365). -/
def sessionClose (c : Cmd) (d : Dev) : Dev :=
  if field c.body 0 0 ≠ 1 then d
  else if c.len ≠ 4 then finish c 6 4 [] d
  else if field c.body 3 1 ≠ 0 then finish c 8 0 [] d
  else if c.sess = 0 ∨ ¬ d.mbx.sessOpen then finish c 3 0 [] d
  else finish c 0 0 (le 4 c.sess ++ le 4 0) (closeSession d)

def execSessionClose (t slot : Nat) (s : State) : Host.Outcome State Fault Refusal := liftCmd t slot 0x0B sessionClose s

/-- `AUTH_LOCKOUT_END` (R486). Log entry 120 (DEDUCED). -/
def lockoutEnd (d : Dev) : Dev :=
  if d.sec.lockout ∧ d.sec.lockEnd ≤ d.t then { d with sec := { d.sec with lockout := false, fails := [] } } else d

def execAuthLockoutEnd (t : Nat) (s : State) : Host.Outcome State Fault Refusal := lift t lockoutEnd s

/-! ### Staging an image (R364, R478) -/

/-- Largest image: 8 MiB (R477). Log entry 117 (DEDUCED). -/
def maxImage : Nat := 8388608

/-- The checks of R478 in order: the code of sec.fw.res; `floor` is the floor in force. Log entry 117 (DEDUCED). -/
def imageCheck (img : List Byte) (total floor : Nat) : Nat :=
  let p := field img 15 12
  if field img 3 0 ≠ 0x46494B53 ∨ field img 5 4 ≠ 1 ∨ field img 7 6 ≠ 0 ∨ 3 < field img 17 17 ∨ field img 23 18 ≠ 0 ∨
      field img 127 56 ≠ 0 then 2
  else if 512 + p ≠ total then 6
  else if (img.drop 24).take 32 ≠ sha256 (img.drop 512) then 3
  else if ¬ rsaVerify (Config.romKey (field img 17 17)) (img.take 128) ((img.drop 128).take 384) then 4
  else if field img 11 8 < floor then 5
  else 1

/-- The OFFSET that the next chunk must carry (R364): 0 where no staging is unfinished. Log entry 117 (DEDUCED). -/
def nextOffset (d : Dev) : Nat :=
  let x := fwSlot d (otherSlot d)
  if x.st = 1 ∧ x.total ≠ 0 then x.image.length else 0

/-- A chunk of an image (R364). `done` completes a quick chunk, or goes on with the checks of LAST.
Log entry 117 (DEDUCED). -/
def stageChunk (last : Bool) (done : Cmd → Dev → Dev) (c : Cmd) (d : Dev) : Dev :=
  let off := field c.body 3 0
  let total := field c.body 7 4
  let first := bit (field c.body 8 8) 0
  let data := c.body.drop 12
  if bit (field c.body 8 8) 1 ≠ last then d
  else if maxImage < total ∨ total = 0 ∨ maxImage < off + data.length then finish c 8 0 [] d
  else if first then
    if off ≠ 0 then finish c 1 0 [] d
    else done c (modFw (otherSlot d) (fun _ => { st := 1, image := data, total := total }) d)
  else
    let x := fwSlot d (otherSlot d)
    if x.st ≠ 1 ∨ x.total = 0 ∨ off ≠ nextOffset d then finish c 1 (nextOffset d) [] d
    else done c (modFw (otherSlot d) (fun y => { y with image := y.image ++ data }) d)

/-- `FWSTAGE_CHUNK`: a chunk without LAST. Log entry 117 (DEDUCED). -/
def fwChunk (c : Cmd) (d : Dev) : Dev :=
  stageChunk false (fun c e => finish c 0 0 (le 4 (nextOffset e)) e) c d

def execFwstageChunk (t slot : Nat) (s : State) : Host.Outcome State Fault Refusal := liftCmd t slot 0x08 fwChunk s

/-- `FWSTAGE_LAST`: the last chunk; the checks run on as a long command. Log entry 117 (DEDUCED). -/
def fwLast (c : Cmd) (d : Dev) : Dev := stageChunk true goLong c d

def execFwstageLast (t slot : Nat) (s : State) : Host.Outcome State Fault Refusal := liftCmd t slot 0x08 fwLast s

/-- `FWSTAGE_CHECK_DONE` (R478): the slot is verified under the floor in force, or marked incomplete.
Log entry 117 (DEDUCED). -/
def fwCheckDone (d : Dev) : Dev :=
  match longOf d 0x08 with
  | none => d
  | some l =>
    let o := otherSlot d
    let x := fwSlot d o
    let floor := prm d 0xE020 0
    let r := imageCheck x.image x.total floor
    let d1 := { d with sec := { d.sec with fwRes := r } }
    if r = 1 then
      raiseI 108 o (finishLong l.slot 0 0 (le 4 x.image.length) (modFw o (fun y => { y with st := 2, floor := floor }) d1))
    else raiseI 110 o (finishLong l.slot 0x0F 0 [] (modFw o (fun _ => { st := 1 }) d1))

/-- Log entry 147 (DESIGN CHOICE). -/
def execFwstageCheckDone (t : Nat) (s : State) : Host.Outcome State Fault Refusal := lift t fwCheckDone s

/-! ### Activation (R470) -/

/-- EV_FWACT: the release now running, and the MODE (R370). Log entry 118 (DEDUCED). -/
def fwEvent (mode : Nat) (d : Dev) : Dev := raise 109 0 (le 4 (fwRelease d) ++ [BitVec.ofNat 8 mode]) d

/-- A verified image is staged. -/
def staged (d : Dev) : Bool := (fwSlot d (otherSlot d)).st = 2

/-- NOTFOUND with a DETAIL that the spec does not state for an image. -/
def noImage (c : Cmd) (d : Dev) : Dev :=
  let (k, d1) := takeFree d
  finish c 0x0D (Config.freeNat k) [] d1

/-- `FWACT_HANDOVER`: MODE 0 (R468, R470); a standby refuses it with DETAIL 9 (R458). Log entry 118 (DEDUCED). -/
def fwHandover (c : Cmd) (d : Dev) : Dev :=
  if field c.body 0 0 ≠ 0 then d
  else if d.sys.standby then finish c 1 9 [] d
  else if ¬ swapOk d then finishOpen c d
  else if ¬ staged d then noImage c d
  else swapStart true c d

def execFwactHandover (t slot : Nat) (s : State) : Host.Outcome State Fault Refusal := liftCmd t slot 0x09 fwHandover s

/-- The states in which MODE 1 is accepted (R470). -/
def liveState (d : Dev) : Bool := d.sys.st = .ready || d.sys.st = .sync || d.sys.st = .service

/-- `FWACT_LIVE`: MODE 1. Log entry 118 (DEDUCED). -/
def fwLive (c : Cmd) (d : Dev) : Dev :=
  let m := field c.body 0 0
  if m = 0 ∨ m = 2 then d
  else if m ≠ 1 then finish c 8 0 [] d
  else if ¬ liveState d then finishOpen c d
  else if ¬ staged d then noImage c d
  else liveStart c.slot (goLong c d)

def execFwactLive (t slot : Nat) (s : State) : Host.Outcome State Fault Refusal := liftCmd t slot 0x09 fwLive s

/-- `FWACT_NEXT_RESET`: MODE 2: the slot takes the activation mark that the next start follows (R542).
Log entry 118 (DEDUCED). -/
def fwNext (c : Cmd) (d : Dev) : Dev :=
  if field c.body 0 0 ≠ 2 then d
  else if ¬ staged d then noImage c d
  else
    let d1 := modFw (otherSlot d) (fun x => { x with mark := true, tries := 0 }) d
    fwEvent 2 (finish c 0 0 (le 4 (fwRelease d1)) d1)

def execFwactNextReset (t slot : Nat) (s : State) : Host.Outcome State Fault Refusal := liftCmd t slot 0x09 fwNext s

/-- A live activation is cancelled before its pause: FWACT completes with ABORTED and the mark goes (R470).
Log entry 118 (DEDUCED). -/
def liveCancel (d : Dev) : Dev :=
  match d.sec.live with
  | none => d
  | some s =>
    if d.mbx.paused then d
    else
      finishLong s 0x10 (stCode d.sys.st) []
        (modFw (otherSlot d) (fun x => { x with mark := false }) { d with sec := { d.sec with live := none } })

/-- A grid fault, or a new staging, cancels a live activation that waits for its pause (R470).
Log entry 118 (DEDUCED). -/
def liveStep (d : Dev) : Dev := if liveState d ∧ staged d then d else liveCancel d

/-- `FWACT_PAUSE_START`: PAUSED is set, epoch work is suspended, the refresh watch is disarmed (R491), and a standby loses
SYNCED (R470). Log entry 118 (DEDUCED). -/
def pauseStart (d00 : Dev) : Dev :=
  let d := liveStep d00
  if d.sec.live.isSome ∧ ¬ d.mbx.paused then
    let d1 := { d with mbx := { d.mbx with paused := true }, gd := { d.gd with watch := false } }
    if d1.sys.standby then setSynced false { d1 with pnd := { d1.pnd with syncRun := 0 } } else d1
  else d

def execFwactPauseStart (t : Nat) (s : State) : Host.Outcome State Fault Refusal := lift t pauseStart s

/-- `FWACT_PAUSE_END`: the new firmware runs and has become active, FWACT completes, the Charm history restarts,
ride-through judges the next tick afresh, and SERVICE returns with cause 0x32 (R470, R364): to RUN at the first tick
after the pause, unless a grid fault leads to RIDE there (R26, R27). Log entry 118 (DEDUCED). -/
def pauseEnd (d : Dev) : Dev :=
  match d.sec.live with
  | none => d
  | some s =>
    if ¬ d.mbx.paused then d
    else
      let o := otherSlot d
      let mode := match longOf d 0x09 with
        | some l => field l.payload 0 0
        | none => 1
      let d1 := modFw o (fun x => { x with mark := false, tries := 0 }) d
      let d2 := { d1 with
        sec := { d1.sec with live := none, fwAct := o, running := o }
        mbx := { d1.mbx with paused := false }
        rt := { d1.rt with outRun := 0 } }
      let d3 := fwEvent mode (finishLong s 0 0 (le 4 (fwRelease d2)) (charmRestart d2))
      if d3.sys.st ≠ .service then d3
      else if d3.sys.svcRet = .run then { d3 with sys := { d3.sys with auto := .svcExit } }
      else svcExit d3

def execFwactPauseEnd (t : Nat) (s : State) : Host.Outcome State Fault Refusal := lift t pauseEnd s

/-! ### Attestation (R480, R481) -/

/-- The committed parameters that the protection digest covers, in ascending PID. Log entry 119 (DEDUCED). -/
def protectParams : List Desc :=
  (params4 ++ params5.filter (fun x => 0x5100 ≤ x.pid ∧ x.pid ≤ 0x5142) ++ params6 ++
    paramsE.filter (fun x => 0xE100 ≤ x.pid ∧ x.pid ≤ 0xE109)).filter (fun x => x.kind = 1)

/-- Parameter `pid` is one of R481. Log entry 119 (DEDUCED). -/
def isProtect (pid : Nat) : Bool := protectParams.any (fun x => x.pid = pid)

/-- The protection digest (R481). Log entry 119 (DEDUCED). -/
def protectDigest (d : Dev) : List Byte :=
  sha256 (protectParams.flatMap (fun x => (List.range x.n).flatMap (fun i => le x.vsize (prm d x.pid i))))

/-- The newest complete snapshot, and the digest that its header holds (R387, R480). -/
def newestSnap (d : Dev) : Snapshot := if d.lkt.newestB then d.lkt.slotB else d.lkt.slotA
def snapDigest (d : Dev) : List Byte :=
  let x := newestSnap d
  le 32 (Config.snapDigest x.seq x.params x.bank)

/-- KEYS of the report: the enabled key slots in ascending order. Log entry 119 (DEDUCED). -/
def keysDigest (d : Dev) : List Byte :=
  sha256 (((List.range 8).filter (keyEnabled d)).flatMap (keyBytes d))

/-- Bytes 0 to 255 of the report, at this tick, for a NONCE of 32 bytes of which the report holds the first four.
Log entry 119 (DEDUCED). -/
def attestBody (nonce : Nat) (d : Dev) : List Byte :=
  let o := fwOther d
  let flags := fields [(0, b01 (!d.sec.warden)), (1, b01 d.sys.factory), (2, b01 d.time.valid), (3, b01 d.gd.fault)]
  le 2 1 ++ le 2 640 ++ le 4 nonce ++ hallmark ++ le 8 (tNs d / 1000000000) ++ le 4 (tNs d % 1000000000) ++
    le 4 (sysStateReg d) ++ le 4 (fwRelease d) ++ fwDigest d d.sec.running ++
    (if 2 ≤ o then fwDigest d (otherSlot d) else le 32 0) ++ le 1 o ++ le 1 d.pnd.role ++ le 1 flags ++
    le 1 (gdStat d % 16) ++ le 4 d.lkt.snapSeq ++ snapDigest d ++ protectDigest d ++ le 4 (prm d 0xE020 0) ++
    le 4 (caratQual d) ++ le 1 (d.carat.qual % 2) ++ le 3 0 ++
    le 16 (if d.pnd.role = 0 then 0 else prm d 0xD001 0) ++ keysDigest d

/-- The bytes of a report that an ATTEST asks for. Log entry 119 (DEDUCED). -/
def attestResp (rep body : List Byte) : List Byte :=
  le 4 640 ++ le 4 0 ++ (rep.drop (field body 35 32)).take (field body 37 36)

/-- `ATTEST`: the NONCE of the report in force reads further bytes of it; a new one starts a report.
Log entry 119 (DEDUCED). -/
def attest (c : Cmd) (d : Dev) : Dev :=
  let n := field c.body 37 36
  let nonce := field c.body 31 0
  if n = 0 ∨ 488 < n ∨ 640 ≤ field c.body 35 32 then finish c 8 0 [] d
  else if d.sec.attNonce = some nonce then finish c 0 0 (attestResp d.sec.attReport c.body) d
  else
    let d1 := goLong c d
    { d1 with sec := { d1.sec with attNonce := none, attReport := [], attBody := none } }

def execAttest (t slot : Nat) (s : State) : Host.Outcome State Fault Refusal := liftCmd t slot 0x0A attest s

/-- The epoch tick after the command takes what the report reflects (R480). Log entry 119 (DEDUCED). -/
def attestStep (d : Dev) : Dev :=
  match longOf d 0x0A with
  | some l =>
    if d.sec.attBody.isNone then { d with sec := { d.sec with attBody := some (attestBody (field l.payload 31 0) d) } }
    else d
  | none => d

/-- `ATTEST_DONE`: the report is signed, and the command completes. Log entry 119 (DEDUCED). -/
def attestDone (d : Dev) : Dev :=
  match longOf d 0x0A with
  | some l =>
    (match d.sec.attBody with
     | some b =>
       let rep := b ++ be 384 (Config.sign b)
       let d1 := { d with sec := { d.sec with attNonce := some (field l.payload 31 0), attReport := rep, attBody := none } }
       finishLong l.slot 0 0 (attestResp rep l.payload) d1
     | none => d)
  | none => d

def execAttestDone (t : Nat) (s : State) : Host.Outcome State Fault Refusal := lift t attestDone s

end Sys2Proof.Machine
end

