-- ==== Sys2Proof/Machine/Clocks.lean ====
section
/-!
DEFINITION. The clock domains: losses of lock and relocks, the reference, stored band searches, the sampling phase and
the RTC (R504, R508 to R518).
-/
namespace Sys2Proof.Machine

/-! ### Stored band searches (R510, R511) -/

/-- Change a stored result: i = 8 × loop + entry. Log entry 69 (DEDUCED). -/
def modBand (i : Nat) (f : BandRes → BandRes) (d : Dev) : Dev :=
  { d with clasp := { d.clasp with bands := tmod {} i f d.clasp.bands } }

/-- The stored result `i`. Log entry 111 (DEDUCED). -/
def bandRes (d : Dev) (i : Nat) : BandRes := tget {} d.clasp.bands i

/-- The configuration code of loop `l`: the rate of its lanes for a LANE channel, 0 for the rest. The codes are not
stated. Log entry 111 (DEDUCED). -/
def loopCfg (d : Dev) (l : Nat) : Nat := if l = 4 then prm d 0xC001 0 else if l = 5 then prm d 0xC001 2 else 0

/-- The least recently used entry of loop `l`; an empty one comes first. Log entry 111 (DEDUCED). -/
def oldestBand (d : Dev) (l : Nat) : Nat :=
  (List.range 8).foldl (fun b e => if (bandRes d (8 * l + e)).used < (bandRes d (8 * l + b)).used then e else b) 0

/-- A full search of loop `l` stores its result (R510). Log entry 111 (DEDUCED). -/
def storeBand (l band : Nat) (temp : Int) (d : Dev) : Dev :=
  let k := d.clasp.bandUse + 1
  modBand (8 * l + oldestBand d l)
    (fun _ => { cfg := loopCfg d l, band := band % 256, temp := temp, used := k, uses := 0 })
    { d with clasp := { d.clasp with bandUse := k } }

/-- A stored result of loop `l` fits the present configuration and temperature (R510). Log entry 111 (DEDUCED). -/
def bandFits (d : Dev) (l : Nat) (temp : Int) (e : Nat) : Bool :=
  let b := bandRes d (8 * l + e)
  b.used ≠ 0 && b.cfg = loopCfg d l && decide (absI (b.temp - temp) ≤ 10 * (prm d 0xF206 0 : Int))

/-- Loop `l` searches its band in full (R510, R518): no stored result fits, or clk.relock.n attempts with one have failed.
Log entry 111 (DEDUCED). -/
def searchesFull (d : Dev) (l : Nat) (temp : Int) : Bool :=
  decide (prm d 0xF207 0 ≤ tget 0 d.clk.tries l) || (List.range 8).all (fun e => !bandFits d l temp e)

/-- A stored result of loop `l` with this band fits. Log entry 111 (DEDUCED). -/
def bandStored (d : Dev) (l band : Nat) (temp : Int) : Bool :=
  (List.range 8).any (fun e => bandFits d l temp e && (bandRes d (8 * l + e)).band = band % 256)

/-- Loop `l` locks from a stored result: the entry counts its use. Log entry 111 (DEDUCED). -/
def useBand (l band : Nat) (temp : Int) (d : Dev) : Dev :=
  match (List.range 8).find? (fun e => bandFits d l temp e && (bandRes d (8 * l + e)).band = band % 256) with
  | some e =>
    let k := d.clasp.bandUse + 1
    modBand (8 * l + e) (fun b => { b with used := k, uses := incSat 65535 b.uses })
      { d with clasp := { d.clasp with bandUse := k } }
  | none => d

/-- `BAND_REFRESH`: in DOZE, once the die temperature has moved by 10 °C, in 0.1 °C (R511). Log entry 111 (DEDUCED). -/
def bandRefresh (temp : Int) (band : Nat) (d : Dev) : Dev :=
  if d.sys.st = .doze ∧ 100 ≤ absI (temp - d.clk.bandTemp) then
    forAll 6 (fun l e => storeBand l band temp e) { d with clk := { d.clk with bandTemp := temp } }
  else d

def execBandRefresh (t : Nat) (temp : Int) (band : Nat) (s : State) : Host.Outcome State Fault Refusal :=
  lift t (bandRefresh temp band) s

/-! ### Losses of lock (R516, R517) -/

/-- EV_PLLLOCK: the loop, and 0 for a loss or 1 for a relock (R370, R516). Log entry 110 (DEDUCED). -/
def pllEvent (l kind : Nat) (d : Dev) : Dev := raise 116 l [BitVec.ofNat 8 kind] d

/-- Loop `l` is lost: its lock falls, its LOSS bit is set and its relock attempts start anew.
Log entry 110 (DEDUCED). -/
def loseLoop (l : Nat) (d : Dev) : Dev :=
  pllEvent l 0 { d with clk := { d.clk with lock := clrBit d.clk.lock l, loss := setBit d.clk.loss l,
                                            tries := tput 0 l 0 d.clk.tries } }

/-- Every result carries VALID = 0. -/
def invalidate (d : Dev) : Dev :=
  let d1 := forAll 168 (fun i e => if inScan e i then modAin i (fun x => { x with res := { x.res with valid := false } }) e
    else e) d
  { d1 with acq := { d1.acq with diag := d1.acq.diag.map (fun kv => (kv.1, { kv.2 with valid := false })) } }

/-- A COMMIT that has passed its checks and not landed ends with ABORTED where a loss has brought TRIP (R384, R517);
`was` is the state before. -/
def commitCut (was : OpState) (d : Dev) : Dev :=
  match d.commit with
  | some j =>
    if was ≠ .trip ∧ d.sys.st = .trip ∧ j.passedAt.isSome then
      finishLong j.slot 0x10 (stCode d.sys.st) [] (dropCommit d)
    else d
  | none => d

/-- A loss that brings TRIP with cause `c`. Log entry 110 (DEDUCED). -/
def lossTrip (c : Nat) (d : Dev) : Dev := commitCut d.sys.st (enterTrip c d)

/-- What the loss of the PWM PLL does to gates, windows, Facets and epoch ticks (R16, R168, R517).
Log entry 69 (DEDUCED). -/
def pwmLost (d : Dev) : Dev :=
  let d1 := rotAbandon (invalidate (stopCarriers (pllHoldAll (regate d))))
  if bit (gdPrm d1 0xE101) 6 then gdDemand false d1 else d1

/-- What the loss of channel C does: the domains move to the reference and every cascade halts.
Log entry 110 (DEDUCED). -/
def sysCLost (d : Dev) : Dev :=
  haltEvery { d with clk := { d.clk with onRef := d.clk.refOk, onFb := !d.clk.refOk } }

/-- What the loss of the ADC PLL does: results, rotation, CALFULL and a PV sweep. Log entry 110 (DEDUCED). -/
def adcLost (d : Dev) : Dev :=
  let d1 := rotAbandon (invalidate d)
  let d2 := match d1.acq.calFull with
    | some j => finishLong j.slot 1 3 [] { d1 with acq := { d1.acq with calFull := none } }
    | none => d1
  sweepAbort d2

/-- What the loss of a LANE channel does: Ethernet ports down and 1588 to holdover, or Chain links down.
Log entry 110 (DEDUCED). -/
def laneALost (d : Dev) : Dev := forAll 2 (fun i e => if (ethPort e i).link then linkDown i e else laneDown i e) d
/-- Log entry 110 (DEDUCED). -/
def laneBLost (d : Dev) : Dev := forAll 6 (fun k e => laneDown (k + 2) e) d

/-- `PWM_PLL_LOCK_LOSS`: TRIP with cause 0x26. -/
def pwmLoss (d : Dev) : Dev := if locked d 2 then lossTrip 0x26 (pwmLost (loseLoop 2 d)) else d

def execPwmPllLockLoss (t : Nat) (s : State) : Host.Outcome State Fault Refusal := lift t pwmLoss s

/-- `SYS_C_LOCK_LOSS`: TRIP with cause 0x27. -/
def sysCLoss (d : Dev) : Dev := if locked d 0 then lossTrip 0x27 (sysCLost (loseLoop 0 d)) else d

def execSysCLockLoss (t : Nat) (s : State) : Host.Outcome State Fault Refusal := lift t sysCLoss s

/-- `SYS_M_LOCK_LOSS`: the Casket is down. -/
def sysMLoss (d : Dev) : Dev := if locked d 1 then casketDown (loseLoop 1 d) else d

def execSysMLockLoss (t : Nat) (s : State) : Host.Outcome State Fault Refusal := lift t sysMLoss s

/-- `ADC_PLL_LOCK_LOSS`. -/
def adcLoss (d : Dev) : Dev := if locked d 3 then adcLost (loseLoop 3 d) else d

def execAdcPllLockLoss (t : Nat) (s : State) : Host.Outcome State Fault Refusal := lift t adcLoss s

/-- `LANE_A_LOCK_LOSS`. -/
def laneALoss (d : Dev) : Dev := if locked d 4 then laneALost (loseLoop 4 d) else d

def execLaneALockLoss (t : Nat) (s : State) : Host.Outcome State Fault Refusal := lift t laneALoss s

/-- `LANE_B_LOCK_LOSS`. -/
def laneBLoss (d : Dev) : Dev := if locked d 5 then laneBLost (loseLoop 5 d) else d

def execLaneBLockLoss (t : Nat) (s : State) : Host.Outcome State Fault Refusal := lift t laneBLoss s

/-! ### The reference (R509) -/

/-- LOCK and HOLDOVER fall, so VALID is 0 unless the device is its own trusted grandmaster (R444, R509). -/
def timeLost (d : Dev) : Dev :=
  let d1 := forAll 2 (fun i e => modPtp i (fun x => { x with st := if x.st = 9 then 8 else x.st }) e) d
  validCheck { d1 with time := { d1.time with lock := false, holdover := false, inRun := 0, outRun := 0 } }

/-- `REF_MISSING`: every loop is treated as unlocked, the SYS domains run on the fallback oscillator, and cause 0x26 is
reported. Log entry 110 (DEDUCED). -/
def refMissing (d : Dev) : Dev :=
  if d.clk.refOk ∧ chanRuns d then
    let had := d.clk.lock
    let d0 := { d with clk := { d.clk with refOk := false, onFb := true, onRef := false } }
    let d1 := if d0.sys.st = .doze then canOn (caratResume (wakeDomains d0)) else d0
    let lose := fun (l : Nat) (f : Dev → Dev) (e : Dev) => if bit had l then f (loseLoop l e) else e
    let d2 := lose 2 pwmLost (lose 3 adcLost (lose 4 laneALost (lose 5 laneBLost (lose 1 casketDown (lose 0 id d1)))))
    lossTrip 0x26 (timeLost (haltEvery d2))
  else d

def execRefMissing (t : Nat) (s : State) : Host.Outcome State Fault Refusal := lift t refMissing s

/-- `REF_RETURN`: REF_OK is set; the SYS domains run on the reference until channel C relocks.
Log entry 110 (DEDUCED). -/
def refReturn (d : Dev) : Dev :=
  if ¬ d.clk.refOk ∧ chanRuns d then
    { d with clk := { d.clk with refOk := true, onFb := false, onRef := !locked d 0 } }
  else d

def execRefReturn (t : Nat) (s : State) : Host.Outcome State Fault Refusal := lift t refReturn s

/-! ### Relocks (R518) -/

/-- What relocking brings back in the domain of loop `l`. -/
def domainBack (l : Nat) (d : Dev) : Dev :=
  match l with
  | 0 => canRejoin { d with clk := { d.clk with onRef := false, onFb := false },
                            fil := { d.fil with haltAll := d.fil.unc } }
  | 1 => { d with cask := { d.cask with up := d.cask.size ≠ 0 } }
  | 2 =>
    let d1 := epochsResume (pllReleaseAll d)
    if locked d1 3 then resumeScans d1 else d1
  | 3 =>
    let (k, d1) := takeFree d
    rotResume (resumeScans { d1 with clk := { d1.clk with phase := Config.freeNat k % 10 } })
  | _ => d

/-- `PLL_RELOCK`: loop `l` locks in a band from its stored result, or by a full search; the ADC PLL needs the PWM clock. The phase
of the conversion dividers after a relock is not stated (R515), so it is a free value. Log entry 111 (DEDUCED). -/
def pllRelock (l band : Nat) (temp : Int) (d : Dev) : Dev :=
  if l < 6 ∧ ¬ locked d l ∧ d.clk.refOk ∧ chanRuns d ∧ d.sys.st ≠ .doze ∧ (l = 3 → locked d 2) ∧
      (searchesFull d l temp ∨ bandStored d l band temp) then
    let d1 := if searchesFull d l temp then storeBand l band temp d else useBand l band temp d
    let d2 := { d1 with clk := { d1.clk with lock := setBit d1.clk.lock l, search := false, tries := tput 0 l 0 d1.clk.tries } }
    domainBack l (pllEvent l 1 d2)
  else d

def execPllRelock (t l band : Nat) (temp : Int) (s : State) : Host.Outcome State Fault Refusal :=
  lift t (pllRelock l band temp) s

/-- `PLL_RELOCK_RETRY`: an attempt has failed; after clk.relock.n of them full searches follow every 10 ms.
Log entry 111 (DEDUCED). -/
def relockRetry (l : Nat) (d : Dev) : Dev :=
  let k := tget 0 d.clk.tries l
  if l < 6 ∧ ¬ locked d l ∧ chanRuns d ∧ d.sys.st ≠ .doze ∧
      (prm d 0xF207 0 ≤ k → tget 0 d.clk.tryT l + 10 * ticksPerMs ≤ d.t) then
    let n := k + 1
    { d with clk := { d.clk with tries := tput 0 l n d.clk.tries, tryT := tput 0 l d.t d.clk.tryT, search := decide (prm d 0xF207 0 ≤ n) } }
  else d

def execPllRelockRetry (t l : Nat) (s : State) : Host.Outcome State Fault Refusal := lift t (relockRetry l) s

/-! ### The sampling phase (R515) -/

/-- The conversion dividers are to run at phase `p`: found elsewhere, they are reset, RESYNC is set, and every Facet's
enabled inputs restart as after a change of scan.mode. Log entry 112 (DEDUCED). -/
def phaseCheck (p : Nat) (d : Dev) : Dev :=
  if ¬ locked d 3 ∨ d.clk.phase = p % 10 then d
  else forAll 12 (fun f e => restartFacet f 2 (flushFacet f e)) { d with clk := { d.clk with phase := p % 10, resync := true } }

/-- `ADC_SYNC_EDGE`: with adc.sync.src = 0 the phase is that of the edge's tick plus adc.sync.phase.
Log entry 112 (DEDUCED). -/
def adcSyncEdge (d : Dev) : Dev := if prm d 0xF204 0 = 0 ∧ chanRuns d then phaseCheck (d.t + prm d 0xF205 0) d else d

def execAdcSyncEdge (t : Nat) (s : State) : Host.Outcome State Fault Refusal := lift t adcSyncEdge s

/-- The check at an epoch tick, with adc.sync.src = 1. Log entry 112 (DEDUCED). -/
def epochPhase (d : Dev) : Dev := if prm d 0xF204 0 = 1 then phaseCheck (prm d 0xF205 0) d else d

/-! ### The RTC (R504) -/

/-- `RTC_NETWORK_SET`: at each whole second of valid network time. The spec does not state how the trim follows from the
corrections, so it is a free value within its range. Log entry 113 (DEDUCED). -/
def rtcNetworkSet (d : Dev) : Dev :=
  if d.time.valid ∧ chanRuns d ∧ d.t % 400000000 = 0 then
    let (k, d1) := takeFree d
    { d1 with clasp := { d1.clasp with
      rtcSet := true, rtcSec := d1.t / 400000000 % 2 ^ 48, rtcFrac := 0, rtcT := d1.t,
      trim := ((Config.freeNat k % 4001 : Nat) : Int) - 2000 } }
  else d

def execRtcNetworkSet (t : Nat) (s : State) : Host.Outcome State Fault Refusal := lift t rtcNetworkSet s

end Sys2Proof.Machine
end

