-- ==== Sys2Proof/Machine/Supply.lean ====
section
/-!
DEFINITION. The hold-up supervisor: the gauge, the early warning, the save and the last gasp (R521 to R530), and the die
temperature (R580).
-/
namespace Sys2Proof.Machine

/-- The gauge in µJ for a store voltage of `v` counts of 5 mV (R521), rounded to the nearest as the worked example of file 20 does.
Log entry 114 (DEDUCED). -/
def gauge (d : Dev) (v : Nat) : Nat :=
  let x : Rat := (v : Rat) / 200
  let lo := prmQ d 0xF001 0 100
  if x ≤ lo then 0
  else (roundAway (prmQ d 0xF002 0 100 * (prm d 0xF000 0 : Rat) / 2 * (x * x - lo * lo))).toNat

/-- `HOLD_GAUGE_UPDATE`: the gauge, SAVE_OK, GASP_OK and EV_HOLDLOW (R521, R522). Log entry 114 (DEDUCED). -/
def gaugeUpdate (v : Nat) (d : Dev) : Dev :=
  if d.sys.up then
    let w := min v 4095
    let e := gauge d w
    let ok := decide (prm d 0xF003 0 ≤ e)
    let d1 := { d with hold := { d.hold with
      v := w, e := e, saveOk := ok, gaspOk := decide (prm d 0xF004 0 + prm d 0xF005 0 ≤ e) } }
    if d.hold.saveOk ∧ ¬ ok ∧ ¬ d.hold.warned then raiseI 120 0 d1 else d1
  else d

def execHoldGaugeUpdate (t v : Nat) (s : State) : Host.Outcome State Fault Refusal := lift t (gaugeUpdate v) s

/-! ### The early warning (R523 to R529) -/

/-- What the energy at the warning allows (R525): 2 full, 1 minimal, 0 none. Log entry 115 (DEDUCED). -/
def savePlan (d : Dev) : Nat := if prm d 0xF003 0 ≤ d.hold.e then 2 else if prm d 0xF004 0 ≤ d.hold.e then 1 else 0

/-- The payload of the gasp frame (R527). Log entry 115 (DEDUCED). -/
def gaspBytes (plan : Nat) (d : Dev) : List Byte :=
  le 2 (prm d 0xC030 0) ++ le 1 (stCode d.sys.st) ++ le 1 plan ++ le 4 (tMs d % 2 ^ 32)

/-- The gasp frame on port `p` (R527): the frames that wait are cancelled, Setter records included, and the gasp frame
is then the only one pending. Log entry 115 (DEDUCED). -/
def gaspPort (plan p : Nat) (d : Dev) : Dev :=
  if bit (prm d 0xF008 0) p ∧ prm d 0xB000 p = 1 then
    let d1 := (canPort d p).tx.foldl (fun y f => match f.ent with
      | some (k, _) => modEnt k (fun z => { z with txFail := true }) y
      | none => y) d
    modPort p (fun x => { x with tx := [{ idw := prm d 0xF009 0, data := gaspBytes plan d }], wait := [] }) d1
  else d

/-- The last gasp (R527); a standby sends none. Log entry 115 (DEDUCED). -/
def lastGasp (plan : Nat) (d : Dev) : Dev :=
  if d.hold.gaspOk ∧ ¬ d.sys.standby then
    let d1 := forAll 12 (gaspPort plan) { d with hold := { d.hold with gaspSent := true } }
    sendNotice (raiseI 121 0 d1)
  else { d with hold := { d.hold with gaspSent := false } }

/-- Save mode stops the PWM, ADC and LANE PLLs, the Facets, the fabric and the Casket, and resets the lanes (R524); that
is no loss of lock. A snapshot write in progress is abandoned (R526). Log entry 115 (DEDUCED). -/
def saveStop (d : Dev) : Dev :=
  let d1 := stopFacets (stopCarriers d)
  let d2 := forAll 8 (fun k e => modLane k (fun x => { x with link := false, aligned := false, prbsLock := false })
    (modEth k (fun x => { x with link := false }) e)) d1
  let writing := decide (d2.lkt.snapState = 1)
  { d2 with
    clk := { d2.clk with lock := d2.clk.lock % 4 }
    sys := { d2.sys with auto := .none }
    hold := { d2.hold with saveMode := true, snapAbandoned := writing }
    lkt := if writing then { d2.lkt with snapState := 0, retryDue := false, again := false, body := {} } else d2.lkt }

/-- The condition of R523 holds: PFAIL_N low for hold.pfail.filt, five samples of VHOLD below hold.v.warn, or a rail outside
its limits for 2 µs. Log entry 115 (DEDUCED). -/
def warnDue (d : Dev) (w : WarnSource) : Bool :=
  match w with
  | .pfail a => decide (a + 400 * prm d 0xF007 0 ≤ d.t)
  | .vhold vs => decide (5 ≤ vs.length) && vs.all (fun v => decide (v < 2 * prm d 0xF006 0))
  | .rail a => decide (a + 800 ≤ d.t)

/-- PFAIL_N gives the warning, or a rail does. -/
def byPfail (w : WarnSource) : Bool := match w with
  | .pfail _ => true
  | _ => false
def byRail (w : WarnSource) : Bool := match w with
  | .rail _ => true
  | _ => false

/-- `EARLY_WARNING`: the gates and both drives go off, the save is decided, the gasp is sent and save mode is entered.
Carat takes its closing boundary here (R318). Log entry 115 (DEDUCED). -/
def earlyWarning (cause : WarnSource) (d : Dev) : Dev :=
  if chanRuns d ∧ ¬ d.hold.warned ∧ warnDue d cause then
    let plan := savePlan d
    let d1 := raiseI 118 0 { d with hold := { d.hold with pfail := d.hold.pfail || byPfail cause, plan := plan } }
    let d2 := if byRail cause then raiseI 123 0 d1 else d1
    let d3 := if plan < 2 then raiseI 119 0 d2 else d2
    let d4 := gdOff (regate { d3 with pwm := { d3.pwm with devHold := true } })
    let d5 := caratStop (lastGasp plan d4)
    let d6 := saveStop { d5 with carat := { d5.carat with closed := prm d5 0x9000 0 = 1 } }
    { d6 with hold := { d6.hold with warned := true } }
  else d

def execEarlyWarning (t : Nat) (cause : WarnSource) (s : State) : Host.Outcome State Fault Refusal :=
  lift t (earlyWarning cause) s

/-- LAST_SAVE (R525, R526): `bursts` is the number of bursts that completed. Log entry 89 (DEDUCED). -/
def lastSaveOf (plan bursts : Nat) : Nat :=
  if plan = 2 then (if 3 ≤ bursts then 2 else 3) else if plan = 1 then (if 1 ≤ bursts then 1 else 3) else 0

/-- The save that follows the warning (R526): burst 1 the closing set of Carat, burst 2 the journal, of which `jlost`
records are lost where it is not written, burst 3 the newest 128 log entries. Log entry 89 (DEDUCED). -/
def saveBursts (bursts jlost : Nat) (d : Dev) : Dev × Nat :=
  let plan := d.hold.plan
  let b := if plan = 2 then bursts else if plan = 1 then min bursts 1 else 0
  let lost := if 2 ≤ b then 0 else min jlost d.lkt.journal.length
  let d1 := { d with lkt := { d.lkt with journal := d.lkt.journal.take (d.lkt.journal.length - lost) } }
  let d2 := if 1 ≤ b ∧ d1.carat.closed then caratSave d1 else { d1 with carat := { d1.carat with closed := false } }
  ({ d2 with hold := { d2.hold with lastSave := lastSaveOf plan b,
                                    savedLog := if 3 ≤ b then d2.ev.log.take 128 else [] } }, lost)

/-! ### Temperature (R580) -/

/-- The hottest reading. Log entry 116 (DEDUCED). -/
def hottest (ts : List Int) : Int := ts.foldl max (ts.headD 25)

/-- At 118 °C every leg leaves service. Log entry 116 (DEDUCED). -/
def allLegsOut (d : Dev) : Dev := forAll 48 (fun n e => legOut n false e) d

/-- `THERMAL_SAMPLE`: T_die, EV_THERM at its thresholds, and the legs at 118 °C. Log entry 116 (DEDUCED). -/
def thermal (ts : List Int) (d : Dev) : Dev :=
  if d.sys.up ∧ ts ≠ [] then
    let old := d.boot.tDie
    let new := hottest ts
    let d1 := { d with boot := { d.boot with tDie := new, temps := ts } }
    let d2 := if old < 105 ∧ 105 ≤ new then raiseI 122 0 { d1 with boot := { d1.boot with therm := 1 } } else d1
    let d3 := if old < 118 ∧ 118 ≤ new then raiseI 122 0 { d2 with boot := { d2.boot with therm := 2 } } else d2
    let d4 := if new < 100 ∧ d3.boot.therm ≠ 0 then raiseI 122 0 { d3 with boot := { d3.boot with therm := 0 } } else d3
    if 118 ≤ new then allLegsOut d4 else d4
  else d

def execThermalSample (t : Nat) (temps : List Int) (s : State) : Host.Outcome State Fault Refusal :=
  lift t (thermal temps) s

end Sys2Proof.Machine
end

