-- ==== Sys2Proof/Machine/Start.lean ====
section
/-!
DEFINITION. The Clasp, the loss of the fast domains and their start: supplies, wakes, resets, the choice of image and
snapshot, the journal and the entry into READY (R502 to R507, R524, R531, R532, R535 to R551, R563, R568).
-/
namespace Sys2Proof.Machine

/-- Change the Clasp. -/
def modClasp (f : Clasp → Clasp) (d : Dev) : Dev := { d with clasp := f d.clasp }

/-! ### The RTC and the parameters that the Clasp knows -/

/-- The RTC now, in 1/32,768 s (R504); in CLASP its trim acts, in 0.1 ppm. Log entry 113 (DEDUCED). -/
def rtcNow (trimmed : Bool) (d : Dev) : Nat :=
  let c := d.clasp
  let el : Rat := ((d.t - c.rtcT : Nat) : Rat) * 32768 / 400000000
  let k : Rat := if trimmed then 1 + (c.trim : Rat) / 10000000 else 1
  c.rtcSec * 32768 + c.rtcFrac + (el * k).floor.toNat

/-- The RTC takes its present reading as its new base. Log entry 113 (DEDUCED). -/
def rtcBase (trimmed : Bool) (d : Dev) : Dev :=
  let n := rtcNow trimmed d
  modClasp (fun c => { c with rtcSec := n / 32768 % 2 ^ 48, rtcFrac := n % 32768, rtcT := d.t }) d

/-- A parameter as the last snapshot holds it: what acts in CLASP (R519). -/
def snapPrm (d : Dev) (pid : Nat) : Nat := tget (factory pid 0) (newestSnap d).params (pkey pid 0)

/-- The Clasp runs alone: the fast domains are unpowered and none is being started. -/
def claspAlone (d : Dev) : Bool := d.sys.st = .clasp && !d.clasp.pwrEn && d.clasp.start.isNone

/-! ### Loss of the fast domains (R505, R506, R535) -/

/-- The last-state record (R506). Log entry 103 (DEDUCED). -/
def lastRecord (lost : Nat) (d : Dev) : Dev :=
  let n := rtcNow false d
  let cut := d.hold.snapAbandoned || decide (d.lkt.snapState = 1)
  modClasp (fun c => { c with
    lastState := stCode d.sys.st, lastCause := d.sys.cause,
    lastTrip := d.sys.st = .trip || d.sys.tripCauses ≠ [] || blockLatched d,
    lossSec := n / 32768 % 2 ^ 48, lossFrac := n % 32768, snapLost := cut, jlost := lost, cold := false,
    rtcSet := false, rtcSec := n / 32768 % 2 ^ 48, rtcFrac := n % 32768, rtcT := d.t, start := none }) d

/-- The Locket after a cut: a write in progress is abandoned and the header of its slot stays cleared (R526, R545).
Log entry 103 (DEDUCED). -/
def cutLocket (l : Locket) : Locket := { l with snapState := 0, again := false, retryDue := false, retrying := false, body := {} }

/-- What is left when the fast domains lose their supply, or are reset (`warm`): the Locket, the Clasp and, at a warm
reset, the Casket in self-refresh (R535). The device reads CLASP until READY (R18). -/
def fastOff (warm : Bool) (cause : Nat) (d : Dev) : Dev :=
  { t := d.t, free := d.free
    sys := { st := .clasp, prev := d.sys.st, cause := cause, seq := (d.sys.seq + 1) % 256 }
    lkt := cutLocket d.lkt
    clasp := d.clasp
    sec := { warden := d.sec.warden, fwAct := d.sec.fwAct, running := d.sec.running, fw0 := d.sec.fw0, fw1 := d.sec.fw1,
             audit := d.sec.audit }
    carat := { saved := d.carat.saved, closed := d.carat.closed }
    hold := { lastSave := d.hold.lastSave, gaspSent := d.hold.gaspSent, savedLog := d.hold.savedLog }
    cask := if warm then { selfref := true, size := d.cask.size, recs := d.cask.recs, nextId := d.cask.nextId,
                           archive := d.cask.archive } else {}
    gd := if warm then (gdDemand false d).gd else {}
    boot := { casketKept := warm && d.boot.casketKept, tDie := d.boot.tDie, temps := d.boot.temps } }

/-- EV_STATE of the transition to CLASP (R21): what it leaves behind is what it sends, since the log is lost with the
fast domains. Log entry 103 (DEDUCED). -/
def claspEvent (c : Nat) (d : Dev) : Dev :=
  raise 0 1 [BitVec.ofNat 8 (stCode d.sys.st), BitVec.ofNat 8 c, BitVec.ofNat 8 (d.sys.seq + 1), 0] d

/-- The device enters CLASP with cause `c`: the record is written, the fast domains are isolated and PWR_EN goes low
(R24, R524). Log entry 103 (DEDUCED). -/
def enterClasp (c lost : Nat) (d : Dev) : Dev :=
  modClasp (fun x => { x with pwrEn := false }) (fastOff false c (lastRecord lost (claspEvent c d)))

/-- `REQ_CLASP`. No burst runs, so Carat has no closing save. Log entry 103 (DEDUCED). -/
def reqClaspGo (d : Dev) : Dev :=
  reqClasp (fun e => enterClasp 0x05 0 { e with carat := { e.carat with closed := false }, hold := { e.hold with savedLog := [] } }) d

def execReqClasp (t cls : Nat) (s : State) : Host.Outcome State Fault Refusal :=
  lift t (request cls 1 false reqClaspGo) s

/-- `SAVE_COMPLETE`: the bursts end, and the device enters CLASP with cause 0x40 (R524, R526, R528).
Log entry 115 (DEDUCED). -/
def saveComplete (bursts jlost : Nat) (d : Dev) : Dev :=
  if d.hold.warned then
    let (d1, lost) := saveBursts bursts jlost d
    enterClasp 0x40 lost d1
  else d

def execSaveComplete (t bursts jlost : Nat) (s : State) : Host.Outcome State Fault Refusal :=
  lift t (saveComplete bursts jlost) s

/-! ### The Clasp's own supply (R24, R502, R531, R532) -/

/-- The Clasp starts from OFF: nothing of its own survived, and the RTC starts from 0 (R506, R532).
Log entry 102 (DEDUCED). -/
def claspStart (vbat vhold : Bool) (d : Dev) : Dev :=
  { d with
    sys := { st := .clasp, prev := .off, cause := 0x01 }
    clasp := { vbatOk := vbat, vholdOk := vhold, src := vhold, osc32Ok := true, cold := true, rtcT := d.t } }

/-- `POWER_APPLIED`: with VBAT the Clasp starts at once; without it the cold-start oscillator charges its reservoir from
VHOLD first. Log entry 102 (DEDUCED). -/
def powerApplied (vbat vholdCold : Bool) (d : Dev) : Dev :=
  if d.sys.st ≠ .off then d
  else if vbat then claspStart true false d
  else modClasp (fun c => { c with charging := vholdCold }) d

def execPowerApplied (t : Nat) (vbat vholdCold : Bool) (s : State) : Host.Outcome State Fault Refusal :=
  lift t (powerApplied vbat vholdCold) s

/-- `COLD_START_COMPLETE`: the regular boost runs from VHOLD (R531). Log entry 102 (DEDUCED). -/
def coldStart (d : Dev) : Dev := if d.sys.st = .off ∧ d.clasp.charging then claspStart false true d else d

def execColdStartComplete (t : Nat) (s : State) : Host.Outcome State Fault Refusal := lift t coldStart s

/-- `CLASP_SUPPLY_LOST`: OFF, whether or not a start is under way (R24). The Locket keeps its content.
Log entry 102 (DEDUCED). -/
def claspLost (d : Dev) : Dev :=
  if d.sys.st = .clasp then
    { t := d.t, free := d.free, lkt := d.lkt, sec := d.sec, carat := d.carat, hold := { savedLog := d.hold.savedLog } }
  else d

def execClaspSupplyLost (t : Nat) (s : State) : Host.Outcome State Fault Refusal := lift t claspLost s

/-- `CLASP_SUPPLY_CHANGE`: the source changes without interruption (R502). Log entry 102 (DEDUCED). -/
def claspSupply (vbatOk vholdOk : Bool) (d : Dev) : Dev :=
  if d.sys.st = .off then d else modClasp (fun c => { c with vbatOk := vbatOk, vholdOk := vholdOk, src := vholdOk }) d

def execClaspSupplyChange (t : Nat) (vbatOk vholdOk : Bool) (s : State) : Host.Outcome State Fault Refusal :=
  lift t (claspSupply vbatOk vholdOk) s

/-! ### Waking the fast domains (R504, R507) -/

/-- PWR_EN goes high for the wake source `src`. Log entry 102 (DEDUCED). -/
def callSupplies (src : Nat) (d : Dev) : Dev := modClasp (fun c => { c with pwrEn := true, pwrT := d.t, wakeSrc := src }) d

/-- `WAKE_INPUT`: the WAKE ball at a level. In CLASP an enabled wake calls the supplies; a DOZE that was entered from READY
ends in READY with cause 0x02 (R24). Log entry 102 (DEDUCED). -/
def wakeInput (level : Bool) (d : Dev) : Dev :=
  if claspAlone d then
    (if bit (snapPrm d 0xF102) 0 ∧ level = decide (snapPrm d 0xF105 = 0) then callSupplies 1 d else d)
  else if d.sys.st = .doze ∧ d.sys.dozeFrom = .ready ∧ level = decide (prm d 0xF105 0 = 0) ∧ ¬ d.hold.warned then
    enterReady 0x02 (wakeAll d)
  else d

def execWakeInput (t : Nat) (level : Bool) (s : State) : Host.Outcome State Fault Refusal := lift t (wakeInput level) s

/-- `RTC_ALARM`: the second of clasp.rtc.alarm; in any other state it is discarded. -/
def rtcAlarm (d : Dev) : Dev :=
  let a := snapPrm d 0xF100
  if claspAlone d ∧ a ≠ 0 ∧ rtcNow true d / 32768 = a ∧ bit (snapPrm d 0xF102) 1 then callSupplies 2 d else d

def execRtcAlarm (t : Nat) (s : State) : Host.Outcome State Fault Refusal := lift t rtcAlarm s

/-- `PWR_WAIT_TIMEOUT`: the supplies are not good within clasp.pwr.wait ms. -/
def pwrTimeout (d : Dev) : Dev :=
  if d.sys.st = .clasp ∧ d.clasp.pwrEn ∧ d.clasp.start.isNone ∧ ¬ d.clasp.rstLow ∧
      d.clasp.pwrT + ticksPerMs * snapPrm d 0xF103 ≤ d.t then
    modClasp (fun c => { c with pwrEn := false, pwrFail := true }) d
  else d

def execPwrWaitTimeout (t : Nat) (s : State) : Host.Outcome State Fault Refusal := lift t pwrTimeout s

/-! ### The image (R542 to R544) -/

/-- The slot that carries an activation mark. Log entry 106 (DEDUCED). -/
def markedSlot (d : Dev) : Option Nat := (List.range 2).find? (fun i => (fwSlot d i).mark)

/-- The slots in the order in which the boot ROM tries them. Log entries 4 (DEDUCED), 106 (DEDUCED). -/
def imageOrder (d : Dev) : List Nat :=
  (match markedSlot d with
   | some m => if (fwSlot d m).tries < 2 then [m] else []
   | none => []) ++ [d.sec.fwAct, otherSlot d]

/-- The slot that the boot ROM starts: the first that is verified; none is recovery. Log entry 106 (DEDUCED). -/
def imageChoice (d : Dev) : Option Nat := (imageOrder d).find? (fun i => (fwSlot d i).st = 2)

/-- A slot other than the first tried is started, or a marked slot is passed over. Log entry 106 (DEDUCED). -/
def fallback (d : Dev) : Bool :=
  match imageChoice d with
  | none => false
  | some i =>
    let first := match markedSlot d with
      | some m => m
      | none => d.sec.fwAct
    i ≠ first

/-- The try count of the marked slot. Log entry 106 (DEDUCED). -/
def wdTry (d : Dev) : Nat :=
  match markedSlot d with
  | some m => min 2 (fwSlot d m).tries
  | none => 0

/-- A start begins at t = 0 (R540): the boot ROM chooses the image and counts a try of a marked slot; what BOOT_STAT
tells from t = 2.4 ms on is then known but for SNAP and BOOT_MS (R553).
Log entries 13 (DESIGN CHOICE), 106 (DEDUCED). -/
def beginStart (kind cause : Nat) (hostsel : Bool) (d00 : Dev) : Dev :=
  let d := rtcBase true d00
  let fb := fallback d
  let d1 := match imageChoice d with
    | some i => modFw i (fun x => if x.mark then { x with tries := x.tries + 1 } else x)
        { d with sec := { d.sec with running := i } }
    | none => d
  let rec_ := (imageChoice d).isNone
  let stat := fields [(0, kind), (3, if rec_ then 0 else d1.sec.running), (4, b01 fb), (5, b01 rec_),
    (8, b01 d1.clasp.snapLost), (9, b01 (d1.clasp.jlost ≠ 0)), (10, b01 d1.boot.casketKept), (11, b01 (!d1.clasp.cold)),
    (12, wdTry d1)]
  { d1 with
    clasp := { d1.clasp with start := some (kind, cause, d1.t), pwrEn := true, wakeSrc := if 2 ≤ kind then 3 else d1.clasp.wakeSrc }
    boot := { d1.boot with stat := stat, recovery := rec_, hostsel := hostsel, jlost := min 65535 d1.clasp.jlost } }

/-- `MAIN_SUPPLY_GOOD`: after a wake, or by itself where clasp.wake.en has bit 2 (R507, R563).
Log entry 102 (DEDUCED). -/
def supplyGood (hostsel : Bool) (d : Dev) : Dev :=
  if d.sys.st = .clasp ∧ d.clasp.start.isNone ∧ ¬ d.clasp.rstLow ∧
      ((d.clasp.pwrEn ∧ d.t ≤ d.clasp.pwrT + ticksPerMs * snapPrm d 0xF103) ∨ bit (snapPrm d 0xF102) 2) then
    let src := if d.clasp.pwrEn then d.clasp.wakeSrc else 0
    let kind := if d.clasp.cold then 1 else if src = 3 then 2 else 0
    let cause := if kind = 1 then 4 else match src with
      | 0 => 4
      | 1 => 2
      | 2 => 3
      | _ => 6
    beginStart kind cause hostsel (modClasp (fun c => { c with wakeSrc := src }) d)
  else d

def execMainSupplyGood (t : Nat) (hostsel : Bool) (s : State) : Host.Outcome State Fault Refusal :=
  lift t (supplyGood hostsel) s

/-! ### Resets (R535 to R539) and TEST_EN (R568) -/

/-- The fast domains run, or run a start. Log entry 104 (DEDUCED). -/
def fastOn (d : Dev) : Bool := d.sys.up || d.clasp.start.isSome

/-- A warm reset takes the fast domains down: the last-state record and a demand (R506, R539).
Log entry 103 (DEDUCED). -/
def warmDown (d : Dev) : Dev :=
  fastOff true 0x06 (lastRecord 0 { d with carat := { d.carat with closed := false }, hold := { d.hold with savedLog := [] } })

/-- `RST_N_ASSERT`: RST_N, low since tick `since`, is recognised after 0.5 µs (R536). Log entry 104 (DEDUCED). -/
def rstAssert (since : Nat) (d : Dev) : Dev :=
  if d.sys.st = .off ∨ d.t < since + 200 then d
  else modClasp (fun c => { c with rstLow := true }) (if fastOn d then warmDown d else d)

def execRstNAssert (t since : Nat) (s : State) : Host.Outcome State Fault Refusal := lift t (rstAssert since) s

/-- `RST_N_RELEASE`: a start of KIND 2; from CLASP a reset first calls the supplies (R507). Log entry 104 (DEDUCED). -/
def rstRelease (hostsel : Bool) (d : Dev) : Dev :=
  if d.clasp.rstLow then
    let d1 := modClasp (fun c => { c with rstLow := false }) { d with sys := { d.sys with testStop := false } }
    if d1.clasp.pwrEn then beginStart 2 6 hostsel d1 else callSupplies 3 d1
  else d

def execRstNRelease (t : Nat) (hostsel : Bool) (s : State) : Host.Outcome State Fault Refusal :=
  lift t (rstRelease hostsel) s

/-- `SVP_WATCHDOG_EXPIRY`: a warm reset of KIND 3 (R537). Log entry 104 (DEDUCED). -/
def watchdog (hostsel : Bool) (d : Dev) : Dev :=
  if fastOn d ∧ ¬ d.sys.testStop then beginStart 3 6 hostsel (warmDown d) else d

def execSvpWatchdogExpiry (t : Nat) (hostsel : Bool) (s : State) : Host.Outcome State Fault Refusal :=
  lift t (watchdog hostsel) s

/-- `LOCKSTEP_MISMATCH`: the gates go off, and the device enters TRIP with cause 0x28 (R538); from DOZE the fast domains
wake for it (R24). Log entry 104 (DEDUCED). -/
def lockstepFail (d : Dev) : Dev :=
  if chanRuns d then
    let d1 := if d.sys.st = .doze then wakeAll d else d
    let d2 := regate { d1 with pwm := { d1.pwm with devHold := true },
                               clk := { d1.clk with lockstep := some (d1.clk.lockstep.getD d1.t) } }
    enterTrip 0x28 (if bit (gdPrm d2 0xE101) 8 then gdDemand false d2 else d2)
  else d

def execLockstepMismatch (t : Nat) (s : State) : Host.Outcome State Fault Refusal := lift t lockstepFail s

/-- `LOCKSTEP_RESET`: 1 ms after the mismatch, KIND 4. Log entry 104 (DEDUCED). -/
def lockstepReset (hostsel : Bool) (d : Dev) : Dev :=
  match d.clk.lockstep with
  | some a => if a + 400000 ≤ d.t ∧ d.sys.up then beginStart 4 6 hostsel (warmDown d) else d
  | none => d

def execLockstepReset (t : Nat) (hostsel : Bool) (s : State) : Host.Outcome State Fault Refusal :=
  lift t (lockstepReset hostsel) s

/-- `TEST_EN_ASSERT`: every output at high impedance, and the SVP stopped until a reset on RST_N or a new start.
Log entry 105 (DEDUCED). -/
def testEn (d : Dev) : Dev :=
  if d.sys.st = .off then d else regate { d with sys := { d.sys with testStop := true } }

def execTestEnAssert (t : Nat) (s : State) : Host.Outcome State Fault Refusal := lift t testEn s

/-! ### What a start restores (R545 to R551) -/

/-- The verdict on a snapshot slot (R546); `seen` is what the read of the slot found: 3 or 5, or 0.
Log entry 107 (DEDUCED). -/
def verdict (d : Dev) (x : Snapshot) (seen : Nat) : Nat :=
  if ¬ x.written then 1 else if ¬ x.header then 2 else if seen = 5 then 5 else if seen = 3 then 3
  else if fwRelease d < x.format then 4 else 0

/-- `a` is later than `b`, or the same, modulo 2^32 (R547). Log entry 107 (DEDUCED). -/
def seqGe (a b : Nat) : Bool := (a + 2 ^ 32 - b % 2 ^ 32) % 2 ^ 32 < 2 ^ 31

/-- The slot that is restored (R547): false for A, true for B; none where neither is valid. Log entry 107 (DEDUCED). -/
def snapChoice (d : Dev) (va vb : Nat) : Option Bool :=
  if va = 0 ∧ vb = 0 then some (!seqGe d.lkt.slotA.seq d.lkt.slotB.seq)
  else if va = 0 then some false else if vb = 0 then some true else none

/-- BOOT_STAT.SNAP (R547). Log entry 107 (DEDUCED). -/
def snapOutcome (va vb : Nat) : Nat :=
  if va = 0 ∧ vb = 0 then 0 else if va = 0 ∨ vb = 0 then 1 else if va = 1 ∧ vb = 1 then 2 else 3

/-- The snapshot, or factory values, applied (R346, R547): stored point values come back with VALID = 0.
Log entry 107 (DEDUCED). -/
def restoreSnap (va vb : Nat) (d : Dev) : Dev :=
  match snapChoice d va vb with
  | some b =>
    let x := if b then d.lkt.slotB else d.lkt.slotA
    { d with
      prm := { active := x.params }
      fil := { d.fil with bank0 := x.bank, bank1 := x.bank }
      pts := x.points.map (fun kv => (kv.1, { kv.2 with value := 0, tNs := 0, valid := false, stale := false, seq := 0 }))
      lkt := { d.lkt with newestB := b, snapSeq := x.seq } }
  | none => { d with sys := { d.sys with factory := true } }

/-- One journal record applied (R548); `snap` is the number of the restored snapshot, none on factory values.
Log entry 107 (DEDUCED). -/
def applyRec (snap : Option Nat) (r : JRec) (d : Dev) : Dev :=
  match r with
  | .always k v =>
    let d1 := setPrm (k / 65536) (k % 65536) v d
    if k / 65536 = 0x9008 then { d1 with carat := { d1.carat with phDone := setBit d1.carat.phDone (k % 65536) } }
    else if k / 65536 = 0x1108 then
      { d1 with carat := { d1.carat with phDone := (List.range 3).foldl (fun m x =>
          if prm d1 0x9002 x = k % 65536 / 4 then clrBit m x else m) d1.carat.phDone } }
    else d1
  | .immediate k v sq =>
    (match snap with
     | some n => if seqGe sq n then setPrm (k / 65536) (k % 65536) v d else d
     | none => d)
  | .stress n h => modLeg n (fun x => { x with stress := h }) d
  | .setSeq n => setPrm 0x8130 0 n { d with setr := { d.setr with seq := n, last := { d.setr.last with seq := n } } }
  | .carat c => { d with carat := { d.carat with regs := c.regs, bases := c.bases, saved := c } }
  | .base k b => { d with carat := { d.carat with bases := tput 0 k b d.carat.bases } }
  | .audit e => { d with sec := { d.sec with audit := (e :: d.sec.audit).take 64 } }

/-- The journal applied in the order in which it was written. Log entry 107 (DEDUCED). -/
def applyJournal (d : Dev) : Dev :=
  let snap := if d.sys.factory then none else some d.lkt.snapSeq
  d.lkt.journal.foldl (fun e r => applyRec snap r e) { d with sec := { d.sec with audit := [] } }

/-- Tier sizes that leave tier 0 below 1 GiB give way to the factory sizes (R340). Log entry 108 (DEDUCED). -/
def tiersBad (d : Dev) : Bool :=
  d.cask.size ≠ 0 && decide (tierSpace d < gib + tierSize d 1 + tierSize d 2)
/-- Log entry 108 (DEDUCED). -/
def fixTiers (d : Dev) : Dev :=
  if tiersBad d then
    { setPrm 0x8030 0 8 (setPrm 0x8030 1 8 d) with cask := { d.cask with cfg := true } }
  else d

/-- The time of the last loss of the fast domains in ms of the RTC. Log entry 89 (DEDUCED). -/
def lossMs (d : Dev) : Rat := ((d.clasp.lossSec * 1000 : Nat) : Rat) + (d.clasp.lossFrac : Rat) * 1000 / 32768

/-- Energy in Wh of the flow carat.p.bound over `ms` (R319). Log entry 89 (DEDUCED). -/
def boundWh (d : Dev) (ms : Rat) : Rat := maxR 0 ((prm d 0x900C 0 : Rat) * ms / 3600)

/-- Carat at a start (R307, R319): the bases come from the retention SRAM, or else from the journal, and the last complete set is restored; after no closing save the residual is added where it is
good, and the bound on what is lost is reported. Log entry 89 (DEDUCED). -/
def caratRestore (residualOk : Bool) (d : Dev) : Dev :=
  let closed := d.carat.closed
  let bs := if ¬ d.clasp.cold ∧ d.clasp.bases ≠ [] then d.clasp.bases else d.carat.bases
  let d1 := modClasp (fun c => { c with bases := bs }) { d with carat := { d.carat with closed := false, bases := bs } }
  if closed ∨ prm d 0x9000 0 = 0 then d1
  else
    let good := match d.clasp.residual with
      | some r => if residualOk && !d.clasp.cold then some r else none
      | none => none
    match good with
    | some r =>
      let regs := r.regs.foldl (fun m e => tmod 0 e.1 (fun x => (x + e.2) % (2 : Int) ^ 96) m) d1.carat.regs
      let wh : Rat := ((tget 0 r.regs 0 + tget 0 r.regs 1 : Int) : Rat) / 65536 / 4294967296
      let b := boundWh d (lossMs d - (r.tMs : Rat))
      { d1 with carat := { d1.carat with regs := regs, restored := wh, bound := b, loss := decide (b ≠ 0) } }
    | none =>
      if d.clasp.cold then
        let (k, d2) := takeFree d1
        { d2 with carat := { d2.carat with bound := absR (Config.freeRat k), unbounded := true, loss := true } }
      else
        let b := boundWh d (lossMs d - (d1.carat.saved.tMs : Rat))
        { d1 with carat := { d1.carat with bound := b, loss := decide (b ≠ 0) } }

/-- The loops lock (R507, R510); after a start from OFF each full search stores its result, whose band is not stated.
Log entry 109 (DEDUCED). -/
def lockLoops (cold : Bool) (d : Dev) : Dev :=
  let need := loopsNeeded d
  let (k, d1) := takeFree d
  let d2 := { d1 with clk := { d1.clk with refOk := true, lock := need, phase := Config.freeNat k % 10,
                                           bandTemp := 10 * d1.boot.tDie } }
  if cold then forAll 6 (fun l e => if bit need l then
    (let (b, e1) := takeFree e
     storeBand l (Config.freeNat b) (10 * e1.boot.tDie) e1) else e) d2
  else d2

/-- The scans of a start (R48, R540): every enabled input starts as after a resumption; the scan timers and the dwells of
the rotation run from the next epoch tick. Log entry 109 (DEDUCED). -/
def startScans (d : Dev) : Dev :=
  let e := (d.t + 399999) / 400000 * 400000
  let d1 := forAll 8 (fun k x => { x with acq := { x.acq with timers := tput 0 k e x.acq.timers } }) (resumeScans d)
  { d1 with acq := { d1.acq with rotBase := e } }

/-- The cascades that the restored configuration enables start as at a commit that enables them (R74).
Log entry 109 (DEDUCED). -/
def startCas (d : Dev) : Dev := forAll 128 (fun c e => if casOn e c then casEnable c e else e) d

/-- The hardware under its configuration (R540): loops, scans, cascades, windows, CAN and 1588 ports, timed outputs, the
Casket. Log entries 101 (DEDUCED), 109 (DEDUCED), 132 (DEDUCED). -/
def bootHardware (obs : BootObs) (d : Dev) : Dev :=
  let d1 := lockLoops d.clasp.cold d
  let d2 := { d1 with
    cask := { d1.cask with up := obs.casketOk, selfref := false, scrubT := d1.t,
                           size := if obs.casketOk then 1 + Config.casketFit % 2 else d1.cask.size }
    boot := { d1.boot with casketKept := true }
    can := { d1.can with startT := d1.t }
    charm := { d1.charm with timeLostAt := some d1.t }
    carat := { d1.carat with resT := d1.t }
    setr := { d1.setr with rotT := d1.t, stressT := d1.t }
    gd := { estop := obs.estopLow, offT := d1.gd.offT } }
  forAll 8 (pulsePlan true) (forAll 2 ptpInit (canOn (armAll (buildOwned (startCas (startScans (ownUnit (fixTiers d2))))))))

/-- The events of an entry into READY after a start, in their order: the saved log, EV_RESET, EV_STATE, EV_FACTORY,
EV_MBXERR (R540, R541, R551). Log entry 106 (DEDUCED). -/
def readyEvents (snap cause : Nat) (d : Dev) : Dev :=
  let n := d.hold.savedLog.length
  let log := (d.hold.savedLog.zipIdx).map (fun (e, i) => { e with seq := n - i })
  let d1 := { d with ev := { seq := n, log := log }, hold := { d.hold with savedLog := [] } }
  let stat := d1.boot.stat
  let d2 := raise 6 (stat % 65536) (le 2 (stat / 65536) ++ le 1 d1.boot.why ++ le 2 d1.boot.jlost) d1
  let d3 := raise 0 3 [1, BitVec.ofNat 8 cause, 1, 0] d2
  let d4 := if d3.sys.factory then raise 2 0xFFFF [BitVec.ofNat 8 snap] d3 else d3
  if d4.mbx.doorBusy ≠ 0 ∨ d4.mbx.udpDrop ≠ 0 then
    mbxErr 0xFFFF 0 (4 * b01 (d4.mbx.doorBusy ≠ 0) + 8 * b01 (d4.mbx.udpDrop ≠ 0)) d4
  else d4

/-- What else a start reports: a fallback, a marked image that has reached READY and becomes active (R542, R543), lost
energy, tier sizes, a store that is down, and Facets that fail their self-calibration (R52, R319, R340, R344).
Log entry 106 (DEDUCED). -/
def startReports (fb : Bool) (obs : BootObs) (d : Dev) : Dev :=
  let r := d.sec.running
  let d1 := if fb then raiseI 110 (1 - r) d else d
  let d2 := if (fwSlot d1 r).mark ∧ ¬ d1.boot.recovery then
      fwEvent 0xFF (modFw r (fun x => { x with mark := false, tries := 0 }) { d1 with sec := { d1.sec with fwAct := r } })
    else d1
  let d3 := if d2.carat.loss then raiseI 78 0 d2 else d2
  let d4 := if d3.cask.cfg then raiseI 82 0 d3 else d3
  let d5 := if obs.casketOk then d4 else raiseI 84 0 d4
  forAll 13 (fun f e => if bit obs.facetFail f then facetFault f e else e) d5

/-- `BOOT_COMPLETE`: the start ends in READY with SEQ 1 (R540). In recovery the boot ROM reports READY with cause 0x06 and
FACTORY = 0 (R544). Log entries 13 (DESIGN CHOICE), 106 (DEDUCED). -/
def bootComplete (obs : BootObs) (d : Dev) : Dev :=
  match d.clasp.start with
  | none => d
  | some (_, cause0, t0) =>
    if d.sys.up ∨ d.sys.testStop ∨ d.clasp.rstLow then d
    else
      let va := verdict d d.lkt.slotA obs.locketA
      let vb := verdict d d.lkt.slotB obs.locketB
      let snap := snapOutcome va vb
      let fb := bit d.boot.stat 4
      let cause := if d.boot.recovery then 6 else cause0
      let d1 := applyJournal (restoreSnap va vb d)
      let d2 := bootHardware obs (caratRestore obs.residualOk d1)
      let stat := d2.boot.stat + 64 * snap + 65536 * min 255 ((d.t - t0) / ticksPerMs)
      let d3 := { d2 with
        sys := { st := .ready, prev := .clasp, cause := cause, seq := 1, up := true,
                 factory := d2.sys.factory && !d2.boot.recovery }
        boot := { d2.boot with stat := stat, why := va + 16 * vb }
        mbx := { doorBusy := d.mbx.doorBusy, udpDrop := d.mbx.udpDrop, hostsel := d.boot.hostsel }
        clasp := { d2.clasp with start := none }
        carat := { d2.carat with stopT := some t0 } }
      let d4 := startReports fb obs (readyEvents snap cause (caratResume d3))
      if d4.gd.estop then enterTrip 0x24 (raiseI 113 0 d4) else d4

/-- `BOOT_COMPLETE`: the host window opens with its slots and completion queue at their reset values (R357, R361).
Log entry 147 (DESIGN CHOICE). -/
def execBootComplete (t : Nat) (obs : BootObs) (s : State) : Host.Outcome State Fault Refusal :=
  let d := { s.dev with t := t }
  let open_ := d.clasp.start.isSome && !(d.sys.up || d.sys.testStop || d.clasp.rstLow)
  .next { s with hostMem := if open_ then [] else s.hostMem, dev := bootComplete obs d }

end Sys2Proof.Machine
end

