-- ==== Sys2Proof/Machine/ParamCmds.lean ====
section
/-!
DEFINITION. Reading and writing parameters by command: PGET, PSET with its immediate-acting values, the staging of
changes and its discard, and host points (R22, R87, R90, R99, R360, R364, R374 to R379, R386, R395).
-/
namespace Sys2Proof.Machine

/-- DETAIL of a status that names an instance: PID in [15:0], index in [31:16] (R362). -/
def pdet (pid i : Nat) : Nat := pid + 65536 * (i % 65536)

/-! ### PGET -/

/-- The value that a PGET returns for an instance: the staged value with SHADOW, the inactive bank's for a banked one
(R87, R379). -/
def pgetVal (d : Dev) (shadow : Bool) (x : Desc) (i : Nat) : Nat :=
  if shadow then
    if x.kind = 1 then stagedVal d x.pid i
    else if x.kind = 4 then bankGet (otherBank d) x.pid i
    else prmRead d x.pid i
  else prmRead d x.pid i

/-- How many of `n` values of `vs` bytes one response holds (R364). Log entry 21 (DEDUCED). -/
def pgetCount (vs n : Nat) : Nat := min n (492 / vs)

/-- PGET (R364, R375): whole values from FIRST on, as many as fit; what a read clears is cleared (R353).
Log entry 21 (DEDUCED). -/
def pgetGo (shadow : Bool) (c : Cmd) (d : Dev) : Dev :=
  let pid := field c.body 1 0
  let first := field c.body 3 2
  let n := field c.body 5 4
  if bit (field c.body 6 6) 0 ≠ shadow then d
  else
    match descOf pid with
    | none => finish c 9 pid [] d
    | some x =>
      if x.n < first + n then finish c 8 (pdet pid (max first x.n)) [] d
      else
        let is_ := (List.range (pgetCount x.vsize n)).map (fun k => first + k)
        let resp := le 2 x.vsize ++ le 2 is_.length ++ is_.flatMap (fun i => le x.vsize (pgetVal d shadow x i))
        is_.foldl (fun e i => prmTouch pid i e) (finish c 0 0 resp d)

/-- `PGET`. -/
def execPget (t slot : Nat) (s : State) : Host.Outcome State Fault Refusal := liftCmd t slot 0x01 (pgetGo false) s

/-- `PGET_SHADOW`. -/
def execPgetShadow (t slot : Nat) (s : State) : Host.Outcome State Fault Refusal := liftCmd t slot 0x01 (pgetGo true) s

/-! ### Immediate-acting writes with a row of their own -/

/-- Cascade whose parameter an instance of area 0x2 is, if any. -/
def casOfPrm (pid i : Nat) : Option Nat :=
  if pid = 0x2012 then some (i / 4)
  else if 0x2010 ≤ pid ∧ pid ≤ 0x201D then some i
  else if 0x2100 ≤ pid ∧ pid ≤ 0x2102 then some (i / 16)
  else if pid = 0x2103 then some i
  else if 0x2200 ≤ pid ∧ pid ≤ 0x2207 then some i
  else none

/-- Recorder unit whose parameter an instance of 0xA0xx is. -/
def unitOfPrm (pid i : Nat) : Nat :=
  match descOf pid with
  | some x => i / (x.n / 4)
  | none => 4

/-- The device owns the instance, so a PSET of it is READONLY (R174, R192, R256, R291, R324). -/
def prmOwned (d : Dev) (pid i : Nat) : Bool :=
  if pid / 4096 = 2 then
    match casOfPrm pid i with
    | some c =>
      casOwned d c || (0x2100 ≤ pid && pid ≤ 0x2102 && decide (prm d 0x5042 0 = 1) && (acLoops d).contains c)
    | none => false
  else if 0xA000 ≤ pid ∧ pid < 0xA100 then loupeOwned d (unitOfPrm pid i)
  else false

/-- `SP_FIXED_WRITE`: a write of cas[c].sp.fixed, which the next evaluation that reads it uses; it is kept (R99, R389). -/
def spFixed (c : Nat) (v : Int) (d : Dev) : Dev :=
  if 128 ≤ c ∨ v < -8388608 ∨ 8388607 < v then answer 8 (pdet 0x2202 c) d
  else if casOwned d c then answer 0x0A (pdet 0x2202 c) d
  else answer 0 0 (keepImm 0x2202 c (ofInt 32 v) d)

def execSpFixedWrite (t cls c : Nat) (v : Int) (s : State) : Host.Outcome State Fault Refusal :=
  lift t (immediate cls 1 (spFixed c v)) s

/-- A running COMMIT names a group of the mask (R360, R386). -/
def commitNames (d : Dev) (mask : Nat) : Bool :=
  match d.commit with
  | some j => j.groups &&& mask ≠ 0
  | none => false

/-- `STAGE_DISCARD`: the staged values of the groups in the mask are their active values again (R386). -/
def discard (mask : Nat) (d : Dev) : Dev :=
  if 2 ^ 32 ≤ mask then answer 8 0x0031 d
  else if commitNames d mask then answer 0x0C 3 d
  else
    let keep := d.prm.staged.filter (fun e =>
      match groupOf d (e.1 / 65536) (e.1 % 65536) with
      | some g => !bit mask g
      | none => true)
    answer 0 0 { d with prm := { d.prm with
      staged := keep, declStaged := if bit mask 0 then [] else d.prm.declStaged } }

def execStageDiscard (t cls mask : Nat) (s : State) : Host.Outcome State Fault Refusal :=
  lift t (immediate cls 2 (discard mask)) s

/-- `HOST_POINT_WRITE`: sys.pt.val[k] writes the point sel + k at once, if it is a declared host point and no byte beyond
its TYPE is set (R395). -/
def hostPoint (k v : Nat) (d : Dev) : Dev :=
  let p := d.prm.ptSel + k
  let ty := declOf d p
  if 65536 ≤ k ∨ ty = 0 ∨ 2 ^ (8 * typeSize ty) ≤ v then answer 8 (pdet 0x0051 k) d
  else answer 0 0 (rackFeed (putPoint p ty v d))

def execHostPointWrite (t cls k v : Nat) (s : State) : Host.Outcome State Fault Refusal :=
  lift t (immediate cls 1 (hostPoint k v)) s

/-- A write of sys.pt.sel (R396). -/
def selWritePt (v : Nat) (d : Dev) : Dev :=
  if v < 0x100000 ∨ 0x7FFFFF < v then answer 8 0x0050 d else answer 0 0 { d with prm := { d.prm with ptSel := v } }

/-- A state request by its R19 code (R22); a code that names no state is out of range. -/
def stateReq (cls v : Nat) (d : Dev) : Dev :=
  match v with
  | 1 => request cls 1 false reqClaspGo d
  | 2 => request cls 1 false reqDoze d
  | 3 => request cls 1 true reqReady d
  | 4 => request cls 1 false reqSync d
  | 5 => request cls 1 false reqRun d
  | 7 => request cls 1 false reqForm d
  | 9 => request cls 2 false reqService d
  | _ => if v < 10 then request cls 1 false (refuseReq 0x05) d else answer 8 0x0010 d

/-- The immediate-acting write of value `v` to instance `i` of parameter `pid`, as its own row has it; the session class
has been checked (R359). Log entry 18 (DEDUCED). -/
def immediateOp (cls pid i v : Nat) (d : Dev) : Dev :=
  match pid with
  | 0x0010 => stateReq cls v d
  | 0x0031 => discard v d
  | 0x0050 => selWritePt v d
  | 0x0051 => hostPoint i v d
  | 0x2002 => stageDiscardFil d
  | 0x2202 => spFixed i (toInt 32 v) d
  | 0x2308 => traceFire i d
  | 0x3113 => outForce i v d
  | 0x3132 => drvClearGo i d
  | 0x3151 => gateClear i d
  | 0x4010 => winClear i d
  | 0x4011 => winTest (v = 1) i d
  | 0x5031 => gsSetpoint 0x5031 (toInt 32 v) d
  | 0x5034 => gsSetpoint 0x5034 (toInt 32 v) d
  | 0x5035 => gsSetpoint 0x5035 (toInt 32 v) d
  | 0x7107 => pMaxWrite i v d
  | 0x7108 => sweepGo i d
  | 0x9007 => phCalGo v d
  | 0x900B => saveGo d
  | 0xA008 => loupeWrite 0xA008 i (loupeArm i) d
  | 0xA009 => loupeWrite 0xA009 i (loupeFire i) d
  | 0xA00A => loupeWrite 0xA00A i (loupeStop i) d
  | 0xB010 => canRecover i d
  | 0xC005 => prbsPat i v d
  | 0xC072 => timeSet v d
  | 0xD020 => xcalGo v d
  | _ => answer 9 pid d

/-! ### PSET -/

/-- The k-th value of a PSET payload (R364). Log entry 19 (DEDUCED). -/
def psetVal (c : Cmd) (vs k : Nat) : Nat := ofLe (((c.body.drop (8 + vs * k)).take vs))

/-- Write a banked instance (R87): the inactive bank at once; MIRROR and STAGE_BAD of the cascade clear. -/
def bankWrite (pid i v : Nat) (d : Dev) : Dev :=
  let c := if pid = 0x2103 then i else i / 16
  modCas c (fun x => { x with mirror := false, stageBad := false }) (setOther (bankPut pid i v (otherBank d)) d)

/-- A PSET of a banked instance waits while the copy of its cascade after a swap has not finished (R90).
Log entry 20 (DEDUCED). -/
def bankHeld (d : Dev) (pid i : Nat) : Bool :=
  d.fil.copying && bit d.fil.copySet (if pid = 0x2103 then i else i / 16)

/-- Trace tap `k` starts anew (R104). Log entries 42 (DEDUCED), 159 (DESIGN CHOICE). -/
def tapRearm (k : Nat) (d : Dev) : Dev := modTap k (fun y => { ignored := y.ignored }) d

/-- Immediate values act in index order (R364); the first that does not succeed ends the command with its status. -/
def psetImm (cls pid : Nat) (is_ : List (Nat × Nat)) (d : Dev) : Dev :=
  is_.foldl (fun e iv => if e.mbx.lastStatus = 0 ∧ e.sys.up then immediateOp cls pid iv.1 iv.2 e else e) (answer 0 0 d)

/-- What a checked PSET writes; `.2` says that it is held (R90). A PSET of a trace mode arms its tap again (R104). -/
def psetWrite (cls : Nat) (x : Desc) (is_ : List (Nat × Nat)) (d : Dev) : Dev × Bool :=
  if x.kind = 1 then (is_.foldl (fun e iv =>
    if x.pid = 0x2302 then tapRearm iv.1 (stage x.pid iv.1 iv.2 e) else stage x.pid iv.1 iv.2 e) (answer 0 0 d), false)
  else if x.kind = 4 then
    if is_.any (fun iv => bankHeld d x.pid iv.1) then (d, true)
    else (is_.foldl (fun e iv => bankWrite x.pid iv.1 iv.2 e) (answer 0 0 d), false)
  else (psetImm cls x.pid is_ d, false)

/-- A parameter that the copy to the standby leaves out (R456). Log entry 47 (DEDUCED). -/
def notMirrored (pid : Nat) : Bool :=
  (0xC000 ≤ pid && pid < 0xE000) || (0x20 ≤ pid && pid ≤ 0x24) || (0x1107 ≤ pid && pid ≤ 0x1109) || pid = 0x9008 ||
    pid = 0x0010

/-- The kind of a parameter write record (R459): 0 staged, 1 immediate, 2 banked. Log entry 47 (DEDUCED). -/
def recKind (x : Desc) : Nat := if x.kind = 1 then 0 else if x.kind = 4 then 2 else 1

/-- The end of a PSET: its status, and the record of the write for the standby (R456). A command that took the host port
down with it is not completed. Log entries 18 (DEDUCED), 47 (DEDUCED). -/
def psetEnd (c : Cmd) (x : Desc) (d : Dev) : Dev :=
  if ¬ d.sys.up then d
  else
    let d1 := finish c d.mbx.lastStatus d.mbx.lastDetail [] d
    if d.mbx.lastStatus = 0 ∧ ¬ notMirrored x.pid then mirrorOut 5 (recKind x) 0 c.body d1 else d1

/-- A standby refuses a PSET (R458), but for the request for READY, whose refusal is that of R23, and for the start of a
transfer calibration. Log entry 47 (DEDUCED). -/
def standbyPset (d : Dev) (pid : Nat) : Bool := d.sys.standby && pid ≠ 0x0010 && pid ≠ 0xD020

/-- A parameter in a commit group that a running COMMIT names (R360). Log entry 20 (DEDUCED). -/
def psetBusy (d : Dev) (x : Desc) (first n : Nat) : Bool :=
  (x.kind = 1 || x.kind = 4) && (List.range n).any (fun k =>
    match groupOf d x.pid (first + k) with
    | some g => commitNames d (2 ^ g)
    | none => false)

/-- The checks of a PSET in the order of its rules, and its writes (R360, R364, R375 to R379, R458).
Log entries 18 (DEDUCED), 19 (DEDUCED). -/
def psetGo (c : Cmd) (d : Dev) : Dev :=
  let pid := field c.body 1 0
  let first := field c.body 3 2
  let n := field c.body 5 4
  let vs := field c.body 7 6
  if standbyPset d pid then finish c 1 9 [] d
  else
    match descOf pid with
    | none => finish c 9 pid [] d
    | some x =>
      if vs ≠ x.vsize then finish c 6 x.vsize [] d
      else if x.kind = 0 then finish c 0x0A (pdet pid first) [] d
      else if x.n < first + n then finish c 8 (pdet pid (max first x.n)) [] d
      else if psetBusy d x first n then finish c 0x0C 3 [] d
      else
        let is_ := (List.range n).map (fun k => (first + k, psetVal c vs k))
        match is_.find? (fun iv => prmOwned d pid iv.1) with
        | some iv => finish c 0x0A (pdet pid iv.1) [] d
        | none =>
          match is_.find? (fun iv => ¬ inRange x iv.2) with
          | some iv => finish c 8 (pdet pid iv.1) [] d
          | none =>
            let r := psetWrite (cmdClass d c) x is_ d
            if r.2 then { d with mbx := { d.mbx with
              heldPset := if d.mbx.heldPset.contains c.slot then d.mbx.heldPset else d.mbx.heldPset ++ [c.slot] } }
            else psetEnd c x r.1

/-- `PSET`. -/
def execPset (t slot : Nat) (s : State) : Host.Outcome State Fault Refusal := liftCmd t slot 0x02 psetGo s

/-- `MIRROR_COPY_DONE`: the copy after a swap completes, and a held PSET writes and completes (R90).
Log entry 33 (DEDUCED). -/
def copyDone (m : List Host.Cell) (d : Dev) : Dev :=
  if d.fil.copying then
    let d1 := mirrorDone d
    d1.mbx.heldPset.foldl (fun e slot => runCmd m slot 0x02 psetGo e) { d1 with mbx := { d1.mbx with heldPset := [] } }
  else d

def execMirrorCopyDone (t : Nat) (s : State) : Host.Outcome State Fault Refusal := lift t (copyDone s.hostMem) s

end Sys2Proof.Machine
end

