-- ==== Sys2Proof/Machine/CommitChecks.lean ====
section
/-!
DEFINITION. The configuration that a COMMIT would leave, and the commit rules of every chapter against it (R377, R380,
R381, R384). Each rule answers the keys of the instances that offend it, an instance named by the parameter that the
rule's own words name first.
-/
namespace Sys2Proof.Machine

/-! ### The configuration that would result -/

/-- Write instances by their keys. -/
def setKeys (xs : List (Nat × Nat)) (d : Dev) : Dev :=
  xs.foldl (fun e kv => setPrm (kv.1 / 65536) (kv.1 % 65536) kv.2 e) d

/-- `d` with every landed value in force. -/
def landedCfg (d : Dev) : Dev := setKeys (landedVals d) d

/-- The changed instances of the groups in a mask, by key, with their staged values (R379): where an earlier commit still
waits, the later value is a change against that one too (R129). -/
def changedVals (d : Dev) (mask : Nat) : List (Nat × Nat) :=
  d.prm.staged.filter (fun e =>
    (e.2 ≠ prm d (e.1 / 65536) (e.1 % 65536) || e.2 ≠ landedPrm d (e.1 / 65536) (e.1 % 65536)) &&
      (match groupOf d (e.1 / 65536) (e.1 % 65536) with
       | some g => bit mask g
       | none => false))

/-- The staged declarations that a commit of the groups in a mask lands (R395). -/
def changedDecls (d : Dev) (mask : Nat) : List (Nat × Nat) :=
  if bit mask 0 then d.prm.declStaged.filterMap (fun e => match e.2 with
    | some ty => if ty = declOf d e.1 then none else some (e.1, ty)
    | none => none) else []

/-- Declare point `p` with TYPE `ty`, or remove its declaration (R395). Log entry 41 (DEDUCED). -/
def declare (p ty : Nat) (d : Dev) : Dev :=
  if ty = 0 then { d with pts := tdel p d.pts }
  else { d with pts := tput {} p { point d p with typ := ty, hostPt := true } d.pts }

/-- The parameters from which the device builds the cascades that it owns (R173, R177, R192, R194, R255, R291, R587).
Log entry 39 (DEDUCED). -/
def buildsOwned (pid : Nat) : Bool :=
  pid / 4096 = 1 || pid = 0x3100 || pid = 0x3104 || pid = 0x3107 || pid = 0x2010 || pid = 0x2011 || pid = 0x2015 ||
    pid = 0x2018 || pid / 256 = 0x50 || pid / 256 = 0x70 || pid / 256 = 0x71 || (0x8010 ≤ pid && pid ≤ 0x8017) ||
    (0x8100 ≤ pid && pid ≤ 0x8110)

/-- The cascades that the device owns, as a mask. -/
def ownedMask (d : Dev) : Nat := maskOf 128 (casOwned d)

/-- The cascades of `m` that the device no longer owns go back to the host, and those that it owns are built.
Log entry 39 (DEDUCED). -/
def reownMask (m : Nat) (d : Dev) : Dev :=
  buildOwned (forAll 128 (fun c e => if bit m c ∧ ¬ casOwned e c then releaseCas c 1 e else e) d)

/-- The owned cascades as a landing from `old` leaves them. Log entry 39 (DEDUCED). -/
def reown (old d : Dev) : Dev := reownMask (ownedMask old) d

/-- What a commit is checked against: the device, the configuration that would result before and after the owned
cascades are built, and the changed instances. -/
structure Ctx where
  old : Dev
  mid : Dev
  new : Dev
  ch : List Nat
  deriving DecidableEq, Repr

/-- The context of a commit of the groups in `mask` (R380). Log entry 37 (DEDUCED). -/
def commitCtx (d : Dev) (mask : Nat) : Ctx :=
  let vs := changedVals d mask
  let ds := changedDecls d mask
  let mid := setKeys vs (ds.foldl (fun e kv => declare kv.1 kv.2 e) (landedCfg d))
  let new := if vs.any (fun kv => buildsOwned (kv.1 / 65536)) then reown d mid else mid
  { old := d, mid := mid, new := new, ch := vs.map (fun kv => kv.1) ++ ds.map (fun kv => pkey 0x0052 (kv.1 % 65536)) }

/-- Key `k` where `b` holds. -/
def at_ (b : Bool) (k : Nat) : List Nat := if b then [k] else []

/-- The instance is changed. -/
def Ctx.has (x : Ctx) (pid i : Nat) : Bool := x.ch.contains (pkey pid i)

/-- The changed instances of the parameters that `p` picks. -/
def Ctx.of (x : Ctx) (p : Nat → Bool) : List Nat := x.ch.filter (fun k => p (k / 65536))

/-- The listed instances of parameter `pid`: those that do not have their factory value. -/
def listed (d : Dev) (pid : Nat) : List (Nat × Nat) :=
  (d.prm.active.filter (fun e => e.1 / 65536 = pid)).map (fun e => (e.1 % 65536, e.2))

/-! ### Rules that depend on the state or on the service of legs (R384) -/

/-- R14: a role does not change on a leg in service. Log entry 39 (DEDUCED). -/
def ckRole (x : Ctx) : List Nat :=
  (List.range 48).flatMap (fun n => at_ (x.has 0x3100 n && inSvc x.old n) (pkey 0x3100 n))

/-- R132: out.mode does not change on a leg in service. -/
def ckOutMode (x : Ctx) : List Nat :=
  (List.range 48).flatMap (fun n => at_ (x.has 0x3110 n && inSvc x.old n) (pkey 0x3110 n))

/-- The inputs that cascade `c` reads: its sources, and its setpoint unit's. Log entry 39 (DEDUCED). -/
def casAins (d : Dev) (c : Nat) : List Nat :=
  (List.range 4).filterMap (fun k =>
    let s := srcCode d c k
    if 0x1000 ≤ s ∧ s < 0x10A8 then some (s - 0x1000)
    else if s = 0x3000 ∧ prm d 0x2200 c = 1 then some (prm d 0x2201 c) else none)

/-- The changed instances that touch the scan, gain, filter or sensor of input `i` (R47). -/
def ainTouched (x : Ctx) (i : Nat) : List Nat :=
  let f := i / 14
  let inputs := [0x1100, 0x1101, 0x1102, 0x1103, 0x1105, 0x1106].filter (fun pid => x.has pid i)
  let scans := [0x1000, 0x1001, 0x1002, 0x1003, 0x1004].filter (fun pid => x.has pid f)
  let tm := prm x.old 0x1002 f
  let timer := prm x.old 0x1000 f = 2 && decide (48 ≤ tm) && x.has 0x1010 (tm - 48)
  inputs.map (fun pid => pkey pid i) ++ scans.map (fun pid => pkey pid f) ++ at_ timer (pkey 0x1010 (tm - 48))

/-- R47: the inputs of a cascade that drives a leg in service do not change. Log entry 39 (DEDUCED). -/
def ckInputs (x : Ctx) : List Nat :=
  if x.ch.any (fun k => k / 65536 / 4096 = 1) then
    (List.range 128).flatMap (fun c =>
      match destLeg x.old c with
      | some n => if casOn x.old c ∧ inSvc x.old n then (casAins x.old c).flatMap (ainTouched x) else []
      | none => [])
  else []

/-- The parameters that change only in READY (R174, R256, R291, R296, R302). Log entry 38 (DEDUCED). -/
def readyOnly (pid : Nat) : Bool :=
  pid = 0x5003 || pid = 0x5004 || (0x5010 ≤ pid && pid ≤ 0x5013) || pid = 0x5060 || pid = 0x5061 ||
    (0x7000 ≤ pid && pid ≤ 0x7002) || (0x7100 ≤ pid && pid ≤ 0x7102) || pid = 0x7110 ||
    pid = 0x8010 || pid = 0x8011 || pid = 0x8100 || pid = 0x8101 || pid = 0x8110 || pid = 0x8030 ||
    (0x9001 ≤ pid && pid ≤ 0x9003) || (0x9010 ≤ pid && pid ≤ 0x9013)

/-- The READY-only rules. Log entry 38 (DEDUCED). -/
def ckReadyOnly (x : Ctx) : List Nat := if x.old.sys.st = .ready then [] else x.of readyOnly

/-- Every rule that R384 checks again at the landing tick. Log entry 37 (DEDUCED). -/
def stateRules (x : Ctx) : List Nat := ckRole x ++ ckOutMode x ++ ckInputs x ++ ckReadyOnly x

/-! ### Roles, acquisition and Filigree -/

/-- R13: the roles 5 to 15 are reserved. -/
def ckRoleCodes (x : Ctx) : List Nat :=
  (List.range 48).flatMap (fun n => at_ (decide (5 ≤ prm x.new 0x3100 n)) (pkey 0x3100 n))

/-- R32 and R41. -/
def ckAcq (x : Ctx) : List Nat :=
  (List.range 13).flatMap (fun f => at_ (prm x.new 0x1000 f ≠ 0 && prm x.new 0x1001 f = 0) (pkey 0x1000 f)) ++
  (List.range 168).flatMap (fun i =>
    at_ (decide (prm x.new 0x1102 i = 0) != decide (prm x.new 0x1103 i = 0)) (pkey 0x1102 i))

/-- The host cascade `c` is enabled: it is not one that the device built, or the commit enables it. -/
def hostOn (x : Ctx) (c : Nat) : Bool := casOn x.mid c && (!casOwned x.old c || x.has 0x2010 c)

/-- R174, R256 and R291: no owned range covers an enabled host cascade, and no two owned ranges meet.
Log entry 39 (DEDUCED). -/
def ckOwned (x : Ctx) : List Nat :=
  (List.range 128).flatMap (fun c =>
    let g := gsOwned x.mid c
    let p := pvOwned x.mid c
    let b := batOwned x.mid c
    at_ (hostOn x c && (g || p || b)) (if x.has 0x2010 c then pkey 0x2010 c
      else if g then pkey 0x5003 0 else if p then pkey 0x7000 0 else pkey 0x8010 0) ++
    at_ (p && g) (pkey 0x7000 0) ++ at_ (b && (g || p)) (pkey 0x8010 0))

/-- The ranges of the owned bases, written in terms of other parameters. Log entry 39 (DEDUCED). -/
def ckBases (x : Ctx) : List Nat :=
  let d := x.new
  at_ (decide (115 < gsBase d + 5 * gsSets d)) (pkey 0x5003 0) ++
  at_ (decide (128 < prm d 0x7000 0 + pvCount d + (legsOfRole d 2).length) && decide (0 < pvCount d)) (pkey 0x7000 0) ++
  at_ (decide (128 < prm d 0x8010 0 + strCount d + (legsOfRole d 3).length) && decide (0 < strCount d)) (pkey 0x8010 0)

/-- A source code of R68. -/
def srcOk (s : Nat) : Bool :=
  s = 0 || (0x1000 ≤ s && s < 0x10A8) || (0x2000 ≤ s && s < 0x2080) || s = 0x3000

/-- The enabled cascades that trigger `c` (R73). -/
def trigPreds (d : Dev) (c : Nat) : List Nat :=
  (List.range 4).filterMap (fun k =>
    let s := srcCode d c k
    if bit (prm d 0x2013 c) k ∧ 0x2000 ≤ s ∧ s < 0x2080 ∧ casOn d (s - 0x2000) then some (s - 0x2000) else none)

/-- The cascades from which the frontier `fr` can be reached through trigger bits; `fuel` rounds. -/
def trigReach (d : Dev) (fuel : Nat) (fr seen : List Nat) : List Nat :=
  match fuel with
  | 0 => seen
  | fuel + 1 =>
    let nx := ((fr.flatMap (trigPreds d)).filter (fun c => !seen.contains c)).eraseDups
    if nx = [] then seen else trigReach d fuel nx (seen ++ nx)

/-- R76: the triggers and destinations of enabled cascades. -/
def ckCas (x : Ctx) : List Nat :=
  let d := x.new
  let on := (List.range 128).filter (casOn d)
  on.flatMap (fun c =>
    let tr := prm d 0x2013 c
    at_ (tr = 0 || (List.range 4).any (fun k => bit tr k && srcCode d c k = 0) ||
      (trigReach d 128 [c] []).contains c) (pkey 0x2013 c) ++
    (match destLeg d c with
     | some n => at_ (role d n = 0 || on.any (fun e => e ≠ c && destLeg d e = some n)) (pkey 0x2018 c)
     | none => [])) ++
  (List.range 128).flatMap (fun c => at_ (decide (2 ≤ prm d 0x2200 c ∧ 4 ≤ prm d 0x2201 c)) (pkey 0x2201 c))

/-- R68, R72, R83, R92 and R100. -/
def ckFil (x : Ctx) : List Nat :=
  let d := x.new
  (listed d 0x2012).flatMap (fun kv => at_ (!srcOk kv.2) (pkey 0x2012 kv.1)) ++
  (List.range 128).flatMap (fun c => at_ (!casOwned d c && decide (prmI d 0x2016 c ≤ prmI d 0x2017 c)) (pkey 0x2017 c)) ++
  at_ (decide (2160000000 < laneDemand d)) (pkey 0x2015 (((List.range 128).find? (casOn d)).getD 0)) ++
  at_ (prm d 0x2001 0 = 1 && x.has 0x2001 0 && (List.range 128).any (fun c => (cas x.old c).stageBad)) (pkey 0x2001 0) ++
  (List.range 16).flatMap (fun t =>
    let w := prm d 0x2300 t
    let kind := bits w 15 12
    at_ (decide (4 < kind) ||
      ((kind = 1 || kind = 2) && decide (prm d 0x2011 (bits w 11 5) ≤ bits w 3 0))) (pkey 0x2300 t))

/-! ### PWM and Bezel -/

/-- R132, but for out.mode. -/
def ckPwm (x : Ctx) : List Nat :=
  let d := x.new
  (List.range 48).flatMap (fun n =>
    let p := prm d 0x3104 n
    let k := prm d 0x310C n
    let bm := 16 * prm d 0x310D n
    at_ (prm d 0x3102 n = 1 && p % 2 = 1) (pkey 0x3104 n) ++
    at_ (decide (p ≤ prm d 0x3105 n)) (pkey 0x3105 n) ++
    at_ (prm d 0x3103 n = 1 && (n = 0 || decide (p ≠ prm d 0x3104 (n - 1)))) (pkey 0x3103 n) ++
    at_ (decide (2 * p < prm d 0x3109 n + prm d 0x310A n + prm d 0x310B n + (if k = 0 then 0 else bm))) (pkey 0x3109 n) ++
    at_ (decide (1 ≤ k ∧ bm < prm d 0x310B n)) (pkey 0x310C n) ++
    at_ ((x.has 0x3106 n || (tget none (leg x.old n).load 0x3106).isSome) && decide (16 * p < prm d 0x3106 n))
      (pkey 0x3106 n))

/-- R164. -/
def ckBezel (x : Ctx) : List Nat :=
  let d := x.new
  (List.range 56).flatMap (fun w =>
    let act := prm d 0x4000 w
    let en := prm d 0x4003 w
    at_ (act = 3 && decide (48 ≤ w)) (pkey 0x4000 w) ++
    at_ (decide (prmI d 0x4004 w < prmI d 0x4005 w)) (pkey 0x4005 w) ++
    at_ (decide (prmI d 0x4007 w < prmI d 0x4006 w)) (pkey 0x4007 w) ++
    at_ (en = 3 && decide (prmI d 0x4004 w ≤ prmI d 0x4006 w)) (pkey 0x4006 w) ++
    at_ (decide (prm d 0x4008 w < prm d 0x4009 w)) (pkey 0x4009 w) ++
    at_ (decide (2 ≤ act) && en = 0) (pkey 0x4000 w))

/-! ### Grid synthesis, ride-through and Charm -/

/-- R177 and R587. -/
def ckGsInputs (x : Ctx) : List Nat :=
  let d := x.new
  let uc := prm d 0x5012 0
  let need := (List.range 48).any (fun n => role d n = 1) || prm d 0x6000 0 = 1 || prm d 0x5050 0 ≠ 2
  at_ (inScan d uc && decide (outRate d uc < 16 * (fBase d + prmQ d 0x5027 0 100))) (pkey 0x5012 0) ++
  (List.range 4).flatMap (fun j => at_ (need && !inScan d (prm d (0x5010 + j) 0)) (pkey (0x5010 + j) 0))

/-- The phase of leg `n` in bridge `k`: 0 A, 1 B, 2 C. -/
def phaseIn (d : Dev) (k n : Nat) : Nat := (brLegs d k).findIdx (· = n)

/-- R182: bridges, their legs and sets, and the current loops. -/
def ckBridges (x : Ctx) : List Nat :=
  let d := x.new
  let ks := (List.range 16).filter (brEnabled d)
  let ac := legsOfRole d 1
  let loops := acLoops d
  let i0 := loops.findSome? (loopAin d)
  ks.flatMap (fun k =>
    at_ ((brLegs d k).any (fun n => role d n ≠ 1) || ¬ (brLegs d k).Nodup ||
      ks.any (fun j => j ≠ k && (brLegs d j).any (fun n => (brLegs d k).contains n))) (pkey 0x5060 k)) ++
  ac.flatMap (fun n => at_ (bridgeOf d n = none) (pkey 0x3100 n)) ++
  (List.range (gsSets d)).flatMap (fun s =>
    at_ (ac ≠ [] && !ks.any (fun k => prm d 0x5061 k = s)) (pkey 0x5061 0)) ++
  (List.range 16).flatMap (fun k => at_ (decide (gsSets d ≤ prm d 0x5061 k)) (pkey 0x5061 k)) ++
  loops.flatMap (fun c =>
    (match destLeg d c with
     | some n => (match bridgeOf d n with
       | some k => at_ (srcCode d c 0 ≠ 0x2000 + gsBase d + 3 * prm d 0x5061 k + phaseIn d k n) (pkey 0x2012 (4 * c))
       | none => [])
     | none => []) ++
    (match i0, loopAin d c with
     | some a, some i => at_ (decide (prm d 0x1101 i ≠ prm d 0x1101 a)) (pkey 0x1101 i) ++
         at_ (decide (prm d 0x1104 i ≠ prm d 0x1104 a)) (pkey 0x1104 i)
     | _, _ => []))

/-- R192 and R193: the harmonic orders. -/
def ckOrders (x : Ctx) : List Nat :=
  let d := x.new
  let auto := prm d 0x5042 0 = 1
  let rates := (acLoops d).map (fun c => prm d 0x2015 c)
  (List.range 8).flatMap (fun j =>
    let h := prm d 0x5040 j
    at_ (h ≠ 0 && (!auto || rates.any (fun r => decide (r < 8 * h * prm d 0x5002 0)) ||
      (List.range j).any (fun i => prm d 0x5040 i = h))) (pkey 0x5040 j)) ++
  at_ (auto && rates.any (fun r => decide (r ≤ 2 * prm d 0x5045 0))) (pkey 0x5045 0)

/-- One ride-through table of R205: its parameters from `b` on, and the continuous limits `lo`, `hi`. -/
def ckTable (d : Dev) (b lo hi : Nat) : List Nat :=
  let n := prm d b 0
  at_ (prm d (b + 1) 0 ≠ 0) (pkey (b + 1) 0) ++
  (List.range n).flatMap (fun i =>
    at_ (decide (0 < i ∧ prm d (b + 1) i ≤ prm d (b + 1) (i - 1))) (pkey (b + 1) i) ++
    at_ (decide (prm d lo 0 < prm d (b + 2) i)) (pkey (b + 2) i) ++
    at_ (decide (prm d (b + 3) i < prm d hi 0)) (pkey (b + 3) i)) ++
  at_ (prm d (b + 2) (n - 1) ≠ prm d lo 0) (pkey (b + 2) (n - 1)) ++
  at_ (prm d (b + 3) (n - 1) ≠ prm d hi 0) (pkey (b + 3) (n - 1)) ++
  at_ (prm d (b + 4) (n - 1) = 1) (pkey (b + 4) (n - 1))

/-- R205. -/
def ckRide (x : Ctx) : List Nat :=
  let d := x.new
  ckTable d 0x5110 0x5102 0x5103 ++ ckTable d 0x5120 0x5105 0x5106 ++
  at_ (decide (prm d 0x510D 0 < prm d 0x5026 0)) (pkey 0x510D 0) ++
  at_ (decide (prm d 0x503D 0 < prm d 0x5133 0)) (pkey 0x5133 0)

/-- R249. -/
def ckCharm (x : Ctx) : List Nat :=
  let d := x.new
  at_ (decide (prm d 0x6021 0 ≤ prm d 0x6020 0)) (pkey 0x6020 0) ++
  at_ (decide (prm d 0x6023 0 ≤ prm d 0x6022 0)) (pkey 0x6022 0) ++
  at_ (decide (prm d 0x6026 0 ≤ prm d 0x6024 0)) (pkey 0x6024 0) ++
  at_ (decide (10 * prm d 0x6026 0 < 12 * prm d 0x6025 0)) (pkey 0x6026 0) ++
  at_ (decide (prm d 0x5026 0 ≤ prm d 0x6027 0)) (pkey 0x6027 0) ++
  at_ (decide (prm d 0x6014 0 < prm d 0x6015 0)) (pkey 0x6015 0) ++
  at_ (prm d 0x6000 0 = 1 && decide (outRate d (prm d 0x5012 0) < 4000)) (pkey 0x6000 0)

/-! ### PV and batteries -/

/-- R254 and the inputs of R255. -/
def ckPv (x : Ctx) : List Nat :=
  let d := x.new
  let qs := List.range (pvCount d)
  let legs := fun (q : Nat) => (List.range (prm d 0x7101 q)).map (fun k => prm d 0x7100 q + k)
  qs.flatMap (fun q =>
    at_ (prm d 0x7101 q = 0) (pkey 0x7101 q) ++
    at_ ((legs q).any (fun n => role d n ≠ 2) || qs.any (fun j => j ≠ q && (legs j).any (fun n => (legs q).contains n)))
      (pkey 0x7100 q) ++
    (legs q).flatMap (fun n => at_ (decide (n < 48) && prm d 0x3108 n ≠ 1) (pkey 0x3108 n) ++
      at_ (!inScan d (pvAin d n)) (pkey 0x7110 n)) ++
    at_ (decide (prm d 0x7104 q ≤ prm d 0x7103 q)) (pkey 0x7103 q) ++
    at_ (decide (prm d 0x7104 q ≤ prm d 0x7030 0)) (pkey 0x7030 0) ++
    at_ (decide (prm d 0x5051 0 * (1000 - prm d 0x5052 0) * 95 < prm d 0x7104 q * 100000)) (pkey 0x7104 q) ++
    at_ (!inScan d (prm d 0x7102 q)) (pkey 0x7102 q)) ++
  (legsOfRole d 2).flatMap (fun n => at_ (!qs.any (fun q => (legs q).contains n)) (pkey 0x3100 n)) ++
  at_ (decide (10 * prm d 0x7007 0 < prm d 0x7006 0)) (pkey 0x7006 0) ++
  at_ (decide (prm d 0x7022 0 ≤ prm d 0x7021 0)) (pkey 0x7021 0) ++
  at_ (decide (prm d 0x7003 0 ≤ prm d 0x7004 0)) (pkey 0x7004 0) ++
  at_ (prm d 0x7002 0 = prm d 0x5140 0 && prm d 0x7002 0 ≠ 4) (pkey 0x7002 0)

/-- R255 applied to the legs of strings (R291), R290, R296 and the row of set.shed.lo. -/
def ckSetter (x : Ctx) : List Nat :=
  let d := x.new
  let ss := List.range (strCount d)
  ss.flatMap (fun s =>
    at_ ((strLegs d s).any (fun n => role d n ≠ 3) || ss.any (fun j => j ≠ s &&
      (strLegs d j).any (fun n => (strLegs d s).contains n))) (pkey 0x8100 s) ++
    (strLegs d s).flatMap (fun n => at_ (!inScan d (prm d 0x8110 n)) (pkey 0x8110 n))) ++
  (legsOfRole d 3).flatMap (fun n => at_ (!ss.any (fun s => (strLegs d s).contains n)) (pkey 0x3100 n)) ++
  at_ (decide (prm d 0x8003 0 ≤ prm d 0x8004 0)) (pkey 0x8004 0) ++
  at_ (decide (tierSpace d < (prm d 0x8030 1 + prm d 0x8030 2) * (gib / 4) + gib)) (pkey 0x8030 1)

/-! ### Carat, Loupe and Casket -/

/-- R302: the inputs of an enabled metering point, with the instance that names each. -/
def caratInputs (d : Dev) (m : Nat) : List (Nat × Nat) :=
  if m = 0 then
    (List.range 3).map (fun x => (pkey 0x9001 x, prm d 0x9001 x)) ++
      ((List.range 4).filter (fun x => prm d 0x9002 x ≠ 0xFF)).map (fun x => (pkey 0x9002 x, prm d 0x9002 x))
  else (pkey 0x9010 (m - 1), dcVolt d m) :: (dcCurrents d m).map (fun i => (pkey 0x9011 (m - 1), i))

/-- R302. -/
def ckCarat (x : Ctx) : List Nat :=
  let d := x.new
  (List.range 33).flatMap (fun m =>
    if (if m = 0 then prm d 0x9009 0 = 1 else prm d 0x9012 (m - 1) = 1) then
      let is_ := caratInputs d m
      let r0 := outRate d (firstVolt d m)
      is_.flatMap (fun ki => at_ (!inScan d ki.2 || decide (outRate d ki.2 ≠ r0) ||
        (m = 0 && ki.1 / 65536 = 0x9001 && decide (outRate d ki.2 < 10000))) ki.1)
    else [])

/-- A trigger source code of R328. -/
def trigOk (c : Nat) : Bool :=
  decide (c < 0x80) || (0x100 ≤ c && c < 0x104) || (0x110 ≤ c && c < 0x114) || (0x200 ≤ c && c < 0x208) ||
    (0x300 ≤ c && c < 0x338) || c = 0x400 || (0x500 ≤ c && c < 0x504) || c = 0x600 || c = 0xFFFF

/-- R334: the rules of R205 for the table of each mask, but for those that name the continuous limits. -/
def ckMasks (x : Ctx) : List Nat :=
  let d := x.new
  ((List.range 4).filter (fun u => !loupeOwned d u)).flatMap (fun u => (List.range 4).flatMap (fun j =>
    let n := prm d 0xA034 (4 * u + j)
    let b := 32 * (4 * u + j)
    at_ (prm d 0xA035 b ≠ 0) (pkey 0xA035 b) ++
    (List.range (n - 1)).flatMap (fun i =>
      at_ (decide (prm d 0xA035 (b + i + 1) ≤ prm d 0xA035 (b + i))) (pkey 0xA035 (b + i + 1))) ++
    at_ (prm d 0xA038 (b + n - 1) = 1) (pkey 0xA038 (b + n - 1))))

/-- R323, R326, R328 and the ranges written in terms of other parameters, for the units that the host sets up. -/
def ckLoupe (x : Ctx) : List Nat :=
  let d := x.new
  let us := (List.range 4).filter (fun u => !loupeOwned d u)
  let load : Rat := ((List.range 4).filter (fun u => prm d 0xA000 u ≠ 0)).foldl (fun a u =>
    a + (4 * prm d 0xA001 u : Nat) * srcRate d (chSrc d u 0) / (prm d 0xA00F u : Nat)) 0
  us.flatMap (fun u =>
    let nch := prm d 0xA001 u
    (List.range nch).flatMap (fun k =>
      let s := chSrc d u k
      at_ (!(s = 0 || (0x1000 ≤ s && s < 0x10A8) || (0x2000 ≤ s && s < 0x2080)) ||
        decide (srcRate d s ≠ srcRate d (chSrc d u 0))) (pkey 0xA010 (16 * u + k))) ++
    (List.range 4).flatMap (fun k => at_ (!trigOk (prm d 0xA004 (4 * u + k))) (pkey 0xA004 (4 * u + k))) ++
    at_ (decide (8388608 < nch * prm d 0xA002 u)) (pkey 0xA002 u) ++
    at_ (decide (prm d 0xA002 u ≤ prm d 0xA003 u)) (pkey 0xA003 u) ++
    at_ (decide (nch ≤ prm d 0xA021 u)) (pkey 0xA021 u)) ++
  at_ (decide (4000000000 < load)) (pkey 0xA001 (((List.range 4).find? (fun u => prm d 0xA000 u ≠ 0)).getD 0))

/-! ### Points, partners and buses -/

/-- The enabled partner entries. -/
def entries (d : Dev) : List Nat := (listed d 0xB100).map (fun kv => kv.1)

/-- Two ranges `[a, a + m)` and `[b, b + n)` meet. -/
def meets (a m b n : Nat) : Bool := decide (a < b + n ∧ b < a + m)

/-- R346 and R394: bindings. -/
def ckBindings (x : Ctx) : List Nat :=
  let d := x.new
  let es := entries d
  let hosts := d.pts.filter (fun e => e.2.hostPt)
  let total := es.foldl (fun a e => a + prm d 0xB103 e) hosts.length
  es.flatMap (fun e =>
    let a := prm d 0xB102 e
    let n := prm d 0xB103 e
    at_ (decide (n ≠ 0) && (decide (0x800000 < a + n) || hosts.any (fun h => decide (a ≤ h.1 ∧ h.1 < a + n)) ||
      es.any (fun f => f ≠ e && meets a n (prm d 0xB102 f) (prm d 0xB103 f)))) (pkey 0xB102 e)) ++
  at_ (decide (262144 < total)) (pkey 0xB103 (es.headD 0))

/-- R399: bit timing, on ports whose mode is not 0. -/
def ckCanBits (x : Ctx) : List Nat :=
  let d := x.new
  (List.range 12).flatMap (fun p =>
    if prm d 0xB000 p = 0 then []
    else
      let nb := prm d 0xB002 p * (1 + prm d 0xB003 p + prm d 0xB004 p)
      let db := prm d 0xB006 p * (1 + prm d 0xB007 p + prm d 0xB008 p)
      at_ (decide (nb < 80)) (pkey 0xB002 p) ++
      at_ (decide (db < 10 ∨ nb < db)) (pkey 0xB006 p) ++
      at_ (decide (prm d 0xB004 p < prm d 0xB005 p)) (pkey 0xB005 p) ++
      at_ (decide (prm d 0xB008 p < prm d 0xB009 p)) (pkey 0xB009 p) ++
      at_ (decide (db < 80) && prm d 0xB00A p = 0) (pkey 0xB00A p))

/-- A filter element that R402 refuses. -/
def badElement (v : Nat) : Bool :=
  let form := bits v 63 61
  let top := if bit v 29 then 0x1FFFFFFF else 0x7FF
  decide (3 < form) || (form = 1 && decide (top < bits v 28 0 + bits v 60 32))

/-- R402. -/
def ckFilters (x : Ctx) : List Nat :=
  [0xB020, 0xB021].flatMap (fun pid => (listed x.new pid).flatMap (fun kv => at_ (badElement kv.2) (pkey pid kv.1)))

/-- The identifiers that a CAN entry claims: bit 29, the first one and how many (R414). -/
def claimRange (d : Dev) (e : Nat) : Bool × Nat × Nat :=
  let b := prm d 0xB106 e
  (bit b 29, b % 2 ^ 29, if prm d 0xB105 e = 1 then pagesOf d e (prm d 0xB103 e) else 1)

/-- The identifiers with which a CAN entry transmits (R415). -/
def sendRange (d : Dev) (e : Nat) : Bool × Nat × Nat :=
  let b := prm d 0xB113 e
  (bit b 29, b % 2 ^ 29, if prm d 0xB118 e = 1 then pagesOf d e (prm d 0xB111 e) else 1)

/-- Two identifier ranges meet. -/
def idMeet (a b : Bool × Nat × Nat) : Bool := a.1 == b.1 && meets a.2.1 a.2.2 b.2.1 b.2.2

/-- FDF and BRS of an identifier word that do not go with port `p` (R419). -/
def badWord (d : Dev) (p idw : Nat) : Bool := (bit idw 30 && prm d 0xB001 p = 0) || (bit idw 31 && !bit idw 30)

/-- R419. -/
def ckPartners (x : Ctx) : List Nat :=
  let d := x.new
  let es := entries d
  let cs := es.filter (fun e => prm d 0xB100 e = 1)
  let us := es.filter (fun e => prm d 0xB100 e = 2)
  cs.flatMap (fun e =>
    let p := prm d 0xB101 e
    let same := cs.filter (fun f => f ≠ e && prm d 0xB101 f = p)
    let tx := prm d 0xB111 e ≠ 0
    let sub := bit (prm d 0xB120 e) 0
    let fdf := bit (prm d 0xB113 e) 30
    let room := (if fdf then 64 else 8) - (if prm d 0xB118 e = 2 then 1 else 0)
    at_ (same.any (fun f => idMeet (claimRange d e) (claimRange d f))) (pkey 0xB106 e) ++
    at_ ((tx || sub) && (prm d 0xB000 p = 0 || prm d 0xB000 p = 2)) (pkey 0xB101 e) ++
    at_ (tx && badWord d p (prm d 0xB113 e)) (pkey 0xB113 e) ++
    at_ (sub && (badWord d p (prm d 0xB121 e) || !bit (prm d 0xB121 e) 30)) (pkey 0xB121 e) ++
    at_ (tx && decide (room < prm d 0xB108 e * typeSize (prm d 0xB112 e))) (pkey 0xB108 e) ++
    at_ (tx && same.any (fun f => prm d 0xB111 f ≠ 0 && idMeet (sendRange d e) (sendRange d f))) (pkey 0xB113 e) ++
    at_ (tx && decide (prm d 0xB00B p < 8)) (pkey 0xB00B p)) ++
  us.flatMap (fun e => at_ (us.any (fun f => f ≠ e && prm d 0xB130 f = prm d 0xB130 e &&
    prm d 0xB131 f = prm d 0xB131 e)) (pkey 0xB130 e))

/-! ### Lanes and time -/

/-- R429. -/
def ckLanes (x : Ctx) : List Nat :=
  let d := x.new
  let mode := fun (k : Nat) => prm d 0xC000 k
  let on := ((List.range 8).drop 2).filter (fun k => mode k = 1 || mode k = 2)
  let pl := prm d 0xC031 0
  (List.range 2).flatMap (fun k => at_ (mode k = 1 && prm d 0xC001 k ≠ 0) (pkey 0xC001 k) ++
    at_ (mode k = 1 && prm d 0xC011 0 ≠ 0) (pkey 0xC011 0)) ++
  on.flatMap (fun k => at_ (on.any (fun j => decide (prm d 0xC001 j ≠ prm d 0xC001 k))) (pkey 0xC001 k)) ++
  at_ (x.old.mbx.hostsel && mode 0 ≠ 1) (pkey 0xC000 0) ++
  at_ (x.old.mbx.hostsel && prm d 0xC020 0 = 0) (pkey 0xC020 0) ++
  at_ (pl ≠ 255 && mode pl ≠ 1) (pkey 0xC031 0)

/-- R442 and R445. -/
def ckTime (x : Ctx) : List Nat :=
  let d := x.new
  let en := b01 (prm d 0xC046 0 = 1) + b01 (prm d 0xC046 1 = 1)
  at_ ((prm d 0xC040 0 = 1 && en ≠ 1) || (prm d 0xC040 0 = 2 && en ≠ 2)) (pkey 0xC040 0) ++
  (List.range 8).flatMap (fun k =>
    at_ (decide (prm d 0xC064 k < 10 ∨ prm d 0xC063 k < prm d 0xC064 k + 10)) (pkey 0xC064 k))

/-! ### Pendant, security, hold-up and clocks -/

/-- R453, while the device is paired. -/
def ckPair (x : Ctx) : List Nat :=
  if x.old.pnd.role = 0 then []
  else
    (List.range 48).flatMap (fun n =>
      at_ (role x.new n ≠ 0 && (prm x.new 0x3110 n = 0 || prm x.new 0x3110 n = 3)) (pkey 0x3110 n)) ++
    at_ (decide (streamCap x.new * 8 < streamBytes x.new * 10)) (pkey 0xC031 0)

/-- R479, R482 and R498. -/
def ckSec (x : Ctx) : List Nat :=
  let d := x.new
  at_ (x.old.sec.warden && !(List.range 8).any (fun k => keyEnabled d k && keyClass d k = 3)) (pkey 0xE010 0) ++
  at_ (x.has 0xE020 0 && decide (prm d 0xE020 0 < prm x.old 0xE020 0 ∨ fwRelease x.old < prm d 0xE020 0)) (pkey 0xE020 0) ++
  at_ (decide (prm d 0xE103 0 * 1000 ≤ 2 * prm d 0xE105 0)) (pkey 0xE103 0) ++
  at_ (decide (prm d 0xE106 0 ≤ prm d 0xE107 0)) (pkey 0xE107 0)

/-- R513 and R530. -/
def ckSupply (x : Ctx) : List Nat :=
  let d := x.new
  let sum : Int := (List.range 64).foldl (fun a i => a + prmI d 0xF202 i) 0
  at_ (decide (prm d 0xF003 0 < 3090 ∨ prm d 0xF003 0 < prm d 0xF004 0 + prm d 0xF005 0 ∨
    gauge d (2 * prm d 0xF006 0) < prm d 0xF003 0)) (pkey 0xF003 0) ++
  at_ (decide (prm d 0xF004 0 < 1050)) (pkey 0xF004 0) ++
  at_ (decide (prm d 0xF006 0 ≤ prm d 0xF001 0)) (pkey 0xF006 0) ++
  at_ (decide (400000 % (64 * prm d 0xF201 0) ≠ 0)) (pkey 0xF201 0) ++
  at_ (decide (sum ≠ 0 ∨ 640000000 < rampExc d)) (pkey 0xF202 0)

/-! ### The verdict on a commit -/

/-- Every commit rule against the configuration that would result (R380). Log entry 37 (DEDUCED). -/
def allRules (x : Ctx) : List Nat :=
  stateRules x ++ ckRoleCodes x ++ ckAcq x ++ ckOwned x ++ ckBases x ++ ckCas x ++ ckFil x ++ ckPwm x ++ ckBezel x ++
    ckGsInputs x ++ ckBridges x ++ ckOrders x ++ ckRide x ++ ckCharm x ++ ckPv x ++ ckSetter x ++ ckCarat x ++ ckLoupe x ++ ckMasks x ++
    ckBindings x ++ ckCanBits x ++ ckFilters x ++ ckPartners x ++ ckLanes x ++ ckTime x ++ ckPair x ++ ckSec x ++
    ckSupply x

/-- The first offending instance, in ascending order of PID and index. Log entry 37 (DEDUCED). -/
def firstOf (ks : List Nat) : Option Nat :=
  ks.foldl (fun m k => match m with
    | none => some k
    | some a => some (min a k)) none

/-- The parameters of the protection set-up, whose COMMIT needs a warden while a leg switches (R161, R221, R248). -/
def protection (pid : Nat) : Bool :=
  (0x4000 ≤ pid && pid ≤ 0x400A) || (0x5100 ≤ pid && pid ≤ 0x5142) || (0x6000 ≤ pid && pid ≤ 0x6033)

/-- The highest class that a changed instance requires, in the state at hand (R381). Log entry 37 (DEDUCED). -/
def neededClass (d : Dev) (ch : List Nat) : Nat :=
  let sw := (List.range 48).any (switching d)
  ch.foldl (fun m k =>
    let pid := k / 65536
    let c := match descOf pid with
      | some x => x.ccls
      | none => 0
    max m (if sw ∧ protection pid then 3 else c)) 0

end Sys2Proof.Machine
end

