-- ==== Sys2Proof/Machine/Commit.lean ====
section
/-!
DEFINITION. The COMMIT command: its checks, its landing at an epoch tick with what each landed change starts, and the
snapshot that follows (R128, R163, R364, R380 to R388, R487, R498, R545).
-/
namespace Sys2Proof.Machine

/-! ### Landing one value -/

/-- Recorder parameters that wait while the unit is in POST or STORE (R348). Log entry 40 (DEDUCED). -/
def unitWaits (pid : Nat) : Bool := pid = 0xA001 || pid = 0xA002 || pid = 0xA003 || pid = 0xA00F || pid = 0xA010

/-- A recorder parameter lands: in POST or STORE it waits; in FILLING or READY the ring restarts (R348).
Log entry 40 (DEDUCED). -/
def landUnit (pid i v : Nat) (d : Dev) : Dev :=
  let u := unitOfPrm pid i
  let st := (unit d u).st
  if st = 3 ∨ st = 4 then modUnit u (fun x => { x with cfgWait := tput none (pkey pid i) (some v) x.cfgWait }) d
  else
    let d1 := setPrm pid i v d
    if st = 1 ∨ st = 2 then modUnit u refill d1 else d1

/-- A parameter of the channel lands; during an off-test or a closing sequence the channel keeps the old value until that
ends (R498). -/
def landGd (pid v : Nat) (d : Dev) : Dev :=
  let d1 := setPrm pid 0 v d
  if d.gd.testing ≠ 0 ∨ d.gd.closing then
    match tget none d.gd.old pid with
    | some _ => d1
    | none => { d1 with gd := { d1.gd with old := tput none pid (some (prm d pid 0)) d1.gd.old } }
  else d1

/-- One changed value lands: at the epoch, or where its own rule says (R46, R128, R348, R498). A swap acts and leaves
fil.bank.swap at 0. Log entry 34 (DEDUCED). -/
def landOne (k v : Nat) (d : Dev) : Dev :=
  let pid := k / 65536
  let i := k % 65536
  if pid = 0x2001 then d
  else if pid / 4096 = 1 then landAcq pid i v d
  else if 0x3101 ≤ pid ∧ pid ≤ 0x310D then modLeg i (fun x => { x with load := tput none pid (some v) x.load }) d
  else if unitWaits pid then landUnit pid i v d
  else if pid / 256 = 0xE1 then landGd pid v d
  else setPrm pid i v d

/-! ### What landed changes start -/

/-- A cascade that the host enables starts afresh; one that it disables stops (R99). A setpoint unit with a new source
waits sp.timeout for its first measurement (R98). Log entries 33 (DEDUCED), 60 (DEDUCED), 61 (DEDUCED). -/
def landCas (x : Ctx) (d : Dev) : Dev :=
  let d1 := (x.of (fun pid => pid = 0x2200 || pid = 0x2201)).foldl (fun e k =>
    modCas (k % 65536) (fun y => { y with spT := e.t, spLost := false }) e) d
  (x.of (fun pid => pid = 0x2010)).foldl (fun e k =>
    let c := k % 65536
    if casOn e c then casEnable c e
    else modCas c (fun y => { mirror := y.mirror, stageBad := y.stageBad, out := { seq := y.out.seq } }) e) d1

/-- A trace tap whose set-up changes is armed again (R104). Log entries 42 (DEDUCED), 159 (DESIGN CHOICE). -/
def landTaps (x : Ctx) (d : Dev) : Dev :=
  forAll 16 (fun k e => if x.ch.any (fun c => c / 65536 / 16 = 0x230 && c % 65536 = k) then
    tapRearm k e else e) d

/-- Every leg of an update group with a changed parameter loads its shadow set at its next period start (R128, R129), and
SYNC_OUT stays low once it is off (R117). -/
def landPwm (x : Ctx) (d : Dev) : Dev :=
  let gs := (x.of (fun pid => pid / 256 = 0x31)).filterMap (fun k => groupOf x.old (k / 65536) (k % 65536))
  let d1 := forAll 48 (fun n e => if gs.contains (16 + prm x.old 0x3101 n) then
    modLeg n (fun y => { y with pend := true }) e else e) d
  if prm d1 0x3140 0 = 0 then { d1 with pwm := { d1.pwm with syncOut := false } } else d1

/-- A change of a leg's role or update group is an unplanned change (R383). -/
def landRoles (x : Ctx) (d : Dev) : Dev :=
  if x.of (fun pid => pid = 0x3100 || pid = 0x3101) = [] then d
  else { d with setr := { d.setr with unplanned := true } }

/-- A comparator that is off asserts nothing: window `w` is off, or the comparator is not enabled (R154, R170).
Log entry 67 (DEDUCED). -/
def idleCmps (w : Nat) (d : Dev) : Dev :=
  let on := fun (k : Nat) => prm d 0x4000 w ≠ 0 && bit (prm d 0x4003 w) k
  modWin w (fun y => { y with hiAct := y.hiAct && (on 0 || y.testing = some true),
                              loAct := y.loAct && (on 1 || y.testing = some false) }) d

/-- A window that leaves protection discards its latches with EV_BZCFG; one that enters it, or changes its input or range,
is armed; where fewer comparators are left, ARMHOLD goes by those (R160, R163). -/
def landWins (x : Ctx) (d : Dev) : Dev :=
  regate (forAll 56 (fun w e0 =>
    let e := if x.has 0x4000 w ∨ x.has 0x4003 w then idleCmps w e0 else e0
    let a0 := prm x.old 0x4000 w
    let a1 := prm e 0x4000 w
    if x.has 0x4000 w ∧ a1 ≤ 1 then
      raiseI 52 w (modWin w (fun y => { y with
        lat := false, latHi := false, latLo := false, cutHold := false, armhold := false, cutTrip := false }) e)
    else if (a0 ≤ 1 ∧ 2 ≤ a1) ∨ x.has 0x4001 w ∨ x.has 0x4002 w then armWin w e
    else if x.has 0x4003 w then armCheck w e
    else e) d)

/-- The owned cascades are built anew from the configuration that has landed; `m` are those owned before. -/
def rebuildOwned (m : Nat) (d : Dev) : Dev :=
  let w := landedVals d
  setKeys (w.map (fun kv => (kv.1, prm d (kv.1 / 65536) (kv.1 % 65536)))) (reownMask m (setKeys w d))

/-- Changed parameters that shape the owned cascades build them anew; while a replay holds legs that waits (R176).
Log entry 41 (DEDUCED). -/
def landOwned (x : Ctx) (d : Dev) : Dev :=
  if x.of buildsOwned = [] then d
  else if rplHolds d then
    { d with gs := { d.gs with rebuild := some (d.gs.rebuild.getD (ownedMask x.old)), deferF := true } }
  else rebuildOwned (ownedMask x.old) d

/-- A rebuild that waited for the lift of a replay hold (R176). -/
def landRebuild (d : Dev) : Dev :=
  match d.gs.rebuild with
  | some m => if rplHolds d then d else rebuildOwned m { d with gs := { d.gs with rebuild := none } }
  | none => d

/-- Every 0xA0xx parameter of recorder unit `u` at its factory value, and the unit IDLE. Log entry 40 (DEDUCED). -/
def clearUnit (u : Nat) (d : Dev) : Dev :=
  let ps := paramsA.filter (fun p => p.pid < 0xA100 && p.kind = 1)
  let d1 := ps.foldl (fun e p => forAll (p.n / 4) (fun j y =>
    setPrm p.pid (p.n / 4 * u + j) (factory p.pid (p.n / 4 * u + j)) y) e) d
  modUnit u (fun y => { refill y with st := 0, cfgWait := [] }) d1

/-- Recorder units that the device takes over or gives back are set up anew (R324); a unit that the host turns off is
IDLE (R327). Log entry 40 (DEDUCED). -/
def landUnits (x : Ctx) (d : Dev) : Dev :=
  forAll 4 (fun u e =>
    let own := prm e 0x5140 0 = u
    if loupeOwned x.old u ≠ loupeOwned e u ∨ decide (prm x.old 0x5140 0 = u) ≠ decide own then
      let e1 := clearUnit u e
      if own then loadMasks u (setUpUnit u e1) else e1
    else if own ∧ x.of (fun pid => 0x5110 ≤ pid && pid ≤ 0x5142) ≠ [] then loadMasks u e
    else if x.has 0xA000 u ∧ prm e 0xA000 u = 0 ∧ (unit e u).st ≠ 4 then
      modUnit u (fun y => { refill y with st := 0 }) (landCfg u e)
    else e) d

/-- Changed probe parameters restart the correlation (R237). -/
def landCharm (x : Ctx) (d : Dev) : Dev :=
  if x.of (fun pid => 0x6010 ≤ pid && pid ≤ 0x6012) = [] then d else charmReset d

/-- A changed parameter of the input that sweeps ends its sweep (R267). -/
def landSweep (x : Ctx) (d : Dev) : Dev :=
  let q := d.pv.sweepQ
  let own := fun (k : Nat) => (0x7100 ≤ k / 65536 && k / 65536 ≤ 0x7106 && k % 65536 = q) ||
    (k / 65536 = 0x7110 && (pvLegs d q).contains (k % 65536))
  if d.pv.sweepPh ≠ 0 ∧ x.ch.any own then sweepAbort d else d

/-- A metering point whose set-up changes starts anew. -/
def landCarat (x : Ctx) (d : Dev) : Dev :=
  forAll 33 (fun m e =>
    let hit := fun (k : Nat) =>
      let pid := k / 65536
      if m = 0 then pid = 0x9000 || (0x9001 ≤ pid && pid ≤ 0x9003) || pid = 0x9009
      else pid = 0x9000 || (0x9010 ≤ pid && pid ≤ 0x9013 && k % 65536 + 1 = m)
    if x.ch.any hit then modPt m (fun _ => {}) e else e) d

/-- The points of an entry's range. -/
def rangeOf (d : Dev) (e : Nat) : List Nat :=
  if prm d 0xB100 e = 0 then [] else (List.range (prm d 0xB103 e)).map (fun k => prm d 0xB102 e + k)

/-- A partner entry whose kind, range or type changes: the points it leaves are bound no more, and those it takes are
bound to it, with no value until one is received (R394). An entry whose kind changes counts its silence from here.
Log entry 41 (DEDUCED). -/
def landBindings (x : Ctx) (d : Dev) : Dev :=
  let es := ((x.of (fun pid => pid = 0xB100 || (0xB102 ≤ pid && pid ≤ 0xB104))).map (fun k => k % 65536)).eraseDups
  let d1 := es.foldl (fun e n => (rangeOf x.old n).foldl (fun y p => { y with pts := tdel p y.pts }) e) d
  let d2 := es.foldl (fun e n => (rangeOf e n).foldl (fun y p =>
    let old := point x.old p
    let new : Point := if old.bound ∧ old.partner = n ∧ old.typ = prm e 0xB104 n then old
      else { typ := prm e 0xB104 n, bound := true, partner := n }
    { y with pts := tput {} p new y.pts }) e) d1
  es.foldl (fun e n => if x.has 0xB100 n then modEnt n (fun y => { y with lost := false, lastRx := e.t }) e else e) d2

/-- Changed modes of ports and lanes act at once; a lane whose mode, rate or polarity changes starts anew (R412, R424).
Log entry 42 (DEDUCED). -/
def landPorts (x : Ctx) (d : Dev) : Dev :=
  let d1 := forAll 12 (fun p e => if x.has 0xB000 p then canMode p e else e) d
  let d2 := forAll 8 (fun k e => if x.has 0xC000 k ∨ x.has 0xC001 k ∨ x.has 0xC002 k ∨ x.has 0xC007 k then
    (if k < 2 ∧ (ethPort e k).link then linkDown k e else laneReset k e) else e) d1
  let d3 := forAll 2 (fun i e => if x.has 0xC020 i then
    (if (ethPort e i).link then linkDown i e else laneReset i e) else e) d2
  if x.of (fun pid => pid = 0xC000 || pid = 0xC001) = [] ∨ ¬ d3.clk.refOk then d3
  else { d3 with clk := { d3.clk with lock := d3.clk.lock ||| (loopsNeeded d3 &&& 48) } }

/-- Changed PTP ports start anew, and changed time pulses are planned anew (R438, R445). Log entry 42 (DEDUCED). -/
def landTime (x : Ctx) (d : Dev) : Dev :=
  let all := x.of (fun pid => pid = 0xC040 || pid = 0xC042 || pid = 0xC045) ≠ []
  let d1 := forAll 2 (fun i e => if all ∨ x.has 0xC046 i ∨ x.has 0xC047 i then ptpInit i e else e) d
  forAll 8 (fun k e => if x.ch.any (fun c => 0xC060 ≤ c / 65536 && c / 65536 ≤ 0xC066 && c % 65536 = k) then
    pulsePlan true k e else e) d1

/-- A landed key of class 3 leaves the device with a warden (R483). Log entry 42 (DEDUCED). -/
def landKeys (x : Ctx) (d : Dev) : Dev :=
  if x.of (fun pid => pid = 0xE010) ≠ [] ∧ (List.range 8).any (fun k => keyEnabled d k && keyClass d k = 3) then
    { d with sec := { d.sec with warden := true } } else d

/-- Every effect of the landed changes, in this order. -/
def landEffects (x : Ctx) (d : Dev) : Dev :=
  let d1 := landUnits x (landOwned x (landWins x (landRoles x (landPwm x (landTaps x (landCas x d))))))
  let d2 := landBindings x (landCarat x (landSweep x (landCharm x d1)))
  landKeys x (calAbort (fun i => ainTouched x i = []) (landTime x (landPorts x d2)))

/-- A commit of the groups in `mask` lands: every changed instance, and after it no staged change is left in those groups
(R382). A swap of the Filigree banks is part of it (R88). -/
def landGroups (mask : Nat) (d : Dev) : Dev :=
  let x := commitCtx d mask
  let vs := changedVals d mask
  let d1 := landOff (vs.foldr (fun kv e => landOne kv.1 kv.2 e) d)
  let keep := d.prm.staged.filter (fun e =>
    match groupOf d (e.1 / 65536) (e.1 % 65536) with
    | some g => !bit mask g
    | none => true)
  let d2 := { d1 with prm := { d1.prm with staged := keep, declStaged := if bit mask 0 then [] else d1.prm.declStaged } }
  let d3 := landEffects x ((changedDecls d mask).foldl (fun e kv => declare kv.1 kv.2 e) d2)
  if vs.contains (pkey 0x2001 0, 1) then bankSwap d3 else d3

/-! ### Snapshots (R387, R388, R545) -/

/-- The configuration that a snapshot holds: the kept values in force, the active bank, and the image of the declared and
bound points (R346). Log entry 44 (DEDUCED). -/
def snapBody (d : Dev) : Snapshot :=
  let c := landedCfg d
  { written := true, seq := (d.lkt.snapSeq + 1) % 2 ^ 32, format := fwRelease d,
    params := c.prm.active.filter (fun e => match descOf (e.1 / 65536) with
      | some x => x.kept
      | none => false),
    bank := activeBank d,
    points := d.pts.filterMap (fun e => if e.2.hostPt ∨ e.2.bound then
      some (e.1, { typ := e.2.typ, hostPt := e.2.hostPt, bound := e.2.bound, partner := e.2.partner }) else none) }

/-- The slot that does not hold the newest complete snapshot: `true` for B. Log entry 44 (DEDUCED). -/
def snapTarget (d : Dev) : Bool := !d.lkt.newestB && d.lkt.slotA.header

/-- A snapshot write begins: the header of the target slot is cleared first (R545). Log entry 44 (DEDUCED). -/
def snapBegin (d : Dev) : Dev :=
  let l := { d.lkt with body := snapBody d, snapState := 1, again := false, retryDue := false, retrying := false }
  { d with lkt := if snapTarget d then { l with slotB := { l.slotB with header := false, written := true } }
    else { l with slotA := { l.slotA with header := false, written := true } } }

/-- A landed COMMIT calls for a snapshot; while one is being written, one more follows it (R388). -/
def snapshot (d : Dev) : Dev :=
  if snapWriting d then { d with lkt := { d.lkt with again := true } } else snapBegin d

/-- The write of a snapshot ends. Log entry 44 (DEDUCED). -/
def snapDone (ok : Bool) (d : Dev) : Dev :=
  if ¬ snapWriting d ∨ d.lkt.retryDue ∨ ¬ d.sys.up then d
  else if ok then
    let b := snapTarget d
    let x := { d.lkt.body with header := true }
    let l := { d.lkt with newestB := b, snapSeq := x.seq, snapState := 0, retrying := false, body := {} }
    let d1 := { d with lkt := if b then { l with slotB := x } else { l with slotA := x } }
    if d.lkt.again then snapBegin d1 else d1
  else if d.lkt.retrying then
    let d1 := { d with lkt := { d.lkt with snapState := 2, retrying := false, body := {} } }
    if d.lkt.again then snapBegin d1 else d1
  else { d with lkt := { d.lkt with retryDue := true, failT := d.t } }

/-- `SNAPSHOT_WRITE_DONE`. Log entry 147 (DESIGN CHOICE). -/
def execSnapshotWriteDone (t : Nat) (ok : Bool) (s : State) : Host.Outcome State Fault Refusal := lift t (snapDone ok) s

/-- `SNAPSHOT_RETRY`: 100 ms after a write failed, it is tried once more (R388). Log entry 44 (DEDUCED). -/
def snapRetry (d : Dev) : Dev :=
  if snapWriting d ∧ d.lkt.retryDue ∧ d.lkt.failT + 100 * ticksPerMs ≤ d.t then
    { d with lkt := { d.lkt with retryDue := false, retrying := true } }
  else d

def execSnapshotRetry (t : Nat) (s : State) : Host.Outcome State Fault Refusal := lift t snapRetry s

/-! ### The command -/

/-- Some instance changes in the groups of `mask` (R385). -/
def commitChanges (d : Dev) (mask : Nat) : Bool := changedVals d mask ≠ [] || changedDecls d mask ≠ []

/-- A COMMIT without a change is done at once, but for one of every group while factory values are in force (R385). -/
def commitIdle (d : Dev) (mask : Nat) : Bool := !commitChanges d mask && !(d.sys.factory && mask = 0xFFFFFFFF)

/-- The GROUPS mask and the CHECK_ONLY flag of a COMMIT (R364). -/
def commitMask (c : Cmd) : Nat := field c.body 3 0
def checkOnly (c : Cmd) : Bool := bit (field c.body 4 4) 0

/-- `COMMIT`: the checks of the named groups start (R382). -/
def commitGo (c : Cmd) (d : Dev) : Dev :=
  if checkOnly c then d
  else if d.sys.standby then finish c 1 9 [] d
  else if commitIdle d (commitMask c) then finish c 0 0 (le 8 0) d
  else
    let d1 := goLong c d
    { d1 with commit := some ⟨commitMask c, c.slot, cmdClass d c, none, 0⟩ }

def execCommit (t slot : Nat) (s : State) : Host.Outcome State Fault Refusal := liftCmd t slot 0x03 commitGo s

/-- The verdict on a commit by a session of class `cls`: its status and DETAIL, OK where nothing stands against it (R380,
R381). -/
def commitVerdict (d : Dev) (mask cls : Nat) : Nat × Nat :=
  let x := commitCtx d mask
  let need := neededClass d x.ch
  if cls < need then (2, need)
  else match firstOf (allRules x) with
    | some k => (0x0B, pdet (k / 65536) (k % 65536))
    | none => (0, 0)

/-- `COMMIT_CHECK_ONLY`: every check, at once, and nothing lands (R364). -/
def commitCheck (c : Cmd) (d : Dev) : Dev :=
  if ¬ checkOnly c then d
  else if d.sys.standby then finish c 1 9 [] d
  else
    let v := commitVerdict d (commitMask c) (cmdClass d c)
    finish c v.1 v.2 (if v.1 = 0 then le 8 0 else []) d

def execCommitCheckOnly (t slot : Nat) (s : State) : Host.Outcome State Fault Refusal := liftCmd t slot 0x03 commitCheck s

/-- The first epoch tick, as a count of epochs, at least 200 µs after `t` (R382). Log entry 36 (DEDUCED). -/
def landingEpoch (t : Nat) : Nat := (t + 80000 + 399999) / 400000

/-- `COMMIT_CHECKS_DONE`: the COMMIT ends with its verdict, or its landing tick is set and told to the standby (R380,
R459). Log entry 36 (DEDUCED). -/
def checksDone (d : Dev) : Dev :=
  match d.commit with
  | some j =>
    if j.passedAt.isSome ∨ ¬ d.sys.up ∨ d.mbx.paused ∨ d.sys.testStop then d
    else
      let v := commitVerdict d j.groups j.cls
      if v.1 ≠ 0 then finishLong j.slot v.1 v.2 [] { d with commit := none }
      else
        let le_ := landingEpoch d.t
        let swap := (changedVals d j.groups).contains (pkey 0x2001 0, 1)
        mirrorOut 6 j.groups le_ [] { d with commit := some { j with passedAt := some d.t, landEp := le_ },
                                             fil := { d.fil with swapPend := swap } }
  | none => d

/-- Log entry 147 (DESIGN CHOICE). -/
def execCommitChecksDone (t : Nat) (s : State) : Host.Outcome State Fault Refusal := lift t checksDone s

/-- A landed COMMIT that changes a protection parameter or a key slot appends an audit entry (R487).
Log entry 43 (DEDUCED). -/
def audit (j : CommitJob) (x : Ctx) (d : Dev) : Dev :=
  if x.of (fun pid => isProtect pid || pid = 0xE010) = [] then d
  else
    let e := le 8 (tMs d) ++ le 4 j.groups ++ [BitVec.ofNat 8 (if d.sec.keyed then d.sec.slot else 0xFF),
      BitVec.ofNat 8 j.cls] ++ le 2 0 ++ (protectDigest d).take 16
    journal (.audit e) { d with sec := { d.sec with audit := (e :: d.sec.audit).take 64 } }

/-- The COMMIT that is due at this epoch tick: it waits for a replay (R93), ends with ABORTED where a rule on the state or
the service of legs, or the class, fails now (R384), or lands and completes (R382). Log entry 36 (DEDUCED). -/
def commitLand (d : Dev) : Dev :=
  match d.commit with
  | some j =>
    if j.passedAt.isNone ∨ d.t < j.landEp * 400000 then d
    else
      let x := commitCtx d j.groups
      if (changedVals d j.groups).contains (pkey 0x2001 0, 1) ∧ d.fil.replay.isSome then
        raiseI 28 0 { d with commit := some { j with landEp := ep d + 1 } }
      else if stateRules x ≠ [] ∨ j.cls < neededClass d x.ch then
        finishLong j.slot 0x10 (stCode d.sys.st) [] (dropCommit d)
      else
        let d1 := audit j x (lineRise d (landGroups j.groups { d with commit := none }))
        snapshot (finishLong j.slot 0 0 (le 8 (tMs d)) { d1 with sys := { d1.sys with factory := false } })
  | none => d

/-- `COMMIT_LANDING`: the landing at its epoch tick, where `EPOCH_TICK` has not done it. -/
def commitLandCmd (d : Dev) : Dev :=
  if d.sys.up ∧ locked d 2 ∧ ¬ d.mbx.paused ∧ ¬ d.sys.testStop ∧ d.t % 400000 = 0 then commitLand d else d

def execCommitLanding (t : Nat) (s : State) : Host.Outcome State Fault Refusal := lift t commitLandCmd s

end Sys2Proof.Machine
end

