-- ==== Sys2Proof/Machine/Delivery.lean ====
section
/-!
DEFINITION. Results on their way to what reads them: converter results, cascade outputs, and the end of a replay (R31,
R36, R38, R77, R106, R176).
-/
namespace Sys2Proof.Machine

/-- Everything that takes a new result of input `i`: recorder rows, cascades and setpoints, Charm's chips, PV, leg stress,
and energy. Log entry 54 (DEDUCED). -/
def feedAin (i : Nat) (d : Dev) : Dev :=
  let d1 := deliverAin i (rowResult (0x1000 + i) (ain d i).res.stamp d)
  let d2 := if prm d1 0x5012 0 = i then charmSample d1 else d1
  caratFeed i (stressFeed i (pvFeed i d2))

/-- Ticks from the sampling instant of position `p` of Facet `f` to its result: 110 in the converter, then 8, or 12 on an
input with the Rogowski integrator (R31). -/
def latency (d : Dev) (f p : Nat) : Nat := if f < 12 ∧ p < 14 ∧ prm d 0x1100 (14 * f + p) = 3 then 122 else 118

/-- The conversion of Facet `f` whose result is due next: what came into force at its scan start acts from it on (R46).
One that was due before the present tick has passed. Log entry 54 (DEDUCED). -/
def takeDue (f : Nat) (xs : List ScanItem) (d : Dev) : Option ScanItem × Dev :=
  match xs with
  | [] => (none, d)
  | it :: r =>
    let d1 := applyChange f it.change (modFacet f (fun x => { x with due := r }) d)
    if it.at_ + latency d1 f it.pos < d.t then takeDue f r d1 else (some it, d1)

/-- The result of a conversion `it` of Facet `f` with its raw code. -/
def resultOf (f : Nat) (it : ScanItem) (raw : Int) (clip : Bool) (d : Dev) : Dev :=
  if f < 12 ∧ it.pos < 14 then
    let r := convert (14 * f + it.pos) raw clip it.spare it.at_ d
    if r.2 then feedAin (14 * f + it.pos) r.1 else r.1
  else diagResult f it.pos raw clip it.spare it.at_ d

/-- `AIN_RESULT_DELIVERED`: position `p` of Facet `f`: an input below 14, a diagnostic position above. It is the next
conversion of the scan, and its result is due at this tick (R31, R32); its STAMP is the low half of its sampling tick (R36).
Log entries 54 (DEDUCED), 162 (DEDUCED). -/
def ainResult (f p : Nat) (raw : Int) (clip : Bool) (stampT : Nat) (d : Dev) : Dev :=
  if ¬ d.sys.up ∨ (d.sys.st = .doze ∧ d.sys.auto ≠ .wakeCheck) ∨ 13 ≤ f then d
  else
    match takeDue f (facet d f).due d with
    | (none, _) => d
    | (some it, d1) =>
      if it.pos = p ∧ d.t = it.at_ + latency d1 f p ∧ stampT = it.at_ % 2 ^ 32 then resultOf f it raw clip d1
      else d

def execAinResultDelivered (t f p : Nat) (raw : Int) (clip : Bool) (stamp : Nat) (s : State) :
    Host.Outcome State Fault Refusal :=
  lift t (ainResult f p raw clip stamp) s

/-- `CASCADE_EVAL_DONE`: the output is written, and recorder units whose row instants it gives take it (R77, R325). -/
def evalFinish (c : Nat) (parity : TransferParity) (d : Dev) : Dev :=
  let d1 := evalDone c parity d
  if (cas d c).job.isSome ∧ (cas d1 c).job = none ∧ ¬ d1.fil.haltAll then rowResult (0x2000 + c) (cas d1 c).out.origin d1 else d1

def execCascadeEvalDone (t c : Nat) (parity : TransferParity) (s : State) : Host.Outcome State Fault Refusal :=
  lift t (evalFinish c parity) s

end Sys2Proof.Machine
end

