-- ==== Sys2Proof/Machine/Replica.lean ====
section
/-!
DEFINITION. The configuration that a standby takes from its active device: parameter writes, commits and snapshots
(R456, R459).
-/
namespace Sys2Proof.Machine

/-- The values of a parameter write record: instance and value (R364, R459). Log entry 139 (DEDUCED). -/
def recordVals (x : Desc) (b : List Byte) : List (Nat × Nat) :=
  let first := field b 3 2
  (List.range (field b 5 4)).map (fun k => (first + k, ofLe ((b.drop (8 + x.vsize * k)).take x.vsize)))

/-- Act with the staged values of what each device keeps as its own set aside: neither a mirrored commit nor a mirrored
discard touches them (R456). Log entry 139 (DEDUCED). -/
def keepOwn (f : Dev → Dev) (d : Dev) : Dev :=
  let own := d.prm.staged.filter (fun e => notMirrored (e.1 / 65536))
  let d1 := f { d with prm := { d.prm with staged := d.prm.staged.filter (fun e => !notMirrored (e.1 / 65536)) } }
  { d1 with prm := { d1.prm with staged := own.foldl (fun m e => tins e.1 e.2 (tdel e.1 m)) d1.prm.staged } }

/-- A parameter write record applies a PSET of the active device: staged, immediate or banked. What each device keeps as
its own is left out, and so are the driver clear that a standby refuses (R456, R458) and the clear of a window's latch,
which no mirror update undoes (R158). A record that names an index outside its range changes nothing (R4).
Log entry 47 (DEDUCED). -/
def paramWrite (kind : Nat) (b : List Byte) (d : Dev) : Dev :=
  let pid := field b 1 0
  match descOf pid with
  | none => d
  | some x =>
    if ¬ mirrors d ∨ notMirrored pid ∨ pid = 0x3132 ∨ pid = 0x4010 ∨ recKind x ≠ kind ∨ field b 7 6 ≠ x.vsize ∨
        x.n < field b 3 2 + field b 5 4 then d
    else
      let vs := recordVals x b
      if kind = 0 then vs.foldl (fun e iv => stage pid iv.1 iv.2 e) d
      else if kind = 2 then vs.foldl (fun e iv => bankWrite pid iv.1 iv.2 e) d
      else keepOwn (fun y => vs.foldl (fun e iv => immediateOp 3 pid iv.1 iv.2 e) y) d

/-- `MIRROR_PARAM_WRITE_RX`. -/
def execMirrorParamWriteRx (t kind : Nat) (payload : List Byte) (s : State) : Host.Outcome State Fault Refusal :=
  lift t (paramWrite kind payload) s

/-- `MIRROR_COMMIT_RX`: the commit lands at the tick that the record names (R456, R459). Log entry 139 (DEDUCED). -/
def mirrorCommit (groups landMs : Nat) (d : Dev) : Dev :=
  if mirrors d then { d with pnd := { d.pnd with commit := some (groups, landMs) } } else d

def execMirrorCommitRx (t groups landMs : Nat) (s : State) : Host.Outcome State Fault Refusal :=
  lift t (mirrorCommit groups landMs) s

/-- The landing of a mirrored commit, which the active device has checked. Log entry 139 (DEDUCED). -/
def mirrorLand (d : Dev) : Dev :=
  match d.pnd.commit with
  | some (g, ms) =>
    if d.t < ms * 400000 then d
    else
      let d1 := keepOwn (landGroups g) { d with pnd := { d.pnd with commit := none } }
      snapshot { d1 with sys := { d1.sys with factory := false } }
  | none => d

/-- A value names a parameter that exists, at an index in its range (R4). -/
def valInRange (v : ParamVal) : Bool :=
  match descOf v.pid with
  | some x => decide (v.idx < x.n)
  | none => false

/-- Every value of a snapshot chunk names an index in its range. Log entry 139 (DEDUCED). -/
def chunkOk (c : SnapChunk) : Bool := (c.active ++ c.staged ++ c.bank).all valInRange

/-- The values of a snapshot that the standby takes over. Log entry 139 (DEDUCED). -/
def takesValue (v : ParamVal) : Bool := !notMirrored v.pid && v.pid ≠ 0x0052 && v.pid ≠ 0x2001

/-- The kind of a parameter, 5 where there is none. Log entry 139 (DEDUCED). -/
def kindOf (pid : Nat) : Nat := match descOf pid with
  | some x => x.kind
  | none => 5

/-- A value that takes a window out of protection; as no COMMIT carries it, the window's latches stay (R158).
Log entry 139 (DEDUCED). -/
def unguards (v : ParamVal) : Bool := v.pid = 0x4000 && v.val ≤ 1

/-- Active values of the peer land here with all that a commit of them would start, but for what R158 forbids; its active
bank and its immediate-acting values are written as they are. Log entry 139 (DEDUCED). -/
def takeActive (vs : List ParamVal) (d : Dev) : Dev :=
  let ws := vs.filter takesValue
  let own := d.prm.staged
  let d0 := (ws.filter unguards).foldl (fun e v => setPrm v.pid v.idx v.val e) { d with prm := { d.prm with staged := [] } }
  let d1 := (ws.filter (fun v => kindOf v.pid = 1)).foldl (fun e v => stage v.pid v.idx v.val e) d0
  let d2 := landGroups 0xFFFFFFFF d1
  let d3 := { d2 with prm := { d2.prm with staged := own.filter (fun e => e.2 ≠ prm d2 (e.1 / 65536) (e.1 % 65536)) } }
  ws.foldl (fun e v =>
    if kindOf v.pid = 2 then setPrm v.pid v.idx v.val e
    else if kindOf v.pid = 4 then
      (if e.fil.bank then { e with fil := { e.fil with bank1 := bankPut v.pid v.idx v.val e.fil.bank1 } }
       else { e with fil := { e.fil with bank0 := bankPut v.pid v.idx v.val e.fil.bank0 } })
    else e) d3

/-- `MIRROR_SNAPSHOT_CHUNK_RX`: the values of a chunk take their places; with the last byte of the transfer, which ends
it, the standby writes its Locket (R456). A chunk that names an index outside its range changes nothing (R4).
Log entry 139 (DEDUCED). -/
def snapChunk (c : SnapChunk) (d : Dev) : Dev :=
  if ¬ mirrors d ∨ ¬ chunkOk c then d
  else
    let d1 := takeActive c.active d
    let d2 := (c.staged.filter takesValue).foldl (fun e v => if kindOf v.pid = 1 then stage v.pid v.idx v.val e else e) d1
    let d3 := (c.bank.filter takesValue).foldl (fun e v =>
      if kindOf v.pid = 4 then setOther (bankPut v.pid v.idx v.val (otherBank e)) e else e) d2
    let at_ := c.offset + c.len
    let d4 := { d3 with pnd := { d3.pnd with xfer := decide (at_ < c.total),
                                             xferPct := if c.total ≤ at_ then 100 else 100 * at_ / c.total } }
    if c.total ≤ at_ then snapshot d4 else d4

def execMirrorSnapshotChunkRx (t : Nat) (chunk : SnapChunk) (s : State) : Host.Outcome State Fault Refusal :=
  lift t (snapChunk chunk) s

end Sys2Proof.Machine
end

