-- ==== Sys2Proof/Machine/Epoch.lean ====
section
/-!
DEFINITION. The fabric epoch tick, every whole millisecond of network time: the order of R383, and the epoch work of every
unit.
-/
namespace Sys2Proof.Machine

/-- Epoch work is done at this tick: not in OFF, CLASP or DOZE, with the PWM PLL locked, and not in the pause of a live
activation, the save after an early warning, or a stop by TEST_EN (R29, R470, R517, R528). -/
def epochRuns (d : Dev) : Bool :=
  d.sys.up && tracks d && locked d 2 && !d.mbx.paused && !d.hold.saveMode && !d.sys.testStop && d.t % 400000 = 0

/-- What the tick measures: the estimator, the powers, the regions and TIME_OK (R178 to R180, R203, R207, R242).
Log entry 138 (DEDUCED). -/
def epochFacts (d : Dev) : Dev := timeOkStep (rtEvaluate (measure (lockStep (rawStep (estimate d)))))

/-- The peer, as mirrored, runs as in RUN. -/
def peerRuns (d : Dev) : Bool := d.pnd.mirror = .run || (d.pnd.mirror = .service && d.pnd.mirrorSvc = .run)

/-- R208 as a standby judges it on its own measurements (R499). -/
def peerMustTrip (d : Dev) : Bool :=
  (peerRuns d || d.pnd.mirror = .ride || d.pnd.mirror = .form) &&
    (d.rt.regU = 2 || d.rt.regF = 2 || (d.gs.jump && decide (deci d 0x510D < absR d.gs.rawDev)))

/-- R243 as a standby judges it: the correlation of the active device's code, and the gross rate of change (R229, R240,
R247). -/
def peerIsland (d : Dev) : Bool :=
  let need := if d.charm.susp then prm d 0x6015 0 else prm d 0x6014 0
  prm d 0x6000 0 = 1 && prm d 0x6001 0 = 1 &&
    ((d.charm.valid && d.charm.peer && decide (need ≤ d.charm.zrun)) ||
      (peerRuns d && d.rt.regU = 0 && d.gs.lock && decide (centi d 0x6026 < absR d.charm.rocof)))

/-- A synced standby raises a demand on those decisions and does not change its state (R499). -/
def standbyDecide (d : Dev) : Dev :=
  if d.pnd.synced ∧ ¬ d.gd.dem ∧ (peerMustTrip d ∨ peerIsland d) then gdDemand true d else d

/-- Service work that was complete before the tick ends here, where no grid fault abandoned it (R26, R27). -/
def svcEnd (d : Dev) : Dev := if d.sys.auto = .svcExit ∧ d.sys.st = .service then svcExit d else d

/-- Step 1 of R383: trips, then the transition that R26 ranks first. A jump or a loss of LOCK that stands in RIDE acts there
(R206, R208, R240, R197). `lower` is whether transitions below TRIP take place; with rt.enable = 0 the entry
conditions of RIDE bring TRIP (R210). -/
def tripStep (lower lostLock : Bool) (d : Dev) : Dev :=
  if d.sys.standby then standbyDecide (charmStep d)
  else
    let d1 := charmStep (if mustTrip d then rtFire (enterTrip 0x22 d) else d)
    if lower then svcEnd (rideJump lostLock (rideStep d1))
    else if prm d 0x5100 0 = 0 then rideStep d1
    else d1

/-- Step 2: calibration results of the last epoch, then the COMMIT that is due, of this device or mirrored. -/
def commitStep (d : Dev) : Dev :=
  let d1 := caratLand (calLand d)
  if d1.sys.standby then mirrorLand d1 else commitLand d1

/-- Step 3: the Setter's intent. -/
def intentStep (d : Dev) : Dev := if d.sys.standby then d else intentLanding d

/-- The mode weights that were staged before tick `k` land, if the state is still the one they were staged for (R197, R198).
Log entry 76 (DEDUCED). -/
def formStep (auto0 : Auto) (k : Nat) (d : Dev) : Dev :=
  if d.sys.auto ≠ auto0 then d
  else match auto0 with
    | .formByRequest => if d.sys.st = .run then formLand 0x05 k d else d
    | .formAuto c => if d.sys.st = .ride then formLand c k d else d
    | .formExit c => if d.sys.st = .form then formLeave c d else d
    | _ => d

/-- While a replay holds legs, the staged mode weights wait with the synthesis write (R176, R197).
Log entry 76 (DEDUCED). -/
def formTick (auto0 : Auto) (d : Dev) : Dev := if rplHolds d then d else formStep auto0 d.t d

/-- The mode weights that a tick would have landed. -/
def modeDue (auto0 : Auto) (d : Dev) : Auto := if d.sys.auto = auto0 then auto0 else .none

/-- Run `f` as the active device would: on a standby with the mirrored state in place of its own (R462).
Log entry 138 (DEDUCED). -/
def asActive (f : Dev → Dev) (d : Dev) : Dev :=
  if d.sys.standby then
    let e := f { d with
      sys := { d.sys with st := d.pnd.mirror, svcRet := d.pnd.mirrorSvc, formAuto := d.pnd.mirrorAuto }
      gs := { d.gs with forming := decide (d.pnd.mirror = .form) } }
    { e with sys := d.sys }
  else f d

/-- The commands of the epoch, which land at the next tick (R184 to R188, R195, R196, R213, R235). -/
def powerEpoch (d : Dev) : Dev :=
  let d1 := commandStep (dcSample (dispatchStep d))
  if d1.gs.forming then swing (measure d1) else followE d1

/-- The device arms its compliance unit whenever that is IDLE (R324). -/
def armOwn (d : Dev) : Dev :=
  let u := prm d 0x5140 0
  if u < 4 ∧ (unit d u).st = 0 then armUnit u 0 d else d

/-- Work of the protection and island units that is no decision of step 1, and the compliance recorder. -/
def watchEpoch (d : Dev) : Dev := armOwn (derivedRow (exitRuns d))

/-- Ages, load misses and a retune of the synthesis (R181, R190, R199). -/
def tuneEpoch (d : Dev) : Dev := retuneStep (missStep (ageStep d))

/-- PV, the Setter's sums, leg stress and energy qualification. -/
def plantEpoch (d : Dev) : Dev :=
  let d1 := stressStep (pvEpoch d)
  qualStep (if d1.sys.standby then d1 else freezeStep (setterStep d1))

/-- The device points that are updated at every epoch tick (R393). -/
def pointsEpoch (d : Dev) : Dev := reportPoints (pvPoints (charmPoints (rtPoints (gsPoints d))))

/-- The channel, the pair, firmware, attestation, clock phase and the lane demand of the epoch. -/
def serviceEpoch (d : Dev) : Dev :=
  let d1 := epochPhase (attestStep (liveStep (pndEpoch (gdEpoch d))))
  let d2 := probeSend d1
  { d2 with fil := { d2.fil with cyclesLast := d2.fil.cycles, cycles := 0 } }

/-- The work of a tick: R383's four steps, then the epoch's work; without `lower` no transition but to TRIP. -/
def epochBody (lower : Bool) (d : Dev) : Dev :=
  let auto0 := d.sys.auto
  let f := epochFacts d
  let d1 := intentStep (commitStep (tripStep lower (d.gs.lock && !f.gs.lock) f))
  let d2 := ownWrites (modeDue auto0 d1) (landRebuild (if lower then formTick auto0 d1 else d1))
  let d3 := asActive powerEpoch (probeStep (tMs d2) d2)
  serviceEpoch (pointsEpoch (plantEpoch (tuneEpoch (watchEpoch d3))))

/-- One tick makes one transition (R26): where a second one followed the first, the tick runs with the cause of TRIP
alone, which ranks first. Log entries 6 (DESIGN CHOICE), 51 (DEDUCED). -/
def ranked (d r : Dev) : Dev :=
  let r1 := epochBody false d
  if r.sys.seq ≠ d.sys.seq ∧ r.sys.seq ≠ (d.sys.seq + 1) % 256 ∧ r1.sys.st = .trip then r1 else r

/-- The tick. -/
def epochTick (d : Dev) : Dev := if epochRuns d then ranked d (epochBody true d) else d

/-- The synthesis write that waited for the end of a replay lands (R176): the rebuild of a landing, the mode weights of its
tick with their change of state, and the weights themselves; E then stands for the next tick. -/
def deferredLand (d : Dev) : Dev :=
  let w := d.gs.due
  let d1 := formStep w.mode w.t (landRebuild d)
  if d1.gs.forming = w.forming then lateWrite w d1
  else
    let v := { dueNow .none d1 with t := w.t, fTune := w.fTune, retuneDue := w.retuneDue }
    let d2 := lateWrite v d1
    { d2 with gs := { d2.gs with eTh := if d2.gs.forming then d2.gs.eTh + 360 * d2.gs.fE / 1000 else d2.gs.eTh } }

/-- `REPLAY_END`: the replay is done, and the synthesis writes that waited for it land (R106, R176). -/
def replayFinish (repaired : Bool) (d : Dev) : Dev :=
  let d1 := replayDone repaired d
  if d1.gs.deferred ∧ d1.fil.replay.isNone ∧ ¬ d1.fil.haltAll then deferredLand d1 else d1

def execReplayEnd (t : Nat) (repaired : Bool) (s : State) : Host.Outcome State Fault Refusal := lift t (replayFinish repaired) s

/-- `EPOCH_TICK`. Log entries 2 (DESIGN CHOICE), 6 (DESIGN CHOICE). -/
def execEpochTick (t : Nat) (s : State) : Host.Outcome State Fault Refusal := lift t epochTick s

end Sys2Proof.Machine
end

