-- ==== Sys2Proof/Machine/HostPort.lean ====
section
/-!
DEFINITION. The host port: reads and writes of the host address space, QSPI frames and Igzan datagrams (R350 to R358,
R541).
-/
namespace Sys2Proof.Machine

/-! ### The address space (R351, R352) -/

/-- The offsets of the 50 direct registers. -/
def regOffsets : List Nat :=
  [0x000, 0x004, 0x040, 0x044, 0x048, 0x04C, 0x050, 0x060, 0x064, 0x068, 0x06C, 0x070, 0x074, 0x080, 0x090, 0x0A0, 0x0A4,
   0x0B0, 0x0B4, 0x0B8, 0x0BC, 0x0C0, 0x0C4, 0x0C8, 0x0CC, 0x0D0, 0x0D4, 0x0D8, 0x0DC, 0x0E0, 0x0E4, 0x0E8, 0x0EC, 0x0F0,
   0x100, 0x104, 0x108, 0x10C, 0x110, 0x114, 0x118, 0x11C, 0x120, 0x124, 0x128, 0x12C, 0x130, 0x134, 0x138, 0x13C]

/-- A register stands at `off`: a direct one or a mirror (R353). -/
def isReg (off : Nat) : Bool :=
  regOffsets.contains off || (off % 4 = 0 &&
    ((0x200 ≤ off && off < 0x2C0) || (0x300 ≤ off && off < 0x3E0) || (0x400 ≤ off && off < 0x480) ||
      (0x480 ≤ off && off < 0x4C0) || (0x4C0 ≤ off && off < 0x4E0) || (0x4E0 ≤ off && off < 0x4E8)))

/-- The four bytes at word address `off`: a register, a slot or the completion queue; 0 elsewhere.
Log entry 12 (DEDUCED). -/
def hostWord (m : List Host.Cell) (d : Dev) (off : Nat) : List Byte :=
  if ¬ fastOn d then le 4 0
  else if off < 0x1000 then le 4 (regVal d off)
  else if d.sys.up ∧ ((0x2000 ≤ off ∧ off < 0x4000) ∨ (0x4000 ≤ off ∧ off < 0x4400)) then readMem m off 4
  else le 4 0

/-- The read of `n` bytes from `a`, word by word; what a word's read does happens where its byte 0 is covered. -/
def readRange (m : List Host.Cell) (a n : Nat) (d : Dev) : List Byte × Dev :=
  let w0 := a / 4
  let cnt := if n = 0 then 0 else (a + n + 3) / 4 - w0
  (List.range cnt).foldl (fun r k =>
    let off := 4 * (w0 + k)
    let lo := max a off
    let hi := min (a + n) (off + 4)
    let bs := ((hostWord m r.2 off).drop (lo - off)).take (hi - lo)
    (r.1 ++ bs, if lo = off ∧ off < 0x1000 ∧ fastOn d then regTouch off r.2 else r.2)) ([], d)

/-- A write of a whole direct register: its writable fields (R352). Reserved and read-only bits are ignored (R6, R8).
Log entry 27 (DEDUCED). -/
def regWrite (m : List Host.Cell) (off v : Nat) (d : Dev) : Dev :=
  if off = 0x040 then doorWrite m v d
  else if ¬ d.sys.up then d
  else match off with
  | 0x04C => headWrite v d
  | 0x060 => evPendWrite 0 v d
  | 0x064 => evPendWrite 1 v d
  | 0x068 => evPendWrite 2 v d
  | 0x06C => evPendWrite 3 v d
  | 0x080 =>
    let d1 := facetFltWrite (bits v 23 12) d
    if bit v 24 then spareFltWrite d1 else d1
  | 0x090 => if bit v 24 then uncWrite d else d
  | 0x0A0 => { d with pwm := { d.pwm with
      skewAny := d.pwm.skewAny && !bit v 18, shootAny := d.pwm.shootAny && !bit v 19 } }
  | 0x0D4 => selWrite v d
  | 0x0F0 => if bit v 25 then { d with can := { d.can with ovf := false } } else d
  | 0x114 => { d with time := { d.time with capSel := bits v 2 0 } }
  | 0x12C => if bit v 3 then faultWrite d else d
  | _ => d

/-- The registers that a write of `bs` from `a` covers: whole ones are written, a part of one sets ACC_ERR.
Log entry 27 (DEDUCED). -/
def writeRegs (m : List Host.Cell) (a : Nat) (bs : List Byte) (d : Dev) : Dev :=
  let w0 := a / 4
  let cnt := if bs = [] then 0 else (a + bs.length + 3) / 4 - w0
  (List.range cnt).foldl (fun e k =>
    let off := 4 * (w0 + k)
    if ¬ isReg off then e
    else if a ≤ off ∧ off + 4 ≤ a + bs.length then regWrite m off (ofLe ((bs.drop (off - a)).take 4)) e
    else if e.sys.up then setAccErr e
    else e) d

/-- One byte written to the slots; a slot that the device holds ignores it and sets WR_BUSY (R358).
Log entry 27 (DEDUCED). -/
def writeSlotByte (a : Nat) (b : Byte) (s : State) : State :=
  if s.dev.sys.up ∧ 0x2000 ≤ a ∧ a < 0x4000 then
    if bit s.dev.mbx.busy ((a - 0x2000) / 512) then { s with dev := setWrBusy s.dev }
    else { s with hostMem := writeMem s.hostMem a [b] }
  else s

/-- A write of `bs` from `a` on. The completion queue is not written by the host. Log entry 27 (DEDUCED). -/
def hostWrite (a : Nat) (bs : List Byte) (s : State) : State :=
  if ¬ fastOn s.dev then s
  else
    let s1 := { s with dev := writeRegs s.hostMem a bs s.dev }
    if a + bs.length ≤ 0x2000 ∨ 0x4000 ≤ a then s1
    else bs.zipIdx.foldl (fun e b => writeSlotByte (a + b.2) b.1 e) s1

/-- A command that may write the host memory, at tick `t`. Log entries 2 (DESIGN CHOICE), 13 (DESIGN CHOICE). -/
def liftS (t : Nat) (f : State → State) (s : State) : Host.Outcome State Fault Refusal :=
  .next { f { s with dev := { s.dev with t := t } } with pending := s.pending }

/-! ### QSPI and register accesses -/

/-- `QSPI_FRAME`: 0x02 writes, 0x0B reads `n` bytes, any other instruction byte sets ACC_ERR (R354). The port works while
HOSTSEL selects QSPI (R350). Log entry 28 (DEDUCED). -/
def qspiFrame (instr addr : Nat) (data : List Byte) (n : Nat) (s : State) : State :=
  let a := addr % 2 ^ 24
  if s.dev.boot.hostsel ∨ ¬ fastOn s.dev then s
  else if instr = 2 then hostWrite a data s
  else if instr = 0x0B then
    let r := readRange s.hostMem a n s.dev
    { s with dev := { r.2 with mbx := { r.2.mbx with hostRd := r.1 } } }
  else if s.dev.sys.up then { s with dev := setAccErr s.dev }
  else s

/-- Log entries 13 (DESIGN CHOICE), 28 (DEDUCED). -/
def execQspiFrame (t instr addr : Nat) (data : List Byte) (n : Nat) (s : State) : Host.Outcome State Fault Refusal :=
  liftS t (qspiFrame instr addr data n) s

/-- `REGISTER_CLEAR_ON_READ`: a read of direct registers or mirrors (R352, R353). Log entry 31 (DEDUCED). -/
def regRead (m : List Host.Cell) (addr n : Nat) (d : Dev) : Dev :=
  if addr + n ≤ 0x1000 ∧ fastOn d then
    let r := readRange m addr n d
    { r.2 with mbx := { r.2.mbx with hostRd := r.1 } }
  else d

def execRegisterClearOnRead (t addr n : Nat) (s : State) : Host.Outcome State Fault Refusal :=
  lift t (regRead s.hostMem addr n) s

/-- `REGISTER_WRITE`: a write to direct registers (R352). -/
def execRegisterWrite (t addr : Nat) (data : List Byte) (s : State) : Host.Outcome State Fault Refusal :=
  lift t (fun d => if addr + data.length ≤ 0x1000 ∧ fastOn d then writeRegs s.hostMem addr data d else d) s

/-! ### Igzan over UDP (R355, R356) -/

/-- A datagram with header and body `b` reaches a port that cannot take it, or is malformed: it is dropped and counted. One
of another type has a command of its own. Log entries 28 (DEDUCED), 29 (DEDUCED). -/
def udpAdmit (typ : Nat) (b : List Byte) (f : State → State) (s : State) : State :=
  if ¬ fastOn s.dev then s
  else if ¬ s.dev.boot.hostsel ∨ ¬ s.dev.sys.up ∨ ¬ igzanOk b then { s with dev := countUdpDrop s.dev }
  else if field b 3 3 ≠ typ then s
  else f s

/-- Send a reply of type `typ` with body `bs` to `dst`. -/
def udpSend (dst : Endpoint) (typ xid : Nat) (bs : List Byte) (d : Dev) : Dev :=
  { d with mbx := { d.mbx with sent := ⟨dst, le 2 0x5A49 ++ [1] ++ le 1 typ ++ le 4 xid ++ bs⟩ :: d.mbx.sent } }

/-- The stored completion of the slot answers a repeat: same TAG and CRC (R356). Log entry 29 (DEDUCED). -/
def repeatOf (d : Dev) (slot : Nat) (img : List Byte) : Option Stored :=
  match tget none d.mbx.stored slot with
  | some x => if x.tag = bits (field img 1 1) 3 0 ∧ x.crc = field img 15 12 then some x else none
  | none => none

/-- A type-1 datagram from `src`: a busy slot drops it, a repeat is answered from the store, any other writes the slot and
rings it (R356). Log entries 29 (DEDUCED), 149 (DESIGN CHOICE). -/
def udpCommand (src : Endpoint) (b : List Byte) (s : State) : State :=
  let slot := field b 8 8
  let xid := field b 7 4
  let img := (b.drop 12).take (16 + field b 15 14)
  let d := { s.dev with mbx := { s.dev.mbx with lastSender := some src } }
  if 16 ≤ slot then { s with dev := countUdpDrop s.dev }
  else if bit d.mbx.busy slot then { s with dev := countDoorBusy d }
  else match repeatOf d slot img with
    | some x => { s with dev := udpSend src 2 xid (x.entry ++ x.resp) d }
    | none =>
      let m := writeMem s.hostMem (slotAt slot) (img.take 512)
      let d1 := { d with mbx := { d.mbx with udpSrc := tput none slot (some (src, xid)) d.mbx.udpSrc } }
      { s with hostMem := m, dev := ring m slot d1 }

def execUdpCommand (t : Nat) (src : Endpoint) (body : List Byte) (s : State) : Host.Outcome State Fault Refusal :=
  liftS t (udpAdmit 1 body (udpCommand src body)) s

/-- A type-3 datagram reads words (R355). Log entry 29 (DEDUCED). -/
def udpRead (src : Endpoint) (b : List Byte) (s : State) : State :=
  let off := field b 9 8
  let n := field b 11 10
  if n = 0 ∨ 64 < n then { s with dev := countUdpDrop s.dev }
  else
    let r := readRange s.hostMem off (4 * n) s.dev
    { s with dev := udpSend src 4 (field b 7 4) (le 2 off ++ le 2 n ++ r.1) r.2 }

def execUdpRegRead (t : Nat) (src : Endpoint) (body : List Byte) (s : State) : Host.Outcome State Fault Refusal :=
  liftS t (udpAdmit 3 body (udpRead src body)) s

/-- The free slots that a write of MBX_DOOR among the words would ring: their completions go to the sender.
Log entry 29 (DEDUCED). -/
def doorSource (src : Endpoint) (xid off : Nat) (bs : List Byte) (d : Dev) : Dev :=
  if off ≤ 0x040 ∧ off % 4 = 0 ∧ 0x044 ≤ off + bs.length then
    let v := ofLe ((bs.drop (0x040 - off)).take 4)
    ((setBits 16 v).filter (fun k => !bit d.mbx.busy k)).foldl (fun e k =>
      { e with mbx := { e.mbx with udpSrc := tput none k (some (src, xid)) e.mbx.udpSrc } }) d
  else d

/-- A type-5 datagram writes words and is acknowledged with a type-4 reply of no words (R355).
Log entry 29 (DEDUCED). -/
def udpWrite (src : Endpoint) (b : List Byte) (s : State) : State :=
  let off := field b 9 8
  let n := field b 11 10
  let xid := field b 7 4
  let bs := (b.drop 12).take (4 * n)
  if n = 0 ∨ 64 < n then { s with dev := countUdpDrop s.dev }
  else
    let s1 := hostWrite off bs { s with dev := doorSource src xid off bs s.dev }
    { s1 with dev := udpSend src 4 xid (le 2 off ++ le 2 0) s1.dev }

def execUdpRegWrite (t : Nat) (src : Endpoint) (body : List Byte) (s : State) : Host.Outcome State Fault Refusal :=
  liftS t (udpAdmit 5 body (udpWrite src body)) s

end Sys2Proof.Machine
end

