-- ==== Sys2Proof/Machine/Records.lean ====
section
/-!
DEFINITION. Listing, reading and releasing the records of the Casket (R297, R342, R343, R364, R371).
-/
namespace Sys2Proof.Machine

/-- A record index entry (R371). -/
def recEntry (r : Rec) : List Byte :=
  le 4 r.id ++ le 1 r.cls ++ le 1 r.tier ++ le 1 r.life ++ le 1 r.flags ++ le 8 r.addr ++ le 4 r.len ++ le 8 r.tS ++
    le 4 r.tNs ++ le 4 r.groupSeq ++ le 1 r.unit ++ le 1 r.kind ++ le 26 0

/-- `RECLIST`: from record number FROM on, the entries whose class and tier the masks name, at most MAX; NEXT is the number
after the last one returned, or the next number to be given where none is left (R364). Log entry 45 (DEDUCED). -/
def recList (c : Cmd) (d : Dev) : Dev :=
  let from_ := field c.body 3 0
  let n := field c.body 4 4
  if n = 0 ∨ 7 < n then finish c 8 0 [] d
  else if ¬ d.cask.up then finishOpen c d
  else
    let rs := d.cask.recs.filter (fun r => decide (from_ ≤ r.id) && bit (field c.body 5 5) r.cls && bit (field c.body 6 6) r.tier)
    let out := rs.take n
    let next := match out.getLast? with
      | some r => if rs.length ≤ n then d.cask.nextId else r.id + 1
      | none => d.cask.nextId
    finish c 0 0 (le 4 next ++ le 4 0 ++ out.flatMap recEntry) d

/-- `RECLIST`. Log entry 45 (DEDUCED). -/
def execReclist (t slot : Nat) (s : State) : Host.Outcome State Fault Refusal := liftCmd t slot 0x06 recList s

/-- The bytes of a record: its header, then its rows. Log entry 45 (DEDUCED). -/
def recBytes (r : Rec) : List Byte := r.header ++ rowBytes r.rows

/-- A released record is in tier 0 (R297). Log entries 45 (DEDUCED), 46 (DEDUCED). -/
def release (r : Rec) (d : Dev) : Dev :=
  if r.tier = 0 then modRecs (fun x => x.id = r.id) (fun x => { x with life := 1 }) d else moveLoose r.id 1 d

/-- The read of `n` bytes of record `r` from `off`. An uncorrectable error ends it with DATAERR, the offset of the failing
word and the bytes before it; a correctable one is counted (R342, R343, R362). Log entry 45 (DEDUCED). -/
def recBody (c : Cmd) (rel : Bool) (r : Rec) (off n : Nat) (ecc : Option EccError) (d : Dev) : Dev :=
  let bs := recBytes r
  let hit := match ecc with
    | some e => decide (r.addr + off ≤ e.addr ∧ e.addr < r.addr + off + n ∧ e.addr < r.addr + r.len)
    | none => false
  let d1 := match ecc with
    | some e => if hit then eccError e d else d
    | none => d
  let bad := match ecc with
    | some e => if hit ∧ e.double then some (e.addr - r.addr) else none
    | none => none
  match bad with
  | some w => finish c 0x0E w (le 4 bs.length ++ le 4 0 ++ (bs.drop off).take (w - off)) d1
  | none =>
    let d2 := finish c 0 0 (le 4 bs.length ++ le 4 0 ++ (bs.drop off).take n) d1
    if rel then release r d2 else d2

/-- RECREAD with RELEASE as `rel` says. The DETAIL of NOTFOUND is the life state; for a number that no record has it is a
free value (R362, R364). Log entry 45 (DEDUCED). -/
def recRead (rel : Bool) (ecc : Option EccError) (c : Cmd) (d : Dev) : Dev :=
  let off := field c.body 7 4
  let n := field c.body 9 8
  if bit (field c.body 10 10) 0 ≠ rel then d
  else if n = 0 ∨ 488 < n then finish c 8 0 [] d
  else if ¬ d.cask.up then finishOpen c d
  else
    match d.cask.recs.find? (fun r => r.id = field c.body 3 0) with
    | none =>
      let (k, d1) := takeFree d
      finish c 0x0D (Config.freeNat k) [] d1
    | some r =>
      if ¬ recLive r then finish c 0x0D r.life [] d
      else if rel ∧ r.tier = 2 ∧ cmdClass d c < 2 then finish c 2 2 [] d
      else recBody c rel r off n ecc d

/-- `RECREAD`. -/
def execRecread (t slot : Nat) (ecc : Option EccError) (s : State) : Host.Outcome State Fault Refusal :=
  liftCmd t slot 0x07 (recRead false ecc) s

/-- `RECREAD_RELEASE`. -/
def execRecreadRelease (t slot : Nat) (ecc : Option EccError) (s : State) : Host.Outcome State Fault Refusal :=
  liftCmd t slot 0x07 (recRead true ecc) s

end Sys2Proof.Machine
end

