-- ==== Sys2Proof/Machine/Dispatch.lean ====
section
/-!
DEFINITION. The meaning of each command, one arm per row of the opcode table.
-/
namespace Sys2Proof.Machine

def exec (i : Instr) (s : State) : Host.Outcome State Fault Refusal :=
  match i with
  | .powerApplied t vbat vholdCold => Sys2Proof.Machine.execPowerApplied t vbat vholdCold s
  | .coldStartComplete t => Sys2Proof.Machine.execColdStartComplete t s
  | .claspSupplyLost t => Sys2Proof.Machine.execClaspSupplyLost t s
  | .wakeInput t level => Sys2Proof.Machine.execWakeInput t level s
  | .rtcAlarm t => Sys2Proof.Machine.execRtcAlarm t s
  | .mainSupplyGood t hostsel => Sys2Proof.Machine.execMainSupplyGood t hostsel s
  | .pwrWaitTimeout t => Sys2Proof.Machine.execPwrWaitTimeout t s
  | .bootComplete t obs => Sys2Proof.Machine.execBootComplete t obs s
  | .rstNAssert t since => Sys2Proof.Machine.execRstNAssert t since s
  | .rstNRelease t hostsel => Sys2Proof.Machine.execRstNRelease t hostsel s
  | .svpWatchdogExpiry t hostsel => Sys2Proof.Machine.execSvpWatchdogExpiry t hostsel s
  | .lockstepMismatch t => Sys2Proof.Machine.execLockstepMismatch t s
  | .lockstepReset t hostsel => Sys2Proof.Machine.execLockstepReset t hostsel s
  | .testEnAssert t => Sys2Proof.Machine.execTestEnAssert t s
  | .reqClasp t cls => Sys2Proof.Machine.execReqClasp t cls s
  | .reqReady t cls => Sys2Proof.Machine.execReqReady t cls s
  | .reqDoze t cls => Sys2Proof.Machine.execReqDoze t cls s
  | .reqSync t cls => Sys2Proof.Machine.execReqSync t cls s
  | .reqRun t cls => Sys2Proof.Machine.execReqRun t cls s
  | .reqForm t cls => Sys2Proof.Machine.execReqForm t cls s
  | .reqService t cls => Sys2Proof.Machine.execReqService t cls s
  | .dozeEntryComplete t => Sys2Proof.Machine.execDozeEntryComplete t s
  | .dozeWakeCheckDone t dPhase dMag slowLock => Sys2Proof.Machine.execDozeWakeCheckDone t dPhase dMag slowLock s
  | .runToSyncComplete t => Sys2Proof.Machine.execRunToSyncComplete t s
  | .mgmtViewReconcile t unit idx => Sys2Proof.Machine.execMgmtViewReconcile t unit idx s
  | .scanTimerFire t k => Sys2Proof.Machine.execScanTimerFire t k s
  | .scanStart t f => Sys2Proof.Machine.execScanStart t f s
  | .ainResultDelivered t f p raw clip stamp => Sys2Proof.Machine.execAinResultDelivered t f p raw clip stamp s
  | .spareTakeover t f => Sys2Proof.Machine.execSpareTakeover t f s
  | .rotDwellStart t => Sys2Proof.Machine.execRotDwellStart t s
  | .facetSelfcalDone t f pass => Sys2Proof.Machine.execFacetSelfcalDone t f pass s
  | .rotOverlapEnd t diffs => Sys2Proof.Machine.execRotOverlapEnd t diffs s
  | .facetFltWrite t mask => Sys2Proof.Machine.execFacetFltWrite t mask s
  | .spareFltWrite t => Sys2Proof.Machine.execSpareFltWrite t s
  | .calzero t slot => Sys2Proof.Machine.execCalzero t slot s
  | .calzeroDone t => Sys2Proof.Machine.execCalzeroDone t s
  | .calfullDc t slot => Sys2Proof.Machine.execCalfullDc t slot s
  | .calfullAc t slot => Sys2Proof.Machine.execCalfullAc t slot s
  | .calfullDone t => Sys2Proof.Machine.execCalfullDone t s
  | .cascadeEvalStart t c parity => Sys2Proof.Machine.execCascadeEvalStart t c parity s
  | .cascadeEvalDone t c parity => Sys2Proof.Machine.execCascadeEvalDone t c parity s
  | .tracePostComplete t tap => Sys2Proof.Machine.execTracePostComplete t tap s
  | .traceFire t cls tap => Sys2Proof.Machine.execTraceFire t cls tap s
  | .mirrorCopyDone t => Sys2Proof.Machine.execMirrorCopyDone t s
  | .filStageDiscard t cls => Sys2Proof.Machine.execFilStageDiscard t cls s
  | .spFixedWrite t cls c v => Sys2Proof.Machine.execSpFixedWrite t cls c v s
  | .pinSpEdge t q level held => Sys2Proof.Machine.execPinSpEdge t q level held s
  | .setpointTimeout t c => Sys2Proof.Machine.execSetpointTimeout t c s
  | .filigreeParityError t c stateWord => Sys2Proof.Machine.execFiligreeParityError t c stateWord s
  | .replayEnd t repaired => Sys2Proof.Machine.execReplayEnd t repaired s
  | .filUncWrite t => Sys2Proof.Machine.execFilUncWrite t s
  | .filCheckDone t pass => Sys2Proof.Machine.execFilCheckDone t pass s
  | .bankScrub t c activeBank => Sys2Proof.Machine.execBankScrub t c activeBank s
  | .carrierPeriodStart t n => Sys2Proof.Machine.execCarrierPeriodStart t n s
  | .loadPoint t n peak => Sys2Proof.Machine.execLoadPoint t n peak s
  | .sEdge t n rise => Sys2Proof.Machine.execSEdge t n rise s
  | .deadTimeExpiry t n high => Sys2Proof.Machine.execDeadTimeExpiry t n high s
  | .shootLimitTrip t n => Sys2Proof.Machine.execShootLimitTrip t n s
  | .bootRefreshEnforce t n => Sys2Proof.Machine.execBootRefreshEnforce t n s
  | .legServiceEntry t n => Sys2Proof.Machine.execLegServiceEntry t n s
  | .legServiceExit t n => Sys2Proof.Machine.execLegServiceExit t n s
  | .duvBlankEnd t n => Sys2Proof.Machine.execDuvBlankEnd t n s
  | .dfltAssert t n => Sys2Proof.Machine.execDfltAssert t n s
  | .dfltRelease t n => Sys2Proof.Machine.execDfltRelease t n s
  | .duvAssert t n => Sys2Proof.Machine.execDuvAssert t n s
  | .duvRelease t n => Sys2Proof.Machine.execDuvRelease t n s
  | .bridgeCompanionExit t n => Sys2Proof.Machine.execBridgeCompanionExit t n s
  | .gateClear t cls n => Sys2Proof.Machine.execGateClear t cls n s
  | .outForce t cls n v => Sys2Proof.Machine.execOutForce t cls n v s
  | .drvClearGo t cls g => Sys2Proof.Machine.execDrvClearGo t cls g s
  | .drvClearLow t g => Sys2Proof.Machine.execDrvClearLow t g s
  | .drvClearHigh t g => Sys2Proof.Machine.execDrvClearHigh t g s
  | .drvClearDone t g => Sys2Proof.Machine.execDrvClearDone t g s
  | .syncOutPulseEnd t => Sys2Proof.Machine.execSyncOutPulseEnd t s
  | .windowAssert t w upper pin => Sys2Proof.Machine.execWindowAssert t w upper pin s
  | .cutLimitTrip t w => Sys2Proof.Machine.execCutLimitTrip t w s
  | .windowRelease t w upper pin => Sys2Proof.Machine.execWindowRelease t w upper pin s
  | .winClear t cls w => Sys2Proof.Machine.execWinClear t cls w s
  | .winTestUpper t cls w => Sys2Proof.Machine.execWinTestUpper t cls w s
  | .winTestLower t cls w => Sys2Proof.Machine.execWinTestLower t cls w s
  | .winTestReleaseCheck t w released => Sys2Proof.Machine.execWinTestReleaseCheck t w released s
  | .winTestAssertDeadline t w delay => Sys2Proof.Machine.execWinTestAssertDeadline t w delay s
  | .winTestSourceReturn t w => Sys2Proof.Machine.execWinTestSourceReturn t w s
  | .winTestEnd t w released => Sys2Proof.Machine.execWinTestEnd t w released s
  | .epochTick t => Sys2Proof.Machine.execEpochTick t s
  | .gsSetpointWrite t cls pid v => Sys2Proof.Machine.execGsSetpointWrite t cls pid v s
  | .dispatchPointStale t => Sys2Proof.Machine.execDispatchPointStale t s
  | .formExitHold t => Sys2Proof.Machine.execFormExitHold t s
  | .rideExitHold t => Sys2Proof.Machine.execRideExitHold t s
  | .rtTimerRearm t freq => Sys2Proof.Machine.execRtTimerRearm t freq s
  | .jumpHoldEnd t => Sys2Proof.Machine.execJumpHoldEnd t s
  | .charmSuspClear t => Sys2Proof.Machine.execCharmSuspClear t s
  | .charmBlankEnd t => Sys2Proof.Machine.execCharmBlankEnd t s
  | .charmNotimeExpiry t => Sys2Proof.Machine.execCharmNotimeExpiry t s
  | .charmFormTmax t => Sys2Proof.Machine.execCharmFormTmax t s
  | .charmRecHold t => Sys2Proof.Machine.execCharmRecHold t s
  | .pvStartHold t q => Sys2Proof.Machine.execPvStartHold t q s
  | .pvStopHold t q => Sys2Proof.Machine.execPvStopHold t q s
  | .poIntervalEnd t q => Sys2Proof.Machine.execPoIntervalEnd t q s
  | .shadeHoldExpiry t q yield => Sys2Proof.Machine.execShadeHoldExpiry t q yield s
  | .sweepScheduled t q => Sys2Proof.Machine.execSweepScheduled t q s
  | .sweepAfterStart t q => Sys2Proof.Machine.execSweepAfterStart t q s
  | .pvSweepGo t cls q => Sys2Proof.Machine.execPvSweepGo t cls q s
  | .pvPMaxWrite t cls q v => Sys2Proof.Machine.execPvPMaxWrite t cls q v s
  | .sweepStart t q => Sys2Proof.Machine.execSweepStart t q s
  | .sweepDeferExpiry t q => Sys2Proof.Machine.execSweepDeferExpiry t q s
  | .sweepRisingStart t => Sys2Proof.Machine.execSweepRisingStart t s
  | .sweepRisingEnd t => Sys2Proof.Machine.execSweepRisingEnd t s
  | .sweepResume t => Sys2Proof.Machine.execSweepResume t s
  | .sweepRetry t q => Sys2Proof.Machine.execSweepRetry t q s
  | .placementCycleStart t => Sys2Proof.Machine.execPlacementCycleStart t s
  | .intentLanding t => Sys2Proof.Machine.execIntentLanding t s
  | .unplannedChange t => Sys2Proof.Machine.execUnplannedChange t s
  | .setterRotation t => Sys2Proof.Machine.execSetterRotation t s
  | .stressJournal t => Sys2Proof.Machine.execStressJournal t s
  | .rackStaleHoldExpiry t str => Sys2Proof.Machine.execRackStaleHoldExpiry t str s
  | .tierAgeExpiry t recId => Sys2Proof.Machine.execTierAgeExpiry t recId s
  | .caratSelWrite t v => Sys2Proof.Machine.execCaratSelWrite t v s
  | .caratLoRead t => Sys2Proof.Machine.execCaratLoRead t s
  | .caratPeriodicSave t => Sys2Proof.Machine.execCaratPeriodicSave t s
  | .caratSaveGo t cls => Sys2Proof.Machine.execCaratSaveGo t cls s
  | .caratResidualWrite t => Sys2Proof.Machine.execCaratResidualWrite t s
  | .caratPhCalGo t cls v => Sys2Proof.Machine.execCaratPhCalGo t cls v s
  | .caratPhCalDone t phiM => Sys2Proof.Machine.execCaratPhCalDone t phiM s
  | .loupeArm t cls u => Sys2Proof.Machine.execLoupeArm t cls u s
  | .loupeFire t cls u => Sys2Proof.Machine.execLoupeFire t cls u s
  | .loupeStop t cls u => Sys2Proof.Machine.execLoupeStop t cls u s
  | .loupePreFilled t u => Sys2Proof.Machine.execLoupePreFilled t u s
  | .loupePostComplete t u => Sys2Proof.Machine.execLoupePostComplete t u s
  | .loupeStoreDone t u parity => Sys2Proof.Machine.execLoupeStoreDone t u parity s
  | .loupeRearmHold t u => Sys2Proof.Machine.execLoupeRearmHold t u s
  | .trigInEdge t k rising => Sys2Proof.Machine.execTrigInEdge t k rising s
  | .casketScrub t errs => Sys2Proof.Machine.execCasketScrub t errs s
  | .eventArchiveCopy t => Sys2Proof.Machine.execEventArchiveCopy t s
  | .mbxDoorWrite t v => Sys2Proof.Machine.execMbxDoorWrite t v s
  | .mbxCqHeadWrite t v => Sys2Proof.Machine.execMbxCqHeadWrite t v s
  | .completionPost t => Sys2Proof.Machine.execCompletionPost t s
  | .evPendWrite t k v => Sys2Proof.Machine.execEvPendWrite t k v s
  | .qspiFrame t instr addr data n => Sys2Proof.Machine.execQspiFrame t instr addr data n s
  | .udpCommand t src body => Sys2Proof.Machine.execUdpCommand t src body s
  | .udpRegRead t src body => Sys2Proof.Machine.execUdpRegRead t src body s
  | .udpRegWrite t src body => Sys2Proof.Machine.execUdpRegWrite t src body s
  | .udpEventRenotify t => Sys2Proof.Machine.execUdpEventRenotify t s
  | .registerClearOnRead t addr n => Sys2Proof.Machine.execRegisterClearOnRead t addr n s
  | .registerWrite t addr data => Sys2Proof.Machine.execRegisterWrite t addr data s
  | .pget t slot => Sys2Proof.Machine.execPget t slot s
  | .pgetShadow t slot => Sys2Proof.Machine.execPgetShadow t slot s
  | .pset t slot => Sys2Proof.Machine.execPset t slot s
  | .stageDiscard t cls mask => Sys2Proof.Machine.execStageDiscard t cls mask s
  | .hostPointWrite t cls k v => Sys2Proof.Machine.execHostPointWrite t cls k v s
  | .commit t slot => Sys2Proof.Machine.execCommit t slot s
  | .commitCheckOnly t slot => Sys2Proof.Machine.execCommitCheckOnly t slot s
  | .commitChecksDone t => Sys2Proof.Machine.execCommitChecksDone t s
  | .commitLanding t => Sys2Proof.Machine.execCommitLanding t s
  | .snapshotWriteDone t ok => Sys2Proof.Machine.execSnapshotWriteDone t ok s
  | .snapshotRetry t => Sys2Proof.Machine.execSnapshotRetry t s
  | .evread t slot => Sys2Proof.Machine.execEvread t slot s
  | .evreadArchive t slot => Sys2Proof.Machine.execEvreadArchive t slot s
  | .ptread t slot => Sys2Proof.Machine.execPtread t slot s
  | .reclist t slot => Sys2Proof.Machine.execReclist t slot s
  | .recread t slot ecc => Sys2Proof.Machine.execRecread t slot ecc s
  | .recreadRelease t slot ecc => Sys2Proof.Machine.execRecreadRelease t slot ecc s
  | .fwstageChunk t slot => Sys2Proof.Machine.execFwstageChunk t slot s
  | .fwstageLast t slot => Sys2Proof.Machine.execFwstageLast t slot s
  | .fwstageCheckDone t => Sys2Proof.Machine.execFwstageCheckDone t s
  | .fwactHandover t slot => Sys2Proof.Machine.execFwactHandover t slot s
  | .fwactLive t slot => Sys2Proof.Machine.execFwactLive t slot s
  | .fwactNextReset t slot => Sys2Proof.Machine.execFwactNextReset t slot s
  | .fwactPauseStart t => Sys2Proof.Machine.execFwactPauseStart t s
  | .fwactPauseEnd t => Sys2Proof.Machine.execFwactPauseEnd t s
  | .attest t slot => Sys2Proof.Machine.execAttest t slot s
  | .attestDone t => Sys2Proof.Machine.execAttestDone t s
  | .sessionOpen t slot => Sys2Proof.Machine.execSessionOpen t slot s
  | .sessionClose t slot => Sys2Proof.Machine.execSessionClose t slot s
  | .sessionIdleTimeout t => Sys2Proof.Machine.execSessionIdleTimeout t s
  | .authLockoutEnd t => Sys2Proof.Machine.execAuthLockoutEnd t s
  | .legsvcOut t slot => Sys2Proof.Machine.execLegsvcOut t slot s
  | .legsvcOutNow t slot => Sys2Proof.Machine.execLegsvcOutNow t slot s
  | .legsvcIn t slot => Sys2Proof.Machine.execLegsvcIn t slot s
  | .pairUnpair t slot => Sys2Proof.Machine.execPairUnpair t slot s
  | .pairActive t slot => Sys2Proof.Machine.execPairActive t slot s
  | .pairStandby t slot => Sys2Proof.Machine.execPairStandby t slot s
  | .pairSwap t slot => Sys2Proof.Machine.execPairSwap t slot s
  | .pairTimeout t => Sys2Proof.Machine.execPairTimeout t s
  | .canFrameRx t p frame => Sys2Proof.Machine.execCanFrameRx t p frame s
  | .partnerFrameProcess t p => Sys2Proof.Machine.execPartnerFrameProcess t p s
  | .partnerDatagramRx t port src body => Sys2Proof.Machine.execPartnerDatagramRx t port src body s
  | .partnerStale t e => Sys2Proof.Machine.execPartnerStale t e s
  | .partnerTxPeriod t e => Sys2Proof.Machine.execPartnerTxPeriod t e s
  | .partnerTxOnchange t e page => Sys2Proof.Machine.execPartnerTxOnchange t e page s
  | .canTxDone t p status => Sys2Proof.Machine.execCanTxDone t p status s
  | .canBusError t p tec rec lec => Sys2Proof.Machine.execCanBusError t p tec rec lec s
  | .canBoffWaitExpiry t p => Sys2Proof.Machine.execCanBoffWaitExpiry t p s
  | .canRecover t cls p => Sys2Proof.Machine.execCanRecover t cls p s
  | .canRecoveryDone t p => Sys2Proof.Machine.execCanRecoveryDone t p s
  | .lanePrbsPat t cls k v => Sys2Proof.Machine.execLanePrbsPat t cls k v s
  | .chainFrameRx t k frame => Sys2Proof.Machine.execChainFrameRx t k frame s
  | .chainTriggerRx t k msg => Sys2Proof.Machine.execChainTriggerRx t k msg s
  | .setterMirrorRx t record => Sys2Proof.Machine.execSetterMirrorRx t record s
  | .probeEpochRx t msg => Sys2Proof.Machine.execProbeEpochRx t msg s
  | .ethLinkUp t port speed fullDuplex => Sys2Proof.Machine.execEthLinkUp t port speed fullDuplex s
  | .ethLinkDown t port => Sys2Proof.Machine.execEthLinkDown t port s
  | .ethFrameRx t port frame => Sys2Proof.Machine.execEthFrameRx t port frame s
  | .arpEntryExpiry t port ip => Sys2Proof.Machine.execArpEntryExpiry t port ip s
  | .ptpSyncRx t port offset => Sys2Proof.Machine.execPtpSyncRx t port offset s
  | .ptpAnnounceRx t port ann => Sys2Proof.Machine.execPtpAnnounceRx t port ann s
  | .ptpDelayRx t port delay => Sys2Proof.Machine.execPtpDelayRx t port delay s
  | .ptpMsgSend t port msgType => Sys2Proof.Machine.execPtpMsgSend t port msgType s
  | .ptpTxTimestamp t j err => Sys2Proof.Machine.execPtpTxTimestamp t j err s
  | .tsqEntryTimeout t j => Sys2Proof.Machine.execTsqEntryTimeout t j s
  | .clockStep t => Sys2Proof.Machine.execClockStep t s
  | .timeSet t cls sec => Sys2Proof.Machine.execTimeSet t cls sec s
  | .timeHoldoverEnd t => Sys2Proof.Machine.execTimeHoldoverEnd t s
  | .tpulseEdge t k start => Sys2Proof.Machine.execTpulseEdge t k start s
  | .tcapEdge t k falling => Sys2Proof.Machine.execTcapEdge t k falling s
  | .timeNsRead t => Sys2Proof.Machine.execTimeNsRead t s
  | .tcapNsRead t => Sys2Proof.Machine.execTcapNsRead t s
  | .pndHelloRx t digest mirver addr offer => Sys2Proof.Machine.execPndHelloRx t digest mirver addr offer s
  | .pndSwapMsgRx t ms => Sys2Proof.Machine.execPndSwapMsgRx t ms s
  | .pndUnpairMsgRx t => Sys2Proof.Machine.execPndUnpairMsgRx t s
  | .pndXcalMsgRx t sel sec => Sys2Proof.Machine.execPndXcalMsgRx t sel sec s
  | .mirrorCascadeStateRx t c seq originLo states => Sys2Proof.Machine.execMirrorCascadeStateRx t c seq originLo states s
  | .mirrorLegRx t n insvc peak h => Sys2Proof.Machine.execMirrorLegRx t n insvc peak h s
  | .mirrorEpochRx t rec => Sys2Proof.Machine.execMirrorEpochRx t rec s
  | .mirrorCaratRx t m regs => Sys2Proof.Machine.execMirrorCaratRx t m regs s
  | .mirrorParamWriteRx t kind payload => Sys2Proof.Machine.execMirrorParamWriteRx t kind payload s
  | .mirrorCommitRx t groups landMs => Sys2Proof.Machine.execMirrorCommitRx t groups landMs s
  | .mirrorSnapshotChunkRx t chunk => Sys2Proof.Machine.execMirrorSnapshotChunkRx t chunk s
  | .mirrorXferStatsRx t sel mean rms => Sys2Proof.Machine.execMirrorXferStatsRx t sel mean rms s
  | .pndHeartbeatTimeout t => Sys2Proof.Machine.execPndHeartbeatTimeout t s
  | .pendantTakeover t => Sys2Proof.Machine.execPendantTakeover t s
  | .roleSwapTick t => Sys2Proof.Machine.execRoleSwapTick t s
  | .pndXcalGo t cls v => Sys2Proof.Machine.execPndXcalGo t cls v s
  | .pndXcalWindowStart t => Sys2Proof.Machine.execPndXcalWindowStart t s
  | .pndXcalDone t phi => Sys2Proof.Machine.execPndXcalDone t phi s
  | .gdCloseHoldExpiry t => Sys2Proof.Machine.execGdCloseHoldExpiry t s
  | .gdReadbackStep t ghRb glRb => Sys2Proof.Machine.execGdReadbackStep t ghRb glRb s
  | .gdPullinConfirm t mv => Sys2Proof.Machine.execGdPullinConfirm t mv s
  | .gdCloseTimeout t => Sys2Proof.Machine.execGdCloseTimeout t s
  | .gdOpenConfirmed t mv => Sys2Proof.Machine.execGdOpenConfirmed t mv s
  | .gdOpenTimeout t => Sys2Proof.Machine.execGdOpenTimeout t s
  | .gdalmTimeout t ghRb glRb mv => Sys2Proof.Machine.execGdalmTimeout t ghRb glRb mv s
  | .gdOfftestStart t => Sys2Proof.Machine.execGdOfftestStart t s
  | .gdOfftestReadback t mv => Sys2Proof.Machine.execGdOfftestReadback t mv s
  | .gdOfftestTimeout t rb mv => Sys2Proof.Machine.execGdOfftestTimeout t rb mv s
  | .gdOfftestEnd t rb mv => Sys2Proof.Machine.execGdOfftestEnd t rb mv s
  | .gdReadbackMismatch t low since => Sys2Proof.Machine.execGdReadbackMismatch t low since s
  | .gdCoilCurrentFault t mv => Sys2Proof.Machine.execGdCoilCurrentFault t mv s
  | .gdOscFault t osc => Sys2Proof.Machine.execGdOscFault t osc s
  | .gdRefreshMiss t => Sys2Proof.Machine.execGdRefreshMiss t s
  | .gdFaultWrite t => Sys2Proof.Machine.execGdFaultWrite t s
  | .gdClearTestEnd t ghUs glUs mv => Sys2Proof.Machine.execGdClearTestEnd t ghUs glUs mv s
  | .estopAssert t since => Sys2Proof.Machine.execEstopAssert t since s
  | .estopRelease t since => Sys2Proof.Machine.execEstopRelease t since s
  | .pwmPllLockLoss t => Sys2Proof.Machine.execPwmPllLockLoss t s
  | .sysCLockLoss t => Sys2Proof.Machine.execSysCLockLoss t s
  | .sysMLockLoss t => Sys2Proof.Machine.execSysMLockLoss t s
  | .adcPllLockLoss t => Sys2Proof.Machine.execAdcPllLockLoss t s
  | .laneALockLoss t => Sys2Proof.Machine.execLaneALockLoss t s
  | .laneBLockLoss t => Sys2Proof.Machine.execLaneBLockLoss t s
  | .pllRelock t l band temp => Sys2Proof.Machine.execPllRelock t l band temp s
  | .pllRelockRetry t l => Sys2Proof.Machine.execPllRelockRetry t l s
  | .refMissing t => Sys2Proof.Machine.execRefMissing t s
  | .refReturn t => Sys2Proof.Machine.execRefReturn t s
  | .bandRefresh t temp band => Sys2Proof.Machine.execBandRefresh t temp band s
  | .rtcNetworkSet t => Sys2Proof.Machine.execRtcNetworkSet t s
  | .adcSyncEdge t => Sys2Proof.Machine.execAdcSyncEdge t s
  | .holdGaugeUpdate t v => Sys2Proof.Machine.execHoldGaugeUpdate t v s
  | .earlyWarning t cause => Sys2Proof.Machine.execEarlyWarning t cause s
  | .saveComplete t bursts jlost => Sys2Proof.Machine.execSaveComplete t bursts jlost s
  | .thermalSample t temps => Sys2Proof.Machine.execThermalSample t temps s
  | .pndHbiEdge t => Sys2Proof.Machine.execPndHbiEdge t s
  | .heartbeatPathSilence t wire => Sys2Proof.Machine.execHeartbeatPathSilence t wire s
  | .pndHboToggle t => Sys2Proof.Machine.execPndHboToggle t s
  | .prbsCheckerLock t k locked => Sys2Proof.Machine.execPrbsCheckerLock t k locked s
  | .prbsBitError t k => Sys2Proof.Machine.execPrbsBitError t k s
  | .claspSupplyChange t vbatOk vholdOk => Sys2Proof.Machine.execClaspSupplyChange t vbatOk vholdOk s
  | .ptpAnnounceTimeout t port => Sys2Proof.Machine.execPtpAnnounceTimeout t port s

end Sys2Proof.Machine
end

