-- ==== Sys2Proof/Safety.lean ====
section
/-!
DEFINITION. What the statements call a well-formed state, an unchanged part of the state, and a command that completes.
-/
namespace Sys2Proof.Safety

open Sys2Proof.Machine

/-- The host memory is in its canonical form: addresses strictly rising, and no entry that equals what an unlisted
address reads as. -/
def memWf (s : State) : Prop := tabWf 0 s.hostMem

/-- The parts of the device of which a frame speaks: the tick, each block of the spec, and, apart from the blocks they
belong to, what raising an event may touch: the datagrams and notices sent, the trace taps and the count of lost archive entries. -/
inductive Part where
  | t | sys | ev | mbx | sent | pts | lkt | prm | commit | acq | fil | taps | legs | wins | pwm | gs | rt
  | charm | pv | setr | loupe | cask | arcLost | carat | sec | gd | clasp | clk | hold | boot | can | lanes
  | eth | chain | time | pnd | free
  deriving DecidableEq, Repr

/-- Part `p` is the same in `d` and in `e`. -/
def samePart (p : Part) (d e : Dev) : Prop :=
  match p with
  | .t => d.t = e.t
  | .sys => d.sys = e.sys
  | .ev => d.ev = e.ev
  | .mbx => { d.mbx with sent := [], notifyT := 0 } = { e.mbx with sent := [], notifyT := 0 }
  | .sent => (d.mbx.sent, d.mbx.notifyT) = (e.mbx.sent, e.mbx.notifyT)
  | .pts => d.pts = e.pts
  | .lkt => d.lkt = e.lkt
  | .prm => d.prm = e.prm
  | .commit => d.commit = e.commit
  | .acq => d.acq = e.acq
  | .fil => { d.fil with taps := [] } = { e.fil with taps := [] }
  | .taps => d.fil.taps = e.fil.taps
  | .legs => d.legs = e.legs
  | .wins => d.wins = e.wins
  | .pwm => d.pwm = e.pwm
  | .gs => d.gs = e.gs
  | .rt => d.rt = e.rt
  | .charm => d.charm = e.charm
  | .pv => d.pv = e.pv
  | .setr => d.setr = e.setr
  | .loupe => d.loupe = e.loupe
  | .cask => { d.cask with arcLost := 0 } = { e.cask with arcLost := 0 }
  | .arcLost => d.cask.arcLost = e.cask.arcLost
  | .carat => d.carat = e.carat
  | .sec => d.sec = e.sec
  | .gd => d.gd = e.gd
  | .clasp => d.clasp = e.clasp
  | .clk => d.clk = e.clk
  | .hold => d.hold = e.hold
  | .boot => d.boot = e.boot
  | .can => d.can = e.can
  | .lanes => d.lanes = e.lanes
  | .eth => d.eth = e.eth
  | .chain => d.chain = e.chain
  | .time => d.time = e.time
  | .pnd => d.pnd = e.pnd
  | .free => d.free = e.free

/-- `e` differs from `d` at most in the parts `ps`. -/
structure Keeps (ps : List Part) (d e : Dev) : Prop where
  same : ∀ p, p ∉ ps → samePart p d e

/-- The host memory, the queue and every part but the tick and `ps` are the same in `s` and in `s'`. -/
def unchangedBut (ps : List Part) (s s' : State) : Prop :=
  s'.hostMem = s.hostMem ∧ s'.pending = s.pending ∧ Keeps (.t :: ps) s.dev s'.dev

/-- The device of `s` at tick `t`: what a command at `t` finds. Log entry 5 (DESIGN CHOICE). -/
def devAt (s : State) (t : Nat) : Dev := { s.dev with t := t }

/-- What raising an event may touch (R103, R328, R347, R367, R434): the pending bits and the log, the datagrams sent, the
recorder units, the trace taps, the Chain queues, the count of lost archive entries, and the counter of free values. -/
def evParts : List Part := [.ev, .sent, .taps, .loupe, .arcLost, .lanes, .chain, .free]

/-- What a transition of R21 may touch: SYS_STATE, the forces, holds and sweeps that end with a state, and the calibrations
it cuts off. -/
def trParts : List Part := [.sys, .legs, .pwm, .charm, .gd, .gs, .pv, .prm, .acq, .mbx] ++ evParts

/-- What an entry into TRIP may touch beside that (R26, R464, R552). -/
def tripParts : List Part := [.wins, .clk, .cask, .setr, .pnd] ++ trParts

/-- Every part but the tick. -/
def everyPart : List Part :=
  [.sys, .ev, .mbx, .sent, .pts, .lkt, .prm, .commit, .acq, .fil, .taps, .legs, .wins, .pwm, .gs, .rt, .charm, .pv, .setr,
   .loupe, .cask, .arcLost, .carat, .sec, .gd, .clasp, .clk, .hold, .boot, .can, .lanes, .eth, .chain, .time, .pnd, .free]

/-- Every part but those named: for a command whose work reaches most of the device. -/
def allBut (qs : List Part) : List Part := everyPart.filter (fun p => !qs.contains p)

/-- Command `c` completes at tick `t` from `s`: `exec` answers a next state at that tick, it differs from `s` at most in
`ps`, and `post` holds of its device. -/
def Runs (c : Instr) (t : Nat) (s : State) (ps : List Part) (post : Dev → Prop) : Prop :=
  ∃ s', exec c s = .next s' ∧ s'.dev.t = t ∧ unchangedBut ps s s' ∧ post s'.dev

/-- A slot command is next in ring order, is the command `c` of opcode `op`, and runs: the device is not in recovery and no
long command of its opcode is under way (R359, R360, R544). -/
def Admitted (s : State) (slot op : Nat) (c : Cmd) : Prop :=
  cmdAt s.hostMem slot = c ∧ isHead s.hostMem s.dev slot op = true ∧ s.dev.boot.recovery = false ∧ longOf s.dev op = none

/-- `d` holds one completion more than `s`: that of `c` with a status, a DETAIL and a response, at tick `t`; and the
command has left the ring order (R360, R361). -/
def Completed (s : State) (c : Cmd) (t status detail : Nat) (resp : List Byte) (d : Dev) : Prop :=
  d.mbx.done = s.dev.mbx.done ++ [⟨c.slot, c.tag, c.op, status, detail, resp, t / 400000⟩] ∧
    d.mbx.rung = s.dev.mbx.rung.tail

/-- The long command in `slot` has ended with a status, a DETAIL and a response (R360, R361). -/
def EndedLong (s : State) (l : LongCmd) (t status detail : Nat) (resp : List Byte) (d : Dev) : Prop :=
  d.mbx.done = s.dev.mbx.done ++ [⟨l.slot, l.tag, l.op, status, detail, resp, t / 400000⟩] ∧
    d.mbx.long = s.dev.mbx.long.filter (fun x => x.slot ≠ l.slot)

/-- An immediate write that needs session class `need` reaches its rule: from READY on, in a session of class `cls` high
enough, on a device that is neither in recovery nor a standby (R359, R362, R458). -/
def WriteServed (d : Dev) (cls need : Nat) : Prop :=
  d.sys.up = true ∧ d.sys.testStop = false ∧ need ≤ cls ∧ d.boot.recovery = false ∧ d.sys.standby = false

/-- A request for a state is judged by its own rule: it reaches the device as an immediate write of class `need` does, no
automatic transition is under way or arose in this tick, and no early warning has come (R22, R23, R26). -/
def RequestServed (s : State) (t cls need : Nat) : Prop :=
  WriteServed s.dev cls need ∧ s.dev.sys.auto = .none ∧ s.dev.sys.autoT ≠ some t ∧ s.dev.hold.warned = false

/-- The result of an immediate write (R362). -/
def Answered (status detail : Nat) (d : Dev) : Prop := d.mbx.lastStatus = status ∧ d.mbx.lastDetail = detail

/-- Every leg but `n` is as it was. -/
def OtherLegs (n : Nat) (d e : Dev) : Prop := ∀ m, m ≠ n → leg e m = leg d m

/-- Every window but `w` is as it was. -/
def OtherWins (w : Nat) (d e : Dev) : Prop := ∀ v, v ≠ w → win e v = win d v

/-- Every recorder unit but `u` is as it was. -/
def OtherUnits (u : Nat) (d e : Dev) : Prop := ∀ v, v ≠ u → unit e v = unit d v

/-- Every CAN port but `p` is as it was. -/
def OtherPorts (p : Nat) (d e : Dev) : Prop := ∀ q, q ≠ p → canPort e q = canPort d q

/-- A sweep of input `q` that is asked for at tick `t` is queued (R263): the input is enabled, it does not sweep, no request
of it waits, and pv.sweep.gap has passed since its last sweep. -/
def SweepFree (d : Dev) (q t : Nat) : Prop :=
  q < pvCount d ∧ (∀ a, (pvIn d q).lastEnd = some a → a + prm d 0x7011 0 * 400000000 ≤ t) ∧ sweeping d q = false ∧
    ∀ e ∈ d.pv.queue, e.1 ≠ q

/-- Event `e` is pending (R367). -/
def Pending (e : Nat) (d : Dev) : Prop := d.ev.pend.getLsbD e = true

/-- The disconnect channel has declared fault `n`: both drives off, with a demand (R491, R495). -/
def ChannelFault (n : Nat) (d : Dev) : Prop :=
  d.gd.fault = true ∧ d.gd.fcode = n ∧ d.gd.dem = true ∧ d.gd.gdh = false ∧ d.gd.gdl = false ∧ d.gd.closing = false

/-- A fault of the channel takes a device in SYNC to SERVICE, TRIP apart, to TRIP with cause 0x25 (R24, R490), unless the
save of an early warning runs (R26). -/
def FaultTrips (d e : Dev) : Prop :=
  canTrip d 0x25 = true → d.hold.warned = false → e.sys.st = .trip ∧ e.sys.cause = 0x25

/-- The commands that may write the host memory: accesses of the host, postings, and a start. -/
def writesMemory (c : Instr) : Prop :=
  (∃ t i a b n, c = .qspiFrame t i a b n) ∨ (∃ t e b, c = .udpCommand t e b) ∨
    (∃ t e b, c = .udpRegWrite t e b) ∨ (∃ t, c = .completionPost t) ∨ (∃ t o, c = .bootComplete t o)

end Sys2Proof.Safety
end

