-- ==== Sys2Proof/Certificates/Slice0/Obligations.lean ====
section
/-!
DEFINITION. The statements for the provers.
-/
open Sys2Proof Sys2Proof.Machine Sys2Proof.Safety

/-! ### The queue, the host memory and reset -/

/-- A step runs the command at the front of the queue on the state with the queue's rest; on an empty queue the block
idles (the model's choice, log entry 1: the spec's block has no queue of its own).
The model's readings in it: log entry 1. -/
def Obligations.StepTakesFront : Prop :=
  (∀ (s : State) (c : Instr) (rest : List Instr), s.pending = c :: rest → step s = exec c { s with pending := rest }) ∧
    ∀ s : State, s.pending = [] → step s = .next s

/-- No command stops the block, and none adds to the queue or takes from it: every command answers a next state from every
state (the model's reading, log entry 2: what the state does not admit has no effect but the passing of time).
The model's readings in it: log entries 2, 146. -/
def Obligations.EveryCommandAnswers : Prop :=
  ∀ (c : Instr) (s : State), ∃ s', exec c s = .next s' ∧ s'.pending = s.pending

/-- The canonical form of the host memory is an invariant of every step, from every state that has it.
The model's readings in it: log entry 13. -/
def Obligations.StepKeepsMemoryForm : Prop :=
  ∀ s s' : State, memWf s → step s = .next s' → memWf s'

/-- The machine at reset: in OFF (R19), no output driven (R137), the host memory empty and canonical, every parameter at
its factory value (R11), no event pending, no loop locked and no command waiting.
The model's readings in it: log entries 3, 4. -/
def Obligations.ResetState : Prop :=
  State.reset.dev.sys.st = .off ∧ (∀ n, gateOut State.reset.dev n = none) ∧ memWf State.reset ∧
    (∀ a, tget 0 State.reset.hostMem a = 0) ∧ (∀ pid i, prm State.reset.dev pid i = factory pid i) ∧
    State.reset.dev.ev.pend = 0 ∧ State.reset.dev.clk.lock = 0 ∧ State.reset.pending = []

/-- Only an access of the host, a posting and a start may write the host memory.
The model's readings in it: log entry 13. -/
def Obligations.OnlyHostWritesMemory : Prop :=
  ∀ (c : Instr) (s s' : State), exec c s = .next s' → ¬ writesMemory c → s'.hostMem = s.hostMem

/-! ### The host port -/

/-- A QSPI write into slots that the device does not hold stores its bytes and nothing else (R354, R358); a byte for a slot
that it holds is ignored and sets WR_BUSY; a read of a word of the slots or of the completion queue answers its bytes; an
instruction byte other than 0x02 and 0x0B sets ACC_ERR. The model's readings in it: log entries 27, 28. -/
def Obligations.QspiFrames : Prop :=
  (∀ (s : State) (t a n : Nat) (bs : List Byte), s.dev.sys.up = true → s.dev.boot.hostsel = false →
    0x2000 ≤ a → a + bs.length ≤ 0x4000 →
    (∀ i, i < bs.length → bit s.dev.mbx.busy ((a + i - 0x2000) / 512) = false) →
    ∃ s', exec (.qspiFrame t 2 a bs n) s = .next s' ∧ readMem s'.hostMem a bs.length = bs ∧
      (∀ j, j < a ∨ a + bs.length ≤ j → tget 0 s'.hostMem j = tget 0 s.hostMem j) ∧
      s'.pending = s.pending ∧ s'.dev = { s.dev with t := t }) ∧
  (∀ (s : State) (t a n : Nat) (b : Byte), s.dev.sys.up = true → s.dev.boot.hostsel = false → 0x2000 ≤ a → a < 0x4000 →
    bit s.dev.mbx.busy ((a - 0x2000) / 512) = true →
    Runs (.qspiFrame t 2 a [b] n) t s (.mbx :: evParts) (fun d => d.mbx.wrBusy = true)) ∧
  (∀ (s : State) (t a : Nat), s.dev.sys.up = true → s.dev.boot.hostsel = false → 0x2000 ≤ a → a < 0x4400 → a % 4 = 0 →
    fastOn s.dev = true →
    Runs (.qspiFrame t 0x0B a [] 4) t s [.mbx] (fun d => d.mbx.hostRd = readMem s.hostMem a 4)) ∧
  ∀ (s : State) (t i a n : Nat) (bs : List Byte), s.dev.sys.up = true → s.dev.boot.hostsel = false → i ≠ 2 → i ≠ 0x0B →
    Runs (.qspiFrame t i a bs n) t s (.mbx :: evParts) (fun d => d.mbx.accErr = true)

/-- A read of MBX_STAT answers its value and clears what a read of it clears (R352, R358). A write of the whole of TCAP_SEL
selects the input, and a write of a part of it sets ACC_ERR. The model's readings in it: log entries 12, 27, 31. -/
def Obligations.RegisterAccesses : Prop :=
  (∀ (s : State) (t : Nat), s.dev.sys.up = true →
    Runs (.registerClearOnRead t 0x050 4) t s [.mbx] (fun d =>
      d.mbx.hostRd = le 4 (regVal { s.dev with t := t } 0x050) ∧ d.mbx.accErr = false ∧ d.mbx.wrBusy = false ∧
        d.mbx.doorBusy = 0 ∧ d.mbx.udpDrop = 0)) ∧
  (∀ (s : State) (t v : Nat), s.dev.sys.up = true → v < 2 ^ 32 →
    Runs (.registerWrite t 0x114 (le 4 v)) t s [.time] (fun d =>
      d.time = { s.dev.time with capSel := v % 8 })) ∧
  ∀ (s : State) (t : Nat) (b : Byte), s.dev.sys.up = true →
    Runs (.registerWrite t 0x114 [b]) t s (.mbx :: evParts) (fun d => d.mbx.accErr = true ∧ d.time = s.dev.time)

/-- Datagrams of the host at a device that serves UDP (R355): a command datagram to a free slot with no stored answer fills
the slot and makes its sender the last one; a read of register 0 and a write of TCAP_SEL are answered; while a HIRQ line is
asserted the last sender is notified again sys.ev.renotify ms after the last notice (R367), with an XID that is a free
value. The model's readings in it: log entries 28, 29, 30, 149. -/
def Obligations.UdpDatagrams : Prop :=
  (∀ (s : State) (t : Nat) (src : Endpoint) (b : List Byte), s.dev.sys.up = true → s.dev.boot.hostsel = true →
    igzanOk b = true → field b 3 3 = 1 → field b 8 8 < 16 → bit s.dev.mbx.busy (field b 8 8) = false →
    tget none s.dev.mbx.stored (field b 8 8) = none →
    ∃ s', exec (.udpCommand t src b) s = .next s' ∧ s'.pending = s.pending ∧ s'.dev.t = t ∧
      bit s'.dev.mbx.busy (field b 8 8) = true ∧ s'.dev.mbx.lastSender = some src ∧
      s'.hostMem = writeMem s.hostMem (slotAt (field b 8 8)) (((b.drop 12).take (16 + field b 15 14)).take 512) ∧
      Keeps (.t :: .mbx :: evParts) s.dev s'.dev) ∧
  (∀ (s : State) (t : Nat) (src : Endpoint) (b : List Byte), s.dev.sys.up = true → s.dev.boot.hostsel = true →
    igzanOk b = true → field b 3 3 = 3 → field b 9 8 = 0x000 → field b 11 10 = 1 →
    Runs (.udpRegRead t src b) t s [.sent] (fun d =>
      d.mbx.sent = ⟨src, le 2 0x5A49 ++ [1] ++ le 1 4 ++ le 4 (field b 7 4) ++
        (le 2 0 ++ le 2 1 ++ le 4 (regVal { s.dev with t := t } 0))⟩ :: s.dev.mbx.sent)) ∧
  (∀ (s : State) (t : Nat) (src : Endpoint) (b : List Byte), s.dev.sys.up = true → s.dev.boot.hostsel = true →
    igzanOk b = true → field b 3 3 = 5 → field b 9 8 = 0x114 → field b 11 10 = 1 →
    Runs (.udpRegWrite t src b) t s [.time, .sent] (fun d =>
      d.time.capSel = bits (field b 15 12) 2 0 ∧
      d.mbx.sent = ⟨src, le 2 0x5A49 ++ [1] ++ le 1 4 ++ le 4 (field b 7 4) ++ (le 2 0x114 ++ le 2 0)⟩ :: s.dev.mbx.sent)) ∧
  ∀ (s : State) (t : Nat) (dst : Endpoint), hirq { s.dev with t := t } ≠ 0 → s.dev.mbx.lastSender = some dst →
    s.dev.mbx.hostsel = true → s.dev.mbx.notifyT + 400000 * prm s.dev 0x0023 0 ≤ t →
    Runs (.udpEventRenotify t) t s [.sent, .free] (fun d =>
      d.mbx.notifyT = t ∧ d.mbx.sent = ⟨dst, le 2 0x5A49 ++ [1, 6] ++ le 4 (Config.freeNat s.dev.free) ++ le 16 s.dev.ev.pend.toNat ++
        le 4 s.dev.ev.seq⟩ :: s.dev.mbx.sent)

/-! ### The mailbox -/

/-- A ring of a free slot marks it busy. Where no command waits, its turn has come: one that passes the checks 1 to 6 of
R359 is next to start, and one that fails a check completes with its status and DETAIL. Behind commands that wait, in a
pause, and while TEST_EN stops the SVP, it waits in ring order (R358, R360). A ring of a busy slot only counts.
The model's readings in it: log entries 14, 26. -/
def Obligations.DoorRings : Prop :=
  (∀ (s : State) (t k : Nat), k < 16 → s.dev.sys.up = true → bit s.dev.mbx.busy k = false → s.dev.mbx.rung = [] →
    s.dev.mbx.paused = false → s.dev.sys.testStop = false → slotFault s.dev (slotBytes s.hostMem k) = none →
    Runs (.mbxDoorWrite t (2 ^ k)) t s [.mbx] (fun d =>
      bit d.mbx.busy k = true ∧ d.mbx.rung = [k] ∧ d.mbx.checked = true ∧ d.mbx.done = s.dev.mbx.done)) ∧
  (∀ (s : State) (t k st dt : Nat), k < 16 → s.dev.sys.up = true → bit s.dev.mbx.busy k = false → s.dev.mbx.rung = [] →
    s.dev.mbx.paused = false → s.dev.sys.testStop = false → slotFault s.dev (slotBytes s.hostMem k) = some (st, dt) →
    Runs (.mbxDoorWrite t (2 ^ k)) t s (.mbx :: evParts) (fun d =>
      bit d.mbx.busy k = true ∧ d.mbx.rung = [] ∧
        d.mbx.done = s.dev.mbx.done ++ [⟨k, (cmdAt s.hostMem k).tag, (cmdAt s.hostMem k).op, st, dt, [], t / 400000⟩])) ∧
  (∀ (s : State) (t k : Nat), k < 16 → s.dev.sys.up = true → bit s.dev.mbx.busy k = false →
    ((s.dev.mbx.rung ≠ [] ∧ s.dev.mbx.checked = true) ∨ s.dev.mbx.paused = true ∨ s.dev.sys.testStop = true) →
    Runs (.mbxDoorWrite t (2 ^ k)) t s [.mbx] (fun d =>
      bit d.mbx.busy k = true ∧ d.mbx.rung = s.dev.mbx.rung ++ [k] ∧ d.mbx.done = s.dev.mbx.done)) ∧
  ∀ (s : State) (t k : Nat), k < 16 → s.dev.sys.up = true → bit s.dev.mbx.busy k = true →
    Runs (.mbxDoorWrite t (2 ^ k)) t s (.mbx :: evParts) (fun d =>
      d.mbx.doorBusy = incSat 255 s.dev.mbx.doorBusy ∧ d.mbx.rung = s.dev.mbx.rung ∧ d.mbx.done = s.dev.mbx.done)

/-- A posting puts the oldest completion at the tail of the queue, the response into its slot, and nothing elsewhere; then
the slot's BUSY bit clears (R358, R361). With 64 entries unread it sets CQ_FULL and the completion waits. A command whose
turn comes only now and that fails a check of R359 completes, and is posted, with its status (R360). A write of the head
frees the entries before it, and a write of EV_PENDk clears the pending bits it names (R367).
The model's readings in it: log entry 16. -/
def Obligations.CompletionQueue : Prop :=
  (∀ (s : State) (t : Nat) (c : Completion) (rest : List Completion), turnDue s.dev = false →
    s.dev.mbx.done = c :: rest →
    s.dev.mbx.unread < 64 → s.dev.mbx.tail < 64 → c.slot < 16 → c.resp.length ≤ 496 →
    ∃ s', exec (.completionPost t) s = .next s' ∧ s'.pending = s.pending ∧ s'.dev.t = t ∧
      readMem s'.hostMem (0x4000 + 16 * s.dev.mbx.tail) 16 = cqEntry c s.dev.mbx.phase ∧
      readMem s'.hostMem (slotAt c.slot + 16) c.resp.length = c.resp ∧
      (∀ j, j < slotAt c.slot ∨ slotAt (c.slot + 1) ≤ j →
        j < 0x4000 + 16 * s.dev.mbx.tail ∨ 0x4000 + 16 * (s.dev.mbx.tail + 1) ≤ j →
        tget 0 s'.hostMem j = tget 0 s.hostMem j) ∧
      s'.dev.mbx.done = rest ∧ s'.dev.mbx.tail = (s.dev.mbx.tail + 1) % 64 ∧ s'.dev.mbx.unread = s.dev.mbx.unread + 1 ∧
      bit s'.dev.mbx.busy c.slot = false ∧ Keeps (.t :: .mbx :: evParts) s.dev s'.dev) ∧
  (∀ (s : State) (t : Nat), turnDue s.dev = false → s.dev.mbx.done ≠ [] → 64 ≤ s.dev.mbx.unread →
    Runs (.completionPost t) t s [.mbx] (fun d => d.mbx = { s.dev.mbx with cqFull := true })) ∧
  (∀ (s : State) (t k st dt : Nat), turnDue s.dev = true → s.dev.mbx.rung = [k] → s.dev.mbx.done = [] → k < 16 →
    s.dev.mbx.unread < 64 → s.dev.mbx.tail < 64 → slotFault s.dev (slotBytes s.hostMem k) = some (st, dt) →
    ∃ s', exec (.completionPost t) s = .next s' ∧ s'.pending = s.pending ∧ s'.dev.t = t ∧
      readMem s'.hostMem (0x4000 + 16 * s.dev.mbx.tail) 16 =
        cqEntry ⟨k, (cmdAt s.hostMem k).tag, (cmdAt s.hostMem k).op, st, dt, [], t / 400000⟩ s.dev.mbx.phase ∧
      s'.dev.mbx.rung = [] ∧ s'.dev.mbx.done = [] ∧ bit s'.dev.mbx.busy k = false ∧
      Keeps (.t :: .mbx :: evParts) s.dev s'.dev) ∧
  (∀ (s : State) (t v : Nat), s.dev.sys.up = true → (v % 64 + 64 - s.dev.mbx.head) % 64 ≤ s.dev.mbx.unread →
    Runs (.mbxCqHeadWrite t v) t s [.mbx] (fun d =>
      d.mbx.head = v % 64 ∧ d.mbx.unread = s.dev.mbx.unread - (v % 64 + 64 - s.dev.mbx.head) % 64)) ∧
  (∀ (s : State) (t v : Nat), s.dev.sys.up = true → s.dev.mbx.unread < (v % 64 + 64 - s.dev.mbx.head) % 64 →
    Runs (.mbxCqHeadWrite t v) t s (.mbx :: evParts) (fun d =>
      d.mbx.head = s.dev.mbx.head ∧ d.mbx.unread = s.dev.mbx.unread ∧ d.mbx.accErr = true)) ∧
  ∀ (s : State) (t k v : Nat), s.dev.sys.up = true → k < 4 → v < 2 ^ 32 →
    Runs (.evPendWrite t k v) t s [.ev] (fun d =>
      (∀ i, i < 128 → d.ev.pend.getLsbD i =
        (s.dev.ev.pend.getLsbD i && !(decide (32 * k ≤ i ∧ i < 32 * k + 32) && bit v (i - 32 * k)))) ∧
      d.ev = { s.dev.ev with pend := d.ev.pend })

/-! ### Carriers, edges and legs -/

/-- The carrier of a leg: at a due period start its period begins and no edge is planned; at the valley the high time is
loaded (R119); at the peak, with double update, again (R120); a planned rising edge raises S, turns GL off on the same fine
step and starts the dead time of GH, dt.rise long (R122), at whose end GH turns on; in the K-th period without a refreshing
interval S falls at P − (dt.fall + boot.min) (R124). Each touches that leg alone. The pulse of SYNC_OUT ends at its tick
(R117). The model's readings in it: log entries 63, 64, 65. -/
def Obligations.CarrierEvents : Prop :=
  (∀ (s : State) (t n : Nat), n < 48 → carriersRun s.dev = true → periodDue (devAt s t) n = true →
    ((leg s.dev n).running = true → (leg s.dev n).start ≠ t) →
    Runs (.carrierPeriodStart t n) t s ([.legs, .wins, .pwm, .prm, .acq] ++ evParts) (fun d =>
      (leg d n).start = t ∧ (leg d n).running = true ∧ (leg d n).rise = none ∧ (leg d n).fall = none ∧ OtherLegs n s.dev d)) ∧
  (∀ (s : State) (t n : Nat), n < 48 → carriersRun s.dev = true → (leg s.dev n).running = true → (leg s.dev n).start = t →
    Runs (.loadPoint t n false) t s [.legs] (fun d =>
      (leg d n).h1 = highTime s.dev n (leg s.dev n).len ∧ OtherLegs n s.dev d)) ∧
  (∀ (s : State) (t n : Nat), n < 48 → carriersRun s.dev = true → (leg s.dev n).running = true →
    (leg s.dev n).start + (leg s.dev n).len / 2 = t → prm s.dev 0x3107 n = 1 →
    Runs (.loadPoint t n true) t s [.legs, .acq] (fun d =>
      (leg d n).h2 = highTime s.dev n (leg s.dev n).len ∧ OtherLegs n s.dev d)) ∧
  (∀ (s : State) (t n p : Nat), n < 48 → carriersRun s.dev = true → (leg s.dev n).running = true → role s.dev n ≠ 4 →
    (leg s.dev n).rise = some p → (leg s.dev n).start * 16 + p ≤ t * 16 → t * 16 < (leg s.dev n).start * 16 + p + 16 →
    (leg s.dev n).s = false → (leg s.dev n).forceLow = false →
    Runs (.sEdge t n true) t s [.legs] (fun d =>
      (leg d n).s = true ∧ (leg d n).gl3 = false ∧ (leg d n).dt = some true ∧
        (leg d n).dtAt = 16 * (leg s.dev n).start + p + prm s.dev 0x3109 n ∧ (leg d n).gh3 = (leg s.dev n).gh3 ∧
        OtherLegs n s.dev d)) ∧
  (∀ (s : State) (t n : Nat), n < 48 → carriersRun s.dev = true → (leg s.dev n).dt = some true →
    (leg s.dev n).gl3 = false → bit (leg s.dev n).force 0 = false → (leg s.dev n).dtAt ≤ t * 16 →
    t * 16 < (leg s.dev n).dtAt + 16 →
    Runs (.deadTimeExpiry t n true) t s [.legs] (fun d =>
      (leg d n).gh3 = true ∧ (leg d n).gl3 = false ∧ (leg d n).dt = none ∧ OtherLegs n s.dev d)) ∧
  (∀ (s : State) (t n : Nat), n < 48 → carriersRun s.dev = true → (leg s.dev n).running = true →
    refreshDue s.dev n = true → 16 * (leg s.dev n).start + refreshFall s.dev n ≤ t * 16 →
    t * 16 < 16 * (leg s.dev n).start + refreshFall s.dev n + 16 →
    Runs (.bootRefreshEnforce t n) t s [.legs] (fun d =>
      (leg d n).s = false ∧ (leg d n).gh3 = false ∧ (leg d n).dt = some false ∧ (leg d n).forceLow = true ∧
        (leg d n).bootEnf = true ∧ OtherLegs n s.dev d)) ∧
  (∀ (s : State) (t : Nat), s.dev.pwm.syncEnd = t →
    Runs (.syncOutPulseEnd t) t s [.pwm] (fun d => d.pwm = { s.dev.pwm with syncOut := false }))

/-- A leg in service is lost: DFLT, DUV outside its blanking window, or as many blocked periods in a row as
leg[n].shoot.limit latch the cause and take the leg out of service (R134, R138, R139, R25); the end of the blanking window
does the same for a DUV that is still active, and ends silently otherwise (R126). A release clears the shown state and keeps the latch.
The model's readings in it: log entries 65, 66, 75. -/
def Obligations.LegFaults : Prop :=
  (∀ (s : State) (t n : Nat), n < 48 → inSvc s.dev n = true →
    Runs (.dfltAssert t n) t s tripParts (fun d =>
      inSvc d n = false ∧ (leg d n).dfltIn = true ∧ (leg d n).dfltLat = true)) ∧
  (∀ (s : State) (t n : Nat), n < 48 → inSvc s.dev n = true → (leg s.dev n).duvBlank = false →
    Runs (.duvAssert t n) t s tripParts (fun d =>
      inSvc d n = false ∧ (leg d n).duvIn = true ∧ (leg d n).duvLat = true)) ∧
  (∀ (s : State) (t n : Nat), n < 48 → inSvc s.dev n = true → (leg s.dev n).duvBlank = true → (leg s.dev n).duvIn = true →
    (leg s.dev n).duvEnd = t →
    Runs (.duvBlankEnd t n) t s tripParts (fun d => inSvc d n = false ∧ (leg d n).duvLat = true)) ∧
  (∀ (s : State) (t n : Nat), n < 48 → inSvc s.dev n = true → (leg s.dev n).duvBlank = true → (leg s.dev n).duvIn = false →
    (leg s.dev n).duvEnd = t →
    Runs (.duvBlankEnd t n) t s [.legs] (fun d =>
      leg d n = { leg s.dev n with duvBlank := false } ∧ OtherLegs n s.dev d)) ∧
  (∀ (s : State) (t n : Nat), n < 48 → inSvc s.dev n = true → prm s.dev 0x3124 n ≤ (leg s.dev n).shootRun →
    Runs (.shootLimitTrip t n) t s tripParts (fun d => inSvc d n = false ∧ (leg d n).shootTrip = true)) ∧
  (∀ (s : State) (t n : Nat), n < 48 →
    Runs (.dfltRelease t n) t s [.legs] (fun d =>
      leg d n = { leg s.dev n with dfltIn := false } ∧ OtherLegs n s.dev d)) ∧
  (∀ (s : State) (t n : Nat), n < 48 →
    Runs (.duvRelease t n) t s [.legs] (fun d =>
      leg d n = { leg s.dev n with duvIn := false } ∧ OtherLegs n s.dev d))

/-- For a leg out of service, DFLT and DUV are shown only in DFLT_IN and DUV_IN: no latch is set and no event is raised
(R140). -/
def Obligations.DriverInputsOutOfService : Prop :=
  (∀ (s : State) (t n : Nat), n < 48 → inSvc s.dev n = false →
    Runs (.dfltAssert t n) t s [.legs] (fun d =>
      leg d n = { leg s.dev n with dfltIn := true } ∧ OtherLegs n s.dev d)) ∧
  (∀ (s : State) (t n : Nat), n < 48 → inSvc s.dev n = false →
    Runs (.duvAssert t n) t s [.legs] (fun d =>
      leg d n = { leg s.dev n with duvIn := true } ∧ OtherLegs n s.dev d))

/-- A placed leg enters service at its first period start that leaves room for its start pulse, with GH off and its DUV
blanked (R125, R126, R278); a leaving leg and the companion of a lost leg leave it at theirs (R183, R278, R283).
LEGSVC (R283, R364): ACTION 0 holds a leg out and asks the Setter for a new placement; ACTION 1 lets it leave at its next
period start; after ACTION 2 the leg is free and its latches and those of its window are cleared (R141, R159), or the
command is refused with the number of what stands against it, with CLR_REF where that is its window. A disagreement of the management view raises
EV_DISAGREE (R17). The model's readings in it: log entries 64, 75, 142, 143. -/
def Obligations.LegService : Prop :=
  (∀ (s : State) (t n : Nat), n < 48 → carriersRun s.dev = true → (leg s.dev n).entering = true → role s.dev n ≠ 0 →
    (leg s.dev n).running = true → (leg s.dev n).start = t → startsAt s.dev n t = true →
    Runs (.legServiceEntry t n) t s [.legs, .pwm] (fun d =>
      inSvc d n = true ∧ (leg d n).entering = false ∧ (leg d n).gh3 = false ∧ (leg d n).duvBlank = true ∧
        (leg d n).duvEnd = t + 400 * prm s.dev 0x3123 n ∧ (leg d n).refresh = 0 ∧ OtherLegs n s.dev d)) ∧
  (∀ (s : State) (t n : Nat), n < 48 → inSvc s.dev n = true → (leg s.dev n).leaving = true →
    (leg s.dev n).running = true → (leg s.dev n).start = t →
    Runs (.legServiceExit t n) t s tripParts (fun d => inSvc d n = false ∧ (leg d n).leaving = false)) ∧
  (∀ (s : State) (t n : Nat), n < 48 → inSvc s.dev n = true → (leg s.dev n).companion = true →
    (leg s.dev n).running = true → (leg s.dev n).start = t →
    Runs (.bridgeCompanionExit t n) t s tripParts (fun d =>
      inSvc d n = false ∧ (leg d n).companion = false ∧ (leg d n).dfltLat = (leg s.dev n).dfltLat ∧
        (leg d n).duvLat = (leg s.dev n).duvLat)) ∧
  (∀ (s : State) (t slot : Nat) (c : Cmd), Admitted s slot 0x0E c → field c.body 0 0 < 48 → field c.body 1 1 = 0 →
    s.dev.sys.standby = false → role s.dev (field c.body 0 0) ≠ 0 →
    Runs (.legsvcOut t slot) t s ([.legs, .setr, .mbx] ++ evParts) (fun d =>
      leg d (field c.body 0 0) = { leg s.dev (field c.body 0 0) with held := true } ∧
        OtherLegs (field c.body 0 0) s.dev d ∧
        d.setr = { s.dev.setr with hostChange := s.dev.setr.hostChange || legOn s.dev (field c.body 0 0) } ∧
        Completed s c t 0 0 (legsvcResp d (field c.body 0 0)) d)) ∧
  (∀ (s : State) (t slot : Nat) (c : Cmd), Admitted s slot 0x0E c → field c.body 0 0 < 48 → field c.body 1 1 = 1 →
    s.dev.sys.standby = false → role s.dev (field c.body 0 0) ≠ 0 → (leg s.dev (field c.body 0 0)).entering = false →
    Runs (.legsvcOutNow t slot) t s ([.legs, .mbx] ++ evParts) (fun d =>
      leg d (field c.body 0 0) = { leg s.dev (field c.body 0 0) with
        held := true, entering := false,
        leaving := (leg s.dev (field c.body 0 0)).leaving || (leg s.dev (field c.body 0 0)).insvc } ∧
        OtherLegs (field c.body 0 0) s.dev d ∧ Completed s c t 0 0 (legsvcResp d (field c.body 0 0)) d)) ∧
  (∀ (s : State) (t slot : Nat) (c : Cmd), Admitted s slot 0x0E c → field c.body 0 0 < 48 → field c.body 1 1 = 1 →
    s.dev.sys.standby = false → role s.dev (field c.body 0 0) ≠ 0 → (leg s.dev (field c.body 0 0)).entering = true →
    Runs (.legsvcOutNow t slot) t s ([.legs, .setr, .mbx] ++ evParts) (fun d =>
      (leg d (field c.body 0 0)).held = true ∧ (leg d (field c.body 0 0)).entering = false ∧
        d.setr = { s.dev.setr with unplanned := true } ∧
        Completed s c t 0 0 (legsvcResp d (field c.body 0 0)) d)) ∧
  (∀ (s : State) (t slot : Nat) (c : Cmd), Admitted s slot 0x0E c → field c.body 0 0 < 48 → field c.body 1 1 = 2 →
    s.dev.sys.standby = false → role s.dev (field c.body 0 0) ≠ 0 → legInRefusal s.dev (field c.body 0 0) = none →
    Runs (.legsvcIn t slot) t s ([.legs, .wins, .setr, .mbx] ++ evParts) (fun d =>
      (leg d (field c.body 0 0)).held = false ∧ (leg d (field c.body 0 0)).barred = false ∧
        (leg d (field c.body 0 0)).dfltLat = false ∧ (leg d (field c.body 0 0)).duvLat = false ∧
        (win d (field c.body 0 0)).lat = false ∧ OtherWins (field c.body 0 0) s.dev d ∧
        Completed s c t 0 0 (legsvcResp d (field c.body 0 0)) d)) ∧
  (∀ (s : State) (t slot k : Nat) (c : Cmd), Admitted s slot 0x0E c → field c.body 0 0 < 48 → field c.body 1 1 = 2 →
    s.dev.sys.standby = false → role s.dev (field c.body 0 0) ≠ 0 → legInRefusal s.dev (field c.body 0 0) = some k →
    Runs (.legsvcIn t slot) t s ([.wins, .mbx] ++ evParts) (fun d =>
      Completed s c t 1 k [] d ∧ OtherWins (field c.body 0 0) s.dev d ∧
        win d (field c.body 0 0) = { win s.dev (field c.body 0 0) with
          clrRef := (win s.dev (field c.body 0 0)).clrRef ||
            (clearRefusal (win s.dev (field c.body 0 0))).isSome })) ∧
  (∀ (s : State) (t n : Nat), n < 48 → s.dev.sys.up = true →
    Runs (.mgmtViewReconcile t .leg n) t s evParts (fun d => Pending 1 d))

/-- Writes of the gate commands: a clear of the latches of a leg (R141), refused with DETAIL 1 while an input is asserted;
a service force (R135), whose both outputs the interlock blocks, counts and reports with EV_SHOOT at most once per leg and
epoch (R134), refused with DETAIL 7 outside SERVICE; and the clear of a driver group, which takes DRVENg low 2 µs after its
start, high again after the pulse, and ends with EV_DRVCLR 12 µs and the pulse after its start (R143).
The model's readings in it: log entries 25, 144. -/
def Obligations.GateCommands : Prop :=
  (∀ (s : State) (t cls n : Nat), WriteServed s.dev cls 1 → n < 48 → (leg s.dev n).dfltIn = false →
    (leg s.dev n).duvIn = false →
    Runs (.gateClear t cls n) t s [.legs, .mbx] (fun d =>
      Answered 0 0 d ∧ (leg d n).dfltLat = false ∧ (leg d n).duvLat = false ∧ (leg d n).shootTrip = false ∧
        OtherLegs n s.dev d)) ∧
  (∀ (s : State) (t cls n : Nat), WriteServed s.dev cls 1 → n < 48 → (leg s.dev n).dfltIn = true ∨ (leg s.dev n).duvIn = true →
    Runs (.gateClear t cls n) t s [.mbx] (fun d => Answered 1 1 d)) ∧
  (∀ (s : State) (t cls n : Nat), WriteServed s.dev cls 2 → s.dev.sys.st = .service → n < 48 → inSvc s.dev n = false →
    (leg s.dev n).blocked = false → (leg s.dev n).shootEp ≠ t / 400000 + 1 →
    Runs (.outForce t cls n 7) t s ([.legs, .pwm, .mbx] ++ evParts) (fun d =>
      Answered 0 0 d ∧ Pending 41 d ∧ (leg d n).force = 7 ∧ (leg d n).blocked = true ∧
        (leg d n).shootCnt = incSat 255 (leg s.dev n).shootCnt ∧ OtherLegs n s.dev d)) ∧
  (∀ (s : State) (t cls n v : Nat), WriteServed s.dev cls 2 → s.dev.sys.st ≠ .service → n < 48 → v < 8 →
    Runs (.outForce t cls n v) t s [.mbx] (fun d => Answered 1 7 d)) ∧
  (∀ (s : State) (t cls g : Nat), WriteServed s.dev cls 1 → g < 6 → bit s.dev.pwm.clrBusy g = false →
    s.dev.pnd.oustedHold = false → groupSvc s.dev g = [] →
    Runs (.drvClearGo t cls g) t s [.legs, .pwm, .mbx] (fun d =>
      Answered 0 0 d ∧ bit d.pwm.clrBusy g = true ∧ d.pwm.rejoin = s.dev.pwm.rejoin)) ∧
  (∀ (s : State) (t g : Nat), g < 6 → bit s.dev.pwm.clrBusy g = true → t = tget 0 s.dev.pwm.clrT g + 800 →
    Runs (.drvClearLow t g) t s [.pwm] (fun d => bit d.pwm.clrLow g = true)) ∧
  (∀ (s : State) (t g : Nat), g < 6 → bit s.dev.pwm.clrBusy g = true →
    t = tget 0 s.dev.pwm.clrT g + 400 * (2 + tget 0 s.dev.pwm.clrW g) →
    Runs (.drvClearHigh t g) t s [.pwm] (fun d => bit d.pwm.clrLow g = false)) ∧
  (∀ (s : State) (t g : Nat), g < 6 → bit s.dev.pwm.clrBusy g = true → bit s.dev.pwm.clrLow g = false →
    t = tget 0 s.dev.pwm.clrT g + 400 * (12 + tget 0 s.dev.pwm.clrW g) → s.dev.sys.up = true →
    Runs (.drvClearDone t g) t s ([.pwm, .legs] ++ evParts) (fun d =>
      bit d.pwm.clrBusy g = false ∧ d.pwm.rejoin = s.dev.pwm.rejoin ∧ Pending 44 d))

/-! ### The Bezel -/

/-- The assertion of a window, once N of the last M samples of its pin are beyond the code (R151, R154, R155, R156): with act 2 it latches its side and the leg it guards leaves service, or,
for a block window, a device in a state with gates enters TRIP; with act 3 it holds its leg's gate off; with act 1 the
first of an epoch raises EV_BZMON. A leg that was cut in as many periods as the limit is latched too.
The model's readings in it: log entries 9, 67. -/
def Obligations.WindowsTrip : Prop :=
  (∀ (s : State) (t w : Nat) (u : Bool) (pin : List Int), w < 48 → watches s.dev w u = true → winAct (win s.dev w) u = false →
    prm s.dev 0x4000 w = 2 → prm s.dev 0x4009 w ≤ activeSamples s.dev w u pin →
    Runs (.windowAssert t w u pin) t s tripParts (fun d =>
      (win d w).lat = true ∧ (if u then (win d w).latHi = true else (win d w).latLo = true) ∧
        (win d w).trips = incSat 65535 (win s.dev w).trips ∧ inSvc d w = false)) ∧
  (∀ (s : State) (t w : Nat) (u : Bool) (pin : List Int), 48 ≤ w → watches s.dev w u = true → winAct (win s.dev w) u = false →
    prm s.dev 0x4000 w = 2 → prm s.dev 0x4009 w ≤ activeSamples s.dev w u pin → gatesState s.dev = true →
    s.dev.hold.warned = false →
    Runs (.windowAssert t w u pin) t s tripParts (fun d =>
      (win d w).lat = true ∧ d.sys.st = .trip ∧ d.sys.cause = 0x20)) ∧
  (∀ (s : State) (t w : Nat) (u : Bool) (pin : List Int), w < 48 → watches s.dev w u = true → winAct (win s.dev w) u = false →
    prm s.dev 0x4000 w = 3 → prm s.dev 0x4009 w ≤ activeSamples s.dev w u pin →
    Runs (.windowAssert t w u pin) t s ([.wins, .legs] ++ evParts) (fun d =>
      win d w = { setAct u true (win s.dev w) with cutHold := true } ∧ OtherWins w s.dev d)) ∧
  (∀ (s : State) (t w : Nat) (u : Bool) (pin : List Int), watches s.dev w u = true → winAct (win s.dev w) u = false →
    prm s.dev 0x4000 w = 1 → prm s.dev 0x4009 w ≤ activeSamples s.dev w u pin → (win s.dev w).monEp ≠ t / 400000 + 1 →
    s.dev.sys.up = true →
    Runs (.windowAssert t w u pin) t s (.wins :: evParts) (fun d => Pending 48 d ∧ winAct (win d w) u = true ∧
      OtherWins w s.dev d)) ∧
  (∀ (s : State) (t w : Nat), w < 48 → prm s.dev 0x4000 w = 3 → prm s.dev 0x400A w ≤ (win s.dev w).cutRun →
    Runs (.cutLimitTrip t w) t s tripParts (fun d =>
      (win d w).lat = true ∧ (win d w).cutTrip = true ∧ inSvc d w = false))

/-- A comparator releases after M inactive samples (R151), and with the last of its window ARMHOLD clears (R160); a clear of a released window drops
its latches (R159), and a clear of one that is still asserted is refused with DETAIL 2 and sets CLR_REF.
A self-test of a window out of service (R165, R166): it starts with the filter asserted and the test source 8 LSB inside
the release code; at 2 µs the filter must have released and the source steps beyond the trip code; at 4 µs it must have
asserted, within N + 5 samples; at 6 µs the source steps back; a test that released again by 8 µs passes with EV_BZTEST.
The model's readings in it: log entries 9, 67, 68. -/
def Obligations.WindowClearsAndTests : Prop :=
  (∀ (s : State) (t w : Nat) (u : Bool) (pin : List Int), watches s.dev w u = true → winAct (win s.dev w) u = true →
    winAct (win s.dev w) (!u) = false → prm s.dev 0x4008 w ≤ pin.length → activeSamples s.dev w u pin = 0 →
    Runs (.windowRelease t w u pin) t s [.wins, .legs] (fun d =>
      win d w = { setAct u false (win s.dev w) with armhold := false } ∧ OtherWins w s.dev d)) ∧
  (∀ (s : State) (t cls w : Nat), WriteServed s.dev cls 1 → w < 56 → (win s.dev w).hiAct = false →
    (win s.dev w).loAct = false → (win s.dev w).armhold = false → testFail (win s.dev w) = false →
    Runs (.winClear t cls w) t s [.wins, .legs, .mbx] (fun d =>
      Answered 0 0 d ∧
        win d w = { win s.dev w with lat := false, latHi := false, latLo := false, cutTrip := false } ∧
        OtherWins w s.dev d)) ∧
  (∀ (s : State) (t cls w : Nat), WriteServed s.dev cls 1 → w < 56 → (win s.dev w).hiAct = true →
    Runs (.winClear t cls w) t s [.wins, .mbx] (fun d =>
      Answered 1 2 d ∧ win d w = { win s.dev w with clrRef := true } ∧ OtherWins w s.dev d)) ∧
  (∀ (s : State) (t cls w : Nat), WriteServed s.dev cls 2 → w < 56 → testAdmitted s.dev w = true →
    Runs (.winTestUpper t cls w) t s [.wins, .mbx] (fun d =>
      Answered 0 0 d ∧
        win d w = { win s.dev w with hiAct := true, testing := some true, testBad := 0, testPh := 1, testT := t, testSrc := prmI s.dev 0x4005 w - 8 } ∧
        OtherWins w s.dev d)) ∧
  (∀ (s : State) (t cls w : Nat), WriteServed s.dev cls 2 → w < 56 → testAdmitted s.dev w = true →
    Runs (.winTestLower t cls w) t s [.wins, .mbx] (fun d =>
      Answered 0 0 d ∧
        win d w = { win s.dev w with loAct := true, testing := some false, testBad := 0, testPh := 1, testT := t, testSrc := prmI s.dev 0x4007 w + 8 } ∧
        OtherWins w s.dev d)) ∧
  (∀ (s : State) (t w : Nat) (u r : Bool), w < 56 → (win s.dev w).testing = some u → (win s.dev w).testPh = 1 →
    (win s.dev w).testBad = 0 → t = (win s.dev w).testT + 800 →
    Runs (.winTestReleaseCheck t w r) t s [.wins] (fun d =>
      win d w = setAct u (!r) { win s.dev w with
        testPh := 2, testSrc := tripSource s.dev w u, testBad := if r then 0 else 4 } ∧ OtherWins w s.dev d)) ∧
  (∀ (s : State) (t w k : Nat) (u : Bool), w < 56 → (win s.dev w).testing = some u → (win s.dev w).testPh = 2 →
    (win s.dev w).testBad = 0 → k < 256 → t = (win s.dev w).testT + 1600 →
    Runs (.winTestAssertDeadline t w (some k)) t s [.wins] (fun d =>
      win d w = setAct u true { win s.dev w with
        testPh := 3, testDelay := k, testBad := if prm s.dev 0x4009 w + 5 < k then 3 else 0 } ∧ OtherWins w s.dev d)) ∧
  (∀ (s : State) (t w : Nat) (u : Bool), w < 56 → (win s.dev w).testing = some u → (win s.dev w).testPh = 2 →
    (win s.dev w).testBad = 0 → t = (win s.dev w).testT + 1600 →
    Runs (.winTestAssertDeadline t w none) t s [.wins] (fun d =>
      win d w = setAct u false { win s.dev w with testPh := 3, testBad := 2 } ∧ OtherWins w s.dev d)) ∧
  (∀ (s : State) (t w : Nat) (u : Bool), w < 56 → (win s.dev w).testing = some u → (win s.dev w).testPh = 3 →
    t = (win s.dev w).testT + 2400 →
    Runs (.winTestSourceReturn t w) t s [.wins] (fun d =>
      win d w = { win s.dev w with testPh := 4, testSrc := relSource s.dev w u } ∧ OtherWins w s.dev d)) ∧
  (∀ (s : State) (t w : Nat) (u : Bool), w < 56 → (win s.dev w).testing = some u → (win s.dev w).testPh = 4 →
    (win s.dev w).testBad = 0 → s.dev.setr.testQueue = [] → s.dev.sys.up = true → t = (win s.dev w).testT + 3200 →
    Runs (.winTestEnd t w true) t s ([.wins, .legs] ++ evParts) (fun d =>
      (win d w).testing = none ∧ (win d w).testRes = 1 ∧
        (if u then (win d w).failHi = false else (win d w).failLo = false) ∧ Pending 53 d ∧ OtherWins w s.dev d))

/-! ### Acquisition -/

/-- A scan timer at its period triggers the Facets that name it, a busy one counting a miss instead (R34, R35); a Facet
that scans continuously starts its next scan on the conversion edge that follows its last conversion (R33), a triggered one
on the first edge at or after its delay (R34), and each converts its enabled positions in ascending order, 10 ticks apart
(R32). The rotation of Facet 12 (R60, R61, R64) and its takeover of a faulty Facet (R52, R295): a dwell of acq.rot.dwell
starts with its own self-calibration of 3,500 µs; a pass leads to the overlap of 256 scans and, where the codes match, to
the handover with the self-calibration of the core Facet, and where they do not to EV_ROTFAIL without one; a failed
self-calibration declares its Facet faulty; the takeover hands the inputs over at the scan boundary; a write of the fault
flag of a faulty Facet starts its self-calibration.
The model's readings in it: log entries 55, 58, 150, 154, 155. -/
def Obligations.FacetScans : Prop :=
  (∀ (s : State) (t k f : Nat), k < 8 → prm s.dev 0x1010 k ≠ 0 → tget 0 s.dev.acq.timers k ≤ t →
    (t - tget 0 s.dev.acq.timers k) % prm s.dev 0x1010 k = 0 → f < 13 → prm s.dev 0x1000 f = 2 →
    prm s.dev 0x1002 f = 48 + k → (facet s.dev f).waiting = none → (facet s.dev f).until_ ≤ t →
    Runs (.scanTimerFire t k) t s [.acq] (fun d => (facet d f).waiting = some (t + prm s.dev 0x1004 f))) ∧
  (∀ (s : State) (t k f : Nat), k < 8 → prm s.dev 0x1010 k ≠ 0 → tget 0 s.dev.acq.timers k ≤ t →
    (t - tget 0 s.dev.acq.timers k) % prm s.dev 0x1010 k = 0 → f < 13 → prm s.dev 0x1000 f = 2 →
    prm s.dev 0x1002 f = 48 + k → t < (facet s.dev f).until_ →
    Runs (.scanTimerFire t k) t s [.acq] (fun d =>
      facet d f = { facet s.dev f with missed := incSat 65535 (facet s.dev f).missed })) ∧
  (∀ (s : State) (t f : Nat), f < 13 → locked s.dev 3 = true → t % 10 = s.dev.clk.phase → prm s.dev 0x1000 f = 1 →
    (facet s.dev f).next ≤ t → t < (facet s.dev f).next + 10 → (facet s.dev f).change = [] → scanLen s.dev f ≠ 0 →
    Runs (.scanStart t f) t s [.acq] (fun d =>
      facet d f = { facet s.dev f with
        waiting := none, until_ := t + 10 * (scanLen s.dev f - 1) + 1, next := t + 10 * scanLen s.dev f,
        due := (facet s.dev f).due ++ scanItems f [] (devAt s t) } ∧
        (∀ g, g ≠ f → facet d g = facet s.dev g) ∧ d.acq.ains = s.dev.acq.ains)) ∧
  (∀ (s : State) (t f w : Nat), f < 13 → locked s.dev 3 = true → t % 10 = s.dev.clk.phase → prm s.dev 0x1000 f = 2 →
    (facet s.dev f).waiting = some w → w ≤ t → t < w + 10 → (facet s.dev f).change = [] → scanLen s.dev f ≠ 0 →
    Runs (.scanStart t f) t s [.acq] (fun d =>
      facet d f = { facet s.dev f with
        waiting := none, until_ := t + 10 * (scanLen s.dev f - 1) + 1, next := t + 10 * scanLen s.dev f,
        due := (facet s.dev f).due ++ scanItems f [] (devAt s t) } ∧
        (∀ g, g ≠ f → facet d g = facet s.dev g) ∧ d.acq.ains = s.dev.acq.ains)) ∧
  (∀ (s : State) (t : Nat), prm s.dev 0x1200 0 = 1 → s.dev.acq.rotPhase = 0 → s.dev.acq.spareFlt = false →
    locked s.dev 3 = true → s.dev.acq.facetFlt = 0 → s.dev.acq.rotNext < 12 → prm s.dev 0x1000 s.dev.acq.rotNext ≠ 0 →
    s.dev.acq.rotBase ≤ t → (t - s.dev.acq.rotBase) % (prm s.dev 0x1201 0 * 400000000) = 0 →
    calBusy s.dev s.dev.acq.spareFor = false →
    Runs (.rotDwellStart t) t s [.acq] (fun d =>
      d.acq.rotPhase = 1 ∧ d.acq.rotCur = s.dev.acq.rotNext ∧ d.acq.rotNext = (s.dev.acq.rotNext + 1) % 12 ∧
        (facet d 12).selfCal = true ∧ (facet d 12).selfCalT = t ∧ d.acq.spareFor = 15)) ∧
  (∀ (s : State) (t : Nat), (facet s.dev 12).selfCal = true → t = (facet s.dev 12).selfCalT + 1400000 →
    s.dev.acq.rotPhase = 1 →
    Runs (.facetSelfcalDone t 12 true) t s [.acq] (fun d =>
      d.acq.rotPhase = 2 ∧ d.acq.overlap = 0 ∧ (facet d 12).selfCal = false ∧ tget 0 d.acq.trim 12 = 0)) ∧
  (∀ (s : State) (t f : Nat), f < 12 → (facet s.dev f).selfCal = true → t = (facet s.dev f).selfCalT + 1400000 →
    bit s.dev.acq.facetFlt f = false → s.dev.sys.up = true →
    Runs (.facetSelfcalDone t f false) t s (.acq :: evParts) (fun d =>
      bit d.acq.facetFlt f = true ∧ Pending 17 d ∧ (facet d f).selfCal = false)) ∧
  (∀ (s : State) (t : Nat) (ds : List Int), ds ≠ [] → (overlapMatch (prm s.dev 0x1202 0) ds).2 = true →
    s.dev.acq.calZero = none → s.dev.acq.calFull = none → s.dev.acq.rotPhase = 2 → locked s.dev 3 = true →
    s.dev.acq.overlap = 256 → (facet s.dev s.dev.acq.rotCur).until_ ≤ t →
    Runs (.rotOverlapEnd t ds) t s [.acq] (fun d =>
      d.acq.rotPhase = 3 ∧ d.acq.spareFor = s.dev.acq.rotCur ∧ (facet d s.dev.acq.rotCur).selfCal = true ∧
        (facet d s.dev.acq.rotCur).selfCalT = t)) ∧
  (∀ (s : State) (t : Nat) (ds : List Int), ds ≠ [] → (overlapMatch (prm s.dev 0x1202 0) ds).2 = false →
    s.dev.acq.calZero = none → s.dev.acq.calFull = none → s.dev.acq.rotPhase = 2 → locked s.dev 3 = true →
    s.dev.acq.overlap = 256 → (facet s.dev s.dev.acq.rotCur).until_ ≤ t → s.dev.sys.up = true →
    Runs (.rotOverlapEnd t ds) t s (.acq :: evParts) (fun d =>
      d.acq.rotPhase = 0 ∧ d.acq.spareFor = s.dev.acq.spareFor ∧ Pending 19 d)) ∧
  (∀ (s : State) (t f : Nat), s.dev.acq.takeover = f → f < 12 → s.dev.acq.spareFlt = false →
    (facet s.dev f).until_ ≤ t →
    Runs (.spareTakeover t f) t s [.acq] (fun d =>
      d.acq.spareFor = f ∧ d.acq.takeover = 15 ∧ d.acq.rotPhase = 5 ∧ (facet d 12).selfCal = false)) ∧
  (∀ (s : State) (t f : Nat), f < 12 → bit s.dev.acq.facetFlt f = true →
    Runs (.facetFltWrite t (2 ^ f)) t s [.acq] (fun d =>
      facet d f = { facet s.dev f with selfCal := true, selfCalT := t } ∧ (∀ g, g ≠ f → facet d g = facet s.dev g) ∧
        d.acq.facetFlt = s.dev.acq.facetFlt)) ∧
  (∀ (s : State) (t : Nat), s.dev.acq.spareFlt = true →
    Runs (.spareFltWrite t) t s [.acq] (fun d =>
      facet d 12 = { facet s.dev 12 with selfCal := true, selfCalT := t } ∧
        (∀ g, g ≠ 12 → facet d g = facet s.dev g) ∧ d.acq.spareFlt = true))

/-- The next conversion of a scan, 118 ticks after its sampling instant (R31, R32), on an enabled input whose filter passes
every sample (R39, R41): the code less the system offset, times the gain of its range, rounded and clamped to 24 bits, is
delivered with VALID, SRC, CAL, SEQ and its stamp (R36); a result of a diagnostic position stands in its own place, and one
outside the limits of R51 declares its converter faulty. The model's readings in it: log entries 54, 56, 151. -/
def Obligations.ConversionResults : Prop :=
  (∀ (s : State) (t f p a st : Nat) (raw : Int) (sp : Bool) (rest : List ScanItem), s.dev.sys.up = true →
    s.dev.sys.st ≠ .doze → f < 12 → p < 14 → (facet s.dev f).due = ⟨p, a, sp, []⟩ :: rest → t = a + 118 →
    st = a % 2 ^ 32 → prm s.dev 0x1103 (14 * f + p) = 0 → prm s.dev 0x1102 (14 * f + p) = 0 →
    prm s.dev 0x1100 (14 * f + p) ≠ 3 → (ain s.dev (14 * f + p)).discard = 0 → (ain s.dev (14 * f + p)).clipAge = none →
    (ain s.dev (14 * f + p)).integ = (ain s.dev (14 * f + p)).comb → (ain s.dev (14 * f + p)).comb.length ≤ 1 →
    tget 0 s.dev.acq.trim (if sp then 12 else f) = 0 →
    Runs (.ainResultDelivered t f p raw false st) t s
      ([.acq, .fil, .charm, .carat, .pts, .legs, .prm, .pv, .pnd] ++ evParts) (fun d =>
        (ain d (14 * f + p)).res =
          { value := clampI (-8388608) 8388607 (roundAway ((((raw * 256 -
              toInt 32 (prm s.dev 0x1107 (4 * (14 * f + p) + prm s.dev 0x1101 (14 * f + p))) : Int) : Rat)) *
              (prm s.dev 0x1108 (4 * (14 * f + p) + prm s.dev 0x1101 (14 * f + p)) : Rat) / 1073741824)),
            valid := facetGood s.dev sp f && (ain s.dev (14 * f + p)).invalid = 0,
            ovr := false, src := sp,
            cal := prm s.dev 0x1109 (4 * (14 * f + p) + prm s.dev 0x1101 (14 * f + p)) = 2,
            seq := ((ain s.dev (14 * f + p)).res.seq + 1) % 16, stamp := a } ∧
        (facet d f).due = rest)) ∧
  (∀ (s : State) (t f a st : Nat) (raw : Int) (sp : Bool) (rest : List ScanItem), s.dev.sys.up = true →
    s.dev.sys.st ≠ .doze → f < 13 → (facet s.dev f).due = ⟨14, a, sp, []⟩ :: rest → t = a + 118 → st = a % 2 ^ 32 →
    prm s.dev 0x1005 f = 1 → 1194000 ≤ raw → raw ≤ 1206000 →
    Runs (.ainResultDelivered t f 14 raw false st) t s [.acq] (fun d =>
      (tget {} d.acq.diag (2 * f)).value = raw ∧ (tget {} d.acq.diag (2 * f)).valid = facetGood s.dev sp f ∧
        (tget {} d.acq.diag (2 * f)).stamp = a ∧ d.acq.facetFlt = s.dev.acq.facetFlt)) ∧
  (∀ (s : State) (t f a st : Nat) (raw : Int) (rest : List ScanItem), s.dev.sys.up = true →
    s.dev.sys.st ≠ .doze → f < 12 → (facet s.dev f).due = ⟨14, a, false, []⟩ :: rest → t = a + 118 → st = a % 2 ^ 32 →
    prm s.dev 0x1005 f = 1 → raw < 1194000 ∨ 1206000 < raw → bit s.dev.acq.facetFlt f = false →
    Runs (.ainResultDelivered t f 14 raw false st) t s (.acq :: evParts) (fun d =>
      bit d.acq.facetFlt f = true ∧ Pending 17 d ∧ (tget {} d.acq.diag (2 * f)).valid = false))

/-- System calibration (R54 to R57): a command whose input and state are admitted runs on, and is refused with DETAIL 7
otherwise; a zero average of 1024 · cal.avg outputs is the new offset, held for the next epoch and journalled with
cal.state 1, and the command ends with it; a full calibration ends with its gain, in units of 2⁻³⁰, held and journalled with
cal.state 2, or is refused with the number of the condition of R56 that failed.
The model's readings in it: log entries 15, 57, 152, 153. -/
def Obligations.Calibration : Prop :=
  (∀ (s : State) (t slot : Nat) (c : Cmd), Admitted s slot 0x0C c → field c.body 1 0 < 168 → field c.body 2 2 < 4 →
    calAdmitted s.dev (field c.body 1 0) = true →
    Runs (.calzero t slot) t s [.mbx, .acq] (fun d =>
      d.acq.calZero = some { slot := c.slot, ain := field c.body 1 0, gain := field c.body 2 2, full := false, ac := false,
                             applied := 0, startT := t } ∧
      d.mbx.rung = s.dev.mbx.rung.tail ∧ d.mbx.done = s.dev.mbx.done ∧ (longOf d 0x0C).isSome = true)) ∧
  (∀ (s : State) (t slot : Nat) (c : Cmd), Admitted s slot 0x0C c → field c.body 1 0 < 168 → field c.body 2 2 < 4 →
    calAdmitted s.dev (field c.body 1 0) = false →
    Runs (.calzero t slot) t s [.mbx] (fun d => Completed s c t 1 7 [] d)) ∧
  (∀ (s : State) (t : Nat) (j : CalJob) (l : LongCmd), s.dev.acq.calZero = some j →
    j.count = 1024 * prm s.dev 0x110A (4 * j.ain + j.gain) → s.dev.mbx.long.find? (fun x => x.slot = j.slot) = some l →
    s.dev.sys.up = true →
    Runs (.calzeroDone t) t s ([.mbx, .acq, .lkt] ++ evParts) (fun d =>
      d.acq.calZero = none ∧ Pending 18 d ∧
        EndedLong s l t 0 0 (le 4 (ofInt 32 (clampI (-8388608) 8388607 (roundAway (j.sum / (j.count : Rat)))))) d ∧
        tget none d.acq.calPend (pkey 0x1109 (4 * j.ain + j.gain)) = some 1 ∧
        tget none d.acq.calPend (pkey 0x1107 (4 * j.ain + j.gain)) =
          some (ofInt 32 (clampI (-8388608) 8388607 (roundAway (j.sum / (j.count : Rat))))) ∧
        d.lkt.journal = s.dev.lkt.journal ++
          [.always (pkey 0x1107 (4 * j.ain + j.gain)) (ofInt 32 (clampI (-8388608) 8388607 (roundAway (j.sum / (j.count : Rat))))),
           .always (pkey 0x1109 (4 * j.ain + j.gain)) 1])) ∧
  (∀ (s : State) (t slot : Nat) (c : Cmd), Admitted s slot 0x0D c → field c.body 1 0 < 168 → field c.body 2 2 < 4 →
    field c.body 3 3 = 0 → calAdmitted s.dev (field c.body 1 0) = true →
    prm s.dev 0x1109 (4 * field c.body 1 0 + field c.body 2 2) ≠ 0 → prm s.dev 0x1100 (field c.body 1 0) ≤ 1 →
    Runs (.calfullDc t slot) t s [.mbx, .acq] (fun d =>
      d.acq.calFull = some { slot := c.slot, ain := field c.body 1 0, gain := field c.body 2 2, full := true, ac := false,
                             applied := f32 (field c.body 7 4), startT := t } ∧
      d.mbx.rung = s.dev.mbx.rung.tail ∧ (longOf d 0x0D).isSome = true)) ∧
  (∀ (s : State) (t slot : Nat) (c : Cmd), Admitted s slot 0x0D c → field c.body 1 0 < 168 → field c.body 2 2 < 4 →
    field c.body 3 3 = 1 → calAdmitted s.dev (field c.body 1 0) = true →
    prm s.dev 0x1109 (4 * field c.body 1 0 + field c.body 2 2) ≠ 0 →
    Runs (.calfullAc t slot) t s [.mbx, .acq] (fun d =>
      d.acq.calFull = some { slot := c.slot, ain := field c.body 1 0, gain := field c.body 2 2, full := true, ac := true,
                             applied := f32 (field c.body 7 4), startT := t } ∧
      d.mbx.rung = s.dev.mbx.rung.tail ∧ (longOf d 0x0D).isSome = true)) ∧
  (∀ (s : State) (t slot : Nat) (c : Cmd), Admitted s slot 0x0D c → field c.body 1 0 < 168 → field c.body 2 2 < 4 →
    field c.body 3 3 = 0 → calAdmitted s.dev (field c.body 1 0) = true →
    prm s.dev 0x1109 (4 * field c.body 1 0 + field c.body 2 2) = 0 →
    Runs (.calfullDc t slot) t s [.mbx] (fun d => Completed s c t 1 1 [] d)) ∧
  (∀ (s : State) (t slot : Nat) (c : Cmd), Admitted s slot 0x0D c → field c.body 1 0 < 168 → field c.body 2 2 < 4 →
    field c.body 3 3 = 0 → calAdmitted s.dev (field c.body 1 0) = true →
    prm s.dev 0x1109 (4 * field c.body 1 0 + field c.body 2 2) ≠ 0 → 1 < prm s.dev 0x1100 (field c.body 1 0) →
    Runs (.calfullDc t slot) t s [.mbx] (fun d => Completed s c t 1 2 [] d)) ∧
  (∀ (s : State) (t : Nat) (j : CalJob) (l : LongCmd) (g : Rat), s.dev.acq.calFull = some j →
    j.bad = false → (if j.ac then prm s.dev 0x110A (4 * j.ain + j.gain) ≤ j.cycles
      else j.count = 1024 * prm s.dev 0x110A (4 * j.ain + j.gain)) → calGain s.dev j = some g →
    1 / 2 ≤ g → g ≤ 2 → s.dev.mbx.long.find? (fun x => x.slot = j.slot) = some l →
    Runs (.calfullDone t) t s [.mbx, .acq, .lkt, .carat] (fun d =>
      d.acq.calFull = none ∧ EndedLong s l t 0 0 (le 4 (roundAway (g * 1073741824)).toNat) d ∧
        tget none d.acq.calPend (pkey 0x1109 (4 * j.ain + j.gain)) = some 2 ∧
        tget none d.acq.calPend (pkey 0x1108 (4 * j.ain + j.gain)) = some (roundAway (g * 1073741824)).toNat ∧
        d.lkt.journal = s.dev.lkt.journal ++
          [.always (pkey 0x1108 (4 * j.ain + j.gain)) (roundAway (g * 1073741824)).toNat,
           .always (pkey 0x1109 (4 * j.ain + j.gain)) 2])) ∧
  (∀ (s : State) (t : Nat) (j : CalJob) (l : LongCmd), s.dev.acq.calFull = some j → j.bad = true →
    s.dev.mbx.long.find? (fun x => x.slot = j.slot) = some l →
    Runs (.calfullDone t) t s [.mbx, .acq] (fun d => d.acq.calFull = none ∧ EndedLong s l t 1 3 [] d)) ∧
  (∀ (s : State) (t : Nat) (j : CalJob) (l : LongCmd), s.dev.acq.calFull = some j → j.bad = false →
    (if j.ac then prm s.dev 0x110A (4 * j.ain + j.gain) ≤ j.cycles
      else j.count = 1024 * prm s.dev 0x110A (4 * j.ain + j.gain)) → calGain s.dev j = none →
    s.dev.mbx.long.find? (fun x => x.slot = j.slot) = some l →
    Runs (.calfullDone t) t s [.mbx, .acq] (fun d => d.acq.calFull = none ∧ EndedLong s l t 1 4 [] d)) ∧
  (∀ (s : State) (t : Nat) (j : CalJob) (l : LongCmd) (g : Rat), s.dev.acq.calFull = some j → j.bad = false →
    (if j.ac then prm s.dev 0x110A (4 * j.ain + j.gain) ≤ j.cycles
      else j.count = 1024 * prm s.dev 0x110A (4 * j.ain + j.gain)) → calGain s.dev j = some g → g < 1 / 2 ∨ 2 < g →
    s.dev.mbx.long.find? (fun x => x.slot = j.slot) = some l →
    Runs (.calfullDone t) t s [.mbx, .acq] (fun d => d.acq.calFull = none ∧ EndedLong s l t 1 5 [] d)) ∧
  (∀ (s : State) (t : Nat) (j : CalJob) (l : LongCmd), s.dev.acq.calFull = some j → j.bad = false → j.ac = true →
    j.cycles < prm s.dev 0x110A (4 * j.ain + j.gain) → j.startT + 800000000 ≤ t →
    s.dev.mbx.long.find? (fun x => x.slot = j.slot) = some l →
    Runs (.calfullDone t) t s [.mbx, .acq] (fun d => d.acq.calFull = none ∧ EndedLong s l t 1 6 [] d))

/-! ### The Filigree -/

/-- An evaluation (R66 to R82): a ready cascade that may take a lane evaluates its sections on its source values and the
states it starts from; its output is written at the first tick at or after its lane cycles, with VALID, SAT, LATE, its
delay and a new SEQ, and the states move on; a transfer out that is replayed delays the output by at most 8 ticks (R105).
An invalid source halts it, with VALID 0 and EV_FILHALT (R74), and the leg it drives leaves service (R75); a transfer that
fails its replay halts every cascade and takes the device to TRIP (R105, R109).
The model's readings in it: log entries 59, 61, 62, 156. -/
def Obligations.CascadeEvaluations : Prop :=
  (∀ (s : State) (t c : Nat) (p : TransferParity) (d1 : Dev) (vs : List Int), p ≠ .failed → mayStart s.dev c = true →
    d1 = (if (List.range 4).any (fun k => srcCode s.dev c k = 0x3000) && spValid s.dev c then spUpdate c (devAt s t) else devAt s t) →
    sources d1 c = some vs →
    Runs (.cascadeEvalStart t c p) t s [.fil, .gs] (fun d =>
      (cas d c).job = some { evaluate d1 c vs (startStates s.dev c) with
        origin := (cas s.dev c).origin, sp := sat24 (roundAway (cas d1 c).spVal) } ∧
      (cas d c).ready = false ∧ (cas d c).fresh = 0 ∧ (cas d c).out = (cas s.dev c).out ∧
      (∀ b, b ≠ c → cas d b = cas s.dev b) ∧ d.fil.cycles = s.dev.fil.cycles + 5 * prm s.dev 0x2011 c + 4)) ∧
  (∀ (s : State) (t c : Nat) (p : TransferParity), p ≠ .failed → mayStart s.dev c = true →
    (∀ k, k < 4 → srcCode s.dev c k ≠ 0x3000) → sources s.dev c = none → destLeg s.dev c = none →
    (cas s.dev c).halt = false → s.dev.sys.up = true →
    Runs (.cascadeEvalStart t c p) t s (.fil :: evParts) (fun d =>
      (cas d c).halt = true ∧ (cas d c).out.valid = false ∧ (cas d c).out.value = (cas s.dev c).out.value ∧
        (cas d c).out.seq = ((cas s.dev c).out.seq + 1) % 16 ∧ Pending 25 d)) ∧
  (∀ (s : State) (t c n : Nat) (p : TransferParity), p ≠ .failed → mayStart s.dev c = true →
    (∀ k, k < 4 → srcCode s.dev c k ≠ 0x3000) → sources s.dev c = none → destLeg s.dev c = some n →
    (cas s.dev c).halt = false →
    Runs (.cascadeEvalStart t c p) t s (.fil :: tripParts) (fun d =>
      (cas d c).halt = true ∧ (cas d c).out.valid = false ∧ inSvc d n = false)) ∧
  (∀ (s : State) (t c : Nat), mayStart s.dev c = true → gatesState s.dev = true → s.dev.hold.warned = false →
    s.dev.sys.up = true →
    Runs (.cascadeEvalStart t c .failed) t s (.fil :: tripParts) (fun d =>
      d.fil.unc = true ∧ d.fil.haltAll = true ∧ d.sys.st = .trip ∧ d.sys.cause = 0x29)) ∧
  (∀ (s : State) (t c : Nat) (j : EvalJob), c < 128 → (cas s.dev c).job = some j → evalDue j ≤ t → t ≤ evalDue j + 8 →
    gatesState s.dev = true → s.dev.hold.warned = false →
    Runs (.cascadeEvalDone t c .failed) t s (.fil :: tripParts) (fun d =>
      d.fil.unc = true ∧ d.fil.haltAll = true ∧ d.sys.st = .trip ∧ d.sys.cause = 0x29)) ∧
  (∀ (s : State) (t c : Nat) (j : EvalJob) (p : TransferParity), c < 128 → (cas s.dev c).job = some j →
    (p = .good ∧ t = j.start + (2 * j.cyc + 2) / 3) ∨
      (p = .replayed ∧ j.start + (2 * j.cyc + 2) / 3 ≤ t ∧ t ≤ j.start + (2 * j.cyc + 2) / 3 + 8) →
    Runs (.cascadeEvalDone t c p) t s ([.fil, .gs, .pv] ++ evParts) (fun d =>
      (cas d c).out = { value := j.value, valid := true, sat := j.sat, rpl := false,
                        late := decide (prm s.dev 0x201A c < min 65535 (t - j.origin)),
                        seq := ((cas s.dev c).out.seq + 1) % 16, delay := min 65535 (t - j.origin),
                        origin := j.origin, tick := t } ∧
      (cas d c).states = j.states ∧ (cas d c).prev = (cas s.dev c).states ∧ (cas d c).halt = false ∧
      (cas d c).job = none ∧ (cas d c).good = j.value))

/-- A write to fil.stage.discard copies the active bank into the inactive bank for every cascade with MIRROR = 0, and sets
MIRROR to 1; it acts at once, outside any commit group (R91). -/
def Obligations.StageDiscard : Prop :=
  ∀ (s : State) (t cls : Nat), WriteServed s.dev cls 2 →
    Runs (.filStageDiscard t cls) t s [.fil, .mbx] (fun d =>
      Answered 0 0 d ∧ activeBank d = activeBank s.dev ∧
        ∀ c, c < 128 → (cas d c).mirror = true ∧ ((cas s.dev c).mirror = false →
          ∀ k, k ∈ bankKeys c → bankGet (otherBank d) k.1 k.2 = bankGet (activeBank s.dev) k.1 k.2))

/-- The banks (R87 to R90, R110): at the end of the copy after a swap every cascade that had MIRROR = 0 at the swap agrees
with the active bank again, the others are as they were, and fil.bank.swap reads 0; a failing word of the inactive bank is
mended from the active one, or marks the staged words of its cascade bad.
The model's readings in it: log entries 33, 62. -/
def Obligations.FiligreeBanks : Prop :=
  (∀ (s : State) (t : Nat), s.dev.fil.copying = true → s.dev.mbx.heldPset = [] →
    Runs (.mirrorCopyDone t) t s [.fil, .prm] (fun d =>
      d.fil.copying = false ∧ d.fil.bank = s.dev.fil.bank ∧ activeBank d = activeBank s.dev ∧ prm d 0x2001 0 = 0 ∧
        (∀ c, c < 128 → bit s.dev.fil.copySet c = true → (cas d c).mirror = true ∧
          ∀ k, k ∈ bankKeys c → bankGet (otherBank d) k.1 k.2 = bankGet (activeBank s.dev) k.1 k.2) ∧
        (∀ c, c < 128 → bit s.dev.fil.copySet c = false → cas d c = cas s.dev c))) ∧
  (∀ (s : State) (t c : Nat), c < 128 → (cas s.dev c).mirror = true →
    Runs (.bankScrub t c false) t s [.fil] (fun d =>
      activeBank d = activeBank s.dev ∧ d.fil.cas = s.dev.fil.cas ∧
        ∀ k, k ∈ bankKeys c → bankGet (otherBank d) k.1 k.2 = bankGet (activeBank s.dev) k.1 k.2)) ∧
  (∀ (s : State) (t c : Nat), c < 128 → (cas s.dev c).mirror = false →
    Runs (.bankScrub t c false) t s [.fil] (fun d =>
      d.fil.bank0 = s.dev.fil.bank0 ∧ d.fil.bank1 = s.dev.fil.bank1 ∧
        cas d c = { cas s.dev c with stageBad := true } ∧ (∀ b, b ≠ c → cas d b = cas s.dev b)))

/-- Setpoints of the host and of the pins (R95 to R99): a write of sp.fixed of a cascade that the device does not own acts
at once and is journalled; a reference edge of a pin that has held for pin[q].filt ends a measurement, which reaches the
cascades that follow that pin; none for sp.timeout is an event.
Trace taps (R101 to R104): a fire of a tap whose ring is filled stops it after its trace.post samples and touches no tap of
another group, and a tap whose post samples are taken keeps its ring, and with trace.dump 1 raises EV_TRACE.
The model's readings in it: log entries 60, 95, 157, 158, 159, 160. -/
def Obligations.SetpointsAndTaps : Prop :=
  (∀ (s : State) (t cls c : Nat) (v : Int), WriteServed s.dev cls 1 → c < 128 → -8388608 ≤ v → v ≤ 8388607 →
    casOwned s.dev c = false →
    Runs (.spFixedWrite t cls c v) t s [.prm, .lkt, .mbx] (fun d =>
      Answered 0 0 d ∧ prmI d 0x2202 c = v ∧
        (∀ pid i, pkey pid i ≠ pkey 0x2202 c → prm d pid i = prm s.dev pid i) ∧
        d.lkt.journal.length = s.dev.lkt.journal.length + 1)) ∧
  (∀ (s : State) (t q held period high c : Nat) (level : Bool), q < 4 → prm s.dev 0x2210 q ≤ held → held ≤ t →
    (pinSp s.dev q).level ≠ some level → level = decide (prm s.dev 0x2211 q = 0) →
    pinPeriod (pinSp s.dev q) level (t - held) = some (period, high) → 400 ≤ period → period ≤ 400000000 → c < 128 →
    prm s.dev 0x2200 c = 2 ∨ prm s.dev 0x2200 c = 3 → prm s.dev 0x2201 c = q →
    Runs (.pinSpEdge t q level held) t s [.fil] (fun d =>
      (pinSp d q).level = some level ∧ (cas d c).spM = (if prm s.dev 0x2200 c = 2 then (400000000 : Rat) / (period : Rat)
        else (high : Rat) / (period : Rat)) ∧ (cas d c).spLost = false ∧ (cas d c).out = (cas s.dev c).out)) ∧
  (∀ (s : State) (t c : Nat), c < 128 → casOn s.dev c = true → prm s.dev 0x2200 c = 2 ∨ prm s.dev 0x2200 c = 3 →
    (cas s.dev c).spLost = false → (cas s.dev c).spT + 400000 * prm s.dev 0x2207 c ≤ t → s.dev.sys.up = true →
    Runs (.setpointTimeout t c) t s (.fil :: evParts) (fun d =>
      (cas d c).spLost = true ∧ Pending 33 d ∧ (∀ b, b ≠ c → cas d b = cas s.dev b))) ∧
  (∀ (s : State) (t cls k : Nat), WriteServed s.dev cls 1 → k < 16 → prm s.dev 0x2302 k = 2 →
    (tap s.dev k).post = none → (tap s.dev k).stopped = false → 65536 - prm s.dev 0x2304 k ≤ (tap s.dev k).count →
    Runs (.traceFire t cls k) t s [.taps, .mbx] (fun d =>
      Answered 0 0 d ∧ (tap d k).post = some (prm s.dev 0x2304 k) ∧ (tap d k).trigT = t ∧ (tap d k).trgNext = true ∧
        (tap d k).ring = (tap s.dev k).ring ∧
        (∀ j, prm s.dev 0x2305 j ≠ prm s.dev 0x2305 k → tap d j = tap s.dev j))) ∧
  (∀ (s : State) (t k : Nat), k < 16 → (tap s.dev k).post = some 0 → (tap s.dev k).stopped = false →
    prm s.dev 0x2309 k ≠ 1 →
    Runs (.tracePostComplete t k) t s [.taps] (fun d =>
      tap d k = { tap s.dev k with stopped := true } ∧ (∀ j, j ≠ k → tap d j = tap s.dev j))) ∧
  (∀ (s : State) (t k : Nat), k < 16 → (tap s.dev k).post = some 0 → (tap s.dev k).stopped = false →
    prm s.dev 0x2309 k = 1 → s.dev.cask.up = true → s.dev.sys.up = true →
    Runs (.tracePostComplete t k) t s (.cask :: evParts) (fun d => (tap d k).stopped = true ∧ Pending 29 d))

/-- A parity error in the active bank or the states of a cascade (R106): its evaluation is aborted and a replay of its chain
starts, holding the legs that the chain drives off, and is counted; the replay ends with the hold lifted, or, unrepaired,
with every cascade halted and TRIP (R109). A write of UNC starts the full check, which clears UNC if it passes.
The model's readings in it: log entry 62. -/
def Obligations.FiligreeReplay : Prop :=
  (∀ (s : State) (t c : Nat) (w : Bool), c < 128 → s.dev.fil.haltAll = false →
    s.dev.fil.replay = none → s.dev.fil.rplJobs = [] → s.dev.fil.rplHold = 0 → s.dev.pnd.role ≠ 1 → (cas s.dev c).mirror = true → s.dev.sys.up = true →
    Runs (.filigreeParityError t c w) t s ([.fil, .legs] ++ evParts) (fun d =>
      d.fil.replay = some c ∧ d.fil.stateErr = w ∧ d.fil.rplHold = legsOf s.dev (chainOf s.dev 128 (2 ^ c)) ∧
        d.fil.rplCnt = incSat 255 s.dev.fil.rplCnt ∧ Pending 30 d ∧ (cas d c).job = none ∧
        (∀ n, n < 48 → bit d.fil.rplHold n = true → (leg d n).replayHold = true) ∧
        (∀ n, n < 48 → bit d.fil.rplHold n = false → (leg d n).replayHold = (leg s.dev n).replayHold))) ∧
  (∀ (s : State) (t c : Nat), s.dev.fil.replay = some c → s.dev.gs.deferred = false →
    Runs (.replayEnd t true) t s (.fil :: tripParts) (fun d =>
      d.fil.replay = none ∧ d.fil.rplHold = 0 ∧ d.fil.stateErr = false ∧ d.fil.rplJobs = [] ∧
        (∀ n, n < 48 → bit s.dev.fil.rplHold n = true → (leg d n).replayHold = false))) ∧
  (∀ (s : State) (t c : Nat), s.dev.fil.replay = some c → gatesState s.dev = true → s.dev.hold.warned = false →
    Runs (.replayEnd t false) t s (.fil :: tripParts) (fun d =>
      d.fil.replay = none ∧ d.fil.unc = true ∧ d.fil.haltAll = true ∧ d.sys.st = .trip ∧ d.sys.cause = 0x29)) ∧
  (∀ (s : State) (t : Nat), s.dev.fil.unc = true →
    Runs (.filUncWrite t) t s [.fil] (fun d => d.fil = { s.dev.fil with checking := true })) ∧
  (∀ (s : State) (t : Nat), s.dev.fil.checking = true → locked s.dev 0 = true →
    Runs (.filCheckDone t true) t s [.fil, .legs] (fun d =>
      d.fil = { s.dev.fil with checking := false, unc := false, haltAll := false, rplHold := 0, stateErr := false } ∧
        (∀ n, n < 48 → (leg d n).replayHold = false))) ∧
  (∀ (s : State) (t : Nat), s.dev.fil.checking = true →
    Runs (.filCheckDone t false) t s [.fil] (fun d => d.fil = { s.dev.fil with checking := false }))

/-! ### The grid disconnect channel -/

/-- A closing (R489): after gd.close.hold of the closing conditions GDL turns on; gd.rb.t later, GDL_RB on and GDH_RB off,
GDH turns on; the coil current above gd.i.hold then makes the channel CLOSED. A wrong readback or gd.close.t without the
current is a fault (R495).
An opening (R490): with the coil current below gd.i.off it is confirmed, and the channel is open; a request for READY
that waited for it enters READY (R24). Without confirmation in gd.open.t it is fault 6, and a readback or a current that
persists sets GDALM (R495). The model's readings in it: log entries 97, 98, 99. -/
def Obligations.DisconnectDrives : Prop :=
  (∀ (s : State) (t a : Nat), s.dev.gd.holdFrom = some a → closeConds s.dev = true → s.dev.gd.closed = false →
    s.dev.gd.closing = false → s.dev.gd.opening = false → a + 400000 * gdPrm s.dev 0xE102 ≤ t →
    Runs (.gdCloseHoldExpiry t) t s [.gd] (fun d =>
      d.gd = { s.dev.gd with gdl := true, closing := true, seqT := t, holdFrom := none })) ∧
  (∀ (s : State) (t : Nat), s.dev.gd.closing = true → s.dev.gd.gdh = false →
    s.dev.gd.seqT + 400 * gdPrm s.dev 0xE105 ≤ t →
    Runs (.gdReadbackStep t false true) t s [.gd] (fun d =>
      d.gd = { s.dev.gd with gdh := true, gdhRb := true, gdlRb := true })) ∧
  (∀ (s : State) (t : Nat) (gh gl : Bool), s.dev.gd.closing = true → s.dev.gd.gdh = false →
    s.dev.gd.seqT + 400 * gdPrm s.dev 0xE105 ≤ t → gh = true ∨ gl = false →
    Runs (.gdReadbackStep t gh gl) t s tripParts (fun d => ChannelFault (if gl then 1 else 2) d)) ∧
  (∀ (s : State) (t : Nat) (gh gl : Bool), s.dev.gd.closing = true → s.dev.gd.gdh = true →
    s.dev.gd.seqT + 800 * gdPrm s.dev 0xE105 ≤ t → gh = false ∨ gl = false →
    Runs (.gdReadbackStep t gh gl) t s tripParts (fun d => ChannelFault (if gl then 1 else 2) d)) ∧
  (∀ (s : State) (t mv : Nat), s.dev.gd.closing = true → s.dev.gd.gdh = true → gdPrm s.dev 0xE106 < mv →
    s.dev.gd.pairHold = true ∨ closeConds s.dev = true → t ≤ s.dev.gd.seqT + 400000 * gdPrm s.dev 0xE103 →
    Runs (.gdPullinConfirm t mv) t s [.gd] (fun d =>
      d.gd = { s.dev.gd with closed := true, closing := false, mv := mv, lastTest := t, old := [] })) ∧
  (∀ (s : State) (t : Nat), s.dev.gd.closing = true → s.dev.gd.seqT + 400000 * gdPrm s.dev 0xE103 ≤ t →
    Runs (.gdCloseTimeout t) t s tripParts (fun d => ChannelFault 5 d)) ∧
  (∀ (s : State) (t mv : Nat), s.dev.gd.opening = true → mv < gdPrm s.dev 0xE107 → s.dev.sys.auto ≠ .syncToReady →
    Runs (.gdOpenConfirmed t mv) t s [.gd] (fun d =>
      d.gd = { s.dev.gd with closed := false, opening := false, gdhRb := false, gdlRb := false, mv := mv, old := [] })) ∧
  (∀ (s : State) (t mv : Nat), s.dev.gd.opening = true → mv < gdPrm s.dev 0xE107 → s.dev.sys.auto = .syncToReady →
    s.dev.gd.estop = false → s.dev.hold.warned = false →
    Runs (.gdOpenConfirmed t mv) t s tripParts (fun d =>
      d.gd.closed = false ∧ d.gd.dem = false ∧ d.sys.st = .ready ∧ d.sys.cause = 0x05)) ∧
  (∀ (s : State) (t : Nat), s.dev.gd.opening = true → ¬ (s.dev.gd.fault = true ∧ s.dev.gd.fcode = 6) →
    s.dev.gd.offT + 400000 * gdPrm s.dev 0xE104 ≤ t →
    Runs (.gdOpenTimeout t) t s tripParts (fun d => ChannelFault 6 d)) ∧
  (∀ (s : State) (t mv : Nat) (gh gl : Bool), chanRuns s.dev = true → s.dev.gd.gdh = false → s.dev.gd.gdl = false →
    s.dev.gd.offT + 400000 * gdPrm s.dev 0xE104 ≤ t →
    Runs (.gdalmTimeout t gh gl mv) t s [.gd] (fun d =>
      d.gd.alm = (s.dev.gd.alm || gh || gl || (decide (gdPrm s.dev 0xE107 < mv) && !peerHolds s.dev)) ∧
        d.gd = { s.dev.gd with gdhRb := gh, gdlRb := gl, mv := mv, alm := d.gd.alm }))

/-- Off-tests of a closed channel (R493, R494): each minute one side drops; its readback off within 300 µs turns it on
again, and with its readback on after gd.rb.t the test counts and the sides change over; a current lost, a readback that
stays, or one that does not return, fails the test with fault 7. The model's readings in it: log entry 99. -/
def Obligations.DisconnectOffTests : Prop :=
  (∀ (s : State) (t : Nat), chanRuns s.dev = true → s.dev.gd.closed = true → s.dev.gd.opening = false →
    s.dev.gd.testing = 0 → s.dev.gd.lastTest + 24000000000 ≤ t →
    Runs (.gdOfftestStart t) t s [.gd] (fun d =>
      d.gd = { s.dev.gd with testing := 1, seqT := t, testBack := none,
                             gdl := s.dev.gd.gdl && !s.dev.gd.nextSide, gdh := s.dev.gd.gdh && s.dev.gd.nextSide })) ∧
  (∀ (s : State) (t mv : Nat), s.dev.gd.testing = 1 → s.dev.gd.testBack = none → t ≤ s.dev.gd.seqT + 120000 →
    gdPrm s.dev 0xE106 < mv →
    Runs (.gdOfftestReadback t mv) t s [.gd] (fun d =>
      d.gd = { setSide s.dev.gd.nextSide true false s.dev.gd with mv := mv, testBack := some t })) ∧
  (∀ (s : State) (t mv : Nat), s.dev.gd.testing = 1 → s.dev.gd.testBack = none → t ≤ s.dev.gd.seqT + 120000 →
    mv ≤ gdPrm s.dev 0xE106 →
    Runs (.gdOfftestReadback t mv) t s tripParts (fun d => ChannelFault 7 d)) ∧
  (∀ (s : State) (t mv : Nat), s.dev.gd.testing = 1 → s.dev.gd.testBack = none → s.dev.gd.seqT + 120000 ≤ t →
    gdPrm s.dev 0xE106 < mv →
    Runs (.gdOfftestTimeout t false mv) t s [.gd] (fun d =>
      d.gd = { setSide s.dev.gd.nextSide true false s.dev.gd with mv := mv, testBack := some t })) ∧
  (∀ (s : State) (t mv : Nat), s.dev.gd.testing = 1 → s.dev.gd.testBack = none → s.dev.gd.seqT + 120000 ≤ t →
    Runs (.gdOfftestTimeout t true mv) t s tripParts (fun d => ChannelFault 7 d)) ∧
  (∀ (s : State) (t mv a : Nat), s.dev.gd.testing = 1 → s.dev.gd.testBack = some a → a + 400 * gdPrm s.dev 0xE105 ≤ t →
    gdPrm s.dev 0xE106 < mv →
    Runs (.gdOfftestEnd t true mv) t s [.gd] (fun d =>
      d.gd = { setSide s.dev.gd.nextSide true true s.dev.gd with
        mv := mv, testing := 0, testBack := none, tests := incSat 255 s.dev.gd.tests, nextSide := !s.dev.gd.nextSide,
        lastTest := s.dev.gd.seqT, old := [] })) ∧
  (∀ (s : State) (t mv a : Nat) (rb : Bool), s.dev.gd.testing = 1 → s.dev.gd.testBack = some a →
    a + 400 * gdPrm s.dev 0xE105 ≤ t → rb = false ∨ mv ≤ gdPrm s.dev 0xE106 →
    Runs (.gdOfftestEnd t rb mv) t s tripParts (fun d => ChannelFault 7 d))

/-- Faults of the channel (R491, R495, R496): a readback that differs from its drive (1, 2), the coil current absent while
closed (3) or present while open (4), an oscillator (8, 9), two epoch refreshes missing (10); each demands a disconnect and
takes a device from SYNC on to TRIP with cause 0x25, unless the save of an early warning runs (R26). A write of FAULT in
READY starts the clearing test, which clears FAULT and GDALM where the readbacks follow and the coil stays without current,
or ends with fault 11.
ESTOP (R24, R491, R492): once it has been low for gd.estop.filt, it holds every leg off and demands, and a device in DOZE,
in READY or beyond, TRIP apart, enters TRIP with cause 0x24; once high for gd.estop.filt, its own demand input is gone and
nothing else changes. The model's readings in it: log entries 52, 53, 99, 100. -/
def Obligations.DisconnectFaults : Prop :=
  (∀ (s : State) (t since : Nat) (low : Bool), chanRuns s.dev = true → s.dev.gd.testing = 0 →
    since + 400 * gdPrm s.dev 0xE105 < t →
    (s.dev.gd.closing = true → s.dev.gd.seqT + 800 * gdPrm s.dev 0xE105 ≤ t) →
    Runs (.gdReadbackMismatch t low since) t s tripParts (fun d =>
      ChannelFault (if low then 2 else 1) d ∧ FaultTrips s.dev d)) ∧
  (∀ (s : State) (t mv : Nat), chanRuns s.dev = true → peerHolds s.dev = false → s.dev.gd.closed = true →
    s.dev.gd.opening = false → mv < gdPrm s.dev 0xE107 →
    Runs (.gdCoilCurrentFault t mv) t s tripParts (fun d => ChannelFault 3 d ∧ d.gd.mv = mv ∧ FaultTrips s.dev d)) ∧
  (∀ (s : State) (t mv : Nat), chanRuns s.dev = true → peerHolds s.dev = false → s.dev.gd.closed = false →
    s.dev.gd.gdh = false → s.dev.gd.gdl = false → gdPrm s.dev 0xE107 < mv →
    s.dev.gd.offT + 400000 * gdPrm s.dev 0xE104 ≤ t →
    Runs (.gdCoilCurrentFault t mv) t s tripParts (fun d => ChannelFault 4 d ∧ d.gd.mv = mv ∧ FaultTrips s.dev d)) ∧
  (∀ (s : State) (t : Nat) (osc : Bool), chanRuns s.dev = true →
    Runs (.gdOscFault t osc) t s tripParts (fun d => ChannelFault (if osc then 9 else 8) d ∧ FaultTrips s.dev d)) ∧
  (∀ (s : State) (t : Nat), chanRuns s.dev = true → s.dev.sys.st ≠ .doze → s.dev.mbx.paused = false →
    locked s.dev 2 = true → s.dev.gd.watch = true → s.dev.gd.refreshT + 800000 ≤ t →
    Runs (.gdRefreshMiss t) t s tripParts (fun d => ChannelFault 10 d ∧ d.gd.watch = false ∧ FaultTrips s.dev d)) ∧
  (∀ (s : State) (t : Nat), s.dev.sys.st = .ready → s.dev.gd.fault = true → s.dev.gd.testing = 0 →
    Runs (.gdFaultWrite t) t s [.gd] (fun d => d.gd = { s.dev.gd with testing := 2, seqT := t })) ∧
  (∀ (s : State) (t gh gl mv : Nat), s.dev.gd.testing = 2 → clearPass gh gl mv s.dev = true →
    Runs (.gdClearTestEnd t gh gl mv) t s [.gd] (fun d =>
      d.gd = { s.dev.gd with testing := 0, gdh := false, gdl := false, fault := false, alm := false, gdhRb := false,
                             gdlRb := false })) ∧
  (∀ (s : State) (t gh gl mv : Nat), s.dev.gd.testing = 2 → clearPass gh gl mv s.dev = false →
    Runs (.gdClearTestEnd t gh gl mv) t s tripParts (fun d => ChannelFault 11 d)) ∧
  (∀ (s : State) (t since : Nat), chanRuns s.dev = true → s.dev.gd.estop = false → s.dev.sys.st ≠ .doze →
    since + 400 * gdPrm s.dev 0xE108 ≤ t →
    Runs (.estopAssert t since) t s tripParts (fun d =>
      d.gd.estop = true ∧ d.gd.dem = true ∧ d.gd.demGrid = true ∧ d.gd.gdh = false ∧ d.gd.gdl = false ∧
        d.pwm.devHold = true ∧ (canTrip s.dev 0x24 = true → s.dev.hold.warned = false →
          d.sys.st = .trip ∧ d.sys.cause = 0x24 ∧ (∀ n, n < 48 → inSvc d n = false)))) ∧
  (∀ (s : State) (t since : Nat), chanRuns s.dev = true → s.dev.gd.estop = false → s.dev.sys.st = .doze →
    since + 400 * gdPrm s.dev 0xE108 ≤ t → s.dev.hold.warned = false →
    Runs (.estopAssert t since) t s (allBut [.pts, .lkt, .commit, .rt, .sec, .hold, .boot, .eth, .time]) (fun d =>
      d.gd.estop = true ∧ d.gd.dem = true ∧ d.gd.demGrid = true ∧ d.gd.gdh = false ∧ d.gd.gdl = false ∧
        d.pwm.devHold = true ∧ d.sys.st = .trip ∧ d.sys.cause = 0x24)) ∧
  (∀ (s : State) (t since : Nat), since + 400 * gdPrm s.dev 0xE108 ≤ t →
    Runs (.estopRelease t since) t s [.gd] (fun d => d.gd = { s.dev.gd with estop := false }))

/-! ### Grid synthesis, ride-through and islanding -/

/-- The epoch tick (R29, R383): where epoch work is done, it leaves the channel refreshed and the Filigree's lane cycles
at 0, and never touches the Clasp domain, the hold-up or the boot registers; where none is done, nothing changes.
The model's readings in it: log entries 6, 51, 76, 132. -/
def Obligations.EpochTicks : Prop :=
  (∀ (s : State) (t : Nat), epochRuns (devAt s t) = true →
    Runs (.epochTick t) t s (allBut [.clasp, .hold, .boot]) (fun d =>
      d.gd.refreshT = t ∧ d.gd.watch = true ∧ d.fil.cycles = 0)) ∧
  (∀ (s : State) (t : Nat), epochRuns (devAt s t) = false →
    Runs (.epochTick t) t s [] (fun _ => True))

/-- Step 1 of the tick: a must-trip decision enters TRIP with cause 0x22, every leg held and out of service (R208); an
entry condition of R206 in RUN, or in SERVICE from RUN, enters RIDE with cause 0x10 or 0x33 and the recovery ramp off, or
with rt.enable = 0 TRIP with cause 0x22 (R210). On a standby no step 1 changes the state (R499).
The model's readings in it: log entries 51, 78. -/
def Obligations.TickDecisions : Prop :=
  (∀ (d : Dev) (lower lost : Bool), mustTrip d = true → d.sys.standby = false → d.hold.warned = false →
    (tripStep lower lost d).sys.st = .trip ∧ (tripStep lower lost d).sys.cause = 0x22 ∧
      (tripStep lower lost d).pwm.devHold = true ∧ ∀ n, n < 48 → inSvc (tripStep lower lost d) n = false) ∧
  (∀ (d : Dev) (lower lost : Bool), d.sys.standby = true → (tripStep lower lost d).sys.st = d.sys.st) ∧
  (∀ d : Dev, runLike d = true → rideEntry d = true → prm d 0x5100 0 ≠ 0 → d.hold.warned = false →
    (rideStep d).sys.st = .ride ∧ (rideStep d).sys.cause = (if d.sys.st = .service then 0x33 else 0x10) ∧
      (rideStep d).rt.pramp = false ∧ (rideStep d).rt.rideT = 0) ∧
  (∀ d : Dev, runLike d = true → rideEntry d = true → prm d 0x5100 0 = 0 → d.hold.warned = false →
    (rideStep d).sys.st = .trip ∧ (rideStep d).sys.cause = 0x22)

/-- The setpoints of power (R184): a write of gs.p.set, gs.q.set or gs.q.pf in its range is answered OK and stored, and no
other parameter with it; a dispatch point of P that is missing or stale raises EV_PTSTALE and leaves the last target, and
points already known as stale raise nothing. The holds that end RIDE and FORM and reset the timers of R207: the exit
conditions held for rt.exit.hold bring RUN with cause 0x11 and the recovery ramp, from the power that flows (R209, R218);
those of R198, held for gs.form.exit.hold, stage the return of an automatic FORM with its P and Q; rt.rearm inside the
region resets that timer; and active current may flow again gs.est.lock.n epochs after a jump (R217). Before its time
each of these changes nothing. The model's readings in it: log entries 76, 78, 145. -/
def Obligations.GridInputs : Prop :=
  (∀ (s : State) (t cls pid : Nat) (v : Int) (x : Desc), WriteServed s.dev cls 1 →
    pid = 0x5031 ∨ pid = 0x5034 ∨ pid = 0x5035 → descOf pid = some x → inRange x (ofInt 32 v) = true →
    -2147483648 ≤ v → v < 2147483648 →
    Runs (.gsSetpointWrite t cls pid v) t s [.prm, .mbx] (fun d =>
      Answered 0 0 d ∧ prmI d pid 0 = v ∧
        (∀ p i, pkey p i ≠ pkey pid 0 → prm d p i = prm s.dev p i))) ∧
  (∀ (s : State) (t : Nat), prm s.dev 0x5030 0 = 1 → dispatchOk (devAt s t) (prm s.dev 0x5032 0) = false →
    s.dev.gs.pStale = false → s.dev.sys.up = true →
    Runs (.dispatchPointStale t) t s (.gs :: evParts) (fun d =>
      d.gs.pStale = true ∧ Pending 8 d ∧ d.gs.pSet = s.dev.gs.pSet)) ∧
  (∀ (s : State) (t : Nat), s.dev.gs.pStale = true → s.dev.gs.qStale = true →
    Runs (.dispatchPointStale t) t s [] (fun _ => True)) ∧
  (∀ (s : State) (t a : Nat), s.dev.sys.st = .ride → s.dev.rt.okSince = some a →
    a + prm s.dev 0x510B 0 * 400000 ≤ t → s.dev.hold.warned = false →
    Runs (.rideExitHold t) t s ([.rt, .gs] ++ trParts) (fun d =>
      d.sys.st = .run ∧ d.sys.cause = 0x11 ∧ d.sys.prev = .ride ∧ d.rt.pramp = true ∧ d.rt.injLim = false ∧
        d.gs.pR = s.dev.gs.pCmd ∧ d.gs.qCmd = s.dev.gs.qMeas)) ∧
  (∀ (s : State) (t a : Nat), s.dev.sys.st = .form → s.dev.sys.formAuto = true → s.dev.gs.okSince = some a →
    a + prm s.dev 0x5076 0 * 400000 ≤ t →
    Runs (.formExitHold t) t s [.sys, .gs] (fun d =>
      d.sys = { s.dev.sys with auto := .formExit 0x14 } ∧
        d.gs = { s.dev.gs with exitP := s.dev.gs.pMeas, exitQ := s.dev.gs.qMeas })) ∧
  (∀ (s : State) (t : Nat),
    (∀ a, s.dev.rt.okSince = some a → t < a + prm s.dev 0x510B 0 * 400000) →
    Runs (.rideExitHold t) t s [] (fun _ => True)) ∧
  (∀ (s : State) (t : Nat),
    (∀ a, s.dev.gs.okSince = some a → t < a + prm s.dev 0x5076 0 * 400000) →
    Runs (.formExitHold t) t s [] (fun _ => True)) ∧
  (∀ (s : State) (t : Nat), t < s.dev.rt.inSinceF + prm s.dev 0x510C 0 * 400000 →
    t < s.dev.rt.inSinceU + prm s.dev 0x510C 0 * 400000 →
    ∀ fr : Bool, Runs (.rtTimerRearm t fr) t s [] (fun _ => True)) ∧
  (∀ (s : State) (t : Nat), t < s.dev.rt.jumpT + prm s.dev 0x5024 0 * 400000 →
    Runs (.jumpHoldEnd t) t s [] (fun _ => True)) ∧
  (∀ (s : State) (t : Nat), s.dev.rt.heldF = true → s.dev.rt.inSinceF + prm s.dev 0x510C 0 * 400000 ≤ t →
    Runs (.rtTimerRearm t true) t s [.rt] (fun d => d.rt = { s.dev.rt with heldF := false, tauF := 0 })) ∧
  (∀ (s : State) (t : Nat), s.dev.rt.heldU = true → s.dev.rt.inSinceU + prm s.dev 0x510C 0 * 400000 ≤ t →
    Runs (.rtTimerRearm t false) t s [.rt] (fun d => d.rt = { s.dev.rt with heldU := false, tauU := 0 })) ∧
  (∀ (s : State) (t : Nat), s.dev.rt.jumpHold = true → s.dev.rt.jumpT + prm s.dev 0x5024 0 * 400000 ≤ t →
    Runs (.jumpHoldEnd t) t s [.rt] (fun d => d.rt = { s.dev.rt with jumpHold := false }))

/-- The timers of Charm: SUSP clears charm.susp.t after the last indication (R229), and the blanking ends after
charm.blank (R228); charm.notime.t without TIME_OK is noted, and with charm.notime.act = 2 trips with cause 0x23, where the
state can trip (R242); an automatic FORM of charm.form.tmax is an islanding decision with FORMT, which with charm.act = 1
trips with cause 0x23 and otherwise raises its event (R243, R245); charm.rec.hold of a healthy grid ends that
cause (R246). Before its time each changes nothing. The model's readings in it: log entries 81, 145. -/
def Obligations.IslandingTimers : Prop :=
  (∀ (s : State) (t : Nat), s.dev.charm.susp = true → s.dev.charm.suspT + prm s.dev 0x6016 0 * 400000 ≤ t →
    Runs (.charmSuspClear t) t s [.charm] (fun d => d.charm = { s.dev.charm with susp := false, suspSrc := 0 })) ∧
  (∀ (s : State) (t : Nat), s.dev.charm.blankFrom + prm s.dev 0x6028 0 * 400000 ≤ t →
    Runs (.charmBlankEnd t) t s [.charm] (fun d => d.charm = { s.dev.charm with blank := false })) ∧
  (∀ (s : State) (t a : Nat), s.dev.charm.timeOk = false → s.dev.charm.noTimeDone = false →
    s.dev.charm.timeLostAt = some a → a + prm s.dev 0x6032 0 * 400000000 ≤ t →
    prm s.dev 0x6000 0 = 0 ∨ prm s.dev 0x6031 0 ≠ 2 ∨ canTrip s.dev 0x23 = false ∨ s.dev.sys.standby = true →
    Runs (.charmNotimeExpiry t) t s [.charm] (fun d => d.charm = { s.dev.charm with noTimeDone := true })) ∧
  (∀ (s : State) (t a : Nat), prm s.dev 0x6000 0 = 1 → s.dev.charm.timeOk = false → s.dev.charm.noTimeDone = false →
    s.dev.charm.timeLostAt = some a → a + prm s.dev 0x6032 0 * 400000000 ≤ t → prm s.dev 0x6031 0 = 2 →
    canTrip s.dev 0x23 = true → s.dev.sys.standby = false → s.dev.hold.warned = false →
    Runs (.charmNotimeExpiry t) t s tripParts (fun d =>
      d.sys.st = .trip ∧ d.sys.cause = 0x23 ∧ d.sys.islandGone = false)) ∧
  (∀ (s : State) (t a : Nat), prm s.dev 0x6000 0 = 1 → s.dev.sys.st = .form → s.dev.sys.formAuto = true →
    s.dev.charm.formDone = false → s.dev.sys.autoT = some a → a + prm s.dev 0x6003 0 * 400000 ≤ t →
    prm s.dev 0x6001 0 = 1 → s.dev.hold.warned = false →
    Runs (.charmFormTmax t) t s tripParts (fun d =>
      d.charm.formt = true ∧ d.charm.island = true ∧ d.sys.st = .trip ∧ d.sys.cause = 0x23 ∧
        d.sys.islandGone = false)) ∧
  (∀ (s : State) (t a : Nat), prm s.dev 0x6000 0 = 1 → s.dev.sys.st = .form → s.dev.sys.formAuto = true →
    s.dev.charm.formDone = false → s.dev.sys.autoT = some a → a + prm s.dev 0x6003 0 * 400000 ≤ t →
    prm s.dev 0x6001 0 = 0 → s.dev.sys.up = true →
    Runs (.charmFormTmax t) t s (.charm :: evParts) (fun d =>
      d.charm.formt = true ∧ d.charm.island = true ∧ Pending 66 d)) ∧
  (∀ (s : State) (t a : Nat), s.dev.charm.recSince = some a → s.dev.sys.st = .trip →
    a + prm s.dev 0x6004 0 * 400000000 ≤ t →
    Runs (.charmRecHold t) t s [.sys] (fun d => d.sys = { s.dev.sys with islandGone := true })) ∧
  (∀ (s : State) (t : Nat), t < s.dev.charm.suspT + prm s.dev 0x6016 0 * 400000 →
    Runs (.charmSuspClear t) t s [] (fun _ => True)) ∧
  (∀ (s : State) (t : Nat), t < s.dev.charm.blankFrom + prm s.dev 0x6028 0 * 400000 →
    Runs (.charmBlankEnd t) t s [] (fun _ => True)) ∧
  (∀ (s : State) (t a : Nat), s.dev.charm.timeLostAt = some a → t < a + prm s.dev 0x6032 0 * 400000000 →
    Runs (.charmNotimeExpiry t) t s [] (fun _ => True)) ∧
  (∀ (s : State) (t a : Nat), s.dev.sys.autoT = some a → t < a + prm s.dev 0x6003 0 * 400000 →
    Runs (.charmFormTmax t) t s [] (fun _ => True)) ∧
  (∀ (s : State) (t a : Nat), s.dev.charm.recSince = some a → t < a + prm s.dev 0x6004 0 * 400000000 →
    Runs (.charmRecHold t) t s [] (fun _ => True))

/-! ### Requests for a state -/

/-- READY, CLASP and DOZE by request, from the states that R24 names. READY: from TRIP once no cause persists and no block
window is latched, and refused with the lowest cause that persists, or with 0x20 (R23); from SYNC, at once with
gd.enable = 0, and otherwise by an opening, which the state waits for (R490); from SERVICE with every leg out of service;
not while the filtered ESTOP is low. CLASP: from READY, with the fast domains off and the last-state record written (R506).
DOZE: from READY or SYNC; units in POST end their records first, and once none stores any longer, every loop and carrier
is stopped and the Casket is in self-refresh (R335, R552). From the other states each of the three is refused with 0x05.
The model's readings in it: log entries 6, 48, 49, 50, 51, 103. -/
def Obligations.RequestsDown : Prop :=
  (∀ (s : State) (t cls : Nat), RequestServed s t cls 1 → s.dev.sys.st = .trip → persisting s.dev = none →
    blockLatched s.dev = false → s.dev.gd.estop = false →
    Runs (.reqReady t cls) t s tripParts (fun d =>
      Answered 0 0 d ∧ d.sys.st = .ready ∧ d.sys.prev = .trip ∧ d.sys.cause = 0x05 ∧ d.sys.tripCauses = [] ∧
        d.pwm.devHold = false ∧ d.gd.dem = false ∧ d.charm.island = false)) ∧
  (∀ (s : State) (t cls c : Nat), RequestServed s t cls 1 → s.dev.sys.st = .trip → persisting s.dev = some c →
    Runs (.reqReady t cls) t s [.sys, .mbx] (fun d =>
      Answered 1 c d ∧ d.sys = { s.dev.sys with refusal := c })) ∧
  (∀ (s : State) (t cls : Nat), RequestServed s t cls 1 → s.dev.sys.st = .trip → persisting s.dev = none →
    blockLatched s.dev = true →
    Runs (.reqReady t cls) t s [.sys, .mbx] (fun d =>
      Answered 1 0x20 d ∧ d.sys = { s.dev.sys with refusal := 0x20 })) ∧
  (∀ (s : State) (t cls : Nat), RequestServed s t cls 1 → s.dev.sys.st = .sync → prm s.dev 0xE100 0 = 0 →
    s.dev.gd.estop = false →
    Runs (.reqReady t cls) t s tripParts (fun d =>
      Answered 0 0 d ∧ d.sys.st = .ready ∧ d.sys.prev = .sync ∧ d.sys.cause = 0x05 ∧ d.gd.dem = false)) ∧
  (∀ (s : State) (t cls : Nat), RequestServed s t cls 1 → s.dev.sys.st = .sync → prm s.dev 0xE100 0 ≠ 0 →
    s.dev.gd.closed = true →
    Runs (.reqReady t cls) t s [.sys, .mbx, .gd] (fun d =>
      Answered 0 0 d ∧ d.sys = { s.dev.sys with req := 3, auto := .syncToReady } ∧
        d.gd.gdh = false ∧ d.gd.gdl = false ∧ d.gd.opening = true)) ∧
  (∀ (s : State) (t cls : Nat), RequestServed s t cls 1 → s.dev.sys.st = .service → s.dev.gd.estop = false →
    Runs (.reqReady t cls) t s tripParts (fun d =>
      Answered 0 0 d ∧ d.sys.st = .ready ∧ d.sys.prev = .service ∧ d.sys.cause = 0x32 ∧
        ∀ n, n < 48 → inSvc d n = false)) ∧
  (∀ (s : State) (t cls : Nat), RequestServed s t cls 1 →
    s.dev.sys.st = .ready ∨ s.dev.sys.st = .run ∨ s.dev.sys.st = .ride ∨ s.dev.sys.st = .form →
    Runs (.reqReady t cls) t s [.sys, .mbx] (fun d =>
      Answered 1 5 d ∧ d.sys = { s.dev.sys with refusal := 5 })) ∧
  (∀ (s : State) (t cls : Nat), RequestServed s t cls 1 → s.dev.sys.st = .ready →
    Runs (.reqClasp t cls) t s everyPart (fun d =>
      d.sys.st = .clasp ∧ d.sys.prev = .ready ∧ d.sys.cause = 0x05 ∧ d.sys.up = false ∧ d.legs = [] ∧ d.gd = {} ∧
        d.clasp.lastState = 3 ∧ d.clasp.lastCause = s.dev.sys.cause ∧ d.clasp.jlost = 0 ∧
        d.clasp.pwrEn = false ∧ d.lkt.journal = s.dev.lkt.journal)) ∧
  (∀ (s : State) (t cls : Nat), RequestServed s t cls 1 → s.dev.sys.st ≠ .ready →
    Runs (.reqClasp t cls) t s [.sys, .mbx] (fun d =>
      Answered 1 5 d ∧ d.sys = { s.dev.sys with refusal := 5 })) ∧
  (∀ (s : State) (t cls : Nat), RequestServed s t cls 1 → s.dev.sys.st = .ready ∨ s.dev.sys.st = .sync →
    Runs (.reqDoze t cls) t s [.sys, .mbx, .loupe] (fun d =>
      Answered 0 0 d ∧ d.sys = { s.dev.sys with req := 2, auto := .toDoze, dozeFrom := s.dev.sys.st } ∧
        ∀ u, u < 4 → (unit d u).st = (if (unit s.dev u).st = 3 then 4 else (unit s.dev u).st))) ∧
  (∀ (s : State) (t cls : Nat), RequestServed s t cls 1 → s.dev.sys.st ≠ .ready → s.dev.sys.st ≠ .sync →
    Runs (.reqDoze t cls) t s [.sys, .mbx] (fun d =>
      Answered 1 5 d ∧ d.sys = { s.dev.sys with refusal := 5 })) ∧
  (∀ (s : State) (t u : Nat), u < 4 → (unit s.dev u).st = 4 →
    Runs (.dozeEntryComplete t) t s [.loupe] (fun d => (unit d u).st = 4)) ∧
  (∀ (s : State) (t : Nat), s.dev.sys.auto = .toDoze → s.dev.hold.warned = false →
    (∀ u, u < 4 → (unit s.dev u).st ≠ 3 ∧ (unit s.dev u).st ≠ 4) →
    Runs (.dozeEntryComplete t) t s
      (allBut [.pts, .commit, .wins, .rt, .setr, .sec, .hold, .boot, .eth, .time, .pnd]) (fun d =>
        d.sys.st = .doze ∧ d.sys.cause = 0x05 ∧ d.cask.selfref = true ∧ d.clk.lock = 0 ∧ d.gd.watch = false ∧
          ∀ n, n < 48 → (leg d n).running = false ∧ (leg d n).gh3 = false ∧ (leg d n).gl3 = false))

/-- SYNC, RUN, FORM and SERVICE by request, from the states that R24 names. SYNC: from READY where syncRefusal finds
nothing against it, and otherwise refused with that code; from DOZE, except on factory values; from RUN, where the power
ramps to 0 first and every leg leaves service at the epoch tick that finds it there (R187). RUN: from SYNC where
runRefusal finds nothing and an AC leg is placed, with power commands of 0 (R187), and otherwise refused with that code;
from DOZE entered from SYNC, by the check of R29, which ends in RUN or in SYNC with cause 0x15; from a FORM by request with
LOCK, at the next epoch tick (R198). FORM: from RUN, at the next epoch tick, with the E of this epoch (R197), and
otherwise refused. SERVICE: from READY, SYNC or RUN, which SVC_RET records, by session class 2, and otherwise refused.
The model's readings in it: log entries 6, 48, 49, 50, 53, 162. -/
def Obligations.RequestsUp : Prop :=
  (∀ (s : State) (t cls : Nat), RequestServed s t cls 1 → s.dev.sys.st = .ready → syncRefusal (devAt s t) = none →
    Runs (.reqSync t cls) t s trParts (fun d =>
      Answered 0 0 d ∧ d.sys.st = .sync ∧ d.sys.prev = .ready ∧ d.sys.cause = 0x05 ∧
        d.sys.seq = (s.dev.sys.seq + 1) % 256)) ∧
  (∀ (s : State) (t cls c : Nat), RequestServed s t cls 1 → s.dev.sys.st = .ready →
    syncRefusal (devAt s t) = some c →
    Runs (.reqSync t cls) t s [.sys, .mbx] (fun d =>
      Answered 1 c d ∧ d.sys = { s.dev.sys with refusal := c })) ∧
  (∀ (s : State) (t cls : Nat), RequestServed s t cls 1 → s.dev.sys.st = .doze → s.dev.sys.factory = true →
    Runs (.reqSync t cls) t s [.sys, .mbx] (fun d =>
      Answered 1 5 d ∧ d.sys = { s.dev.sys with refusal := 5 })) ∧
  (∀ (s : State) (t cls : Nat), RequestServed s t cls 1 → s.dev.sys.st = .doze → s.dev.sys.factory = false →
    Runs (.reqSync t cls) t s (allBut [.pts, .lkt, .commit, .rt, .setr, .sec, .clasp, .hold, .boot, .time, .pnd])
      (fun d => Answered 0 0 d ∧ d.sys.st = .sync ∧ d.sys.prev = .doze ∧ d.sys.cause = 0x05)) ∧
  (∀ (s : State) (t cls : Nat), RequestServed s t cls 1 → s.dev.sys.st = .run →
    Runs (.reqSync t cls) t s [.sys, .mbx] (fun d =>
      Answered 0 0 d ∧ d.sys = { s.dev.sys with req := 4, auto := .runToSync })) ∧
  (∀ (s : State) (t : Nat), s.dev.sys.st = .run → s.dev.sys.auto = .runToSync → t % 400000 = 0 → s.dev.gs.pR = 0 →
    s.dev.gs.qCmd = 0 → s.dev.hold.warned = false →
    Runs (.runToSyncComplete t) t s ([.gs, .setr] ++ trParts) (fun d =>
      d.sys.st = .sync ∧ d.sys.cause = 0x05 ∧ (∀ n, n < 48 → inSvc d n = false) ∧ d.gs.landP = 0 ∧ d.gs.landQ = 0)) ∧
  (∀ (s : State) (t cls : Nat), RequestServed s t cls 1 → s.dev.sys.st = .sync → runRefusal (devAt s t) = none →
    0 < mOn (runPlacement (transition .run 0x05 (powerOff (acceptReq 5 (devAt s t))))) →
    Runs (.reqRun t cls) t s (allBut [.pts, .commit, .rt, .sec, .clasp, .hold, .boot, .eth, .time]) (fun d =>
      Answered 0 0 d ∧ d.sys.st = .run ∧ d.sys.prev = .sync ∧ d.sys.cause = 0x05 ∧ d.gs.pR = 0 ∧ d.gs.qCmd = 0 ∧
        d.charm.blank = true)) ∧
  (∀ (s : State) (t cls c : Nat), RequestServed s t cls 1 → s.dev.sys.st = .sync → runRefusal (devAt s t) = some c →
    Runs (.reqRun t cls) t s [.sys, .mbx] (fun d =>
      Answered 1 c d ∧ d.sys = { s.dev.sys with refusal := c })) ∧
  (∀ (s : State) (t cls : Nat), RequestServed s t cls 1 → s.dev.sys.st = .doze → s.dev.sys.dozeFrom = .sync →
    Runs (.reqRun t cls) t s (allBut [.pts, .lkt, .commit, .rt, .setr, .sec, .clasp, .hold, .boot, .time, .pnd])
      (fun d => Answered 0 0 d ∧ d.sys.st = .doze ∧ d.sys.auto = .wakeCheck)) ∧
  (∀ (s : State) (t cls : Nat), RequestServed s t cls 1 → s.dev.sys.st = .form → s.dev.sys.formAuto = false →
    s.dev.gs.lock = true →
    Runs (.reqRun t cls) t s [.sys, .gs, .mbx] (fun d =>
      Answered 0 0 d ∧ d.sys = { s.dev.sys with req := 5, auto := .formExit 0x05 } ∧
        d.gs = { s.dev.gs with exitP := s.dev.gs.pMeas, exitQ := s.dev.gs.qMeas })) ∧
  (∀ (s : State) (t : Nat) (dp dm : Rat), s.dev.sys.auto = .wakeCheck → s.dev.hold.warned = false →
    absR dp ≤ 5 → absR dm ≤ 1 / 10 → s.dev.gd.closed = true →
    0 < mOn (runPlacement (transition .run 0x05 (powerOff (devAt s t)))) →
    Runs (.dozeWakeCheckDone t dp dm false) t s
      (allBut [.pts, .commit, .rt, .sec, .clasp, .hold, .boot, .eth, .time]) (fun d =>
        d.sys.st = .run ∧ d.sys.cause = 0x05)) ∧
  (∀ (s : State) (t : Nat) (dp dm : Rat) (slow : Bool), s.dev.sys.auto = .wakeCheck → s.dev.hold.warned = false →
    5 < absR dp ∨ 1 / 10 < absR dm ∨ slow = true ∨ s.dev.gd.closed = false →
    Runs (.dozeWakeCheckDone t dp dm slow) t s trParts (fun d => d.sys.st = .sync ∧ d.sys.cause = 0x15)) ∧
  (∀ (s : State) (t cls : Nat), RequestServed s t cls 1 → s.dev.sys.st = .run →
    Runs (.reqForm t cls) t s [.sys, .gs, .mbx] (fun d =>
      Answered 0 0 d ∧ d.sys = { s.dev.sys with req := 7, auto := .formByRequest } ∧
        d.gs.goodE = polar s.dev.gs.eMag (s.dev.gs.eTh - 360 * s.dev.gs.fE / 1000) ∧ d.gs.goodF = s.dev.gs.fE)) ∧
  (∀ (s : State) (t cls : Nat), RequestServed s t cls 1 → s.dev.sys.st ≠ .run →
    Runs (.reqForm t cls) t s [.sys, .mbx] (fun d =>
      Answered 1 5 d ∧ d.sys = { s.dev.sys with refusal := 5 })) ∧
  (∀ (s : State) (t cls : Nat), RequestServed s t cls 2 →
    s.dev.sys.st ≠ .ready → s.dev.sys.st ≠ .sync → s.dev.sys.st ≠ .run →
    Runs (.reqService t cls) t s [.sys, .mbx] (fun d =>
      Answered 1 5 d ∧ d.sys = { s.dev.sys with refusal := 5 })) ∧
  (∀ (s : State) (t cls : Nat), RequestServed s t cls 2 →
    s.dev.sys.st = .ready ∨ s.dev.sys.st = .sync ∨ s.dev.sys.st = .run →
    Runs (.reqService t cls) t s trParts (fun d =>
      Answered 0 0 d ∧ d.sys.st = .service ∧ d.sys.svcRet = s.dev.sys.st ∧ d.sys.cause = 0x05))

/-! ### Clocks and supplies -/

/-- A loss of lock of a loop that was locked (R516, R517): its bit of PLL_LOCK falls and its LOSS bit is set. Without the
PWM PLL the windows hold, the carriers stop and no leg stays in service; without channel C every cascade halts, and the
fabric runs on the reference where that is good; a device outside DOZE in a state that can trip does so with cause 0x26 or
0x27. Without
channel M the Casket is down; without the ADC PLL no result of a scanned input is valid and a CALFULL has ended; without a
LANE channel the Ethernet or the Chain links are down. The model's readings in it: log entries 69, 110. -/
def Obligations.LockLosses : Prop :=
  (∀ (s : State) (t : Nat), locked s.dev 2 = true → s.dev.sys.st ≠ .doze → canTrip s.dev 0x26 = true →
    s.dev.hold.warned = false →
    Runs (.pwmPllLockLoss t) t s
      (allBut [.pts, .lkt, .rt, .carat, .sec, .clasp, .hold, .boot, .can, .eth, .time]) (fun d =>
        locked d 2 = false ∧ bit d.clk.loss 2 = true ∧ d.sys.st = .trip ∧ d.sys.cause = 0x26 ∧
          (∀ w, w < 56 → (win d w).pllHold = true) ∧ (∀ n, n < 48 → inSvc d n = false ∧ (leg d n).running = false))) ∧
  (∀ (s : State) (t : Nat), locked s.dev 0 = true → s.dev.sys.st ≠ .doze → canTrip s.dev 0x27 = true →
    s.dev.hold.warned = false →
    Runs (.sysCLockLoss t) t s
      (allBut [.pts, .lkt, .rt, .carat, .sec, .clasp, .hold, .boot, .can, .eth, .time]) (fun d =>
        locked d 0 = false ∧ bit d.clk.loss 0 = true ∧ d.fil.haltAll = true ∧ d.clk.onRef = s.dev.clk.refOk ∧
          d.sys.st = .trip ∧ d.sys.cause = 0x27 ∧ (∀ n, n < 48 → inSvc d n = false))) ∧
  (∀ (s : State) (t : Nat), locked s.dev 1 = true →
    Runs (.sysMLockLoss t) t s ([.clk, .cask, .prm] ++ evParts) (fun d =>
      locked d 1 = false ∧ bit d.clk.loss 1 = true ∧ d.cask.up = false)) ∧
  (∀ (s : State) (t : Nat), locked s.dev 3 = true →
    Runs (.adcPllLockLoss t) t s ([.acq, .clk, .mbx, .prm, .pv] ++ evParts) (fun d =>
      locked d 3 = false ∧ bit d.clk.loss 3 = true ∧
        (∀ i, i < 168 → inScan s.dev i = true → (ain d i).res.valid = false) ∧ d.acq.calFull = none)) ∧
  (∀ (s : State) (t : Nat), locked s.dev 4 = true →
    Runs (.laneALockLoss t) t s ([.charm, .clk, .eth, .time] ++ evParts) (fun d =>
      locked d 4 = false ∧ bit d.clk.loss 4 = true ∧ (∀ i, i < 2 → (ethPort d i).link = false))) ∧
  (∀ (s : State) (t : Nat), locked s.dev 5 = true →
    Runs (.laneBLockLoss t) t s ([.clk, .eth] ++ evParts) (fun d =>
      locked d 5 = false ∧ bit d.clk.loss 5 = true ∧ (∀ k, 2 ≤ k → k < 8 → (lane d k).link = false)))

/-- The reference and relocks (R504, R509, R511, R515, R518): without the reference every loop counts as unlocked, the SYS
domains run on the fallback oscillator, LOCK of network time falls, and a device in a state that can trip does so with cause
0x26; its return ends the fallback. A relock, by a full search where one is due and by a stored result otherwise, sets the
loop's bit with EV_PLLLOCK; that of channel C lets the cascades go unless the bank is beyond repair, and that of the PWM PLL
the windows. A failed attempt counts, and from clk.relock.n of them on, 10 ms apart, the search is a full one. In DOZE all six
loops search anew after 10 °C. A sampling phase that an edge finds elsewhere is set, with RESYNC; and each whole second of
valid network time sets the RTC, with a trim in its range.
The model's readings in it: log entries 110, 111, 112, 113. -/
def Obligations.ReferenceAndRelocks : Prop :=
  (∀ (s : State) (t : Nat), s.dev.clk.refOk = true → chanRuns s.dev = true → canTrip s.dev 0x26 = true →
    s.dev.hold.warned = false →
    Runs (.refMissing t) t s (allBut [.pts, .lkt, .rt, .sec, .clasp, .hold, .boot]) (fun d =>
      d.clk.refOk = false ∧ d.clk.onFb = true ∧ (∀ l, l < 6 → locked d l = false) ∧ d.fil.haltAll = true ∧
        d.time.lock = false ∧ d.sys.st = .trip ∧ d.sys.cause = 0x26)) ∧
  (∀ (s : State) (t : Nat), s.dev.clk.refOk = false → chanRuns s.dev = true →
    Runs (.refReturn t) t s [.clk] (fun d =>
      d.clk = { s.dev.clk with refOk := true, onFb := false, onRef := !locked s.dev 0 })) ∧
  (∀ (s : State) (t l band : Nat) (temp : Int), l < 6 → locked s.dev l = false → s.dev.clk.refOk = true →
    chanRuns s.dev = true → s.dev.sys.st ≠ .doze → (l = 3 → locked s.dev 2 = true) →
    searchesFull s.dev l temp = true ∨ bandStored s.dev l band temp = true →
    Runs (.pllRelock t l band temp) t s
      (allBut [.sys, .pts, .lkt, .commit, .pwm, .rt, .charm, .pv, .setr, .carat, .sec, .gd, .hold, .boot, .eth, .time, .pnd])
      (fun d => locked d l = true ∧ d.clk.search = false ∧ tget 0 d.clk.tries l = 0 ∧ Pending 116 d ∧
        (l = 0 → d.fil.haltAll = s.dev.fil.unc) ∧ (l = 2 → ∀ w, w < 56 → (win d w).pllHold = false))) ∧
  (∀ (s : State) (t l : Nat), l < 6 → locked s.dev l = false → chanRuns s.dev = true → s.dev.sys.st ≠ .doze →
    (prm s.dev 0xF207 0 ≤ tget 0 s.dev.clk.tries l → tget 0 s.dev.clk.tryT l + 4000000 ≤ t) →
    Runs (.pllRelockRetry t l) t s [.clk] (fun d =>
      tget 0 d.clk.tries l = tget 0 s.dev.clk.tries l + 1 ∧
        d.clk.search = decide (prm s.dev 0xF207 0 ≤ tget 0 s.dev.clk.tries l + 1) ∧ d.clk.lock = s.dev.clk.lock)) ∧
  (∀ (s : State) (t band : Nat) (temp : Int), s.dev.sys.st = .doze → 100 ≤ absI (temp - s.dev.clk.bandTemp) →
    Runs (.bandRefresh t temp band) t s [.clk, .clasp] (fun d =>
      d.clk = { s.dev.clk with bandTemp := temp } ∧ d.clasp.bandUse = s.dev.clasp.bandUse + 6)) ∧
  (∀ (s : State) (t : Nat), prm s.dev 0xF204 0 = 0 → chanRuns s.dev = true → locked s.dev 3 = true →
    s.dev.clk.phase ≠ (t + prm s.dev 0xF205 0) % 10 →
    Runs (.adcSyncEdge t) t s [.acq, .clk] (fun d =>
      d.clk = { s.dev.clk with phase := (t + prm s.dev 0xF205 0) % 10, resync := true })) ∧
  (∀ (s : State) (t : Nat), prm s.dev 0xF204 0 = 0 → chanRuns s.dev = true → locked s.dev 3 = true →
    s.dev.clk.phase = (t + prm s.dev 0xF205 0) % 10 →
    Runs (.adcSyncEdge t) t s [] (fun d => d.clk = s.dev.clk)) ∧
  (∀ (s : State) (t : Nat), s.dev.time.valid = true → chanRuns s.dev = true → t % 400000000 = 0 →
    Runs (.rtcNetworkSet t) t s [.clasp, .free] (fun d =>
      d.clasp.rtcSec = t / 400000000 % 2 ^ 48 ∧ d.clasp.rtcFrac = 0 ∧ d.clasp.rtcSet = true ∧
        -2000 ≤ d.clasp.trim ∧ d.clasp.trim ≤ 2000))

/-- The hold-up supervisor (R521 to R529): the gauge takes the store voltage, its energy, SAVE_OK and GASP_OK, and raises
EV_HOLDLOW where SAVE_OK falls; an early warning that is due, not one that is not, takes the gates and both drives off,
decides the save, raises its event and enters save mode without a change of state; the end of the save enters CLASP with
cause 0x40: a full save of three bursts loses no journal record and keeps the newest 128 log entries, a minimal one is marked
so, and with none the journal loses what was not written. The hottest reading is the die temperature (R580): at 105 °C its event is raised,
below it nothing is, and at 118 °C no leg stays in service.
The model's readings in it: log entries 103, 114, 115, 116. -/
def Obligations.HoldUp : Prop :=
  (∀ (s : State) (t v : Nat), s.dev.sys.up = true → v < 4096 →
    Runs (.holdGaugeUpdate t v) t s (.hold :: evParts) (fun d =>
      d.hold = { s.dev.hold with
        v := v, e := gauge s.dev v, saveOk := decide (prm s.dev 0xF003 0 ≤ gauge s.dev v),
        gaspOk := decide (prm s.dev 0xF004 0 + prm s.dev 0xF005 0 ≤ gauge s.dev v) } ∧
      (s.dev.hold.saveOk = true → gauge s.dev v < prm s.dev 0xF003 0 → s.dev.hold.warned = false → Pending 120 d))) ∧
  (∀ (s : State) (t : Nat) (w : WarnSource), warnDue (devAt s t) w = false →
    Runs (.earlyWarning t w) t s [] (fun _ => True)) ∧
  (∀ (s : State) (t : Nat) (w : WarnSource), chanRuns s.dev = true → s.dev.hold.warned = false →
    warnDue (devAt s t) w = true →
    Runs (.earlyWarning t w) t s
      (allBut [.pts, .commit, .wins, .gs, .rt, .setr, .sec, .clasp, .boot, .time, .pnd]) (fun d =>
        d.hold.warned = true ∧ d.hold.saveMode = true ∧ d.hold.plan = savePlan s.dev ∧ Pending 118 d ∧
          d.pwm.devHold = true ∧ d.gd.gdh = false ∧ d.gd.gdl = false ∧ d.sys.st = s.dev.sys.st ∧
          d.clk.lock = s.dev.clk.lock % 4 ∧ (∀ n, n < 48 → (leg d n).running = false))) ∧
  (∀ (s : State) (t b j : Nat), s.dev.hold.warned = true → s.dev.hold.plan = 2 → 3 ≤ b →
    Runs (.saveComplete t b j) t s everyPart (fun d =>
      d.sys.st = .clasp ∧ d.sys.cause = 0x40 ∧ d.sys.prev = s.dev.sys.st ∧ d.sys.up = false ∧ d.hold.lastSave = 2 ∧
        d.hold.savedLog = s.dev.ev.log.take 128 ∧ d.clasp.jlost = 0)) ∧
  (∀ (s : State) (t b j : Nat), s.dev.hold.warned = true → s.dev.hold.plan = 1 → 1 ≤ b →
    Runs (.saveComplete t b j) t s everyPart (fun d =>
      d.sys.st = .clasp ∧ d.sys.cause = 0x40 ∧ d.hold.lastSave = 1 ∧ d.hold.savedLog = [])) ∧
  (∀ (s : State) (t b j : Nat), s.dev.hold.warned = true → s.dev.hold.plan = 0 →
    Runs (.saveComplete t b j) t s everyPart (fun d =>
      d.sys.st = .clasp ∧ d.sys.cause = 0x40 ∧ d.hold.lastSave = 0 ∧ d.hold.savedLog = [] ∧
        d.clasp.jlost = min j s.dev.lkt.journal.length ∧
        d.lkt.journal = s.dev.lkt.journal.take (s.dev.lkt.journal.length - min j s.dev.lkt.journal.length))) ∧
  (∀ (s : State) (t : Nat) (ts : List Int), s.dev.sys.up = true → ts ≠ [] → 118 ≤ hottest ts →
    Runs (.thermalSample t ts) t s (.boot :: tripParts) (fun d =>
      d.boot.tDie = hottest ts ∧ d.boot.temps = ts ∧ (∀ n, n < 48 → inSvc d n = false))) ∧
  (∀ (s : State) (t : Nat) (ts : List Int), s.dev.sys.up = true → ts ≠ [] → s.dev.boot.tDie < 105 →
    105 ≤ hottest ts → hottest ts < 118 →
    Runs (.thermalSample t ts) t s (.boot :: evParts) (fun d =>
      d.boot.tDie = hottest ts ∧ d.boot.temps = ts ∧ d.boot.therm = 1 ∧ Pending 122 d)) ∧
  (∀ (s : State) (t : Nat) (ts : List Int), s.dev.sys.up = true → ts ≠ [] → hottest ts < 105 → s.dev.boot.therm = 0 →
    Runs (.thermalSample t ts) t s [.boot] (fun d =>
      d.boot = { s.dev.boot with tDie := hottest ts, temps := ts }))

/-! ### Start and reset -/

/-- Supplies and wakes of the Clasp (R24, R502, R504, R507, R531, R532): from OFF the Clasp starts with VBAT, or after a cold
start from VHOLD that has begun, with the RTC at 0; its source changes without interruption; an enabled wake or alarm calls
the supplies of the fast domains, and a DOZE entered from READY wakes to READY with cause 0x02. A call that clasp.pwr.wait
does not see answered is given up; one answered in time begins a start of the KIND and cause of its source, and so do good
supplies by themselves where clasp.wake.en allows that. The loss of every supply is OFF, in which the Locket keeps its
content. The model's readings in it: log entries 102, 103, 113. -/
def Obligations.ClaspSupplies : Prop :=
  (∀ (s : State) (t : Nat) (vh : Bool), s.dev.sys.st = .off →
    Runs (.powerApplied t true vh) t s [.sys, .clasp] (fun d =>
      d.sys.st = .clasp ∧ d.sys.prev = .off ∧ d.sys.cause = 0x01 ∧ d.sys.up = false ∧ d.clasp.cold = true ∧
        d.clasp.vbatOk = true ∧ d.clasp.rtcSec = 0 ∧ d.clasp.rtcT = t)) ∧
  (∀ (s : State) (t : Nat) (vh : Bool), s.dev.sys.st = .off →
    Runs (.powerApplied t false vh) t s [.clasp] (fun d => d.clasp = { s.dev.clasp with charging := vh })) ∧
  (∀ (s : State) (t : Nat), s.dev.sys.st = .off → s.dev.clasp.charging = true →
    Runs (.coldStartComplete t) t s [.sys, .clasp] (fun d =>
      d.sys.st = .clasp ∧ d.sys.cause = 0x01 ∧ d.clasp.cold = true ∧ d.clasp.vholdOk = true ∧ d.clasp.src = true ∧
        d.clasp.rtcSec = 0 ∧ d.clasp.rtcT = t)) ∧
  (∀ (s : State) (t : Nat), s.dev.sys.st = .clasp →
    Runs (.claspSupplyLost t) t s (allBut [.free, .lkt, .sec, .carat]) (fun d =>
      d.sys = {} ∧ d.clasp = {} ∧ d.legs = [] ∧ d.gd = {})) ∧
  (∀ (s : State) (t : Nat) (b h : Bool), s.dev.sys.st ≠ .off →
    Runs (.claspSupplyChange t b h) t s [.clasp] (fun d =>
      d.clasp = { s.dev.clasp with vbatOk := b, vholdOk := h, src := h })) ∧
  (∀ (s : State) (t : Nat) (l : Bool), claspAlone s.dev = true → bit (snapPrm s.dev 0xF102) 0 = true →
    l = decide (snapPrm s.dev 0xF105 = 0) →
    Runs (.wakeInput t l) t s [.clasp] (fun d =>
      d.clasp = { s.dev.clasp with pwrEn := true, pwrT := t, wakeSrc := 1 })) ∧
  (∀ (s : State) (t : Nat) (l : Bool), s.dev.sys.st = .doze → s.dev.sys.dozeFrom = .ready →
    l = decide (prm s.dev 0xF105 0 = 0) → s.dev.hold.warned = false → s.dev.gd.estop = false →
    Runs (.wakeInput t l) t s (allBut [.pts, .lkt, .commit, .rt, .sec, .hold, .boot, .eth, .time]) (fun d =>
      d.sys.st = .ready ∧ d.sys.cause = 0x02 ∧ d.cask.selfref = false)) ∧
  (∀ (s : State) (t : Nat), claspAlone s.dev = true → snapPrm s.dev 0xF100 ≠ 0 →
    rtcNow true (devAt s t) / 32768 = snapPrm s.dev 0xF100 → bit (snapPrm s.dev 0xF102) 1 = true →
    Runs (.rtcAlarm t) t s [.clasp] (fun d =>
      d.clasp = { s.dev.clasp with pwrEn := true, pwrT := t, wakeSrc := 2 })) ∧
  (∀ (s : State) (t : Nat), s.dev.sys.st = .clasp → s.dev.clasp.pwrEn = true → s.dev.clasp.start = none →
    s.dev.clasp.rstLow = false → s.dev.clasp.pwrT + 400000 * snapPrm s.dev 0xF103 ≤ t →
    Runs (.pwrWaitTimeout t) t s [.clasp] (fun d =>
      d.clasp = { s.dev.clasp with pwrEn := false, pwrFail := true })) ∧
  (∀ (s : State) (t : Nat) (h : Bool), s.dev.sys.st = .clasp → s.dev.clasp.start = none → s.dev.clasp.rstLow = false →
    s.dev.clasp.pwrEn = true → t ≤ s.dev.clasp.pwrT + 400000 * snapPrm s.dev 0xF103 →
    Runs (.mainSupplyGood t h) t s [.clasp, .boot, .sec] (fun d =>
      d.clasp.start = some (if s.dev.clasp.cold then (1, 4, t) else match s.dev.clasp.wakeSrc with
        | 0 => (0, 4, t)
        | 1 => (0, 2, t)
        | 2 => (0, 3, t)
        | 3 => (2, 6, t)
        | _ => (0, 6, t)) ∧ d.clasp.pwrEn = true ∧ d.boot.hostsel = h ∧ d.boot.recovery = (imageChoice s.dev).isNone)) ∧
  (∀ (s : State) (t : Nat) (h : Bool), s.dev.sys.st = .clasp → s.dev.clasp.start = none → s.dev.clasp.rstLow = false →
    s.dev.clasp.pwrEn = false → bit (snapPrm s.dev 0xF102) 2 = true →
    Runs (.mainSupplyGood t h) t s [.clasp, .boot, .sec] (fun d =>
      d.clasp.start = some (if s.dev.clasp.cold then 1 else 0, 4, t) ∧ d.clasp.pwrEn = true ∧ d.boot.hostsel = h))

/-- Resets (R506, R535 to R539, R568): RST_N low for 0.5 µs resets, and not before: the Locket keeps its content, the Clasp
its last-state record, the Casket its records in self-refresh, the channel has a demand, and the device reads as CLASP. Its
release begins a start of KIND 2, or first calls the supplies. The watchdog starts anew with KIND 3, and 1 ms after a mismatch of
the lockstep cores, which trips with cause 0x28, a start of KIND 4 begins. TEST_EN takes every leg output to high impedance.
The model's readings in it: log entries 101, 103, 104, 105. -/
def Obligations.Resets : Prop :=
  (∀ (s : State) (t a : Nat), t < a + 200 → Runs (.rstNAssert t a) t s [] (fun _ => True)) ∧
  (∀ (s : State) (t a : Nat), s.dev.sys.st ≠ .off → s.dev.sys.up = true → a + 200 ≤ t →
    Runs (.rstNAssert t a) t s (allBut [.free]) (fun d =>
      d.sys.st = .clasp ∧ d.sys.cause = 0x06 ∧ d.sys.up = false ∧ d.clasp.rstLow = true ∧
        d.clasp.lastState = stCode s.dev.sys.st ∧ d.cask.selfref = true ∧ d.cask.recs = s.dev.cask.recs ∧
        d.gd.dem = true ∧ d.gd.gdh = false ∧ d.gd.gdl = false ∧ d.lkt.journal = s.dev.lkt.journal ∧
        d.lkt.slotA = s.dev.lkt.slotA ∧ d.lkt.slotB = s.dev.lkt.slotB ∧ d.legs = [])) ∧
  (∀ (s : State) (t : Nat) (h : Bool), s.dev.clasp.rstLow = true → s.dev.clasp.pwrEn = true →
    Runs (.rstNRelease t h) t s [.sys, .clasp, .boot, .sec] (fun d =>
      d.clasp.rstLow = false ∧ d.clasp.start = some (2, 6, t) ∧ d.sys = { s.dev.sys with testStop := false })) ∧
  (∀ (s : State) (t : Nat) (h : Bool), s.dev.clasp.rstLow = true → s.dev.clasp.pwrEn = false →
    Runs (.rstNRelease t h) t s [.sys, .clasp] (fun d =>
      d.clasp = { s.dev.clasp with rstLow := false, pwrEn := true, pwrT := t, wakeSrc := 3 })) ∧
  (∀ (s : State) (t : Nat) (h : Bool), s.dev.sys.up = true → s.dev.sys.testStop = false →
    Runs (.svpWatchdogExpiry t h) t s (allBut [.free]) (fun d =>
      d.sys.st = .clasp ∧ d.sys.up = false ∧ d.clasp.start = some (3, 6, t) ∧ d.gd.dem = true ∧
        d.clasp.lastState = stCode s.dev.sys.st ∧ d.lkt.journal = s.dev.lkt.journal)) ∧
  (∀ (s : State) (t : Nat), chanRuns s.dev = true → canTrip s.dev 0x28 = true → s.dev.sys.st ≠ .doze →
    s.dev.hold.warned = false →
    Runs (.lockstepMismatch t) t s (.clk :: tripParts) (fun d =>
      d.sys.st = .trip ∧ d.sys.cause = 0x28 ∧ d.pwm.devHold = true ∧
        d.clk.lockstep = some (s.dev.clk.lockstep.getD t) ∧ (∀ n, n < 48 → inSvc d n = false))) ∧
  (∀ (s : State) (t a : Nat) (h : Bool), s.dev.clk.lockstep = some a → a + 400000 ≤ t → s.dev.sys.up = true →
    Runs (.lockstepReset t h) t s (allBut [.free]) (fun d =>
      d.sys.st = .clasp ∧ d.sys.up = false ∧ d.clasp.start = some (4, 6, t) ∧ d.gd.dem = true)) ∧
  (∀ (s : State) (t : Nat), s.dev.sys.st ≠ .off →
    Runs (.testEnAssert t) t s [.sys, .legs] (fun d =>
      d.sys = { s.dev.sys with testStop := true } ∧ ∀ n, gateOut d n = none))

/-- The end of a start (R540, R541, R544): READY with SEQ 1, the cause of the start (0x06 in recovery), EV_RESET and EV_STATE,
the host memory empty, no slot busy or rung, the loops that the set-up needs locked, and both drives of the channel off. A
valid snapshot alone is restored, and with none the device is on factory values with EV_FACTORY, except in recovery (R547);
with ESTOP low it goes on to TRIP with cause 0x24 and a demand (R492).
The model's readings in it: log entries 106, 107, 109. -/
def Obligations.StartCompletes : Prop :=
  (∀ (s : State) (t k c a : Nat) (o : BootObs), s.dev.clasp.start = some (k, c, a) → s.dev.sys.up = false →
    s.dev.sys.testStop = false → s.dev.clasp.rstLow = false → o.estopLow = false →
    ∃ s', exec (.bootComplete t o) s = .next s' ∧ s'.hostMem = [] ∧ s'.pending = s.pending ∧ s'.dev.t = t ∧
      s'.dev.sys.st = .ready ∧ s'.dev.sys.prev = .clasp ∧ s'.dev.sys.seq = 1 ∧ s'.dev.sys.up = true ∧
      s'.dev.sys.cause = (if s.dev.boot.recovery then 6 else c) ∧ s'.dev.clasp.start = none ∧
      s'.dev.gd.gdh = false ∧ s'.dev.gd.gdl = false ∧ s'.dev.gd.closed = false ∧ s'.dev.cask.up = o.casketOk ∧
      s'.dev.clk.lock = loopsNeeded s'.dev ∧
      s'.dev.mbx.busy = 0 ∧ s'.dev.mbx.rung = [] ∧ Pending 6 s'.dev ∧ Pending 0 s'.dev ∧
      (verdict s.dev s.dev.lkt.slotA o.locketA = 0 → verdict s.dev s.dev.lkt.slotB o.locketB ≠ 0 →
        s'.dev.lkt.snapSeq = s.dev.lkt.slotA.seq) ∧
      (verdict s.dev s.dev.lkt.slotA o.locketA ≠ 0 → verdict s.dev s.dev.lkt.slotB o.locketB = 0 →
        s'.dev.lkt.snapSeq = s.dev.lkt.slotB.seq) ∧
      (verdict s.dev s.dev.lkt.slotA o.locketA ≠ 0 → verdict s.dev s.dev.lkt.slotB o.locketB ≠ 0 →
        s.dev.boot.recovery = false → s'.dev.sys.factory = true ∧ Pending 2 s'.dev)) ∧
  (∀ (s : State) (t k c a : Nat) (o : BootObs), s.dev.clasp.start = some (k, c, a) → s.dev.sys.up = false →
    s.dev.sys.testStop = false → s.dev.clasp.rstLow = false → o.estopLow = true → s.dev.hold.warned = false →
    ∃ s', exec (.bootComplete t o) s = .next s' ∧ s'.hostMem = [] ∧ s'.pending = s.pending ∧
      s'.dev.sys.st = .trip ∧ s'.dev.sys.prev = .ready ∧ s'.dev.sys.cause = 0x24 ∧ s'.dev.gd.dem = true)

/-! ### Parameters, commits and reads -/

/-- PGET answers the size, the count and whole values from FIRST on, as many as one response holds, of the values in force
or, with SHADOW, of the staged ones (R87, R364, R375). An unknown PID is answered with status 9 and an instance that does
not exist with status 8 and the first one (R362). The model's readings in it: log entries 21, 31. -/
def Obligations.ParameterReads : Prop :=
  (∀ (s : State) (t slot : Nat) (c : Cmd) (x : Desc), Admitted s slot 0x01 c → bit (field c.body 6 6) 0 = false →
    descOf (field c.body 1 0) = some x → field c.body 3 2 + field c.body 5 4 ≤ x.n →
    Runs (.pget t slot) t s ([.mbx, .acq, .fil, .legs, .wins, .pv, .can] ++ evParts) (fun d =>
      Completed s c t 0 0 (le 2 x.vsize ++ le 2 (pgetCount x.vsize (field c.body 5 4)) ++
        (List.range (pgetCount x.vsize (field c.body 5 4))).flatMap (fun k =>
          le x.vsize (pgetVal (devAt s t) false x (field c.body 3 2 + k)))) d)) ∧
  (∀ (s : State) (t slot : Nat) (c : Cmd) (x : Desc), Admitted s slot 0x01 c → bit (field c.body 6 6) 0 = true →
    descOf (field c.body 1 0) = some x → field c.body 3 2 + field c.body 5 4 ≤ x.n →
    Runs (.pgetShadow t slot) t s ([.mbx, .acq, .fil, .legs, .wins, .pv, .can] ++ evParts) (fun d =>
      Completed s c t 0 0 (le 2 x.vsize ++ le 2 (pgetCount x.vsize (field c.body 5 4)) ++
        (List.range (pgetCount x.vsize (field c.body 5 4))).flatMap (fun k =>
          le x.vsize (pgetVal (devAt s t) true x (field c.body 3 2 + k)))) d)) ∧
  (∀ (s : State) (t slot : Nat) (c : Cmd), Admitted s slot 0x01 c → bit (field c.body 6 6) 0 = false →
    descOf (field c.body 1 0) = none →
    Runs (.pget t slot) t s (.mbx :: evParts) (fun d => Completed s c t 9 (field c.body 1 0) [] d)) ∧
  (∀ (s : State) (t slot : Nat) (c : Cmd) (x : Desc), Admitted s slot 0x01 c → bit (field c.body 6 6) 0 = false →
    descOf (field c.body 1 0) = some x → x.n < field c.body 3 2 + field c.body 5 4 →
    Runs (.pget t slot) t s (.mbx :: evParts) (fun d =>
      Completed s c t 8 (pdet (field c.body 1 0) (max (field c.body 3 2) x.n)) [] d))

/-- PSET of staged parameters in range stages its values and leaves what is in force (R364, R376, R377); of banked ones it
writes the inactive bank (R87), unless their copy after a swap still runs; a value out of range is answered with status 8
and a read-only parameter with status 0x0A, and nothing is written. A discard takes the staged values of its groups back
(R386); a host point of a declared type takes its value at once (R395).
The model's readings in it: log entries 18, 19, 32. -/
def Obligations.ParameterWrites : Prop :=
  (∀ (s : State) (t slot : Nat) (c : Cmd) (x : Desc), Admitted s slot 0x02 c → s.dev.sys.up = true →
    standbyPset s.dev (field c.body 1 0) = false → descOf (field c.body 1 0) = some x → x.kind = 1 →
    field c.body 7 6 = x.vsize → field c.body 3 2 + field c.body 5 4 ≤ x.n →
    psetBusy s.dev x (field c.body 3 2) (field c.body 5 4) = false →
    (∀ k, k < field c.body 5 4 → prmOwned s.dev (field c.body 1 0) (field c.body 3 2 + k) = false) →
    (∀ k, k < field c.body 5 4 → inRange x (psetVal c (field c.body 7 6) k) = true) →
    Runs (.pset t slot) t s ([.prm, .mbx, .chain] ++ evParts) (fun d =>
      Completed s c t 0 0 [] d ∧
        (∀ k, k < field c.body 5 4 →
          stagedVal d (field c.body 1 0) (field c.body 3 2 + k) = psetVal c (field c.body 7 6) k) ∧
        d.prm.active = s.dev.prm.active)) ∧
  (∀ (s : State) (t slot : Nat) (c : Cmd) (x : Desc), Admitted s slot 0x02 c → s.dev.sys.up = true →
    standbyPset s.dev (field c.body 1 0) = false → descOf (field c.body 1 0) = some x → x.kind = 4 →
    field c.body 7 6 = x.vsize → field c.body 3 2 + field c.body 5 4 ≤ x.n →
    psetBusy s.dev x (field c.body 3 2) (field c.body 5 4) = false → s.dev.fil.copying = false →
    (∀ k, k < field c.body 5 4 → prmOwned s.dev (field c.body 1 0) (field c.body 3 2 + k) = false) →
    (∀ k, k < field c.body 5 4 → inRange x (psetVal c (field c.body 7 6) k) = true) →
    Runs (.pset t slot) t s ([.fil, .mbx, .chain] ++ evParts) (fun d =>
      Completed s c t 0 0 [] d ∧
        (∀ k, k < field c.body 5 4 →
          bankGet (otherBank d) (field c.body 1 0) (field c.body 3 2 + k) = psetVal c (field c.body 7 6) k) ∧
        activeBank d = activeBank s.dev)) ∧
  (∀ (s : State) (t slot i : Nat) (c : Cmd) (x : Desc), Admitted s slot 0x02 c →
    standbyPset s.dev (field c.body 1 0) = false → descOf (field c.body 1 0) = some x → x.kind ≠ 0 →
    field c.body 7 6 = x.vsize → field c.body 3 2 + field c.body 5 4 ≤ x.n →
    psetBusy s.dev x (field c.body 3 2) (field c.body 5 4) = false →
    (∀ k, k < field c.body 5 4 → prmOwned s.dev (field c.body 1 0) (field c.body 3 2 + k) = false) →
    i < field c.body 5 4 → (∀ k, k < i → inRange x (psetVal c (field c.body 7 6) k) = true) →
    inRange x (psetVal c (field c.body 7 6) i) = false →
    Runs (.pset t slot) t s (.mbx :: evParts) (fun d =>
      Completed s c t 8 (pdet (field c.body 1 0) (field c.body 3 2 + i)) [] d)) ∧
  (∀ (s : State) (t slot : Nat) (c : Cmd) (x : Desc), Admitted s slot 0x02 c →
    standbyPset s.dev (field c.body 1 0) = false → descOf (field c.body 1 0) = some x → field c.body 7 6 = x.vsize →
    x.kind = 0 →
    Runs (.pset t slot) t s (.mbx :: evParts) (fun d =>
      Completed s c t 0x0A (pdet (field c.body 1 0) (field c.body 3 2)) [] d)) ∧
  (∀ (s : State) (t cls mask : Nat), WriteServed s.dev cls 2 → mask < 2 ^ 32 → commitNames s.dev mask = false →
    Runs (.stageDiscard t cls mask) t s [.prm, .mbx] (fun d =>
      Answered 0 0 d ∧ d.prm.active = s.dev.prm.active ∧
        ∀ pid i g, pid ≠ 0x0052 → i < 65536 → groupOf s.dev pid i = some g →
          stagedVal d pid i = if bit mask g then prm s.dev pid i else stagedVal s.dev pid i)) ∧
  (∀ (s : State) (t cls k v : Nat), WriteServed s.dev cls 1 → k < 65536 → declOf s.dev (s.dev.prm.ptSel + k) ≠ 0 →
    v < 2 ^ (8 * typeSize (declOf s.dev (s.dev.prm.ptSel + k))) →
    Runs (.hostPointWrite t cls k v) t s [.pts, .setr, .mbx] (fun d =>
      Answered 0 0 d ∧
        point d (s.dev.prm.ptSel + k) = { point s.dev (s.dev.prm.ptSel + k) with
          value := v, tNs := t * 5 / 2, valid := true, stale := false,
          seq := ((point s.dev (s.dev.prm.ptSel + k)).seq + 1) % 2 ^ 32 } ∧
        ∀ p, p ≠ s.dev.prm.ptSel + k → point d p = point s.dev p))

/-- A COMMIT (R364, R380 to R385): one that changes something runs on until its checks are done, and one that changes
nothing is done at once; CHECK_ONLY answers the verdict and lands nothing. A failed check ends it with the verdict; after
passed checks the landing is the first epoch tick at least 200 µs later, and at it the commit lands, completes, ends the
factory values and calls for a snapshot, or ends with ABORTED where a rule on the state fails now.
The snapshot of a landed COMMIT (R387, R388, R545): a good write makes its slot the newest complete one, header set, and
leaves the other as it was; a failed write is tried once more 100 ms later, and fails for good after that.
The model's readings in it: log entries 36, 37, 44. -/
def Obligations.Commits : Prop :=
  (∀ (s : State) (t slot : Nat) (c : Cmd), Admitted s slot 0x03 c → checkOnly c = false → s.dev.sys.standby = false →
    commitIdle (devAt s t) (commitMask c) = false →
    Runs (.commit t slot) t s [.mbx, .commit] (fun d =>
      d.commit = some ⟨commitMask c, c.slot, cmdClass s.dev c, none, 0⟩ ∧ d.mbx.rung = s.dev.mbx.rung.tail ∧
        d.mbx.done = s.dev.mbx.done ∧ (longOf d 0x03).isSome = true)) ∧
  (∀ (s : State) (t slot : Nat) (c : Cmd), Admitted s slot 0x03 c → checkOnly c = false → s.dev.sys.standby = false →
    commitIdle (devAt s t) (commitMask c) = true →
    Runs (.commit t slot) t s (.mbx :: evParts) (fun d => Completed s c t 0 0 (le 8 0) d)) ∧
  (∀ (s : State) (t slot : Nat) (c : Cmd), Admitted s slot 0x03 c → checkOnly c = true → s.dev.sys.standby = false →
    Runs (.commitCheckOnly t slot) t s (.mbx :: evParts) (fun d =>
      Completed s c t (commitVerdict (devAt s t) (commitMask c) (cmdClass s.dev c)).1
        (commitVerdict (devAt s t) (commitMask c) (cmdClass s.dev c)).2
        (if (commitVerdict (devAt s t) (commitMask c) (cmdClass s.dev c)).1 = 0 then le 8 0 else []) d)) ∧
  (∀ (s : State) (t : Nat) (j : CommitJob), s.dev.commit = some j → j.passedAt = none → s.dev.sys.up = true →
    s.dev.mbx.paused = false → s.dev.sys.testStop = false → commitVerdict (devAt s t) j.groups j.cls = (0, 0) →
    Runs (.commitChecksDone t) t s [.commit, .chain, .fil] (fun d =>
      ∃ e, d.commit = some { j with passedAt := some t, landEp := e } ∧ t + 80000 ≤ e * 400000 ∧
        e * 400000 < t + 480000)) ∧
  (∀ (s : State) (t : Nat) (j : CommitJob) (l : LongCmd) (v : Nat × Nat), s.dev.commit = some j → j.passedAt = none →
    s.dev.sys.up = true → s.dev.mbx.paused = false → s.dev.sys.testStop = false →
    commitVerdict (devAt s t) j.groups j.cls = v → v.1 ≠ 0 → s.dev.mbx.long.find? (fun x => x.slot = j.slot) = some l →
    Runs (.commitChecksDone t) t s [.commit, .mbx] (fun d => d.commit = none ∧ EndedLong s l t v.1 v.2 [] d)) ∧
  (∀ (s : State) (t a : Nat) (j : CommitJob) (l : LongCmd), s.dev.commit = some j → j.passedAt = some a →
    j.landEp * 400000 ≤ t → t % 400000 = 0 → s.dev.sys.up = true → locked s.dev 2 = true → s.dev.mbx.paused = false →
    s.dev.sys.testStop = false → s.dev.fil.replay = none → s.dev.acq.calZero = none → s.dev.acq.calFull = none →
    stateRules (commitCtx (devAt s t) j.groups) = [] →
    neededClass (devAt s t) (commitCtx (devAt s t) j.groups).ch ≤ j.cls →
    s.dev.mbx.long.find? (fun x => x.slot = j.slot) = some l →
    Runs (.commitLanding t) t s (allBut [.rt, .clasp, .hold, .boot, .pnd]) (fun d =>
      d.commit = none ∧ d.sys.factory = false ∧ snapWriting d = true ∧ EndedLong s l t 0 0 (le 8 (t / 400000)) d)) ∧
  (∀ (s : State) (t a : Nat) (j : CommitJob) (l : LongCmd), s.dev.commit = some j → j.passedAt = some a →
    j.landEp * 400000 ≤ t → t % 400000 = 0 → s.dev.sys.up = true → locked s.dev 2 = true → s.dev.mbx.paused = false →
    s.dev.sys.testStop = false → s.dev.fil.replay = none → stateRules (commitCtx (devAt s t) j.groups) ≠ [] →
    s.dev.mbx.long.find? (fun x => x.slot = j.slot) = some l →
    Runs (.commitLanding t) t s [.commit, .mbx, .fil] (fun d =>
      d.commit = none ∧ EndedLong s l t 0x10 (stCode s.dev.sys.st) [] d)) ∧
  (∀ (s : State) (t : Nat), snapWriting s.dev = true → s.dev.lkt.retryDue = false → s.dev.sys.up = true →
    s.dev.lkt.again = false →
    Runs (.snapshotWriteDone t true) t s [.lkt] (fun d =>
      d.lkt.snapState = 0 ∧ d.lkt.snapSeq = s.dev.lkt.body.seq ∧ d.lkt.newestB = snapTarget s.dev ∧
        (if snapTarget s.dev then d.lkt.slotB else d.lkt.slotA) = { s.dev.lkt.body with header := true } ∧
        (if snapTarget s.dev then d.lkt.slotA else d.lkt.slotB) =
          (if snapTarget s.dev then s.dev.lkt.slotA else s.dev.lkt.slotB) ∧
        d.lkt.journal = s.dev.lkt.journal)) ∧
  (∀ (s : State) (t : Nat), snapWriting s.dev = true → s.dev.lkt.retryDue = false → s.dev.sys.up = true →
    s.dev.lkt.retrying = false →
    Runs (.snapshotWriteDone t false) t s [.lkt] (fun d =>
      d.lkt = { s.dev.lkt with retryDue := true, failT := t })) ∧
  (∀ (s : State) (t : Nat), snapWriting s.dev = true → s.dev.lkt.retryDue = true →
    s.dev.lkt.failT + 40000000 ≤ t →
    Runs (.snapshotRetry t) t s [.lkt] (fun d =>
      d.lkt = { s.dev.lkt with retryDue := false, retrying := true })) ∧
  (∀ (s : State) (t : Nat), snapWriting s.dev = true → s.dev.lkt.retryDue = false → s.dev.sys.up = true →
    s.dev.lkt.retrying = true → s.dev.lkt.again = false →
    Runs (.snapshotWriteDone t false) t s [.lkt] (fun d => d.lkt.snapState = 2 ∧ d.lkt.snapSeq = s.dev.lkt.snapSeq))

/-- Reads (R342, R364, R368, R371, R393): the log and its archive from FROM on, points in one pass, the index of the records
of the named classes and tiers where all fit in one response, and the bytes of a record. A release of a record of tier 0
ends its life; an uncorrectable word among the bytes ends either read with DATAERR, its offset and the bytes before it, and
releases nothing. The model's readings in it: log entries 12, 45, 46. -/
def Obligations.Reads : Prop :=
  (∀ (s : State) (t slot : Nat) (c : Cmd), Admitted s slot 0x04 c → bit (field c.body 6 6) 0 = false →
    1 ≤ field c.body 5 4 → field c.body 5 4 ≤ 15 →
    Runs (.evread t slot) t s (.mbx :: evParts) (fun d =>
      Completed s c t 0 0 (evResp s.dev s.dev.ev.log (field c.body 3 0) (field c.body 5 4)) d)) ∧
  (∀ (s : State) (t slot : Nat) (c : Cmd), Admitted s slot 0x04 c → bit (field c.body 6 6) 0 = true →
    1 ≤ field c.body 5 4 → field c.body 5 4 ≤ 15 →
    Runs (.evreadArchive t slot) t s (.mbx :: evParts) (fun d =>
      Completed s c t 0 0 (evResp s.dev s.dev.cask.archive (field c.body 3 0) (field c.body 5 4)) d)) ∧
  (∀ (s : State) (t slot : Nat) (c : Cmd), Admitted s slot 0x05 c → field c.body 3 0 < 2 ^ 23 →
    1 ≤ field c.body 5 4 → field c.body 5 4 ≤ 15 →
    Runs (.ptread t slot) t s (.mbx :: evParts) (fun d =>
      Completed s c t 0 0 ((List.range (min (field c.body 5 4) (2 ^ 23 - field c.body 3 0))).flatMap
        (fun i => pointBytes (readPoint (devAt s t) (field c.body 3 0 + i)))) d)) ∧
  (∀ (s : State) (t slot : Nat) (c : Cmd) (rs : List Rec), Admitted s slot 0x06 c → s.dev.cask.up = true →
    1 ≤ field c.body 4 4 → field c.body 4 4 ≤ 7 →
    rs = s.dev.cask.recs.filter (fun r =>
      decide (field c.body 3 0 ≤ r.id) && bit (field c.body 5 5) r.cls && bit (field c.body 6 6) r.tier) →
    rs.length ≤ field c.body 4 4 →
    Runs (.reclist t slot) t s (.mbx :: evParts) (fun d =>
      Completed s c t 0 0 (le 4 s.dev.cask.nextId ++ le 4 0 ++ rs.flatMap recEntry) d)) ∧
  (∀ (s : State) (t slot : Nat) (c : Cmd) (r : Rec), Admitted s slot 0x07 c → bit (field c.body 10 10) 0 = false →
    s.dev.cask.up = true → 1 ≤ field c.body 9 8 → field c.body 9 8 ≤ 488 →
    s.dev.cask.recs.find? (fun x => x.id = field c.body 3 0) = some r → recLive r = true →
    Runs (.recread t slot none) t s (.mbx :: evParts) (fun d =>
      Completed s c t 0 0 (le 4 (recBytes r).length ++ le 4 0 ++
        ((recBytes r).drop (field c.body 7 4)).take (field c.body 9 8)) d)) ∧
  (∀ (s : State) (t slot : Nat) (c : Cmd) (r : Rec), Admitted s slot 0x07 c → bit (field c.body 10 10) 0 = true →
    s.dev.cask.up = true → 1 ≤ field c.body 9 8 → field c.body 9 8 ≤ 488 →
    s.dev.cask.recs.find? (fun x => x.id = field c.body 3 0) = some r → recLive r = true → r.tier = 0 →
    Runs (.recreadRelease t slot none) t s ([.cask, .mbx] ++ evParts) (fun d =>
      Completed s c t 0 0 (le 4 (recBytes r).length ++ le 4 0 ++
        ((recBytes r).drop (field c.body 7 4)).take (field c.body 9 8)) d ∧
      d.cask.recs = s.dev.cask.recs.map (fun x => if x.id = r.id then { x with life := 1 } else x))) ∧
  (∀ (s : State) (t slot : Nat) (c : Cmd) (r : Rec) (e : EccError), Admitted s slot 0x07 c → s.dev.cask.up = true →
    1 ≤ field c.body 9 8 → field c.body 9 8 ≤ 488 →
    s.dev.cask.recs.find? (fun x => x.id = field c.body 3 0) = some r → recLive r = true → r.tier ≠ 2 →
    e.double = true → r.addr + field c.body 7 4 ≤ e.addr → e.addr < r.addr + field c.body 7 4 + field c.body 9 8 →
    e.addr < r.addr + r.len →
    Runs (if bit (field c.body 10 10) 0 then .recreadRelease t slot (some e) else .recread t slot (some e)) t s
      ([.cask, .mbx] ++ evParts) (fun d =>
        Completed s c t 0x0E (e.addr - r.addr) (le 4 (recBytes r).length ++ le 4 0 ++
          ((recBytes r).drop (field c.body 7 4)).take (e.addr - r.addr - field c.body 7 4)) d ∧
        d.cask.recs.map (fun x => x.life) = s.dev.cask.recs.map (fun x => x.life)))

/-- The host reads the result of AIN i as point 0x10000 + i, and that of diagnostic position p of Facet f as point
0x10100 + 2f + (p − 14) (R38); it reads the output of cascade c as point 0x20000 + c (R85). The value of each is its word
pair, and PTREAD answers it. -/
def Obligations.PointPairs : Prop :=
  (∀ (s : State) (t slot i : Nat) (c : Cmd), Admitted s slot 0x05 c → i < 168 → field c.body 3 0 = 0x10000 + i →
    field c.body 5 4 = 1 →
    Runs (.ptread t slot) t s (.mbx :: evParts) (fun d =>
      Completed s c t 0 0 (pointBytes (readPoint (devAt s t) (0x10000 + i))) d ∧
        (readPoint (devAt s t) (0x10000 + i)).value = resPair (ain s.dev i).res)) ∧
  (∀ (s : State) (t slot f p : Nat) (c : Cmd), Admitted s slot 0x05 c → f < 13 → p = 14 ∨ p = 15 →
    field c.body 3 0 = 0x10100 + 2 * f + (p - 14) → field c.body 5 4 = 1 →
    Runs (.ptread t slot) t s (.mbx :: evParts) (fun d =>
      Completed s c t 0 0 (pointBytes (readPoint (devAt s t) (0x10100 + 2 * f + (p - 14)))) d ∧
        (readPoint (devAt s t) (0x10100 + 2 * f + (p - 14))).value =
          resPair (tget {} s.dev.acq.diag (2 * f + (p - 14))))) ∧
  (∀ (s : State) (t slot k : Nat) (c : Cmd), Admitted s slot 0x05 c → k < 128 → field c.body 3 0 = 0x20000 + k →
    field c.body 5 4 = 1 →
    Runs (.ptread t slot) t s (.mbx :: evParts) (fun d =>
      Completed s c t 0 0 (pointBytes (readPoint (devAt s t) (0x20000 + k))) d ∧
        (readPoint (devAt s t) (0x20000 + k)).value = casPair (cas s.dev k).out))

/-! ### Sessions, firmware and attestation -/

/-- Sessions (R365, R482 to R486): an open whose credential holds replaces the session in force and answers the token and
the idle time; one with a key slot's signature keeps its T_MS; one that fails counts, raises EV_AUTHFAIL and may lock out; a
close, or no command for sys.session.idle, ends the session; and a lockout ends at its time, the failures forgotten.
The model's readings in it: log entries 22, 23, 24, 120. -/
def Obligations.Sessions : Prop :=
  (∀ (s : State) (t slot : Nat) (c : Cmd), Admitted s slot 0x0B c → field c.body 0 0 = 0 → field c.body 1 1 ≤ 3 →
    c.len = 4 + field c.body 3 2 → s.dev.sec.lockout = false →
    credOpens (devAt s t) (field c.body 1 1) (c.body.drop 4) = true → s.dev.sys.up = true →
    Runs (.sessionOpen t slot) t s
      ([.mbx, .sec] ++ (if field c.body 3 2 = 0 then [] else [.lkt, .prm]) ++ evParts) (fun d =>
      d.mbx.sessOpen = true ∧ d.mbx.sessClass = field c.body 1 1 ∧ d.mbx.sessToken ≠ 0 ∧ d.mbx.sessLast = t ∧
        Completed s c t 0 0 (le 4 d.mbx.sessToken ++ le 4 (prm s.dev 0x0024 0)) d ∧ Pending 5 d ∧
        if field c.body 3 2 = 0 then d.sec.keyed = false
        else prm d 0xE011 (field (c.body.drop 4) 1 1) = field (c.body.drop 4) 11 4 ∧
          d.sec.slot = field (c.body.drop 4) 1 1 ∧ d.sec.keyed = true)) ∧
  (∀ (s : State) (t slot : Nat) (c : Cmd), Admitted s slot 0x0B c → field c.body 0 0 = 0 → field c.body 1 1 ≤ 3 →
    c.len = 4 + field c.body 3 2 →
    s.dev.sec.lockout = true ∨ credOpens (devAt s t) (field c.body 1 1) (c.body.drop 4) = false → s.dev.sys.up = true →
    Runs (.sessionOpen t slot) t s ([.mbx, .sec] ++ evParts) (fun d =>
      Completed s c t 0x11 0 [] d ∧ d.sec.authFail = incSat 255 s.dev.sec.authFail ∧ Pending 114 d ∧
        d.mbx.sessOpen = s.dev.mbx.sessOpen ∧ d.mbx.sessToken = s.dev.mbx.sessToken ∧
        d.sec.fails = t :: s.dev.sec.fails.filter (fun a => t < a + 24000000000) ∧
        (s.dev.sec.lockout = true → d.sec.lockout = true ∧ d.sec.lockEnd = s.dev.sec.lockEnd) ∧
        (s.dev.sec.lockout = false → prm s.dev 0xE013 0 ≤ d.sec.fails.length →
          d.sec.lockout = true ∧ d.sec.lockEnd = t + 400000000 * prm s.dev 0xE014 0))) ∧
  (∀ (s : State) (t slot : Nat) (c : Cmd), Admitted s slot 0x0B c → field c.body 0 0 = 1 → c.len = 4 →
    field c.body 3 1 = 0 → c.sess ≠ 0 → s.dev.mbx.sessOpen = true →
    Runs (.sessionClose t slot) t s (.mbx :: evParts) (fun d =>
      d.mbx.sessOpen = false ∧ d.mbx.sessClass = 0 ∧ d.mbx.sessToken = 0 ∧
        Completed s c t 0 0 (le 4 c.sess ++ le 4 0) d)) ∧
  (∀ (s : State) (t : Nat), s.dev.mbx.sessOpen = true → s.dev.mbx.sessLast + prm s.dev 0x0024 0 * 400000000 ≤ t →
    Runs (.sessionIdleTimeout t) t s [.mbx] (fun d =>
      d.mbx = { s.dev.mbx with sessOpen := false, sessClass := 0, sessToken := 0 })) ∧
  (∀ (s : State) (t : Nat), s.dev.sec.lockout = true → s.dev.sec.lockEnd ≤ t →
    Runs (.authLockoutEnd t) t s [.sec] (fun d => d.sec = { s.dev.sec with lockout := false, fails := [] }))

/-- Firmware (R364, R470, R477, R478): a first chunk starts a staging in the slot that is not active, and the next ones
follow in order; the last one leads to the checks, which verify the slot under the floor or fail. A verified image is
activated by a planned swap from RUN, live in READY, SYNC or SERVICE, or at the next reset; the last two mark its slot. A live one
pauses the epoch work and disarms the refresh watch, and at the end of its pause the new image is the active one, and
FWACT completes; in SERVICE from RUN the end of the work waits for the next tick (R26).
Attestation (R480): a NONCE that is not that of the report in force starts a report; once signed it answers with the bytes
asked for, and the same NONCE reads further bytes of it.
The model's readings in it: log entries 15, 117, 118, 119. -/
def Obligations.Firmware : Prop :=
  (∀ (s : State) (t slot : Nat) (c : Cmd), Admitted s slot 0x08 c → bit (field c.body 8 8) 1 = false →
    bit (field c.body 8 8) 0 = true → field c.body 3 0 = 0 → 1 ≤ field c.body 7 4 → field c.body 7 4 ≤ 8388608 →
    (c.body.drop 12).length ≤ 8388608 →
    Runs (.fwstageChunk t slot) t s ([.mbx, .sec] ++ evParts) (fun d =>
      fwSlot d (otherSlot s.dev) = { st := 1, image := c.body.drop 12, total := field c.body 7 4 } ∧
        Completed s c t 0 0 (le 4 (c.body.drop 12).length) d)) ∧
  (∀ (s : State) (t slot : Nat) (c : Cmd) (x : FwSlot), Admitted s slot 0x08 c → bit (field c.body 8 8) 1 = false →
    bit (field c.body 8 8) 0 = false → x = fwSlot s.dev (otherSlot s.dev) → x.st = 1 → x.total ≠ 0 →
    field c.body 3 0 = x.image.length → 1 ≤ field c.body 7 4 → field c.body 7 4 ≤ 8388608 →
    x.image.length + (c.body.drop 12).length ≤ 8388608 →
    Runs (.fwstageChunk t slot) t s ([.mbx, .sec] ++ evParts) (fun d =>
      fwSlot d (otherSlot s.dev) = { x with image := x.image ++ c.body.drop 12 } ∧
        Completed s c t 0 0 (le 4 (x.image.length + (c.body.drop 12).length)) d)) ∧
  (∀ (s : State) (t slot : Nat) (c : Cmd) (x : FwSlot), Admitted s slot 0x08 c → bit (field c.body 8 8) 1 = true →
    bit (field c.body 8 8) 0 = false → x = fwSlot s.dev (otherSlot s.dev) → x.st = 1 → x.total ≠ 0 →
    field c.body 3 0 = x.image.length → 1 ≤ field c.body 7 4 → field c.body 7 4 ≤ 8388608 →
    x.image.length + (c.body.drop 12).length ≤ 8388608 →
    Runs (.fwstageLast t slot) t s [.mbx, .sec] (fun d =>
      fwSlot d (otherSlot s.dev) = { x with image := x.image ++ c.body.drop 12 } ∧ (longOf d 0x08).isSome = true ∧
        d.mbx.rung = s.dev.mbx.rung.tail ∧ d.mbx.done = s.dev.mbx.done)) ∧
  (∀ (s : State) (t r : Nat) (l : LongCmd) (x : FwSlot), longOf s.dev 0x08 = some l →
    s.dev.mbx.long.find? (fun y => y.slot = l.slot) = some l → x = fwSlot s.dev (otherSlot s.dev) →
    imageCheck x.image x.total (prm s.dev 0xE020 0) = r → s.dev.sys.up = true →
    Runs (.fwstageCheckDone t) t s ([.mbx, .sec] ++ evParts) (fun d =>
      d.sec.fwRes = r ∧ if r = 1 then
        (fwSlot d (otherSlot s.dev)).st = 2 ∧ (fwSlot d (otherSlot s.dev)).floor = prm s.dev 0xE020 0 ∧
          EndedLong s l t 0 0 (le 4 x.image.length) d ∧ Pending 108 d
      else fwSlot d (otherSlot s.dev) = { st := 1 } ∧ EndedLong s l t 0x0F 0 [] d ∧ Pending 110 d)) ∧
  (∀ (s : State) (t slot : Nat) (c : Cmd), Admitted s slot 0x09 c → field c.body 0 0 = 0 → s.dev.sys.standby = false →
    swapOk s.dev = true → staged s.dev = true → s.dev.hold.warned = false →
    Runs (.fwactHandover t slot) t s (.pnd :: trParts) (fun d =>
      d.pnd.swapMs = some ((t + 399999) / 400000 + prm s.dev 0xD002 0) ∧ d.pnd.swapSlot = some c.slot ∧
        d.pnd.swapFw = true ∧ d.sys.st = .run ∧ (longOf d 0x09).isSome = true)) ∧
  (∀ (s : State) (t slot : Nat) (c : Cmd), Admitted s slot 0x09 c → field c.body 0 0 = 1 → liveState s.dev = true →
    staged s.dev = true →
    Runs (.fwactLive t slot) t s [.mbx, .sec] (fun d =>
      d.sec.live = some c.slot ∧ d.sec.liveAt = t ∧ (fwSlot d (1 - s.dev.sec.fwAct)).mark = true ∧
        (longOf d 0x09).isSome = true)) ∧
  (∀ (s : State) (t slot : Nat) (c : Cmd), Admitted s slot 0x09 c → field c.body 0 0 = 2 → staged s.dev = true →
    Runs (.fwactNextReset t slot) t s ([.mbx, .sec] ++ evParts) (fun d =>
      (fwSlot d (otherSlot s.dev)).mark = true ∧ (fwSlot d (otherSlot s.dev)).tries = 0 ∧
        Completed s c t 0 0 (le 4 (fwRelease s.dev)) d)) ∧
  (∀ (s : State) (t k : Nat), s.dev.sec.live = some k → s.dev.mbx.paused = false → liveState s.dev = true →
    staged s.dev = true → s.dev.sys.standby = false →
    Runs (.fwactPauseStart t) t s [.mbx, .gd] (fun d =>
      d.mbx.paused = true ∧ d.gd = { s.dev.gd with watch := false })) ∧
  (∀ (s : State) (t k : Nat) (l : LongCmd), s.dev.sec.live = some k → s.dev.mbx.paused = true →
    s.dev.mbx.long.find? (fun y => y.slot = k) = some l → s.dev.sys.st ≠ .service →
    Runs (.fwactPauseEnd t) t s ([.mbx, .sec, .rt, .charm] ++ evParts) (fun d =>
      d.mbx.paused = false ∧ d.sec.live = none ∧ d.sec.fwAct = otherSlot s.dev ∧ d.sec.running = otherSlot s.dev ∧
        EndedLong s l t 0 0 (le 4 (fwRelease d)) d)) ∧
  (∀ (s : State) (t k : Nat), s.dev.sec.live = some k → s.dev.mbx.paused = true → s.dev.sys.st = .service →
    s.dev.sys.svcRet = .run →
    Runs (.fwactPauseEnd t) t s ([.sys, .mbx, .sec, .rt, .charm] ++ evParts) (fun d =>
      d.mbx.paused = false ∧ d.sec.live = none ∧ d.sys = { s.dev.sys with auto := .svcExit })) ∧
  (∀ (s : State) (t slot : Nat) (c : Cmd), Admitted s slot 0x0A c → 1 ≤ field c.body 37 36 → field c.body 37 36 ≤ 488 →
    field c.body 35 32 < 640 → s.dev.sec.attNonce ≠ some (field c.body 31 0) →
    Runs (.attest t slot) t s [.mbx, .sec] (fun d =>
      d.sec.attNonce = none ∧ d.sec.attBody = none ∧ (longOf d 0x0A).isSome = true ∧
        d.mbx.rung = s.dev.mbx.rung.tail)) ∧
  (∀ (s : State) (t slot : Nat) (c : Cmd), Admitted s slot 0x0A c → 1 ≤ field c.body 37 36 → field c.body 37 36 ≤ 488 →
    field c.body 35 32 < 640 → s.dev.sec.attNonce = some (field c.body 31 0) →
    Runs (.attest t slot) t s (.mbx :: evParts) (fun d =>
      Completed s c t 0 0 (le 4 640 ++ le 4 0 ++
        (s.dev.sec.attReport.drop (field c.body 35 32)).take (field c.body 37 36)) d)) ∧
  (∀ (s : State) (t : Nat) (l : LongCmd) (b : List Byte), longOf s.dev 0x0A = some l →
    s.dev.mbx.long.find? (fun y => y.slot = l.slot) = some l → s.dev.sec.attBody = some b →
    Runs (.attestDone t) t s [.mbx, .sec] (fun d =>
      d.sec.attReport = b ++ be 384 (Config.sign b) ∧ d.sec.attNonce = some (field l.payload 31 0) ∧
        EndedLong s l t 0 0 (attestResp d.sec.attReport l.payload) d))

/-! ### The recorder and the record store -/

/-- The recorder units (R327 to R336): an arm of an IDLE unit restarts an empty ring, and a master arms its group; `pre` rows
make a unit READY, and the first READY after a record fixes the dead time; a manual trigger and an edge of a trigger input
are accepted in READY at their instants by a unit that names them; POST ends with len − pre rows or a stop; within the time
of R336 the record is filed and the unit is free again, or holds, and at the end of its hold it fills anew. The record
store (R297, R342, R347): the read of 24 h counts correctable errors and marks the records that an uncorrectable one
damages, and is not due sooner; the event archive takes what it lacks, and a record of tier 1 past its age falls to tier 0.
The model's readings in it: log entries 92, 94, 96. -/
def Obligations.RecorderUnits : Prop :=
  (∀ (s : State) (t cls u : Nat), WriteServed s.dev cls 1 → u < 4 → loupeOwned s.dev u = false → s.dev.cask.up = true →
    inGroup s.dev u = false → (unit s.dev u).st = 0 → prm s.dev 0xA000 u ≠ 0 →
    Runs (.loupeArm t cls u) t s [.loupe, .prm, .mbx] (fun d =>
      Answered 0 0 d ∧
        unit d u = { refill (unit s.dev u) with cfgWait := [], groupSeq := 0, fired := false } ∧
        OtherUnits u s.dev d)) ∧
  (∀ (s : State) (t cls u : Nat), WriteServed s.dev cls 1 → u < 4 → loupeOwned s.dev u = false → s.dev.cask.up = true →
    inGroup s.dev u = true → prm s.dev 0xA006 u = 1 → (unit s.dev u).st = 0 →
    (∀ v, v < 4 → (unit s.dev v).cfgWait = []) →
    Runs (.loupeArm t cls u) t s [.loupe, .lanes, .chain, .mbx] (fun d =>
      Answered 0 0 d ∧ ∀ v, v < 4 → prm s.dev 0xA005 v = prm s.dev 0xA005 u → (unit s.dev v).st = 0 →
        prm s.dev 0xA000 v ≠ 0 →
        (unit d v).st = 1 ∧ (unit d v).ring = [] ∧
          (unit d v).groupSeq = ((unit s.dev u).armCount + 1) % 2 ^ 32)) ∧
  (∀ (s : State) (t cls u : Nat), WriteServed s.dev cls 1 → u < 4 → loupeOwned s.dev u = false →
    unitNames s.dev u 0x600 = true → (unit s.dev u).st = 2 → prm s.dev 0xA003 u ≤ rowsBefore (unit s.dev u).ring t →
    Runs (.loupeFire t cls u) t s [.loupe, .taps, .lanes, .chain, .mbx] (fun d =>
      Answered 0 0 d ∧ (unit d u).st = 3 ∧ (unit d u).trigT = some t)) ∧
  (∀ (s : State) (t cls u : Nat), WriteServed s.dev cls 1 → u < 4 → loupeOwned s.dev u = false →
    (unit s.dev u).st = 3 →
    Runs (.loupeStop t cls u) t s [.loupe, .mbx] (fun d =>
      Answered 0 0 d ∧
        unit d u = { unit s.dev u with
          st := 4, endCode := 2, stT := t, endAt := (unit s.dev u).ring.head?.map (fun r => r.t) } ∧
        OtherUnits u s.dev d)) ∧
  (∀ (s : State) (t u : Nat), u < 4 → (unit s.dev u).st = 1 → prm s.dev 0xA003 u ≤ (unit s.dev u).ring.length →
    (unit s.dev u).readySeen = true →
    Runs (.loupePreFilled t u) t s [.loupe] (fun d =>
      unit d u = { unit s.dev u with st := 2 } ∧ OtherUnits u s.dev d)) ∧
  (∀ (s : State) (t u a : Nat), u < 4 → (unit s.dev u).st = 1 → prm s.dev 0xA003 u ≤ (unit s.dev u).ring.length →
    (unit s.dev u).readySeen = false → (unit s.dev u).lastRow = some a →
    Runs (.loupePreFilled t u) t s [.loupe] (fun d =>
      unit d u = { unit s.dev u with st := 2, readySeen := true, deadUs := min 0xFFFFFFFF ((t - a) / 400) } ∧
        OtherUnits u s.dev d)) ∧
  (∀ (s : State) (t u : Nat), u < 4 → postFull s.dev u = true →
    Runs (.loupePostComplete t u) t s [.loupe] (fun d =>
      unit d u = { unit s.dev u with
        st := 4, endCode := 0, stT := t, endAt := (unit s.dev u).ring.head?.map (fun r => r.t) } ∧
        OtherUnits u s.dev d)) ∧
  (∀ (s : State) (t u : Nat) (p : TransferParity), u < 4 → (unit s.dev u).st = 4 → s.dev.cask.up = true →
    s.dev.sys.up = true → t ≤ (unit s.dev u).stT + storeMax s.dev u →
    Runs (.loupeStoreDone t u p) t s ([.loupe, .cask, .setr, .prm] ++ evParts) (fun d =>
      (unit d u).st = (if prm s.dev 0xA000 u = 2 ∧ (inGroup s.dev u = false ∨ prm s.dev 0xA006 u = 1) then 5 else 0) ∧
        d.cask.nextId = (s.dev.cask.nextId + 1) % 2 ^ 32 ∧
        (∃ r ∈ d.cask.recs, r.id = s.dev.cask.nextId ∧ r.unit = u ∧ r.kind = 1 ∧ r.life = 0) ∧ Pending 81 d ∧
        (p = .failed → d.cask.unc = true ∧ Pending 83 d))) ∧
  (∀ (s : State) (t u : Nat), u < 4 → (unit s.dev u).st = 5 →
    (unit s.dev u).holdT + prm s.dev 0xA007 u * 400000 ≤ t → s.dev.cask.up = true → inGroup s.dev u = false →
    prm (landCfg u s.dev) 0xA000 u ≠ 0 →
    Runs (.loupeRearmHold t u) t s [.loupe, .prm] (fun d =>
      (unit d u).st = 1 ∧ (unit d u).ring = [] ∧ OtherUnits u s.dev d)) ∧
  (∀ (s : State) (t k u : Nat) (up : Bool), k < 4 → u < 4 →
    unitNames s.dev u ((if up then 0x100 else 0x110) + k) = true → (unit s.dev u).st = 2 →
    prm s.dev 0xA003 u ≤ rowsBefore (unit s.dev u).ring (t - 4) →
    Runs (.trigInEdge t k up) t s [.loupe, .taps, .lanes, .chain] (fun d =>
      (unit d u).st = 3 ∧ (unit d u).trigT = some (t - 4))) ∧
  (∀ (s : State) (t : Nat) (errs : List EccError), t < s.dev.cask.scrubT + 34560000000000 →
    Runs (.casketScrub t errs) t s [] (fun _ => True)) ∧
  (∀ (s : State) (t : Nat) (errs : List EccError), s.dev.cask.up = true → (∀ e ∈ errs, e.double = false) →
    s.dev.cask.scrubT + 34560000000000 ≤ t →
    Runs (.casketScrub t errs) t s [.cask] (fun d =>
      d.cask = { s.dev.cask with
        scrubT := t, ceCnt := errs.foldl (fun n _ => incSat 255 n) s.dev.cask.ceCnt })) ∧
  (∀ (s : State) (t a : Nat), s.dev.cask.up = true → s.dev.sys.up = true → 0x40000000 ≤ a →
    s.dev.cask.scrubT + 34560000000000 ≤ t →
    Runs (.casketScrub t [⟨a, true⟩]) t s (.cask :: evParts) (fun d =>
      d.cask.unc = true ∧ Pending 83 d ∧ d.cask.recs.length = s.dev.cask.recs.length ∧
        ∀ r ∈ s.dev.cask.recs, recLive r = true → r.addr ≤ a → a < r.addr + r.len →
          { r with flags := r.flags ||| 8, header := r.header.set 11 (BitVec.ofNat 8 (r.flags ||| 8)) } ∈
            d.cask.recs)) ∧
  (∀ (s : State) (t : Nat), s.dev.cask.up = true →
    Runs (.eventArchiveCopy t) t s [.ev, .cask] (fun d =>
      d.ev = { s.dev.ev with copied := s.dev.ev.seq } ∧
        d.cask.archive =
          (s.dev.ev.log.filter (fun e => s.dev.ev.copied < e.seq) ++ s.dev.cask.archive).take 16777216)) ∧
  (∀ (s : State) (t id : Nat) (r : Rec), s.dev.cask.recs.find? (fun x => x.id = id) = some r → r.tier = 1 →
    recLive r = true → r.at_ + prm s.dev 0x8032 0 * 1440000000000 ≤ t →
    Runs (.tierAgeExpiry t id) t s [.cask] (fun d =>
      (∃ x ∈ d.cask.recs, x.id = id) ∧ ∀ x ∈ d.cask.recs, x.id = id → x.tier = 0 ∧ x.life = 2))

/-! ### Energy metering -/

/-- Carat (R307, R315 to R317): a register that exists is selected, another one is not; the window shows the register
selected, a read of its low half latches the high half and, in the interval form, sets the base; a complete save, when
carat.save.t has passed or on demand, keeps whole units in the journal and clears the residual, which every 20 ms takes what
has come since; a phase calibration starts under the conditions of R54, and after cal.avg cycles journals its correction,
or is refused and changes nothing else. The model's readings in it: log entries 88, 89, 90. -/
def Obligations.Metering : Prop :=
  (∀ (s : State) (t v : Nat), s.dev.sys.up = true → bits v 5 0 ≤ 32 →
    bits v 11 8 ≤ (if bits v 5 0 = 0 then 13 else 3) →
    Runs (.caratSelWrite t v) t s [.carat] (fun d =>
      d.carat = { s.dev.carat with
        selM := bits v 5 0, selR := bits v 11 8, selForm := bit v 12, lval := false, hi := 0 })) ∧
  (∀ (s : State) (t v : Nat), s.dev.sys.up = true →
    32 < bits v 5 0 ∨ (if bits v 5 0 = 0 then 13 else 3) < bits v 11 8 →
    Runs (.caratSelWrite t v) t s [.carat] (fun d => d.carat = { s.dev.carat with selErr := true })) ∧
  (∀ (s : State) (t : Nat), s.dev.carat.selForm = false →
    Runs (.caratLoRead t) t s [.carat, .mbx] (fun d =>
      d.mbx.hostRd = le 4 (lifetime s.dev (16 * s.dev.carat.selM + s.dev.carat.selR)) ∧
        d.carat = { s.dev.carat with
          lval := true, hi := lifetime s.dev (16 * s.dev.carat.selM + s.dev.carat.selR) / 2 ^ 32 })) ∧
  (∀ (s : State) (t : Nat), s.dev.carat.selForm = true →
    Runs (.caratLoRead t) t s [.carat, .clasp, .lkt, .mbx] (fun d =>
      d.mbx.hostRd = le 4 (interval s.dev (16 * s.dev.carat.selM + s.dev.carat.selR)) ∧
        tget 0 d.carat.bases (16 * s.dev.carat.selM + s.dev.carat.selR) =
          (lifetime s.dev (16 * s.dev.carat.selM + s.dev.carat.selR) : Int) ∧
        d.carat.lval = true ∧ d.carat.hi = interval s.dev (16 * s.dev.carat.selM + s.dev.carat.selR) / 2 ^ 32 ∧
        d.clasp.bases = d.carat.bases ∧ interval d (16 * s.dev.carat.selM + s.dev.carat.selR) = 0)) ∧
  (∀ (s : State) (t : Nat), caratRuns s.dev = true →
    s.dev.carat.saved.tMs + 1000 * prm s.dev 0x900A 0 ≤ t / 400000 →
    Runs (.caratPeriodicSave t) t s [.carat, .lkt, .clasp] (fun d =>
      d.carat.saved = ⟨s.dev.carat.regs.map (fun e => (e.1, wholeUnits e.2)), s.dev.carat.bases, t / 400000⟩ ∧
        d.lkt.journal.getLast? = some (.carat d.carat.saved) ∧ d.clasp.residual = none)) ∧
  (∀ (s : State) (t cls : Nat), WriteServed s.dev cls 1 →
    Runs (.caratSaveGo t cls) t s [.carat, .lkt, .clasp, .mbx] (fun d =>
      Answered 0 0 d ∧
        d.carat.saved = ⟨s.dev.carat.regs.map (fun e => (e.1, wholeUnits e.2)), s.dev.carat.bases, t / 400000⟩ ∧
        d.lkt.journal.getLast? = some (.carat d.carat.saved) ∧ d.clasp.residual = none)) ∧
  (∀ (s : State) (t : Nat), t < s.dev.carat.resT + 8000000 →
    Runs (.caratResidualWrite t) t s [] (fun _ => True)) ∧
  (∀ (s : State) (t : Nat), caratRuns s.dev = true → tabWf 0 s.dev.carat.regs → s.dev.carat.resT + 8000000 ≤ t →
    Runs (.caratResidualWrite t) t s [.carat, .clasp] (fun d =>
      d.carat = { s.dev.carat with resT := t } ∧ ∃ r, d.clasp.residual = some r ∧ r.bases = s.dev.carat.bases ∧
        ∀ e ∈ s.dev.carat.regs,
          tget 0 r.regs e.1 = (e.2 - tget 0 s.dev.carat.saved.regs e.1) % (2 : Int) ^ 96)) ∧
  (∀ (s : State) (t cls v : Nat), WriteServed s.dev cls 2 → bits v 1 0 < 3 → s.dev.carat.phCal = none →
    prm s.dev 0x9002 (bits v 1 0) ≠ 0xFF → calAdmitted s.dev (prm s.dev 0x9001 (bits v 1 0)) = true →
    calAdmitted s.dev (prm s.dev 0x9002 (bits v 1 0)) = true →
    Runs (.caratPhCalGo t cls v) t s [.carat, .mbx] (fun d =>
      Answered 0 0 d ∧ d.carat.phCal = some { x := bits v 1 0, phiA := toInt 16 (bits v 31 16) })) ∧
  (∀ (s : State) (t : Nat) (phiM : Int) (c : PhCal), s.dev.carat.phCal = some c → c.bad = false →
    prm s.dev 0x110A (4 * prm s.dev 0x9002 c.x + prm s.dev 0x1101 (prm s.dev 0x9002 c.x)) ≤ c.cycles →
    (prm s.dev 0x9006 0 : Rat) / 10 ≤ (carPt s.dev 0).irms.getD c.x 0 → absI (c.phiA - phiM) ≤ 2000 →
    s.dev.sys.up = true →
    Runs (.caratPhCalDone t phiM) t s ([.carat, .lkt] ++ evParts) (fun d =>
      d.carat.phCal = none ∧ tget none d.carat.phPend c.x = some (ofInt 32 (c.phiA - phiM)) ∧
        d.lkt.journal = s.dev.lkt.journal ++ [.always (pkey 0x9008 c.x) (ofInt 32 (c.phiA - phiM))] ∧
        Pending 18 d)) ∧
  (∀ (s : State) (t : Nat) (phiM : Int) (c : PhCal), s.dev.carat.phCal = some c →
    c.bad = true ∨
      (prm s.dev 0x110A (4 * prm s.dev 0x9002 c.x + prm s.dev 0x1101 (prm s.dev 0x9002 c.x)) ≤ c.cycles ∧
        2000 < absI (c.phiA - phiM)) →
    Runs (.caratPhCalDone t phiM) t s [.carat] (fun d => d.carat = { s.dev.carat with phCal := none })) ∧
  (∀ (s : State) (t : Nat) (phiM : Int) (c : PhCal), s.dev.carat.phCal = some c → c.bad = false →
    c.cycles < prm s.dev 0x110A (4 * prm s.dev 0x9002 c.x + prm s.dev 0x1101 (prm s.dev 0x9002 c.x)) →
    Runs (.caratPhCalDone t phiM) t s [] (fun _ => True))

/-! ### CAN and partners -/

/-- Frames and datagrams of partners (R403 to R411, R414 to R418): a frame that a high-priority element describes goes to its
buffer where that is free, and one that the list accepts joins the queue where it has room; the engine serves the buffers
first, gives the next queued frame to the entry that claims it and writes its points, and discards and counts one that no
entry claims; a datagram from the end point of an entry does the same, and one from elsewhere is counted. Silence for
ptn.stale makes an entry lost, with its event, and its points stale; at its period an entry's values go out, and a page that has changed
no sooner than its minimum interval. The model's readings in it: log entries 121, 122, 123, 124. -/
def Obligations.PartnerTraffic : Prop :=
  (∀ (s : State) (t p : Nat) (fr : CanFrame) (h : Nat), p < 12 → busesRun s.dev = true → locked s.dev 0 = true →
    (canPort s.dev p).st < 2 → prm s.dev 0xB000 p = 1 ∨ prm s.dev 0xB000 p = 2 →
    fr.fdf = false ∨ prm s.dev 0xB001 p ≠ 0 → fr.rtr = false →
    (List.range 8).find? (fun k => describes (prm s.dev 0xB021 (8 * p + k)) fr) = some h →
    tget none (canPort s.dev p).hp h = none →
    Runs (.canFrameRx t p fr) t s (.can :: evParts) (fun d =>
      tget none (canPort d p).hp h = some ⟨0x200 + h, frameWord fr, fr.esi, t, fr.data⟩ ∧
        (canPort d p).nRx = incSat 4294967295 (canPort s.dev p).nRx ∧ OtherPorts p s.dev d ∧ Pending 89 d)) ∧
  (∀ (s : State) (t p : Nat) (fr : CanFrame) (k : Nat), p < 12 → busesRun s.dev = true → locked s.dev 0 = true →
    (canPort s.dev p).st < 2 → prm s.dev 0xB000 p = 1 ∨ prm s.dev 0xB000 p = 2 →
    fr.fdf = false ∨ prm s.dev 0xB001 p ≠ 0 → fr.rtr = false →
    (∀ h, h < 8 → describes (prm s.dev 0xB021 (8 * p + h)) fr = false) → decider s.dev p fr = some k →
    bit (prm s.dev 0xB020 (512 * p + k)) 30 = true → (canPort s.dev p).rx.length < 128 - prm s.dev 0xB00B p →
    Runs (.canFrameRx t p fr) t s [.can] (fun d =>
      canPort d p = { canPort s.dev p with
        nRx := incSat 4294967295 (canPort s.dev p).nRx,
        rx := (canPort s.dev p).rx ++ [⟨k, frameWord fr, fr.esi, t, fr.data⟩] } ∧ OtherPorts p s.dev d)) ∧
  (∀ (s : State) (t p : Nat) (r : CanRx) (rs : List CanRx), p < 12 → busesRun s.dev = true →
    (∀ q, q < 12 → ∀ h, h < 8 → tget none (canPort s.dev q).hp h = none) → (canPort s.dev p).rx = r :: rs →
    (∀ e, e < 4096 → claims s.dev p r e = false) →
    Runs (.partnerFrameProcess t p) t s [.can] (fun d =>
      canPort d p = { canPort s.dev p with
        rx := rs, unbound := incSat 4294967295 (canPort s.dev p).unbound } ∧ OtherPorts p s.dev d)) ∧
  (∀ (s : State) (t p h : Nat) (r : CanRx), p < 12 → busesRun s.dev = true → h < 8 →
    (∀ k, k < h → tget none (canPort s.dev p).hp k = none) → tget none (canPort s.dev p).hp h = some r →
    (∀ e, e < 4096 → claims s.dev p r e = false) →
    Runs (.partnerFrameProcess t p) t s [.can] (fun d =>
      canPort d p = { canPort s.dev p with
        hp := tput none h none (canPort s.dev p).hp, unbound := incSat 4294967295 (canPort s.dev p).unbound } ∧
        OtherPorts p s.dev d)) ∧
  (∀ (s : State) (t p e : Nat) (r : CanRx) (rs : List CanRx), p < 12 → busesRun s.dev = true →
    (∀ q, q < 12 → ∀ h, h < 8 → tget none (canPort s.dev q).hp h = none) → (canPort s.dev p).rx = r :: rs →
    (List.range 4096).find? (claims s.dev p r) = some e → prm s.dev 0xB105 e = 0 → 0 < prm s.dev 0xB103 e →
    0 < prm s.dev 0xB108 e → typeSize (prm s.dev 0xB104 e) ≤ r.data.length →
    Runs (.partnerFrameProcess t p) t s [.can, .pts, .setr] (fun d =>
      canPort d p = { canPort s.dev p with rx := rs } ∧ OtherPorts p s.dev d ∧
        (ptnEnt d e).lastRx = t ∧ (ptnEnt d e).seen = true ∧ (ptnEnt d e).lost = false ∧
        (point d (prm s.dev 0xB102 e)).value = ofLe (r.data.take (typeSize (prm s.dev 0xB104 e))) ∧
        (point d (prm s.dev 0xB102 e)).tNs = r.stamp * 5 / 2)) ∧
  (∀ (s : State) (t i : Nat) (src : Endpoint) (b : List Byte), i < 2 → busesRun s.dev = true →
    (ethPort s.dev i).link = true →
    (∀ e, e < 4096 → ¬ (prm s.dev 0xB100 e = 2 ∧ prm s.dev 0xB101 e = i ∧ prm s.dev 0xB130 e = src.ip ∧
      prm s.dev 0xB131 e = src.port)) →
    Runs (.partnerDatagramRx t i src b) t s [.can] (fun d =>
      canPort d i = { canPort s.dev i with unbound := incSat 4294967295 (canPort s.dev i).unbound } ∧
        OtherPorts i s.dev d)) ∧
  (∀ (s : State) (t i e : Nat) (src : Endpoint) (b : List Byte), i < 2 → busesRun s.dev = true →
    (ethPort s.dev i).link = true →
    (List.range 4096).find? (fun e => prm s.dev 0xB100 e = 2 && prm s.dev 0xB101 e = i &&
      prm s.dev 0xB130 e = src.ip && prm s.dev 0xB131 e = src.port) = some e →
    field b 1 0 = 0x5A50 → field b 2 2 = 1 → field b 3 3 = 1 → field b 5 4 = 0 → 0 < field b 7 6 →
    field b 8 8 = prm s.dev 0xB104 e → field b 11 9 = 0 → 0 < prm s.dev 0xB103 e →
    field b 7 6 * typeSize (prm s.dev 0xB104 e) ≤ 1456 →
    b.length = 16 + field b 7 6 * typeSize (prm s.dev 0xB104 e) →
    Runs (.partnerDatagramRx t i src b) t s [.can, .pts, .setr] (fun d =>
      (ptnEnt d e).lastRx = t ∧ (ptnEnt d e).seen = true ∧ (ptnEnt d e).lost = false ∧
        (point d (prm s.dev 0xB102 e)).value = ofLe ((b.drop 16).take (typeSize (prm s.dev 0xB104 e))))) ∧
  (∀ (s : State) (t e : Nat), e < 4096 → prm s.dev 0xB100 e ≠ 0 → busesRun s.dev = true → (ptnEnt s.dev e).lost = false →
    max s.dev.can.startT (ptnEnt s.dev e).lastRx + prm s.dev 0xB107 e * 400000 ≤ t →
    Runs (.partnerStale t e) t s ([.can, .pts] ++ evParts) (fun d =>
      ptnEnt d e = { ptnEnt s.dev e with lost := true } ∧ Pending 92 d ∧
        ∀ k, k < prm s.dev 0xB103 e →
          (point s.dev (prm s.dev 0xB102 e + k)).tNs + prm s.dev 0xB107 e * 1000000 ≤ t * 5 / 2 →
          point d (prm s.dev 0xB102 e + k) =
            { point s.dev (prm s.dev 0xB102 e + k) with stale := true })) ∧
  (∀ (s : State) (t e : Nat), sends s.dev e = true → prm s.dev 0xB114 e ≠ 0 → t % 400000 = 0 →
    (t / 400000 + prm s.dev 0xB114 e * 60000 - prm s.dev 0xB115 e) % prm s.dev 0xB114 e = 0 →
    0 < pagesOf s.dev e (prm s.dev 0xB111 e) →
    Runs (.partnerTxPeriod t e) t s (.can :: evParts) (fun d =>
      tget [] (ptnEnt d e).sentVals 0 = pageFields s.dev e 0)) ∧
  (∀ (s : State) (t e : Nat), sends s.dev e = true → prm s.dev 0xB114 e ≠ 0 → t % 400000 = 0 →
    (t / 400000 + prm s.dev 0xB114 e * 60000 - prm s.dev 0xB115 e) % prm s.dev 0xB114 e = 0 →
    pagesOf s.dev e (prm s.dev 0xB111 e) = 1 → prm s.dev 0xB100 e = 2 →
    Runs (.partnerTxPeriod t e) t s [.can, .sent] (fun d =>
      d.mbx.sent = ⟨⟨prm s.dev 0xB130 e, prm s.dev 0xB131 e⟩,
        ptnHeader 1 0 ((pageFields s.dev e 0).length / typeSize (prm s.dev 0xB112 e)) (prm s.dev 0xB112 e)
          (ptnEnt s.dev e).txSeq ++ pageFields s.dev e 0⟩ :: s.dev.mbx.sent)) ∧
  (∀ (s : State) (t e g : Nat), sends s.dev e = true → prm s.dev 0xB116 e = 1 →
    g < pagesOf s.dev e (prm s.dev 0xB111 e) → t % 400000 = 0 →
    pageFields s.dev e g ≠ tget [] (ptnEnt s.dev e).sentVals g →
    tget 0 (ptnEnt s.dev e).changeT g = 0 ∨
      tget 0 (ptnEnt s.dev e).changeT g + prm s.dev 0xB117 e * 400000 ≤ t →
    Runs (.partnerTxOnchange t e g) t s (.can :: evParts) (fun d =>
      tget [] (ptnEnt d e).sentVals g = pageFields s.dev e g ∧ tget 0 (ptnEnt d e).changeT g = t))

/-- The CAN ports (R397, R408 to R413): a sent frame leaves its entry and counts, and in loopback it is received as well; a
failed one sets TXFAIL of its entry; a cancel that was asked for takes the frame away. The error counters move the port
between error active, error passive and bus-off, with their events; a port that only listens keeps its counters. Recovery
starts by itself after its wait or by a write, which is refused outside bus-off, and after 1,408 bits ends in error active
with both counters at 0. The model's readings in it: log entries 124, 125. -/
def Obligations.CanPorts : Prop :=
  (∀ (s : State) (t p : Nat) (f : CanTx), p < 12 → (canPort s.dev p).st < 2 → locked s.dev 0 = true →
    nextTx (canPort s.dev p).tx = some f → prm s.dev 0xB000 p ≠ 3 → listenOnly s.dev p = false →
    Runs (.canTxDone t p .sent) t s [.can] (fun d =>
      (canPort d p).nTx = incSat 4294967295 (canPort s.dev p).nTx ∧
        (∃ xs, (canPort d p).tx = (canPort s.dev p).tx.erase f ++ xs ∧
          xs ++ (canPort d p).wait = (canPort s.dev p).wait) ∧ OtherPorts p s.dev d)) ∧
  (∀ (s : State) (t p e g : Nat) (f : CanTx), p < 12 → (canPort s.dev p).st < 2 → locked s.dev 0 = true →
    nextTx (canPort s.dev p).tx = some f → f.ent = some (e, g) → listenOnly s.dev p = false →
    Runs (.canTxDone t p .failed) t s [.can] (fun d =>
      (canPort d p).nTx = (canPort s.dev p).nTx ∧ ptnEnt d e = { ptnEnt s.dev e with txFail := true } ∧
        OtherPorts p s.dev d)) ∧
  (∀ (s : State) (t p : Nat) (f : CanTx), p < 12 → (canPort s.dev p).st < 2 → locked s.dev 0 = true →
    nextTx (canPort s.dev p).tx = some f → prm s.dev 0xB000 p = 3 →
    Runs (.canTxDone t p .sent) t s (.can :: evParts) (fun d =>
      (canPort d p).nTx = incSat 4294967295 (canPort s.dev p).nTx ∧
        (canPort d p).nRx = incSat 4294967295 (canPort s.dev p).nRx ∧ OtherPorts p s.dev d)) ∧
  (∀ (s : State) (t p : Nat) (f : CanTx), p < 12 → (canPort s.dev p).st < 2 → locked s.dev 0 = true →
    nextTx (canPort s.dev p).tx = some f → listenOnly s.dev p = false → f.cancel = true →
    Runs (.canTxDone t p .cancelled) t s [.can] (fun d =>
      (canPort d p).nTx = (canPort s.dev p).nTx ∧
        (∃ xs, (canPort d p).tx = (canPort s.dev p).tx.erase f ++ xs ∧
          xs ++ (canPort d p).wait = (canPort s.dev p).wait) ∧ OtherPorts p s.dev d)) ∧
  (∀ (s : State) (t p tec rec lec : Nat), p < 12 → (canPort s.dev p).st < 2 → busesRun s.dev = true →
    locked s.dev 0 = true → listenOnly s.dev p = true →
    Runs (.canBusError t p tec rec lec) t s [.can] (fun d =>
      canPort d p = { canPort s.dev p with lec := lec % 8 } ∧ OtherPorts p s.dev d)) ∧
  (∀ (s : State) (t p tec rec lec : Nat), p < 12 → (canPort s.dev p).st < 2 → busesRun s.dev = true →
    locked s.dev 0 = true → listenOnly s.dev p = false → prm s.dev 0xB000 p ≠ 3 → tec ≤ 127 → rec ≤ 127 →
    Runs (.canBusError t p tec rec lec) t s [.can] (fun d =>
      canPort d p = { canPort s.dev p with tec := tec, rec_ := rec, lec := lec % 8, st := 0 } ∧
        OtherPorts p s.dev d)) ∧
  (∀ (s : State) (t p tec rec lec : Nat), p < 12 → (canPort s.dev p).st = 0 → busesRun s.dev = true →
    locked s.dev 0 = true → listenOnly s.dev p = false → prm s.dev 0xB000 p ≠ 3 → tec ≤ 255 →
    127 < tec ∨ 127 < rec →
    Runs (.canBusError t p tec rec lec) t s (.can :: evParts) (fun d =>
      (canPort d p).st = 1 ∧ (canPort d p).tec = tec ∧ (canPort d p).rec_ = min 255 rec ∧
        OtherPorts p s.dev d ∧ Pending 90 d)) ∧
  (∀ (s : State) (t p tec rec lec : Nat), p < 12 → (canPort s.dev p).st < 2 → busesRun s.dev = true →
    locked s.dev 0 = true → listenOnly s.dev p = false → prm s.dev 0xB000 p ≠ 3 → 255 < tec →
    Runs (.canBusError t p tec rec lec) t s (.can :: evParts) (fun d =>
      (canPort d p).st = 2 ∧ (canPort d p).recov = false ∧ (canPort d p).boffT = t ∧
        OtherPorts p s.dev d ∧ Pending 88 d)) ∧
  (∀ (s : State) (t p : Nat), p < 12 → (canPort s.dev p).st = 2 → (canPort s.dev p).recov = false →
    prm s.dev 0xB00E p = 1 → (canPort s.dev p).boffT + prm s.dev 0xB00F p * 400000 ≤ t →
    Runs (.canBoffWaitExpiry t p) t s [.can] (fun d =>
      canPort d p = { canPort s.dev p with recov := true, recT := t } ∧ OtherPorts p s.dev d)) ∧
  (∀ (s : State) (t cls p : Nat), WriteServed s.dev cls 1 → p < 12 → (canPort s.dev p).st = 2 →
    (canPort s.dev p).recov = false →
    Runs (.canRecover t cls p) t s [.can, .mbx] (fun d =>
      Answered 0 0 d ∧ canPort d p = { canPort s.dev p with recov := true, recT := t } ∧ OtherPorts p s.dev d)) ∧
  (∀ (s : State) (t cls p : Nat), WriteServed s.dev cls 1 → p < 12 → (canPort s.dev p).st ≠ 2 →
    Runs (.canRecover t cls p) t s [.mbx, .free] (fun d => d.mbx.lastStatus = 1)) ∧
  (∀ (s : State) (t p : Nat), p < 12 → (canPort s.dev p).st = 2 → (canPort s.dev p).recov = true →
    (canPort s.dev p).recT + 1408 * canBit s.dev p ≤ t →
    Runs (.canRecoveryDone t p) t s [.can] (fun d =>
      canPort d p = { canPort s.dev p with st := 0, tec := 0, rec_ := 0, recov := false } ∧
        OtherPorts p s.dev d))

/-! ### Lanes, Ethernet, and Chain -/

/-- The lanes (R428, R430, R431, R433, R434, R436): the pattern of a PRBS lane, the lock of its checker and its errors; the
link of an Ethernet port, its damaged frames, its ARP answers and the ageing of its table; the good and bad frames of a Chain
link; and the triggers, Setter records and time probes it brings.
The model's readings in it: log entries 126, 127, 128. -/
def Obligations.LanesAndLinks : Prop :=
  (∀ (s : State) (t cls k v : Nat), WriteServed s.dev cls 2 → k < 8 → v ≤ 3 → laneMode s.dev k = 2 →
    Runs (.lanePrbsPat t cls k v) t s [.lanes, .prm, .mbx] (fun d =>
      Answered 0 0 d ∧ prm d 0xC005 k = v ∧
        lane d k = { lane s.dev k with prbsLock := false, prbsErr := 0, prbsSeen := false })) ∧
  (∀ (s : State) (t k : Nat) (ok : Bool), k < 8 → laneMode s.dev k = 2 → lanePll s.dev k = true →
    Runs (.prbsCheckerLock t k ok) t s [.lanes] (fun d =>
      lane d k = { lane s.dev k with prbsLock := ok, prbsSeen := false })) ∧
  (∀ (s : State) (t k : Nat), k < 8 → laneMode s.dev k = 2 → (lane s.dev k).prbsLock = true → s.dev.sys.up = true →
    (lane s.dev k).prbsSeen = false → (lane s.dev k).prbsEp ≠ t / 400000 + 1 →
    Runs (.prbsBitError t k) t s evParts (fun d =>
      (lane d k).prbsErr = incSat 4294967295 (lane s.dev k).prbsErr ∧ (lane d k).prbsSeen = true ∧ Pending 97 d)) ∧
  (∀ (s : State) (t i v : Nat) (full : Bool), ethOn s.dev i = true → full = true ∨ ethMode s.dev i ≠ 3 →
    (ethPort s.dev i).link = false → prm s.dev 0xC040 0 ≠ 0 → prm s.dev 0xC046 i ≠ 0 →
    Runs (.ethLinkUp t i v full) t s ([.lanes, .eth, .time, .charm] ++ evParts) (fun d =>
      (ethPort d i).link = true ∧ (ethPort d i).speed = (if ethMode s.dev i = 3 then speedCode v else 3) ∧
        (lane d i).link = true ∧ (ptpPort d i).st = 4)) ∧
  (∀ (s : State) (t i : Nat), i < 2 → (ethPort s.dev i).link = true → s.dev.sys.up = true →
    prm s.dev 0xC040 0 ≠ 0 → prm s.dev 0xC046 i ≠ 0 →
    Runs (.ethLinkDown t i) t s ([.lanes, .eth, .time, .charm] ++ evParts) (fun d =>
      (ethPort d i).link = false ∧ (ethPort d i).speed = 0 ∧ (lane d i).link = false ∧ (ptpPort d i).st = 2 ∧
        Pending 96 d)) ∧
  (∀ (s : State) (t i : Nat) (fr : EthFrame), i < 2 → (ethPort s.dev i).link = true → fr.fcsOk = false →
    Runs (.ethFrameRx t i fr) t s [.eth] (fun d =>
      ethPort d i = { ethPort s.dev i with fcsErr := incSat 255 (ethPort s.dev i).fcsErr })) ∧
  (∀ (s : State) (t i n ip mac : Nat), i < 2 → (ethPort s.dev i).link = true → prm s.dev 0xC024 i = 0 → n ≤ 1522 →
    Runs (.ethFrameRx t i ⟨true, n, none, .arpRequest ip mac (prm s.dev 0xC021 i)⟩) t s [.eth] (fun d =>
      ethPort d i = { ethPort s.dev i with
        arp := (⟨ip, mac, t⟩ :: (ethPort s.dev i).arp.filter (fun e => e.ip ≠ ip)).take 64,
        sent := ⟨true, 64, none, .arpReply (prm s.dev 0xC021 i) (Config.mac i)⟩ :: (ethPort s.dev i).sent })) ∧
  (∀ (s : State) (t i ip : Nat), i < 2 →
    Runs (.arpEntryExpiry t i ip) t s [.eth] (fun d =>
      ethPort d i = { ethPort s.dev i with
        arp := (ethPort s.dev i).arp.filter (fun e => ¬ (e.ip = ip ∧ e.at_ + 24000000000 ≤ t)) })) ∧
  (∀ (s : State) (t k : Nat) (b : List Byte), 2 ≤ k → k < 8 → laneMode s.dev k = 1 → lanePll s.dev k = true →
    busesRun s.dev = true → frameGood b = true → bits (field b 3 2) 11 0 ≠ prm s.dev 0xC030 0 → k ≠ pndLane s.dev →
    Runs (.chainFrameRx t k b) t s [.lanes] (fun d =>
      (lane d k).good = incSat 4294967295 (lane s.dev k).good ∧ (lane d k).goodRun = (lane s.dev k).goodRun + 1 ∧
        (lane d k).badRun = 0 ∧ ((lane d k).link = true ↔ (lane s.dev k).link = true ∨ 15 ≤ (lane s.dev k).goodRun))) ∧
  (∀ (s : State) (t k : Nat) (b : List Byte), 2 ≤ k → k < 8 → laneMode s.dev k = 1 → lanePll s.dev k = true →
    busesRun s.dev = true → frameGood b = false → (lane s.dev k).badRun = 3 → (lane s.dev k).link = true →
    Runs (.chainFrameRx t k b) t s evParts (fun d =>
      (lane d k).bad = incSat 4294967295 (lane s.dev k).bad ∧ (lane d k).goodRun = 0 ∧ (lane d k).link = false ∧
        Pending 101 d)) ∧
  (∀ (s : State) (t k u : Nat) (b : List Byte), chainUp s.dev k = true → bit (field b 0 0) 7 = true →
    bit (field b 0 0) 3 = false → bits (field b 3 2) 11 0 ≠ prm s.dev 0xC030 0 → s.dev.chain.seen = [] →
    s.dev.cask.up = true → (∀ v, v < 4 → (unit s.dev v).cfgWait = []) → u < 4 →
    prm s.dev 0xA005 u = bits (field b 0 0) 2 0 → (unit s.dev u).st = 0 → prm s.dev 0xA000 u ≠ 0 →
    Runs (.chainTriggerRx t k b) t s [.loupe, .lanes, .chain] (fun d =>
      (unit d u).st = 1 ∧ (unit d u).groupSeq = field b 7 4)) ∧
  (∀ (s : State) (t k u : Nat) (b : List Byte), chainUp s.dev k = true → bit (field b 0 0) 7 = true →
    bit (field b 0 0) 3 = true → bits (field b 3 2) 11 0 ≠ prm s.dev 0xC030 0 → s.dev.chain.seen = [] → u < 4 →
    prm s.dev 0xA005 u = bits (field b 0 0) 2 0 → (unit s.dev u).st = 2 → (unit s.dev u).fired = false →
    prm s.dev 0xA003 u ≤
      rowsBefore (unit s.dev u).ring (trigInstant (devAt s t) (field b 11 8) (field b 15 12)) →
    Runs (.chainTriggerRx t k b) t s [.loupe, .taps, .lanes, .chain] (fun d =>
      (unit d u).st = 3 ∧
        (unit d u).trigT = some (trigInstant (devAt s t) (field b 11 8) (field b 15 12)))) ∧
  (∀ (s : State) (t : Nat) (b : List Byte), mirrors s.dev = true → b.length = 48 →
    Runs (.setterMirrorRx t b) t s [.setr, .prm] (fun d =>
      d.setr.last = parseSetRec b ∧ d.setr.seq = (parseSetRec b).seq ∧
        d.setr.intent = (if (parseSetRec b).typ = 1 then some (parseSetRec b) else none) ∧
        ((parseSetRec b).typ = 3 ∨ (parseSetRec b).typ = 4 →
          d.setr.legs = (parseSetRec b).legs ∧ d.setr.pHi = (parseSetRec b).pHi ∧
            d.setr.pLo = (parseSetRec b).pLo))) ∧
  (∀ (s : State) (t : Nat) (b : List Byte), s.dev.time.valid = true → s.dev.sys.up = true →
    t * 5 / 2 + 1000000 < field b 7 0 * 256000000 ∨ (field b 7 0 + 1) * 256000000 + 1000000 ≤ t * 5 / 2 →
    Runs (.probeEpochRx t b) t s (.time :: evParts) (fun d =>
      d.time = { s.dev.time with epochMis := true } ∧ Pending 98 d))

/-! ### Network time -/

/-- The 1588 ports (R439, R442 to R444, R448, R449): a large offset in READY asks for a step, and any other one sets an INC
within its limits, which is frozen in holdover; enough small offsets lock the port. The first Announce of a sender is
remembered; a port without a qualified master becomes one, or listens where the device is slave-only; a measured delay is kept. A
message that the port's state lets the engine send goes out under its sequence number, an event message with a time-stamp
entry or, where all are taken, without one; a Follow_Up frees the entry of its Sync. The entry takes the time at which the
message leaves, and one that is not read for 100 ms is lost, with its event. The new INC itself is a free value.
The model's readings in it: log entries 129, 130, 131, 133, 148. -/
def Obligations.PtpPorts : Prop :=
  (∀ (s : State) (t i : Nat) (off : Int), ptpOn s.dev i = true →
    (ptpPort s.dev i).st = 8 ∨ (ptpPort s.dev i).st = 9 → s.dev.mbx.paused = false →
    prm s.dev 0xC050 0 < (absI off).toNat → s.dev.sys.st = .ready →
    Runs (.ptpSyncRx t i off) t s [.time] (fun d =>
      d.time = { s.dev.time with
        offset := clampI (-2147483648) 2147483647 off, stepPend := some off })) ∧
  (∀ (s : State) (t i : Nat) (off : Int), ptpOn s.dev i = true →
    (ptpPort s.dev i).st = 8 ∨ (ptpPort s.dev i).st = 9 → s.dev.mbx.paused = false →
    (absI off).toNat ≤ prm s.dev 0xC050 0 ∨ s.dev.sys.st ≠ .ready → s.dev.time.holdover = true →
    Runs (.ptpSyncRx t i off) t s ([.time, .charm, .gs] ++ evParts) (fun d =>
      d.time.inc = s.dev.time.inc ∧ d.time.incHist = s.dev.time.incHist)) ∧
  (∀ (s : State) (t i : Nat) (off : Int), ptpOn s.dev i = true →
    (ptpPort s.dev i).st = 8 ∨ (ptpPort s.dev i).st = 9 → s.dev.mbx.paused = false →
    (absI off).toNat ≤ prm s.dev 0xC050 0 ∨ s.dev.sys.st ≠ .ready → s.dev.time.holdover = false →
    Runs (.ptpSyncRx t i off) t s ([.time, .charm, .gs] ++ evParts) (fun d =>
      d.time.offset = clampI (-2147483648) 2147483647 off ∧ 10726680822 ≤ d.time.inc ∧ d.time.inc ≤ 10748155658 ∧
        (s.dev.time.lock = false → s.dev.time.runPort = i → (absI off).toNat ≤ prm s.dev 0xC052 0 →
          prm s.dev 0xC053 0 ≤ s.dev.time.inRun + 1 →
          d.time.lock = true ∧ d.time.valid = true ∧ (ptpPort d i).st = 9))) ∧
  (∀ (s : State) (t i : Nat) (a : Announce), ptpOn s.dev i = true → a.domain = prm s.dev 0xC042 0 →
    (∀ f ∈ (ptpPort s.dev i).foreign, f.ann.sender ≠ a.sender) →
    Runs (.ptpAnnounceRx t i a) t s ([.time, .charm] ++ evParts) (fun d =>
      (ptpPort d i).foreign = ⟨a, 1, t⟩ :: (ptpPort s.dev i).foreign)) ∧
  (∀ (s : State) (t i : Nat), ptpOn s.dev i = true → portBest (devAt s t) i = none →
    Runs (.ptpAnnounceTimeout t i) t s ([.time, .charm] ++ evParts) (fun d =>
      (ptpPort d i).foreign = [] ∧ (ptpPort d i).st = (if prm s.dev 0xC045 0 = 1 then 4 else 6))) ∧
  (∀ (s : State) (t i delay : Nat), ptpOn s.dev i = true →
    Runs (.ptpDelayRx t i delay) t s [.time] (fun d => d.time.delay = min 0xFFFFFFFF delay)) ∧
  (∀ (s : State) (t i ty : Nat), ptpOn s.dev i = true → s.dev.mbx.paused = false → ty = 9 ∨ ty = 11 →
    maySend s.dev i ty = true →
    Runs (.ptpMsgSend t i ty) t s [.time] (fun d =>
      d.time.tsq = s.dev.time.tsq ∧
        (ptpPort d i).sent = (ty, tget 0 (ptpPort s.dev i).seqs ty) :: (ptpPort s.dev i).sent ∧
        tget 0 (ptpPort d i).seqs ty = (tget 0 (ptpPort s.dev i).seqs ty + 1) % 65536)) ∧
  (∀ (s : State) (t i j : Nat) (e : TsqEnt), ptpOn s.dev i = true → s.dev.mbx.paused = false →
    maySend s.dev i 8 = true → j < 16 → tget none s.dev.time.tsq j = some e → e.port = i → e.stamp.isSome = true →
    e.msgType = 0 → (∀ k, k < j → tget none s.dev.time.tsq k = none) →
    Runs (.ptpMsgSend t i 8) t s [.time] (fun d =>
      d.time.tsq = tput none j none s.dev.time.tsq ∧
        (ptpPort d i).sent = (8, tget 0 (ptpPort s.dev i).seqs 8) :: (ptpPort s.dev i).sent)) ∧
  (∀ (s : State) (t i ty j : Nat), ptpOn s.dev i = true → s.dev.mbx.paused = false → ty ≤ 3 →
    maySend s.dev i ty = true →
    (List.range 16).find? (fun k => (tget none s.dev.time.tsq k).isNone) = some j →
    Runs (.ptpMsgSend t i ty) t s [.time] (fun d =>
      tget none d.time.tsq j =
        some ⟨i, ty, prm s.dev 0xC042 0, tget 0 (ptpPort s.dev i).seqs ty, none⟩ ∧
        (ptpPort d i).sent = (ty, tget 0 (ptpPort s.dev i).seqs ty) :: (ptpPort s.dev i).sent ∧
        tget 0 (ptpPort d i).seqs ty = (tget 0 (ptpPort s.dev i).seqs ty + 1) % 65536)) ∧
  (∀ (s : State) (t i ty : Nat), ptpOn s.dev i = true → s.dev.mbx.paused = false → ty ≤ 3 →
    maySend s.dev i ty = true → (∀ k, k < 16 → (tget none s.dev.time.tsq k).isSome = true) → s.dev.sys.up = true →
    s.dev.time.tsqEp ≠ t / 400000 + 1 →
    Runs (.ptpMsgSend t i ty) t s (.time :: evParts) (fun d =>
      d.time.tsqOvf = incSat 255 s.dev.time.tsqOvf ∧ Pending 99 d)) ∧
  (∀ (s : State) (t j : Nat) (err : Int) (e : TsqEnt), j < 16 → tget none s.dev.time.tsq j = some e → e.stamp = none →
    Runs (.ptpTxTimestamp t j err) t s [.time] (fun d =>
      tget none d.time.tsq j = some ⟨e.port, e.msgType, e.domain, e.seqId,
        some (txTime e.port err (devAt s t) / 1000000000, txTime e.port err (devAt s t) % 1000000000, t)⟩)) ∧
  (∀ (s : State) (t j sec ns w : Nat) (e : TsqEnt), tget none s.dev.time.tsq j = some e →
    e.stamp = some (sec, ns, w) → w + 40000000 ≤ t → s.dev.sys.up = true → s.dev.time.tsqEp ≠ t / 400000 + 1 →
    Runs (.tsqEntryTimeout t j) t s (.time :: evParts) (fun d =>
      tget none d.time.tsq j = none ∧ d.time.tsqOvf = incSat 255 s.dev.time.tsqOvf ∧ Pending 99 d))

/-- Network time (R443 to R447): at an epoch tick in READY a written or measured step moves the clock, with STEPPED and
EV_TIMELOCK, without LOCK, and with the carriers stopped; holdover ends at its time, and with it what it made valid; a timed output
starts the pulse that is due, unseen where it is gated and time is not valid, and ends it after its width; a capture that
the input selects keeps its edge and its instant, and marks one that was not read as overrun.
The model's readings in it: log entries 10, 131, 132, 133. -/
def Obligations.TimeOfDay : Prop :=
  (∀ (s : State) (t sec : Nat), t % 400000 = 0 → s.dev.sys.st = .ready → s.dev.sys.up = true →
    s.dev.time.setPend = some sec →
    ∃ s', exec (.clockStep t) s = .next s' ∧
      s'.dev.t = (sec * 1000000000 + t * 5 / 2 % 1000000000) * 2 / 5 ∧
      unchangedBut (allBut [.sys, .pts, .prm, .rt, .hold]) s s' ∧ s'.dev.time.stepped = true ∧
      s'.dev.time.lock = false ∧ s'.dev.time.setPend = none ∧ s'.dev.time.stepPend = none ∧ Pending 98 s'.dev ∧
      ∀ n, n < 48 → (leg s'.dev n).running = false ∧ (leg s'.dev n).insvc = (leg s.dev n).insvc) ∧
  (∀ (s : State) (t : Nat) (off : Int), t % 400000 = 0 → s.dev.sys.st = .ready → s.dev.sys.up = true →
    s.dev.time.setPend = none → s.dev.time.stepPend = some off →
    ∃ s', exec (.clockStep t) s = .next s' ∧ s'.dev.t = (((t * 5 / 2 : Nat) : Int) - off).toNat * 2 / 5 ∧
      unchangedBut (allBut [.sys, .pts, .prm, .rt, .hold]) s s' ∧ s'.dev.time.stepped = true ∧
      s'.dev.time.lock = false ∧ s'.dev.time.stepPend = none ∧ Pending 98 s'.dev ∧
      ∀ n, n < 48 → (leg s'.dev n).running = false) ∧
  (∀ (s : State) (t cls sec : Nat), WriteServed s.dev cls 2 → s.dev.sys.st = .ready → ptpAny s.dev [9] = false →
    sec < 2 ^ 63 →
    Runs (.timeSet t cls sec) t s [.time, .mbx] (fun d =>
      Answered 0 0 d ∧ d.time = { s.dev.time with setPend := some sec })) ∧
  (∀ (s : State) (t : Nat), s.dev.time.holdover = true → s.dev.time.hoT + prm s.dev 0xC054 0 * 400000000 ≤ t →
    Runs (.timeHoldoverEnd t) t s ([.time, .charm, .gs] ++ evParts) (fun d =>
      d.time.holdover = false ∧ d.time.valid = (s.dev.time.lock || trustedMaster s.dev))) ∧
  (∀ (s : State) (t k a : Nat), k < 8 → s.dev.sys.up = true → pulseDue (devAt s t) k = some a →
    (pulse s.dev k).active = false →
    Runs (.tpulseEdge t k true) t s [.time] (fun d =>
      pulse d k = { pulse s.dev k with
        active := true, done := true, out := prm s.dev 0xC066 k = 0 || s.dev.time.valid,
        endNs := a + prm s.dev 0xC064 k })) ∧
  (∀ (s : State) (t k : Nat), k < 8 → s.dev.sys.up = true → (pulse s.dev k).active = true →
    (pulse s.dev k).endNs ≤ t * 5 / 2 + 2 →
    Runs (.tpulseEdge t k false) t s [.time] (fun d =>
      pulse d k = { pulse s.dev k with active := false, out := false })) ∧
  (∀ (s : State) (t k : Nat) (falling : Bool), k < 8 → s.dev.sys.up = true → prm s.dev 0xC070 k = 1 →
    prm s.dev 0xC071 k = 2 ∨ prm s.dev 0xC071 k = b01 falling → (capt s.dev k).ep ≠ t / 400000 + 1 →
    Runs (.tcapEdge t k falling) t s (.time :: evParts) (fun d =>
      (capt d k).sec = ((t - 1) * 5 / 2 - Config.captureDelay) / 1000000000 ∧
        (capt d k).ns = ((t - 1) * 5 / 2 - Config.captureDelay) % 1000000000 ∧ (capt d k).falling = falling ∧ (capt d k).new_ = true ∧
        (capt d k).ovr = ((capt s.dev k).ovr || (capt s.dev k).new_) ∧ Pending 100 d))

/-- Reading TIME_NS latches TIME_SEC_LO and TIME_SEC_HI at the same instant, and reads of those two return the latched value
at any later time; reading TCAP_NS latches TCAP_SEC_LO and TCAP_SEC_HI in the same way (R441). -/
def Obligations.TimeLatches : Prop :=
  (∀ (s : State) (t : Nat), s.dev.sys.up = true →
    Runs (.timeNsRead t) t s [.time, .mbx] (fun d =>
      d.mbx.hostRd = le 4 (t * 5 / 2 % 1000000000) ∧ d.time = { s.dev.time with secLatch := t * 5 / 2 / 1000000000 } ∧
        ∀ x, regVal { d with t := x } 0x104 = t * 5 / 2 / 1000000000 % 2 ^ 32 ∧
          regVal { d with t := x } 0x108 = t * 5 / 2 / 1000000000 / 2 ^ 32 % 2 ^ 32)) ∧
  (∀ (s : State) (t : Nat), s.dev.sys.up = true →
    Runs (.tcapNsRead t) t s [.time, .mbx] (fun d =>
      d.mbx.hostRd = le 4 (tcapWord s.dev) ∧
        capt d s.dev.time.capSel = { capt s.dev s.dev.time.capSel with new_ := false } ∧
        ∀ x, regVal { d with t := x } 0x11C = (capt s.dev s.dev.time.capSel).sec % 2 ^ 32 ∧
          regVal { d with t := x } 0x120 = (capt s.dev s.dev.time.capSel).sec / 2 ^ 32 % 2 ^ 32))

/-! ### The Pendant pair -/

/-- Forming and ending a pair (R455, R457): PAIR keeps the offer and the digest, and a hello what it tells; the offered standby
that finds what it named, and against which syncRefusal finds nothing, enters SYNC as standby; an unpair operation or message leaves the
device alone, and a pair that is not SYNCED in 10 s is given up with its reason, where a standby in SYNC returns to READY.
The heartbeat (R454, R464, R472): the output toggles every 1 µs, an edge of the input is kept, and 8 µs without either path,
or without one, mark the paths silent, with EV_PNDLOST on a standby that does not take over.
The model's readings in it: log entries 134, 135, 136. -/
def Obligations.PairForms : Prop :=
  (∀ (s : State) (t g v a o : Nat), pndLink s.dev = true → s.dev.pnd.offer = 0 →
    Runs (.pndHelloRx t g v a o) t s [.pnd] (fun d =>
      d.pnd = { s.dev.pnd with hello := some (g, v, a, o), mirver := v })) ∧
  (∀ (s : State) (t v a : Nat), pndLink s.dev = true → s.dev.pnd.offer = 2 → s.dev.pnd.formed = false →
    mirverOk v = true → pairCheck s.dev = true → s.dev.sys.st = .ready →
    syncRefusal s.dev = none → s.dev.hold.warned = false →
    Runs (.pndHelloRx t (prm s.dev 0xD001 0) v a 1) t s (.pnd :: trParts) (fun d =>
      d.sys.st = .sync ∧ d.sys.cause = 0x05 ∧ d.sys.standby = true ∧ d.pnd.role = 2 ∧ d.pnd.formed = true ∧
        d.pnd.xfer = true)) ∧
  (∀ (s : State) (t slot : Nat) (c : Cmd), Admitted s slot 0x0F c → field c.body 0 0 = 1 →
    pairStates s.dev = true → s.dev.sys.standby = false → s.dev.pnd.formed = false → s.dev.pnd.hello = none →
    Runs (.pairActive t slot) t s [.pnd, .prm, .chain, .mbx] (fun d =>
      d.pnd = { s.dev.pnd with offer := 1, offerT := t } ∧ prm d 0xD001 0 = field c.body 19 4 ∧
        d.mbx.long = s.dev.mbx.long ++ [⟨c.slot, c.op, c.tag, cmdClass s.dev c, c.body⟩])) ∧
  (∀ (s : State) (t slot : Nat) (c : Cmd), Admitted s slot 0x0F c → field c.body 0 0 = 2 →
    s.dev.sys.st = .ready → s.dev.sys.standby = false → s.dev.pnd.formed = false → s.dev.pnd.hello = none →
    Runs (.pairStandby t slot) t s [.pnd, .prm, .chain, .mbx] (fun d =>
      d.pnd = { s.dev.pnd with offer := 2, offerT := t } ∧ prm d 0xD001 0 = field c.body 19 4 ∧
        d.mbx.long = s.dev.mbx.long ++ [⟨c.slot, c.op, c.tag, cmdClass s.dev c, c.body⟩])) ∧
  (∀ (s : State) (t slot : Nat) (c : Cmd), Admitted s slot 0x0F c → field c.body 0 0 = 0 →
    s.dev.pnd.swapSlot = none →
    Runs (.pairUnpair t slot) t s ([.pnd, .mbx] ++ evParts) (fun d =>
      d.pnd = pndAlone s.dev.pnd ∧ Completed s c t 0 0 (le 4 0) d)) ∧
  (∀ (s : State) (t : Nat), s.dev.pnd.formed = true → s.dev.pnd.swapSlot = none →
    Runs (.pndUnpairMsgRx t) t s (.pnd :: evParts) (fun d => d.pnd = pndAlone s.dev.pnd)) ∧
  (∀ (s : State) (t r : Nat) (l : LongCmd), longOf s.dev 0x0F = some l →
    s.dev.mbx.long.find? (fun x => x.slot = l.slot) = some l → s.dev.pnd.offer ≠ 0 →
    s.dev.pnd.offerT + 4000000000 ≤ t → pairReason (devAt s t) = some r → s.dev.sys.standby = false →
    Runs (.pairTimeout t) t s ([.pnd, .mbx] ++ evParts) (fun d =>
      d.pnd = pndAlone s.dev.pnd ∧ EndedLong s l t 1 r [] d)) ∧
  (∀ (s : State) (t r : Nat) (l : LongCmd), longOf s.dev 0x0F = some l →
    s.dev.mbx.long.find? (fun x => x.slot = l.slot) = some l → s.dev.pnd.offer ≠ 0 →
    s.dev.pnd.offerT + 4000000000 ≤ t → pairReason (devAt s t) = some r → s.dev.sys.standby = true →
    s.dev.sys.st = .sync → s.dev.hold.warned = false → s.dev.gd.estop = false →
    Runs (.pairTimeout t) t s (.pnd :: trParts) (fun d =>
      d.pnd = pndAlone s.dev.pnd ∧ EndedLong s l t 1 r [] d ∧ d.sys.st = .ready ∧ d.sys.standby = false)) ∧
  (∀ (s : State) (t r : Nat) (l : LongCmd), longOf s.dev 0x0F = some l →
    s.dev.mbx.long.find? (fun x => x.slot = l.slot) = some l → s.dev.pnd.offer ≠ 0 →
    s.dev.pnd.offerT + 4000000000 ≤ t → pairReason (devAt s t) = some r → s.dev.sys.standby = true →
    s.dev.sys.st ≠ .sync →
    Runs (.pairTimeout t) t s ([.sys, .pnd, .mbx] ++ evParts) (fun d =>
      d.pnd = pndAlone s.dev.pnd ∧ EndedLong s l t 1 r [] d ∧ d.sys = { s.dev.sys with standby := false })) ∧
  (∀ (s : State) (t : Nat), Runs (.pndHbiEdge t) t s [.pnd] (fun d =>
    d.pnd = { s.dev.pnd with hbiT := some t, silentWire := false })) ∧
  (∀ (s : State) (t : Nat), s.dev.clasp.pwrEn = true → locked s.dev 2 = true → s.dev.sys.testStop = false →
    s.dev.boot.hboT + 400 ≤ t →
    Runs (.pndHboToggle t) t s [.boot] (fun d => d.boot = { s.dev.boot with hbo := !s.dev.boot.hbo, hboT := t })) ∧
  (∀ (s : State) (t : Nat), s.dev.pnd.formed = true → s.dev.sys.standby = true → s.dev.sys.up = true →
    s.dev.pnd.frameT.getD 0 + 3200 ≤ t → s.dev.pnd.hbiT.getD 0 + 3200 ≤ t → s.dev.pnd.silentLink = false →
    takeoverOk s.dev = false →
    Runs (.pndHeartbeatTimeout t) t s (.pnd :: evParts) (fun d =>
      d.pnd = { s.dev.pnd with silentLink := true, silentWire := true, takeT := some t } ∧ Pending 104 d)) ∧
  (∀ (s : State) (t : Nat), s.dev.pnd.formed = true → s.dev.pnd.frameT.getD 0 + 3200 ≤ t →
    s.dev.pnd.hbiT.getD 0 + 3200 ≤ t → s.dev.pnd.silentLink = false → takeoverOk s.dev = true →
    Runs (.pndHeartbeatTimeout t) t s [.pnd] (fun d =>
      d.pnd = { s.dev.pnd with silentLink := true, silentWire := true, takeT := some t })) ∧
  (∀ (s : State) (t : Nat), s.dev.pnd.formed = true → s.dev.sys.standby = true → s.dev.sys.up = true →
    s.dev.pnd.hbiT.getD 0 + 3200 ≤ t → t < s.dev.pnd.frameT.getD 0 + 3200 → s.dev.pnd.silentWire = false →
    Runs (.heartbeatPathSilence t true) t s (.pnd :: evParts) (fun d =>
      d.pnd = { s.dev.pnd with silentWire := true } ∧ Pending 104 d)) ∧
  (∀ (s : State) (t : Nat), s.dev.pnd.formed = true → s.dev.sys.standby = true → s.dev.sys.up = true →
    s.dev.pnd.frameT.getD 0 + 3200 ≤ t → t < s.dev.pnd.hbiT.getD 0 + 3200 → s.dev.pnd.silentLink = false →
    Runs (.heartbeatPathSilence t false) t s (.pnd :: evParts) (fun d =>
      d.pnd = { s.dev.pnd with silentLink := true } ∧ Pending 104 d))

/-- Who drives (R464, R465, R468, R469): a standby takes over where the conditions hold, at a tick after its peer has failed
or fallen silent, into the state of its peer, each leg in service with its outputs off until their dead times pass; a
planned swap names its tick, and at that tick the drive passes; a transfer calibration of a synced standby is asked for,
opens its window at its second, and at the end of its window the active device sends its figures and the standby keeps its own; another
device refuses it with result 5. The model's readings in it: log entries 136, 137, 140. -/
def Obligations.PairDrives : Prop :=
  (∀ (s : State) (t : Nat), takeoverOk s.dev = true → s.dev.sys.up = true → takeoverDue (devAt s t) = true →
    Runs (.pendantTakeover t) t s
      (allBut [.pts, .commit, .gs, .rt, .carat, .sec, .clasp, .hold, .boot, .eth, .time]) (fun d =>
        d.sys.standby = false ∧ d.pnd.role = 1 ∧ d.pnd.taken = true ∧ d.pnd.took = true ∧ d.pnd.synced = false ∧
          d.pnd.takes = incSat 65535 s.dev.pnd.takes ∧ Pending 105 d)) ∧
  (∀ (s : State) (t : Nat), takeoverDue (devAt s t) = false →
    Runs (.pendantTakeover t) t s [] (fun _ => True)) ∧
  (∀ (s : State) (t : Nat), takeoverOk s.dev = true → takeoverDue (devAt s t) = true →
    (∀ n, n < 48 → inSvc s.dev n = true →
      guardHold s.dev n = false ∧ (leg s.dev n).dfltLat = false ∧ (leg s.dev n).duvLat = false) →
    Runs (.pendantTakeover t) t s
      (allBut [.pts, .commit, .gs, .rt, .carat, .sec, .clasp, .hold, .boot, .eth, .time]) (fun d =>
        d.sys.st = (if s.dev.pnd.mirror = .service then .run else s.dev.pnd.mirror) ∧ d.sys.cause = 0x30 ∧
          ∀ n, n < 48 → inSvc d n = inSvc s.dev n ∧
            (inSvc s.dev n = true → (leg d n).gh3 = false ∧ (leg d n).gl3 = false ∧ (leg d n).gated = false))) ∧
  (∀ (s : State) (t slot : Nat) (c : Cmd), Admitted s slot 0x0F c → field c.body 0 0 = 3 → swapOk s.dev = true →
    s.dev.sys.st = .run →
    Runs (.pairSwap t slot) t s [.pnd, .chain, .mbx] (fun d =>
      d.pnd = { s.dev.pnd with
        swapMs := some ((t + 399999) / 400000 + prm s.dev 0xD002 0), swapSlot := some c.slot, swapFw := false })) ∧
  (∀ (s : State) (t ms : Nat), s.dev.sys.standby = true → s.dev.pnd.formed = true →
    Runs (.pndSwapMsgRx t ms) t s [.pnd] (fun d => d.pnd = { s.dev.pnd with swapMs := some ms })) ∧
  (∀ (s : State) (ms : Nat), s.dev.pnd.swapMs = some ms → s.dev.sys.standby = true → s.dev.pnd.synced = true →
    s.dev.pnd.mirror = .run → s.dev.hold.warned = false → s.dev.sys.up = true →
    Runs (.roleSwapTick (400000 * ms)) (400000 * ms) s
      (allBut [.pts, .lkt, .commit, .wins, .gs, .rt, .setr, .carat, .clasp, .clk, .hold, .boot, .can, .eth, .time])
      (fun d => d.sys.st = .run ∧ d.sys.cause = 0x30 ∧ d.sys.standby = false ∧ d.pnd.role = 1 ∧
        d.pnd.swapMs = none ∧ Pending 105 d)) ∧
  (∀ (s : State) (ms : Nat), s.dev.pnd.swapMs = some ms → s.dev.sys.standby = false → s.dev.sys.st = .run →
    s.dev.pnd.peerSynced = true → s.dev.setr.intent = none → s.dev.hold.warned = false → s.dev.sys.up = true →
    s.dev.pnd.swapFw = false →
    Runs (.roleSwapTick (400000 * ms)) (400000 * ms) s
      (allBut [.pts, .lkt, .commit, .wins, .rt, .setr, .carat, .clasp, .clk, .hold, .boot, .can, .eth, .time])
      (fun d => d.sys.st = .sync ∧ d.sys.cause = 0x31 ∧ d.sys.standby = true ∧ d.pnd.role = 2 ∧
        d.pnd.swapMs = none ∧ Pending 105 d)) ∧
  (∀ (s : State) (t cls v : Nat), 2 ≤ cls → v ≤ 167 ∨ (0x100 ≤ v ∧ v ≤ 0x102) → mirrors s.dev = true →
    s.dev.pnd.synced = true →
    Runs (.pndXcalGo t cls v) t s [.pnd, .chain, .mbx] (fun d =>
      Answered 0 0 d ∧ d.pnd = { s.dev.pnd with
        xcal := some v, xcalSec := t * 5 / 2 / 1000000000 + 1, xcalRun := false, xcalStats := none,
        xcalObs := none })) ∧
  (∀ (s : State) (t cls v : Nat), 2 ≤ cls → v ≤ 167 ∨ (0x100 ≤ v ∧ v ≤ 0x102) →
    mirrors s.dev = false ∨ s.dev.pnd.synced = false →
    Runs (.pndXcalGo t cls v) t s [.pnd, .prm, .mbx, .free] (fun d =>
      d.mbx.lastStatus = 1 ∧ prm d 0xD021 0 = 5 ∧ d.pnd.xcal = none)) ∧
  (∀ (s : State) (t sel sec : Nat), s.dev.pnd.role = 1 → s.dev.pnd.formed = true →
    Runs (.pndXcalMsgRx t sel sec) t s [.pnd] (fun d =>
      d.pnd = { s.dev.pnd with xcal := some sel, xcalSec := sec, xcalRun := false })) ∧
  (∀ (s : State) (t v : Nat), s.dev.pnd.xcal = some v → s.dev.pnd.xcalRun = false →
    s.dev.pnd.xcalSec ≤ t * 5 / 2 / 1000000000 →
    Runs (.pndXcalWindowStart t) t s [.pnd] (fun d => d.pnd = { s.dev.pnd with
      xcalRun := true, xcalEnd := s.dev.pnd.xcalSec * 400000000 + xcalLength s.dev v,
      xcalN := 0, xcalSum := 0, xcalSq := 0, xcalBad := false })) ∧
  (∀ (s : State) (t : Nat) (phi : Int), t < s.dev.pnd.xcalEnd →
    Runs (.pndXcalDone t phi) t s [] (fun _ => True)) ∧
  (∀ (s : State) (t v : Nat) (phi : Int), s.dev.pnd.xcal = some v → s.dev.pnd.xcalRun = true →
    s.dev.pnd.xcalEnd ≤ t → mirrors s.dev = false →
    Runs (.pndXcalDone t phi) t s [.pnd, .chain] (fun d =>
      d.pnd = { s.dev.pnd with
        xcal := none, xcalRun := false,
        xcalStats := some (if xcalKnown s.dev v then
          (if 0x100 ≤ v then (phi : Rat) else (xcalFigures phi s.dev).mean, (xcalFigures phi s.dev).rms)
          else (0, 0)) })) ∧
  (∀ (s : State) (t v : Nat) (phi : Int), s.dev.pnd.xcal = some v → s.dev.pnd.xcalRun = true →
    s.dev.pnd.xcalEnd ≤ t → mirrors s.dev = true → s.dev.pnd.xcalStats = none →
    Runs (.pndXcalDone t phi) t s [.pnd] (fun d =>
      d.pnd = { s.dev.pnd with xcalObs := some (xcalFigures phi s.dev), xcalRun := false }))

/-- The mirror (R4, R456, R459, R461, R462): a formed standby takes the states of a cascade where its origin matches, the
service state of a leg, the epoch state, the metering registers, staged parameter writes, commits, the progress of a
snapshot by its chunks, and the figures of a transfer calibration; a parameter write or a chunk that names an index outside its range changes
nothing, and any other device takes none of them. The model's readings in it: log entries 47, 138, 139, 140. -/
def Obligations.MirrorRecords : Prop :=
  (∀ (s : State) (t c sq o : Nat) (xs : List IntPair), mirrors s.dev = true → sq < 16 → c < 128 →
    casOn s.dev c = true → (cas s.dev c).out.origin % 65536 = o →
    Runs (.mirrorCascadeStateRx t c sq o xs) t s [.fil, .pnd] (fun d =>
      cas d c = { cas s.dev c with states := stateTab 0 xs } ∧ (∀ k, k ≠ c → cas d k = cas s.dev k) ∧
        d.pnd = { s.dev.pnd with matched := setBit s.dev.pnd.matched c })) ∧
  (∀ (s : State) (t n h : Nat) (insvc : Bool), mirrors s.dev = true → n < 48 →
    Runs (.mirrorLegRx t n insvc true h) t s [.legs] (fun d =>
      leg d n = { leg s.dev n with
        insvc := insvc, entering := false, leaving := false, companion := false, h2 := h } ∧ OtherLegs n s.dev d)) ∧
  (∀ (s : State) (t n h : Nat) (insvc : Bool), mirrors s.dev = true → n < 48 →
    Runs (.mirrorLegRx t n insvc false h) t s [.legs] (fun d =>
      leg d n = { leg s.dev n with
        insvc := insvc, entering := false, leaving := false, companion := false, h1 := h } ∧ OtherLegs n s.dev d)) ∧
  (∀ (s : State) (t : Nat) (r : EpochRecord), mirrors s.dev = true →
    Runs (.mirrorEpochRx t r) t s [.gs, .rt, .charm, .setr, .pv, .pnd] (fun d =>
      d.gs = { s.dev.gs with
        thPred := some r.thPred, fEst := r.fEst, fTune := r.fTune, pR := r.pR, qCmd := r.qCmd, pTgt := r.pTgt,
        qTgt := r.qTgt, df := r.df, eTh := r.thE, eMag := r.eMag, e0 := r.e0 } ∧
        d.rt.tauU = r.tauU ∧ d.rt.tauF = r.tauF ∧ d.rt.uPre = r.uPre ∧ d.charm.suspSrc = r.susp ∧
        d.setr.seq = r.seq ∧ d.pnd.peerDigest = r.digest ∧
        d.pnd.mirror = (stOf (bits r.sysState 3 0)).getD .off ∧
        ∀ q p, r.pv[q]? = some p → (pvIn d q).vref = p.vref ∧ (pvIn d q).voc = p.voc ∧ (pvIn d q).dir = p.dir)) ∧
  (∀ (s : State) (t m : Nat) (xs : List NatPair), mirrors s.dev = true → m < 33 →
    Runs (.mirrorCaratRx t m xs) t s [.carat] (fun d =>
      ∀ k p, xs[k]? = some p →
        tget 0 d.carat.regs (16 * m + k) = (p.a : Int) * 4294967296 ∧
          tget 0 d.carat.bases (16 * m + k) = (p.b : Int))) ∧
  (∀ (s : State) (t i v : Nat) (b : List Byte) (x : Desc), mirrors s.dev = true → descOf (field b 1 0) = some x →
    recKind x = 0 → notMirrored (field b 1 0) = false → field b 1 0 ≠ 0x3132 → field b 1 0 ≠ 0x0052 →
    field b 1 0 ≠ 0x4010 → field b 7 6 = x.vsize → field b 3 2 + field b 5 4 ≤ x.n → recordVals x b = [(i, v)] →
    Runs (.mirrorParamWriteRx t 0 b) t s [.prm] (fun d =>
      d.prm = { s.dev.prm with
        staged := tput (prm s.dev (field b 1 0) i) (pkey (field b 1 0) i) v s.dev.prm.staged })) ∧
  (∀ (s : State) (t k : Nat) (b : List Byte) (x : Desc), descOf (field b 1 0) = some x →
    x.n < field b 3 2 + field b 5 4 →
    Runs (.mirrorParamWriteRx t k b) t s [] (fun _ => True)) ∧
  (∀ (s : State) (t : Nat) (c : SnapChunk), chunkOk c = false →
    Runs (.mirrorSnapshotChunkRx t c) t s [] (fun _ => True)) ∧
  (∀ (s : State) (t g ms : Nat), mirrors s.dev = true →
    Runs (.mirrorCommitRx t g ms) t s [.pnd] (fun d => d.pnd = { s.dev.pnd with commit := some (g, ms) })) ∧
  (∀ (s : State) (t : Nat) (c : SnapChunk), mirrors s.dev = true → chunkOk c = true → c.total ≤ c.offset + c.len →
    Runs (.mirrorSnapshotChunkRx t c) t s (allBut [.sys, .commit, .rt, .clasp, .hold, .boot]) (fun d =>
      d.pnd.xfer = false ∧ d.pnd.xferPct = 100)) ∧
  (∀ (s : State) (t : Nat) (c : SnapChunk), mirrors s.dev = true → chunkOk c = true → c.offset + c.len < c.total →
    Runs (.mirrorSnapshotChunkRx t c) t s (allBut [.sys, .commit, .rt, .clasp, .hold, .boot]) (fun d =>
      d.pnd.xfer = true ∧ d.pnd.xferPct = 100 * (c.offset + c.len) / c.total)) ∧
  (∀ (s : State) (t sel : Nat) (mean rms : Rat), mirrors s.dev = true → s.dev.pnd.xcal = some sel →
    s.dev.pnd.xcalObs = none →
    Runs (.mirrorXferStatsRx t sel mean rms) t s [.pnd] (fun d =>
      d.pnd = { s.dev.pnd with xcalStats := some (mean, rms) })) ∧
  (∀ (s : State) (t sel : Nat) (o : XcalObs), mirrors s.dev = true → s.dev.pnd.xcal = some sel →
    s.dev.pnd.xcalObs = some o →
    Runs (.mirrorXferStatsRx t sel 0 0) t s [.pnd, .prm] (fun d =>
      d.pnd.xcalRes = 2 ∧ prm d 0xD021 0 = 2 ∧ d.pnd.xcal = none)) ∧
  (∀ (s : State) (t c sq o n h : Nat) (xs : List IntPair) (insvc peak : Bool) (r : EpochRecord) (k : Nat)
      (ys : List NatPair) (b : List Byte) (kind g ms sel : Nat) (ch : SnapChunk) (m v : Rat), mirrors s.dev = false →
    Runs (.mirrorCascadeStateRx t c sq o xs) t s [] (fun _ => True) ∧
      Runs (.mirrorLegRx t n insvc peak h) t s [] (fun _ => True) ∧ Runs (.mirrorEpochRx t r) t s [] (fun _ => True) ∧
      Runs (.mirrorCaratRx t k ys) t s [] (fun _ => True) ∧
      Runs (.mirrorParamWriteRx t kind b) t s [] (fun _ => True) ∧
      Runs (.mirrorCommitRx t g ms) t s [] (fun _ => True) ∧
      Runs (.mirrorSnapshotChunkRx t ch) t s [] (fun _ => True) ∧
      Runs (.mirrorXferStatsRx t sel m v) t s [] (fun _ => True))

/-! ### Photovoltaic tracking -/

/-- The tracker of an input: after the start hold it is available, and after the stop hold it waits again, not available
and with no power kept. An interval that contains an absent power, in an epoch left out at its start too, is skipped: its
epochs and their powers go and nothing else. In MODE 2, with no power absent and a mean at or below the ceiling, an
interval leaves its mean power and keeps the one before; after the first step the direction of the perturbation stays
where the change of power, the drift taken off, exceeds the dead band and turns otherwise. The ratio or the yield
condition, held for its time, sets SHADE with its source and raises event 68. For an input whose gap is over, that does
not sweep and has no request waiting, the schedule at its instant, 10 s of tracking, the retry after a sweep and the host
each queue a request; the host also writes the input's power limit.
A sweep starts at a tick at which its conditions hold, with the reference set to 0.55 times the estimated open-circuit
voltage; the settling time after it is reached, the reference is set to that voltage and the recorder unit of sweeps is
triggered; with no other input to compare with, the record ends after 40 ms, and at a later tick it is judged: event 70 is
raised, and the target is the operating point before where the power found does not exceed the one before by more than the
dead band. The settling time after the return tracking restarts upwards with a first step. A request that has waited too
long is dropped, counted and event 69 raised. The model's readings in it: log entries 82, 83, 84, 145. -/
def Obligations.PvTracking : Prop :=
  (∀ (s : State) (t q a : Nat), q < pvCount s.dev → (pvIn s.dev q).mode = 1 → (pvIn s.dev q).startSince = some a →
    a + prm s.dev 0x7031 0 * 400000000 ≤ t →
    Runs (.pvStartHold t q) t s [.pv] (fun d =>
      pvIn d q = { pvIn s.dev q with avail := true } ∧ ∀ k, k ≠ q → pvIn d k = pvIn s.dev k)) ∧
  (∀ (s : State) (t q a : Nat), q < pvCount s.dev → (pvIn s.dev q).mode = 2 ∨ (pvIn s.dev q).mode = 3 →
    (pvIn s.dev q).stopSince = some a → a + prm s.dev 0x7033 0 * 400000000 ≤ t →
    Runs (.pvStopHold t q) t s [.pv] (fun d =>
      (pvIn d q).mode = 1 ∧ (pvIn d q).avail = false ∧ (pvIn d q).pBar = none ∧
        ∀ k, k ≠ q → pvIn d k = pvIn s.dev k)) ∧
  (∀ (s : State) (t q : Nat), q < pvCount s.dev → (pvIn s.dev q).mode = 2 ∨ (pvIn s.dev q).mode = 3 →
    sweeping s.dev q = false → prm s.dev 0x7003 0 ≤ (pvIn s.dev q).epochs →
    t % 400000 = 0 → none ∈ (pvIn s.dev q).ps.take (prm s.dev 0x7003 0) →
    Runs (.poIntervalEnd t q) t s [.pv] (fun d =>
      pvIn d q = { pvIn s.dev q with epochs := 0, ps := [], satSeen := false })) ∧
  (∀ (s : State) (t q : Nat) (w a m b : List Rat), q < pvCount s.dev → (pvIn s.dev q).mode = 2 →
    sweeping s.dev q = false → prm s.dev 0x7003 0 ≤ (pvIn s.dev q).epochs →
    t % 400000 = 0 → ((pvIn s.dev q).ps.take (prm s.dev 0x7003 0)).reverse = (w ++ a ++ m ++ b).map some →
    w.length = prm s.dev 0x7004 0 → a.length = b.length → m.length ≤ 1 → a ≠ [] → meanRat (a ++ b) ≤ (pvIn s.dev q).ceil →
    Runs (.poIntervalEnd t q) t s (.pv :: evParts) (fun d =>
      (pvIn d q).epochs = 0 ∧ (pvIn d q).pPrev = (pvIn s.dev q).pBar ∧ (pvIn d q).pBar = some (meanRat (a ++ b)) ∧
        (pvIn d q).mode = 2 ∧
        ∀ p0, (pvIn s.dev q).pBar = some p0 → (pvIn s.dev q).firstStep = false →
          (pvIn d q).dir =
            if pEps s.dev q < meanRat (a ++ b) - p0 -
                (meanRat b - meanRat a) * ((prm s.dev 0x7003 0 : Nat) : Rat) / ((a.length + m.length : Nat) : Rat)
            then (pvIn s.dev q).dir else -(pvIn s.dev q).dir)) ∧
  (∀ (s : State) (t q a : Nat), q < pvCount s.dev → pvTracks s.dev q = true → (pvIn s.dev q).ratioSince = some a →
    a + prm s.dev 0x7024 0 * 400000000 ≤ t → s.dev.sys.up = true →
    Runs (.shadeHoldExpiry t q false) t s (.pv :: evParts) (fun d =>
      (pvIn d q).shade = true ∧ (pvIn d q).shadeSrc = 2 ∧ Pending 68 d)) ∧
  (∀ (s : State) (t q a : Nat), q < pvCount s.dev → pvTracks s.dev q = true → (pvIn s.dev q).yieldSince = some a →
    a + prm s.dev 0x7024 0 * 400000000 ≤ t → s.dev.sys.up = true →
    Runs (.shadeHoldExpiry t q true) t s (.pv :: evParts) (fun d =>
      (pvIn d q).shade = true ∧ (pvIn d q).shadeSrc = 4 ∧ Pending 68 d)) ∧
  (∀ (s : State) (t q : Nat), SweepFree s.dev q t → sweepDue (devAt s t) q = true →
    Runs (.sweepScheduled t q) t s [.pv] (fun d => (q, t) ∈ d.pv.queue)) ∧
  (∀ (s : State) (t q : Nat), SweepFree s.dev q t → prm s.dev 0x7015 0 = 1 → pvTracks s.dev q = true →
    (pvIn s.dev q).startDone = false → (pvIn s.dev q).trackT + 4000000000 ≤ t →
    Runs (.sweepAfterStart t q) t s [.pv] (fun d => (pvIn d q).startDone = true ∧ (q, t) ∈ d.pv.queue)) ∧
  (∀ (s : State) (t q a : Nat), SweepFree s.dev q t → (pvIn s.dev q).lastEnd = some a →
    (pvIn s.dev q).retry = true →
    Runs (.sweepRetry t q) t s [.pv] (fun d => (pvIn d q).retry = false ∧ (q, t) ∈ d.pv.queue)) ∧
  (∀ (s : State) (t cls q : Nat), WriteServed s.dev cls 1 → q < 16 → SweepFree s.dev q t →
    Runs (.pvSweepGo t cls q) t s [.pv, .mbx] (fun d => Answered 0 0 d ∧ (q, t) ∈ d.pv.queue)) ∧
  (∀ (s : State) (t cls q v : Nat), WriteServed s.dev cls 1 → q < 16 → v ≤ 1000 →
    Runs (.pvPMaxWrite t cls q v) t s [.prm, .mbx] (fun d => Answered 0 0 d ∧ prm d 0x7107 q = v)) ∧
  (∀ (s : State) (t q : Nat), q < pvCount s.dev → sweepMayStart (devAt s t) q = true →
    Runs (.sweepStart t q) t s [.pv, .prm] (fun d =>
      d.pv.sweepQ = q ∧ d.pv.sweepPh = 2 ∧ d.pv.queue = s.dev.pv.queue.tail ∧ d.pv.vop = (pvIn s.dev q).vref ∧
        (pvIn d q).mode = 4 ∧ (pvIn d q).vref = (pvIn s.dev q).voc * 55 / 100 ∧
        d.pv.target = (pvIn s.dev q).voc * 55 / 100)) ∧
  (∀ (s : State) (t q a : Nat), (q, a) ∈ s.dev.pv.queue → a + prm s.dev 0x7012 0 * 400000000 ≤ t →
    s.dev.sys.up = true →
    Runs (.sweepDeferExpiry t q) t s (.pv :: evParts) (fun d =>
      d.pv = { s.dev.pv with
        queue := s.dev.pv.queue.filter (fun e => e.1 ≠ q), skips := incSat 255 s.dev.pv.skips } ∧ Pending 69 d)) ∧
  (∀ (s : State) (t : Nat), t % 400000 = 0 → s.dev.pv.sweepPh = 2 → s.dev.pv.reachAt + prm s.dev 0x7004 0 * 400000 ≤ t →
    prm s.dev 0x7002 0 < 4 →
    Runs (.sweepRisingStart t) t s [.pv, .prm, .loupe] (fun d =>
      d.pv.sweepPh = 3 ∧ d.pv.riseT = t ∧ d.pv.rec_ = [] ∧
        (pvIn d s.dev.pv.sweepQ).vref = (pvIn s.dev s.dev.pv.sweepQ).voc ∧
        (unit d (prm s.dev 0x7002 0)).st = 3 ∧ (unit d (prm s.dev 0x7002 0)).trigT = some t)) ∧
  (∀ (s : State) (t : Nat), t % 400000 = 0 → s.dev.pv.sweepPh = 3 → s.dev.pv.riseT + 16000000 ≤ t →
    s.dev.pv.others = none →
    Runs (.sweepRisingEnd t) t s [.pv] (fun d => d.pv = { s.dev.pv with sweepPh := 4, extT := t })) ∧
  (∀ (s : State) (t : Nat), s.dev.pv.sweepPh = 4 → s.dev.pv.extT < t → s.dev.sys.up = true →
    s.dev.pv.sweepQ < 16 → ∃ d, sweepExtract (devAt s t) = d ∧
      d.pv.sweepPh = 5 ∧ (pvIn d s.dev.pv.sweepQ).swpDone = true ∧ Pending 70 d ∧
        (pvIn d s.dev.pv.sweepQ).vNext = some d.pv.target ∧
        ((pvIn d s.dev.pv.sweepQ).pg ≤ s.dev.pv.pBefore + pEps s.dev s.dev.pv.sweepQ →
          d.pv.target = s.dev.pv.vop)) ∧
  (∀ (s : State) (t : Nat), t % 400000 = 0 → s.dev.pv.sweepPh = 5 →
    (pvIn s.dev s.dev.pv.sweepQ).vNext = none → s.dev.pv.reachAt + prm s.dev 0x7004 0 * 400000 ≤ t →
    Runs (.sweepResume t) t s [.pv, .prm] (fun d =>
      d.pv.sweepPh = 0 ∧ (pvIn d s.dev.pv.sweepQ).lastEnd = some t ∧ (pvIn d s.dev.pv.sweepQ).firstStep = true ∧
        (pvIn d s.dev.pv.sweepQ).dir = 1 ∧
        ((pvIn s.dev s.dev.pv.sweepQ).mode = 4 → (pvIn d s.dev.pv.sweepQ).mode = 2)))

/-! ### The Setter -/

/-- The Setter. A cycle starts at its tick with new bounds of discharge and charge and nothing gathered; an intent that is
outstanding stays, and one that a cycle publishes bears the next number and lands one cycle later. An intent that is due
lands, where no input sweeps and voluntary changes do not freeze at this tick: its legs, Facet 12 and power bounds are in
force, its landed record is published, and its legs are in service or entering unless the landing changes the state; where
an unplanned change stands it is retracted with reason 8 instead and no leg changes. An unplanned change is published as a
fact of the live legs with reason 5 and the next number. After the period of the rotation a swap is due, and before it
nothing changes; every 10 min the stress of each leg that has any goes to the journal, and before it nothing changes. A
string whose rack points are silent beyond the staleness limit and the hold is lost, with its share and its legs, as an
unplanned change. The model's readings in it: log entries 85, 86, 87. -/
def Obligations.Placements : Prop :=
  (∀ (s : State) (t : Nat) (r : SetRec), t % 400000 = 0 → s.dev.sys.up = true → s.dev.sys.standby = false →
    (if s.dev.time.valid then t / 400000 else t / 400000 - s.dev.setr.cycleMs) % cycleLen s.dev = 0 →
    s.dev.setr.intent = some r →
    Runs (.placementCycleStart t) t s
      (allBut [.sys, .commit, .acq, .legs, .pwm, .gs, .rt, .charm, .pv, .carat, .sec, .gd, .clasp, .clk, .hold, .boot,
        .eth, .time, .pnd]) (fun d =>
        d.setr.cycleMs = t / 400000 ∧ d.setr.sf = 0 ∧ d.setr.dcSum = 0 ∧ d.setr.intent = some r ∧
          d.setr.hDis = (planStrs (devAt s t) (legMask s.dev)).foldl (fun a k => a + hDisOf s.dev k) 0 ∧
          d.setr.hCh = (planStrs (devAt s t) (legMask s.dev)).foldl (fun a k => a + hChOf s.dev k) 0)) ∧
  (∀ (s : State) (t : Nat), t % 400000 = 0 → s.dev.sys.up = true → s.dev.sys.standby = false →
    (if s.dev.time.valid then t / 400000 else t / 400000 - s.dev.setr.cycleMs) % cycleLen s.dev = 0 →
    s.dev.setr.intent = none →
    Runs (.placementCycleStart t) t s
      (allBut [.sys, .commit, .acq, .legs, .pwm, .gs, .rt, .charm, .pv, .carat, .sec, .gd, .clasp, .clk, .hold, .boot,
        .eth, .time, .pnd]) (fun d =>
        d.setr.cycleMs = t / 400000 ∧ d.setr.sf = 0 ∧ d.setr.dcSum = 0 ∧
          ∀ r, d.setr.intent = some r →
            r.typ = 1 ∧ r.seq = (s.dev.setr.seq + 1) % 2 ^ 32 ∧ r.landMs = t / 400000 + cycleLen s.dev ∧
              d.setr.seq = r.seq ∧ d.setr.last = r)) ∧
  (∀ (s : State) (t : Nat) (r : SetRec), s.dev.setr.intent = some r → r.landMs ≤ t / 400000 →
    s.dev.setr.unplanned = false → s.dev.pv.sweepPh = 0 → (frozen s.dev = true → s.dev.setr.frozen = true) →
    Runs (.intentLanding t) t s (allBut [.pts, .commit, .rt, .carat, .sec, .clasp, .hold, .boot, .eth, .time]) (fun d =>
      d.setr.intent = none ∧ d.setr.facet12 = r.facet12 ∧ d.setr.pHi = r.pHi ∧ d.setr.pLo = r.pLo ∧
        (∀ n, n < 48 → bit d.setr.legs n = bit r.legs n) ∧
        d.setr.last = { r with typ := 3, legs := d.setr.legs } ∧
        (d.sys.st = s.dev.sys.st → ∀ n, n < 48 → bit r.legs n = true → legOn d n = true))) ∧
  (∀ (s : State) (t : Nat) (r : SetRec), s.dev.setr.intent = some r → r.landMs ≤ t / 400000 →
    s.dev.setr.unplanned = true → r.typ = 1 → (frozen s.dev = true → s.dev.setr.frozen = true) →
    Runs (.intentLanding t) t s (allBut [.pts, .commit, .rt, .carat, .sec, .clasp, .hold, .boot, .eth, .time]) (fun d =>
      d.setr.intent = none ∧ d.setr.last = { r with typ := 2, reason := 8 } ∧ d.setr.retract = true ∧
        d.legs = s.dev.legs)) ∧
  (∀ (s : State) (t : Nat), s.dev.setr.unplanned = true → s.dev.sys.up = true → s.dev.sys.standby = false →
    Runs (.unplannedChange t) t s ([.setr, .prm, .lkt, .can] ++ evParts) (fun d =>
      d.setr.unplanned = false ∧ d.setr.legs = legMask s.dev ∧
        ∃ r ∈ d.setr.published, r.typ = 4 ∧ r.reason = 5 ∧ r.legs = legMask s.dev ∧
          r.seq = (s.dev.setr.seq + 1) % 2 ^ 32)) ∧
  (∀ (s : State) (t : Nat), prm s.dev 0x8006 0 ≠ 0 → s.dev.setr.rotT + prm s.dev 0x8006 0 * 24000000000 ≤ t →
    Runs (.setterRotation t) t s [.setr] (fun d => d.setr = { s.dev.setr with rotDue := true, rotT := t })) ∧
  (∀ (s : State) (t : Nat), t < s.dev.setr.rotT + prm s.dev 0x8006 0 * 24000000000 →
    Runs (.setterRotation t) t s [] (fun d => d.setr = s.dev.setr)) ∧
  (∀ (s : State) (t : Nat), t < s.dev.setr.stressT + 240000000000 →
    Runs (.stressJournal t) t s [] (fun d => d.lkt = s.dev.lkt)) ∧
  (∀ (s : State) (t : Nat), s.dev.setr.stressT + 240000000000 ≤ t →
    Runs (.stressJournal t) t s [.lkt, .setr] (fun d =>
      (∃ js, d.lkt.journal = s.dev.lkt.journal ++ js) ∧
        ∀ n, n < 48 → (leg s.dev n).stress ≠ 0 → JRec.stress n (leg s.dev n).stress ∈ d.lkt.journal)) ∧
  (∀ (s : State) (t k : Nat), k < strCount s.dev → (str s.dev k).lost = false →
    (∀ a, rackAge (devAt s t) k = some a → prm s.dev 0x8013 0 * 1000000 + prm s.dev 0x8014 0 * 1000000000 ≤ a) →
    Runs (.rackStaleHoldExpiry t k) t s [.legs, .setr] (fun d =>
      str d k = { str s.dev k with lost := true, share := 0 } ∧ d.setr.unplanned = true ∧
        ∀ n, n ∈ strLegs s.dev k → inSvc d n = false ∧ legOn d n = false))
end

