-- ==== Sys2Proof/Laws/Bezel.lean ====
section
/-!
SUPPORT. What a comparator of a Bezel window can do, whatever its error: its level lies within the bound of R149 around
the code's own, so a pin beyond that bound is active or quiet for certain (R150, R151).
-/
namespace Sys2Proof.Machine

/-- A clamped value lies between its bounds. -/
theorem clampR_mem {lo hi : Rat} (h : lo ≤ hi) (x : Rat) : lo ≤ clampR lo hi x ∧ clampR lo hi x ≤ hi := by
  unfold clampR
  split_ifs <;> constructor <;> linarith

/-- A magnitude is not negative. -/
theorem absR_nonneg (a : Rat) : 0 ≤ absR a := by
  unfold absR
  split <;> linarith

/-- The level of a code lies within the error bound around its nominal one (R149). -/
theorem cmpLevel_near (d : Dev) (w : Nat) (u : Bool) (k : Int) (nom b : Rat)
    (hn : nom = k * (if prm d 0x4002 w = 0 then 4000 else 1000))
    (hb : b = absR nom * 5 / 1000 + (if prm d 0x4002 w = 0 then 3000 else 1500)) :
    nom - b ≤ cmpLevel d w u k ∧ cmpLevel d w u k ≤ nom + b := by
  have hp : 0 ≤ b := by
    have := absR_nonneg nom
    rw [hb]; split <;> linarith
  have hm := clampR_mem (neg_le_self hp) (Config.cmpError w u k)
  have he : cmpLevel d w u k = nom + clampR (-b) b (Config.cmpError w u k) := by
    simp only [cmpLevel, ← hn, ← hb]
  rw [he]
  constructor <;> linarith [hm.1, hm.2]

/-- An upper comparator is active at a pin above its level's bound. -/
theorem cmpActive_above {d : Dev} {w : Nat} {v : Int} (nom b : Rat)
    (hn : nom = cmpCode d w true * (if prm d 0x4002 w = 0 then 4000 else 1000))
    (hb : b = absR nom * 5 / 1000 + (if prm d 0x4002 w = 0 then 3000 else 1500)) (h : nom + b < v) :
    cmpActive d w true v = true := by
  simpa [cmpActive] using lt_of_le_of_lt (cmpLevel_near d w true _ nom b hn hb).2 h

/-- An upper comparator is quiet at a pin that does not reach its level's bound. -/
theorem cmpActive_quiet {d : Dev} {w : Nat} {v : Int} (nom b : Rat)
    (hn : nom = cmpCode d w true * (if prm d 0x4002 w = 0 then 4000 else 1000))
    (hb : b = absR nom * 5 / 1000 + (if prm d 0x4002 w = 0 then 3000 else 1500)) (h : v ≤ nom - b) :
    cmpActive d w true v = false := by
  simpa [cmpActive] using h.trans (cmpLevel_near d w true _ nom b hn hb).1

/-- A lower comparator is active at a pin below its level's bound. -/
theorem cmpActive_below {d : Dev} {w : Nat} {v : Int} (nom b : Rat)
    (hn : nom = cmpCode d w false * (if prm d 0x4002 w = 0 then 4000 else 1000))
    (hb : b = absR nom * 5 / 1000 + (if prm d 0x4002 w = 0 then 3000 else 1500)) (h : v < nom - b) :
    cmpActive d w false v = true := by
  simpa [cmpActive] using lt_of_lt_of_le h (cmpLevel_near d w false _ nom b hn hb).1

/-- The samples of a pin that are active are among the last M (R151). -/
theorem activeSamples_le (d : Dev) (w : Nat) (u : Bool) (pin : List Int) :
    activeSamples d w u pin ≤ prm d 0x4008 w ∧ activeSamples d w u pin ≤ pin.length := by
  have h := List.length_filter_le (cmpActive d w u) (pin.take (prm d 0x4008 w))
  rw [List.length_take] at h
  exact ⟨h.trans (min_le_left _ _), h.trans (min_le_right _ _)⟩

/-- One sample in a filter of one. -/
theorem activeSamples_one {d : Dev} {w : Nat} {u : Bool} {v : Int} (hm : prm d 0x4008 w = 1) :
    activeSamples d w u [v] = if cmpActive d w u v then 1 else 0 := by
  simp only [activeSamples, hm, List.take_one, List.head?_cons, Option.toList_some, List.filter_cons, List.filter_nil]
  split <;> rfl

end Sys2Proof.Machine
end

