-- ==== Sys2Proof/Laws/Tables.lean ====
section
/-!
SUPPORT. Laws of the sparse tables and of the host memory: a read after a write, and the canonical form.
-/
namespace Sys2Proof.Machine

variable {α : Type}

/-! ### Reading -/

@[simp] theorem tget_nil (d : α) (k : Nat) : tget d [] k = d := rfl

theorem tget_cons (d : α) (a : Nat) (v : α) (m : Tab α) (k : Nat) :
    tget d ((a, v) :: m) k = if a = k then v else tget d m k := rfl

theorem tget_tdel (d : α) (k j : Nat) (m : Tab α) : tget d (tdel k m) j = if j = k then d else tget d m j := by
  induction m with
  | nil => simp [tdel]
  | cons e r ih =>
    obtain ⟨a, v⟩ := e
    by_cases ha : a = k <;> by_cases hj : j = k <;> by_cases haj : a = j <;>
      simp_all [tdel, tget_cons]

theorem tget_tins (d : α) (k j : Nat) (v : α) (m : Tab α) (h : ∀ e ∈ m, e.1 ≠ k) :
    tget d (tins k v m) j = if j = k then v else tget d m j := by
  induction m with
  | nil => simp only [tins, tget_cons, tget_nil, eq_comm]
  | cons e r ih =>
    obtain ⟨a, w⟩ := e
    have hr : ∀ e ∈ r, e.1 ≠ k := fun e he => h e (List.mem_cons_of_mem _ he)
    have hak : a ≠ k := h (a, w) List.mem_cons_self
    unfold tins
    split
    · simp only [tget_cons, eq_comm (a := k)]
    · simp only [tget_cons, ih hr]
      by_cases haj : a = j
      · subst haj; simp [hak]
      · simp [haj]

theorem not_mem_tdel (k : Nat) (m : Tab α) : ∀ e ∈ tdel k m, e.1 ≠ k := by
  intro e he
  simpa [tdel] using (List.mem_filter.1 he).2

variable [DecidableEq α]

/-- A table reads the value written last, and other keys read as before. -/
theorem tget_tput (d : α) (k j : Nat) (v : α) (m : Tab α) :
    tget d (tput d k v m) j = if j = k then v else tget d m j := by
  unfold tput
  split
  · rename_i hv; subst hv; exact tget_tdel v k j m
  · rw [tget_tins d k j v _ (not_mem_tdel k m), tget_tdel]
    by_cases hj : j = k <;> simp [hj]

@[simp] theorem tget_tput_self (d : α) (k : Nat) (v : α) (m : Tab α) : tget d (tput d k v m) k = v := by
  simp [tget_tput]

theorem tget_tput_ne (d : α) {k j : Nat} (v : α) (m : Tab α) (h : j ≠ k) :
    tget d (tput d k v m) j = tget d m j := by simp [tget_tput, h]

@[simp] theorem tget_tmod_self (d : α) (k : Nat) (f : α → α) (m : Tab α) :
    tget d (tmod d k f m) k = f (tget d m k) := tget_tput_self ..

theorem tget_tmod_ne (d : α) {k j : Nat} (f : α → α) (m : Tab α) (h : j ≠ k) :
    tget d (tmod d k f m) j = tget d m j := tget_tput_ne _ _ _ h

theorem tget_tmod (d : α) (k j : Nat) (f : α → α) (m : Tab α) :
    tget d (tmod d k f m) j = if j = k then f (tget d m k) else tget d m j := tget_tput ..

/-! ### The canonical form -/

omit [DecidableEq α] in
theorem tabWf_nil (d : α) : tabWf d ([] : Tab α) := ⟨List.Pairwise.nil, by simp⟩

omit [DecidableEq α] in
theorem tabWf_tdel {d : α} {m : Tab α} (k : Nat) (h : tabWf d m) : tabWf d (tdel k m) :=
  ⟨h.1.filter _, fun e he => h.2 e (List.mem_filter.1 he).1⟩

omit [DecidableEq α] in
theorem mem_tins (k : Nat) (v : α) (m : Tab α) : ∀ e ∈ tins k v m, e = (k, v) ∨ e ∈ m := by
  induction m with
  | nil => simp [tins]
  | cons x r ih =>
    intro e he
    unfold tins at he
    split at he
    · simpa using he
    · rcases List.mem_cons.1 he with rfl | h
      · simp
      · rcases ih e h with rfl | h' <;> simp [*]

omit [DecidableEq α] in
theorem pairwise_tins (k : Nat) (v : α) (m : Tab α) (hk : ∀ e ∈ m, e.1 ≠ k)
    (h : m.Pairwise (fun a b => a.1 < b.1)) : (tins k v m).Pairwise (fun a b => a.1 < b.1) := by
  induction m with
  | nil => simp [tins]
  | cons x r ih =>
    obtain ⟨a, w⟩ := x
    have hr := List.pairwise_cons.1 h
    unfold tins
    split
    · rename_i hlt
      refine List.pairwise_cons.2 ⟨fun e he => ?_, h⟩
      rcases List.mem_cons.1 he with rfl | he
      · exact hlt
      · exact Nat.lt_trans hlt (hr.1 e he)
    · rename_i hlt
      have hak : a ≠ k := hk (a, w) List.mem_cons_self
      refine List.pairwise_cons.2 ⟨fun e he => ?_, ih (fun e he => hk e (List.mem_cons_of_mem _ he)) hr.2⟩
      rcases mem_tins k v r e he with rfl | he
      · show a < k; omega
      · exact hr.1 e he

/-- Every write keeps the canonical form. -/
theorem tabWf_tput {d : α} {m : Tab α} (k : Nat) (v : α) (h : tabWf d m) : tabWf d (tput d k v m) := by
  unfold tput
  split
  · exact tabWf_tdel k h
  · rename_i hv
    have h1 := tabWf_tdel k h
    refine ⟨pairwise_tins k v _ (not_mem_tdel k m) h1.1, fun e he => ?_⟩
    rcases mem_tins k v _ e he with rfl | he
    · exact hv
    · exact h1.2 e he

theorem tabWf_tmod {d : α} {m : Tab α} (k : Nat) (f : α → α) (h : tabWf d m) : tabWf d (tmod d k f m) := tabWf_tput _ _ h

omit [DecidableEq α] in
/-- Equal readings of canonical tables are equal data. -/
theorem tabWf_ext {d : α} {m n : Tab α} (hm : tabWf d m) (hn : tabWf d n) (h : ∀ k, tget d m k = tget d n k) : m = n := by
  have below : ∀ (l : Tab α) (a : Nat), (∀ e ∈ l, a < e.1) → tget d l a = d := by
    intro l a hl
    induction l with
    | nil => rfl
    | cons e r ih =>
      have : e.1 ≠ a := Nat.ne_of_gt (hl e List.mem_cons_self)
      obtain ⟨b, w⟩ := e
      simpa [tget_cons, this] using ih (fun e he => hl e (List.mem_cons_of_mem _ he))
  induction m generalizing n with
  | nil =>
    cases n with
    | nil => rfl
    | cons e r =>
      obtain ⟨b, w⟩ := e
      have := h b
      simp only [tget_nil, tget_cons, if_true] at this
      exact absurd this.symm (hn.2 _ List.mem_cons_self)
  | cons e r ih =>
    obtain ⟨a, v⟩ := e
    cases n with
    | nil =>
      have := h a
      simp only [tget_nil, tget_cons, if_true] at this
      exact absurd this (hm.2 _ List.mem_cons_self)
    | cons e' r' =>
      obtain ⟨b, w⟩ := e'
      have pm := List.pairwise_cons.1 hm.1
      have pn := List.pairwise_cons.1 hn.1
      have hab : a = b := by
        rcases Nat.lt_trichotomy a b with hlt | heq | hlt
        · have := h a
          rw [below ((b, w) :: r') a] at this
          · simp only [tget_cons, if_true] at this
            exact absurd this (hm.2 _ List.mem_cons_self)
          · intro e he
            rcases List.mem_cons.1 he with rfl | he
            · exact hlt
            · exact Nat.lt_trans hlt (pn.1 e he)
        · exact heq
        · have := h b
          rw [below ((a, v) :: r) b] at this
          · simp only [tget_cons, if_true] at this
            exact absurd this.symm (hn.2 _ List.mem_cons_self)
          · intro e he
            rcases List.mem_cons.1 he with rfl | he
            · exact hlt
            · exact Nat.lt_trans hlt (pm.1 e he)
      subst hab
      have hv : v = w := by simpa [tget_cons] using h a
      subst hv
      congr 1
      refine ih ⟨pm.2, fun e he => hm.2 e (List.mem_cons_of_mem _ he)⟩
        ⟨pn.2, fun e he => hn.2 e (List.mem_cons_of_mem _ he)⟩ (fun k => ?_)
      by_cases hk : a = k
      · subst hk; rw [below r a pm.1, below r' a pn.1]
      · simpa [tget_cons, hk] using h k

/-! ### The host memory -/

/-- A store keeps the canonical form of the memory. -/
theorem tabWf_writeMem (bs : List Byte) : ∀ (m : Tab Byte) (a : Nat), tabWf 0 m → tabWf 0 (writeMem m a bs) := by
  induction bs with
  | nil => intro m a h; exact h
  | cons b r ih => intro m a h; exact ih _ _ (tabWf_tput a b h)

/-- A byte outside the stored ones reads as before. -/
theorem tget_writeMem_outside (bs : List Byte) : ∀ (m : Tab Byte) (a j : Nat), j < a ∨ a + bs.length ≤ j →
    tget 0 (writeMem m a bs) j = tget 0 m j := by
  induction bs with
  | nil => intro m a j _; rfl
  | cons b r ih =>
    intro m a j h
    simp only [List.length_cons] at h
    rw [writeMem, ih _ _ _ (by omega), tget_tput_ne _ _ _ (by omega)]

/-- A stored byte reads as it was stored. -/
theorem tget_writeMem_inside (bs : List Byte) : ∀ (m : Tab Byte) (a i : Nat), i < bs.length →
    tget 0 (writeMem m a bs) (a + i) = bs.getD i 0 := by
  induction bs with
  | nil => intro m a i h; simp at h
  | cons b r ih =>
    intro m a i h
    cases i with
    | zero => rw [writeMem, tget_writeMem_outside _ _ _ _ (by omega)]; simp
    | succ i =>
      have := ih (tput 0 a b m) (a + 1) i (by simpa using h)
      rw [writeMem, show a + (i + 1) = a + 1 + i by omega, this]
      simp

end Sys2Proof.Machine
end

