-- ==== Sys2Proof/Laws/Frames.lean ====
section
/-!
SUPPORT. What each shared operation leaves unchanged.
-/
namespace Sys2Proof.Safety

open Sys2Proof.Machine

/-! ### Frames compose -/

theorem Keeps.refl (ps : List Part) (d : Dev) : Keeps ps d d := ⟨fun p _ => by cases p <;> rfl⟩

theorem Keeps.trans {ps : List Part} {d e f : Dev} (h : Keeps ps d e) (k : Keeps ps e f) : Keeps ps d f := by
  refine ⟨fun p hp => ?_⟩
  have h1 := h.same p hp
  have h2 := k.same p hp
  cases p <;> exact Eq.trans h1 h2

theorem Keeps.mono {ps qs : List Part} {d e : Dev} (h : Keeps ps d e) (hs : ∀ p ∈ ps, p ∈ qs) : Keeps qs d e :=
  ⟨fun p hp => h.same p (fun hq => hp (hs p hq))⟩

theorem keeps_ite {ps : List Part} {c : Prop} [Decidable c] {d e f : Dev} (h : c → Keeps ps d e) (k : ¬ c → Keeps ps d f) :
    Keeps ps d (if c then e else f) := by
  split
  · exact h ‹_›
  · exact k ‹_›

theorem keeps_foldl {ps : List Part} {β : Type} (g : Dev → β → Dev) (h : ∀ e b, Keeps ps e (g e b)) (l : List β) :
    ∀ d, Keeps ps d (l.foldl g d) := by
  induction l with
  | nil => intro d; exact Keeps.refl _ _
  | cons b r ih => intro d; exact (h d b).trans (ih _)

theorem keeps_forAll {ps : List Part} (n : Nat) (f : Nat → Dev → Dev) (h : ∀ k e, Keeps ps e (f k e)) (d : Dev) :
    Keeps ps d (forAll n f d) := keeps_foldl _ (fun e k => h k e) _ d

/-! ### Writes of one field of the device -/

theorem keeps_t (x : Nat) (d : Dev) : Keeps [.t] d { d with t := x } :=
  ⟨fun p hp => by cases p <;> first | rfl | exact absurd (by decide) hp⟩

theorem keeps_sys (x : Sys) (d : Dev) : Keeps [.sys] d { d with sys := x } :=
  ⟨fun p hp => by cases p <;> first | rfl | exact absurd (by decide) hp⟩

theorem keeps_ev (x : Events) (d : Dev) : Keeps [.ev] d { d with ev := x } :=
  ⟨fun p hp => by cases p <;> first | rfl | exact absurd (by decide) hp⟩

theorem keeps_mbx (x : Mailbox) (d : Dev) : Keeps [.mbx, .sent] d { d with mbx := x } :=
  ⟨fun p hp => by cases p <;> first | rfl | exact absurd (by decide) hp⟩

theorem keeps_pts (x : Tab Point) (d : Dev) : Keeps [.pts] d { d with pts := x } :=
  ⟨fun p hp => by cases p <;> first | rfl | exact absurd (by decide) hp⟩

theorem keeps_lkt (x : Locket) (d : Dev) : Keeps [.lkt] d { d with lkt := x } :=
  ⟨fun p hp => by cases p <;> first | rfl | exact absurd (by decide) hp⟩

theorem keeps_prm (x : Params) (d : Dev) : Keeps [.prm] d { d with prm := x } :=
  ⟨fun p hp => by cases p <;> first | rfl | exact absurd (by decide) hp⟩

theorem keeps_commit (x : Option CommitJob) (d : Dev) : Keeps [.commit] d { d with commit := x } :=
  ⟨fun p hp => by cases p <;> first | rfl | exact absurd (by decide) hp⟩

theorem keeps_acq (x : Acq) (d : Dev) : Keeps [.acq] d { d with acq := x } :=
  ⟨fun p hp => by cases p <;> first | rfl | exact absurd (by decide) hp⟩

theorem keeps_fil (x : Fil) (d : Dev) : Keeps [.fil, .taps] d { d with fil := x } :=
  ⟨fun p hp => by cases p <;> first | rfl | exact absurd (by decide) hp⟩

theorem keeps_legs (x : Tab Leg) (d : Dev) : Keeps [.legs] d { d with legs := x } :=
  ⟨fun p hp => by cases p <;> first | rfl | exact absurd (by decide) hp⟩

theorem keeps_wins (x : Tab Window) (d : Dev) : Keeps [.wins] d { d with wins := x } :=
  ⟨fun p hp => by cases p <;> first | rfl | exact absurd (by decide) hp⟩

theorem keeps_pwm (x : Pwm) (d : Dev) : Keeps [.pwm] d { d with pwm := x } :=
  ⟨fun p hp => by cases p <;> first | rfl | exact absurd (by decide) hp⟩

theorem keeps_gs (x : Gs) (d : Dev) : Keeps [.gs] d { d with gs := x } :=
  ⟨fun p hp => by cases p <;> first | rfl | exact absurd (by decide) hp⟩

theorem keeps_rt (x : Rt) (d : Dev) : Keeps [.rt] d { d with rt := x } :=
  ⟨fun p hp => by cases p <;> first | rfl | exact absurd (by decide) hp⟩

theorem keeps_charm (x : Charm) (d : Dev) : Keeps [.charm] d { d with charm := x } :=
  ⟨fun p hp => by cases p <;> first | rfl | exact absurd (by decide) hp⟩

theorem keeps_pv (x : Pv) (d : Dev) : Keeps [.pv] d { d with pv := x } :=
  ⟨fun p hp => by cases p <;> first | rfl | exact absurd (by decide) hp⟩

theorem keeps_setr (x : Setter) (d : Dev) : Keeps [.setr] d { d with setr := x } :=
  ⟨fun p hp => by cases p <;> first | rfl | exact absurd (by decide) hp⟩

theorem keeps_loupe (x : Loupe) (d : Dev) : Keeps [.loupe] d { d with loupe := x } :=
  ⟨fun p hp => by cases p <;> first | rfl | exact absurd (by decide) hp⟩

theorem keeps_cask (x : Casket) (d : Dev) : Keeps [.cask, .arcLost] d { d with cask := x } :=
  ⟨fun p hp => by cases p <;> first | rfl | exact absurd (by decide) hp⟩

theorem keeps_carat (x : Carat) (d : Dev) : Keeps [.carat] d { d with carat := x } :=
  ⟨fun p hp => by cases p <;> first | rfl | exact absurd (by decide) hp⟩

theorem keeps_sec (x : Sec) (d : Dev) : Keeps [.sec] d { d with sec := x } :=
  ⟨fun p hp => by cases p <;> first | rfl | exact absurd (by decide) hp⟩

theorem keeps_gd (x : Gd) (d : Dev) : Keeps [.gd] d { d with gd := x } :=
  ⟨fun p hp => by cases p <;> first | rfl | exact absurd (by decide) hp⟩

theorem keeps_clasp (x : Clasp) (d : Dev) : Keeps [.clasp] d { d with clasp := x } :=
  ⟨fun p hp => by cases p <;> first | rfl | exact absurd (by decide) hp⟩

theorem keeps_clk (x : Clk) (d : Dev) : Keeps [.clk] d { d with clk := x } :=
  ⟨fun p hp => by cases p <;> first | rfl | exact absurd (by decide) hp⟩

theorem keeps_hold (x : Hold) (d : Dev) : Keeps [.hold] d { d with hold := x } :=
  ⟨fun p hp => by cases p <;> first | rfl | exact absurd (by decide) hp⟩

theorem keeps_boot (x : Boot) (d : Dev) : Keeps [.boot] d { d with boot := x } :=
  ⟨fun p hp => by cases p <;> first | rfl | exact absurd (by decide) hp⟩

theorem keeps_can (x : Can) (d : Dev) : Keeps [.can] d { d with can := x } :=
  ⟨fun p hp => by cases p <;> first | rfl | exact absurd (by decide) hp⟩

theorem keeps_lanes (x : Tab Lane) (d : Dev) : Keeps [.lanes] d { d with lanes := x } :=
  ⟨fun p hp => by cases p <;> first | rfl | exact absurd (by decide) hp⟩

theorem keeps_eth (x : Tab Eth) (d : Dev) : Keeps [.eth] d { d with eth := x } :=
  ⟨fun p hp => by cases p <;> first | rfl | exact absurd (by decide) hp⟩

theorem keeps_chain (x : Chain) (d : Dev) : Keeps [.chain] d { d with chain := x } :=
  ⟨fun p hp => by cases p <;> first | rfl | exact absurd (by decide) hp⟩

theorem keeps_time (x : Time) (d : Dev) : Keeps [.time] d { d with time := x } :=
  ⟨fun p hp => by cases p <;> first | rfl | exact absurd (by decide) hp⟩

theorem keeps_pnd (x : Pnd) (d : Dev) : Keeps [.pnd] d { d with pnd := x } :=
  ⟨fun p hp => by cases p <;> first | rfl | exact absurd (by decide) hp⟩

theorem keeps_free (x : Nat) (d : Dev) : Keeps [.free] d { d with free := x } :=
  ⟨fun p hp => by cases p <;> first | rfl | exact absurd (by decide) hp⟩

/-! ### Writes of one part -/

theorem setPrm_keeps (pid i v : Nat) (d : Dev) : Keeps [.prm] d (setPrm pid i v d) := by
  exact ⟨fun p hp => by cases p <;> first | rfl | exact absurd (by decide) hp⟩

theorem modUnit_keeps (u : Nat) (f : RecUnit → RecUnit) (d : Dev) : Keeps [.loupe] d (modUnit u f d) := by
  exact ⟨fun p hp => by cases p <;> first | rfl | exact absurd (by decide) hp⟩

theorem modTap_keeps (k : Nat) (f : Tap → Tap) (d : Dev) : Keeps [.taps] d (modTap k f d) := by
  exact ⟨fun p hp => by cases p <;> first | rfl | exact absurd (by decide) hp⟩

theorem modLane_keeps (k : Nat) (f : Lane → Lane) (d : Dev) : Keeps [.lanes] d (modLane k f d) := by
  exact ⟨fun p hp => by cases p <;> first | rfl | exact absurd (by decide) hp⟩

theorem modLeg_keeps (n : Nat) (f : Leg → Leg) (d : Dev) : Keeps [.legs] d (modLeg n f d) := by
  exact ⟨fun p hp => by cases p <;> first | rfl | exact absurd (by decide) hp⟩

theorem modWin_keeps (w : Nat) (f : Window → Window) (d : Dev) : Keeps [.wins] d (modWin w f d) := by
  exact ⟨fun p hp => by cases p <;> first | rfl | exact absurd (by decide) hp⟩

theorem modPv_keeps (q : Nat) (f : PvIn → PvIn) (d : Dev) : Keeps [.pv] d (modPv q f d) := by
  exact ⟨fun p hp => by cases p <;> first | rfl | exact absurd (by decide) hp⟩

theorem journal_keeps (r : JRec) (d : Dev) : Keeps [.lkt] d (journal r d) := by
  exact ⟨fun p hp => by cases p <;> first | rfl | exact absurd (by decide) hp⟩

theorem complete_keeps (c : Completion) (d : Dev) : Keeps [.mbx] d (complete c d) := by
  exact ⟨fun p hp => by cases p <;> first | rfl | exact absurd (by decide) hp⟩

theorem answer_keeps (st dt : Nat) (d : Dev) : Keeps [.mbx] d (answer st dt d) := by
  exact ⟨fun p hp => by cases p <;> first | rfl | exact absurd (by decide) hp⟩

theorem popRung_keeps (d : Dev) : Keeps [.mbx] d (popRung d) := by
  exact ⟨fun p hp => by cases p <;> first | rfl | exact absurd (by decide) hp⟩

theorem putPoint_keeps (p typ v : Nat) (d : Dev) : Keeps [.pts] d (putPoint p typ v d) := by
  exact ⟨fun p hp => by cases p <;> first | rfl | exact absurd (by decide) hp⟩

/-! ### Triggers and events -/

theorem offerTrig_keeps (m : TrigMsg) (k : Nat) (d : Dev) : Keeps [.lanes, .chain] d (offerTrig m k d) := by
  unfold offerTrig
  refine keeps_ite (fun _ => (modLane_keeps _ _ d).mono (by decide)) (fun _ => ?_)
  exact ⟨fun p hp => by cases p <;> first | rfl | exact absurd (by decide) hp⟩

theorem chainTrig_keeps (g : Nat) (fire : Bool) (seq inst : Nat) (d : Dev) :
    Keeps [.lanes, .chain] d (chainTrig g fire seq inst d) :=
  keeps_foldl _ (fun e _ => keeps_ite (fun _ => offerTrig_keeps _ _ e) (fun _ => Keeps.refl _ e)) _ d

theorem tapStop_keeps (k : Nat) (d : Dev) : Keeps [.taps] d (tapStop k d) :=
  keeps_ite (fun _ => Keeps.refl _ d) (fun _ => modTap_keeps _ _ d)

theorem tapTrigger_keeps (k : Nat) (d : Dev) : Keeps [.taps] d (tapTrigger k d) :=
  keeps_ite (fun _ => Keeps.refl _ d) (fun _ => keeps_ite (fun _ => modTap_keeps _ _ d)
    (fun _ => (modTap_keeps _ _ d).trans (keeps_foldl _ (fun e j => keeps_ite (fun _ => tapStop_keeps j e)
      (fun _ => Keeps.refl _ e)) _ _)))

theorem tapTriggers_keeps (code : Nat) (d : Dev) : Keeps [.taps] d (tapTriggers code d) :=
  keeps_foldl _ (fun e k => keeps_ite (fun _ => tapTrigger_keeps k e) (fun _ => Keeps.refl _ e)) _ d

theorem trigger_keeps (fuel u src inst origin : Nat) (d : Dev) :
    Keeps [.taps, .loupe, .lanes, .chain] d (trigger fuel u src inst origin d) := by
  induction fuel generalizing u src origin d with
  | zero => exact Keeps.refl _ d
  | succ fuel ih =>
    have h1 := (modUnit_keeps u (trigUnit (prm d 0xA003 u) src (trigSlot d u src) inst origin (stCode d.sys.st)
      d.rt.tauU) d).mono (qs := [.taps, .loupe, .lanes, .chain]) (by decide)
    unfold trigger
    refine keeps_ite (fun _ => ?_) (fun _ => h1)
    refine h1.trans (((tapTriggers_keeps (0x100 + u) _).mono (by decide)).trans ?_)
    refine keeps_ite (fun _ => keeps_ite (fun _ => ?_) (fun _ => Keeps.refl _ _)) (fun _ => ?_)
    · exact (Keeps.mono (chainTrig_keeps _ _ _ _ _) (by decide)).trans
        (keeps_foldl _ (fun e v => keeps_ite (fun _ => ih _ _ _ _) (fun _ => Keeps.refl _ e)) _ _)
    · exact keeps_foldl _ (fun e v => keeps_ite (fun _ => ih _ _ _ _) (fun _ => Keeps.refl _ e)) _ _

theorem triggers_keeps (code inst : Nat) (d : Dev) : Keeps [.taps, .loupe, .lanes, .chain] d (triggers code inst d) :=
  keeps_foldl _ (fun e u => keeps_ite (fun _ => trigger_keeps 4 u code inst 0 e) (fun _ => Keeps.refl _ e)) _ d

theorem sendNotice_keeps (d : Dev) : Keeps [.sent, .free] d (sendNotice d) := by
  unfold sendNotice
  split
  · refine keeps_ite (fun _ => ?_) (fun _ => Keeps.refl _ d)
    exact ⟨fun p hp => by cases p <;> first | rfl | exact absurd (by decide) hp⟩
  · exact Keeps.refl _ d

/-- Raising an event touches the log and what the event triggers, and nothing else. -/
theorem raise_keeps (e idx : Nat) (vals : List Byte) (d : Dev) : Keeps evParts d (raise e idx vals d) := by
  unfold raise
  refine keeps_ite (fun _ => ?_) (fun _ => Keeps.refl _ d)
  refine Keeps.trans ?_ (((triggers_keeps e d.t _).mono (by decide)).trans ((tapTriggers_keeps e _).mono (by decide)))
  refine Keeps.trans (e := { d with
      ev := { d.ev with
        pend := d.ev.pend ||| BitVec.twoPow 128 e,
        seq := (d.ev.seq + 1) % 2 ^ 32,
        log := ((⟨d.ev.seq + 1, e, stCode d.sys.st, tNs d, stamp d, idx, vals⟩ : LogEntry) :: d.ev.log).take 4096 }
      cask := { d.cask with arcLost :=
        (if 4096 ≤ d.ev.log.length ∧ d.ev.copied + 4095 < d.ev.seq then incSat 255 d.cask.arcLost else d.cask.arcLost) } }) ?_ ?_
  · exact ⟨fun p hp => by cases p <;> first | rfl | exact absurd (by decide) hp⟩
  · exact keeps_ite (fun _ => (sendNotice_keeps _).mono (by decide)) (fun _ => Keeps.refl _ _)

theorem raiseI_keeps (e idx : Nat) (d : Dev) : Keeps evParts d (raiseI e idx d) := raise_keeps e idx [] d

end Sys2Proof.Safety
end

