-- ==== Sys2Proof/Laws/Trans.lean ====
section
/-!
SUPPORT. What the operations of the mailbox, of the legs and of the state machine leave unchanged.
-/
namespace Sys2Proof.Safety

open Sys2Proof.Machine

/-! ### The mailbox -/

theorem takeFree_keeps (d : Dev) : Keeps [.free] d (takeFree d).2 := by
  exact ⟨fun p hp => by cases p <;> first | rfl | exact absurd (by decide) hp⟩

theorem mbxErr_keeps (slot status b : Nat) (d : Dev) : Keeps evParts d (mbxErr slot status b d) := by
  unfold mbxErr
  refine keeps_ite (fun _ => Keeps.refl _ d) (fun _ => ?_)
  refine Keeps.trans (raise_keeps _ _ _ d) (keeps_ite (fun _ => ?_) (fun _ => Keeps.refl _ _))
  exact ⟨fun p hp => by cases p <;> first | rfl | exact absurd (by decide) hp⟩

theorem finish_keeps (c : Cmd) (st dt : Nat) (resp : List Byte) (d : Dev) :
    Keeps (.mbx :: evParts) d (finish c st dt resp d) := by
  unfold finish
  have h : Keeps (.mbx :: evParts) d (complete ⟨c.slot, c.tag, c.op, st, dt, resp, tMs d⟩ (popRung d)) :=
    Keeps.trans (Keeps.mono (popRung_keeps d) (by decide)) (Keeps.mono (complete_keeps _ _) (by decide))
  exact keeps_ite (fun _ => h.trans (Keeps.mono (mbxErr_keeps _ _ _ _) (by decide))) (fun _ => h)

theorem finishOpen_keeps (c : Cmd) (d : Dev) : Keeps (.mbx :: evParts) d (finishOpen c d) :=
  Keeps.trans (Keeps.mono (takeFree_keeps d) (by decide)) (finish_keeps c 1 (Config.freeNat d.free) [] (takeFree d).2)

theorem goLong_keeps (c : Cmd) (d : Dev) : Keeps [.mbx] d (goLong c d) := by
  exact ⟨fun p hp => by cases p <;> first | rfl | exact absurd (by decide) hp⟩

theorem finishLong_keeps (slot st dt : Nat) (resp : List Byte) (d : Dev) : Keeps [.mbx] d (finishLong slot st dt resp d) := by
  unfold finishLong
  split
  · exact Keeps.refl _ d
  · exact ⟨fun p hp => by cases p <;> first | rfl | exact absurd (by decide) hp⟩

theorem finishLongOpen_keeps (slot : Nat) (d : Dev) : Keeps [.mbx, .free] d (finishLongOpen slot d) :=
  Keeps.trans (Keeps.mono (takeFree_keeps d) (by decide)) (Keeps.mono (finishLong_keeps _ _ _ _ _) (by decide))

theorem takeTurn_keeps (m : List Host.Cell) (n : Nat) (d : Dev) : Keeps (.mbx :: evParts) d (takeTurn m n d) := by
  induction n generalizing d with
  | zero => exact Keeps.refl _ d
  | succ n ih =>
    unfold takeTurn
    refine keeps_ite (fun _ => ?_) (fun _ => Keeps.refl _ d)
    dsimp only
    split
    · exact ⟨fun p hp => by cases p <;> first | rfl | exact absurd (by decide) hp⟩
    · exact (finish_keeps _ _ _ _ d).trans (ih _)

/-- Where no turn is due, nothing happens. -/
theorem takeTurn_eq_self {d : Dev} (h : turnDue d = false) (m : List Host.Cell) (n : Nat) : takeTurn m n d = d := by
  cases n <;> simp [takeTurn, h]

/-- A command at the head of the ring order has been checked, so no turn is due. -/
theorem turnDue_of_isHead {m : List Host.Cell} {d : Dev} {slot op : Nat} (h : isHead m d slot op = true) :
    turnDue d = false := by
  simp only [isHead, Bool.and_eq_true] at h
  simp [turnDue, h]

/-- At the head of the ring order, with no long command of its opcode and outside recovery, a command runs. -/
theorem runCmd_of_isHead {m : List Host.Cell} {d : Dev} {slot op : Nat} (h : isHead m d slot op = true)
    (hr : d.boot.recovery = false) (hl : longOf d op = none) (f : Cmd → Dev → Dev) :
    runCmd m slot op f d = f (cmdAt m slot) d := by
  simp [runCmd, takeTurn_eq_self (turnDue_of_isHead h), h, hr, hl]

theorem runCmd_keeps {ps : List Part} (m : List Host.Cell) (slot op : Nat) (f : Cmd → Dev → Dev) (d : Dev)
    (hm : ∀ p ∈ Part.mbx :: evParts, p ∈ ps) (h : ∀ c e, Keeps ps e (f c e)) : Keeps ps d (runCmd m slot op f d) := by
  unfold runCmd
  refine ((takeTurn_keeps m 16 d).mono hm).trans ?_
  exact keeps_ite (fun _ => keeps_ite (fun _ => Keeps.mono (finish_keeps _ _ _ _ _) hm)
    (fun _ => keeps_ite (fun _ => Keeps.mono (finish_keeps _ _ _ _ _) hm) (fun _ => h _ _))) (fun _ => Keeps.refl _ _)

theorem keepImm_keeps (pid i v : Nat) (d : Dev) : Keeps [.lkt, .prm] d (keepImm pid i v d) :=
  Keeps.trans (Keeps.mono (setPrm_keeps _ _ _ d) (by decide)) (Keeps.mono (journal_keeps _ _) (by decide))

/-! ### Legs, sweeps and the disconnect channel -/

theorem creditGl_keeps (n f : Nat) (d : Dev) : Keeps [.legs] d (creditGl n f d) := by
  unfold creditGl
  split
  · exact keeps_ite (fun _ => modLeg_keeps _ _ d) (fun _ => Keeps.refl _ d)
  · exact Keeps.refl _ d

theorem regateLeg_keeps (n : Nat) (d : Dev) : Keeps [.legs] d (regateLeg n d) :=
  keeps_ite (fun _ => Keeps.refl _ d) (fun _ => keeps_ite
    (fun _ => (creditGl_keeps n _ d).trans (modLeg_keeps _ _ _)) (fun _ => modLeg_keeps _ _ d))

theorem regate_keeps (d : Dev) : Keeps [.legs] d (regate d) := keeps_forAll 48 _ regateLeg_keeps d

theorem setSp_keeps (c : Nat) (v : Int) (d : Dev) : Keeps [.prm] d (setSp c v d) := setPrm_keeps _ _ _ d

theorem setSpRate_keeps (c : Nat) (r : Int) (d : Dev) : Keeps [.prm] d (setSpRate c r d) := setPrm_keeps _ _ _ d

theorem setVref_keeps (q : Nat) (v : Rat) (rate : Int) (d : Dev) : Keeps [.pv, .prm] d (setVref q v rate d) := by
  unfold setVref
  exact ((modPv_keeps _ _ _).mono (by decide)).trans
    (((setSp_keeps _ _ _).mono (by decide)).trans ((setSpRate_keeps _ _ _).mono (by decide)))

theorem countSkip_keeps (q : Nat) (d : Dev) : Keeps (.pv :: evParts) d (countSkip q d) := by
  unfold countSkip
  refine Keeps.trans ?_ ((raiseI_keeps _ _ _).mono (by decide))
  exact ⟨fun p hp => by cases p <;> first | rfl | exact absurd (by decide) hp⟩

theorem endUnit_keeps (u code : Nat) (d : Dev) : Keeps [.loupe] d (endUnit u code d) :=
  keeps_ite (fun _ => modUnit_keeps _ _ d) (fun _ => Keeps.refl _ d)

theorem sweepAbort_keeps (d : Dev) : Keeps (.pv :: .prm :: evParts) d (sweepAbort d) := by
  unfold sweepAbort
  refine keeps_ite (fun _ => ?_) (fun _ => Keeps.refl _ d)
  refine Keeps.trans ?_ ((countSkip_keeps _ _).mono (by decide))
  refine Keeps.trans ?_ ((endUnit_keeps _ _ _).mono (by decide))
  refine Keeps.trans ?_ ((modPv_keeps _ _ _).mono (by decide))
  refine Keeps.trans ?_ ((setVref_keeps _ _ _ _).mono (by decide))
  exact ⟨fun p hp => by cases p <;> first | rfl | exact absurd (by decide) hp⟩

theorem sweepLegLost_keeps (n : Nat) (d : Dev) : Keeps (.pv :: .prm :: evParts) d (sweepLegLost n d) :=
  keeps_ite (fun _ => sweepAbort_keeps d) (fun _ => Keeps.refl _ d)

theorem gdOff_keeps (d : Dev) : Keeps [.gd] d (gdOff d) := by
  exact ⟨fun p hp => by cases p <;> first | rfl | exact absurd (by decide) hp⟩

theorem gdDemand_keeps (grid : Bool) (d : Dev) : Keeps [.gd] d (gdDemand grid d) := by
  exact ⟨fun p hp => by cases p <;> first | rfl | exact absurd (by decide) hp⟩

/-! ### Transitions -/

theorem zeroPower_keeps (d : Dev) : Keeps [.gs] d (zeroPower d) := keeps_gs _ d

theorem charmStop_keeps (d : Dev) : Keeps [.charm, .gs] d (charmStop d) :=
  keeps_ite (fun _ => ⟨fun p hp => by cases p <;> first | rfl | exact absurd (by decide) hp⟩) (fun _ => Keeps.refl _ d)

theorem probeState_keeps (target : OpState) (d : Dev) : Keeps [.charm, .gs] d (probeState target d) :=
  keeps_ite (fun _ => Keeps.refl _ d) (fun _ => charmStop_keeps d)

theorem leaveState_keeps (d : Dev) : Keeps [.sys, .legs, .pwm, .charm, .gs] d (leaveState d) := by
  unfold leaveState
  split
  · exact Keeps.trans (Keeps.mono (keeps_forAll 48 _ (fun n e => modLeg_keeps n _ e) d) (by decide))
      ((keeps_sys _ _).mono (by decide))
  · exact ⟨fun p hp => by cases p <;> first | rfl | exact absurd (by decide) hp⟩
  · exact (keeps_gs _ d).mono (by decide)
  · exact Keeps.refl _ d

theorem enterState_keeps (target : OpState) (d : Dev) :
    Keeps (.gd :: .gs :: .charm :: .pv :: .prm :: evParts) d (enterState target d) := by
  unfold enterState
  split
  · exact ⟨fun p hp => by cases p <;> first | rfl | exact absurd (by decide) hp⟩
  · exact (zeroPower_keeps d).mono (by decide)
  · exact (zeroPower_keeps d).mono (by decide)
  · exact (zeroPower_keeps d).mono (by decide)
  · exact (zeroPower_keeps d).mono (by decide)
  · exact (sweepAbort_keeps d).mono (by decide)
  · exact (sweepAbort_keeps d).mono (by decide)
  · exact (keeps_charm _ d).mono (by decide)
  · refine Keeps.trans ?_ ((sweepAbort_keeps _).mono (by decide))
    refine Keeps.trans ?_ ((zeroPower_keeps _).mono (by decide))
    refine Keeps.trans ?_ ((keeps_forAll 4 _ (fun u e => modUnit_keeps u _ e) _).mono (by decide))
    exact (keeps_loupe _ d).mono (by decide)
  · exact (keeps_charm _ d).mono (by decide)

theorem calAbort_keeps (ok : Nat → Bool) (d : Dev) : Keeps [.acq, .mbx] d (calAbort ok d) := by
  have clear : ∀ (x : Option CalJob) (e : Dev), Keeps [.acq, .mbx] e { e with acq := { e.acq with calZero := x } } := fun x e =>
    ⟨fun p hp => by cases p <;> first | rfl | exact absurd (by decide) hp⟩
  have clearF : ∀ (x : Option CalJob) (e : Dev), Keeps [.acq, .mbx] e { e with acq := { e.acq with calFull := x } } := fun x e =>
    ⟨fun p hp => by cases p <;> first | rfl | exact absurd (by decide) hp⟩
  have zero : Keeps [.acq, .mbx] d (match d.acq.calZero with
      | some j => if !ok j.ain then finishLong j.slot 0x10 (stCode d.sys.st) [] { d with acq := { d.acq with calZero := none } }
        else d
      | none => d) := by
    split
    · exact keeps_ite (fun _ => (clear none d).trans ((finishLong_keeps _ _ _ _ _).mono (by decide))) (fun _ => Keeps.refl _ d)
    · exact Keeps.refl _ d
  have full : ∀ e : Dev, Keeps [.acq, .mbx] e (match e.acq.calFull with
      | some j => if !ok j.ain then finishLong j.slot 0x10 (stCode d.sys.st) [] { e with acq := { e.acq with calFull := none } }
        else e
      | none => e) := by
    intro e
    split
    · exact keeps_ite (fun _ => (clearF none e).trans ((finishLong_keeps _ _ _ _ _).mono (by decide))) (fun _ => Keeps.refl _ e)
    · exact Keeps.refl _ e
  exact zero.trans (full _)

theorem transition_keeps (target : OpState) (cause : Nat) (d : Dev) : Keeps trParts d (transition target cause d) := by
  unfold transition
  refine keeps_ite (fun _ => Keeps.refl _ d) (fun _ => ?_)
  refine Keeps.trans ?_ ((calAbort_keeps _ _).mono (by decide))
  refine Keeps.trans ?_ ((enterState_keeps _ _).mono (by decide))
  refine Keeps.trans ?_ ((raise_keeps _ _ _ _).mono (by decide))
  refine Keeps.trans (((probeState_keeps target d).mono (by decide)).trans ((leaveState_keeps _).mono (by decide))) ?_
  exact ⟨fun p hp => by cases p <;> first | rfl | exact absurd (by decide) hp⟩

theorem legsOut_keeps (d : Dev) : Keeps (.legs :: .setr :: .pv :: .prm :: evParts) d (legsOut d) := by
  unfold legsOut
  exact Keeps.trans (keeps_forAll 48 _ (fun n e => keeps_ite (fun _ => ((modLeg_keeps n _ e).mono (by decide)).trans
    ((sweepLegLost_keeps n _).mono (by decide))) (fun _ => Keeps.refl _ e)) d) ((keeps_setr _ _).mono (by decide))

theorem armWin_keeps (w : Nat) (d : Dev) : Keeps [.wins] d (armWin w d) :=
  keeps_ite (fun _ => modWin_keeps _ _ d) (fun _ => Keeps.refl _ d)

theorem armAll_keeps (d : Dev) : Keeps [.wins] d (armAll d) := keeps_forAll 56 _ armWin_keeps d

theorem wakeDomains_keeps (d : Dev) : Keeps [.wins, .clk, .cask] d (wakeDomains d) := by
  unfold wakeDomains
  refine Keeps.trans ?_ ((armAll_keeps _).mono (by decide))
  exact ⟨fun p hp => by cases p <;> first | rfl | exact absurd (by decide) hp⟩

theorem enterTrip_keeps (c : Nat) (d : Dev) : Keeps tripParts d (enterTrip c d) := by
  have mark : Keeps tripParts d
      (if 0x26 ≤ c ∧ c ≤ 0x29 ∧ d.pnd.role = 1 then { d with pnd := { d.pnd with fault := true } } else d) :=
    keeps_ite (fun _ => ⟨fun p hp => by cases p <;> first | rfl | exact absurd (by decide) hp⟩) (fun _ => Keeps.refl _ d)
  unfold enterTrip
  refine mark.trans ?_
  refine keeps_ite (fun _ => ⟨fun p hp => by cases p <;> first | rfl | exact absurd (by decide) hp⟩) (fun _ => ?_)
  refine keeps_ite (fun _ => ?_) (fun _ => Keeps.refl _ _)
  have demand : ∀ (b : Prop) [Decidable b] (g : Bool) (e f : Dev), Keeps tripParts e f →
      Keeps tripParts e (if b then gdDemand g f else f) := fun b _ g e f h =>
    keeps_ite (fun _ => h.trans ((gdDemand_keeps _ _).mono (by decide))) (fun _ => h)
  refine demand _ _ _ _ ?_
  refine Keeps.trans ?_ ((keeps_sys _ _).mono (by decide))
  refine Keeps.trans ?_ ((transition_keeps _ _ _).mono (by decide))
  refine Keeps.trans ?_ ((legsOut_keeps _).mono (by decide))
  refine Keeps.trans ?_ ((keeps_pwm _ _).mono (by decide))
  exact keeps_ite (fun _ => (wakeDomains_keeps _).mono (by decide)) (fun _ => Keeps.refl _ _)

theorem checkAc_keeps (d : Dev) : Keeps tripParts d (checkAc d) :=
  keeps_ite (fun _ => enterTrip_keeps _ d) (fun _ => Keeps.refl _ d)

theorem bridgeDown_keeps (n : Nat) (up : Bool) (d : Dev) : Keeps (.legs :: evParts) d (bridgeDown n up d) := by
  unfold bridgeDown
  split
  · exact Keeps.refl _ d
  · have down : ∀ (l : List Nat) (e : Dev), Keeps (.legs :: evParts) e (l.foldl (fun e m =>
        if m = n then e
        else if inSvc e m then modLeg m (fun x => { x with companion := true }) e
        else if (leg e m).entering then modLeg m (fun x => { x with entering := false, mayReturn := true }) e
        else e) e) := fun l e =>
      keeps_foldl _ (fun e m => keeps_ite (fun _ => Keeps.refl _ e) (fun _ => keeps_ite
        (fun _ => (modLeg_keeps m _ e).mono (by decide)) (fun _ => keeps_ite
        (fun _ => (modLeg_keeps m _ e).mono (by decide)) (fun _ => Keeps.refl _ e)))) l e
    exact keeps_ite (fun _ => (down _ _).trans ((raiseI_keeps _ _ _).mono (by decide))) (fun _ => down _ _)

theorem legOut_keeps (n : Nat) (back : Bool) (d : Dev) : Keeps tripParts d (legOut n back d) := by
  unfold legOut
  refine keeps_ite (fun _ => ?_) (fun _ => Keeps.refl _ d)
  refine Keeps.trans ?_ (keeps_ite (fun _ => checkAc_keeps _) (fun _ => Keeps.refl _ _))
  exact ((modLeg_keeps n _ d).mono (by decide)).trans (((keeps_setr _ _).mono (by decide)).trans
    (((sweepLegLost_keeps n _).mono (by decide)).trans ((bridgeDown_keeps n _ _).mono (by decide))))

theorem gdFault_keeps (code : Nat) (d : Dev) : Keeps tripParts d (gdFault code d) :=
  ((keeps_gd _ d).mono (by decide)).trans (((raiseI_keeps _ _ _).mono (by decide)).trans
    (((gdDemand_keeps _ _).mono (by decide)).trans (enterTrip_keeps _ _)))

theorem enterReady_keeps (cause : Nat) (d : Dev) : Keeps tripParts d (enterReady cause d) := by
  unfold enterReady
  have h : Keeps tripParts d (transition .ready cause { d with sys := { d.sys with standby := false } }) :=
    ((keeps_sys _ d).mono (by decide)).trans ((transition_keeps _ _ _).mono (by decide))
  exact keeps_ite (fun _ => h.trans (((raiseI_keeps _ _ _).mono (by decide)).trans (enterTrip_keeps _ _))) (fun _ => h)

end Sys2Proof.Safety
end

