-- ==== Sys2Proof/Laws/Runs.lean ====
section
/-!
SUPPORT. How a frame is read, how a command is shown to complete, and what the named updates do to each field.
-/
namespace Sys2Proof.Safety

open Sys2Proof.Machine

/-! ### Reading a frame -/

theorem Keeps.t {ps : List Part} {d e : Dev} (h : Keeps ps d e) (hp : Part.t ∉ ps) : e.t = d.t := (h.same .t hp).symm

theorem Keeps.sys {ps : List Part} {d e : Dev} (h : Keeps ps d e) (hp : Part.sys ∉ ps) : e.sys = d.sys := (h.same .sys hp).symm

theorem Keeps.ev {ps : List Part} {d e : Dev} (h : Keeps ps d e) (hp : Part.ev ∉ ps) : e.ev = d.ev := (h.same .ev hp).symm

theorem Keeps.pts {ps : List Part} {d e : Dev} (h : Keeps ps d e) (hp : Part.pts ∉ ps) : e.pts = d.pts := (h.same .pts hp).symm

theorem Keeps.lkt {ps : List Part} {d e : Dev} (h : Keeps ps d e) (hp : Part.lkt ∉ ps) : e.lkt = d.lkt := (h.same .lkt hp).symm

theorem Keeps.prm {ps : List Part} {d e : Dev} (h : Keeps ps d e) (hp : Part.prm ∉ ps) : e.prm = d.prm := (h.same .prm hp).symm

theorem Keeps.commit {ps : List Part} {d e : Dev} (h : Keeps ps d e) (hp : Part.commit ∉ ps) : e.commit = d.commit := (h.same .commit hp).symm

theorem Keeps.acq {ps : List Part} {d e : Dev} (h : Keeps ps d e) (hp : Part.acq ∉ ps) : e.acq = d.acq := (h.same .acq hp).symm

theorem Keeps.legs {ps : List Part} {d e : Dev} (h : Keeps ps d e) (hp : Part.legs ∉ ps) : e.legs = d.legs := (h.same .legs hp).symm

theorem Keeps.wins {ps : List Part} {d e : Dev} (h : Keeps ps d e) (hp : Part.wins ∉ ps) : e.wins = d.wins := (h.same .wins hp).symm

theorem Keeps.pwm {ps : List Part} {d e : Dev} (h : Keeps ps d e) (hp : Part.pwm ∉ ps) : e.pwm = d.pwm := (h.same .pwm hp).symm

theorem Keeps.gs {ps : List Part} {d e : Dev} (h : Keeps ps d e) (hp : Part.gs ∉ ps) : e.gs = d.gs := (h.same .gs hp).symm

theorem Keeps.rt {ps : List Part} {d e : Dev} (h : Keeps ps d e) (hp : Part.rt ∉ ps) : e.rt = d.rt := (h.same .rt hp).symm

theorem Keeps.charm {ps : List Part} {d e : Dev} (h : Keeps ps d e) (hp : Part.charm ∉ ps) : e.charm = d.charm := (h.same .charm hp).symm

theorem Keeps.pv {ps : List Part} {d e : Dev} (h : Keeps ps d e) (hp : Part.pv ∉ ps) : e.pv = d.pv := (h.same .pv hp).symm

theorem Keeps.setr {ps : List Part} {d e : Dev} (h : Keeps ps d e) (hp : Part.setr ∉ ps) : e.setr = d.setr := (h.same .setr hp).symm

theorem Keeps.loupe {ps : List Part} {d e : Dev} (h : Keeps ps d e) (hp : Part.loupe ∉ ps) : e.loupe = d.loupe := (h.same .loupe hp).symm

theorem Keeps.carat {ps : List Part} {d e : Dev} (h : Keeps ps d e) (hp : Part.carat ∉ ps) : e.carat = d.carat := (h.same .carat hp).symm

theorem Keeps.sec {ps : List Part} {d e : Dev} (h : Keeps ps d e) (hp : Part.sec ∉ ps) : e.sec = d.sec := (h.same .sec hp).symm

theorem Keeps.gd {ps : List Part} {d e : Dev} (h : Keeps ps d e) (hp : Part.gd ∉ ps) : e.gd = d.gd := (h.same .gd hp).symm

theorem Keeps.clasp {ps : List Part} {d e : Dev} (h : Keeps ps d e) (hp : Part.clasp ∉ ps) : e.clasp = d.clasp := (h.same .clasp hp).symm

theorem Keeps.clk {ps : List Part} {d e : Dev} (h : Keeps ps d e) (hp : Part.clk ∉ ps) : e.clk = d.clk := (h.same .clk hp).symm

theorem Keeps.hold {ps : List Part} {d e : Dev} (h : Keeps ps d e) (hp : Part.hold ∉ ps) : e.hold = d.hold := (h.same .hold hp).symm

theorem Keeps.boot {ps : List Part} {d e : Dev} (h : Keeps ps d e) (hp : Part.boot ∉ ps) : e.boot = d.boot := (h.same .boot hp).symm

theorem Keeps.can {ps : List Part} {d e : Dev} (h : Keeps ps d e) (hp : Part.can ∉ ps) : e.can = d.can := (h.same .can hp).symm

theorem Keeps.lanes {ps : List Part} {d e : Dev} (h : Keeps ps d e) (hp : Part.lanes ∉ ps) : e.lanes = d.lanes := (h.same .lanes hp).symm

theorem Keeps.eth {ps : List Part} {d e : Dev} (h : Keeps ps d e) (hp : Part.eth ∉ ps) : e.eth = d.eth := (h.same .eth hp).symm

theorem Keeps.chain {ps : List Part} {d e : Dev} (h : Keeps ps d e) (hp : Part.chain ∉ ps) : e.chain = d.chain := (h.same .chain hp).symm

theorem Keeps.time {ps : List Part} {d e : Dev} (h : Keeps ps d e) (hp : Part.time ∉ ps) : e.time = d.time := (h.same .time hp).symm

theorem Keeps.pnd {ps : List Part} {d e : Dev} (h : Keeps ps d e) (hp : Part.pnd ∉ ps) : e.pnd = d.pnd := (h.same .pnd hp).symm

theorem Keeps.free {ps : List Part} {d e : Dev} (h : Keeps ps d e) (hp : Part.free ∉ ps) : e.free = d.free := (h.same .free hp).symm

theorem Keeps.mbxSent {ps : List Part} {d e : Dev} (h : Keeps ps d e) (hp : Part.mbx ∉ ps) :
    e.mbx = { d.mbx with sent := e.mbx.sent, notifyT := e.mbx.notifyT } := by
  have := h.same .mbx hp
  simp only [samePart, Mailbox.mk.injEq] at this
  cases hm : e.mbx; cases hn : d.mbx
  simp_all

theorem Keeps.filTaps {ps : List Part} {d e : Dev} (h : Keeps ps d e) (hp : Part.fil ∉ ps) :
    e.fil = { d.fil with taps := e.fil.taps } := by
  have := h.same .fil hp
  simp only [samePart, Fil.mk.injEq] at this
  cases hm : e.fil; cases hn : d.fil
  simp_all

theorem Keeps.caskLost {ps : List Part} {d e : Dev} (h : Keeps ps d e) (hp : Part.cask ∉ ps) :
    e.cask = { d.cask with arcLost := e.cask.arcLost } := by
  have := h.same .cask hp
  simp only [samePart, Casket.mk.injEq] at this
  cases hm : e.cask; cases hn : d.cask
  simp_all

/-! ### Completion -/

/-- A command that acts on the device alone completes. -/
theorem runs_lift {c : Instr} {t : Nat} {s : State} {f : Dev → Dev} {ps : List Part} {post : Dev → Prop}
    (he : exec c s = lift t f s) (hk : Keeps ps { s.dev with t := t } (f { s.dev with t := t })) (ht : Part.t ∉ ps)
    (hp : post (f { s.dev with t := t })) : Runs c t s ps post :=
  ⟨_, he, hk.t ht, ⟨rfl, rfl, (Keeps.mono (keeps_t t s.dev) (by simp)).trans (hk.mono (by simp_all))⟩, hp⟩

/-! ### What raising an event leaves as it was -/

@[simp] theorem raise_t (e i : Nat) (v : List Byte) (d : Dev) : (raise e i v d).t = d.t := (raise_keeps e i v d).t (by decide)
@[simp] theorem raiseI_t (e i : Nat) (d : Dev) : (raiseI e i d).t = d.t := (raiseI_keeps e i d).t (by decide)

@[simp] theorem raise_sys (e i : Nat) (v : List Byte) (d : Dev) : (raise e i v d).sys = d.sys := (raise_keeps e i v d).sys (by decide)
@[simp] theorem raiseI_sys (e i : Nat) (d : Dev) : (raiseI e i d).sys = d.sys := (raiseI_keeps e i d).sys (by decide)

@[simp] theorem raise_pts (e i : Nat) (v : List Byte) (d : Dev) : (raise e i v d).pts = d.pts := (raise_keeps e i v d).pts (by decide)
@[simp] theorem raiseI_pts (e i : Nat) (d : Dev) : (raiseI e i d).pts = d.pts := (raiseI_keeps e i d).pts (by decide)

@[simp] theorem raise_lkt (e i : Nat) (v : List Byte) (d : Dev) : (raise e i v d).lkt = d.lkt := (raise_keeps e i v d).lkt (by decide)
@[simp] theorem raiseI_lkt (e i : Nat) (d : Dev) : (raiseI e i d).lkt = d.lkt := (raiseI_keeps e i d).lkt (by decide)

@[simp] theorem raise_prm (e i : Nat) (v : List Byte) (d : Dev) : (raise e i v d).prm = d.prm := (raise_keeps e i v d).prm (by decide)
@[simp] theorem raiseI_prm (e i : Nat) (d : Dev) : (raiseI e i d).prm = d.prm := (raiseI_keeps e i d).prm (by decide)

@[simp] theorem raise_commit (e i : Nat) (v : List Byte) (d : Dev) : (raise e i v d).commit = d.commit := (raise_keeps e i v d).commit (by decide)
@[simp] theorem raiseI_commit (e i : Nat) (d : Dev) : (raiseI e i d).commit = d.commit := (raiseI_keeps e i d).commit (by decide)

@[simp] theorem raise_acq (e i : Nat) (v : List Byte) (d : Dev) : (raise e i v d).acq = d.acq := (raise_keeps e i v d).acq (by decide)
@[simp] theorem raiseI_acq (e i : Nat) (d : Dev) : (raiseI e i d).acq = d.acq := (raiseI_keeps e i d).acq (by decide)

@[simp] theorem raise_legs (e i : Nat) (v : List Byte) (d : Dev) : (raise e i v d).legs = d.legs := (raise_keeps e i v d).legs (by decide)
@[simp] theorem raiseI_legs (e i : Nat) (d : Dev) : (raiseI e i d).legs = d.legs := (raiseI_keeps e i d).legs (by decide)

@[simp] theorem raise_wins (e i : Nat) (v : List Byte) (d : Dev) : (raise e i v d).wins = d.wins := (raise_keeps e i v d).wins (by decide)
@[simp] theorem raiseI_wins (e i : Nat) (d : Dev) : (raiseI e i d).wins = d.wins := (raiseI_keeps e i d).wins (by decide)

@[simp] theorem raise_pwm (e i : Nat) (v : List Byte) (d : Dev) : (raise e i v d).pwm = d.pwm := (raise_keeps e i v d).pwm (by decide)
@[simp] theorem raiseI_pwm (e i : Nat) (d : Dev) : (raiseI e i d).pwm = d.pwm := (raiseI_keeps e i d).pwm (by decide)

@[simp] theorem raise_gs (e i : Nat) (v : List Byte) (d : Dev) : (raise e i v d).gs = d.gs := (raise_keeps e i v d).gs (by decide)
@[simp] theorem raiseI_gs (e i : Nat) (d : Dev) : (raiseI e i d).gs = d.gs := (raiseI_keeps e i d).gs (by decide)

@[simp] theorem raise_rt (e i : Nat) (v : List Byte) (d : Dev) : (raise e i v d).rt = d.rt := (raise_keeps e i v d).rt (by decide)
@[simp] theorem raiseI_rt (e i : Nat) (d : Dev) : (raiseI e i d).rt = d.rt := (raiseI_keeps e i d).rt (by decide)

@[simp] theorem raise_charm (e i : Nat) (v : List Byte) (d : Dev) : (raise e i v d).charm = d.charm := (raise_keeps e i v d).charm (by decide)
@[simp] theorem raiseI_charm (e i : Nat) (d : Dev) : (raiseI e i d).charm = d.charm := (raiseI_keeps e i d).charm (by decide)

@[simp] theorem raise_pv (e i : Nat) (v : List Byte) (d : Dev) : (raise e i v d).pv = d.pv := (raise_keeps e i v d).pv (by decide)
@[simp] theorem raiseI_pv (e i : Nat) (d : Dev) : (raiseI e i d).pv = d.pv := (raiseI_keeps e i d).pv (by decide)

@[simp] theorem raise_setr (e i : Nat) (v : List Byte) (d : Dev) : (raise e i v d).setr = d.setr := (raise_keeps e i v d).setr (by decide)
@[simp] theorem raiseI_setr (e i : Nat) (d : Dev) : (raiseI e i d).setr = d.setr := (raiseI_keeps e i d).setr (by decide)

@[simp] theorem raise_carat (e i : Nat) (v : List Byte) (d : Dev) : (raise e i v d).carat = d.carat := (raise_keeps e i v d).carat (by decide)
@[simp] theorem raiseI_carat (e i : Nat) (d : Dev) : (raiseI e i d).carat = d.carat := (raiseI_keeps e i d).carat (by decide)

@[simp] theorem raise_sec (e i : Nat) (v : List Byte) (d : Dev) : (raise e i v d).sec = d.sec := (raise_keeps e i v d).sec (by decide)
@[simp] theorem raiseI_sec (e i : Nat) (d : Dev) : (raiseI e i d).sec = d.sec := (raiseI_keeps e i d).sec (by decide)

@[simp] theorem raise_gd (e i : Nat) (v : List Byte) (d : Dev) : (raise e i v d).gd = d.gd := (raise_keeps e i v d).gd (by decide)
@[simp] theorem raiseI_gd (e i : Nat) (d : Dev) : (raiseI e i d).gd = d.gd := (raiseI_keeps e i d).gd (by decide)

@[simp] theorem raise_clasp (e i : Nat) (v : List Byte) (d : Dev) : (raise e i v d).clasp = d.clasp := (raise_keeps e i v d).clasp (by decide)
@[simp] theorem raiseI_clasp (e i : Nat) (d : Dev) : (raiseI e i d).clasp = d.clasp := (raiseI_keeps e i d).clasp (by decide)

@[simp] theorem raise_clk (e i : Nat) (v : List Byte) (d : Dev) : (raise e i v d).clk = d.clk := (raise_keeps e i v d).clk (by decide)
@[simp] theorem raiseI_clk (e i : Nat) (d : Dev) : (raiseI e i d).clk = d.clk := (raiseI_keeps e i d).clk (by decide)

@[simp] theorem raise_hold (e i : Nat) (v : List Byte) (d : Dev) : (raise e i v d).hold = d.hold := (raise_keeps e i v d).hold (by decide)
@[simp] theorem raiseI_hold (e i : Nat) (d : Dev) : (raiseI e i d).hold = d.hold := (raiseI_keeps e i d).hold (by decide)

@[simp] theorem raise_boot (e i : Nat) (v : List Byte) (d : Dev) : (raise e i v d).boot = d.boot := (raise_keeps e i v d).boot (by decide)
@[simp] theorem raiseI_boot (e i : Nat) (d : Dev) : (raiseI e i d).boot = d.boot := (raiseI_keeps e i d).boot (by decide)

@[simp] theorem raise_can (e i : Nat) (v : List Byte) (d : Dev) : (raise e i v d).can = d.can := (raise_keeps e i v d).can (by decide)
@[simp] theorem raiseI_can (e i : Nat) (d : Dev) : (raiseI e i d).can = d.can := (raiseI_keeps e i d).can (by decide)

@[simp] theorem raise_eth (e i : Nat) (v : List Byte) (d : Dev) : (raise e i v d).eth = d.eth := (raise_keeps e i v d).eth (by decide)
@[simp] theorem raiseI_eth (e i : Nat) (d : Dev) : (raiseI e i d).eth = d.eth := (raiseI_keeps e i d).eth (by decide)

@[simp] theorem raise_time (e i : Nat) (v : List Byte) (d : Dev) : (raise e i v d).time = d.time := (raise_keeps e i v d).time (by decide)
@[simp] theorem raiseI_time (e i : Nat) (d : Dev) : (raiseI e i d).time = d.time := (raiseI_keeps e i d).time (by decide)

@[simp] theorem raise_pnd (e i : Nat) (v : List Byte) (d : Dev) : (raise e i v d).pnd = d.pnd := (raise_keeps e i v d).pnd (by decide)
@[simp] theorem raiseI_pnd (e i : Nat) (d : Dev) : (raiseI e i d).pnd = d.pnd := (raiseI_keeps e i d).pnd (by decide)

@[simp] theorem raise_mbx_busy (e i : Nat) (v : List Byte) (d : Dev) : (raise e i v d).mbx.busy = d.mbx.busy := by
  rw [(raise_keeps e i v d).mbxSent (by decide)]

@[simp] theorem raise_mbx_rung (e i : Nat) (v : List Byte) (d : Dev) : (raise e i v d).mbx.rung = d.mbx.rung := by
  rw [(raise_keeps e i v d).mbxSent (by decide)]

@[simp] theorem raise_mbx_long (e i : Nat) (v : List Byte) (d : Dev) : (raise e i v d).mbx.long = d.mbx.long := by
  rw [(raise_keeps e i v d).mbxSent (by decide)]

@[simp] theorem raise_mbx_done (e i : Nat) (v : List Byte) (d : Dev) : (raise e i v d).mbx.done = d.mbx.done := by
  rw [(raise_keeps e i v d).mbxSent (by decide)]

@[simp] theorem raise_mbx_tail (e i : Nat) (v : List Byte) (d : Dev) : (raise e i v d).mbx.tail = d.mbx.tail := by
  rw [(raise_keeps e i v d).mbxSent (by decide)]

@[simp] theorem raise_mbx_phase (e i : Nat) (v : List Byte) (d : Dev) : (raise e i v d).mbx.phase = d.mbx.phase := by
  rw [(raise_keeps e i v d).mbxSent (by decide)]

@[simp] theorem raise_mbx_head (e i : Nat) (v : List Byte) (d : Dev) : (raise e i v d).mbx.head = d.mbx.head := by
  rw [(raise_keeps e i v d).mbxSent (by decide)]

@[simp] theorem raise_mbx_unread (e i : Nat) (v : List Byte) (d : Dev) : (raise e i v d).mbx.unread = d.mbx.unread := by
  rw [(raise_keeps e i v d).mbxSent (by decide)]

@[simp] theorem raise_mbx_accErr (e i : Nat) (v : List Byte) (d : Dev) : (raise e i v d).mbx.accErr = d.mbx.accErr := by
  rw [(raise_keeps e i v d).mbxSent (by decide)]

@[simp] theorem raise_mbx_wrBusy (e i : Nat) (v : List Byte) (d : Dev) : (raise e i v d).mbx.wrBusy = d.mbx.wrBusy := by
  rw [(raise_keeps e i v d).mbxSent (by decide)]

@[simp] theorem raise_mbx_doorBusy (e i : Nat) (v : List Byte) (d : Dev) : (raise e i v d).mbx.doorBusy = d.mbx.doorBusy := by
  rw [(raise_keeps e i v d).mbxSent (by decide)]

@[simp] theorem raise_mbx_udpDrop (e i : Nat) (v : List Byte) (d : Dev) : (raise e i v d).mbx.udpDrop = d.mbx.udpDrop := by
  rw [(raise_keeps e i v d).mbxSent (by decide)]

@[simp] theorem raise_mbx_cqFull (e i : Nat) (v : List Byte) (d : Dev) : (raise e i v d).mbx.cqFull = d.mbx.cqFull := by
  rw [(raise_keeps e i v d).mbxSent (by decide)]

@[simp] theorem raise_mbx_paused (e i : Nat) (v : List Byte) (d : Dev) : (raise e i v d).mbx.paused = d.mbx.paused := by
  rw [(raise_keeps e i v d).mbxSent (by decide)]

@[simp] theorem raise_mbx_hostsel (e i : Nat) (v : List Byte) (d : Dev) : (raise e i v d).mbx.hostsel = d.mbx.hostsel := by
  rw [(raise_keeps e i v d).mbxSent (by decide)]

@[simp] theorem raise_mbx_lastStatus (e i : Nat) (v : List Byte) (d : Dev) : (raise e i v d).mbx.lastStatus = d.mbx.lastStatus := by
  rw [(raise_keeps e i v d).mbxSent (by decide)]

@[simp] theorem raise_mbx_lastDetail (e i : Nat) (v : List Byte) (d : Dev) : (raise e i v d).mbx.lastDetail = d.mbx.lastDetail := by
  rw [(raise_keeps e i v d).mbxSent (by decide)]

@[simp] theorem raise_mbx_sessOpen (e i : Nat) (v : List Byte) (d : Dev) : (raise e i v d).mbx.sessOpen = d.mbx.sessOpen := by
  rw [(raise_keeps e i v d).mbxSent (by decide)]

@[simp] theorem raise_mbx_sessClass (e i : Nat) (v : List Byte) (d : Dev) : (raise e i v d).mbx.sessClass = d.mbx.sessClass := by
  rw [(raise_keeps e i v d).mbxSent (by decide)]

@[simp] theorem raise_mbx_sessToken (e i : Nat) (v : List Byte) (d : Dev) : (raise e i v d).mbx.sessToken = d.mbx.sessToken := by
  rw [(raise_keeps e i v d).mbxSent (by decide)]

@[simp] theorem raise_mbx_sessLast (e i : Nat) (v : List Byte) (d : Dev) : (raise e i v d).mbx.sessLast = d.mbx.sessLast := by
  rw [(raise_keeps e i v d).mbxSent (by decide)]

@[simp] theorem raise_mbx_udpSrc (e i : Nat) (v : List Byte) (d : Dev) : (raise e i v d).mbx.udpSrc = d.mbx.udpSrc := by
  rw [(raise_keeps e i v d).mbxSent (by decide)]

@[simp] theorem raise_mbx_stored (e i : Nat) (v : List Byte) (d : Dev) : (raise e i v d).mbx.stored = d.mbx.stored := by
  rw [(raise_keeps e i v d).mbxSent (by decide)]

@[simp] theorem raise_mbx_lastSender (e i : Nat) (v : List Byte) (d : Dev) : (raise e i v d).mbx.lastSender = d.mbx.lastSender := by
  rw [(raise_keeps e i v d).mbxSent (by decide)]

@[simp] theorem raise_mbx_hostRd (e i : Nat) (v : List Byte) (d : Dev) : (raise e i v d).mbx.hostRd = d.mbx.hostRd := by
  rw [(raise_keeps e i v d).mbxSent (by decide)]

@[simp] theorem raise_mbx_heldPset (e i : Nat) (v : List Byte) (d : Dev) : (raise e i v d).mbx.heldPset = d.mbx.heldPset := by
  rw [(raise_keeps e i v d).mbxSent (by decide)]

@[simp] theorem raise_fil_bank (e i : Nat) (v : List Byte) (d : Dev) : (raise e i v d).fil.bank = d.fil.bank := by
  rw [(raise_keeps e i v d).filTaps (by decide)]

@[simp] theorem raise_fil_bank0 (e i : Nat) (v : List Byte) (d : Dev) : (raise e i v d).fil.bank0 = d.fil.bank0 := by
  rw [(raise_keeps e i v d).filTaps (by decide)]

@[simp] theorem raise_fil_bank1 (e i : Nat) (v : List Byte) (d : Dev) : (raise e i v d).fil.bank1 = d.fil.bank1 := by
  rw [(raise_keeps e i v d).filTaps (by decide)]

@[simp] theorem raise_fil_swapPend (e i : Nat) (v : List Byte) (d : Dev) : (raise e i v d).fil.swapPend = d.fil.swapPend := by
  rw [(raise_keeps e i v d).filTaps (by decide)]

@[simp] theorem raise_fil_copying (e i : Nat) (v : List Byte) (d : Dev) : (raise e i v d).fil.copying = d.fil.copying := by
  rw [(raise_keeps e i v d).filTaps (by decide)]

@[simp] theorem raise_fil_replay (e i : Nat) (v : List Byte) (d : Dev) : (raise e i v d).fil.replay = d.fil.replay := by
  rw [(raise_keeps e i v d).filTaps (by decide)]

@[simp] theorem raise_fil_rplHold (e i : Nat) (v : List Byte) (d : Dev) : (raise e i v d).fil.rplHold = d.fil.rplHold := by
  rw [(raise_keeps e i v d).filTaps (by decide)]

@[simp] theorem raise_fil_stateErr (e i : Nat) (v : List Byte) (d : Dev) : (raise e i v d).fil.stateErr = d.fil.stateErr := by
  rw [(raise_keeps e i v d).filTaps (by decide)]

@[simp] theorem raise_fil_haltAll (e i : Nat) (v : List Byte) (d : Dev) : (raise e i v d).fil.haltAll = d.fil.haltAll := by
  rw [(raise_keeps e i v d).filTaps (by decide)]

@[simp] theorem raise_fil_rplCnt (e i : Nat) (v : List Byte) (d : Dev) : (raise e i v d).fil.rplCnt = d.fil.rplCnt := by
  rw [(raise_keeps e i v d).filTaps (by decide)]

@[simp] theorem raise_fil_unc (e i : Nat) (v : List Byte) (d : Dev) : (raise e i v d).fil.unc = d.fil.unc := by
  rw [(raise_keeps e i v d).filTaps (by decide)]

@[simp] theorem raise_fil_checking (e i : Nat) (v : List Byte) (d : Dev) : (raise e i v d).fil.checking = d.fil.checking := by
  rw [(raise_keeps e i v d).filTaps (by decide)]

@[simp] theorem raise_fil_cycles (e i : Nat) (v : List Byte) (d : Dev) : (raise e i v d).fil.cycles = d.fil.cycles := by
  rw [(raise_keeps e i v d).filTaps (by decide)]

@[simp] theorem raise_fil_cyclesLast (e i : Nat) (v : List Byte) (d : Dev) : (raise e i v d).fil.cyclesLast = d.fil.cyclesLast := by
  rw [(raise_keeps e i v d).filTaps (by decide)]

@[simp] theorem raise_fil_rateEp (e i : Nat) (v : List Byte) (d : Dev) : (raise e i v d).fil.rateEp = d.fil.rateEp := by
  rw [(raise_keeps e i v d).filTaps (by decide)]

@[simp] theorem raise_fil_cas (e i : Nat) (v : List Byte) (d : Dev) : (raise e i v d).fil.cas = d.fil.cas := by
  rw [(raise_keeps e i v d).filTaps (by decide)]

@[simp] theorem raise_cask_up (e i : Nat) (v : List Byte) (d : Dev) : (raise e i v d).cask.up = d.cask.up := by
  rw [(raise_keeps e i v d).caskLost (by decide)]

@[simp] theorem raise_cask_selfref (e i : Nat) (v : List Byte) (d : Dev) : (raise e i v d).cask.selfref = d.cask.selfref := by
  rw [(raise_keeps e i v d).caskLost (by decide)]

@[simp] theorem raise_cask_size (e i : Nat) (v : List Byte) (d : Dev) : (raise e i v d).cask.size = d.cask.size := by
  rw [(raise_keeps e i v d).caskLost (by decide)]

@[simp] theorem raise_cask_unc (e i : Nat) (v : List Byte) (d : Dev) : (raise e i v d).cask.unc = d.cask.unc := by
  rw [(raise_keeps e i v d).caskLost (by decide)]

@[simp] theorem raise_cask_cfg (e i : Nat) (v : List Byte) (d : Dev) : (raise e i v d).cask.cfg = d.cask.cfg := by
  rw [(raise_keeps e i v d).caskLost (by decide)]

@[simp] theorem raise_cask_ceCnt (e i : Nat) (v : List Byte) (d : Dev) : (raise e i v d).cask.ceCnt = d.cask.ceCnt := by
  rw [(raise_keeps e i v d).caskLost (by decide)]

@[simp] theorem raise_cask_recs (e i : Nat) (v : List Byte) (d : Dev) : (raise e i v d).cask.recs = d.cask.recs := by
  rw [(raise_keeps e i v d).caskLost (by decide)]

@[simp] theorem raise_cask_nextId (e i : Nat) (v : List Byte) (d : Dev) : (raise e i v d).cask.nextId = d.cask.nextId := by
  rw [(raise_keeps e i v d).caskLost (by decide)]

@[simp] theorem raise_cask_archive (e i : Nat) (v : List Byte) (d : Dev) : (raise e i v d).cask.archive = d.cask.archive := by
  rw [(raise_keeps e i v d).caskLost (by decide)]

@[simp] theorem raiseI_mbx_busy (e i : Nat) (d : Dev) : (raiseI e i d).mbx.busy = d.mbx.busy := raise_mbx_busy e i [] d

@[simp] theorem raiseI_mbx_rung (e i : Nat) (d : Dev) : (raiseI e i d).mbx.rung = d.mbx.rung := raise_mbx_rung e i [] d

@[simp] theorem raiseI_mbx_long (e i : Nat) (d : Dev) : (raiseI e i d).mbx.long = d.mbx.long := raise_mbx_long e i [] d

@[simp] theorem raiseI_mbx_done (e i : Nat) (d : Dev) : (raiseI e i d).mbx.done = d.mbx.done := raise_mbx_done e i [] d

@[simp] theorem raiseI_mbx_tail (e i : Nat) (d : Dev) : (raiseI e i d).mbx.tail = d.mbx.tail := raise_mbx_tail e i [] d

@[simp] theorem raiseI_mbx_phase (e i : Nat) (d : Dev) : (raiseI e i d).mbx.phase = d.mbx.phase := raise_mbx_phase e i [] d

@[simp] theorem raiseI_mbx_head (e i : Nat) (d : Dev) : (raiseI e i d).mbx.head = d.mbx.head := raise_mbx_head e i [] d

@[simp] theorem raiseI_mbx_unread (e i : Nat) (d : Dev) : (raiseI e i d).mbx.unread = d.mbx.unread := raise_mbx_unread e i [] d

@[simp] theorem raiseI_mbx_accErr (e i : Nat) (d : Dev) : (raiseI e i d).mbx.accErr = d.mbx.accErr := raise_mbx_accErr e i [] d

@[simp] theorem raiseI_mbx_wrBusy (e i : Nat) (d : Dev) : (raiseI e i d).mbx.wrBusy = d.mbx.wrBusy := raise_mbx_wrBusy e i [] d

@[simp] theorem raiseI_mbx_doorBusy (e i : Nat) (d : Dev) : (raiseI e i d).mbx.doorBusy = d.mbx.doorBusy := raise_mbx_doorBusy e i [] d

@[simp] theorem raiseI_mbx_udpDrop (e i : Nat) (d : Dev) : (raiseI e i d).mbx.udpDrop = d.mbx.udpDrop := raise_mbx_udpDrop e i [] d

@[simp] theorem raiseI_mbx_cqFull (e i : Nat) (d : Dev) : (raiseI e i d).mbx.cqFull = d.mbx.cqFull := raise_mbx_cqFull e i [] d

@[simp] theorem raiseI_mbx_paused (e i : Nat) (d : Dev) : (raiseI e i d).mbx.paused = d.mbx.paused := raise_mbx_paused e i [] d

@[simp] theorem raiseI_mbx_hostsel (e i : Nat) (d : Dev) : (raiseI e i d).mbx.hostsel = d.mbx.hostsel := raise_mbx_hostsel e i [] d

@[simp] theorem raiseI_mbx_lastStatus (e i : Nat) (d : Dev) : (raiseI e i d).mbx.lastStatus = d.mbx.lastStatus := raise_mbx_lastStatus e i [] d

@[simp] theorem raiseI_mbx_lastDetail (e i : Nat) (d : Dev) : (raiseI e i d).mbx.lastDetail = d.mbx.lastDetail := raise_mbx_lastDetail e i [] d

@[simp] theorem raiseI_mbx_sessOpen (e i : Nat) (d : Dev) : (raiseI e i d).mbx.sessOpen = d.mbx.sessOpen := raise_mbx_sessOpen e i [] d

@[simp] theorem raiseI_mbx_sessClass (e i : Nat) (d : Dev) : (raiseI e i d).mbx.sessClass = d.mbx.sessClass := raise_mbx_sessClass e i [] d

@[simp] theorem raiseI_mbx_sessToken (e i : Nat) (d : Dev) : (raiseI e i d).mbx.sessToken = d.mbx.sessToken := raise_mbx_sessToken e i [] d

@[simp] theorem raiseI_mbx_sessLast (e i : Nat) (d : Dev) : (raiseI e i d).mbx.sessLast = d.mbx.sessLast := raise_mbx_sessLast e i [] d

@[simp] theorem raiseI_mbx_udpSrc (e i : Nat) (d : Dev) : (raiseI e i d).mbx.udpSrc = d.mbx.udpSrc := raise_mbx_udpSrc e i [] d

@[simp] theorem raiseI_mbx_stored (e i : Nat) (d : Dev) : (raiseI e i d).mbx.stored = d.mbx.stored := raise_mbx_stored e i [] d

@[simp] theorem raiseI_mbx_lastSender (e i : Nat) (d : Dev) : (raiseI e i d).mbx.lastSender = d.mbx.lastSender := raise_mbx_lastSender e i [] d

@[simp] theorem raiseI_mbx_hostRd (e i : Nat) (d : Dev) : (raiseI e i d).mbx.hostRd = d.mbx.hostRd := raise_mbx_hostRd e i [] d

@[simp] theorem raiseI_mbx_heldPset (e i : Nat) (d : Dev) : (raiseI e i d).mbx.heldPset = d.mbx.heldPset := raise_mbx_heldPset e i [] d

@[simp] theorem raiseI_fil_bank (e i : Nat) (d : Dev) : (raiseI e i d).fil.bank = d.fil.bank := raise_fil_bank e i [] d

@[simp] theorem raiseI_fil_bank0 (e i : Nat) (d : Dev) : (raiseI e i d).fil.bank0 = d.fil.bank0 := raise_fil_bank0 e i [] d

@[simp] theorem raiseI_fil_bank1 (e i : Nat) (d : Dev) : (raiseI e i d).fil.bank1 = d.fil.bank1 := raise_fil_bank1 e i [] d

@[simp] theorem raiseI_fil_swapPend (e i : Nat) (d : Dev) : (raiseI e i d).fil.swapPend = d.fil.swapPend := raise_fil_swapPend e i [] d

@[simp] theorem raiseI_fil_copying (e i : Nat) (d : Dev) : (raiseI e i d).fil.copying = d.fil.copying := raise_fil_copying e i [] d

@[simp] theorem raiseI_fil_replay (e i : Nat) (d : Dev) : (raiseI e i d).fil.replay = d.fil.replay := raise_fil_replay e i [] d

@[simp] theorem raiseI_fil_rplHold (e i : Nat) (d : Dev) : (raiseI e i d).fil.rplHold = d.fil.rplHold := raise_fil_rplHold e i [] d

@[simp] theorem raiseI_fil_stateErr (e i : Nat) (d : Dev) : (raiseI e i d).fil.stateErr = d.fil.stateErr := raise_fil_stateErr e i [] d

@[simp] theorem raiseI_fil_haltAll (e i : Nat) (d : Dev) : (raiseI e i d).fil.haltAll = d.fil.haltAll := raise_fil_haltAll e i [] d

@[simp] theorem raiseI_fil_rplCnt (e i : Nat) (d : Dev) : (raiseI e i d).fil.rplCnt = d.fil.rplCnt := raise_fil_rplCnt e i [] d

@[simp] theorem raiseI_fil_unc (e i : Nat) (d : Dev) : (raiseI e i d).fil.unc = d.fil.unc := raise_fil_unc e i [] d

@[simp] theorem raiseI_fil_checking (e i : Nat) (d : Dev) : (raiseI e i d).fil.checking = d.fil.checking := raise_fil_checking e i [] d

@[simp] theorem raiseI_fil_cycles (e i : Nat) (d : Dev) : (raiseI e i d).fil.cycles = d.fil.cycles := raise_fil_cycles e i [] d

@[simp] theorem raiseI_fil_cyclesLast (e i : Nat) (d : Dev) : (raiseI e i d).fil.cyclesLast = d.fil.cyclesLast := raise_fil_cyclesLast e i [] d

@[simp] theorem raiseI_fil_rateEp (e i : Nat) (d : Dev) : (raiseI e i d).fil.rateEp = d.fil.rateEp := raise_fil_rateEp e i [] d

@[simp] theorem raiseI_fil_cas (e i : Nat) (d : Dev) : (raiseI e i d).fil.cas = d.fil.cas := raise_fil_cas e i [] d

@[simp] theorem raiseI_cask_up (e i : Nat) (d : Dev) : (raiseI e i d).cask.up = d.cask.up := raise_cask_up e i [] d

@[simp] theorem raiseI_cask_selfref (e i : Nat) (d : Dev) : (raiseI e i d).cask.selfref = d.cask.selfref := raise_cask_selfref e i [] d

@[simp] theorem raiseI_cask_size (e i : Nat) (d : Dev) : (raiseI e i d).cask.size = d.cask.size := raise_cask_size e i [] d

@[simp] theorem raiseI_cask_unc (e i : Nat) (d : Dev) : (raiseI e i d).cask.unc = d.cask.unc := raise_cask_unc e i [] d

@[simp] theorem raiseI_cask_cfg (e i : Nat) (d : Dev) : (raiseI e i d).cask.cfg = d.cask.cfg := raise_cask_cfg e i [] d

@[simp] theorem raiseI_cask_ceCnt (e i : Nat) (d : Dev) : (raiseI e i d).cask.ceCnt = d.cask.ceCnt := raise_cask_ceCnt e i [] d

@[simp] theorem raiseI_cask_recs (e i : Nat) (d : Dev) : (raiseI e i d).cask.recs = d.cask.recs := raise_cask_recs e i [] d

@[simp] theorem raiseI_cask_nextId (e i : Nat) (d : Dev) : (raiseI e i d).cask.nextId = d.cask.nextId := raise_cask_nextId e i [] d

@[simp] theorem raiseI_cask_archive (e i : Nat) (d : Dev) : (raiseI e i d).cask.archive = d.cask.archive := raise_cask_archive e i [] d

/-! ### What raising an event does -/

theorem tapTriggers_ev (code : Nat) (d : Dev) : (tapTriggers code d).ev = d.ev := (tapTriggers_keeps code d).ev (by decide)

theorem triggers_ev (code inst : Nat) (d : Dev) : (triggers code inst d).ev = d.ev := (triggers_keeps code inst d).ev (by decide)

theorem sendNotice_ev (d : Dev) : (sendNotice d).ev = d.ev := (sendNotice_keeps d).ev (by decide)

/-- Before READY no event is raised (R541). -/
theorem raise_down (e i : Nat) (v : List Byte) (d : Dev) (h : d.sys.up = false) : raise e i v d = d := by
  simp [raise, h]

/-- From READY on an event becomes pending and enters the log (R367, R368). -/
theorem raise_ev (e i : Nat) (v : List Byte) (d : Dev) (h : d.sys.up = true) : (raise e i v d).ev = { d.ev with
    pend := d.ev.pend ||| BitVec.twoPow 128 e, seq := (d.ev.seq + 1) % 2 ^ 32,
    log := ((⟨d.ev.seq + 1, e, stCode d.sys.st, tNs d, stamp d, i, v⟩ : LogEntry) :: d.ev.log).take 4096 } := by
  unfold raise
  simp only [h, if_true, tapTriggers_ev, triggers_ev]
  split <;> simp [sendNotice_ev]

theorem raise_pending (e i : Nat) (v : List Byte) (d : Dev) (h : d.sys.up = true) (he : e < 128) :
    Pending e (raise e i v d) := by
  simp [Pending, raise_ev e i v d h, he]

theorem raiseI_pending (e i : Nat) (d : Dev) (h : d.sys.up = true) (he : e < 128) : Pending e (raiseI e i d) :=
  raise_pending e i [] d h he

end Sys2Proof.Safety
end

