-- ==== Sys2Proof/Laws/State.lean ====
section
/-!
SUPPORT. What each named update of the device does to each of its fields.
-/
namespace Sys2Proof.Machine

/-! ### `setPrm` -/

@[simp] theorem setPrm_t (pid i v : Nat) (d : Dev) : (setPrm pid i v d).t = d.t := rfl
@[simp] theorem setPrm_sys (pid i v : Nat) (d : Dev) : (setPrm pid i v d).sys = d.sys := rfl
@[simp] theorem setPrm_ev (pid i v : Nat) (d : Dev) : (setPrm pid i v d).ev = d.ev := rfl
@[simp] theorem setPrm_mbx (pid i v : Nat) (d : Dev) : (setPrm pid i v d).mbx = d.mbx := rfl
@[simp] theorem setPrm_pts (pid i v : Nat) (d : Dev) : (setPrm pid i v d).pts = d.pts := rfl
@[simp] theorem setPrm_lkt (pid i v : Nat) (d : Dev) : (setPrm pid i v d).lkt = d.lkt := rfl
@[simp] theorem setPrm_prm (pid i v : Nat) (d : Dev) : (setPrm pid i v d).prm = { d.prm with active := tput (factory pid i) (pkey pid i) v d.prm.active } := rfl
@[simp] theorem setPrm_commit (pid i v : Nat) (d : Dev) : (setPrm pid i v d).commit = d.commit := rfl
@[simp] theorem setPrm_acq (pid i v : Nat) (d : Dev) : (setPrm pid i v d).acq = d.acq := rfl
@[simp] theorem setPrm_fil (pid i v : Nat) (d : Dev) : (setPrm pid i v d).fil = d.fil := rfl
@[simp] theorem setPrm_legs (pid i v : Nat) (d : Dev) : (setPrm pid i v d).legs = d.legs := rfl
@[simp] theorem setPrm_wins (pid i v : Nat) (d : Dev) : (setPrm pid i v d).wins = d.wins := rfl
@[simp] theorem setPrm_pwm (pid i v : Nat) (d : Dev) : (setPrm pid i v d).pwm = d.pwm := rfl
@[simp] theorem setPrm_gs (pid i v : Nat) (d : Dev) : (setPrm pid i v d).gs = d.gs := rfl
@[simp] theorem setPrm_rt (pid i v : Nat) (d : Dev) : (setPrm pid i v d).rt = d.rt := rfl
@[simp] theorem setPrm_charm (pid i v : Nat) (d : Dev) : (setPrm pid i v d).charm = d.charm := rfl
@[simp] theorem setPrm_pv (pid i v : Nat) (d : Dev) : (setPrm pid i v d).pv = d.pv := rfl
@[simp] theorem setPrm_setr (pid i v : Nat) (d : Dev) : (setPrm pid i v d).setr = d.setr := rfl
@[simp] theorem setPrm_loupe (pid i v : Nat) (d : Dev) : (setPrm pid i v d).loupe = d.loupe := rfl
@[simp] theorem setPrm_cask (pid i v : Nat) (d : Dev) : (setPrm pid i v d).cask = d.cask := rfl
@[simp] theorem setPrm_carat (pid i v : Nat) (d : Dev) : (setPrm pid i v d).carat = d.carat := rfl
@[simp] theorem setPrm_sec (pid i v : Nat) (d : Dev) : (setPrm pid i v d).sec = d.sec := rfl
@[simp] theorem setPrm_gd (pid i v : Nat) (d : Dev) : (setPrm pid i v d).gd = d.gd := rfl
@[simp] theorem setPrm_clasp (pid i v : Nat) (d : Dev) : (setPrm pid i v d).clasp = d.clasp := rfl
@[simp] theorem setPrm_clk (pid i v : Nat) (d : Dev) : (setPrm pid i v d).clk = d.clk := rfl
@[simp] theorem setPrm_hold (pid i v : Nat) (d : Dev) : (setPrm pid i v d).hold = d.hold := rfl
@[simp] theorem setPrm_boot (pid i v : Nat) (d : Dev) : (setPrm pid i v d).boot = d.boot := rfl
@[simp] theorem setPrm_can (pid i v : Nat) (d : Dev) : (setPrm pid i v d).can = d.can := rfl
@[simp] theorem setPrm_lanes (pid i v : Nat) (d : Dev) : (setPrm pid i v d).lanes = d.lanes := rfl
@[simp] theorem setPrm_eth (pid i v : Nat) (d : Dev) : (setPrm pid i v d).eth = d.eth := rfl
@[simp] theorem setPrm_chain (pid i v : Nat) (d : Dev) : (setPrm pid i v d).chain = d.chain := rfl
@[simp] theorem setPrm_time (pid i v : Nat) (d : Dev) : (setPrm pid i v d).time = d.time := rfl
@[simp] theorem setPrm_pnd (pid i v : Nat) (d : Dev) : (setPrm pid i v d).pnd = d.pnd := rfl
@[simp] theorem setPrm_free (pid i v : Nat) (d : Dev) : (setPrm pid i v d).free = d.free := rfl

/-! ### `modUnit` -/

@[simp] theorem modUnit_t (u : Nat) (f : RecUnit → RecUnit) (d : Dev) : (modUnit u f d).t = d.t := rfl
@[simp] theorem modUnit_sys (u : Nat) (f : RecUnit → RecUnit) (d : Dev) : (modUnit u f d).sys = d.sys := rfl
@[simp] theorem modUnit_ev (u : Nat) (f : RecUnit → RecUnit) (d : Dev) : (modUnit u f d).ev = d.ev := rfl
@[simp] theorem modUnit_mbx (u : Nat) (f : RecUnit → RecUnit) (d : Dev) : (modUnit u f d).mbx = d.mbx := rfl
@[simp] theorem modUnit_pts (u : Nat) (f : RecUnit → RecUnit) (d : Dev) : (modUnit u f d).pts = d.pts := rfl
@[simp] theorem modUnit_lkt (u : Nat) (f : RecUnit → RecUnit) (d : Dev) : (modUnit u f d).lkt = d.lkt := rfl
@[simp] theorem modUnit_prm (u : Nat) (f : RecUnit → RecUnit) (d : Dev) : (modUnit u f d).prm = d.prm := rfl
@[simp] theorem modUnit_commit (u : Nat) (f : RecUnit → RecUnit) (d : Dev) : (modUnit u f d).commit = d.commit := rfl
@[simp] theorem modUnit_acq (u : Nat) (f : RecUnit → RecUnit) (d : Dev) : (modUnit u f d).acq = d.acq := rfl
@[simp] theorem modUnit_fil (u : Nat) (f : RecUnit → RecUnit) (d : Dev) : (modUnit u f d).fil = d.fil := rfl
@[simp] theorem modUnit_legs (u : Nat) (f : RecUnit → RecUnit) (d : Dev) : (modUnit u f d).legs = d.legs := rfl
@[simp] theorem modUnit_wins (u : Nat) (f : RecUnit → RecUnit) (d : Dev) : (modUnit u f d).wins = d.wins := rfl
@[simp] theorem modUnit_pwm (u : Nat) (f : RecUnit → RecUnit) (d : Dev) : (modUnit u f d).pwm = d.pwm := rfl
@[simp] theorem modUnit_gs (u : Nat) (f : RecUnit → RecUnit) (d : Dev) : (modUnit u f d).gs = d.gs := rfl
@[simp] theorem modUnit_rt (u : Nat) (f : RecUnit → RecUnit) (d : Dev) : (modUnit u f d).rt = d.rt := rfl
@[simp] theorem modUnit_charm (u : Nat) (f : RecUnit → RecUnit) (d : Dev) : (modUnit u f d).charm = d.charm := rfl
@[simp] theorem modUnit_pv (u : Nat) (f : RecUnit → RecUnit) (d : Dev) : (modUnit u f d).pv = d.pv := rfl
@[simp] theorem modUnit_setr (u : Nat) (f : RecUnit → RecUnit) (d : Dev) : (modUnit u f d).setr = d.setr := rfl
@[simp] theorem modUnit_loupe (u : Nat) (f : RecUnit → RecUnit) (d : Dev) : (modUnit u f d).loupe = { d.loupe with units := tmod {} u f d.loupe.units } := rfl
@[simp] theorem modUnit_cask (u : Nat) (f : RecUnit → RecUnit) (d : Dev) : (modUnit u f d).cask = d.cask := rfl
@[simp] theorem modUnit_carat (u : Nat) (f : RecUnit → RecUnit) (d : Dev) : (modUnit u f d).carat = d.carat := rfl
@[simp] theorem modUnit_sec (u : Nat) (f : RecUnit → RecUnit) (d : Dev) : (modUnit u f d).sec = d.sec := rfl
@[simp] theorem modUnit_gd (u : Nat) (f : RecUnit → RecUnit) (d : Dev) : (modUnit u f d).gd = d.gd := rfl
@[simp] theorem modUnit_clasp (u : Nat) (f : RecUnit → RecUnit) (d : Dev) : (modUnit u f d).clasp = d.clasp := rfl
@[simp] theorem modUnit_clk (u : Nat) (f : RecUnit → RecUnit) (d : Dev) : (modUnit u f d).clk = d.clk := rfl
@[simp] theorem modUnit_hold (u : Nat) (f : RecUnit → RecUnit) (d : Dev) : (modUnit u f d).hold = d.hold := rfl
@[simp] theorem modUnit_boot (u : Nat) (f : RecUnit → RecUnit) (d : Dev) : (modUnit u f d).boot = d.boot := rfl
@[simp] theorem modUnit_can (u : Nat) (f : RecUnit → RecUnit) (d : Dev) : (modUnit u f d).can = d.can := rfl
@[simp] theorem modUnit_lanes (u : Nat) (f : RecUnit → RecUnit) (d : Dev) : (modUnit u f d).lanes = d.lanes := rfl
@[simp] theorem modUnit_eth (u : Nat) (f : RecUnit → RecUnit) (d : Dev) : (modUnit u f d).eth = d.eth := rfl
@[simp] theorem modUnit_chain (u : Nat) (f : RecUnit → RecUnit) (d : Dev) : (modUnit u f d).chain = d.chain := rfl
@[simp] theorem modUnit_time (u : Nat) (f : RecUnit → RecUnit) (d : Dev) : (modUnit u f d).time = d.time := rfl
@[simp] theorem modUnit_pnd (u : Nat) (f : RecUnit → RecUnit) (d : Dev) : (modUnit u f d).pnd = d.pnd := rfl
@[simp] theorem modUnit_free (u : Nat) (f : RecUnit → RecUnit) (d : Dev) : (modUnit u f d).free = d.free := rfl

/-! ### `modTap` -/

@[simp] theorem modTap_t (k : Nat) (f : Tap → Tap) (d : Dev) : (modTap k f d).t = d.t := rfl
@[simp] theorem modTap_sys (k : Nat) (f : Tap → Tap) (d : Dev) : (modTap k f d).sys = d.sys := rfl
@[simp] theorem modTap_ev (k : Nat) (f : Tap → Tap) (d : Dev) : (modTap k f d).ev = d.ev := rfl
@[simp] theorem modTap_mbx (k : Nat) (f : Tap → Tap) (d : Dev) : (modTap k f d).mbx = d.mbx := rfl
@[simp] theorem modTap_pts (k : Nat) (f : Tap → Tap) (d : Dev) : (modTap k f d).pts = d.pts := rfl
@[simp] theorem modTap_lkt (k : Nat) (f : Tap → Tap) (d : Dev) : (modTap k f d).lkt = d.lkt := rfl
@[simp] theorem modTap_prm (k : Nat) (f : Tap → Tap) (d : Dev) : (modTap k f d).prm = d.prm := rfl
@[simp] theorem modTap_commit (k : Nat) (f : Tap → Tap) (d : Dev) : (modTap k f d).commit = d.commit := rfl
@[simp] theorem modTap_acq (k : Nat) (f : Tap → Tap) (d : Dev) : (modTap k f d).acq = d.acq := rfl
@[simp] theorem modTap_fil (k : Nat) (f : Tap → Tap) (d : Dev) : (modTap k f d).fil = { d.fil with taps := tmod {} k f d.fil.taps } := rfl
@[simp] theorem modTap_legs (k : Nat) (f : Tap → Tap) (d : Dev) : (modTap k f d).legs = d.legs := rfl
@[simp] theorem modTap_wins (k : Nat) (f : Tap → Tap) (d : Dev) : (modTap k f d).wins = d.wins := rfl
@[simp] theorem modTap_pwm (k : Nat) (f : Tap → Tap) (d : Dev) : (modTap k f d).pwm = d.pwm := rfl
@[simp] theorem modTap_gs (k : Nat) (f : Tap → Tap) (d : Dev) : (modTap k f d).gs = d.gs := rfl
@[simp] theorem modTap_rt (k : Nat) (f : Tap → Tap) (d : Dev) : (modTap k f d).rt = d.rt := rfl
@[simp] theorem modTap_charm (k : Nat) (f : Tap → Tap) (d : Dev) : (modTap k f d).charm = d.charm := rfl
@[simp] theorem modTap_pv (k : Nat) (f : Tap → Tap) (d : Dev) : (modTap k f d).pv = d.pv := rfl
@[simp] theorem modTap_setr (k : Nat) (f : Tap → Tap) (d : Dev) : (modTap k f d).setr = d.setr := rfl
@[simp] theorem modTap_loupe (k : Nat) (f : Tap → Tap) (d : Dev) : (modTap k f d).loupe = d.loupe := rfl
@[simp] theorem modTap_cask (k : Nat) (f : Tap → Tap) (d : Dev) : (modTap k f d).cask = d.cask := rfl
@[simp] theorem modTap_carat (k : Nat) (f : Tap → Tap) (d : Dev) : (modTap k f d).carat = d.carat := rfl
@[simp] theorem modTap_sec (k : Nat) (f : Tap → Tap) (d : Dev) : (modTap k f d).sec = d.sec := rfl
@[simp] theorem modTap_gd (k : Nat) (f : Tap → Tap) (d : Dev) : (modTap k f d).gd = d.gd := rfl
@[simp] theorem modTap_clasp (k : Nat) (f : Tap → Tap) (d : Dev) : (modTap k f d).clasp = d.clasp := rfl
@[simp] theorem modTap_clk (k : Nat) (f : Tap → Tap) (d : Dev) : (modTap k f d).clk = d.clk := rfl
@[simp] theorem modTap_hold (k : Nat) (f : Tap → Tap) (d : Dev) : (modTap k f d).hold = d.hold := rfl
@[simp] theorem modTap_boot (k : Nat) (f : Tap → Tap) (d : Dev) : (modTap k f d).boot = d.boot := rfl
@[simp] theorem modTap_can (k : Nat) (f : Tap → Tap) (d : Dev) : (modTap k f d).can = d.can := rfl
@[simp] theorem modTap_lanes (k : Nat) (f : Tap → Tap) (d : Dev) : (modTap k f d).lanes = d.lanes := rfl
@[simp] theorem modTap_eth (k : Nat) (f : Tap → Tap) (d : Dev) : (modTap k f d).eth = d.eth := rfl
@[simp] theorem modTap_chain (k : Nat) (f : Tap → Tap) (d : Dev) : (modTap k f d).chain = d.chain := rfl
@[simp] theorem modTap_time (k : Nat) (f : Tap → Tap) (d : Dev) : (modTap k f d).time = d.time := rfl
@[simp] theorem modTap_pnd (k : Nat) (f : Tap → Tap) (d : Dev) : (modTap k f d).pnd = d.pnd := rfl
@[simp] theorem modTap_free (k : Nat) (f : Tap → Tap) (d : Dev) : (modTap k f d).free = d.free := rfl

/-! ### `modLane` -/

@[simp] theorem modLane_t (k : Nat) (f : Lane → Lane) (d : Dev) : (modLane k f d).t = d.t := rfl
@[simp] theorem modLane_sys (k : Nat) (f : Lane → Lane) (d : Dev) : (modLane k f d).sys = d.sys := rfl
@[simp] theorem modLane_ev (k : Nat) (f : Lane → Lane) (d : Dev) : (modLane k f d).ev = d.ev := rfl
@[simp] theorem modLane_mbx (k : Nat) (f : Lane → Lane) (d : Dev) : (modLane k f d).mbx = d.mbx := rfl
@[simp] theorem modLane_pts (k : Nat) (f : Lane → Lane) (d : Dev) : (modLane k f d).pts = d.pts := rfl
@[simp] theorem modLane_lkt (k : Nat) (f : Lane → Lane) (d : Dev) : (modLane k f d).lkt = d.lkt := rfl
@[simp] theorem modLane_prm (k : Nat) (f : Lane → Lane) (d : Dev) : (modLane k f d).prm = d.prm := rfl
@[simp] theorem modLane_commit (k : Nat) (f : Lane → Lane) (d : Dev) : (modLane k f d).commit = d.commit := rfl
@[simp] theorem modLane_acq (k : Nat) (f : Lane → Lane) (d : Dev) : (modLane k f d).acq = d.acq := rfl
@[simp] theorem modLane_fil (k : Nat) (f : Lane → Lane) (d : Dev) : (modLane k f d).fil = d.fil := rfl
@[simp] theorem modLane_legs (k : Nat) (f : Lane → Lane) (d : Dev) : (modLane k f d).legs = d.legs := rfl
@[simp] theorem modLane_wins (k : Nat) (f : Lane → Lane) (d : Dev) : (modLane k f d).wins = d.wins := rfl
@[simp] theorem modLane_pwm (k : Nat) (f : Lane → Lane) (d : Dev) : (modLane k f d).pwm = d.pwm := rfl
@[simp] theorem modLane_gs (k : Nat) (f : Lane → Lane) (d : Dev) : (modLane k f d).gs = d.gs := rfl
@[simp] theorem modLane_rt (k : Nat) (f : Lane → Lane) (d : Dev) : (modLane k f d).rt = d.rt := rfl
@[simp] theorem modLane_charm (k : Nat) (f : Lane → Lane) (d : Dev) : (modLane k f d).charm = d.charm := rfl
@[simp] theorem modLane_pv (k : Nat) (f : Lane → Lane) (d : Dev) : (modLane k f d).pv = d.pv := rfl
@[simp] theorem modLane_setr (k : Nat) (f : Lane → Lane) (d : Dev) : (modLane k f d).setr = d.setr := rfl
@[simp] theorem modLane_loupe (k : Nat) (f : Lane → Lane) (d : Dev) : (modLane k f d).loupe = d.loupe := rfl
@[simp] theorem modLane_cask (k : Nat) (f : Lane → Lane) (d : Dev) : (modLane k f d).cask = d.cask := rfl
@[simp] theorem modLane_carat (k : Nat) (f : Lane → Lane) (d : Dev) : (modLane k f d).carat = d.carat := rfl
@[simp] theorem modLane_sec (k : Nat) (f : Lane → Lane) (d : Dev) : (modLane k f d).sec = d.sec := rfl
@[simp] theorem modLane_gd (k : Nat) (f : Lane → Lane) (d : Dev) : (modLane k f d).gd = d.gd := rfl
@[simp] theorem modLane_clasp (k : Nat) (f : Lane → Lane) (d : Dev) : (modLane k f d).clasp = d.clasp := rfl
@[simp] theorem modLane_clk (k : Nat) (f : Lane → Lane) (d : Dev) : (modLane k f d).clk = d.clk := rfl
@[simp] theorem modLane_hold (k : Nat) (f : Lane → Lane) (d : Dev) : (modLane k f d).hold = d.hold := rfl
@[simp] theorem modLane_boot (k : Nat) (f : Lane → Lane) (d : Dev) : (modLane k f d).boot = d.boot := rfl
@[simp] theorem modLane_can (k : Nat) (f : Lane → Lane) (d : Dev) : (modLane k f d).can = d.can := rfl
@[simp] theorem modLane_lanes (k : Nat) (f : Lane → Lane) (d : Dev) : (modLane k f d).lanes = tmod {} k f d.lanes := rfl
@[simp] theorem modLane_eth (k : Nat) (f : Lane → Lane) (d : Dev) : (modLane k f d).eth = d.eth := rfl
@[simp] theorem modLane_chain (k : Nat) (f : Lane → Lane) (d : Dev) : (modLane k f d).chain = d.chain := rfl
@[simp] theorem modLane_time (k : Nat) (f : Lane → Lane) (d : Dev) : (modLane k f d).time = d.time := rfl
@[simp] theorem modLane_pnd (k : Nat) (f : Lane → Lane) (d : Dev) : (modLane k f d).pnd = d.pnd := rfl
@[simp] theorem modLane_free (k : Nat) (f : Lane → Lane) (d : Dev) : (modLane k f d).free = d.free := rfl

/-! ### `modLeg` -/

@[simp] theorem modLeg_t (n : Nat) (f : Leg → Leg) (d : Dev) : (modLeg n f d).t = d.t := rfl
@[simp] theorem modLeg_sys (n : Nat) (f : Leg → Leg) (d : Dev) : (modLeg n f d).sys = d.sys := rfl
@[simp] theorem modLeg_ev (n : Nat) (f : Leg → Leg) (d : Dev) : (modLeg n f d).ev = d.ev := rfl
@[simp] theorem modLeg_mbx (n : Nat) (f : Leg → Leg) (d : Dev) : (modLeg n f d).mbx = d.mbx := rfl
@[simp] theorem modLeg_pts (n : Nat) (f : Leg → Leg) (d : Dev) : (modLeg n f d).pts = d.pts := rfl
@[simp] theorem modLeg_lkt (n : Nat) (f : Leg → Leg) (d : Dev) : (modLeg n f d).lkt = d.lkt := rfl
@[simp] theorem modLeg_prm (n : Nat) (f : Leg → Leg) (d : Dev) : (modLeg n f d).prm = d.prm := rfl
@[simp] theorem modLeg_commit (n : Nat) (f : Leg → Leg) (d : Dev) : (modLeg n f d).commit = d.commit := rfl
@[simp] theorem modLeg_acq (n : Nat) (f : Leg → Leg) (d : Dev) : (modLeg n f d).acq = d.acq := rfl
@[simp] theorem modLeg_fil (n : Nat) (f : Leg → Leg) (d : Dev) : (modLeg n f d).fil = d.fil := rfl
@[simp] theorem modLeg_legs (n : Nat) (f : Leg → Leg) (d : Dev) : (modLeg n f d).legs = tmod {} n f d.legs := rfl
@[simp] theorem modLeg_wins (n : Nat) (f : Leg → Leg) (d : Dev) : (modLeg n f d).wins = d.wins := rfl
@[simp] theorem modLeg_pwm (n : Nat) (f : Leg → Leg) (d : Dev) : (modLeg n f d).pwm = d.pwm := rfl
@[simp] theorem modLeg_gs (n : Nat) (f : Leg → Leg) (d : Dev) : (modLeg n f d).gs = d.gs := rfl
@[simp] theorem modLeg_rt (n : Nat) (f : Leg → Leg) (d : Dev) : (modLeg n f d).rt = d.rt := rfl
@[simp] theorem modLeg_charm (n : Nat) (f : Leg → Leg) (d : Dev) : (modLeg n f d).charm = d.charm := rfl
@[simp] theorem modLeg_pv (n : Nat) (f : Leg → Leg) (d : Dev) : (modLeg n f d).pv = d.pv := rfl
@[simp] theorem modLeg_setr (n : Nat) (f : Leg → Leg) (d : Dev) : (modLeg n f d).setr = d.setr := rfl
@[simp] theorem modLeg_loupe (n : Nat) (f : Leg → Leg) (d : Dev) : (modLeg n f d).loupe = d.loupe := rfl
@[simp] theorem modLeg_cask (n : Nat) (f : Leg → Leg) (d : Dev) : (modLeg n f d).cask = d.cask := rfl
@[simp] theorem modLeg_carat (n : Nat) (f : Leg → Leg) (d : Dev) : (modLeg n f d).carat = d.carat := rfl
@[simp] theorem modLeg_sec (n : Nat) (f : Leg → Leg) (d : Dev) : (modLeg n f d).sec = d.sec := rfl
@[simp] theorem modLeg_gd (n : Nat) (f : Leg → Leg) (d : Dev) : (modLeg n f d).gd = d.gd := rfl
@[simp] theorem modLeg_clasp (n : Nat) (f : Leg → Leg) (d : Dev) : (modLeg n f d).clasp = d.clasp := rfl
@[simp] theorem modLeg_clk (n : Nat) (f : Leg → Leg) (d : Dev) : (modLeg n f d).clk = d.clk := rfl
@[simp] theorem modLeg_hold (n : Nat) (f : Leg → Leg) (d : Dev) : (modLeg n f d).hold = d.hold := rfl
@[simp] theorem modLeg_boot (n : Nat) (f : Leg → Leg) (d : Dev) : (modLeg n f d).boot = d.boot := rfl
@[simp] theorem modLeg_can (n : Nat) (f : Leg → Leg) (d : Dev) : (modLeg n f d).can = d.can := rfl
@[simp] theorem modLeg_lanes (n : Nat) (f : Leg → Leg) (d : Dev) : (modLeg n f d).lanes = d.lanes := rfl
@[simp] theorem modLeg_eth (n : Nat) (f : Leg → Leg) (d : Dev) : (modLeg n f d).eth = d.eth := rfl
@[simp] theorem modLeg_chain (n : Nat) (f : Leg → Leg) (d : Dev) : (modLeg n f d).chain = d.chain := rfl
@[simp] theorem modLeg_time (n : Nat) (f : Leg → Leg) (d : Dev) : (modLeg n f d).time = d.time := rfl
@[simp] theorem modLeg_pnd (n : Nat) (f : Leg → Leg) (d : Dev) : (modLeg n f d).pnd = d.pnd := rfl
@[simp] theorem modLeg_free (n : Nat) (f : Leg → Leg) (d : Dev) : (modLeg n f d).free = d.free := rfl

/-! ### `modWin` -/

@[simp] theorem modWin_t (w : Nat) (f : Window → Window) (d : Dev) : (modWin w f d).t = d.t := rfl
@[simp] theorem modWin_sys (w : Nat) (f : Window → Window) (d : Dev) : (modWin w f d).sys = d.sys := rfl
@[simp] theorem modWin_ev (w : Nat) (f : Window → Window) (d : Dev) : (modWin w f d).ev = d.ev := rfl
@[simp] theorem modWin_mbx (w : Nat) (f : Window → Window) (d : Dev) : (modWin w f d).mbx = d.mbx := rfl
@[simp] theorem modWin_pts (w : Nat) (f : Window → Window) (d : Dev) : (modWin w f d).pts = d.pts := rfl
@[simp] theorem modWin_lkt (w : Nat) (f : Window → Window) (d : Dev) : (modWin w f d).lkt = d.lkt := rfl
@[simp] theorem modWin_prm (w : Nat) (f : Window → Window) (d : Dev) : (modWin w f d).prm = d.prm := rfl
@[simp] theorem modWin_commit (w : Nat) (f : Window → Window) (d : Dev) : (modWin w f d).commit = d.commit := rfl
@[simp] theorem modWin_acq (w : Nat) (f : Window → Window) (d : Dev) : (modWin w f d).acq = d.acq := rfl
@[simp] theorem modWin_fil (w : Nat) (f : Window → Window) (d : Dev) : (modWin w f d).fil = d.fil := rfl
@[simp] theorem modWin_legs (w : Nat) (f : Window → Window) (d : Dev) : (modWin w f d).legs = d.legs := rfl
@[simp] theorem modWin_wins (w : Nat) (f : Window → Window) (d : Dev) : (modWin w f d).wins = tmod {} w f d.wins := rfl
@[simp] theorem modWin_pwm (w : Nat) (f : Window → Window) (d : Dev) : (modWin w f d).pwm = d.pwm := rfl
@[simp] theorem modWin_gs (w : Nat) (f : Window → Window) (d : Dev) : (modWin w f d).gs = d.gs := rfl
@[simp] theorem modWin_rt (w : Nat) (f : Window → Window) (d : Dev) : (modWin w f d).rt = d.rt := rfl
@[simp] theorem modWin_charm (w : Nat) (f : Window → Window) (d : Dev) : (modWin w f d).charm = d.charm := rfl
@[simp] theorem modWin_pv (w : Nat) (f : Window → Window) (d : Dev) : (modWin w f d).pv = d.pv := rfl
@[simp] theorem modWin_setr (w : Nat) (f : Window → Window) (d : Dev) : (modWin w f d).setr = d.setr := rfl
@[simp] theorem modWin_loupe (w : Nat) (f : Window → Window) (d : Dev) : (modWin w f d).loupe = d.loupe := rfl
@[simp] theorem modWin_cask (w : Nat) (f : Window → Window) (d : Dev) : (modWin w f d).cask = d.cask := rfl
@[simp] theorem modWin_carat (w : Nat) (f : Window → Window) (d : Dev) : (modWin w f d).carat = d.carat := rfl
@[simp] theorem modWin_sec (w : Nat) (f : Window → Window) (d : Dev) : (modWin w f d).sec = d.sec := rfl
@[simp] theorem modWin_gd (w : Nat) (f : Window → Window) (d : Dev) : (modWin w f d).gd = d.gd := rfl
@[simp] theorem modWin_clasp (w : Nat) (f : Window → Window) (d : Dev) : (modWin w f d).clasp = d.clasp := rfl
@[simp] theorem modWin_clk (w : Nat) (f : Window → Window) (d : Dev) : (modWin w f d).clk = d.clk := rfl
@[simp] theorem modWin_hold (w : Nat) (f : Window → Window) (d : Dev) : (modWin w f d).hold = d.hold := rfl
@[simp] theorem modWin_boot (w : Nat) (f : Window → Window) (d : Dev) : (modWin w f d).boot = d.boot := rfl
@[simp] theorem modWin_can (w : Nat) (f : Window → Window) (d : Dev) : (modWin w f d).can = d.can := rfl
@[simp] theorem modWin_lanes (w : Nat) (f : Window → Window) (d : Dev) : (modWin w f d).lanes = d.lanes := rfl
@[simp] theorem modWin_eth (w : Nat) (f : Window → Window) (d : Dev) : (modWin w f d).eth = d.eth := rfl
@[simp] theorem modWin_chain (w : Nat) (f : Window → Window) (d : Dev) : (modWin w f d).chain = d.chain := rfl
@[simp] theorem modWin_time (w : Nat) (f : Window → Window) (d : Dev) : (modWin w f d).time = d.time := rfl
@[simp] theorem modWin_pnd (w : Nat) (f : Window → Window) (d : Dev) : (modWin w f d).pnd = d.pnd := rfl
@[simp] theorem modWin_free (w : Nat) (f : Window → Window) (d : Dev) : (modWin w f d).free = d.free := rfl

/-! ### `modPv` -/

@[simp] theorem modPv_t (q : Nat) (f : PvIn → PvIn) (d : Dev) : (modPv q f d).t = d.t := rfl
@[simp] theorem modPv_sys (q : Nat) (f : PvIn → PvIn) (d : Dev) : (modPv q f d).sys = d.sys := rfl
@[simp] theorem modPv_ev (q : Nat) (f : PvIn → PvIn) (d : Dev) : (modPv q f d).ev = d.ev := rfl
@[simp] theorem modPv_mbx (q : Nat) (f : PvIn → PvIn) (d : Dev) : (modPv q f d).mbx = d.mbx := rfl
@[simp] theorem modPv_pts (q : Nat) (f : PvIn → PvIn) (d : Dev) : (modPv q f d).pts = d.pts := rfl
@[simp] theorem modPv_lkt (q : Nat) (f : PvIn → PvIn) (d : Dev) : (modPv q f d).lkt = d.lkt := rfl
@[simp] theorem modPv_prm (q : Nat) (f : PvIn → PvIn) (d : Dev) : (modPv q f d).prm = d.prm := rfl
@[simp] theorem modPv_commit (q : Nat) (f : PvIn → PvIn) (d : Dev) : (modPv q f d).commit = d.commit := rfl
@[simp] theorem modPv_acq (q : Nat) (f : PvIn → PvIn) (d : Dev) : (modPv q f d).acq = d.acq := rfl
@[simp] theorem modPv_fil (q : Nat) (f : PvIn → PvIn) (d : Dev) : (modPv q f d).fil = d.fil := rfl
@[simp] theorem modPv_legs (q : Nat) (f : PvIn → PvIn) (d : Dev) : (modPv q f d).legs = d.legs := rfl
@[simp] theorem modPv_wins (q : Nat) (f : PvIn → PvIn) (d : Dev) : (modPv q f d).wins = d.wins := rfl
@[simp] theorem modPv_pwm (q : Nat) (f : PvIn → PvIn) (d : Dev) : (modPv q f d).pwm = d.pwm := rfl
@[simp] theorem modPv_gs (q : Nat) (f : PvIn → PvIn) (d : Dev) : (modPv q f d).gs = d.gs := rfl
@[simp] theorem modPv_rt (q : Nat) (f : PvIn → PvIn) (d : Dev) : (modPv q f d).rt = d.rt := rfl
@[simp] theorem modPv_charm (q : Nat) (f : PvIn → PvIn) (d : Dev) : (modPv q f d).charm = d.charm := rfl
@[simp] theorem modPv_pv (q : Nat) (f : PvIn → PvIn) (d : Dev) : (modPv q f d).pv = { d.pv with ins := tmod {} q f d.pv.ins } := rfl
@[simp] theorem modPv_setr (q : Nat) (f : PvIn → PvIn) (d : Dev) : (modPv q f d).setr = d.setr := rfl
@[simp] theorem modPv_loupe (q : Nat) (f : PvIn → PvIn) (d : Dev) : (modPv q f d).loupe = d.loupe := rfl
@[simp] theorem modPv_cask (q : Nat) (f : PvIn → PvIn) (d : Dev) : (modPv q f d).cask = d.cask := rfl
@[simp] theorem modPv_carat (q : Nat) (f : PvIn → PvIn) (d : Dev) : (modPv q f d).carat = d.carat := rfl
@[simp] theorem modPv_sec (q : Nat) (f : PvIn → PvIn) (d : Dev) : (modPv q f d).sec = d.sec := rfl
@[simp] theorem modPv_gd (q : Nat) (f : PvIn → PvIn) (d : Dev) : (modPv q f d).gd = d.gd := rfl
@[simp] theorem modPv_clasp (q : Nat) (f : PvIn → PvIn) (d : Dev) : (modPv q f d).clasp = d.clasp := rfl
@[simp] theorem modPv_clk (q : Nat) (f : PvIn → PvIn) (d : Dev) : (modPv q f d).clk = d.clk := rfl
@[simp] theorem modPv_hold (q : Nat) (f : PvIn → PvIn) (d : Dev) : (modPv q f d).hold = d.hold := rfl
@[simp] theorem modPv_boot (q : Nat) (f : PvIn → PvIn) (d : Dev) : (modPv q f d).boot = d.boot := rfl
@[simp] theorem modPv_can (q : Nat) (f : PvIn → PvIn) (d : Dev) : (modPv q f d).can = d.can := rfl
@[simp] theorem modPv_lanes (q : Nat) (f : PvIn → PvIn) (d : Dev) : (modPv q f d).lanes = d.lanes := rfl
@[simp] theorem modPv_eth (q : Nat) (f : PvIn → PvIn) (d : Dev) : (modPv q f d).eth = d.eth := rfl
@[simp] theorem modPv_chain (q : Nat) (f : PvIn → PvIn) (d : Dev) : (modPv q f d).chain = d.chain := rfl
@[simp] theorem modPv_time (q : Nat) (f : PvIn → PvIn) (d : Dev) : (modPv q f d).time = d.time := rfl
@[simp] theorem modPv_pnd (q : Nat) (f : PvIn → PvIn) (d : Dev) : (modPv q f d).pnd = d.pnd := rfl
@[simp] theorem modPv_free (q : Nat) (f : PvIn → PvIn) (d : Dev) : (modPv q f d).free = d.free := rfl

/-! ### `modCas` -/

@[simp] theorem modCas_t (c : Nat) (f : Cas → Cas) (d : Dev) : (modCas c f d).t = d.t := rfl
@[simp] theorem modCas_sys (c : Nat) (f : Cas → Cas) (d : Dev) : (modCas c f d).sys = d.sys := rfl
@[simp] theorem modCas_ev (c : Nat) (f : Cas → Cas) (d : Dev) : (modCas c f d).ev = d.ev := rfl
@[simp] theorem modCas_mbx (c : Nat) (f : Cas → Cas) (d : Dev) : (modCas c f d).mbx = d.mbx := rfl
@[simp] theorem modCas_pts (c : Nat) (f : Cas → Cas) (d : Dev) : (modCas c f d).pts = d.pts := rfl
@[simp] theorem modCas_lkt (c : Nat) (f : Cas → Cas) (d : Dev) : (modCas c f d).lkt = d.lkt := rfl
@[simp] theorem modCas_prm (c : Nat) (f : Cas → Cas) (d : Dev) : (modCas c f d).prm = d.prm := rfl
@[simp] theorem modCas_commit (c : Nat) (f : Cas → Cas) (d : Dev) : (modCas c f d).commit = d.commit := rfl
@[simp] theorem modCas_acq (c : Nat) (f : Cas → Cas) (d : Dev) : (modCas c f d).acq = d.acq := rfl
@[simp] theorem modCas_fil (c : Nat) (f : Cas → Cas) (d : Dev) : (modCas c f d).fil = { d.fil with cas := tmod {} c f d.fil.cas } := rfl
@[simp] theorem modCas_legs (c : Nat) (f : Cas → Cas) (d : Dev) : (modCas c f d).legs = d.legs := rfl
@[simp] theorem modCas_wins (c : Nat) (f : Cas → Cas) (d : Dev) : (modCas c f d).wins = d.wins := rfl
@[simp] theorem modCas_pwm (c : Nat) (f : Cas → Cas) (d : Dev) : (modCas c f d).pwm = d.pwm := rfl
@[simp] theorem modCas_gs (c : Nat) (f : Cas → Cas) (d : Dev) : (modCas c f d).gs = d.gs := rfl
@[simp] theorem modCas_rt (c : Nat) (f : Cas → Cas) (d : Dev) : (modCas c f d).rt = d.rt := rfl
@[simp] theorem modCas_charm (c : Nat) (f : Cas → Cas) (d : Dev) : (modCas c f d).charm = d.charm := rfl
@[simp] theorem modCas_pv (c : Nat) (f : Cas → Cas) (d : Dev) : (modCas c f d).pv = d.pv := rfl
@[simp] theorem modCas_setr (c : Nat) (f : Cas → Cas) (d : Dev) : (modCas c f d).setr = d.setr := rfl
@[simp] theorem modCas_loupe (c : Nat) (f : Cas → Cas) (d : Dev) : (modCas c f d).loupe = d.loupe := rfl
@[simp] theorem modCas_cask (c : Nat) (f : Cas → Cas) (d : Dev) : (modCas c f d).cask = d.cask := rfl
@[simp] theorem modCas_carat (c : Nat) (f : Cas → Cas) (d : Dev) : (modCas c f d).carat = d.carat := rfl
@[simp] theorem modCas_sec (c : Nat) (f : Cas → Cas) (d : Dev) : (modCas c f d).sec = d.sec := rfl
@[simp] theorem modCas_gd (c : Nat) (f : Cas → Cas) (d : Dev) : (modCas c f d).gd = d.gd := rfl
@[simp] theorem modCas_clasp (c : Nat) (f : Cas → Cas) (d : Dev) : (modCas c f d).clasp = d.clasp := rfl
@[simp] theorem modCas_clk (c : Nat) (f : Cas → Cas) (d : Dev) : (modCas c f d).clk = d.clk := rfl
@[simp] theorem modCas_hold (c : Nat) (f : Cas → Cas) (d : Dev) : (modCas c f d).hold = d.hold := rfl
@[simp] theorem modCas_boot (c : Nat) (f : Cas → Cas) (d : Dev) : (modCas c f d).boot = d.boot := rfl
@[simp] theorem modCas_can (c : Nat) (f : Cas → Cas) (d : Dev) : (modCas c f d).can = d.can := rfl
@[simp] theorem modCas_lanes (c : Nat) (f : Cas → Cas) (d : Dev) : (modCas c f d).lanes = d.lanes := rfl
@[simp] theorem modCas_eth (c : Nat) (f : Cas → Cas) (d : Dev) : (modCas c f d).eth = d.eth := rfl
@[simp] theorem modCas_chain (c : Nat) (f : Cas → Cas) (d : Dev) : (modCas c f d).chain = d.chain := rfl
@[simp] theorem modCas_time (c : Nat) (f : Cas → Cas) (d : Dev) : (modCas c f d).time = d.time := rfl
@[simp] theorem modCas_pnd (c : Nat) (f : Cas → Cas) (d : Dev) : (modCas c f d).pnd = d.pnd := rfl
@[simp] theorem modCas_free (c : Nat) (f : Cas → Cas) (d : Dev) : (modCas c f d).free = d.free := rfl

/-! ### `modFacet` -/

@[simp] theorem modFacet_t (k : Nat) (f : Facet → Facet) (d : Dev) : (modFacet k f d).t = d.t := rfl
@[simp] theorem modFacet_sys (k : Nat) (f : Facet → Facet) (d : Dev) : (modFacet k f d).sys = d.sys := rfl
@[simp] theorem modFacet_ev (k : Nat) (f : Facet → Facet) (d : Dev) : (modFacet k f d).ev = d.ev := rfl
@[simp] theorem modFacet_mbx (k : Nat) (f : Facet → Facet) (d : Dev) : (modFacet k f d).mbx = d.mbx := rfl
@[simp] theorem modFacet_pts (k : Nat) (f : Facet → Facet) (d : Dev) : (modFacet k f d).pts = d.pts := rfl
@[simp] theorem modFacet_lkt (k : Nat) (f : Facet → Facet) (d : Dev) : (modFacet k f d).lkt = d.lkt := rfl
@[simp] theorem modFacet_prm (k : Nat) (f : Facet → Facet) (d : Dev) : (modFacet k f d).prm = d.prm := rfl
@[simp] theorem modFacet_commit (k : Nat) (f : Facet → Facet) (d : Dev) : (modFacet k f d).commit = d.commit := rfl
@[simp] theorem modFacet_acq (k : Nat) (f : Facet → Facet) (d : Dev) : (modFacet k f d).acq = { d.acq with facets := tmod {} k f d.acq.facets } := rfl
@[simp] theorem modFacet_fil (k : Nat) (f : Facet → Facet) (d : Dev) : (modFacet k f d).fil = d.fil := rfl
@[simp] theorem modFacet_legs (k : Nat) (f : Facet → Facet) (d : Dev) : (modFacet k f d).legs = d.legs := rfl
@[simp] theorem modFacet_wins (k : Nat) (f : Facet → Facet) (d : Dev) : (modFacet k f d).wins = d.wins := rfl
@[simp] theorem modFacet_pwm (k : Nat) (f : Facet → Facet) (d : Dev) : (modFacet k f d).pwm = d.pwm := rfl
@[simp] theorem modFacet_gs (k : Nat) (f : Facet → Facet) (d : Dev) : (modFacet k f d).gs = d.gs := rfl
@[simp] theorem modFacet_rt (k : Nat) (f : Facet → Facet) (d : Dev) : (modFacet k f d).rt = d.rt := rfl
@[simp] theorem modFacet_charm (k : Nat) (f : Facet → Facet) (d : Dev) : (modFacet k f d).charm = d.charm := rfl
@[simp] theorem modFacet_pv (k : Nat) (f : Facet → Facet) (d : Dev) : (modFacet k f d).pv = d.pv := rfl
@[simp] theorem modFacet_setr (k : Nat) (f : Facet → Facet) (d : Dev) : (modFacet k f d).setr = d.setr := rfl
@[simp] theorem modFacet_loupe (k : Nat) (f : Facet → Facet) (d : Dev) : (modFacet k f d).loupe = d.loupe := rfl
@[simp] theorem modFacet_cask (k : Nat) (f : Facet → Facet) (d : Dev) : (modFacet k f d).cask = d.cask := rfl
@[simp] theorem modFacet_carat (k : Nat) (f : Facet → Facet) (d : Dev) : (modFacet k f d).carat = d.carat := rfl
@[simp] theorem modFacet_sec (k : Nat) (f : Facet → Facet) (d : Dev) : (modFacet k f d).sec = d.sec := rfl
@[simp] theorem modFacet_gd (k : Nat) (f : Facet → Facet) (d : Dev) : (modFacet k f d).gd = d.gd := rfl
@[simp] theorem modFacet_clasp (k : Nat) (f : Facet → Facet) (d : Dev) : (modFacet k f d).clasp = d.clasp := rfl
@[simp] theorem modFacet_clk (k : Nat) (f : Facet → Facet) (d : Dev) : (modFacet k f d).clk = d.clk := rfl
@[simp] theorem modFacet_hold (k : Nat) (f : Facet → Facet) (d : Dev) : (modFacet k f d).hold = d.hold := rfl
@[simp] theorem modFacet_boot (k : Nat) (f : Facet → Facet) (d : Dev) : (modFacet k f d).boot = d.boot := rfl
@[simp] theorem modFacet_can (k : Nat) (f : Facet → Facet) (d : Dev) : (modFacet k f d).can = d.can := rfl
@[simp] theorem modFacet_lanes (k : Nat) (f : Facet → Facet) (d : Dev) : (modFacet k f d).lanes = d.lanes := rfl
@[simp] theorem modFacet_eth (k : Nat) (f : Facet → Facet) (d : Dev) : (modFacet k f d).eth = d.eth := rfl
@[simp] theorem modFacet_chain (k : Nat) (f : Facet → Facet) (d : Dev) : (modFacet k f d).chain = d.chain := rfl
@[simp] theorem modFacet_time (k : Nat) (f : Facet → Facet) (d : Dev) : (modFacet k f d).time = d.time := rfl
@[simp] theorem modFacet_pnd (k : Nat) (f : Facet → Facet) (d : Dev) : (modFacet k f d).pnd = d.pnd := rfl
@[simp] theorem modFacet_free (k : Nat) (f : Facet → Facet) (d : Dev) : (modFacet k f d).free = d.free := rfl

/-! ### `modAin` -/

@[simp] theorem modAin_t (i : Nat) (f : Ain → Ain) (d : Dev) : (modAin i f d).t = d.t := rfl
@[simp] theorem modAin_sys (i : Nat) (f : Ain → Ain) (d : Dev) : (modAin i f d).sys = d.sys := rfl
@[simp] theorem modAin_ev (i : Nat) (f : Ain → Ain) (d : Dev) : (modAin i f d).ev = d.ev := rfl
@[simp] theorem modAin_mbx (i : Nat) (f : Ain → Ain) (d : Dev) : (modAin i f d).mbx = d.mbx := rfl
@[simp] theorem modAin_pts (i : Nat) (f : Ain → Ain) (d : Dev) : (modAin i f d).pts = d.pts := rfl
@[simp] theorem modAin_lkt (i : Nat) (f : Ain → Ain) (d : Dev) : (modAin i f d).lkt = d.lkt := rfl
@[simp] theorem modAin_prm (i : Nat) (f : Ain → Ain) (d : Dev) : (modAin i f d).prm = d.prm := rfl
@[simp] theorem modAin_commit (i : Nat) (f : Ain → Ain) (d : Dev) : (modAin i f d).commit = d.commit := rfl
@[simp] theorem modAin_acq (i : Nat) (f : Ain → Ain) (d : Dev) : (modAin i f d).acq = { d.acq with ains := tmod {} i f d.acq.ains } := rfl
@[simp] theorem modAin_fil (i : Nat) (f : Ain → Ain) (d : Dev) : (modAin i f d).fil = d.fil := rfl
@[simp] theorem modAin_legs (i : Nat) (f : Ain → Ain) (d : Dev) : (modAin i f d).legs = d.legs := rfl
@[simp] theorem modAin_wins (i : Nat) (f : Ain → Ain) (d : Dev) : (modAin i f d).wins = d.wins := rfl
@[simp] theorem modAin_pwm (i : Nat) (f : Ain → Ain) (d : Dev) : (modAin i f d).pwm = d.pwm := rfl
@[simp] theorem modAin_gs (i : Nat) (f : Ain → Ain) (d : Dev) : (modAin i f d).gs = d.gs := rfl
@[simp] theorem modAin_rt (i : Nat) (f : Ain → Ain) (d : Dev) : (modAin i f d).rt = d.rt := rfl
@[simp] theorem modAin_charm (i : Nat) (f : Ain → Ain) (d : Dev) : (modAin i f d).charm = d.charm := rfl
@[simp] theorem modAin_pv (i : Nat) (f : Ain → Ain) (d : Dev) : (modAin i f d).pv = d.pv := rfl
@[simp] theorem modAin_setr (i : Nat) (f : Ain → Ain) (d : Dev) : (modAin i f d).setr = d.setr := rfl
@[simp] theorem modAin_loupe (i : Nat) (f : Ain → Ain) (d : Dev) : (modAin i f d).loupe = d.loupe := rfl
@[simp] theorem modAin_cask (i : Nat) (f : Ain → Ain) (d : Dev) : (modAin i f d).cask = d.cask := rfl
@[simp] theorem modAin_carat (i : Nat) (f : Ain → Ain) (d : Dev) : (modAin i f d).carat = d.carat := rfl
@[simp] theorem modAin_sec (i : Nat) (f : Ain → Ain) (d : Dev) : (modAin i f d).sec = d.sec := rfl
@[simp] theorem modAin_gd (i : Nat) (f : Ain → Ain) (d : Dev) : (modAin i f d).gd = d.gd := rfl
@[simp] theorem modAin_clasp (i : Nat) (f : Ain → Ain) (d : Dev) : (modAin i f d).clasp = d.clasp := rfl
@[simp] theorem modAin_clk (i : Nat) (f : Ain → Ain) (d : Dev) : (modAin i f d).clk = d.clk := rfl
@[simp] theorem modAin_hold (i : Nat) (f : Ain → Ain) (d : Dev) : (modAin i f d).hold = d.hold := rfl
@[simp] theorem modAin_boot (i : Nat) (f : Ain → Ain) (d : Dev) : (modAin i f d).boot = d.boot := rfl
@[simp] theorem modAin_can (i : Nat) (f : Ain → Ain) (d : Dev) : (modAin i f d).can = d.can := rfl
@[simp] theorem modAin_lanes (i : Nat) (f : Ain → Ain) (d : Dev) : (modAin i f d).lanes = d.lanes := rfl
@[simp] theorem modAin_eth (i : Nat) (f : Ain → Ain) (d : Dev) : (modAin i f d).eth = d.eth := rfl
@[simp] theorem modAin_chain (i : Nat) (f : Ain → Ain) (d : Dev) : (modAin i f d).chain = d.chain := rfl
@[simp] theorem modAin_time (i : Nat) (f : Ain → Ain) (d : Dev) : (modAin i f d).time = d.time := rfl
@[simp] theorem modAin_pnd (i : Nat) (f : Ain → Ain) (d : Dev) : (modAin i f d).pnd = d.pnd := rfl
@[simp] theorem modAin_free (i : Nat) (f : Ain → Ain) (d : Dev) : (modAin i f d).free = d.free := rfl

/-! ### `modGd` -/

@[simp] theorem modGd_t (f : Gd → Gd) (d : Dev) : (modGd f d).t = d.t := rfl
@[simp] theorem modGd_sys (f : Gd → Gd) (d : Dev) : (modGd f d).sys = d.sys := rfl
@[simp] theorem modGd_ev (f : Gd → Gd) (d : Dev) : (modGd f d).ev = d.ev := rfl
@[simp] theorem modGd_mbx (f : Gd → Gd) (d : Dev) : (modGd f d).mbx = d.mbx := rfl
@[simp] theorem modGd_pts (f : Gd → Gd) (d : Dev) : (modGd f d).pts = d.pts := rfl
@[simp] theorem modGd_lkt (f : Gd → Gd) (d : Dev) : (modGd f d).lkt = d.lkt := rfl
@[simp] theorem modGd_prm (f : Gd → Gd) (d : Dev) : (modGd f d).prm = d.prm := rfl
@[simp] theorem modGd_commit (f : Gd → Gd) (d : Dev) : (modGd f d).commit = d.commit := rfl
@[simp] theorem modGd_acq (f : Gd → Gd) (d : Dev) : (modGd f d).acq = d.acq := rfl
@[simp] theorem modGd_fil (f : Gd → Gd) (d : Dev) : (modGd f d).fil = d.fil := rfl
@[simp] theorem modGd_legs (f : Gd → Gd) (d : Dev) : (modGd f d).legs = d.legs := rfl
@[simp] theorem modGd_wins (f : Gd → Gd) (d : Dev) : (modGd f d).wins = d.wins := rfl
@[simp] theorem modGd_pwm (f : Gd → Gd) (d : Dev) : (modGd f d).pwm = d.pwm := rfl
@[simp] theorem modGd_gs (f : Gd → Gd) (d : Dev) : (modGd f d).gs = d.gs := rfl
@[simp] theorem modGd_rt (f : Gd → Gd) (d : Dev) : (modGd f d).rt = d.rt := rfl
@[simp] theorem modGd_charm (f : Gd → Gd) (d : Dev) : (modGd f d).charm = d.charm := rfl
@[simp] theorem modGd_pv (f : Gd → Gd) (d : Dev) : (modGd f d).pv = d.pv := rfl
@[simp] theorem modGd_setr (f : Gd → Gd) (d : Dev) : (modGd f d).setr = d.setr := rfl
@[simp] theorem modGd_loupe (f : Gd → Gd) (d : Dev) : (modGd f d).loupe = d.loupe := rfl
@[simp] theorem modGd_cask (f : Gd → Gd) (d : Dev) : (modGd f d).cask = d.cask := rfl
@[simp] theorem modGd_carat (f : Gd → Gd) (d : Dev) : (modGd f d).carat = d.carat := rfl
@[simp] theorem modGd_sec (f : Gd → Gd) (d : Dev) : (modGd f d).sec = d.sec := rfl
@[simp] theorem modGd_gd (f : Gd → Gd) (d : Dev) : (modGd f d).gd = f d.gd := rfl
@[simp] theorem modGd_clasp (f : Gd → Gd) (d : Dev) : (modGd f d).clasp = d.clasp := rfl
@[simp] theorem modGd_clk (f : Gd → Gd) (d : Dev) : (modGd f d).clk = d.clk := rfl
@[simp] theorem modGd_hold (f : Gd → Gd) (d : Dev) : (modGd f d).hold = d.hold := rfl
@[simp] theorem modGd_boot (f : Gd → Gd) (d : Dev) : (modGd f d).boot = d.boot := rfl
@[simp] theorem modGd_can (f : Gd → Gd) (d : Dev) : (modGd f d).can = d.can := rfl
@[simp] theorem modGd_lanes (f : Gd → Gd) (d : Dev) : (modGd f d).lanes = d.lanes := rfl
@[simp] theorem modGd_eth (f : Gd → Gd) (d : Dev) : (modGd f d).eth = d.eth := rfl
@[simp] theorem modGd_chain (f : Gd → Gd) (d : Dev) : (modGd f d).chain = d.chain := rfl
@[simp] theorem modGd_time (f : Gd → Gd) (d : Dev) : (modGd f d).time = d.time := rfl
@[simp] theorem modGd_pnd (f : Gd → Gd) (d : Dev) : (modGd f d).pnd = d.pnd := rfl
@[simp] theorem modGd_free (f : Gd → Gd) (d : Dev) : (modGd f d).free = d.free := rfl

/-! ### `modClasp` -/

@[simp] theorem modClasp_t (f : Clasp → Clasp) (d : Dev) : (modClasp f d).t = d.t := rfl
@[simp] theorem modClasp_sys (f : Clasp → Clasp) (d : Dev) : (modClasp f d).sys = d.sys := rfl
@[simp] theorem modClasp_ev (f : Clasp → Clasp) (d : Dev) : (modClasp f d).ev = d.ev := rfl
@[simp] theorem modClasp_mbx (f : Clasp → Clasp) (d : Dev) : (modClasp f d).mbx = d.mbx := rfl
@[simp] theorem modClasp_pts (f : Clasp → Clasp) (d : Dev) : (modClasp f d).pts = d.pts := rfl
@[simp] theorem modClasp_lkt (f : Clasp → Clasp) (d : Dev) : (modClasp f d).lkt = d.lkt := rfl
@[simp] theorem modClasp_prm (f : Clasp → Clasp) (d : Dev) : (modClasp f d).prm = d.prm := rfl
@[simp] theorem modClasp_commit (f : Clasp → Clasp) (d : Dev) : (modClasp f d).commit = d.commit := rfl
@[simp] theorem modClasp_acq (f : Clasp → Clasp) (d : Dev) : (modClasp f d).acq = d.acq := rfl
@[simp] theorem modClasp_fil (f : Clasp → Clasp) (d : Dev) : (modClasp f d).fil = d.fil := rfl
@[simp] theorem modClasp_legs (f : Clasp → Clasp) (d : Dev) : (modClasp f d).legs = d.legs := rfl
@[simp] theorem modClasp_wins (f : Clasp → Clasp) (d : Dev) : (modClasp f d).wins = d.wins := rfl
@[simp] theorem modClasp_pwm (f : Clasp → Clasp) (d : Dev) : (modClasp f d).pwm = d.pwm := rfl
@[simp] theorem modClasp_gs (f : Clasp → Clasp) (d : Dev) : (modClasp f d).gs = d.gs := rfl
@[simp] theorem modClasp_rt (f : Clasp → Clasp) (d : Dev) : (modClasp f d).rt = d.rt := rfl
@[simp] theorem modClasp_charm (f : Clasp → Clasp) (d : Dev) : (modClasp f d).charm = d.charm := rfl
@[simp] theorem modClasp_pv (f : Clasp → Clasp) (d : Dev) : (modClasp f d).pv = d.pv := rfl
@[simp] theorem modClasp_setr (f : Clasp → Clasp) (d : Dev) : (modClasp f d).setr = d.setr := rfl
@[simp] theorem modClasp_loupe (f : Clasp → Clasp) (d : Dev) : (modClasp f d).loupe = d.loupe := rfl
@[simp] theorem modClasp_cask (f : Clasp → Clasp) (d : Dev) : (modClasp f d).cask = d.cask := rfl
@[simp] theorem modClasp_carat (f : Clasp → Clasp) (d : Dev) : (modClasp f d).carat = d.carat := rfl
@[simp] theorem modClasp_sec (f : Clasp → Clasp) (d : Dev) : (modClasp f d).sec = d.sec := rfl
@[simp] theorem modClasp_gd (f : Clasp → Clasp) (d : Dev) : (modClasp f d).gd = d.gd := rfl
@[simp] theorem modClasp_clasp (f : Clasp → Clasp) (d : Dev) : (modClasp f d).clasp = f d.clasp := rfl
@[simp] theorem modClasp_clk (f : Clasp → Clasp) (d : Dev) : (modClasp f d).clk = d.clk := rfl
@[simp] theorem modClasp_hold (f : Clasp → Clasp) (d : Dev) : (modClasp f d).hold = d.hold := rfl
@[simp] theorem modClasp_boot (f : Clasp → Clasp) (d : Dev) : (modClasp f d).boot = d.boot := rfl
@[simp] theorem modClasp_can (f : Clasp → Clasp) (d : Dev) : (modClasp f d).can = d.can := rfl
@[simp] theorem modClasp_lanes (f : Clasp → Clasp) (d : Dev) : (modClasp f d).lanes = d.lanes := rfl
@[simp] theorem modClasp_eth (f : Clasp → Clasp) (d : Dev) : (modClasp f d).eth = d.eth := rfl
@[simp] theorem modClasp_chain (f : Clasp → Clasp) (d : Dev) : (modClasp f d).chain = d.chain := rfl
@[simp] theorem modClasp_time (f : Clasp → Clasp) (d : Dev) : (modClasp f d).time = d.time := rfl
@[simp] theorem modClasp_pnd (f : Clasp → Clasp) (d : Dev) : (modClasp f d).pnd = d.pnd := rfl
@[simp] theorem modClasp_free (f : Clasp → Clasp) (d : Dev) : (modClasp f d).free = d.free := rfl

/-! ### `modEth` -/

@[simp] theorem modEth_t (i : Nat) (f : Eth → Eth) (d : Dev) : (modEth i f d).t = d.t := rfl
@[simp] theorem modEth_sys (i : Nat) (f : Eth → Eth) (d : Dev) : (modEth i f d).sys = d.sys := rfl
@[simp] theorem modEth_ev (i : Nat) (f : Eth → Eth) (d : Dev) : (modEth i f d).ev = d.ev := rfl
@[simp] theorem modEth_mbx (i : Nat) (f : Eth → Eth) (d : Dev) : (modEth i f d).mbx = d.mbx := rfl
@[simp] theorem modEth_pts (i : Nat) (f : Eth → Eth) (d : Dev) : (modEth i f d).pts = d.pts := rfl
@[simp] theorem modEth_lkt (i : Nat) (f : Eth → Eth) (d : Dev) : (modEth i f d).lkt = d.lkt := rfl
@[simp] theorem modEth_prm (i : Nat) (f : Eth → Eth) (d : Dev) : (modEth i f d).prm = d.prm := rfl
@[simp] theorem modEth_commit (i : Nat) (f : Eth → Eth) (d : Dev) : (modEth i f d).commit = d.commit := rfl
@[simp] theorem modEth_acq (i : Nat) (f : Eth → Eth) (d : Dev) : (modEth i f d).acq = d.acq := rfl
@[simp] theorem modEth_fil (i : Nat) (f : Eth → Eth) (d : Dev) : (modEth i f d).fil = d.fil := rfl
@[simp] theorem modEth_legs (i : Nat) (f : Eth → Eth) (d : Dev) : (modEth i f d).legs = d.legs := rfl
@[simp] theorem modEth_wins (i : Nat) (f : Eth → Eth) (d : Dev) : (modEth i f d).wins = d.wins := rfl
@[simp] theorem modEth_pwm (i : Nat) (f : Eth → Eth) (d : Dev) : (modEth i f d).pwm = d.pwm := rfl
@[simp] theorem modEth_gs (i : Nat) (f : Eth → Eth) (d : Dev) : (modEth i f d).gs = d.gs := rfl
@[simp] theorem modEth_rt (i : Nat) (f : Eth → Eth) (d : Dev) : (modEth i f d).rt = d.rt := rfl
@[simp] theorem modEth_charm (i : Nat) (f : Eth → Eth) (d : Dev) : (modEth i f d).charm = d.charm := rfl
@[simp] theorem modEth_pv (i : Nat) (f : Eth → Eth) (d : Dev) : (modEth i f d).pv = d.pv := rfl
@[simp] theorem modEth_setr (i : Nat) (f : Eth → Eth) (d : Dev) : (modEth i f d).setr = d.setr := rfl
@[simp] theorem modEth_loupe (i : Nat) (f : Eth → Eth) (d : Dev) : (modEth i f d).loupe = d.loupe := rfl
@[simp] theorem modEth_cask (i : Nat) (f : Eth → Eth) (d : Dev) : (modEth i f d).cask = d.cask := rfl
@[simp] theorem modEth_carat (i : Nat) (f : Eth → Eth) (d : Dev) : (modEth i f d).carat = d.carat := rfl
@[simp] theorem modEth_sec (i : Nat) (f : Eth → Eth) (d : Dev) : (modEth i f d).sec = d.sec := rfl
@[simp] theorem modEth_gd (i : Nat) (f : Eth → Eth) (d : Dev) : (modEth i f d).gd = d.gd := rfl
@[simp] theorem modEth_clasp (i : Nat) (f : Eth → Eth) (d : Dev) : (modEth i f d).clasp = d.clasp := rfl
@[simp] theorem modEth_clk (i : Nat) (f : Eth → Eth) (d : Dev) : (modEth i f d).clk = d.clk := rfl
@[simp] theorem modEth_hold (i : Nat) (f : Eth → Eth) (d : Dev) : (modEth i f d).hold = d.hold := rfl
@[simp] theorem modEth_boot (i : Nat) (f : Eth → Eth) (d : Dev) : (modEth i f d).boot = d.boot := rfl
@[simp] theorem modEth_can (i : Nat) (f : Eth → Eth) (d : Dev) : (modEth i f d).can = d.can := rfl
@[simp] theorem modEth_lanes (i : Nat) (f : Eth → Eth) (d : Dev) : (modEth i f d).lanes = d.lanes := rfl
@[simp] theorem modEth_eth (i : Nat) (f : Eth → Eth) (d : Dev) : (modEth i f d).eth = tmod {} i f d.eth := rfl
@[simp] theorem modEth_chain (i : Nat) (f : Eth → Eth) (d : Dev) : (modEth i f d).chain = d.chain := rfl
@[simp] theorem modEth_time (i : Nat) (f : Eth → Eth) (d : Dev) : (modEth i f d).time = d.time := rfl
@[simp] theorem modEth_pnd (i : Nat) (f : Eth → Eth) (d : Dev) : (modEth i f d).pnd = d.pnd := rfl
@[simp] theorem modEth_free (i : Nat) (f : Eth → Eth) (d : Dev) : (modEth i f d).free = d.free := rfl

/-! ### `modPort` -/

@[simp] theorem modPort_t (p : Nat) (f : CanPort → CanPort) (d : Dev) : (modPort p f d).t = d.t := rfl
@[simp] theorem modPort_sys (p : Nat) (f : CanPort → CanPort) (d : Dev) : (modPort p f d).sys = d.sys := rfl
@[simp] theorem modPort_ev (p : Nat) (f : CanPort → CanPort) (d : Dev) : (modPort p f d).ev = d.ev := rfl
@[simp] theorem modPort_mbx (p : Nat) (f : CanPort → CanPort) (d : Dev) : (modPort p f d).mbx = d.mbx := rfl
@[simp] theorem modPort_pts (p : Nat) (f : CanPort → CanPort) (d : Dev) : (modPort p f d).pts = d.pts := rfl
@[simp] theorem modPort_lkt (p : Nat) (f : CanPort → CanPort) (d : Dev) : (modPort p f d).lkt = d.lkt := rfl
@[simp] theorem modPort_prm (p : Nat) (f : CanPort → CanPort) (d : Dev) : (modPort p f d).prm = d.prm := rfl
@[simp] theorem modPort_commit (p : Nat) (f : CanPort → CanPort) (d : Dev) : (modPort p f d).commit = d.commit := rfl
@[simp] theorem modPort_acq (p : Nat) (f : CanPort → CanPort) (d : Dev) : (modPort p f d).acq = d.acq := rfl
@[simp] theorem modPort_fil (p : Nat) (f : CanPort → CanPort) (d : Dev) : (modPort p f d).fil = d.fil := rfl
@[simp] theorem modPort_legs (p : Nat) (f : CanPort → CanPort) (d : Dev) : (modPort p f d).legs = d.legs := rfl
@[simp] theorem modPort_wins (p : Nat) (f : CanPort → CanPort) (d : Dev) : (modPort p f d).wins = d.wins := rfl
@[simp] theorem modPort_pwm (p : Nat) (f : CanPort → CanPort) (d : Dev) : (modPort p f d).pwm = d.pwm := rfl
@[simp] theorem modPort_gs (p : Nat) (f : CanPort → CanPort) (d : Dev) : (modPort p f d).gs = d.gs := rfl
@[simp] theorem modPort_rt (p : Nat) (f : CanPort → CanPort) (d : Dev) : (modPort p f d).rt = d.rt := rfl
@[simp] theorem modPort_charm (p : Nat) (f : CanPort → CanPort) (d : Dev) : (modPort p f d).charm = d.charm := rfl
@[simp] theorem modPort_pv (p : Nat) (f : CanPort → CanPort) (d : Dev) : (modPort p f d).pv = d.pv := rfl
@[simp] theorem modPort_setr (p : Nat) (f : CanPort → CanPort) (d : Dev) : (modPort p f d).setr = d.setr := rfl
@[simp] theorem modPort_loupe (p : Nat) (f : CanPort → CanPort) (d : Dev) : (modPort p f d).loupe = d.loupe := rfl
@[simp] theorem modPort_cask (p : Nat) (f : CanPort → CanPort) (d : Dev) : (modPort p f d).cask = d.cask := rfl
@[simp] theorem modPort_carat (p : Nat) (f : CanPort → CanPort) (d : Dev) : (modPort p f d).carat = d.carat := rfl
@[simp] theorem modPort_sec (p : Nat) (f : CanPort → CanPort) (d : Dev) : (modPort p f d).sec = d.sec := rfl
@[simp] theorem modPort_gd (p : Nat) (f : CanPort → CanPort) (d : Dev) : (modPort p f d).gd = d.gd := rfl
@[simp] theorem modPort_clasp (p : Nat) (f : CanPort → CanPort) (d : Dev) : (modPort p f d).clasp = d.clasp := rfl
@[simp] theorem modPort_clk (p : Nat) (f : CanPort → CanPort) (d : Dev) : (modPort p f d).clk = d.clk := rfl
@[simp] theorem modPort_hold (p : Nat) (f : CanPort → CanPort) (d : Dev) : (modPort p f d).hold = d.hold := rfl
@[simp] theorem modPort_boot (p : Nat) (f : CanPort → CanPort) (d : Dev) : (modPort p f d).boot = d.boot := rfl
@[simp] theorem modPort_can (p : Nat) (f : CanPort → CanPort) (d : Dev) : (modPort p f d).can = { d.can with ports := tmod {} p f d.can.ports } := rfl
@[simp] theorem modPort_lanes (p : Nat) (f : CanPort → CanPort) (d : Dev) : (modPort p f d).lanes = d.lanes := rfl
@[simp] theorem modPort_eth (p : Nat) (f : CanPort → CanPort) (d : Dev) : (modPort p f d).eth = d.eth := rfl
@[simp] theorem modPort_chain (p : Nat) (f : CanPort → CanPort) (d : Dev) : (modPort p f d).chain = d.chain := rfl
@[simp] theorem modPort_time (p : Nat) (f : CanPort → CanPort) (d : Dev) : (modPort p f d).time = d.time := rfl
@[simp] theorem modPort_pnd (p : Nat) (f : CanPort → CanPort) (d : Dev) : (modPort p f d).pnd = d.pnd := rfl
@[simp] theorem modPort_free (p : Nat) (f : CanPort → CanPort) (d : Dev) : (modPort p f d).free = d.free := rfl

/-! ### `modEnt` -/

@[simp] theorem modEnt_t (e : Nat) (f : PtnEnt → PtnEnt) (d : Dev) : (modEnt e f d).t = d.t := rfl
@[simp] theorem modEnt_sys (e : Nat) (f : PtnEnt → PtnEnt) (d : Dev) : (modEnt e f d).sys = d.sys := rfl
@[simp] theorem modEnt_ev (e : Nat) (f : PtnEnt → PtnEnt) (d : Dev) : (modEnt e f d).ev = d.ev := rfl
@[simp] theorem modEnt_mbx (e : Nat) (f : PtnEnt → PtnEnt) (d : Dev) : (modEnt e f d).mbx = d.mbx := rfl
@[simp] theorem modEnt_pts (e : Nat) (f : PtnEnt → PtnEnt) (d : Dev) : (modEnt e f d).pts = d.pts := rfl
@[simp] theorem modEnt_lkt (e : Nat) (f : PtnEnt → PtnEnt) (d : Dev) : (modEnt e f d).lkt = d.lkt := rfl
@[simp] theorem modEnt_prm (e : Nat) (f : PtnEnt → PtnEnt) (d : Dev) : (modEnt e f d).prm = d.prm := rfl
@[simp] theorem modEnt_commit (e : Nat) (f : PtnEnt → PtnEnt) (d : Dev) : (modEnt e f d).commit = d.commit := rfl
@[simp] theorem modEnt_acq (e : Nat) (f : PtnEnt → PtnEnt) (d : Dev) : (modEnt e f d).acq = d.acq := rfl
@[simp] theorem modEnt_fil (e : Nat) (f : PtnEnt → PtnEnt) (d : Dev) : (modEnt e f d).fil = d.fil := rfl
@[simp] theorem modEnt_legs (e : Nat) (f : PtnEnt → PtnEnt) (d : Dev) : (modEnt e f d).legs = d.legs := rfl
@[simp] theorem modEnt_wins (e : Nat) (f : PtnEnt → PtnEnt) (d : Dev) : (modEnt e f d).wins = d.wins := rfl
@[simp] theorem modEnt_pwm (e : Nat) (f : PtnEnt → PtnEnt) (d : Dev) : (modEnt e f d).pwm = d.pwm := rfl
@[simp] theorem modEnt_gs (e : Nat) (f : PtnEnt → PtnEnt) (d : Dev) : (modEnt e f d).gs = d.gs := rfl
@[simp] theorem modEnt_rt (e : Nat) (f : PtnEnt → PtnEnt) (d : Dev) : (modEnt e f d).rt = d.rt := rfl
@[simp] theorem modEnt_charm (e : Nat) (f : PtnEnt → PtnEnt) (d : Dev) : (modEnt e f d).charm = d.charm := rfl
@[simp] theorem modEnt_pv (e : Nat) (f : PtnEnt → PtnEnt) (d : Dev) : (modEnt e f d).pv = d.pv := rfl
@[simp] theorem modEnt_setr (e : Nat) (f : PtnEnt → PtnEnt) (d : Dev) : (modEnt e f d).setr = d.setr := rfl
@[simp] theorem modEnt_loupe (e : Nat) (f : PtnEnt → PtnEnt) (d : Dev) : (modEnt e f d).loupe = d.loupe := rfl
@[simp] theorem modEnt_cask (e : Nat) (f : PtnEnt → PtnEnt) (d : Dev) : (modEnt e f d).cask = d.cask := rfl
@[simp] theorem modEnt_carat (e : Nat) (f : PtnEnt → PtnEnt) (d : Dev) : (modEnt e f d).carat = d.carat := rfl
@[simp] theorem modEnt_sec (e : Nat) (f : PtnEnt → PtnEnt) (d : Dev) : (modEnt e f d).sec = d.sec := rfl
@[simp] theorem modEnt_gd (e : Nat) (f : PtnEnt → PtnEnt) (d : Dev) : (modEnt e f d).gd = d.gd := rfl
@[simp] theorem modEnt_clasp (e : Nat) (f : PtnEnt → PtnEnt) (d : Dev) : (modEnt e f d).clasp = d.clasp := rfl
@[simp] theorem modEnt_clk (e : Nat) (f : PtnEnt → PtnEnt) (d : Dev) : (modEnt e f d).clk = d.clk := rfl
@[simp] theorem modEnt_hold (e : Nat) (f : PtnEnt → PtnEnt) (d : Dev) : (modEnt e f d).hold = d.hold := rfl
@[simp] theorem modEnt_boot (e : Nat) (f : PtnEnt → PtnEnt) (d : Dev) : (modEnt e f d).boot = d.boot := rfl
@[simp] theorem modEnt_can (e : Nat) (f : PtnEnt → PtnEnt) (d : Dev) : (modEnt e f d).can = { d.can with ents := tmod {} e f d.can.ents } := rfl
@[simp] theorem modEnt_lanes (e : Nat) (f : PtnEnt → PtnEnt) (d : Dev) : (modEnt e f d).lanes = d.lanes := rfl
@[simp] theorem modEnt_eth (e : Nat) (f : PtnEnt → PtnEnt) (d : Dev) : (modEnt e f d).eth = d.eth := rfl
@[simp] theorem modEnt_chain (e : Nat) (f : PtnEnt → PtnEnt) (d : Dev) : (modEnt e f d).chain = d.chain := rfl
@[simp] theorem modEnt_time (e : Nat) (f : PtnEnt → PtnEnt) (d : Dev) : (modEnt e f d).time = d.time := rfl
@[simp] theorem modEnt_pnd (e : Nat) (f : PtnEnt → PtnEnt) (d : Dev) : (modEnt e f d).pnd = d.pnd := rfl
@[simp] theorem modEnt_free (e : Nat) (f : PtnEnt → PtnEnt) (d : Dev) : (modEnt e f d).free = d.free := rfl

/-! ### `modStr` -/

@[simp] theorem modStr_t (k : Nat) (f : Str → Str) (d : Dev) : (modStr k f d).t = d.t := rfl
@[simp] theorem modStr_sys (k : Nat) (f : Str → Str) (d : Dev) : (modStr k f d).sys = d.sys := rfl
@[simp] theorem modStr_ev (k : Nat) (f : Str → Str) (d : Dev) : (modStr k f d).ev = d.ev := rfl
@[simp] theorem modStr_mbx (k : Nat) (f : Str → Str) (d : Dev) : (modStr k f d).mbx = d.mbx := rfl
@[simp] theorem modStr_pts (k : Nat) (f : Str → Str) (d : Dev) : (modStr k f d).pts = d.pts := rfl
@[simp] theorem modStr_lkt (k : Nat) (f : Str → Str) (d : Dev) : (modStr k f d).lkt = d.lkt := rfl
@[simp] theorem modStr_prm (k : Nat) (f : Str → Str) (d : Dev) : (modStr k f d).prm = d.prm := rfl
@[simp] theorem modStr_commit (k : Nat) (f : Str → Str) (d : Dev) : (modStr k f d).commit = d.commit := rfl
@[simp] theorem modStr_acq (k : Nat) (f : Str → Str) (d : Dev) : (modStr k f d).acq = d.acq := rfl
@[simp] theorem modStr_fil (k : Nat) (f : Str → Str) (d : Dev) : (modStr k f d).fil = d.fil := rfl
@[simp] theorem modStr_legs (k : Nat) (f : Str → Str) (d : Dev) : (modStr k f d).legs = d.legs := rfl
@[simp] theorem modStr_wins (k : Nat) (f : Str → Str) (d : Dev) : (modStr k f d).wins = d.wins := rfl
@[simp] theorem modStr_pwm (k : Nat) (f : Str → Str) (d : Dev) : (modStr k f d).pwm = d.pwm := rfl
@[simp] theorem modStr_gs (k : Nat) (f : Str → Str) (d : Dev) : (modStr k f d).gs = d.gs := rfl
@[simp] theorem modStr_rt (k : Nat) (f : Str → Str) (d : Dev) : (modStr k f d).rt = d.rt := rfl
@[simp] theorem modStr_charm (k : Nat) (f : Str → Str) (d : Dev) : (modStr k f d).charm = d.charm := rfl
@[simp] theorem modStr_pv (k : Nat) (f : Str → Str) (d : Dev) : (modStr k f d).pv = d.pv := rfl
@[simp] theorem modStr_setr (k : Nat) (f : Str → Str) (d : Dev) : (modStr k f d).setr = { d.setr with strs := tmod {} k f d.setr.strs } := rfl
@[simp] theorem modStr_loupe (k : Nat) (f : Str → Str) (d : Dev) : (modStr k f d).loupe = d.loupe := rfl
@[simp] theorem modStr_cask (k : Nat) (f : Str → Str) (d : Dev) : (modStr k f d).cask = d.cask := rfl
@[simp] theorem modStr_carat (k : Nat) (f : Str → Str) (d : Dev) : (modStr k f d).carat = d.carat := rfl
@[simp] theorem modStr_sec (k : Nat) (f : Str → Str) (d : Dev) : (modStr k f d).sec = d.sec := rfl
@[simp] theorem modStr_gd (k : Nat) (f : Str → Str) (d : Dev) : (modStr k f d).gd = d.gd := rfl
@[simp] theorem modStr_clasp (k : Nat) (f : Str → Str) (d : Dev) : (modStr k f d).clasp = d.clasp := rfl
@[simp] theorem modStr_clk (k : Nat) (f : Str → Str) (d : Dev) : (modStr k f d).clk = d.clk := rfl
@[simp] theorem modStr_hold (k : Nat) (f : Str → Str) (d : Dev) : (modStr k f d).hold = d.hold := rfl
@[simp] theorem modStr_boot (k : Nat) (f : Str → Str) (d : Dev) : (modStr k f d).boot = d.boot := rfl
@[simp] theorem modStr_can (k : Nat) (f : Str → Str) (d : Dev) : (modStr k f d).can = d.can := rfl
@[simp] theorem modStr_lanes (k : Nat) (f : Str → Str) (d : Dev) : (modStr k f d).lanes = d.lanes := rfl
@[simp] theorem modStr_eth (k : Nat) (f : Str → Str) (d : Dev) : (modStr k f d).eth = d.eth := rfl
@[simp] theorem modStr_chain (k : Nat) (f : Str → Str) (d : Dev) : (modStr k f d).chain = d.chain := rfl
@[simp] theorem modStr_time (k : Nat) (f : Str → Str) (d : Dev) : (modStr k f d).time = d.time := rfl
@[simp] theorem modStr_pnd (k : Nat) (f : Str → Str) (d : Dev) : (modStr k f d).pnd = d.pnd := rfl
@[simp] theorem modStr_free (k : Nat) (f : Str → Str) (d : Dev) : (modStr k f d).free = d.free := rfl

/-! ### `modPulse` -/

@[simp] theorem modPulse_t (k : Nat) (f : Pulse → Pulse) (d : Dev) : (modPulse k f d).t = d.t := rfl
@[simp] theorem modPulse_sys (k : Nat) (f : Pulse → Pulse) (d : Dev) : (modPulse k f d).sys = d.sys := rfl
@[simp] theorem modPulse_ev (k : Nat) (f : Pulse → Pulse) (d : Dev) : (modPulse k f d).ev = d.ev := rfl
@[simp] theorem modPulse_mbx (k : Nat) (f : Pulse → Pulse) (d : Dev) : (modPulse k f d).mbx = d.mbx := rfl
@[simp] theorem modPulse_pts (k : Nat) (f : Pulse → Pulse) (d : Dev) : (modPulse k f d).pts = d.pts := rfl
@[simp] theorem modPulse_lkt (k : Nat) (f : Pulse → Pulse) (d : Dev) : (modPulse k f d).lkt = d.lkt := rfl
@[simp] theorem modPulse_prm (k : Nat) (f : Pulse → Pulse) (d : Dev) : (modPulse k f d).prm = d.prm := rfl
@[simp] theorem modPulse_commit (k : Nat) (f : Pulse → Pulse) (d : Dev) : (modPulse k f d).commit = d.commit := rfl
@[simp] theorem modPulse_acq (k : Nat) (f : Pulse → Pulse) (d : Dev) : (modPulse k f d).acq = d.acq := rfl
@[simp] theorem modPulse_fil (k : Nat) (f : Pulse → Pulse) (d : Dev) : (modPulse k f d).fil = d.fil := rfl
@[simp] theorem modPulse_legs (k : Nat) (f : Pulse → Pulse) (d : Dev) : (modPulse k f d).legs = d.legs := rfl
@[simp] theorem modPulse_wins (k : Nat) (f : Pulse → Pulse) (d : Dev) : (modPulse k f d).wins = d.wins := rfl
@[simp] theorem modPulse_pwm (k : Nat) (f : Pulse → Pulse) (d : Dev) : (modPulse k f d).pwm = d.pwm := rfl
@[simp] theorem modPulse_gs (k : Nat) (f : Pulse → Pulse) (d : Dev) : (modPulse k f d).gs = d.gs := rfl
@[simp] theorem modPulse_rt (k : Nat) (f : Pulse → Pulse) (d : Dev) : (modPulse k f d).rt = d.rt := rfl
@[simp] theorem modPulse_charm (k : Nat) (f : Pulse → Pulse) (d : Dev) : (modPulse k f d).charm = d.charm := rfl
@[simp] theorem modPulse_pv (k : Nat) (f : Pulse → Pulse) (d : Dev) : (modPulse k f d).pv = d.pv := rfl
@[simp] theorem modPulse_setr (k : Nat) (f : Pulse → Pulse) (d : Dev) : (modPulse k f d).setr = d.setr := rfl
@[simp] theorem modPulse_loupe (k : Nat) (f : Pulse → Pulse) (d : Dev) : (modPulse k f d).loupe = d.loupe := rfl
@[simp] theorem modPulse_cask (k : Nat) (f : Pulse → Pulse) (d : Dev) : (modPulse k f d).cask = d.cask := rfl
@[simp] theorem modPulse_carat (k : Nat) (f : Pulse → Pulse) (d : Dev) : (modPulse k f d).carat = d.carat := rfl
@[simp] theorem modPulse_sec (k : Nat) (f : Pulse → Pulse) (d : Dev) : (modPulse k f d).sec = d.sec := rfl
@[simp] theorem modPulse_gd (k : Nat) (f : Pulse → Pulse) (d : Dev) : (modPulse k f d).gd = d.gd := rfl
@[simp] theorem modPulse_clasp (k : Nat) (f : Pulse → Pulse) (d : Dev) : (modPulse k f d).clasp = d.clasp := rfl
@[simp] theorem modPulse_clk (k : Nat) (f : Pulse → Pulse) (d : Dev) : (modPulse k f d).clk = d.clk := rfl
@[simp] theorem modPulse_hold (k : Nat) (f : Pulse → Pulse) (d : Dev) : (modPulse k f d).hold = d.hold := rfl
@[simp] theorem modPulse_boot (k : Nat) (f : Pulse → Pulse) (d : Dev) : (modPulse k f d).boot = d.boot := rfl
@[simp] theorem modPulse_can (k : Nat) (f : Pulse → Pulse) (d : Dev) : (modPulse k f d).can = d.can := rfl
@[simp] theorem modPulse_lanes (k : Nat) (f : Pulse → Pulse) (d : Dev) : (modPulse k f d).lanes = d.lanes := rfl
@[simp] theorem modPulse_eth (k : Nat) (f : Pulse → Pulse) (d : Dev) : (modPulse k f d).eth = d.eth := rfl
@[simp] theorem modPulse_chain (k : Nat) (f : Pulse → Pulse) (d : Dev) : (modPulse k f d).chain = d.chain := rfl
@[simp] theorem modPulse_time (k : Nat) (f : Pulse → Pulse) (d : Dev) : (modPulse k f d).time = { d.time with pulses := tmod {} k f d.time.pulses } := rfl
@[simp] theorem modPulse_pnd (k : Nat) (f : Pulse → Pulse) (d : Dev) : (modPulse k f d).pnd = d.pnd := rfl
@[simp] theorem modPulse_free (k : Nat) (f : Pulse → Pulse) (d : Dev) : (modPulse k f d).free = d.free := rfl

/-! ### `modPtp` -/

@[simp] theorem modPtp_t (k : Nat) (f : PtpPort → PtpPort) (d : Dev) : (modPtp k f d).t = d.t := rfl
@[simp] theorem modPtp_sys (k : Nat) (f : PtpPort → PtpPort) (d : Dev) : (modPtp k f d).sys = d.sys := rfl
@[simp] theorem modPtp_ev (k : Nat) (f : PtpPort → PtpPort) (d : Dev) : (modPtp k f d).ev = d.ev := rfl
@[simp] theorem modPtp_mbx (k : Nat) (f : PtpPort → PtpPort) (d : Dev) : (modPtp k f d).mbx = d.mbx := rfl
@[simp] theorem modPtp_pts (k : Nat) (f : PtpPort → PtpPort) (d : Dev) : (modPtp k f d).pts = d.pts := rfl
@[simp] theorem modPtp_lkt (k : Nat) (f : PtpPort → PtpPort) (d : Dev) : (modPtp k f d).lkt = d.lkt := rfl
@[simp] theorem modPtp_prm (k : Nat) (f : PtpPort → PtpPort) (d : Dev) : (modPtp k f d).prm = d.prm := rfl
@[simp] theorem modPtp_commit (k : Nat) (f : PtpPort → PtpPort) (d : Dev) : (modPtp k f d).commit = d.commit := rfl
@[simp] theorem modPtp_acq (k : Nat) (f : PtpPort → PtpPort) (d : Dev) : (modPtp k f d).acq = d.acq := rfl
@[simp] theorem modPtp_fil (k : Nat) (f : PtpPort → PtpPort) (d : Dev) : (modPtp k f d).fil = d.fil := rfl
@[simp] theorem modPtp_legs (k : Nat) (f : PtpPort → PtpPort) (d : Dev) : (modPtp k f d).legs = d.legs := rfl
@[simp] theorem modPtp_wins (k : Nat) (f : PtpPort → PtpPort) (d : Dev) : (modPtp k f d).wins = d.wins := rfl
@[simp] theorem modPtp_pwm (k : Nat) (f : PtpPort → PtpPort) (d : Dev) : (modPtp k f d).pwm = d.pwm := rfl
@[simp] theorem modPtp_gs (k : Nat) (f : PtpPort → PtpPort) (d : Dev) : (modPtp k f d).gs = d.gs := rfl
@[simp] theorem modPtp_rt (k : Nat) (f : PtpPort → PtpPort) (d : Dev) : (modPtp k f d).rt = d.rt := rfl
@[simp] theorem modPtp_charm (k : Nat) (f : PtpPort → PtpPort) (d : Dev) : (modPtp k f d).charm = d.charm := rfl
@[simp] theorem modPtp_pv (k : Nat) (f : PtpPort → PtpPort) (d : Dev) : (modPtp k f d).pv = d.pv := rfl
@[simp] theorem modPtp_setr (k : Nat) (f : PtpPort → PtpPort) (d : Dev) : (modPtp k f d).setr = d.setr := rfl
@[simp] theorem modPtp_loupe (k : Nat) (f : PtpPort → PtpPort) (d : Dev) : (modPtp k f d).loupe = d.loupe := rfl
@[simp] theorem modPtp_cask (k : Nat) (f : PtpPort → PtpPort) (d : Dev) : (modPtp k f d).cask = d.cask := rfl
@[simp] theorem modPtp_carat (k : Nat) (f : PtpPort → PtpPort) (d : Dev) : (modPtp k f d).carat = d.carat := rfl
@[simp] theorem modPtp_sec (k : Nat) (f : PtpPort → PtpPort) (d : Dev) : (modPtp k f d).sec = d.sec := rfl
@[simp] theorem modPtp_gd (k : Nat) (f : PtpPort → PtpPort) (d : Dev) : (modPtp k f d).gd = d.gd := rfl
@[simp] theorem modPtp_clasp (k : Nat) (f : PtpPort → PtpPort) (d : Dev) : (modPtp k f d).clasp = d.clasp := rfl
@[simp] theorem modPtp_clk (k : Nat) (f : PtpPort → PtpPort) (d : Dev) : (modPtp k f d).clk = d.clk := rfl
@[simp] theorem modPtp_hold (k : Nat) (f : PtpPort → PtpPort) (d : Dev) : (modPtp k f d).hold = d.hold := rfl
@[simp] theorem modPtp_boot (k : Nat) (f : PtpPort → PtpPort) (d : Dev) : (modPtp k f d).boot = d.boot := rfl
@[simp] theorem modPtp_can (k : Nat) (f : PtpPort → PtpPort) (d : Dev) : (modPtp k f d).can = d.can := rfl
@[simp] theorem modPtp_lanes (k : Nat) (f : PtpPort → PtpPort) (d : Dev) : (modPtp k f d).lanes = d.lanes := rfl
@[simp] theorem modPtp_eth (k : Nat) (f : PtpPort → PtpPort) (d : Dev) : (modPtp k f d).eth = d.eth := rfl
@[simp] theorem modPtp_chain (k : Nat) (f : PtpPort → PtpPort) (d : Dev) : (modPtp k f d).chain = d.chain := rfl
@[simp] theorem modPtp_time (k : Nat) (f : PtpPort → PtpPort) (d : Dev) : (modPtp k f d).time = { d.time with ports := tmod {} k f d.time.ports } := rfl
@[simp] theorem modPtp_pnd (k : Nat) (f : PtpPort → PtpPort) (d : Dev) : (modPtp k f d).pnd = d.pnd := rfl
@[simp] theorem modPtp_free (k : Nat) (f : PtpPort → PtpPort) (d : Dev) : (modPtp k f d).free = d.free := rfl

/-! ### `complete` -/

@[simp] theorem complete_t (c : Completion) (d : Dev) : (complete c d).t = d.t := rfl
@[simp] theorem complete_sys (c : Completion) (d : Dev) : (complete c d).sys = d.sys := rfl
@[simp] theorem complete_ev (c : Completion) (d : Dev) : (complete c d).ev = d.ev := rfl
@[simp] theorem complete_mbx (c : Completion) (d : Dev) : (complete c d).mbx = { d.mbx with done := d.mbx.done ++ [c] } := rfl
@[simp] theorem complete_pts (c : Completion) (d : Dev) : (complete c d).pts = d.pts := rfl
@[simp] theorem complete_lkt (c : Completion) (d : Dev) : (complete c d).lkt = d.lkt := rfl
@[simp] theorem complete_prm (c : Completion) (d : Dev) : (complete c d).prm = d.prm := rfl
@[simp] theorem complete_commit (c : Completion) (d : Dev) : (complete c d).commit = d.commit := rfl
@[simp] theorem complete_acq (c : Completion) (d : Dev) : (complete c d).acq = d.acq := rfl
@[simp] theorem complete_fil (c : Completion) (d : Dev) : (complete c d).fil = d.fil := rfl
@[simp] theorem complete_legs (c : Completion) (d : Dev) : (complete c d).legs = d.legs := rfl
@[simp] theorem complete_wins (c : Completion) (d : Dev) : (complete c d).wins = d.wins := rfl
@[simp] theorem complete_pwm (c : Completion) (d : Dev) : (complete c d).pwm = d.pwm := rfl
@[simp] theorem complete_gs (c : Completion) (d : Dev) : (complete c d).gs = d.gs := rfl
@[simp] theorem complete_rt (c : Completion) (d : Dev) : (complete c d).rt = d.rt := rfl
@[simp] theorem complete_charm (c : Completion) (d : Dev) : (complete c d).charm = d.charm := rfl
@[simp] theorem complete_pv (c : Completion) (d : Dev) : (complete c d).pv = d.pv := rfl
@[simp] theorem complete_setr (c : Completion) (d : Dev) : (complete c d).setr = d.setr := rfl
@[simp] theorem complete_loupe (c : Completion) (d : Dev) : (complete c d).loupe = d.loupe := rfl
@[simp] theorem complete_cask (c : Completion) (d : Dev) : (complete c d).cask = d.cask := rfl
@[simp] theorem complete_carat (c : Completion) (d : Dev) : (complete c d).carat = d.carat := rfl
@[simp] theorem complete_sec (c : Completion) (d : Dev) : (complete c d).sec = d.sec := rfl
@[simp] theorem complete_gd (c : Completion) (d : Dev) : (complete c d).gd = d.gd := rfl
@[simp] theorem complete_clasp (c : Completion) (d : Dev) : (complete c d).clasp = d.clasp := rfl
@[simp] theorem complete_clk (c : Completion) (d : Dev) : (complete c d).clk = d.clk := rfl
@[simp] theorem complete_hold (c : Completion) (d : Dev) : (complete c d).hold = d.hold := rfl
@[simp] theorem complete_boot (c : Completion) (d : Dev) : (complete c d).boot = d.boot := rfl
@[simp] theorem complete_can (c : Completion) (d : Dev) : (complete c d).can = d.can := rfl
@[simp] theorem complete_lanes (c : Completion) (d : Dev) : (complete c d).lanes = d.lanes := rfl
@[simp] theorem complete_eth (c : Completion) (d : Dev) : (complete c d).eth = d.eth := rfl
@[simp] theorem complete_chain (c : Completion) (d : Dev) : (complete c d).chain = d.chain := rfl
@[simp] theorem complete_time (c : Completion) (d : Dev) : (complete c d).time = d.time := rfl
@[simp] theorem complete_pnd (c : Completion) (d : Dev) : (complete c d).pnd = d.pnd := rfl
@[simp] theorem complete_free (c : Completion) (d : Dev) : (complete c d).free = d.free := rfl

/-! ### `answer` -/

@[simp] theorem answer_t (st dt : Nat) (d : Dev) : (answer st dt d).t = d.t := rfl
@[simp] theorem answer_sys (st dt : Nat) (d : Dev) : (answer st dt d).sys = d.sys := rfl
@[simp] theorem answer_ev (st dt : Nat) (d : Dev) : (answer st dt d).ev = d.ev := rfl
@[simp] theorem answer_mbx (st dt : Nat) (d : Dev) : (answer st dt d).mbx = { d.mbx with lastStatus := st, lastDetail := dt } := rfl
@[simp] theorem answer_pts (st dt : Nat) (d : Dev) : (answer st dt d).pts = d.pts := rfl
@[simp] theorem answer_lkt (st dt : Nat) (d : Dev) : (answer st dt d).lkt = d.lkt := rfl
@[simp] theorem answer_prm (st dt : Nat) (d : Dev) : (answer st dt d).prm = d.prm := rfl
@[simp] theorem answer_commit (st dt : Nat) (d : Dev) : (answer st dt d).commit = d.commit := rfl
@[simp] theorem answer_acq (st dt : Nat) (d : Dev) : (answer st dt d).acq = d.acq := rfl
@[simp] theorem answer_fil (st dt : Nat) (d : Dev) : (answer st dt d).fil = d.fil := rfl
@[simp] theorem answer_legs (st dt : Nat) (d : Dev) : (answer st dt d).legs = d.legs := rfl
@[simp] theorem answer_wins (st dt : Nat) (d : Dev) : (answer st dt d).wins = d.wins := rfl
@[simp] theorem answer_pwm (st dt : Nat) (d : Dev) : (answer st dt d).pwm = d.pwm := rfl
@[simp] theorem answer_gs (st dt : Nat) (d : Dev) : (answer st dt d).gs = d.gs := rfl
@[simp] theorem answer_rt (st dt : Nat) (d : Dev) : (answer st dt d).rt = d.rt := rfl
@[simp] theorem answer_charm (st dt : Nat) (d : Dev) : (answer st dt d).charm = d.charm := rfl
@[simp] theorem answer_pv (st dt : Nat) (d : Dev) : (answer st dt d).pv = d.pv := rfl
@[simp] theorem answer_setr (st dt : Nat) (d : Dev) : (answer st dt d).setr = d.setr := rfl
@[simp] theorem answer_loupe (st dt : Nat) (d : Dev) : (answer st dt d).loupe = d.loupe := rfl
@[simp] theorem answer_cask (st dt : Nat) (d : Dev) : (answer st dt d).cask = d.cask := rfl
@[simp] theorem answer_carat (st dt : Nat) (d : Dev) : (answer st dt d).carat = d.carat := rfl
@[simp] theorem answer_sec (st dt : Nat) (d : Dev) : (answer st dt d).sec = d.sec := rfl
@[simp] theorem answer_gd (st dt : Nat) (d : Dev) : (answer st dt d).gd = d.gd := rfl
@[simp] theorem answer_clasp (st dt : Nat) (d : Dev) : (answer st dt d).clasp = d.clasp := rfl
@[simp] theorem answer_clk (st dt : Nat) (d : Dev) : (answer st dt d).clk = d.clk := rfl
@[simp] theorem answer_hold (st dt : Nat) (d : Dev) : (answer st dt d).hold = d.hold := rfl
@[simp] theorem answer_boot (st dt : Nat) (d : Dev) : (answer st dt d).boot = d.boot := rfl
@[simp] theorem answer_can (st dt : Nat) (d : Dev) : (answer st dt d).can = d.can := rfl
@[simp] theorem answer_lanes (st dt : Nat) (d : Dev) : (answer st dt d).lanes = d.lanes := rfl
@[simp] theorem answer_eth (st dt : Nat) (d : Dev) : (answer st dt d).eth = d.eth := rfl
@[simp] theorem answer_chain (st dt : Nat) (d : Dev) : (answer st dt d).chain = d.chain := rfl
@[simp] theorem answer_time (st dt : Nat) (d : Dev) : (answer st dt d).time = d.time := rfl
@[simp] theorem answer_pnd (st dt : Nat) (d : Dev) : (answer st dt d).pnd = d.pnd := rfl
@[simp] theorem answer_free (st dt : Nat) (d : Dev) : (answer st dt d).free = d.free := rfl

/-! ### `journal` -/

@[simp] theorem journal_t (r : JRec) (d : Dev) : (journal r d).t = d.t := rfl
@[simp] theorem journal_sys (r : JRec) (d : Dev) : (journal r d).sys = d.sys := rfl
@[simp] theorem journal_ev (r : JRec) (d : Dev) : (journal r d).ev = d.ev := rfl
@[simp] theorem journal_mbx (r : JRec) (d : Dev) : (journal r d).mbx = d.mbx := rfl
@[simp] theorem journal_pts (r : JRec) (d : Dev) : (journal r d).pts = d.pts := rfl
@[simp] theorem journal_lkt (r : JRec) (d : Dev) : (journal r d).lkt = { d.lkt with journal := d.lkt.journal ++ [r] } := rfl
@[simp] theorem journal_prm (r : JRec) (d : Dev) : (journal r d).prm = d.prm := rfl
@[simp] theorem journal_commit (r : JRec) (d : Dev) : (journal r d).commit = d.commit := rfl
@[simp] theorem journal_acq (r : JRec) (d : Dev) : (journal r d).acq = d.acq := rfl
@[simp] theorem journal_fil (r : JRec) (d : Dev) : (journal r d).fil = d.fil := rfl
@[simp] theorem journal_legs (r : JRec) (d : Dev) : (journal r d).legs = d.legs := rfl
@[simp] theorem journal_wins (r : JRec) (d : Dev) : (journal r d).wins = d.wins := rfl
@[simp] theorem journal_pwm (r : JRec) (d : Dev) : (journal r d).pwm = d.pwm := rfl
@[simp] theorem journal_gs (r : JRec) (d : Dev) : (journal r d).gs = d.gs := rfl
@[simp] theorem journal_rt (r : JRec) (d : Dev) : (journal r d).rt = d.rt := rfl
@[simp] theorem journal_charm (r : JRec) (d : Dev) : (journal r d).charm = d.charm := rfl
@[simp] theorem journal_pv (r : JRec) (d : Dev) : (journal r d).pv = d.pv := rfl
@[simp] theorem journal_setr (r : JRec) (d : Dev) : (journal r d).setr = d.setr := rfl
@[simp] theorem journal_loupe (r : JRec) (d : Dev) : (journal r d).loupe = d.loupe := rfl
@[simp] theorem journal_cask (r : JRec) (d : Dev) : (journal r d).cask = d.cask := rfl
@[simp] theorem journal_carat (r : JRec) (d : Dev) : (journal r d).carat = d.carat := rfl
@[simp] theorem journal_sec (r : JRec) (d : Dev) : (journal r d).sec = d.sec := rfl
@[simp] theorem journal_gd (r : JRec) (d : Dev) : (journal r d).gd = d.gd := rfl
@[simp] theorem journal_clasp (r : JRec) (d : Dev) : (journal r d).clasp = d.clasp := rfl
@[simp] theorem journal_clk (r : JRec) (d : Dev) : (journal r d).clk = d.clk := rfl
@[simp] theorem journal_hold (r : JRec) (d : Dev) : (journal r d).hold = d.hold := rfl
@[simp] theorem journal_boot (r : JRec) (d : Dev) : (journal r d).boot = d.boot := rfl
@[simp] theorem journal_can (r : JRec) (d : Dev) : (journal r d).can = d.can := rfl
@[simp] theorem journal_lanes (r : JRec) (d : Dev) : (journal r d).lanes = d.lanes := rfl
@[simp] theorem journal_eth (r : JRec) (d : Dev) : (journal r d).eth = d.eth := rfl
@[simp] theorem journal_chain (r : JRec) (d : Dev) : (journal r d).chain = d.chain := rfl
@[simp] theorem journal_time (r : JRec) (d : Dev) : (journal r d).time = d.time := rfl
@[simp] theorem journal_pnd (r : JRec) (d : Dev) : (journal r d).pnd = d.pnd := rfl
@[simp] theorem journal_free (r : JRec) (d : Dev) : (journal r d).free = d.free := rfl

end Sys2Proof.Machine
end

