-- ==== Sys2Proof/Laws/Legs.lean ====
section
/-!
SUPPORT. What the operations of the state machine do to a leg that is out of service or leaves it.
-/
namespace Sys2Proof.Safety

open Sys2Proof.Machine

/-- `y` is `x` as transitions, trips and the loss of other legs may leave it: a leg out of service stays out, and the driver
inputs and latches are as they were. -/
structure LegStays (x y : Leg) : Prop where
  out : x.insvc = false → y.insvc = false
  dfltIn : y.dfltIn = x.dfltIn
  duvIn : y.duvIn = x.duvIn
  dfltLat : y.dfltLat = x.dfltLat
  duvLat : y.duvLat = x.duvLat
  shootTrip : y.shootTrip = x.shootTrip
  leaving : x.leaving = false → y.leaving = false

theorem LegStays.refl (x : Leg) : LegStays x x := ⟨id, rfl, rfl, rfl, rfl, rfl, id⟩

theorem LegStays.trans {x y z : Leg} (h : LegStays x y) (k : LegStays y z) : LegStays x z :=
  ⟨fun a => k.out (h.out a), k.dfltIn.trans h.dfltIn, k.duvIn.trans h.duvIn, k.dfltLat.trans h.dfltLat,
    k.duvLat.trans h.duvLat, k.shootTrip.trans h.shootTrip, fun a => k.leaving (h.leaving a)⟩

theorem legStays_of_legs {d e : Dev} (n : Nat) (h : e.legs = d.legs) : LegStays (leg d n) (leg e n) := by
  unfold leg; rw [h]; exact LegStays.refl _

theorem modLeg_stays (n m : Nat) (f : Leg → Leg) (hf : ∀ x, LegStays x (f x)) (d : Dev) :
    LegStays (leg d n) (leg (modLeg m f d) n) := by
  unfold leg
  rw [modLeg_legs, tget_tmod]
  split
  · subst ‹n = m›; exact hf _
  · exact LegStays.refl _

theorem foldl_stays {β : Type} (n : Nat) (g : Dev → β → Dev) (h : ∀ e b, LegStays (leg e n) (leg (g e b) n)) (l : List β) :
    ∀ d, LegStays (leg d n) (leg (l.foldl g d) n) := by
  induction l with
  | nil => intro d; exact LegStays.refl _
  | cons b r ih => intro d; exact (h d b).trans (ih _)

theorem legLeft_stays (x : Leg) : LegStays x (legLeft x) := ⟨fun _ => rfl, rfl, rfl, rfl, rfl, rfl, fun _ => rfl⟩

theorem leaveState_stays (n : Nat) (d : Dev) : LegStays (leg d n) (leg (leaveState d) n) := by
  unfold leaveState
  split
  · refine (foldl_stays n (fun e k => modLeg k (fun x => { x with force := 0 }) e)
      (fun e k => modLeg_stays n k (fun x => { x with force := 0 }) (fun x => ⟨id, rfl, rfl, rfl, rfl, rfl, id⟩) e) (List.range 48) d).trans ?_
    exact legStays_of_legs n ((keeps_sys _ _).legs (by decide))
  · exact legStays_of_legs n rfl
  · exact legStays_of_legs n rfl
  · exact LegStays.refl _

theorem transition_stays (n : Nat) (target : OpState) (c : Nat) (d : Dev) :
    LegStays (leg d n) (leg (transition target c d) n) := by
  unfold transition
  split
  · exact LegStays.refl _
  · refine LegStays.trans (legStays_of_legs n ((probeState_keeps target d).legs (by decide))) ?_
    refine (leaveState_stays n _).trans (legStays_of_legs n ?_)
    rw [(calAbort_keeps _ _).legs (by decide), (enterState_keeps _ _).legs (by decide), raise_legs]

theorem legsOut_stays (n : Nat) (d : Dev) : LegStays (leg d n) (leg (legsOut d) n) := by
  have h : ∀ (e : Dev) (k : Nat), LegStays (leg e n)
      (leg (if (leg e k).insvc || (leg e k).entering then sweepLegLost k (modLeg k legLeft e) else e) n) := by
    intro e k
    split
    · exact (modLeg_stays n k _ legLeft_stays e).trans (legStays_of_legs n ((sweepLegLost_keeps k _).legs (by decide)))
    · exact LegStays.refl _
  refine (foldl_stays n _ h (List.range 48) d).trans ?_
  exact legStays_of_legs n ((keeps_setr _ _).legs (by decide))

theorem enterTrip_stays (n c : Nat) (d : Dev) : LegStays (leg d n) (leg (enterTrip c d) n) := by
  have demand : ∀ (b : Prop) [Decidable b] (g : Bool) (x : Leg) (f : Dev), LegStays x (leg f n) →
      LegStays x (leg (if b then gdDemand g f else f) n) := by
    intro b _ g x f h
    split
    · exact h.trans (legStays_of_legs n ((gdDemand_keeps _ _).legs (by decide)))
    · exact h
  have mark : LegStays (leg d n) (leg
      (if 0x26 ≤ c ∧ c ≤ 0x29 ∧ d.pnd.role = 1 then { d with pnd := { d.pnd with fault := true } } else d) n) := by
    split
    · exact legStays_of_legs n rfl
    · exact LegStays.refl _
  unfold enterTrip
  refine mark.trans ?_
  generalize (if 0x26 ≤ c ∧ c ≤ 0x29 ∧ d.pnd.role = 1 then { d with pnd := { d.pnd with fault := true } } else d) = e
  dsimp only
  split
  · exact legStays_of_legs n rfl
  · split
    · refine demand _ _ _ _ ?_
      refine LegStays.trans ?_ (legStays_of_legs n ((keeps_sys _ _).legs (by decide)))
      refine LegStays.trans ?_ (transition_stays n _ _ _)
      refine LegStays.trans ?_ (legsOut_stays n _)
      refine LegStays.trans ?_ (legStays_of_legs n ((keeps_pwm _ _).legs (by decide)))
      split
      · exact legStays_of_legs n ((wakeDomains_keeps e).legs (by decide))
      · exact LegStays.refl _
    · exact LegStays.refl _

theorem checkAc_stays (n : Nat) (d : Dev) : LegStays (leg d n) (leg (checkAc d) n) := by
  unfold checkAc
  split
  · exact enterTrip_stays n _ d
  · exact LegStays.refl _

theorem bridgeDown_stays (n m : Nat) (up : Bool) (d : Dev) : LegStays (leg d n) (leg (bridgeDown m up d) n) := by
  unfold bridgeDown
  split
  · exact LegStays.refl _
  · have down : ∀ l : List Nat, LegStays (leg d n) (leg (l.foldl (fun e k =>
        if k = m then e
        else if inSvc e k then modLeg k (fun x => { x with companion := true }) e
        else if (leg e k).entering then modLeg k (fun x => { x with entering := false, mayReturn := true }) e
        else e) d) n) := fun l => foldl_stays n _ (fun e k => by
      split
      · exact LegStays.refl _
      · split
        · exact modLeg_stays n k (fun x => { x with companion := true })
            (fun x => ⟨id, rfl, rfl, rfl, rfl, rfl, id⟩) e
        · split
          · exact modLeg_stays n k (fun x => { x with entering := false, mayReturn := true })
              (fun x => ⟨id, rfl, rfl, rfl, rfl, rfl, id⟩) e
          · exact LegStays.refl _) l d
    split
    · exact (down _).trans (legStays_of_legs n (raiseI_legs _ _ _))
    · exact down _

/-- A leg in service, or placed, that is lost leaves service, with its inputs and latches as they were (R25, R183). -/
theorem legOut_leaves (n : Nat) (back : Bool) (d : Dev) (h : (inSvc d n || (leg d n).entering) = true) :
    LegStays (legLeft (leg d n)) (leg (legOut n back d) n) := by
  have ac : ∀ (b : Prop) [Decidable b] (x : Leg) (f : Dev), LegStays x (leg f n) →
      LegStays x (leg (if b then checkAc f else f) n) := by
    intro b _ x f h
    split
    · exact h.trans (checkAc_stays n _)
    · exact h
  unfold legOut
  rw [if_pos h]
  refine ac _ _ _ ?_
  refine LegStays.trans ?_ (bridgeDown_stays n n _ _)
  refine LegStays.trans ?_ (legStays_of_legs n ((sweepLegLost_keeps n _).legs (by decide)))
  refine LegStays.trans ?_ (legStays_of_legs n ((keeps_setr _ _).legs (by decide)))
  unfold leg
  rw [modLeg_legs, tget_tmod_self]
  exact ⟨fun _ => rfl, rfl, rfl, rfl, rfl, rfl, fun _ => rfl⟩

end Sys2Proof.Safety
end

