-- ==== Sys2Proof/Tests/Slice0.lean ====
section
/-!
SUPPORT. Tests: the checks of `Instr.wf`, the spec's worked examples, and for each statement with hypotheses one theorem
`wit_<statement>` that shows, clause by clause, a state and operands that meet them all.
-/
open Sys2Proof Sys2Proof.Machine Sys2Proof.Safety
namespace Sys2Proof.Tests

set_option Elab.async false
set_option linter.unusedVariables false

/-- A device that is up in READY with every loop locked. -/
def dev0 : Dev :=
  { sys := { st := .ready, up := true }, clk := { lock := 63, refOk := true }, cask := { up := true },
    clasp := { pwrEn := true } }

/-- That device after changes. -/
def dev (fs : List (Dev → Dev)) : Dev := fs.foldl (fun d f => f d) dev0

/-- The state right after reset with that device. -/
def st (fs : List (Dev → Dev)) : State := { State.reset with dev := dev fs }

/-- A mailbox slot's bytes: a command of opcode `op` with a session token and a payload (R359). -/
def slotOf (op sess : Nat) (body : List Byte) : List Byte :=
  let b := le 1 op ++ [0] ++ le 2 body.length ++ le 4 sess ++ le 4 0
  b ++ le 4 (crc32 (b ++ [0, 0, 0, 0] ++ body)) ++ body

/-- The command of such a slot. -/
def cmdOf (op sess : Nat) (body : List Byte) : Cmd := ⟨0, op, 0, body.length, sess, body⟩

/-- The state `st fs` with such a command rung in slot 0. -/
def cmdSt (op sess : Nat) (body : List Byte) (fs : List (Dev → Dev)) : State :=
  { State.reset with
    hostMem := writeMem [] 0x2000 (slotOf op sess body),
    dev := dev ((fun d => { d with mbx := { d.mbx with rung := [0], checked := true, busy := 1 } }) :: fs) }

/-- Slot 15 filled with such a command that is not yet rung. -/
def rings (op : Nat) (body : List Byte) (fs : List (Dev → Dev)) : State :=
  { st fs with hostMem := writeMem [] 0x2000 (slotOf op 0 body) }

/-- Input 4 is in its scan and has a valid result (R57). -/
def calReady (d : Dev) : Dev :=
  modAin 4 (fun x => { x with res := { x.res with valid := true } }) (setPrm 0x1000 0 1 (setPrm 0x1001 0 0x3FFF d))

/-- Cascade 5 is enabled and ready with one valid source (R74, R77). -/
def casReady (d : Dev) : Dev :=
  modCas 5 (fun x => { x with ready := true })
    (modAin 4 (fun x => { x with res := { x.res with valid := true, value := 5 } })
      (setPrm 0x2010 5 1 (setPrm 0x2012 20 0x1004 d)))

/-- A device in SYNC with an AC bridge, from which REQ_RUN is admitted (R22). -/
def runReady (d : Dev) : Dev :=
  let e := { d with sys := { d.sys with st := .sync }, gs := { d.gs with lock := true, vValid := true },
                    gd := { d.gd with closed := true }, rt := { d.rt with known := true, regU := 0, regF := 0, uLo := 1, uHi := 1, f := 50 } }
  let e := modAin (prm d 0x5013 0) (fun x => { x with res := { x.res with valid := true } }) (setPrm 0x5051 0 0 e)
  setPrm 0x3100 0 1 (setPrm 0x3100 1 1 (setPrm 0x3100 2 1 (setPrm 0x5060 0 0x80020100 e)))

/-- A device in CLASP whose main supply is off and on its way (R511). -/
def claspOnly (d : Dev) : Dev :=
  { d with sys := { d.sys with st := .clasp, up := false }, clasp := { d.clasp with pwrEn := false } }

/-- A zero calibration of input 4, gain 1, that has gathered its results, and a full-scale one. -/
def job : CalJob := ⟨0, 4, 1, false, false, 0, 1024, 0, 0, 0, 0, 0, none, true, false, false, 0⟩
def jobF : CalJob := { job with full := true, applied := 1000000, sum := 1024 * 1000000 }

/-- An evaluation that is under way. -/
def ejob : EvalJob := ⟨[5], 0, 0, 5, false, false, [], 5, [5], 0, 0, false⟩

/-- A commit of groups 4 by a session of class 3, and a record. -/
def cjob : CommitJob := ⟨4, 0, 3, none, 10⟩
def rec1 : Rec := ⟨1, 0, 0, 1, 0, 0, 0, 0, 0, 0, 0, 0, 0, [1, 2], []⟩

/-- An epoch record, an intent of type 1 that lands at once, and a lane frame with a good check and another origin. -/
def epoch1 : EpochRecord :=
  ⟨10, 0x30, 0, 50, 0, 0, 0, 0, 0, 0, 0, 1, 1, 0, 0, 1, 0, 0, 0, 0, 0, 0, 0, 0, 0, 0, 0, 0, 0, []⟩
def intent1 : SetRec := { seq := 1, typ := 1, landMs := 10 }
def frame128 (o : Nat) : List Byte :=
  let b := [0] ++ le 2 o ++ le 120 0
  [0xBC] ++ b ++ le 4 (crc32 b)

/-- A description to fall back on. -/
def wDesc : Desc := ⟨0, 0, 0, 0, 0, false, 0, 0, 0, 0, 0, 0⟩

/-! ### Ill-formed and well-formed commands -/

/-- Every command of a list is refused. -/
def refusesAll (is_ : List Instr) : Bool := is_.all (fun i => !i.wf)

/-- Every command of a list is taken. -/
def takesAll (is_ : List Instr) : Bool := is_.all (fun i => i.wf)

theorem test_wf_refuses_class : refusesAll [
    .reqClasp 0 4, .reqReady 0 4, .reqDoze 0 4, .reqSync 0 4, .reqRun 0 4, .reqForm 0 4, .reqService 0 4,
    .traceFire 0 4 15, .filStageDiscard 0 4, .spFixedWrite 0 4 127 0, .gateClear 0 4 47, .outForce 0 4 47 0,
    .drvClearGo 0 4 5, .winClear 0 4 55, .winTestUpper 0 4 55, .winTestLower 0 4 55, .gsSetpointWrite 0 4 0 0,
    .pvSweepGo 0 4 15, .pvPMaxWrite 0 4 15 0, .caratSaveGo 0 4, .caratPhCalGo 0 4 0, .loupeArm 0 4 3,
    .loupeFire 0 4 3, .loupeStop 0 4 3, .stageDiscard 0 4 0, .hostPointWrite 0 4 65535 0, .canRecover 0 4 11,
    .lanePrbsPat 0 4 7 0, .timeSet 0 4 0, .pndXcalGo 0 4 0] = true := by
  decide

theorem test_wf_refuses_view_index : refusesAll [
    .mgmtViewReconcile 0 .leg 48, .mgmtViewReconcile 0 .window 56, .mgmtViewReconcile 0 .facet 13,
    .mgmtViewReconcile 0 .string 16, .mgmtViewReconcile 0 .tier 3] = true := by
  decide

theorem test_wf_refuses_index : refusesAll [
    .scanTimerFire 0 8, .trigInEdge 0 4 true, .evPendWrite 0 4 4294967295, .hostPointWrite 0 3 65536 0,
    .lanePrbsPat 0 3 8 0, .chainFrameRx 0 8 [], .chainTriggerRx 0 8 [], .tpulseEdge 0 8 true,
    .tcapEdge 0 8 true, .prbsCheckerLock 0 8 true, .prbsBitError 0 8] = true := by
  decide

theorem test_wf_refuses_facet : refusesAll [
    .scanStart 0 13, .ainResultDelivered 0 13 15 0 true 0, .spareTakeover 0 13,
    .facetSelfcalDone 0 13 true] = true := by
  decide

theorem test_wf_refuses_port_or_position : refusesAll [
    .ainResultDelivered 0 12 16 0 true 0, .canFrameRx 0 12 ⟨2047, false, false, false, false, false, []⟩,
    .partnerFrameProcess 0 12, .canTxDone 0 12 .sent, .canBusError 0 12 0 0 0, .canBoffWaitExpiry 0 12,
    .canRecover 0 3 12, .canRecoveryDone 0 12] = true := by
  decide

theorem test_wf_refuses_slot : refusesAll [
    .calzero 0 16, .calfullDc 0 16, .calfullAc 0 16, .pget 0 16, .pgetShadow 0 16, .pset 0 16, .commit 0 16,
    .commitCheckOnly 0 16, .evread 0 16, .evreadArchive 0 16, .ptread 0 16, .reclist 0 16, .recread 0 16 none,
    .recreadRelease 0 16 none, .fwstageChunk 0 16, .fwstageLast 0 16, .fwactHandover 0 16, .fwactLive 0 16,
    .fwactNextReset 0 16, .attest 0 16, .sessionOpen 0 16, .sessionClose 0 16, .legsvcOut 0 16, .legsvcOutNow 0 16,
    .legsvcIn 0 16, .pairUnpair 0 16, .pairActive 0 16, .pairStandby 0 16, .pairSwap 0 16] = true := by
  decide

theorem test_wf_refuses_cascade : refusesAll [
    .cascadeEvalStart 0 128 .good, .cascadeEvalDone 0 128 .good, .spFixedWrite 0 3 128 0, .setpointTimeout 0 128,
    .filigreeParityError 0 128 true, .bankScrub 0 128 true, .mirrorCascadeStateRx 0 128 0 0 []] = true := by
  decide

theorem test_wf_refuses_tap : refusesAll [
    .tracePostComplete 0 16, .traceFire 0 3 16] = true := by
  decide

theorem test_wf_refuses_input : refusesAll [
    .pinSpEdge 0 4 true 0, .pvStartHold 0 16, .pvStopHold 0 16, .poIntervalEnd 0 16, .shadeHoldExpiry 0 16 true,
    .sweepScheduled 0 16, .sweepAfterStart 0 16, .pvSweepGo 0 3 16, .pvPMaxWrite 0 3 16 0, .sweepStart 0 16,
    .sweepDeferExpiry 0 16, .sweepRetry 0 16] = true := by
  decide

theorem test_wf_refuses_leg : refusesAll [
    .carrierPeriodStart 0 48, .loadPoint 0 48 true, .sEdge 0 48 true, .deadTimeExpiry 0 48 true, .shootLimitTrip 0 48,
    .bootRefreshEnforce 0 48, .legServiceEntry 0 48, .legServiceExit 0 48, .duvBlankEnd 0 48, .dfltAssert 0 48,
    .dfltRelease 0 48, .duvAssert 0 48, .duvRelease 0 48, .bridgeCompanionExit 0 48, .gateClear 0 3 48,
    .outForce 0 3 48 0, .mirrorLegRx 0 48 true true 0] = true := by
  decide

theorem test_wf_refuses_group : refusesAll [
    .drvClearGo 0 3 6, .drvClearLow 0 6, .drvClearHigh 0 6, .drvClearDone 0 6] = true := by
  decide

theorem test_wf_refuses_window : refusesAll [
    .windowAssert 0 56 true [], .cutLimitTrip 0 56, .windowRelease 0 56 true [], .winClear 0 3 56, .winTestUpper 0 3 56,
    .winTestLower 0 3 56, .winTestReleaseCheck 0 56 true, .winTestAssertDeadline 0 56 none, .winTestSourceReturn 0 56,
    .winTestEnd 0 56 true] = true := by
  decide

theorem test_wf_refuses_string : refusesAll [
    .rackStaleHoldExpiry 0 16] = true := by
  decide

theorem test_wf_refuses_recorder : refusesAll [
    .loupeArm 0 3 4, .loupeFire 0 3 4, .loupeStop 0 3 4, .loupePreFilled 0 4, .loupePostComplete 0 4,
    .loupeStoreDone 0 4 .good, .loupeRearmHold 0 4] = true := by
  decide

theorem test_wf_refuses_value : refusesAll [
    .mbxDoorWrite 0 65536, .evPendWrite 0 3 4294967296] = true := by
  decide

theorem test_wf_refuses_frame : refusesAll [
    .canFrameRx 0 11 ⟨2048, false, false, false, false, false, []⟩,
    .canFrameRx 0 11 ⟨2 ^ 29, true, false, false, false, false, []⟩,
    .canFrameRx 0 11 ⟨0, false, false, false, false, false, List.replicate 9 0⟩,
    .canFrameRx 0 11 ⟨0, false, true, false, false, true, []⟩] = true := by
  decide

theorem test_wf_refuses_ethernet_port : refusesAll [
    .partnerDatagramRx 0 2 ⟨0, 0⟩ [], .ethLinkUp 0 2 1000 true, .ethLinkDown 0 2,
    .ethFrameRx 0 2 ⟨true, 64, none, .other⟩, .arpEntryExpiry 0 2 0, .ptpSyncRx 0 2 0,
    .ptpAnnounceRx 0 2 ⟨0, 0, 0, 0, 0, 0, 0, 0, 0⟩, .ptpDelayRx 0 2 0, .ptpMsgSend 0 2 0,
    .ptpAnnounceTimeout 0 2] = true := by
  decide

theorem test_wf_refuses_entry : refusesAll [
    .partnerStale 0 4096, .partnerTxPeriod 0 4096, .partnerTxOnchange 0 4096 0] = true := by
  decide

theorem test_wf_refuses_speed : refusesAll [
    .ethLinkUp 0 1 11 true] = true := by
  decide

theorem test_wf_refuses_entry_of_the_queue : refusesAll [
    .ptpTxTimestamp 0 16 0, .tsqEntryTimeout 0 16] = true := by
  decide

theorem test_wf_refuses_point : refusesAll [
    .mirrorCaratRx 0 33 []] = true := by
  decide

theorem test_wf_refuses_loop : refusesAll [
    .pllRelock 0 6 0 0, .pllRelockRetry 0 6] = true := by
  decide

theorem test_wf_takes_last_1 : takesAll [
    .reqClasp 0 3, .reqReady 0 3, .reqDoze 0 3, .reqSync 0 3, .reqRun 0 3, .reqForm 0 3, .reqService 0 3,
    .mgmtViewReconcile 0 .leg 47, .scanTimerFire 0 7, .scanStart 0 12, .ainResultDelivered 0 12 15 0 true 0,
    .spareTakeover 0 12, .facetSelfcalDone 0 12 true, .calzero 0 15, .calfullDc 0 15, .calfullAc 0 15,
    .cascadeEvalStart 0 127 .good, .cascadeEvalDone 0 127 .good, .tracePostComplete 0 15, .traceFire 0 3 15,
    .filStageDiscard 0 3, .spFixedWrite 0 3 127 0, .pinSpEdge 0 3 true 0, .setpointTimeout 0 127,
    .filigreeParityError 0 127 true, .bankScrub 0 127 true, .carrierPeriodStart 0 47, .loadPoint 0 47 true,
    .sEdge 0 47 true, .deadTimeExpiry 0 47 true, .shootLimitTrip 0 47, .bootRefreshEnforce 0 47,
    .legServiceEntry 0 47, .legServiceExit 0 47, .duvBlankEnd 0 47, .dfltAssert 0 47, .dfltRelease 0 47,
    .duvAssert 0 47, .duvRelease 0 47, .bridgeCompanionExit 0 47, .gateClear 0 3 47, .outForce 0 3 47 0,
    .drvClearGo 0 3 5, .drvClearLow 0 5, .drvClearHigh 0 5, .drvClearDone 0 5, .windowAssert 0 55 true [],
    .cutLimitTrip 0 55, .windowRelease 0 55 true [], .winClear 0 3 55, .winTestUpper 0 3 55, .winTestLower 0 3 55,
    .winTestReleaseCheck 0 55 true, .winTestAssertDeadline 0 55 none, .winTestSourceReturn 0 55,
    .winTestEnd 0 55 true, .gsSetpointWrite 0 3 0 0, .pvStartHold 0 15, .pvStopHold 0 15,
    .poIntervalEnd 0 15] = true := by
  decide

theorem test_wf_takes_last_2 : takesAll [
    .shadeHoldExpiry 0 15 true, .sweepScheduled 0 15, .sweepAfterStart 0 15, .pvSweepGo 0 3 15, .pvPMaxWrite 0 3 15 0,
    .sweepStart 0 15, .sweepDeferExpiry 0 15, .sweepRetry 0 15, .rackStaleHoldExpiry 0 15, .caratSaveGo 0 3,
    .caratPhCalGo 0 3 0, .loupeArm 0 3 3, .loupeFire 0 3 3, .loupeStop 0 3 3, .loupePreFilled 0 3,
    .loupePostComplete 0 3, .loupeStoreDone 0 3 .good, .loupeRearmHold 0 3, .trigInEdge 0 3 true,
    .mbxDoorWrite 0 65535, .evPendWrite 0 3 4294967295, .pget 0 15, .pgetShadow 0 15, .pset 0 15, .stageDiscard 0 3 0,
    .hostPointWrite 0 3 65535 0, .commit 0 15, .commitCheckOnly 0 15, .evread 0 15, .evreadArchive 0 15, .ptread 0 15,
    .reclist 0 15, .recread 0 15 none, .recreadRelease 0 15 none, .fwstageChunk 0 15, .fwstageLast 0 15,
    .fwactHandover 0 15, .fwactLive 0 15, .fwactNextReset 0 15, .attest 0 15, .sessionOpen 0 15, .sessionClose 0 15,
    .legsvcOut 0 15, .legsvcOutNow 0 15, .legsvcIn 0 15, .pairUnpair 0 15, .pairActive 0 15, .pairStandby 0 15,
    .pairSwap 0 15, .canFrameRx 0 11 ⟨2047, false, false, false, false, false, []⟩, .partnerFrameProcess 0 11,
    .partnerDatagramRx 0 1 ⟨0, 0⟩ [], .partnerStale 0 4095, .partnerTxPeriod 0 4095, .partnerTxOnchange 0 4095 0,
    .canTxDone 0 11 .sent, .canBusError 0 11 0 0 0, .canBoffWaitExpiry 0 11, .canRecover 0 3 11,
    .canRecoveryDone 0 11] = true := by
  decide

theorem test_wf_takes_last_3 : takesAll [
    .lanePrbsPat 0 3 7 0, .chainFrameRx 0 7 [], .chainTriggerRx 0 7 [], .ethLinkUp 0 1 1000 true, .ethLinkDown 0 1,
    .ethFrameRx 0 1 ⟨true, 64, none, .other⟩, .arpEntryExpiry 0 1 0, .ptpSyncRx 0 1 0,
    .ptpAnnounceRx 0 1 ⟨0, 0, 0, 0, 0, 0, 0, 0, 0⟩, .ptpDelayRx 0 1 0, .ptpMsgSend 0 1 0,
    .ptpTxTimestamp 0 15 0, .tsqEntryTimeout 0 15, .timeSet 0 3 0, .tpulseEdge 0 7 true,
    .tcapEdge 0 7 true, .mirrorCascadeStateRx 0 127 0 0 [], .mirrorLegRx 0 47 true true 0,
    .mirrorCaratRx 0 32 [], .pndXcalGo 0 3 0, .pllRelock 0 5 0 0, .pllRelockRetry 0 5, .prbsCheckerLock 0 7 true,
    .prbsBitError 0 7, .ptpAnnounceTimeout 0 1] = true := by
  decide

/-! ### The spec's worked examples, one command each -/

/-- The device of a next state. -/
def devOf (c : Instr) (s : State) : Option Dev :=
  match exec c s with
  | .next s' => some s'.dev
  | _ => none

/-- File 14: gs.p.set 0.8000 pu travels as `40 1F 00 00`, and the code −390 as `7A FE FF FF`. -/
theorem test_travelling_values : le 4 8000 = [0x40, 0x1F, 0, 0] ∧ le 4 (ofInt 32 (-390)) = [0x7A, 0xFE, 0xFF, 0xFF] := by
  decide +kernel

/-- File 04: leg 0 at P = 80,000 ticks with cascade 0 as its source. -/
def leg0At (start : Nat) (good : Int) (f : Leg → Leg) : State :=
  st [setPrm 0x3100 0 1, setPrm 0x3104 0 80000, setPrm 0x3107 0 1, setPrm 0x2018 0 0x1000, setPrm 0x2010 0 1,
    modCas 0 (fun x => { x with good := good }),
    modLeg 0 (fun x => f { x with insvc := true, running := true, start := start, len := 80000 })]

/-- File 04: at the peak, m = +0.50 gives H2 = 960,000, and S falls at 70,000. -/
theorem test_peak_load : ((devOf (.loadPoint 40000 0 true) (leg0At 0 4194304 (fun x => { x with s := true }))).map
    (fun d => ((leg d 0).h2, (leg d 0).fall))) = some (960000, some (16 * 70000)) := by
  decide +kernel

/-- File 04: at the valley, m = +0.40 gives H1 = 896,000, and S rises 12,000 ticks later. -/
theorem test_valley_load : ((devOf (.loadPoint 80000 0 false) (leg0At 80000 3355443 id)).map
    (fun d => ((leg d 0).h1, (leg d 0).rise))) = some (896000, some (16 * 12000)) := by
  decide +kernel

/-- File 20: a store of 470 µF with V_min 8.0 V and η 0.85. -/
def store17 : State := st [setPrm 0xF000 0 470, setPrm 0xF001 0 800, setPrm 0xF002 0 85]

/-- File 20: 12.0 V gauges 15,980 µJ, 11.0 V 11,386 µJ and 8.9 V 3,038 µJ. -/
theorem test_hold_gauge : [2400, 2200, 1780].map (fun v => (devOf (.holdGaugeUpdate 0 v) store17).map (·.hold.e)) =
    [some 15980, some 11386, some 3038] := by
  decide +kernel

/-- File 13: the payload that asks for SYNC, from an operator's session. -/
def askSync (fs : List (Dev → Dev)) : State :=
  cmdSt 2 0x2E4190C3 [0x10, 0, 0, 0, 1, 0, 4, 0, 4, 0, 0, 0]
    ((fun d => { d with mbx := { d.mbx with sessOpen := true, sessClass := 1, sessToken := 0x2E4190C3 } }) ::
      (fun d => { d with gs := { d.gs with vValid := true, vMag := 1 } }) :: fs)

/-- File 13: with window 48 in ARMHOLD the request is refused with DETAIL 0x20. -/
theorem test_sync_refused : ((devOf (.pset 800000000 0) (askSync [modWin 48 (fun x => { x with armhold := true })])).map
    (fun d => (d.sys.st, d.mbx.done.map (fun c => (c.op, c.status, c.detail))))) =
      some (.ready, [(2, 1, 0x20)]) := by
  decide +kernel

/-- File 13: later it completes with OK, and file 01: SYNC with cause 0x05. -/
theorem test_sync_served : ((devOf (.pset 1200000000 0) (askSync [])).map
    (fun d => (d.sys.st, d.sys.cause, d.mbx.done.map (fun c => (c.op, c.status))))) = some (.sync, 5, [(2, 0)]) := by
  decide +kernel

/-- File 13: queue entry 0 starts `70 02 01 01` and holds DETAIL 0x0000_0020. -/
theorem test_completion_entry : (match exec (.completionPost 800000000)
      (st [fun d => { d with mbx := { d.mbx with done := [⟨0, 7, 2, 1, 0x20, [], 2000⟩] } }]) with
    | .next s => readMem s.hostMem 0x4000 8
    | _ => []) = [0x70, 2, 1, 1, 0x20, 0, 0, 0] := by
  decide +kernel

/-- File 15: the twin filter 0x4000_0181_0000_0180 takes identifiers 0x180 and 0x181 and no other. -/
theorem test_twin_filter : [0x17F, 0x180, 0x181, 0x182].map (fun i =>
    describes 0x4000018100000180 ⟨i, false, true, true, false, false, []⟩) = [false, true, true, false] := by
  decide +kernel

/-- File 19: the ramp of block 17 has an excursion of 40 ticks, read as 2,560. -/
theorem test_ramp_excursion : rampExcReg (dev ((List.range 64).map (fun i =>
    setPrm 0xF202 i (ofInt 32 (6250 * (min i (63 - i) : Nat) - 96875))))) = 2560 := by
  decide +kernel

/-- File 03: a loop of two sections costs 14 lane cycles. -/
theorem test_lane_cycles : laneCycles (dev [setPrm 0x2011 0 2]) 0 = 14 := by
  decide +kernel

/-- The digest of "abc" and the check value of CRC-32 over "123456789", as their standards give them. -/
theorem test_digests : (sha256 [0x61, 0x62, 0x63]).take 4 = [0xBA, 0x78, 0x16, 0xBF] ∧
    crc32 [0x31, 0x32, 0x33, 0x34, 0x35, 0x36, 0x37, 0x38, 0x39] = 0xCBF43926 := by
  decide +kernel

/-- No word spells a command: the table gives no row any bits. -/
theorem test_no_word_decodes : decodeTableWord 0 0 = none ∧ decodeTableWord 32 0xFFFFFFFF = none := by
  decide

/-- File 14: window 0's trip code of 390 staged in RUN with leg 0 in service. -/
def staged390 (cls : Nat) : Dev → Dev := fun d =>
  { modLeg 0 (fun x => { x with insvc := true }) (setPrm 0x3100 0 1 d) with
    sys := { d.sys with st := .run }
    prm := { d.prm with staged := [(pkey 0x4004 0, 390)] }
    commit := some { cjob with groups := 0x10, slot := 4, cls := cls }
    mbx := { d.mbx with long := [⟨4, 3, 1, cls, []⟩] } }

/-- File 14: from an engineer session that COMMIT completes with DENIED and DETAIL 3. -/
theorem test_commit_denied : ((devOf (.commitChecksDone 800000) (st [staged390 2])).map
    (fun d => d.mbx.done.map (fun c => (c.status, c.detail)))) = some [(2, 3)] := by
  decide +kernel

/-- File 14: a PSET of 0x4008 beside the running COMMIT completes with BUSY and DETAIL 3. -/
theorem test_pset_busy : ((devOf (.pset 920000 0)
      (cmdSt 2 5 [8, 0x40, 0, 0, 1, 0, 4, 0, 7, 0, 0, 0]
        [staged390 3, fun d => { d with mbx := { d.mbx with sessOpen := true, sessClass := 3, sessToken := 5 } }])).map
    (fun d => d.mbx.done.map (fun c => (c.status, c.detail)))) = some [(0xC, 3)] := by
  decide +kernel

/-- File 09: a sweep of block 17's input 2 moves its reference by 65,249 codes per ms. -/
theorem test_sweep_rate : pvRate (dev [setPrm 0x7102 2 66, setPrm 0x1104 66 (f32Code (20480 / 12 / 8388608)),
    modPv 2 (fun x => { x with voc := 1180 })]) 2 = 65249 := by
  decide +kernel

/-- File 17: 36 loops of two sections at 10 kHz stream 9.72 Mbyte/s beside the rest. -/
theorem test_stream_of_loops : streamBytes (dev ((List.range 36).flatMap (fun c =>
    [setPrm 0x2010 c 1, setPrm 0x2011 c 2, setPrm 0x2015 c 10000]))) - streamBytes (dev []) = 9720000 := by
  decide +kernel

/-! ### Witnesses: what each clause with hypotheses of a statement asks for, in the statement's order -/

theorem wit_StepTakesFront :
    (∃ (s : State) (c : Instr) (rest : List Instr), s.pending = c :: rest) ∧
    (∃ (s : State), s.pending = []) :=
  ⟨⟨{ State.reset with pending := [.timeNsRead 0] }, .timeNsRead 0, [], by decide +kernel⟩,
   ⟨State.reset, by decide +kernel⟩⟩

theorem wit_StepKeepsMemoryForm : ∃ s s' : State, memWf s ∧ step s = .next s' :=
  ⟨State.reset, State.reset, by unfold memWf tabWf; decide, rfl⟩

theorem wit_OnlyHostWritesMemory : ∃ (c : Instr) (s s' : State), exec c s = .next s' ∧ ¬ writesMemory c :=
  ⟨.timeNsRead 0, State.reset, _, rfl, by
    rintro (⟨_, _, _, _, _, h⟩ | ⟨_, _, _, h⟩ | ⟨_, _, _, h⟩ | ⟨_, h⟩ | ⟨_, _, h⟩) <;> cases h⟩

theorem wit_QspiFrames :
    (∃ (s : State) (t a n : Nat) (bs : List Byte), s.dev.sys.up = true ∧
    s.dev.boot.hostsel = false ∧ 0x2000 ≤ a ∧ a + bs.length ≤ 0x4000 ∧
    (∀ i, i < bs.length → bit s.dev.mbx.busy ((a + i - 0x2000) / 512) = false)) ∧
    (∃ (s : State) (t a n : Nat) (b : Byte), s.dev.sys.up = true ∧ s.dev.boot.hostsel = false ∧
    0x2000 ≤ a ∧ a < 0x4000 ∧ bit s.dev.mbx.busy ((a - 0x2000) / 512) = true) ∧
    (∃ (s : State) (t a : Nat), s.dev.sys.up = true ∧ s.dev.boot.hostsel = false ∧ 0x2000 ≤ a ∧
    a < 0x4400 ∧ a % 4 = 0 ∧ fastOn s.dev = true) ∧
    (∃ (s : State) (t i a n : Nat) (bs : List Byte), s.dev.sys.up = true ∧
    s.dev.boot.hostsel = false ∧ i ≠ 2 ∧ i ≠ 0x0B) :=
  ⟨⟨st [], 4000000, 0x2100, 0, [1, 2], by decide +kernel⟩,
   ⟨st [fun d => { d with mbx := { d.mbx with busy := 1 } }], 4000000, 0x21FF, 0, 7, by decide +kernel⟩,
   ⟨st [], 4000000, 0x2104, by decide +kernel⟩,
   ⟨st [], 4000000, 3, 0, 1, [], by decide +kernel⟩⟩

theorem wit_RegisterAccesses :
    (∃ (s : State) (t : Nat), s.dev.sys.up = true) ∧
    (∃ (s : State) (t v : Nat), s.dev.sys.up = true ∧ v < 2 ^ 32) ∧
    (∃ (s : State) (t : Nat) (b : Byte), s.dev.sys.up = true) :=
  ⟨⟨st [], 4000000, by decide +kernel⟩,
   ⟨st [], 4000000, 5, by decide +kernel⟩,
   ⟨st [], 4000000, 1, by decide +kernel⟩⟩

theorem wit_UdpDatagrams :
    (∃ (s : State) (t : Nat) (src : Endpoint) (b : List Byte), s.dev.sys.up = true ∧
    s.dev.boot.hostsel = true ∧ igzanOk b = true ∧ field b 3 3 = 1 ∧ field b 8 8 < 16 ∧
    bit s.dev.mbx.busy (field b 8 8) = false ∧ tget none s.dev.mbx.stored (field b 8 8) = none) ∧
    (∃ (s : State) (t : Nat) (src : Endpoint) (b : List Byte), s.dev.sys.up = true ∧
    s.dev.boot.hostsel = true ∧ igzanOk b = true ∧ field b 3 3 = 3 ∧ field b 9 8 = 0x000 ∧ field b 11 10 = 1) ∧
    (∃ (s : State) (t : Nat) (src : Endpoint) (b : List Byte), s.dev.sys.up = true ∧
    s.dev.boot.hostsel = true ∧ igzanOk b = true ∧ field b 3 3 = 5 ∧ field b 9 8 = 0x114 ∧ field b 11 10 = 1) ∧
    (∃ (s : State) (t : Nat) (dst : Endpoint), hirq { s.dev with t := t } ≠ 0 ∧
    s.dev.mbx.lastSender = some dst ∧ s.dev.mbx.hostsel = true ∧
    s.dev.mbx.notifyT + 400000 * prm s.dev 0x0023 0 ≤ t) :=
  ⟨⟨st [fun d => { d with boot := { d.boot with hostsel := true } }], 4000000, ⟨1, 2⟩,
  le 2 0x5A49 ++ [1, 1] ++ le 4 9 ++ le 16 15 ++ le 4 0, by decide +kernel⟩,
   ⟨st [fun d => { d with boot := { d.boot with hostsel := true } }], 4000000, ⟨1, 2⟩,
  le 2 0x5A49 ++ [1, 3] ++ le 4 9 ++ le 2 0 ++ le 2 1, by decide +kernel⟩,
   ⟨st [fun d => { d with boot := { d.boot with hostsel := true } }], 4000000, ⟨1, 2⟩,
  le 2 0x5A49 ++ [1, 5] ++ le 4 9 ++ le 2 0x114 ++ le 2 1 ++ le 4 6, by decide +kernel⟩,
   ⟨st [
      fun d => { d with mbx := { d.mbx with lastSender := some ⟨1, 2⟩, hostsel := true } },
      fun d => { d with ev := { d.ev with pend := 1 } }, setPrm 0x0020 0 0],
  400000000, ⟨1, 2⟩, by decide +kernel⟩⟩

theorem wit_DoorRings :
    (∃ (s : State) (t k : Nat), k < 16 ∧ s.dev.sys.up = true ∧ bit s.dev.mbx.busy k = false ∧
    s.dev.mbx.rung = [] ∧ s.dev.mbx.paused = false ∧ s.dev.sys.testStop = false ∧
    slotFault s.dev (slotBytes s.hostMem k) = none) ∧
    (∃ (s : State) (t k st dt : Nat), k < 16 ∧ s.dev.sys.up = true ∧
    bit s.dev.mbx.busy k = false ∧ s.dev.mbx.rung = [] ∧ s.dev.mbx.paused = false ∧ s.dev.sys.testStop = false ∧
    slotFault s.dev (slotBytes s.hostMem k) = some (st, dt)) ∧
    (∃ (s : State) (t k : Nat), k < 16 ∧ s.dev.sys.up = true ∧ bit s.dev.mbx.busy k = false ∧
    ((s.dev.mbx.rung ≠ [] ∧ s.dev.mbx.checked = true) ∨ s.dev.mbx.paused = true ∨ s.dev.sys.testStop = true)) ∧
    (∃ (s : State) (t k : Nat), k < 16 ∧ s.dev.sys.up = true ∧ bit s.dev.mbx.busy k = true) :=
  ⟨⟨rings 0x01 (le 8 0) [], 4000000, 0, by decide +kernel⟩,
   ⟨st [], 4000000, 15, 4, crc32 (slotCrcBytes (slotBytes [] 15)), by decide +kernel⟩,
   ⟨st [fun d => { d with mbx := { d.mbx with rung := [3], checked := true, busy := 8 } }], 4000000, 15,
  by decide +kernel⟩,
   ⟨st [fun d => { d with mbx := { d.mbx with busy := 0x8000 } }], 4000000, 15, by decide +kernel⟩⟩

theorem wit_CompletionQueue :
    (∃ (s : State) (t : Nat) (c : Completion) (rest : List Completion),
    turnDue s.dev = false ∧ s.dev.mbx.done = c :: rest ∧ s.dev.mbx.unread < 64 ∧ s.dev.mbx.tail < 64 ∧ c.slot < 16 ∧
    c.resp.length ≤ 496) ∧
    (∃ (s : State) (t : Nat), turnDue s.dev = false ∧ s.dev.mbx.done ≠ [] ∧
    64 ≤ s.dev.mbx.unread) ∧
    (∃ (s : State) (t k st dt : Nat), turnDue s.dev = true ∧ s.dev.mbx.rung = [k] ∧
    s.dev.mbx.done = [] ∧ k < 16 ∧ s.dev.mbx.unread < 64 ∧ s.dev.mbx.tail < 64 ∧
    slotFault s.dev (slotBytes s.hostMem k) = some (st, dt)) ∧
    (∃ (s : State) (t v : Nat), s.dev.sys.up = true ∧
    (v % 64 + 64 - s.dev.mbx.head) % 64 ≤ s.dev.mbx.unread) ∧
    (∃ (s : State) (t v : Nat), s.dev.sys.up = true ∧
    s.dev.mbx.unread < (v % 64 + 64 - s.dev.mbx.head) % 64) ∧
    (∃ (s : State) (t k v : Nat), s.dev.sys.up = true ∧ k < 4 ∧ v < 2 ^ 32) :=
  ⟨⟨st [
      fun d => { d with mbx := { d.mbx with done := [⟨15, 1, 1, 0, 0, [7], 3⟩], unread := 63, tail := 63 } }],
  4000000, ⟨15, 1, 1, 0, 0, [7], 3⟩, [], by decide +kernel⟩,
   ⟨st [fun d => { d with mbx := { d.mbx with done := [⟨15, 1, 1, 0, 0, [7], 3⟩], unread := 64 } }], 4000000,
  by decide +kernel⟩,
   ⟨st [fun d => { d with mbx := { d.mbx with rung := [15], busy := 0x8000, tail := 63 } }], 4000000, 15, 4,
  crc32 (slotCrcBytes (slotBytes [] 15)), by decide +kernel⟩,
   ⟨st [fun d => { d with mbx := { d.mbx with head := 63, unread := 3 } }], 4000000, 2, by decide +kernel⟩,
   ⟨st [fun d => { d with mbx := { d.mbx with head := 63, unread := 3 } }], 4000000, 3, by decide +kernel⟩,
   ⟨st [fun d => { d with ev := { d.ev with pend := 3 } }], 4000000, 3, 0xFFFFFFFF, by decide +kernel⟩⟩

theorem wit_CarrierEvents :
    (∃ (s : State) (t n : Nat), n < 48 ∧ carriersRun s.dev = true ∧
    periodDue (devAt s t) n = true ∧ ((leg s.dev n).running = true → (leg s.dev n).start ≠ t)) ∧
    (∃ (s : State) (t n : Nat), n < 48 ∧ carriersRun s.dev = true ∧
    (leg s.dev n).running = true ∧ (leg s.dev n).start = t) ∧
    (∃ (s : State) (t n : Nat), n < 48 ∧ carriersRun s.dev = true ∧
    (leg s.dev n).running = true ∧ (leg s.dev n).start + (leg s.dev n).len / 2 = t ∧ prm s.dev 0x3107 n = 1) ∧
    (∃ (s : State) (t n p : Nat), n < 48 ∧ carriersRun s.dev = true ∧
    (leg s.dev n).running = true ∧ role s.dev n ≠ 4 ∧ (leg s.dev n).rise = some p ∧
    (leg s.dev n).start * 16 + p ≤ t * 16 ∧ t * 16 < (leg s.dev n).start * 16 + p + 16 ∧ (leg s.dev n).s = false ∧
    (leg s.dev n).forceLow = false) ∧
    (∃ (s : State) (t n : Nat), n < 48 ∧ carriersRun s.dev = true ∧
    (leg s.dev n).dt = some true ∧ (leg s.dev n).gl3 = false ∧ bit (leg s.dev n).force 0 = false ∧
    (leg s.dev n).dtAt ≤ t * 16 ∧ t * 16 < (leg s.dev n).dtAt + 16) ∧
    (∃ (s : State) (t n : Nat), n < 48 ∧ carriersRun s.dev = true ∧
    (leg s.dev n).running = true ∧ refreshDue s.dev n = true ∧
    16 * (leg s.dev n).start + refreshFall s.dev n ≤ t * 16 ∧
    t * 16 < 16 * (leg s.dev n).start + refreshFall s.dev n + 16) ∧
    (∃ (s : State) (t : Nat), s.dev.pwm.syncEnd = t) :=
  ⟨⟨st [], 4000000, 47, by decide +kernel⟩,
   ⟨st [modLeg 0 (fun x => { x with running := true, start := 4000000, len := 40000 })], 4000000, 0,
  by decide +kernel⟩,
   ⟨st [
      modLeg 47 (fun x => { x with running := true, start := 3980000, len := 40000 }), setPrm 0x3107 47 1],
  4000000, 47, by decide +kernel⟩,
   ⟨st [
      modLeg 0 (fun x => { x with running := true, start := 3999998, len := 40000, rise := some 17 })],
  4000000, 0, 17, by decide +kernel⟩,
   ⟨st [modLeg 3 (fun x => { x with dt := some true, dtAt := 64000000 })], 4000000, 3, by decide +kernel⟩,
   ⟨st [
      modLeg 3 (fun x => { x with insvc := true, s := true, refresh := 200, running := true, len := 4000, start := 3996020, fall := none }),
      setPrm 0x310C 3 5, setPrm 0x310A 3 0, setPrm 0x310D 3 20],
  4000000, 3, by decide +kernel⟩,
   ⟨st [fun d => { d with pwm := { d.pwm with syncOut := true, syncEnd := 4000000 } }], 4000000, by decide +kernel⟩⟩

theorem wit_LegFaults :
    (∃ (s : State) (t n : Nat), n < 48 ∧ inSvc s.dev n = true) ∧
    (∃ (s : State) (t n : Nat), n < 48 ∧ inSvc s.dev n = true ∧ (leg s.dev n).duvBlank = false) ∧
    (∃ (s : State) (t n : Nat), n < 48 ∧ inSvc s.dev n = true ∧ (leg s.dev n).duvBlank = true ∧
    (leg s.dev n).duvIn = true ∧ (leg s.dev n).duvEnd = t) ∧
    (∃ (s : State) (t n : Nat), n < 48 ∧ inSvc s.dev n = true ∧ (leg s.dev n).duvBlank = true ∧
    (leg s.dev n).duvIn = false ∧ (leg s.dev n).duvEnd = t) ∧
    (∃ (s : State) (t n : Nat), n < 48 ∧ inSvc s.dev n = true ∧
    prm s.dev 0x3124 n ≤ (leg s.dev n).shootRun) ∧
    (∃ (s : State) (t n : Nat), n < 48) ∧
    (∃ (s : State) (t n : Nat), n < 48) :=
  ⟨⟨st [
      fun d => { d with sys := { d.sys with st := .run } }, modLeg 47 (fun x => { x with insvc := true })],
  4000000, 47, by decide +kernel⟩,
   ⟨st [modLeg 0 (fun x => { x with insvc := true })], 4000000, 0, by decide +kernel⟩,
   ⟨st [
      modLeg 3 (fun x => { x with insvc := true, duvBlank := true, duvIn := true, duvEnd := 4000000 })],
  4000000, 3, by decide +kernel⟩,
   ⟨st [modLeg 3 (fun x => { x with insvc := true, duvBlank := true, duvEnd := 4000000 })], 4000000, 3,
  by decide +kernel⟩,
   ⟨st [modLeg 3 (fun x => { x with insvc := true, shootRun := 255 })], 4000000, 3, by decide +kernel⟩,
   ⟨st [modLeg 3 (fun x => { x with dfltIn := true })], 4000000, 3, by decide +kernel⟩,
   ⟨st [modLeg 3 (fun x => { x with duvIn := true })], 4000000, 3, by decide +kernel⟩⟩

theorem wit_DriverInputsOutOfService :
    (∃ (s : State) (t n : Nat), n < 48 ∧ inSvc s.dev n = false) ∧
    (∃ (s : State) (t n : Nat), n < 48 ∧ inSvc s.dev n = false) :=
  ⟨⟨st [], 4000000, 47, by decide +kernel⟩,
   ⟨st [], 4000000, 0, by decide +kernel⟩⟩

theorem wit_LegService :
    (∃ (s : State) (t n : Nat), n < 48 ∧ carriersRun s.dev = true ∧
    (leg s.dev n).entering = true ∧ role s.dev n ≠ 0 ∧ (leg s.dev n).running = true ∧ (leg s.dev n).start = t ∧
    startsAt s.dev n t = true) ∧
    (∃ (s : State) (t n : Nat), n < 48 ∧ inSvc s.dev n = true ∧ (leg s.dev n).leaving = true ∧
    (leg s.dev n).running = true ∧ (leg s.dev n).start = t) ∧
    (∃ (s : State) (t n : Nat), n < 48 ∧ inSvc s.dev n = true ∧ (leg s.dev n).companion = true ∧
    (leg s.dev n).running = true ∧ (leg s.dev n).start = t) ∧
    (∃ (s : State) (t slot : Nat) (c : Cmd), Admitted s slot 0x0E c ∧ field c.body 0 0 < 48 ∧
    field c.body 1 1 = 0 ∧ s.dev.sys.standby = false ∧ role s.dev (field c.body 0 0) ≠ 0) ∧
    (∃ (s : State) (t slot : Nat) (c : Cmd), Admitted s slot 0x0E c ∧ field c.body 0 0 < 48 ∧
    field c.body 1 1 = 1 ∧ s.dev.sys.standby = false ∧ role s.dev (field c.body 0 0) ≠ 0 ∧
    (leg s.dev (field c.body 0 0)).entering = false) ∧
    (∃ (s : State) (t slot : Nat) (c : Cmd), Admitted s slot 0x0E c ∧ field c.body 0 0 < 48 ∧
    field c.body 1 1 = 1 ∧ s.dev.sys.standby = false ∧ role s.dev (field c.body 0 0) ≠ 0 ∧
    (leg s.dev (field c.body 0 0)).entering = true) ∧
    (∃ (s : State) (t slot : Nat) (c : Cmd), Admitted s slot 0x0E c ∧ field c.body 0 0 < 48 ∧
    field c.body 1 1 = 2 ∧ s.dev.sys.standby = false ∧ role s.dev (field c.body 0 0) ≠ 0 ∧
    legInRefusal s.dev (field c.body 0 0) = none) ∧
    (∃ (s : State) (t slot k : Nat) (c : Cmd), Admitted s slot 0x0E c ∧ field c.body 0 0 < 48 ∧
    field c.body 1 1 = 2 ∧ s.dev.sys.standby = false ∧ role s.dev (field c.body 0 0) ≠ 0 ∧
    legInRefusal s.dev (field c.body 0 0) = some k) ∧
    (∃ (s : State) (t n : Nat), n < 48 ∧ s.dev.sys.up = true) :=
  ⟨⟨st [
      modLeg 3 (fun x => { x with entering := true, running := true, start := 4000000 }), setPrm 0x3100 3 2],
  4000000, 3, by decide +kernel⟩,
   ⟨st [
      modLeg 3 (fun x => { x with insvc := true, leaving := true, running := true, start := 4000000 })],
  4000000, 3, by decide +kernel⟩,
   ⟨st [
      modLeg 3 (fun x => { x with insvc := true, companion := true, running := true, start := 4000000 })],
  4000000, 3, by decide +kernel⟩,
   ⟨cmdSt 0x0E 0 [47, 0, 0, 0] [setPrm 0x3100 47 1], 4000000, 0, cmdOf 0x0E 0 [47, 0, 0, 0],
  by unfold Admitted; decide +kernel⟩,
   ⟨cmdSt 0x0E 0 [3, 1, 0, 0] [setPrm 0x3100 3 2, modLeg 3 (fun x => { x with insvc := true })], 4000000, 0,
  cmdOf 0x0E 0 [3, 1, 0, 0], by unfold Admitted; decide +kernel⟩,
   ⟨cmdSt 0x0E 0 [3, 1, 0, 0] [setPrm 0x3100 3 2, modLeg 3 (fun x => { x with entering := true })], 4000000, 0,
  cmdOf 0x0E 0 [3, 1, 0, 0], by unfold Admitted; decide +kernel⟩,
   ⟨cmdSt 0x0E 0 [3, 2, 0, 0] [
      setPrm 0x3100 3 2, modLeg 3 (fun x => { x with held := true, dfltLat := true })],
  4000000, 0, cmdOf 0x0E 0 [3, 2, 0, 0], by unfold Admitted; decide +kernel⟩,
   ⟨cmdSt 0x0E 0 [3, 2, 0, 0] [
      setPrm 0x3100 3 2, modLeg 3 (fun x => { x with held := true, dfltIn := true })],
  4000000, 0, 1, cmdOf 0x0E 0 [3, 2, 0, 0], by unfold Admitted; decide +kernel⟩,
   ⟨st [], 4000000, 47, by decide +kernel⟩⟩

theorem wit_GateCommands :
    (∃ (s : State) (t cls n : Nat), WriteServed s.dev cls 1 ∧ n < 48 ∧
    (leg s.dev n).dfltIn = false ∧ (leg s.dev n).duvIn = false) ∧
    (∃ (s : State) (t cls n : Nat), WriteServed s.dev cls 1 ∧ n < 48 ∧
    ((leg s.dev n).dfltIn = true ∨ (leg s.dev n).duvIn = true)) ∧
    (∃ (s : State) (t cls n : Nat), WriteServed s.dev cls 2 ∧ s.dev.sys.st = .service ∧
    n < 48 ∧ inSvc s.dev n = false ∧ (leg s.dev n).blocked = false ∧ (leg s.dev n).shootEp ≠ t / 400000 + 1) ∧
    (∃ (s : State) (t cls n v : Nat), WriteServed s.dev cls 2 ∧ s.dev.sys.st ≠ .service ∧
    n < 48 ∧ v < 8) ∧
    (∃ (s : State) (t cls g : Nat), WriteServed s.dev cls 1 ∧ g < 6 ∧
    bit s.dev.pwm.clrBusy g = false ∧ s.dev.pnd.oustedHold = false ∧ groupSvc s.dev g = []) ∧
    (∃ (s : State) (t g : Nat), g < 6 ∧ bit s.dev.pwm.clrBusy g = true ∧
    t = tget 0 s.dev.pwm.clrT g + 800) ∧
    (∃ (s : State) (t g : Nat), g < 6 ∧ bit s.dev.pwm.clrBusy g = true ∧
    t = tget 0 s.dev.pwm.clrT g + 400 * (2 + tget 0 s.dev.pwm.clrW g)) ∧
    (∃ (s : State) (t g : Nat), g < 6 ∧ bit s.dev.pwm.clrBusy g = true ∧
    bit s.dev.pwm.clrLow g = false ∧ t = tget 0 s.dev.pwm.clrT g + 400 * (12 + tget 0 s.dev.pwm.clrW g) ∧
    s.dev.sys.up = true) :=
  ⟨⟨st [modLeg 47 (fun x => { x with dfltLat := true, shootTrip := true })], 4000000, 3, 47,
  by unfold WriteServed; decide +kernel⟩,
   ⟨st [modLeg 3 (fun x => { x with dfltIn := true })], 4000000, 3, 3, by unfold WriteServed; decide +kernel⟩,
   ⟨st [fun d => { d with sys := { d.sys with st := .service } }], 4000000, 3, 3,
  by unfold WriteServed; decide +kernel⟩,
   ⟨st [], 4000000, 3, 3, 7, by unfold WriteServed; decide +kernel⟩,
   ⟨st [], 4000000, 3, 5, by unfold WriteServed; decide +kernel⟩,
   ⟨st [fun d => { d with pwm := { d.pwm with clrBusy := 32, clrT := [(5, 3999200)] } }], 4000000, 5,
  by decide +kernel⟩,
   ⟨st [
      fun d => { d with pwm := { d.pwm with clrBusy := 1, clrLow := 1, clrT := [(0, 3998800)], clrW := [(0, 1)] } }],
  4000000, 0, by decide +kernel⟩,
   ⟨st [
      fun d => { d with pwm := { d.pwm with clrBusy := 1, clrT := [(0, 3994800)], clrW := [(0, 1)] } }],
  4000000, 0, by decide +kernel⟩⟩

theorem wit_WindowsTrip :
    (∃ (s : State) (t w : Nat) (u : Bool) (pin : List Int),
    w < 48 ∧
    watches s.dev w u = true ∧
    winAct (win s.dev w) u = false ∧
    prm s.dev 0x4000 w = 2 ∧
    prm s.dev 0x4009 w ≤ activeSamples s.dev w u pin) ∧
    (∃ (s : State) (t w : Nat) (u : Bool) (pin : List Int),
    48 ≤ w ∧
    watches s.dev w u = true ∧
    winAct (win s.dev w) u = false ∧
    prm s.dev 0x4000 w = 2 ∧
    prm s.dev 0x4009 w ≤ activeSamples s.dev w u pin ∧
    gatesState s.dev = true ∧
    s.dev.hold.warned = false) ∧
    (∃ (s : State) (t w : Nat) (u : Bool) (pin : List Int),
    w < 48 ∧
    watches s.dev w u = true ∧
    winAct (win s.dev w) u = false ∧
    prm s.dev 0x4000 w = 3 ∧
    prm s.dev 0x4009 w ≤ activeSamples s.dev w u pin) ∧
    (∃ (s : State) (t w : Nat) (u : Bool) (pin : List Int),
    watches s.dev w u = true ∧
    winAct (win s.dev w) u = false ∧
    prm s.dev 0x4000 w = 1 ∧
    prm s.dev 0x4009 w ≤ activeSamples s.dev w u pin ∧
    (win s.dev w).monEp ≠ t / 400000 + 1 ∧
    s.dev.sys.up = true) ∧
    (∃ (s : State) (t w : Nat), w < 48 ∧ prm s.dev 0x4000 w = 3 ∧
    prm s.dev 0x400A w ≤ (win s.dev w).cutRun) :=
  ⟨⟨st [setPrm 0x4000 47 2, setPrm 0x4003 47 3, setPrm 0x4009 47 1, setPrm 0x4008 47 1, modLeg 47 (fun x => { x with insvc := true }), fun d => { d with sys := { d.sys with st := .run } }],
  4000000, 47, true, [3000000], by decide +kernel,
  by decide +kernel,
  by decide +kernel,
  by decide +kernel,
  by rw [activeSamples_one (by decide +kernel), cmpActive_above (2044000) 13220 (by decide +kernel) (by decide +kernel)
      (by norm_num)]; decide +kernel⟩,
   ⟨st [setPrm 0x4000 55 2, setPrm 0x4003 55 3, setPrm 0x4009 55 1, setPrm 0x4008 55 1, fun d => { d with sys := { d.sys with st := .run } }],
  4000000, 55, true, [3000000], by decide +kernel,
  by decide +kernel,
  by decide +kernel,
  by decide +kernel,
  by rw [activeSamples_one (by decide +kernel), cmpActive_above (2044000) 13220 (by decide +kernel) (by decide +kernel)
      (by norm_num)]; decide +kernel,
  by decide +kernel,
  by decide +kernel⟩,
   ⟨st [setPrm 0x4000 0 3, setPrm 0x4003 0 3, setPrm 0x4009 0 1, setPrm 0x4008 0 1],
  4000000, 0, false, [-3000000], by decide +kernel,
  by decide +kernel,
  by decide +kernel,
  by decide +kernel,
  by rw [activeSamples_one (by decide +kernel), cmpActive_below (-2048000) 13240 (by decide +kernel) (by decide +kernel)
      (by norm_num)]; decide +kernel⟩,
   ⟨st [setPrm 0x4000 55 1, setPrm 0x4003 55 3, setPrm 0x4009 55 1, setPrm 0x4008 55 1],
  4000000, 55, true, [3000000], by decide +kernel,
  by decide +kernel,
  by decide +kernel,
  by rw [activeSamples_one (by decide +kernel), cmpActive_above (2044000) 13220 (by decide +kernel) (by decide +kernel)
      (by norm_num)]; decide +kernel,
  by decide +kernel,
  by decide +kernel⟩,
   ⟨st [
      setPrm 0x4000 3 3, setPrm 0x400A 3 2, modWin 3 (fun x => { x with cutRun := 2 }),
      modLeg 3 (fun x => { x with insvc := true })],
  4000000, 3, by decide +kernel⟩⟩

theorem wit_WindowClearsAndTests :
    (∃ (s : State) (t w : Nat) (u : Bool) (pin : List Int),
    watches s.dev w u = true ∧
    winAct (win s.dev w) u = true ∧
    winAct (win s.dev w) (!u) = false ∧
    prm s.dev 0x4008 w ≤ pin.length ∧
    activeSamples s.dev w u pin = 0) ∧
    (∃ (s : State) (t cls w : Nat), WriteServed s.dev cls 1 ∧ w < 56 ∧
    (win s.dev w).hiAct = false ∧ (win s.dev w).loAct = false ∧ (win s.dev w).armhold = false ∧
    testFail (win s.dev w) = false) ∧
    (∃ (s : State) (t cls w : Nat), WriteServed s.dev cls 1 ∧ w < 56 ∧
    (win s.dev w).hiAct = true) ∧
    (∃ (s : State) (t cls w : Nat), WriteServed s.dev cls 2 ∧ w < 56 ∧
    testAdmitted s.dev w = true) ∧
    (∃ (s : State) (t cls w : Nat), WriteServed s.dev cls 2 ∧ w < 56 ∧
    testAdmitted s.dev w = true) ∧
    (∃ (s : State) (t w : Nat) (u r : Bool), w < 56 ∧ (win s.dev w).testing = some u ∧
    (win s.dev w).testPh = 1 ∧ (win s.dev w).testBad = 0 ∧ t = (win s.dev w).testT + 800) ∧
    (∃ (s : State) (t w k : Nat) (u : Bool), w < 56 ∧ (win s.dev w).testing = some u ∧
    (win s.dev w).testPh = 2 ∧ (win s.dev w).testBad = 0 ∧ k < 256 ∧ t = (win s.dev w).testT + 1600) ∧
    (∃ (s : State) (t w : Nat) (u : Bool), w < 56 ∧ (win s.dev w).testing = some u ∧
    (win s.dev w).testPh = 2 ∧ (win s.dev w).testBad = 0 ∧ t = (win s.dev w).testT + 1600) ∧
    (∃ (s : State) (t w : Nat) (u : Bool), w < 56 ∧ (win s.dev w).testing = some u ∧
    (win s.dev w).testPh = 3 ∧ t = (win s.dev w).testT + 2400) ∧
    (∃ (s : State) (t w : Nat) (u : Bool), w < 56 ∧ (win s.dev w).testing = some u ∧
    (win s.dev w).testPh = 4 ∧ (win s.dev w).testBad = 0 ∧ s.dev.setr.testQueue = [] ∧ s.dev.sys.up = true ∧
    t = (win s.dev w).testT + 3200) :=
  ⟨⟨st [setPrm 0x4000 3 2, setPrm 0x4003 3 3, setPrm 0x4008 3 1, setPrm 0x4006 3 100, modWin 3 (fun x => { x with hiAct := true, armhold := true })],
  4000000, 3, true, [0], by decide +kernel,
  by decide +kernel,
  by decide +kernel,
  by decide +kernel,
  by rw [activeSamples_one (by decide +kernel), cmpActive_quiet (2044000) 13220 (by decide +kernel) (by decide +kernel)
      (by norm_num)]; decide⟩,
   ⟨st [modWin 55 (fun x => { x with lat := true, latHi := true })], 4000000, 3, 55,
  by unfold WriteServed; decide +kernel⟩,
   ⟨st [modWin 0 (fun x => { x with hiAct := true })], 4000000, 3, 0, by unfold WriteServed; decide +kernel⟩,
   ⟨st [], 4000000, 3, 55, by unfold WriteServed; decide +kernel⟩,
   ⟨st [], 4000000, 3, 47, by unfold WriteServed; decide +kernel⟩,
   ⟨st [modWin 3 (fun x => { x with testing := some true, testPh := 1, testT := 3999200 })], 4000000, 3, true, true,
  by decide +kernel⟩,
   ⟨st [modWin 3 (fun x => { x with testing := some true, testPh := 2, testT := 3998400 })], 4000000, 3, 255, true,
  by decide +kernel⟩,
   ⟨st [modWin 3 (fun x => { x with testing := some true, testPh := 2, testT := 3998400 })], 4000000, 3, true,
  by decide +kernel⟩,
   ⟨st [modWin 3 (fun x => { x with testing := some true, testPh := 3, testT := 3997600 })], 4000000, 3, true,
  by decide +kernel⟩,
   ⟨st [
      modWin 3 (fun x => { x with testing := some true, testPh := 4, testT := 3996800, failHi := true })],
  4000000, 3, true, by decide +kernel⟩⟩

theorem wit_FacetScans :
    (∃ (s : State) (t k f : Nat), k < 8 ∧ prm s.dev 0x1010 k ≠ 0 ∧
    tget 0 s.dev.acq.timers k ≤ t ∧ (t - tget 0 s.dev.acq.timers k) % prm s.dev 0x1010 k = 0 ∧ f < 13 ∧
    prm s.dev 0x1000 f = 2 ∧ prm s.dev 0x1002 f = 48 + k ∧ (facet s.dev f).waiting = none ∧
    (facet s.dev f).until_ ≤ t) ∧
    (∃ (s : State) (t k f : Nat), k < 8 ∧ prm s.dev 0x1010 k ≠ 0 ∧
    tget 0 s.dev.acq.timers k ≤ t ∧ (t - tget 0 s.dev.acq.timers k) % prm s.dev 0x1010 k = 0 ∧ f < 13 ∧
    prm s.dev 0x1000 f = 2 ∧ prm s.dev 0x1002 f = 48 + k ∧ t < (facet s.dev f).until_) ∧
    (∃ (s : State) (t f : Nat), f < 13 ∧ locked s.dev 3 = true ∧ t % 10 = s.dev.clk.phase ∧
    prm s.dev 0x1000 f = 1 ∧ (facet s.dev f).next ≤ t ∧ t < (facet s.dev f).next + 10 ∧ (facet s.dev f).change = [] ∧
    scanLen s.dev f ≠ 0) ∧
    (∃ (s : State) (t f w : Nat), f < 13 ∧ locked s.dev 3 = true ∧ t % 10 = s.dev.clk.phase ∧
    prm s.dev 0x1000 f = 2 ∧ (facet s.dev f).waiting = some w ∧ w ≤ t ∧ t < w + 10 ∧ (facet s.dev f).change = [] ∧
    scanLen s.dev f ≠ 0) ∧
    (∃ (s : State) (t : Nat), prm s.dev 0x1200 0 = 1 ∧ s.dev.acq.rotPhase = 0 ∧
    s.dev.acq.spareFlt = false ∧ locked s.dev 3 = true ∧ s.dev.acq.facetFlt = 0 ∧ s.dev.acq.rotNext < 12 ∧
    prm s.dev 0x1000 s.dev.acq.rotNext ≠ 0 ∧ s.dev.acq.rotBase ≤ t ∧
    (t - s.dev.acq.rotBase) % (prm s.dev 0x1201 0 * 400000000) = 0 ∧ calBusy s.dev s.dev.acq.spareFor = false) ∧
    (∃ (s : State) (t : Nat), (facet s.dev 12).selfCal = true ∧
    t = (facet s.dev 12).selfCalT + 1400000 ∧ s.dev.acq.rotPhase = 1) ∧
    (∃ (s : State) (t f : Nat), f < 12 ∧ (facet s.dev f).selfCal = true ∧
    t = (facet s.dev f).selfCalT + 1400000 ∧ bit s.dev.acq.facetFlt f = false ∧ s.dev.sys.up = true) ∧
    (∃ (s : State) (t : Nat) (ds : List Int), ds ≠ [] ∧
    (overlapMatch (prm s.dev 0x1202 0) ds).2 = true ∧ s.dev.acq.calZero = none ∧ s.dev.acq.calFull = none ∧
    s.dev.acq.rotPhase = 2 ∧ locked s.dev 3 = true ∧ s.dev.acq.overlap = 256 ∧
    (facet s.dev s.dev.acq.rotCur).until_ ≤ t) ∧
    (∃ (s : State) (t : Nat) (ds : List Int), ds ≠ [] ∧
    (overlapMatch (prm s.dev 0x1202 0) ds).2 = false ∧ s.dev.acq.calZero = none ∧ s.dev.acq.calFull = none ∧
    s.dev.acq.rotPhase = 2 ∧ locked s.dev 3 = true ∧ s.dev.acq.overlap = 256 ∧
    (facet s.dev s.dev.acq.rotCur).until_ ≤ t ∧ s.dev.sys.up = true) ∧
    (∃ (s : State) (t f : Nat), s.dev.acq.takeover = f ∧ f < 12 ∧ s.dev.acq.spareFlt = false ∧
    (facet s.dev f).until_ ≤ t) ∧
    (∃ (s : State) (t f : Nat), f < 12 ∧ bit s.dev.acq.facetFlt f = true) ∧
    (∃ (s : State) (t : Nat), s.dev.acq.spareFlt = true) :=
  ⟨⟨st [setPrm 0x1010 7 4000, setPrm 0x1000 12 2, setPrm 0x1002 12 55], 4000000, 7, 12, by decide +kernel⟩,
   ⟨st [
      setPrm 0x1010 0 4000, setPrm 0x1000 0 2, setPrm 0x1002 0 48,
      modFacet 0 (fun x => { x with until_ := 5000000 })],
  4000000, 0, 0, by decide +kernel⟩,
   ⟨st [setPrm 0x1000 2 1, setPrm 0x1001 2 3, modFacet 2 (fun x => { x with next := 3999995 })], 4000000, 2,
  by decide +kernel⟩,
   ⟨st [setPrm 0x1000 2 2, setPrm 0x1001 2 3, modFacet 2 (fun x => { x with waiting := some 3999991 })], 4000000, 2,
  3999991, by decide +kernel⟩,
   ⟨st [setPrm 0x1200 0 1, setPrm 0x1000 0 1, setPrm 0x1201 0 1], 400000000, by decide +kernel⟩,
   ⟨st [
      modFacet 12 (fun x => { x with selfCal := true, selfCalT := 2600000 }),
      fun d => { d with acq := { d.acq with rotPhase := 1 } }],
  4000000, by decide +kernel⟩,
   ⟨st [modFacet 11 (fun x => { x with selfCal := true, selfCalT := 2600000 })], 4000000, 11, by decide +kernel⟩,
   ⟨st [fun d => { d with acq := { d.acq with rotPhase := 2, overlap := 256 } }], 4000000, [0, 0], by decide +kernel⟩,
   ⟨st [fun d => { d with acq := { d.acq with rotPhase := 2, overlap := 256 } }], 4000000, [2000, 2000],
  by decide +kernel⟩,
   ⟨st [fun d => { d with acq := { d.acq with takeover := 11 } }], 4000000, 11, by decide +kernel⟩,
   ⟨st [fun d => { d with acq := { d.acq with facetFlt := 0x800 } }], 4000000, 11, by decide +kernel⟩,
   ⟨st [fun d => { d with acq := { d.acq with spareFlt := true } }], 4000000, by decide +kernel⟩⟩

theorem wit_ConversionResults :
    (∃ (s : State) (t f p a st : Nat) (raw : Int) (sp : Bool) (rest : List ScanItem),
    s.dev.sys.up = true ∧ s.dev.sys.st ≠ .doze ∧ f < 12 ∧ p < 14 ∧ (facet s.dev f).due = ⟨p, a, sp, []⟩ :: rest ∧
    t = a + 118 ∧ st = a % 2 ^ 32 ∧ prm s.dev 0x1103 (14 * f + p) = 0 ∧ prm s.dev 0x1102 (14 * f + p) = 0 ∧
    prm s.dev 0x1100 (14 * f + p) ≠ 3 ∧ (ain s.dev (14 * f + p)).discard = 0 ∧
    (ain s.dev (14 * f + p)).clipAge = none ∧ (ain s.dev (14 * f + p)).integ = (ain s.dev (14 * f + p)).comb ∧
    (ain s.dev (14 * f + p)).comb.length ≤ 1 ∧ tget 0 s.dev.acq.trim (if sp then 12 else f) = 0) ∧
    (∃ (s : State) (t f a st : Nat) (raw : Int) (sp : Bool) (rest : List ScanItem),
    s.dev.sys.up = true ∧ s.dev.sys.st ≠ .doze ∧ f < 13 ∧ (facet s.dev f).due = ⟨14, a, sp, []⟩ :: rest ∧
    t = a + 118 ∧ st = a % 2 ^ 32 ∧ prm s.dev 0x1005 f = 1 ∧ 1194000 ≤ raw ∧ raw ≤ 1206000) ∧
    (∃ (s : State) (t f a st : Nat) (raw : Int) (rest : List ScanItem),
    s.dev.sys.up = true ∧ s.dev.sys.st ≠ .doze ∧ f < 12 ∧ (facet s.dev f).due = ⟨14, a, false, []⟩ :: rest ∧
    t = a + 118 ∧ st = a % 2 ^ 32 ∧ prm s.dev 0x1005 f = 1 ∧ (raw < 1194000 ∨ 1206000 < raw) ∧
    bit s.dev.acq.facetFlt f = false) :=
  ⟨⟨st [
      setPrm 0x1000 11 1, setPrm 0x1001 11 0x3FFF, setPrm 0x1103 167 0, setPrm 0x1102 167 0, setPrm 0x1100 167 0,
      modFacet 11 (fun x => { x with due := [⟨13, 3999882, false, []⟩] })],
  4000000, 11, 13, 3999882, 3999882, 100, false, [], by decide +kernel⟩,
   ⟨st [setPrm 0x1005 12 1, modFacet 12 (fun x => { x with due := [⟨14, 3999882, false, []⟩] })], 4000000, 12,
  3999882, 3999882, 1206000, false, [], by decide +kernel⟩,
   ⟨st [setPrm 0x1005 11 1, modFacet 11 (fun x => { x with due := [⟨14, 3999882, false, []⟩] })], 4000000, 11,
  3999882, 3999882, 1206001, [], by decide +kernel⟩⟩

theorem wit_Calibration :
    (∃ (s : State) (t slot : Nat) (c : Cmd), Admitted s slot 0x0C c ∧ field c.body 1 0 < 168 ∧
    field c.body 2 2 < 4 ∧ calAdmitted s.dev (field c.body 1 0) = true) ∧
    (∃ (s : State) (t slot : Nat) (c : Cmd), Admitted s slot 0x0C c ∧ field c.body 1 0 < 168 ∧
    field c.body 2 2 < 4 ∧ calAdmitted s.dev (field c.body 1 0) = false) ∧
    (∃ (s : State) (t : Nat) (j : CalJob) (l : LongCmd), s.dev.acq.calZero = some j ∧
    j.count = 1024 * prm s.dev 0x110A (4 * j.ain + j.gain) ∧
    s.dev.mbx.long.find? (fun x => x.slot = j.slot) = some l ∧ s.dev.sys.up = true) ∧
    (∃ (s : State) (t slot : Nat) (c : Cmd), Admitted s slot 0x0D c ∧ field c.body 1 0 < 168 ∧
    field c.body 2 2 < 4 ∧ field c.body 3 3 = 0 ∧ calAdmitted s.dev (field c.body 1 0) = true ∧
    prm s.dev 0x1109 (4 * field c.body 1 0 + field c.body 2 2) ≠ 0 ∧ prm s.dev 0x1100 (field c.body 1 0) ≤ 1) ∧
    (∃ (s : State) (t slot : Nat) (c : Cmd), Admitted s slot 0x0D c ∧ field c.body 1 0 < 168 ∧
    field c.body 2 2 < 4 ∧ field c.body 3 3 = 1 ∧ calAdmitted s.dev (field c.body 1 0) = true ∧
    prm s.dev 0x1109 (4 * field c.body 1 0 + field c.body 2 2) ≠ 0) ∧
    (∃ (s : State) (t slot : Nat) (c : Cmd), Admitted s slot 0x0D c ∧ field c.body 1 0 < 168 ∧
    field c.body 2 2 < 4 ∧ field c.body 3 3 = 0 ∧ calAdmitted s.dev (field c.body 1 0) = true ∧
    prm s.dev 0x1109 (4 * field c.body 1 0 + field c.body 2 2) = 0) ∧
    (∃ (s : State) (t slot : Nat) (c : Cmd), Admitted s slot 0x0D c ∧ field c.body 1 0 < 168 ∧
    field c.body 2 2 < 4 ∧ field c.body 3 3 = 0 ∧ calAdmitted s.dev (field c.body 1 0) = true ∧
    prm s.dev 0x1109 (4 * field c.body 1 0 + field c.body 2 2) ≠ 0 ∧ 1 < prm s.dev 0x1100 (field c.body 1 0)) ∧
    (∃ (s : State) (t : Nat) (j : CalJob) (l : LongCmd) (g : Rat), s.dev.acq.calFull = some j ∧
    j.bad = false ∧
    (if j.ac then prm s.dev 0x110A (4 * j.ain + j.gain) ≤ j.cycles else j.count = 1024 * prm s.dev 0x110A (4 * j.ain + j.gain)) ∧
    calGain s.dev j = some g ∧ 1 / 2 ≤ g ∧ g ≤ 2 ∧ s.dev.mbx.long.find? (fun x => x.slot = j.slot) = some l) ∧
    (∃ (s : State) (t : Nat) (j : CalJob) (l : LongCmd), s.dev.acq.calFull = some j ∧
    j.bad = true ∧ s.dev.mbx.long.find? (fun x => x.slot = j.slot) = some l) ∧
    (∃ (s : State) (t : Nat) (j : CalJob) (l : LongCmd), s.dev.acq.calFull = some j ∧
    j.bad = false ∧
    (if j.ac then prm s.dev 0x110A (4 * j.ain + j.gain) ≤ j.cycles else j.count = 1024 * prm s.dev 0x110A (4 * j.ain + j.gain)) ∧
    calGain s.dev j = none ∧ s.dev.mbx.long.find? (fun x => x.slot = j.slot) = some l) ∧
    (∃ (s : State) (t : Nat) (j : CalJob) (l : LongCmd) (g : Rat),
    s.dev.acq.calFull = some j ∧ j.bad = false ∧
    (if j.ac then prm s.dev 0x110A (4 * j.ain + j.gain) ≤ j.cycles else j.count = 1024 * prm s.dev 0x110A (4 * j.ain + j.gain)) ∧
    calGain s.dev j = some g ∧ (g < 1 / 2 ∨ 2 < g) ∧ s.dev.mbx.long.find? (fun x => x.slot = j.slot) = some l) ∧
    (∃ (s : State) (t : Nat) (j : CalJob) (l : LongCmd), s.dev.acq.calFull = some j ∧
    j.bad = false ∧ j.ac = true ∧ j.cycles < prm s.dev 0x110A (4 * j.ain + j.gain) ∧ j.startT + 800000000 ≤ t ∧
    s.dev.mbx.long.find? (fun x => x.slot = j.slot) = some l) :=
  ⟨⟨cmdSt 0x0C 0 [4, 0, 1, 0] [calReady], 4000000, 0, cmdOf 0x0C 0 [4, 0, 1, 0], by unfold Admitted; decide +kernel⟩,
   ⟨cmdSt 0x0C 0 [4, 0, 1, 0] [], 4000000, 0, cmdOf 0x0C 0 [4, 0, 1, 0], by unfold Admitted; decide +kernel⟩,
   ⟨st [
      fun d => { d with acq := { d.acq with calZero := some job } },
      fun d => { d with mbx := { d.mbx with long := [⟨0, 0x0C, 1, 2, []⟩] } }, setPrm 0x110A 17 1],
  4000000, job, ⟨0, 0x0C, 1, 2, []⟩, by decide +kernel⟩,
   ⟨cmdSt 0x0D 0 [4, 0, 1, 0, 0, 0, 0, 0, 0, 0, 0, 0] [calReady, setPrm 0x1109 17 1, setPrm 0x1100 4 0], 4000000, 0,
  cmdOf 0x0D 0 [4, 0, 1, 0, 0, 0, 0, 0, 0, 0, 0, 0], by unfold Admitted; decide +kernel⟩,
   ⟨cmdSt 0x0D 0 [4, 0, 1, 1, 0, 0, 0, 0, 0, 0, 0, 0] [calReady, setPrm 0x1109 17 1], 4000000, 0,
  cmdOf 0x0D 0 [4, 0, 1, 1, 0, 0, 0, 0, 0, 0, 0, 0], by unfold Admitted; decide +kernel⟩,
   ⟨cmdSt 0x0D 0 [4, 0, 1, 0, 0, 0, 0, 0, 0, 0, 0, 0] [calReady, setPrm 0x1109 17 0], 4000000, 0,
  cmdOf 0x0D 0 [4, 0, 1, 0, 0, 0, 0, 0, 0, 0, 0, 0], by unfold Admitted; decide +kernel⟩,
   ⟨cmdSt 0x0D 0 [4, 0, 1, 0, 0, 0, 0, 0, 0, 0, 0, 0] [calReady, setPrm 0x1109 17 1, setPrm 0x1100 4 2], 4000000, 0,
  cmdOf 0x0D 0 [4, 0, 1, 0, 0, 0, 0, 0, 0, 0, 0, 0], by unfold Admitted; decide +kernel⟩,
   ⟨st [
      fun d => { d with acq := { d.acq with calFull := some jobF } },
      fun d => { d with mbx := { d.mbx with long := [⟨0, 0x0D, 1, 2, []⟩] } }, setPrm 0x110A 17 1,
      setPrm 0x1104 4 0x3F800000],
  4000000, jobF, ⟨0, 0x0D, 1, 2, []⟩, 1, by decide +kernel⟩,
   ⟨st [
      fun d => { d with acq := { d.acq with calFull := some {jobF with bad := true } } },
      fun d => { d with mbx := { d.mbx with long := [⟨0, 0x0D, 1, 2, []⟩] } }],
  4000000, { jobF with bad := true }, ⟨0, 0x0D, 1, 2, []⟩, by decide +kernel⟩,
   ⟨st [
      fun d => { d with acq := { d.acq with calFull := some { jobF with sum := 5 } } },
      fun d => { d with mbx := { d.mbx with long := [⟨0, 0x0D, 1, 2, []⟩] } }, setPrm 0x110A 17 1,
      setPrm 0x1104 4 0x3F800000],
  4000000, { jobF with sum := 5 }, ⟨0, 0x0D, 1, 2, []⟩, by decide +kernel⟩,
   ⟨st [
      fun d => { d with acq := { d.acq with calFull := some { jobF with applied := 3000000 } } },
      fun d => { d with mbx := { d.mbx with long := [⟨0, 0x0D, 1, 2, []⟩] } }, setPrm 0x110A 17 1,
      setPrm 0x1104 4 0x3F800000],
  4000000, { jobF with applied := 3000000 }, ⟨0, 0x0D, 1, 2, []⟩, 3, by decide +kernel⟩,
   ⟨st [
      fun d => { d with acq := { d.acq with calFull := some { jobF with ac := true } } },
      fun d => { d with mbx := { d.mbx with long := [⟨0, 0x0D, 1, 2, []⟩] } }, setPrm 0x110A 17 1],
  800000000, { jobF with ac := true }, ⟨0, 0x0D, 1, 2, []⟩, by decide +kernel⟩⟩

theorem wit_CascadeEvaluations :
    (∃ (s : State) (t c : Nat) (p : TransferParity) (d1 : Dev) (vs : List Int),
    p ≠ .failed ∧ mayStart s.dev c = true ∧
    d1 = (if (List.range 4).any (fun k => srcCode s.dev c k = 0x3000) && spValid s.dev c then spUpdate c (devAt s t) else devAt s t) ∧
    sources d1 c = some vs) ∧
    (∃ (s : State) (t c : Nat) (p : TransferParity), p ≠ .failed ∧
    mayStart s.dev c = true ∧ (∀ k, k < 4 → srcCode s.dev c k ≠ 0x3000) ∧ sources s.dev c = none ∧
    destLeg s.dev c = none ∧ (cas s.dev c).halt = false ∧ s.dev.sys.up = true) ∧
    (∃ (s : State) (t c n : Nat) (p : TransferParity), p ≠ .failed ∧
    mayStart s.dev c = true ∧ (∀ k, k < 4 → srcCode s.dev c k ≠ 0x3000) ∧ sources s.dev c = none ∧
    destLeg s.dev c = some n ∧ (cas s.dev c).halt = false) ∧
    (∃ (s : State) (t c : Nat), mayStart s.dev c = true ∧ gatesState s.dev = true ∧
    s.dev.hold.warned = false ∧ s.dev.sys.up = true) ∧
    (∃ (s : State) (t c : Nat) (j : EvalJob), c < 128 ∧ (cas s.dev c).job = some j ∧
    evalDue j ≤ t ∧ t ≤ evalDue j + 8 ∧ gatesState s.dev = true ∧ s.dev.hold.warned = false) ∧
    (∃ (s : State) (t c : Nat) (j : EvalJob) (p : TransferParity), c < 128 ∧
    (cas s.dev c).job = some j ∧
    ((p = .good ∧ t = j.start + (2 * j.cyc + 2) / 3) ∨ (p = .replayed ∧ j.start + (2 * j.cyc + 2) / 3 ≤ t ∧ t ≤ j.start + (2 * j.cyc + 2) / 3 + 8))) :=
  ⟨⟨st [casReady], 4000000, 5, .good, devAt (st [casReady]) 4000000, [5, 0, 0, 0], by decide +kernel⟩,
   ⟨st [casReady, fun d => { d with acq := { d.acq with ains := [] } }, setPrm 0x2018 5 0], 4000000, 5, .good,
  by decide +kernel⟩,
   ⟨st [
      casReady, fun d => { d with acq := { d.acq with ains := [] } }, setPrm 0x2018 5 0x1000,
      modLeg 0 (fun x => { x with insvc := true })],
  4000000, 5, 0, .replayed, by decide +kernel⟩,
   ⟨st [casReady, fun d => { d with sys := { d.sys with st := .run } }], 4000000, 5, by decide +kernel⟩,
   ⟨st [
      modCas 5 (fun x => { x with job := some { ejob with start := 4000000 } }),
      fun d => { d with sys := { d.sys with st := .run } }],
  4000000, 5, { ejob with start := 4000000 }, by decide +kernel⟩,
   ⟨st [modCas 5 (fun x => { x with job := some { ejob with start := 3999990, cyc := 15 } })], 4000000, 5,
  { ejob with start := 3999990, cyc := 15 }, .good, by decide +kernel⟩⟩

theorem wit_StageDiscard : ∃ (s : State) (t cls : Nat), WriteServed s.dev cls 2 :=
  ⟨st [modCas 5 (fun x => { x with mirror := false })], 4000000, 3, by unfold WriteServed; decide +kernel⟩

theorem wit_FiligreeBanks :
    (∃ (s : State) (t : Nat), s.dev.fil.copying = true ∧ s.dev.mbx.heldPset = []) ∧
    (∃ (s : State) (t c : Nat), c < 128 ∧ (cas s.dev c).mirror = true) ∧
    (∃ (s : State) (t c : Nat), c < 128 ∧ (cas s.dev c).mirror = false) :=
  ⟨⟨st [
      fun d => { d with fil := { d.fil with copying := true } }, modCas 5 (fun x => { x with mirror := false })],
  4000000, by decide +kernel⟩,
   ⟨st [], 4000000, 127, by decide +kernel⟩,
   ⟨st [modCas 0 (fun x => { x with mirror := false })], 4000000, 0, by decide +kernel⟩⟩

theorem wit_SetpointsAndTaps :
    (∃ (s : State) (t cls c : Nat) (v : Int), WriteServed s.dev cls 1 ∧ c < 128 ∧
    -8388608 ≤ v ∧ v ≤ 8388607 ∧ casOwned s.dev c = false) ∧
    (∃ (s : State) (t q held period high c : Nat) (level : Bool), q < 4 ∧
    prm s.dev 0x2210 q ≤ held ∧ held ≤ t ∧ (pinSp s.dev q).level ≠ some level ∧
    level = decide (prm s.dev 0x2211 q = 0) ∧ pinPeriod (pinSp s.dev q) level (t - held) = some (period, high) ∧
    400 ≤ period ∧ period ≤ 400000000 ∧ c < 128 ∧ (prm s.dev 0x2200 c = 2 ∨ prm s.dev 0x2200 c = 3) ∧
    prm s.dev 0x2201 c = q) ∧
    (∃ (s : State) (t c : Nat), c < 128 ∧ casOn s.dev c = true ∧
    (prm s.dev 0x2200 c = 2 ∨ prm s.dev 0x2200 c = 3) ∧ (cas s.dev c).spLost = false ∧
    (cas s.dev c).spT + 400000 * prm s.dev 0x2207 c ≤ t ∧ s.dev.sys.up = true) ∧
    (∃ (s : State) (t cls k : Nat), WriteServed s.dev cls 1 ∧ k < 16 ∧
    prm s.dev 0x2302 k = 2 ∧ (tap s.dev k).post = none ∧ (tap s.dev k).stopped = false ∧
    65536 - prm s.dev 0x2304 k ≤ (tap s.dev k).count) ∧
    (∃ (s : State) (t k : Nat), k < 16 ∧ (tap s.dev k).post = some 0 ∧
    (tap s.dev k).stopped = false ∧ prm s.dev 0x2309 k ≠ 1) ∧
    (∃ (s : State) (t k : Nat), k < 16 ∧ (tap s.dev k).post = some 0 ∧
    (tap s.dev k).stopped = false ∧ prm s.dev 0x2309 k = 1 ∧ s.dev.cask.up = true ∧ s.dev.sys.up = true) :=
  ⟨⟨st [], 4000000, 3, 127, -8388608, by unfold WriteServed; decide +kernel⟩,
   ⟨st [
      setPrm 0x2200 127 3, setPrm 0x2201 127 3, setPrm 0x2210 3 1, setPrm 0x2211 3 0,
      fun d => { d with fil := { d.fil with pins := [(3, ⟨some false, some 3999599, some 3999799⟩)] } }],
  4000000, 3, 1, 400, 200, 127, true, by decide +kernel⟩,
   ⟨st [setPrm 0x2010 5 1, setPrm 0x2200 5 2, setPrm 0x2207 5 1], 4000000, 5, by decide +kernel⟩,
   ⟨st [setPrm 0x2302 15 2, setPrm 0x2304 15 100, modTap 15 (fun x => { x with count := 65536 })], 4000000, 3, 15,
  by unfold WriteServed; decide +kernel⟩,
   ⟨st [setPrm 0x2309 0 0, modTap 0 (fun x => { x with post := some 0 })], 4000000, 0, by decide +kernel⟩,
   ⟨st [setPrm 0x2309 0 1, modTap 0 (fun x => { x with post := some 0 })], 4000000, 0, by decide +kernel⟩⟩

theorem wit_FiligreeReplay :
    (∃ (s : State) (t c : Nat) (w : Bool), c < 128 ∧ s.dev.fil.haltAll = false ∧
    s.dev.fil.replay = none ∧ s.dev.fil.rplJobs = [] ∧ s.dev.fil.rplHold = 0 ∧ s.dev.pnd.role ≠ 1 ∧
    (cas s.dev c).mirror = true ∧ s.dev.sys.up = true) ∧
    (∃ (s : State) (t c : Nat), s.dev.fil.replay = some c ∧ s.dev.gs.deferred = false) ∧
    (∃ (s : State) (t c : Nat), s.dev.fil.replay = some c ∧ gatesState s.dev = true ∧
    s.dev.hold.warned = false) ∧
    (∃ (s : State) (t : Nat), s.dev.fil.unc = true) ∧
    (∃ (s : State) (t : Nat), s.dev.fil.checking = true ∧ locked s.dev 0 = true) ∧
    (∃ (s : State) (t : Nat), s.dev.fil.checking = true) :=
  ⟨⟨st [setPrm 0x2010 5 1], 4000000, 5, false, by decide +kernel⟩,
   ⟨st [fun d => { d with fil := { d.fil with replay := some 5 } }], 4000000, 5, by decide +kernel⟩,
   ⟨st [
      fun d => { d with fil := { d.fil with replay := some 5 } },
      fun d => { d with sys := { d.sys with st := .run } }],
  4000000, 5, by decide +kernel⟩,
   ⟨st [fun d => { d with fil := { d.fil with unc := true } }], 4000000, by decide +kernel⟩,
   ⟨st [fun d => { d with fil := { d.fil with checking := true } }], 4000000, by decide +kernel⟩,
   ⟨st [fun d => { d with fil := { d.fil with checking := true } }], 4000000, by decide +kernel⟩⟩

theorem wit_DisconnectDrives :
    (∃ (s : State) (t a : Nat), s.dev.gd.holdFrom = some a ∧ closeConds s.dev = true ∧
    s.dev.gd.closed = false ∧ s.dev.gd.closing = false ∧ s.dev.gd.opening = false ∧
    a + 400000 * gdPrm s.dev 0xE102 ≤ t) ∧
    (∃ (s : State) (t : Nat), s.dev.gd.closing = true ∧ s.dev.gd.gdh = false ∧
    s.dev.gd.seqT + 400 * gdPrm s.dev 0xE105 ≤ t) ∧
    (∃ (s : State) (t : Nat) (gh gl : Bool), s.dev.gd.closing = true ∧
    s.dev.gd.gdh = false ∧ s.dev.gd.seqT + 400 * gdPrm s.dev 0xE105 ≤ t ∧ (gh = true ∨ gl = false)) ∧
    (∃ (s : State) (t : Nat) (gh gl : Bool), s.dev.gd.closing = true ∧
    s.dev.gd.gdh = true ∧ s.dev.gd.seqT + 800 * gdPrm s.dev 0xE105 ≤ t ∧ (gh = false ∨ gl = false)) ∧
    (∃ (s : State) (t mv : Nat), s.dev.gd.closing = true ∧ s.dev.gd.gdh = true ∧
    gdPrm s.dev 0xE106 < mv ∧ (s.dev.gd.pairHold = true ∨ closeConds s.dev = true) ∧
    t ≤ s.dev.gd.seqT + 400000 * gdPrm s.dev 0xE103) ∧
    (∃ (s : State) (t : Nat), s.dev.gd.closing = true ∧
    s.dev.gd.seqT + 400000 * gdPrm s.dev 0xE103 ≤ t) ∧
    (∃ (s : State) (t mv : Nat), s.dev.gd.opening = true ∧ mv < gdPrm s.dev 0xE107 ∧
    s.dev.sys.auto ≠ .syncToReady) ∧
    (∃ (s : State) (t mv : Nat), s.dev.gd.opening = true ∧ mv < gdPrm s.dev 0xE107 ∧
    s.dev.sys.auto = .syncToReady ∧ s.dev.gd.estop = false ∧ s.dev.hold.warned = false) ∧
    (∃ (s : State) (t : Nat), s.dev.gd.opening = true ∧
    (¬ (s.dev.gd.fault = true ∧ s.dev.gd.fcode = 6)) ∧ s.dev.gd.offT + 400000 * gdPrm s.dev 0xE104 ≤ t) ∧
    (∃ (s : State) (t mv : Nat) (gh gl : Bool), chanRuns s.dev = true ∧
    s.dev.gd.gdh = false ∧ s.dev.gd.gdl = false ∧ s.dev.gd.offT + 400000 * gdPrm s.dev 0xE104 ≤ t) :=
  ⟨⟨st [
      fun d => { d with sys := { d.sys with st := .sync, islandGone := true } }, setPrm 0xE100 0 1,
      fun d => { d with gd := { d.gd with holdFrom := some 0 } },
      fun d => { d with gs := { d.gs with lock := true } },
      fun d => { d with rt := { d.rt with regU := 0, regF := 0 } }, setPrm 0xE102 0 5],
  4000000, 0, by decide +kernel⟩,
   ⟨st [fun d => { d with gd := { d.gd with closing := true, gdl := true } }], 4000000, by decide +kernel⟩,
   ⟨st [fun d => { d with gd := { d.gd with closing := true, gdl := true } }], 4000000, true, true, by decide +kernel⟩,
   ⟨st [fun d => { d with gd := { d.gd with closing := true, gdl := true, gdh := true } }], 4000000, true, false,
  by decide +kernel⟩,
   ⟨st [
      fun d => { d with gd := { d.gd with closing := true, gdl := true, gdh := true, pairHold := true } }],
  4000000, 5000, by decide +kernel⟩,
   ⟨st [fun d => { d with gd := { d.gd with closing := true } }], 4000000000, by decide +kernel⟩,
   ⟨st [fun d => { d with gd := { d.gd with opening := true } }], 4000000, 0, by decide +kernel⟩,
   ⟨st [
      fun d => { d with gd := { d.gd with opening := true } },
      fun d => { d with sys := { d.sys with st := .sync, auto := .syncToReady } }],
  4000000, 0, by decide +kernel⟩,
   ⟨st [fun d => { d with gd := { d.gd with opening := true } }], 4000000000, by decide +kernel⟩,
   ⟨st [], 4000000000, 0, true, false, by decide +kernel⟩⟩

theorem wit_DisconnectOffTests :
    (∃ (s : State) (t : Nat), chanRuns s.dev = true ∧ s.dev.gd.closed = true ∧
    s.dev.gd.opening = false ∧ s.dev.gd.testing = 0 ∧ s.dev.gd.lastTest + 24000000000 ≤ t) ∧
    (∃ (s : State) (t mv : Nat), s.dev.gd.testing = 1 ∧ s.dev.gd.testBack = none ∧
    t ≤ s.dev.gd.seqT + 120000 ∧ gdPrm s.dev 0xE106 < mv) ∧
    (∃ (s : State) (t mv : Nat), s.dev.gd.testing = 1 ∧ s.dev.gd.testBack = none ∧
    t ≤ s.dev.gd.seqT + 120000 ∧ mv ≤ gdPrm s.dev 0xE106) ∧
    (∃ (s : State) (t mv : Nat), s.dev.gd.testing = 1 ∧ s.dev.gd.testBack = none ∧
    s.dev.gd.seqT + 120000 ≤ t ∧ gdPrm s.dev 0xE106 < mv) ∧
    (∃ (s : State) (t mv : Nat), s.dev.gd.testing = 1 ∧ s.dev.gd.testBack = none ∧
    s.dev.gd.seqT + 120000 ≤ t) ∧
    (∃ (s : State) (t mv a : Nat), s.dev.gd.testing = 1 ∧ s.dev.gd.testBack = some a ∧
    a + 400 * gdPrm s.dev 0xE105 ≤ t ∧ gdPrm s.dev 0xE106 < mv) ∧
    (∃ (s : State) (t mv a : Nat) (rb : Bool), s.dev.gd.testing = 1 ∧
    s.dev.gd.testBack = some a ∧ a + 400 * gdPrm s.dev 0xE105 ≤ t ∧ (rb = false ∨ mv ≤ gdPrm s.dev 0xE106)) :=
  ⟨⟨st [fun d => { d with gd := { d.gd with closed := true } }], 24000000000, by decide +kernel⟩,
   ⟨st [fun d => { d with gd := { d.gd with testing := 1, seqT := 3880000 } }], 4000000, 5000, by decide +kernel⟩,
   ⟨st [fun d => { d with gd := { d.gd with testing := 1, seqT := 3880000 } }], 4000000, 0, by decide +kernel⟩,
   ⟨st [fun d => { d with gd := { d.gd with testing := 1, seqT := 3880000 } }], 4000000, 5000, by decide +kernel⟩,
   ⟨st [fun d => { d with gd := { d.gd with testing := 1, seqT := 3880000 } }], 4000000, 0, by decide +kernel⟩,
   ⟨st [fun d => { d with gd := { d.gd with testing := 1, testBack := some 0 } }], 4000000, 5000, 0,
  by decide +kernel⟩,
   ⟨st [fun d => { d with gd := { d.gd with testing := 1, testBack := some 0 } }], 4000000, 5000, 0, false,
  by decide +kernel⟩⟩

theorem wit_DisconnectFaults :
    (∃ (s : State) (t since : Nat) (low : Bool), chanRuns s.dev = true ∧
    s.dev.gd.testing = 0 ∧ since + 400 * gdPrm s.dev 0xE105 < t ∧
    (s.dev.gd.closing = true → s.dev.gd.seqT + 800 * gdPrm s.dev 0xE105 ≤ t)) ∧
    (∃ (s : State) (t mv : Nat), chanRuns s.dev = true ∧ peerHolds s.dev = false ∧
    s.dev.gd.closed = true ∧ s.dev.gd.opening = false ∧ mv < gdPrm s.dev 0xE107) ∧
    (∃ (s : State) (t mv : Nat), chanRuns s.dev = true ∧ peerHolds s.dev = false ∧
    s.dev.gd.closed = false ∧ s.dev.gd.gdh = false ∧ s.dev.gd.gdl = false ∧ gdPrm s.dev 0xE107 < mv ∧
    s.dev.gd.offT + 400000 * gdPrm s.dev 0xE104 ≤ t) ∧
    (∃ (s : State) (t : Nat) (osc : Bool), chanRuns s.dev = true) ∧
    (∃ (s : State) (t : Nat), chanRuns s.dev = true ∧ s.dev.sys.st ≠ .doze ∧
    s.dev.mbx.paused = false ∧ locked s.dev 2 = true ∧ s.dev.gd.watch = true ∧ s.dev.gd.refreshT + 800000 ≤ t) ∧
    (∃ (s : State) (t : Nat), s.dev.sys.st = .ready ∧ s.dev.gd.fault = true ∧
    s.dev.gd.testing = 0) ∧
    (∃ (s : State) (t gh gl mv : Nat), s.dev.gd.testing = 2 ∧
    clearPass gh gl mv s.dev = true) ∧
    (∃ (s : State) (t gh gl mv : Nat), s.dev.gd.testing = 2 ∧
    clearPass gh gl mv s.dev = false) ∧
    (∃ (s : State) (t since : Nat), chanRuns s.dev = true ∧ s.dev.gd.estop = false ∧
    s.dev.sys.st ≠ .doze ∧ since + 400 * gdPrm s.dev 0xE108 ≤ t) ∧
    (∃ (s : State) (t since : Nat), chanRuns s.dev = true ∧ s.dev.gd.estop = false ∧
    s.dev.sys.st = .doze ∧ since + 400 * gdPrm s.dev 0xE108 ≤ t ∧ s.dev.hold.warned = false) ∧
    (∃ (s : State) (t since : Nat), since + 400 * gdPrm s.dev 0xE108 ≤ t) :=
  ⟨⟨st [], 4000000, 0, true, by decide +kernel⟩,
   ⟨st [fun d => { d with gd := { d.gd with closed := true } }], 4000000, 0, by decide +kernel⟩,
   ⟨st [], 4000000000, 5000, by decide +kernel⟩,
   ⟨st [fun d => { d with sys := { d.sys with st := .run } }], 4000000, true, by decide +kernel⟩,
   ⟨st [fun d => { d with gd := { d.gd with watch := true, refreshT := 3200000 } }], 4000000, by decide +kernel⟩,
   ⟨st [fun d => { d with gd := { d.gd with fault := true, fcode := 3 } }], 4000000, by decide +kernel⟩,
   ⟨st [fun d => { d with gd := { d.gd with testing := 2, fault := true } }], 4000000, 0, 0, 0, by decide +kernel⟩,
   ⟨st [fun d => { d with gd := { d.gd with testing := 2, fault := true } }], 4000000, 0, 0, 9000, by decide +kernel⟩,
   ⟨st [fun d => { d with sys := { d.sys with st := .run } }], 4000000, 0, by decide +kernel⟩,
   ⟨st [fun d => { d with sys := { d.sys with st := .doze } }], 4000000, 0, by decide +kernel⟩,
   ⟨st [fun d => { d with gd := { d.gd with estop := true } }], 4000000, 0, by decide +kernel⟩⟩

theorem wit_EpochTicks :
    (∃ (s : State) (t : Nat), epochRuns (devAt s t) = true) ∧
    (∃ (s : State) (t : Nat), epochRuns (devAt s t) = false) :=
  ⟨⟨st [], 4000000, by decide +kernel⟩,
   ⟨st [], 4000001, by decide +kernel⟩⟩

theorem wit_TickDecisions :
    (∃ (d : Dev) (lower lost : Bool), mustTrip d = true ∧ d.sys.standby = false ∧
    d.hold.warned = false) ∧
    (∃ (d : Dev) (lower lost : Bool), d.sys.standby = true) ∧
    (∃ (d : Dev), runLike d = true ∧ rideEntry d = true ∧ prm d 0x5100 0 ≠ 0 ∧
    d.hold.warned = false) ∧
    (∃ (d : Dev), runLike d = true ∧ rideEntry d = true ∧ prm d 0x5100 0 = 0 ∧
    d.hold.warned = false) :=
  ⟨⟨dev [
      fun d => { d with sys := { d.sys with st := .run } }, fun d => { d with rt := { d.rt with regU := 2 } }],
  true, false, by decide +kernel⟩,
   ⟨dev [
      fun d => { d with sys := { d.sys with st := .run, standby := true } },
      fun d => { d with rt := { d.rt with regU := 2 } }],
  true, true, by decide +kernel⟩,
   ⟨dev [
      fun d => { d with sys := { d.sys with st := .run } }, setPrm 0x5100 0 1,
      fun d => { d with gs := { d.gs with jump := true } }],
  by decide +kernel⟩,
   ⟨dev [
      fun d => { d with sys := { d.sys with st := .run } }, setPrm 0x5100 0 0,
      fun d => { d with gs := { d.gs with jump := true } }],
  by decide +kernel⟩⟩

theorem wit_GridInputs :
    (∃ (s : State) (t cls pid : Nat) (v : Int) (x : Desc), WriteServed s.dev cls 1 ∧
    (pid = 0x5031 ∨ pid = 0x5034 ∨ pid = 0x5035) ∧ descOf pid = some x ∧ inRange x (ofInt 32 v) = true ∧
    -2147483648 ≤ v ∧ v < 2147483648) ∧
    (∃ (s : State) (t : Nat), prm s.dev 0x5030 0 = 1 ∧
    dispatchOk (devAt s t) (prm s.dev 0x5032 0) = false ∧ s.dev.gs.pStale = false ∧ s.dev.sys.up = true) ∧
    (∃ (s : State) (t : Nat), s.dev.gs.pStale = true ∧ s.dev.gs.qStale = true) ∧
    (∃ (s : State) (t a : Nat), s.dev.sys.st = .ride ∧ s.dev.rt.okSince = some a ∧
    a + prm s.dev 0x510B 0 * 400000 ≤ t ∧ s.dev.hold.warned = false) ∧
    (∃ (s : State) (t a : Nat), s.dev.sys.st = .form ∧ s.dev.sys.formAuto = true ∧
    s.dev.gs.okSince = some a ∧ a + prm s.dev 0x5076 0 * 400000 ≤ t) ∧
    (∃ (s : State) (t : Nat),
    (∀ a, s.dev.rt.okSince = some a → t < a + prm s.dev 0x510B 0 * 400000)) ∧
    (∃ (s : State) (t : Nat),
    (∀ a, s.dev.gs.okSince = some a → t < a + prm s.dev 0x5076 0 * 400000)) ∧
    (∃ (s : State) (t : Nat), t < s.dev.rt.inSinceF + prm s.dev 0x510C 0 * 400000 ∧
    t < s.dev.rt.inSinceU + prm s.dev 0x510C 0 * 400000) ∧
    (∃ (s : State) (t : Nat), t < s.dev.rt.jumpT + prm s.dev 0x5024 0 * 400000) ∧
    (∃ (s : State) (t : Nat), s.dev.rt.heldF = true ∧
    s.dev.rt.inSinceF + prm s.dev 0x510C 0 * 400000 ≤ t) ∧
    (∃ (s : State) (t : Nat), s.dev.rt.heldU = true ∧
    s.dev.rt.inSinceU + prm s.dev 0x510C 0 * 400000 ≤ t) ∧
    (∃ (s : State) (t : Nat), s.dev.rt.jumpHold = true ∧
    s.dev.rt.jumpT + prm s.dev 0x5024 0 * 400000 ≤ t) :=
  ⟨⟨st [], 4000000, 3, 0x5031, -5000, (descOf 0x5031).getD wDesc, by unfold WriteServed; decide +kernel⟩,
   ⟨st [setPrm 0x5030 0 1], 4000000, by decide +kernel⟩,
   ⟨st [fun d => { d with gs := { d.gs with pStale := true, qStale := true } }], 4000000, by decide +kernel⟩,
   ⟨st [
      fun d => { d with sys := { d.sys with st := .ride } },
      fun d => { d with rt := { d.rt with okSince := some 0 } }],
  4000000000, 0, by decide +kernel⟩,
   ⟨st [
      fun d => { d with sys := { d.sys with st := .form, formAuto := true } },
      fun d => { d with gs := { d.gs with okSince := some 0 } }],
  4000000000, 0, by decide +kernel⟩,
   ⟨st [
      fun d => { d with sys := { d.sys with st := .ride } },
      fun d => { d with rt := { d.rt with okSince := some 1 } }],
  1, by decide +kernel⟩,
   ⟨st [
      fun d => { d with sys := { d.sys with st := .form, formAuto := true } },
      fun d => { d with gs := { d.gs with okSince := some 1 } }],
  1, by decide +kernel⟩,
   ⟨st [
      fun d => { d with rt := { d.rt with heldF := true, heldU := true, inSinceF := 1, inSinceU := 1 } }], 1,
  by decide +kernel⟩,
   ⟨st [fun d => { d with rt := { d.rt with jumpHold := true, jumpT := 1 } }], 1, by decide +kernel⟩,
   ⟨st [fun d => { d with rt := { d.rt with heldF := true } }], 4000000000, by decide +kernel⟩,
   ⟨st [fun d => { d with rt := { d.rt with heldU := true } }], 4000000000, by decide +kernel⟩,
   ⟨st [fun d => { d with rt := { d.rt with jumpHold := true } }], 4000000000, by decide +kernel⟩⟩

theorem wit_IslandingTimers :
    (∃ (s : State) (t : Nat), s.dev.charm.susp = true ∧
    s.dev.charm.suspT + prm s.dev 0x6016 0 * 400000 ≤ t) ∧
    (∃ (s : State) (t : Nat), s.dev.charm.blankFrom + prm s.dev 0x6028 0 * 400000 ≤ t) ∧
    (∃ (s : State) (t a : Nat), s.dev.charm.timeOk = false ∧
    s.dev.charm.noTimeDone = false ∧ s.dev.charm.timeLostAt = some a ∧ a + prm s.dev 0x6032 0 * 400000000 ≤ t ∧
    (prm s.dev 0x6000 0 = 0 ∨ prm s.dev 0x6031 0 ≠ 2 ∨ canTrip s.dev 0x23 = false ∨ s.dev.sys.standby = true)) ∧
    (∃ (s : State) (t a : Nat), prm s.dev 0x6000 0 = 1 ∧ s.dev.charm.timeOk = false ∧
    s.dev.charm.noTimeDone = false ∧ s.dev.charm.timeLostAt = some a ∧ a + prm s.dev 0x6032 0 * 400000000 ≤ t ∧
    prm s.dev 0x6031 0 = 2 ∧ canTrip s.dev 0x23 = true ∧ s.dev.sys.standby = false ∧ s.dev.hold.warned = false) ∧
    (∃ (s : State) (t a : Nat), prm s.dev 0x6000 0 = 1 ∧ s.dev.sys.st = .form ∧
    s.dev.sys.formAuto = true ∧ s.dev.charm.formDone = false ∧ s.dev.sys.autoT = some a ∧
    a + prm s.dev 0x6003 0 * 400000 ≤ t ∧ prm s.dev 0x6001 0 = 1 ∧ s.dev.hold.warned = false) ∧
    (∃ (s : State) (t a : Nat), prm s.dev 0x6000 0 = 1 ∧ s.dev.sys.st = .form ∧
    s.dev.sys.formAuto = true ∧ s.dev.charm.formDone = false ∧ s.dev.sys.autoT = some a ∧
    a + prm s.dev 0x6003 0 * 400000 ≤ t ∧ prm s.dev 0x6001 0 = 0 ∧ s.dev.sys.up = true) ∧
    (∃ (s : State) (t a : Nat), s.dev.charm.recSince = some a ∧ s.dev.sys.st = .trip ∧
    a + prm s.dev 0x6004 0 * 400000000 ≤ t) ∧
    (∃ (s : State) (t : Nat), t < s.dev.charm.suspT + prm s.dev 0x6016 0 * 400000) ∧
    (∃ (s : State) (t : Nat), t < s.dev.charm.blankFrom + prm s.dev 0x6028 0 * 400000) ∧
    (∃ (s : State) (t a : Nat), s.dev.charm.timeLostAt = some a ∧
    t < a + prm s.dev 0x6032 0 * 400000000) ∧
    (∃ (s : State) (t a : Nat), s.dev.sys.autoT = some a ∧
    t < a + prm s.dev 0x6003 0 * 400000) ∧
    (∃ (s : State) (t a : Nat), s.dev.charm.recSince = some a ∧
    t < a + prm s.dev 0x6004 0 * 400000000) :=
  ⟨⟨st [fun d => { d with charm := { d.charm with susp := true } }], 40000000000, by decide +kernel⟩,
   ⟨st [fun d => { d with charm := { d.charm with blank := true } }], 40000000000, by decide +kernel⟩,
   ⟨st [
      setPrm 0x6000 0 1, fun d => { d with charm := { d.charm with timeLostAt := some 0 } }, setPrm 0x6031 0 1],
  400000000000, 0, by decide +kernel⟩,
   ⟨st [
      setPrm 0x6000 0 1, fun d => { d with charm := { d.charm with timeLostAt := some 0 } }, setPrm 0x6031 0 2,
      fun d => { d with sys := { d.sys with st := .run } }],
  400000000000, 0, by decide +kernel⟩,
   ⟨st [
      setPrm 0x6000 0 1, setPrm 0x6001 0 1,
      fun d => { d with sys := { d.sys with st := .form, formAuto := true, autoT := some 0 } }],
  40000000000, 0, by decide +kernel⟩,
   ⟨st [
      setPrm 0x6000 0 1, setPrm 0x6001 0 0,
      fun d => { d with sys := { d.sys with st := .form, formAuto := true, autoT := some 0 } }],
  40000000000, 0, by decide +kernel⟩,
   ⟨st [
      fun d => { d with charm := { d.charm with recSince := some 0 } },
      fun d => { d with sys := { d.sys with st := .trip, tripCauses := [0x23] } }],
  400000000000, 0, by decide +kernel⟩,
   ⟨st [fun d => { d with charm := { d.charm with susp := true, suspT := 1 } }], 1, by decide +kernel⟩,
   ⟨st [fun d => { d with charm := { d.charm with blank := true, blankFrom := 1 } }], 1, by decide +kernel⟩,
   ⟨st [
      setPrm 0x6000 0 1, fun d => { d with charm := { d.charm with timeLostAt := some 1 } }, setPrm 0x6031 0 2],
  1, 1, by decide +kernel⟩,
   ⟨st [
      setPrm 0x6000 0 1, fun d => { d with sys := { d.sys with st := .form, formAuto := true, autoT := some 1 } }],
  1, 1, by decide +kernel⟩,
   ⟨st [
      fun d => { d with charm := { d.charm with recSince := some 1 } },
      fun d => { d with sys := { d.sys with st := .trip, tripCauses := [0x23] } }],
  1, 1, by decide +kernel⟩⟩

theorem wit_RequestsDown :
    (∃ (s : State) (t cls : Nat), RequestServed s t cls 1 ∧ s.dev.sys.st = .trip ∧
    persisting s.dev = none ∧ blockLatched s.dev = false ∧ s.dev.gd.estop = false) ∧
    (∃ (s : State) (t cls c : Nat), RequestServed s t cls 1 ∧ s.dev.sys.st = .trip ∧
    persisting s.dev = some c) ∧
    (∃ (s : State) (t cls : Nat), RequestServed s t cls 1 ∧ s.dev.sys.st = .trip ∧
    persisting s.dev = none ∧ blockLatched s.dev = true) ∧
    (∃ (s : State) (t cls : Nat), RequestServed s t cls 1 ∧ s.dev.sys.st = .sync ∧
    prm s.dev 0xE100 0 = 0 ∧ s.dev.gd.estop = false) ∧
    (∃ (s : State) (t cls : Nat), RequestServed s t cls 1 ∧ s.dev.sys.st = .sync ∧
    prm s.dev 0xE100 0 ≠ 0 ∧ s.dev.gd.closed = true) ∧
    (∃ (s : State) (t cls : Nat), RequestServed s t cls 1 ∧ s.dev.sys.st = .service ∧
    s.dev.gd.estop = false) ∧
    (∃ (s : State) (t cls : Nat), RequestServed s t cls 1 ∧
    (s.dev.sys.st = .ready ∨ s.dev.sys.st = .run ∨ s.dev.sys.st = .ride ∨ s.dev.sys.st = .form)) ∧
    (∃ (s : State) (t cls : Nat), RequestServed s t cls 1 ∧ s.dev.sys.st = .ready) ∧
    (∃ (s : State) (t cls : Nat), RequestServed s t cls 1 ∧ s.dev.sys.st ≠ .ready) ∧
    (∃ (s : State) (t cls : Nat), RequestServed s t cls 1 ∧
    (s.dev.sys.st = .ready ∨ s.dev.sys.st = .sync)) ∧
    (∃ (s : State) (t cls : Nat), RequestServed s t cls 1 ∧ s.dev.sys.st ≠ .ready ∧
    s.dev.sys.st ≠ .sync) ∧
    (∃ (s : State) (t u : Nat), u < 4 ∧ (unit s.dev u).st = 4) ∧
    (∃ (s : State) (t : Nat), s.dev.sys.auto = .toDoze ∧ s.dev.hold.warned = false ∧
    (∀ u, u < 4 → (unit s.dev u).st ≠ 3 ∧ (unit s.dev u).st ≠ 4)) :=
  ⟨⟨st [fun d => { d with sys := { d.sys with st := .trip, tripCauses := [0x20] } }], 4000000, 3,
  by unfold RequestServed WriteServed; decide +kernel⟩,
   ⟨st [fun d => { d with sys := { d.sys with st := .trip, tripCauses := [0x28] } }], 4000000, 3, 0x28,
  by unfold RequestServed WriteServed; decide +kernel⟩,
   ⟨st [
      fun d => { d with sys := { d.sys with st := .trip, tripCauses := [0x20] } },
      modWin 55 (fun x => { x with lat := true }), setPrm 0x4000 55 2],
  4000000, 3, by unfold RequestServed WriteServed; decide +kernel⟩,
   ⟨st [fun d => { d with sys := { d.sys with st := .sync } }, setPrm 0xE100 0 0], 4000000, 3,
  by unfold RequestServed WriteServed; decide +kernel⟩,
   ⟨st [
      fun d => { d with sys := { d.sys with st := .sync } }, setPrm 0xE100 0 1,
      fun d => { d with gd := { d.gd with closed := true } }],
  4000000, 3, by unfold RequestServed WriteServed; decide +kernel⟩,
   ⟨st [fun d => { d with sys := { d.sys with st := .service } }], 4000000, 3,
  by unfold RequestServed WriteServed; decide +kernel⟩,
   ⟨st [fun d => { d with sys := { d.sys with st := .run } }], 4000000, 3,
  by unfold RequestServed WriteServed; decide +kernel⟩,
   ⟨st [], 4000000, 3, by unfold RequestServed WriteServed; decide +kernel⟩,
   ⟨st [fun d => { d with sys := { d.sys with st := .sync } }], 4000000, 3,
  by unfold RequestServed WriteServed; decide +kernel⟩,
   ⟨st [fun d => { d with sys := { d.sys with st := .sync } }, modUnit 1 (fun x => { x with st := 3 })], 4000000, 3,
  by unfold RequestServed WriteServed; decide +kernel⟩,
   ⟨st [fun d => { d with sys := { d.sys with st := .run } }], 4000000, 3,
  by unfold RequestServed WriteServed; decide +kernel⟩,
   ⟨st [
      fun d => { d with sys := { d.sys with auto := .toDoze } }, modUnit 3 (fun x => { x with st := 4 })],
  4000000, 3, by decide +kernel⟩,
   ⟨st [fun d => { d with sys := { d.sys with auto := .toDoze } }], 4000000, by decide +kernel⟩⟩

theorem wit_RequestsUp :
    (∃ (s : State) (t cls : Nat), RequestServed s t cls 1 ∧ s.dev.sys.st = .ready ∧
    syncRefusal (devAt s t) = none) ∧
    (∃ (s : State) (t cls c : Nat), RequestServed s t cls 1 ∧ s.dev.sys.st = .ready ∧
    syncRefusal (devAt s t) = some c) ∧
    (∃ (s : State) (t cls : Nat), RequestServed s t cls 1 ∧ s.dev.sys.st = .doze ∧
    s.dev.sys.factory = true) ∧
    (∃ (s : State) (t cls : Nat), RequestServed s t cls 1 ∧ s.dev.sys.st = .doze ∧
    s.dev.sys.factory = false) ∧
    (∃ (s : State) (t cls : Nat), RequestServed s t cls 1 ∧ s.dev.sys.st = .run) ∧
    (∃ (s : State) (t : Nat), s.dev.sys.st = .run ∧ s.dev.sys.auto = .runToSync ∧
    t % 400000 = 0 ∧ s.dev.gs.pR = 0 ∧ s.dev.gs.qCmd = 0 ∧ s.dev.hold.warned = false) ∧
    (∃ (s : State) (t cls : Nat), RequestServed s t cls 1 ∧ s.dev.sys.st = .sync ∧
    runRefusal (devAt s t) = none ∧
    0 < mOn (runPlacement (transition .run 0x05 (powerOff (acceptReq 5 (devAt s t)))))) ∧
    (∃ (s : State) (t cls c : Nat), RequestServed s t cls 1 ∧ s.dev.sys.st = .sync ∧
    runRefusal (devAt s t) = some c) ∧
    (∃ (s : State) (t cls : Nat), RequestServed s t cls 1 ∧ s.dev.sys.st = .doze ∧
    s.dev.sys.dozeFrom = .sync) ∧
    (∃ (s : State) (t cls : Nat), RequestServed s t cls 1 ∧ s.dev.sys.st = .form ∧
    s.dev.sys.formAuto = false ∧ s.dev.gs.lock = true) ∧
    (∃ (s : State) (t : Nat) (dp dm : Rat), s.dev.sys.auto = .wakeCheck ∧
    s.dev.hold.warned = false ∧ absR dp ≤ 5 ∧ absR dm ≤ 1 / 10 ∧ s.dev.gd.closed = true ∧
    0 < mOn (runPlacement (transition .run 0x05 (powerOff (devAt s t))))) ∧
    (∃ (s : State) (t : Nat) (dp dm : Rat) (slow : Bool), s.dev.sys.auto = .wakeCheck ∧
    s.dev.hold.warned = false ∧ (5 < absR dp ∨ 1 / 10 < absR dm ∨ slow = true ∨ s.dev.gd.closed = false)) ∧
    (∃ (s : State) (t cls : Nat), RequestServed s t cls 1 ∧ s.dev.sys.st = .run) ∧
    (∃ (s : State) (t cls : Nat), RequestServed s t cls 1 ∧ s.dev.sys.st ≠ .run) ∧
    (∃ (s : State) (t cls : Nat), RequestServed s t cls 2 ∧ s.dev.sys.st ≠ .ready ∧
    s.dev.sys.st ≠ .sync ∧ s.dev.sys.st ≠ .run) ∧
    (∃ (s : State) (t cls : Nat), RequestServed s t cls 2 ∧
    (s.dev.sys.st = .ready ∨ s.dev.sys.st = .sync ∨ s.dev.sys.st = .run)) :=
  ⟨⟨st [fun d => { d with gs := { d.gs with vValid := true, vMag := 1 } }], 4000000, 3,
  by unfold RequestServed WriteServed; decide +kernel⟩,
   ⟨st [], 4000000, 3, 0x10, by unfold RequestServed WriteServed; decide +kernel⟩,
   ⟨st [fun d => { d with sys := { d.sys with st := .doze, factory := true } }], 4000000, 3,
  by unfold RequestServed WriteServed; decide +kernel⟩,
   ⟨st [fun d => { d with sys := { d.sys with st := .doze } }], 4000000, 3,
  by unfold RequestServed WriteServed; decide +kernel⟩,
   ⟨st [fun d => { d with sys := { d.sys with st := .run } }], 4000000, 3,
  by unfold RequestServed WriteServed; decide +kernel⟩,
   ⟨st [
      fun d => { d with sys := { d.sys with st := .run, auto := .runToSync } },
      modLeg 3 (fun x => { x with insvc := true })],
  4000000, by decide +kernel⟩,
   ⟨st [runReady], 4000000, 3, by unfold RequestServed WriteServed; decide +kernel⟩,
   ⟨st [fun d => { d with sys := { d.sys with st := .sync } }], 4000000, 3, 0x10,
  by unfold RequestServed WriteServed; decide +kernel⟩,
   ⟨st [fun d => { d with sys := { d.sys with st := .doze, dozeFrom := .sync } }], 4000000, 3,
  by unfold RequestServed WriteServed; decide +kernel⟩,
   ⟨st [
      fun d => { d with sys := { d.sys with st := .form } }, fun d => { d with gs := { d.gs with lock := true } }],
  4000000, 3, by unfold RequestServed WriteServed; decide +kernel⟩,
   ⟨st [runReady, fun d => { d with sys := { d.sys with auto := .wakeCheck } }], 4000000, 5, 0, by decide +kernel⟩,
   ⟨st [fun d => { d with sys := { d.sys with st := .doze, auto := .wakeCheck } }], 4000000, 6, 0, false,
  by decide +kernel⟩,
   ⟨st [fun d => { d with sys := { d.sys with st := .run } }], 4000000, 3,
  by unfold RequestServed WriteServed; decide +kernel⟩,
   ⟨st [], 4000000, 3, by unfold RequestServed WriteServed; decide +kernel⟩,
   ⟨st [fun d => { d with sys := { d.sys with st := .trip } }], 4000000, 3,
  by unfold RequestServed WriteServed; decide +kernel⟩,
   ⟨st [fun d => { d with sys := { d.sys with st := .run } }], 4000000, 3,
  by unfold RequestServed WriteServed; decide +kernel⟩⟩

theorem wit_LockLosses :
    (∃ (s : State) (t : Nat), locked s.dev 2 = true ∧ s.dev.sys.st ≠ .doze ∧
    canTrip s.dev 0x26 = true ∧ s.dev.hold.warned = false) ∧
    (∃ (s : State) (t : Nat), locked s.dev 0 = true ∧ s.dev.sys.st ≠ .doze ∧
    canTrip s.dev 0x27 = true ∧ s.dev.hold.warned = false) ∧
    (∃ (s : State) (t : Nat), locked s.dev 1 = true) ∧
    (∃ (s : State) (t : Nat), locked s.dev 3 = true) ∧
    (∃ (s : State) (t : Nat), locked s.dev 4 = true) ∧
    (∃ (s : State) (t : Nat), locked s.dev 5 = true) :=
  ⟨⟨st [
      fun d => { d with sys := { d.sys with st := .run } }, modLeg 3 (fun x => { x with insvc := true })],
  4000000, by decide +kernel⟩,
   ⟨st [
      fun d => { d with sys := { d.sys with st := .run } }, modLeg 3 (fun x => { x with insvc := true })],
  4000000, by decide +kernel⟩,
   ⟨st [], 4000000, by decide +kernel⟩,
   ⟨st [], 4000000, by decide +kernel⟩,
   ⟨st [], 4000000, by decide +kernel⟩,
   ⟨st [], 4000000, by decide +kernel⟩⟩

theorem wit_ReferenceAndRelocks :
    (∃ (s : State) (t : Nat), s.dev.clk.refOk = true ∧ chanRuns s.dev = true ∧
    canTrip s.dev 0x26 = true ∧ s.dev.hold.warned = false) ∧
    (∃ (s : State) (t : Nat), s.dev.clk.refOk = false ∧ chanRuns s.dev = true) ∧
    (∃ (s : State) (t l band : Nat) (temp : Int), l < 6 ∧ locked s.dev l = false ∧
    s.dev.clk.refOk = true ∧ chanRuns s.dev = true ∧ s.dev.sys.st ≠ .doze ∧ (l = 3 → locked s.dev 2 = true) ∧
    (searchesFull s.dev l temp = true ∨ bandStored s.dev l band temp = true)) ∧
    (∃ (s : State) (t l : Nat), l < 6 ∧ locked s.dev l = false ∧
    chanRuns s.dev = true ∧ s.dev.sys.st ≠ .doze ∧
    (prm s.dev 0xF207 0 ≤ tget 0 s.dev.clk.tries l → tget 0 s.dev.clk.tryT l + 4000000 ≤ t)) ∧
    (∃ (s : State) (t band : Nat) (temp : Int), s.dev.sys.st = .doze ∧
    100 ≤ absI (temp - s.dev.clk.bandTemp)) ∧
    (∃ (s : State) (t : Nat), prm s.dev 0xF204 0 = 0 ∧ chanRuns s.dev = true ∧
    locked s.dev 3 = true ∧ s.dev.clk.phase ≠ (t + prm s.dev 0xF205 0) % 10) ∧
    (∃ (s : State) (t : Nat), prm s.dev 0xF204 0 = 0 ∧ chanRuns s.dev = true ∧
    locked s.dev 3 = true ∧ s.dev.clk.phase = (t + prm s.dev 0xF205 0) % 10) ∧
    (∃ (s : State) (t : Nat), s.dev.time.valid = true ∧ chanRuns s.dev = true ∧
    t % 400000000 = 0) :=
  ⟨⟨st [fun d => { d with sys := { d.sys with st := .run } }], 4000000, by decide +kernel⟩,
   ⟨st [fun d => { d with clk := { d.clk with refOk := false } }], 4000000, by decide +kernel⟩,
   ⟨st [fun d => { d with clk := { d.clk with lock := 55 } }], 4000000, 3, 4, 30, by decide +kernel⟩,
   ⟨st [fun d => { d with clk := { d.clk with lock := 0 } }], 4000000, 5, by decide +kernel⟩,
   ⟨st [fun d => { d with sys := { d.sys with st := .doze } }], 4000000, 4, 100, by decide +kernel⟩,
   ⟨st [setPrm 0xF204 0 0, fun d => { d with clk := { d.clk with phase := 3 } }], 4000000, by decide +kernel⟩,
   ⟨st [setPrm 0xF204 0 0, setPrm 0xF205 0 0], 4000000, by decide +kernel⟩,
   ⟨st [fun d => { d with time := { d.time with valid := true } }], 400000000, by decide +kernel⟩⟩

theorem wit_HoldUp :
    (∃ (s : State) (t v : Nat), s.dev.sys.up = true ∧ v < 4096) ∧
    (∃ (s : State) (t : Nat) (w : WarnSource), warnDue (devAt s t) w = false) ∧
    (∃ (s : State) (t : Nat) (w : WarnSource), chanRuns s.dev = true ∧ s.dev.hold.warned = false ∧
    warnDue (devAt s t) w = true) ∧
    (∃ (s : State) (t b j : Nat), s.dev.hold.warned = true ∧ s.dev.hold.plan = 2 ∧ 3 ≤ b) ∧
    (∃ (s : State) (t b j : Nat), s.dev.hold.warned = true ∧ s.dev.hold.plan = 1 ∧ 1 ≤ b) ∧
    (∃ (s : State) (t b j : Nat), s.dev.hold.warned = true ∧ s.dev.hold.plan = 0) ∧
    (∃ (s : State) (t : Nat) (ts : List Int), s.dev.sys.up = true ∧ ts ≠ [] ∧ 118 ≤ hottest ts) ∧
    (∃ (s : State) (t : Nat) (ts : List Int), s.dev.sys.up = true ∧ ts ≠ [] ∧
    s.dev.boot.tDie < 105 ∧ 105 ≤ hottest ts ∧ hottest ts < 118) ∧
    (∃ (s : State) (t : Nat) (ts : List Int), s.dev.sys.up = true ∧ ts ≠ [] ∧ hottest ts < 105 ∧
    s.dev.boot.therm = 0) :=
  ⟨⟨st [], 4000000, 4095, by decide +kernel⟩,
   ⟨st [fun d => { d with sys := { d.sys with st := .run } }], 4000000, .rail 3999201, by decide +kernel⟩,
   ⟨st [fun d => { d with sys := { d.sys with st := .run } }], 4000000, .rail 3999200, by decide +kernel⟩,
   ⟨st [fun d => { d with hold := { d.hold with warned := true, plan := 2 } }], 4000000, 3, 0, by decide +kernel⟩,
   ⟨st [fun d => { d with hold := { d.hold with warned := true, plan := 1 } }], 4000000, 1, 0, by decide +kernel⟩,
   ⟨st [fun d => { d with hold := { d.hold with warned := true, plan := 0 } }], 4000000, 0, 2, by decide +kernel⟩,
   ⟨st [
      fun d => { d with sys := { d.sys with st := .run } }, modLeg 3 (fun x => { x with insvc := true })],
  4000000, [118, 30], by decide +kernel⟩,
   ⟨st [fun d => { d with boot := { d.boot with tDie := 104 } }], 4000000, [105, 30], by decide +kernel⟩,
   ⟨st [], 4000000, [104], by decide +kernel⟩⟩

theorem wit_ClaspSupplies :
    (∃ (s : State) (t : Nat) (vh : Bool), s.dev.sys.st = .off) ∧
    (∃ (s : State) (t : Nat) (vh : Bool), s.dev.sys.st = .off) ∧
    (∃ (s : State) (t : Nat), s.dev.sys.st = .off ∧ s.dev.clasp.charging = true) ∧
    (∃ (s : State) (t : Nat), s.dev.sys.st = .clasp) ∧
    (∃ (s : State) (t : Nat) (b h : Bool), s.dev.sys.st ≠ .off) ∧
    (∃ (s : State) (t : Nat) (l : Bool), claspAlone s.dev = true ∧
    bit (snapPrm s.dev 0xF102) 0 = true ∧ l = decide (snapPrm s.dev 0xF105 = 0)) ∧
    (∃ (s : State) (t : Nat) (l : Bool), s.dev.sys.st = .doze ∧ s.dev.sys.dozeFrom = .ready ∧
    l = decide (prm s.dev 0xF105 0 = 0) ∧ s.dev.hold.warned = false ∧ s.dev.gd.estop = false) ∧
    (∃ (s : State) (t : Nat), claspAlone s.dev = true ∧ snapPrm s.dev 0xF100 ≠ 0 ∧
    rtcNow true (devAt s t) / 32768 = snapPrm s.dev 0xF100 ∧ bit (snapPrm s.dev 0xF102) 1 = true) ∧
    (∃ (s : State) (t : Nat), s.dev.sys.st = .clasp ∧ s.dev.clasp.pwrEn = true ∧
    s.dev.clasp.start = none ∧ s.dev.clasp.rstLow = false ∧ s.dev.clasp.pwrT + 400000 * snapPrm s.dev 0xF103 ≤ t) ∧
    (∃ (s : State) (t : Nat) (h : Bool), s.dev.sys.st = .clasp ∧ s.dev.clasp.start = none ∧
    s.dev.clasp.rstLow = false ∧ s.dev.clasp.pwrEn = true ∧ t ≤ s.dev.clasp.pwrT + 400000 * snapPrm s.dev 0xF103) ∧
    (∃ (s : State) (t : Nat) (h : Bool), s.dev.sys.st = .clasp ∧ s.dev.clasp.start = none ∧
    s.dev.clasp.rstLow = false ∧ s.dev.clasp.pwrEn = false ∧ bit (snapPrm s.dev 0xF102) 2 = true) :=
  ⟨⟨State.reset, 4000000, false, by decide +kernel⟩,
   ⟨State.reset, 4000000, true, by decide +kernel⟩,
   ⟨st [
      fun d => { d with sys := { d.sys with st := .off, up := false } },
      fun d => { d with clasp := { d.clasp with charging := true } }],
  4000000, by decide +kernel⟩,
   ⟨st [claspOnly], 4000000, by decide +kernel⟩,
   ⟨st [], 4000000, true, true, by decide +kernel⟩,
   ⟨st [
      claspOnly,
      fun d => { d with lkt := { d.lkt with slotA := { written := true, header := true, params := [(0xF1020000, 1), (0xF1050000, 0)] } } }],
  4000000, true, by decide +kernel⟩,
   ⟨st [fun d => { d with sys := { d.sys with st := .doze, dozeFrom := .ready } }, setPrm 0xF105 0 0], 4000000, true,
  by decide +kernel⟩,
   ⟨st [
      claspOnly,
      fun d => { d with lkt := { d.lkt with slotA := { written := true, header := true, params := [(0xF1000000, 1), (0xF1020000, 2)] } } }],
  400000000, by decide +kernel⟩,
   ⟨st [fun d => { d with sys := { d.sys with st := .clasp, up := false } }], 4000000000000, by decide +kernel⟩,
   ⟨st [fun d => { d with sys := { d.sys with st := .clasp, up := false } }], 4000000, true, by decide +kernel⟩,
   ⟨st [
      claspOnly,
      fun d => { d with lkt := { d.lkt with slotA := { written := true, header := true, params := [(0xF1020000, 4)] } } }],
  4000000, true, by decide +kernel⟩⟩

theorem wit_Resets :
    (∃ (s : State) (t a : Nat), t < a + 200) ∧
    (∃ (s : State) (t a : Nat), s.dev.sys.st ≠ .off ∧ s.dev.sys.up = true ∧ a + 200 ≤ t) ∧
    (∃ (s : State) (t : Nat) (h : Bool), s.dev.clasp.rstLow = true ∧ s.dev.clasp.pwrEn = true) ∧
    (∃ (s : State) (t : Nat) (h : Bool), s.dev.clasp.rstLow = true ∧ s.dev.clasp.pwrEn = false) ∧
    (∃ (s : State) (t : Nat) (h : Bool), s.dev.sys.up = true ∧ s.dev.sys.testStop = false) ∧
    (∃ (s : State) (t : Nat), chanRuns s.dev = true ∧ canTrip s.dev 0x28 = true ∧
    s.dev.sys.st ≠ .doze ∧ s.dev.hold.warned = false) ∧
    (∃ (s : State) (t a : Nat) (h : Bool), s.dev.clk.lockstep = some a ∧ a + 400000 ≤ t ∧
    s.dev.sys.up = true) ∧
    (∃ (s : State) (t : Nat), s.dev.sys.st ≠ .off) :=
  ⟨⟨st [], 199, 0, by decide +kernel⟩,
   ⟨st [fun d => { d with sys := { d.sys with st := .run } }], 4000000, 0, by decide +kernel⟩,
   ⟨st [fun d => { d with clasp := { d.clasp with rstLow := true } }], 4000000, false, by decide +kernel⟩,
   ⟨st [fun d => { d with clasp := { d.clasp with rstLow := true, pwrEn := false } }], 4000000, false,
  by decide +kernel⟩,
   ⟨st [], 4000000, false, by decide +kernel⟩,
   ⟨st [fun d => { d with sys := { d.sys with st := .run } }], 4000000, by decide +kernel⟩,
   ⟨st [fun d => { d with clk := { d.clk with lockstep := some 0 } }], 4000000, 0, false, by decide +kernel⟩,
   ⟨st [fun d => { d with sys := { d.sys with st := .run } }], 4000000, by decide +kernel⟩⟩

theorem wit_StartCompletes :
    (∃ (s : State) (t k c a : Nat) (o : BootObs), s.dev.clasp.start = some (k, c, a) ∧
    s.dev.sys.up = false ∧ s.dev.sys.testStop = false ∧ s.dev.clasp.rstLow = false ∧ o.estopLow = false) ∧
    (∃ (s : State) (t k c a : Nat) (o : BootObs), s.dev.clasp.start = some (k, c, a) ∧
    s.dev.sys.up = false ∧ s.dev.sys.testStop = false ∧ s.dev.clasp.rstLow = false ∧ o.estopLow = true ∧
    s.dev.hold.warned = false) :=
  ⟨⟨st [
      fun d => { d with sys := { d.sys with st := .clasp, up := false } },
      fun d => { d with clasp := { d.clasp with start := some (1, 2, 0) } }],
  4000000, 1, 2, 0, ⟨0, 0, 0, true, true, false⟩, by decide +kernel⟩,
   ⟨st [
      fun d => { d with sys := { d.sys with st := .clasp, up := false } },
      fun d => { d with clasp := { d.clasp with start := some (1, 2, 0) } }],
  4000000, 1, 2, 0, ⟨0, 0, 0, true, true, true⟩, by decide +kernel⟩⟩

theorem wit_ParameterReads :
    (∃ (s : State) (t slot : Nat) (c : Cmd) (x : Desc), Admitted s slot 0x01 c ∧
    bit (field c.body 6 6) 0 = false ∧ descOf (field c.body 1 0) = some x ∧
    field c.body 3 2 + field c.body 5 4 ≤ x.n) ∧
    (∃ (s : State) (t slot : Nat) (c : Cmd) (x : Desc), Admitted s slot 0x01 c ∧
    bit (field c.body 6 6) 0 = true ∧ descOf (field c.body 1 0) = some x ∧
    field c.body 3 2 + field c.body 5 4 ≤ x.n) ∧
    (∃ (s : State) (t slot : Nat) (c : Cmd), Admitted s slot 0x01 c ∧
    bit (field c.body 6 6) 0 = false ∧ descOf (field c.body 1 0) = none) ∧
    (∃ (s : State) (t slot : Nat) (c : Cmd) (x : Desc), Admitted s slot 0x01 c ∧
    bit (field c.body 6 6) 0 = false ∧ descOf (field c.body 1 0) = some x ∧
    x.n < field c.body 3 2 + field c.body 5 4) :=
  ⟨⟨cmdSt 0x01 0 [0x00, 0x31, 47, 0, 1, 0, 0, 0] [], 4000000, 0, cmdOf 0x01 0 [0x00, 0x31, 47, 0, 1, 0, 0, 0],
  (descOf 0x3100).getD wDesc, by unfold Admitted; decide +kernel⟩,
   ⟨cmdSt 0x01 0 [0x00, 0x31, 47, 0, 1, 0, 1, 0] [], 4000000, 0, cmdOf 0x01 0 [0x00, 0x31, 47, 0, 1, 0, 1, 0],
  (descOf 0x3100).getD wDesc, by unfold Admitted; decide +kernel⟩,
   ⟨cmdSt 0x01 0 [0xFF, 0xFF, 0, 0, 1, 0, 0, 0] [], 4000000, 0, cmdOf 0x01 0 [0xFF, 0xFF, 0, 0, 1, 0, 0, 0],
  by unfold Admitted; decide +kernel⟩,
   ⟨cmdSt 0x01 0 [0x00, 0x31, 47, 0, 2, 0, 0, 0] [], 4000000, 0, cmdOf 0x01 0 [0x00, 0x31, 47, 0, 2, 0, 0, 0],
  (descOf 0x3100).getD wDesc, by unfold Admitted; decide +kernel⟩⟩

theorem wit_ParameterWrites :
    (∃ (s : State) (t slot : Nat) (c : Cmd) (x : Desc), Admitted s slot 0x02 c ∧
    s.dev.sys.up = true ∧ standbyPset s.dev (field c.body 1 0) = false ∧ descOf (field c.body 1 0) = some x ∧
    x.kind = 1 ∧ field c.body 7 6 = x.vsize ∧ field c.body 3 2 + field c.body 5 4 ≤ x.n ∧
    psetBusy s.dev x (field c.body 3 2) (field c.body 5 4) = false ∧
    (∀ k, k < field c.body 5 4 → prmOwned s.dev (field c.body 1 0) (field c.body 3 2 + k) = false) ∧
    (∀ k, k < field c.body 5 4 → inRange x (psetVal c (field c.body 7 6) k) = true)) ∧
    (∃ (s : State) (t slot : Nat) (c : Cmd) (x : Desc), Admitted s slot 0x02 c ∧
    s.dev.sys.up = true ∧ standbyPset s.dev (field c.body 1 0) = false ∧ descOf (field c.body 1 0) = some x ∧
    x.kind = 4 ∧ field c.body 7 6 = x.vsize ∧ field c.body 3 2 + field c.body 5 4 ≤ x.n ∧
    psetBusy s.dev x (field c.body 3 2) (field c.body 5 4) = false ∧ s.dev.fil.copying = false ∧
    (∀ k, k < field c.body 5 4 → prmOwned s.dev (field c.body 1 0) (field c.body 3 2 + k) = false) ∧
    (∀ k, k < field c.body 5 4 → inRange x (psetVal c (field c.body 7 6) k) = true)) ∧
    (∃ (s : State) (t slot i : Nat) (c : Cmd) (x : Desc), Admitted s slot 0x02 c ∧
    standbyPset s.dev (field c.body 1 0) = false ∧ descOf (field c.body 1 0) = some x ∧ x.kind ≠ 0 ∧
    field c.body 7 6 = x.vsize ∧ field c.body 3 2 + field c.body 5 4 ≤ x.n ∧
    psetBusy s.dev x (field c.body 3 2) (field c.body 5 4) = false ∧
    (∀ k, k < field c.body 5 4 → prmOwned s.dev (field c.body 1 0) (field c.body 3 2 + k) = false) ∧
    i < field c.body 5 4 ∧ (∀ k, k < i → inRange x (psetVal c (field c.body 7 6) k) = true) ∧
    inRange x (psetVal c (field c.body 7 6) i) = false) ∧
    (∃ (s : State) (t slot : Nat) (c : Cmd) (x : Desc), Admitted s slot 0x02 c ∧
    standbyPset s.dev (field c.body 1 0) = false ∧ descOf (field c.body 1 0) = some x ∧ field c.body 7 6 = x.vsize ∧
    x.kind = 0) ∧
    (∃ (s : State) (t cls mask : Nat), WriteServed s.dev cls 2 ∧ mask < 2 ^ 32 ∧
    commitNames s.dev mask = false) ∧
    (∃ (s : State) (t cls k v : Nat), WriteServed s.dev cls 1 ∧ k < 65536 ∧
    declOf s.dev (s.dev.prm.ptSel + k) ≠ 0 ∧ v < 2 ^ (8 * typeSize (declOf s.dev (s.dev.prm.ptSel + k)))) :=
  ⟨⟨cmdSt 0x02 0 [0x00, 0x31, 47, 0, 1, 0, 4, 0, 2, 0, 0, 0] [], 4000000, 0,
  cmdOf 0x02 0 [0x00, 0x31, 47, 0, 1, 0, 4, 0, 2, 0, 0, 0], (descOf 0x3100).getD wDesc,
  by unfold Admitted; decide +kernel⟩,
   ⟨cmdSt 0x02 0 [0x01, 0x21, 47, 0, 1, 0, 4, 0, 2, 0, 0, 0] [], 4000000, 0,
  cmdOf 0x02 0 [0x01, 0x21, 47, 0, 1, 0, 4, 0, 2, 0, 0, 0], (descOf 0x2101).getD wDesc,
  by unfold Admitted; decide +kernel⟩,
   ⟨cmdSt 0x02 0 [0x00, 0x31, 47, 0, 1, 0, 4, 0, 16, 0, 0, 0] [], 4000000, 0, 0,
  cmdOf 0x02 0 [0x00, 0x31, 47, 0, 1, 0, 4, 0, 16, 0, 0, 0], (descOf 0x3100).getD wDesc,
  by unfold Admitted; decide +kernel⟩,
   ⟨cmdSt 0x02 0 [0x02, 0, 0, 0, 1, 0, 4, 0, 2, 0, 0, 0] [], 4000000, 0,
  cmdOf 0x02 0 [0x02, 0, 0, 0, 1, 0, 4, 0, 2, 0, 0, 0], (descOf 0x0002).getD wDesc,
  by unfold Admitted; decide +kernel⟩,
   ⟨st [], 4000000, 3, 4294967295, by unfold WriteServed; decide +kernel⟩,
   ⟨st [fun d => { d with pts := [(0x10FFFF, { hostPt := true, typ := 1 })] }], 4000000, 3, 65535, 255,
  by unfold WriteServed; decide +kernel⟩⟩

theorem wit_Commits :
    (∃ (s : State) (t slot : Nat) (c : Cmd), Admitted s slot 0x03 c ∧ checkOnly c = false ∧
    s.dev.sys.standby = false ∧ commitIdle (devAt s t) (commitMask c) = false) ∧
    (∃ (s : State) (t slot : Nat) (c : Cmd), Admitted s slot 0x03 c ∧ checkOnly c = false ∧
    s.dev.sys.standby = false ∧ commitIdle (devAt s t) (commitMask c) = true) ∧
    (∃ (s : State) (t slot : Nat) (c : Cmd), Admitted s slot 0x03 c ∧ checkOnly c = true ∧
    s.dev.sys.standby = false) ∧
    (∃ (s : State) (t : Nat) (j : CommitJob), s.dev.commit = some j ∧ j.passedAt = none ∧
    s.dev.sys.up = true ∧ s.dev.mbx.paused = false ∧ s.dev.sys.testStop = false ∧
    commitVerdict (devAt s t) j.groups j.cls = (0, 0)) ∧
    (∃ (s : State) (t : Nat) (j : CommitJob) (l : LongCmd) (v : Nat × Nat), s.dev.commit = some j ∧
    j.passedAt = none ∧ s.dev.sys.up = true ∧ s.dev.mbx.paused = false ∧ s.dev.sys.testStop = false ∧
    commitVerdict (devAt s t) j.groups j.cls = v ∧ v.1 ≠ 0 ∧
    s.dev.mbx.long.find? (fun x => x.slot = j.slot) = some l) ∧
    (∃ (s : State) (t a : Nat) (j : CommitJob) (l : LongCmd), s.dev.commit = some j ∧
    j.passedAt = some a ∧ j.landEp * 400000 ≤ t ∧ t % 400000 = 0 ∧ s.dev.sys.up = true ∧ locked s.dev 2 = true ∧
    s.dev.mbx.paused = false ∧ s.dev.sys.testStop = false ∧ s.dev.fil.replay = none ∧ s.dev.acq.calZero = none ∧
    s.dev.acq.calFull = none ∧ stateRules (commitCtx (devAt s t) j.groups) = [] ∧
    neededClass (devAt s t) (commitCtx (devAt s t) j.groups).ch ≤ j.cls ∧
    s.dev.mbx.long.find? (fun x => x.slot = j.slot) = some l) ∧
    (∃ (s : State) (t a : Nat) (j : CommitJob) (l : LongCmd), s.dev.commit = some j ∧
    j.passedAt = some a ∧ j.landEp * 400000 ≤ t ∧ t % 400000 = 0 ∧ s.dev.sys.up = true ∧ locked s.dev 2 = true ∧
    s.dev.mbx.paused = false ∧ s.dev.sys.testStop = false ∧ s.dev.fil.replay = none ∧
    stateRules (commitCtx (devAt s t) j.groups) ≠ [] ∧ s.dev.mbx.long.find? (fun x => x.slot = j.slot) = some l) ∧
    (∃ (s : State) (t : Nat), snapWriting s.dev = true ∧ s.dev.lkt.retryDue = false ∧
    s.dev.sys.up = true ∧ s.dev.lkt.again = false) ∧
    (∃ (s : State) (t : Nat), snapWriting s.dev = true ∧ s.dev.lkt.retryDue = false ∧
    s.dev.sys.up = true ∧ s.dev.lkt.retrying = false) ∧
    (∃ (s : State) (t : Nat), snapWriting s.dev = true ∧ s.dev.lkt.retryDue = true ∧
    s.dev.lkt.failT + 40000000 ≤ t) ∧
    (∃ (s : State) (t : Nat), snapWriting s.dev = true ∧ s.dev.lkt.retryDue = false ∧
    s.dev.sys.up = true ∧ s.dev.lkt.retrying = true ∧ s.dev.lkt.again = false) :=
  ⟨⟨cmdSt 0x03 0 [0xFF, 0xFF, 0xFF, 0xFF, 0, 0, 0, 0] [
      fun d => { d with prm := { d.prm with staged := [(pkey 0x3100 47, 2)] } }],
  4000000, 0, cmdOf 0x03 0 [0xFF, 0xFF, 0xFF, 0xFF, 0, 0, 0, 0], by unfold Admitted; decide +kernel⟩,
   ⟨cmdSt 0x03 0 [0xFF, 0xFF, 0xFF, 0xFF, 0, 0, 0, 0] [], 4000000, 0,
  cmdOf 0x03 0 [0xFF, 0xFF, 0xFF, 0xFF, 0, 0, 0, 0], by unfold Admitted; decide +kernel⟩,
   ⟨cmdSt 0x03 0 [0xFF, 0xFF, 0xFF, 0xFF, 1, 0, 0, 0] [], 4000000, 0,
  cmdOf 0x03 0 [0xFF, 0xFF, 0xFF, 0xFF, 1, 0, 0, 0], by unfold Admitted; decide +kernel⟩,
   ⟨st [fun d => { d with commit := some cjob }], 4000000, cjob, by decide +kernel⟩,
   ⟨st [
      fun d => { d with commit := some { cjob with cls := 0, groups := 0xFFFFFFFF } },
      fun d => { d with prm := { d.prm with staged := [(pkey 0x3100 47, 2)] } },
      fun d => { d with mbx := { d.mbx with long := [⟨0, 3, 1, 0, []⟩] } }],
  4000000, { cjob with cls := 0, groups := 0xFFFFFFFF }, ⟨0, 3, 1, 0, []⟩,
  commitVerdict (devAt (st [fun d => { d with commit := some { cjob with cls := 0, groups := 0xFFFFFFFF } }, fun d => { d with prm := { d.prm with staged := [(pkey 0x3100 47, 2)] } }, fun d => { d with mbx := { d.mbx with long := [⟨0, 3, 1, 0, []⟩] } }]) 4000000) 0xFFFFFFFF 0,
  by decide +kernel⟩,
   ⟨st [
      fun d => { d with commit := some { cjob with passedAt := some 0 } },
      fun d => { d with mbx := { d.mbx with long := [⟨0, 3, 1, 0, []⟩] } }],
  4000000, 0, { cjob with passedAt := some 0 }, ⟨0, 3, 1, 0, []⟩, by decide +kernel⟩,
   ⟨st [
      fun d => { d with commit := some { cjob with passedAt := some 0, groups := 0xFFFFFFFF } },
      fun d => { d with mbx := { d.mbx with long := [⟨0, 3, 1, 0, []⟩] } },
      fun d => { d with prm := { d.prm with staged := [(pkey 0x3100 47, 2)] } },
      fun d => { d with sys := { d.sys with st := .run } }, modLeg 47 (fun x => { x with insvc := true })],
  4000000, 0, { cjob with passedAt := some 0, groups := 0xFFFFFFFF }, ⟨0, 3, 1, 0, []⟩, by decide +kernel⟩,
   ⟨st [fun d => { d with lkt := { d.lkt with snapState := 1 } }], 4000000, by decide +kernel⟩,
   ⟨st [fun d => { d with lkt := { d.lkt with snapState := 1 } }], 4000000, by decide +kernel⟩,
   ⟨st [fun d => { d with lkt := { d.lkt with snapState := 1, retryDue := true } }], 40000000, by decide +kernel⟩,
   ⟨st [fun d => { d with lkt := { d.lkt with snapState := 1, retrying := true } }], 4000000, by decide +kernel⟩⟩

theorem wit_Reads :
    (∃ (s : State) (t slot : Nat) (c : Cmd), Admitted s slot 0x04 c ∧
    bit (field c.body 6 6) 0 = false ∧ 1 ≤ field c.body 5 4 ∧ field c.body 5 4 ≤ 15) ∧
    (∃ (s : State) (t slot : Nat) (c : Cmd), Admitted s slot 0x04 c ∧
    bit (field c.body 6 6) 0 = true ∧ 1 ≤ field c.body 5 4 ∧ field c.body 5 4 ≤ 15) ∧
    (∃ (s : State) (t slot : Nat) (c : Cmd), Admitted s slot 0x05 c ∧ field c.body 3 0 < 2 ^ 23 ∧
    1 ≤ field c.body 5 4 ∧ field c.body 5 4 ≤ 15) ∧
    (∃ (s : State) (t slot : Nat) (c : Cmd) (rs : List Rec), Admitted s slot 0x06 c ∧
    s.dev.cask.up = true ∧ 1 ≤ field c.body 4 4 ∧ field c.body 4 4 ≤ 7 ∧
    rs = s.dev.cask.recs.filter (fun r => decide (field c.body 3 0 ≤ r.id) && bit (field c.body 5 5) r.cls && bit (field c.body 6 6) r.tier) ∧
    rs.length ≤ field c.body 4 4) ∧
    (∃ (s : State) (t slot : Nat) (c : Cmd) (r : Rec), Admitted s slot 0x07 c ∧
    bit (field c.body 10 10) 0 = false ∧ s.dev.cask.up = true ∧ 1 ≤ field c.body 9 8 ∧ field c.body 9 8 ≤ 488 ∧
    s.dev.cask.recs.find? (fun x => x.id = field c.body 3 0) = some r ∧ recLive r = true) ∧
    (∃ (s : State) (t slot : Nat) (c : Cmd) (r : Rec), Admitted s slot 0x07 c ∧
    bit (field c.body 10 10) 0 = true ∧ s.dev.cask.up = true ∧ 1 ≤ field c.body 9 8 ∧ field c.body 9 8 ≤ 488 ∧
    s.dev.cask.recs.find? (fun x => x.id = field c.body 3 0) = some r ∧ recLive r = true ∧ r.tier = 0) ∧
    (∃ (s : State) (t slot : Nat) (c : Cmd) (r : Rec) (e : EccError), Admitted s slot 0x07 c ∧
    s.dev.cask.up = true ∧ 1 ≤ field c.body 9 8 ∧ field c.body 9 8 ≤ 488 ∧
    s.dev.cask.recs.find? (fun x => x.id = field c.body 3 0) = some r ∧ recLive r = true ∧ r.tier ≠ 2 ∧
    e.double = true ∧ r.addr + field c.body 7 4 ≤ e.addr ∧ e.addr < r.addr + field c.body 7 4 + field c.body 9 8 ∧
    e.addr < r.addr + r.len) :=
  ⟨⟨cmdSt 0x04 0 [0, 0, 0, 0, 15, 0, 0, 0] [], 4000000, 0, cmdOf 0x04 0 [0, 0, 0, 0, 15, 0, 0, 0],
  by unfold Admitted; decide +kernel⟩,
   ⟨cmdSt 0x04 0 [0, 0, 0, 0, 1, 0, 1, 0] [], 4000000, 0, cmdOf 0x04 0 [0, 0, 0, 0, 1, 0, 1, 0],
  by unfold Admitted; decide +kernel⟩,
   ⟨cmdSt 0x05 0 [0xFF, 0xFF, 0x7F, 0, 15, 0, 0, 0] [], 4000000, 0, cmdOf 0x05 0 [0xFF, 0xFF, 0x7F, 0, 15, 0, 0, 0],
  by unfold Admitted; decide +kernel⟩,
   ⟨cmdSt 0x06 0 [1, 0, 0, 0, 1, 1, 1, 0] [fun d => { d with cask := { d.cask with recs := [rec1] } }], 4000000, 0,
  cmdOf 0x06 0 [1, 0, 0, 0, 1, 1, 1, 0], [rec1], by unfold Admitted; decide +kernel⟩,
   ⟨cmdSt 0x07 0 [1, 0, 0, 0, 0, 0, 0, 0, 0xE8, 1, 0, 0] [
      fun d => { d with cask := { d.cask with recs := [rec1] } }],
  4000000, 0, cmdOf 0x07 0 [1, 0, 0, 0, 0, 0, 0, 0, 0xE8, 1, 0, 0], rec1, by unfold Admitted; decide +kernel⟩,
   ⟨cmdSt 0x07 0 [1, 0, 0, 0, 0, 0, 0, 0, 0xE8, 1, 1, 0] [
      fun d => { d with cask := { d.cask with recs := [rec1] } }],
  4000000, 0, cmdOf 0x07 0 [1, 0, 0, 0, 0, 0, 0, 0, 0xE8, 1, 1, 0], rec1, by unfold Admitted; decide +kernel⟩,
   ⟨cmdSt 0x07 0 [1, 0, 0, 0, 0, 0, 0, 0, 0xE8, 1, 0, 0] [
      fun d => { d with cask := { d.cask with recs := [{ rec1 with len := 64 }] } }],
  4000000, 0, cmdOf 0x07 0 [1, 0, 0, 0, 0, 0, 0, 0, 0xE8, 1, 0, 0], { rec1 with len := 64 }, ⟨8, true⟩,
  by unfold Admitted; decide +kernel⟩⟩

theorem wit_PointPairs :
    (∃ (s : State) (t slot i : Nat) (c : Cmd), Admitted s slot 0x05 c ∧ i < 168 ∧
    field c.body 3 0 = 0x10000 + i ∧ field c.body 5 4 = 1) ∧
    (∃ (s : State) (t slot f p : Nat) (c : Cmd), Admitted s slot 0x05 c ∧ f < 13 ∧
    (p = 14 ∨ p = 15) ∧ field c.body 3 0 = 0x10100 + 2 * f + (p - 14) ∧ field c.body 5 4 = 1) ∧
    (∃ (s : State) (t slot k : Nat) (c : Cmd), Admitted s slot 0x05 c ∧ k < 128 ∧
    field c.body 3 0 = 0x20000 + k ∧ field c.body 5 4 = 1) :=
  ⟨⟨cmdSt 0x05 0 [0xA7, 0, 1, 0, 1, 0, 0, 0] [], 4000000, 0, 167, cmdOf 0x05 0 [0xA7, 0, 1, 0, 1, 0, 0, 0],
  by unfold Admitted; decide +kernel⟩,
   ⟨cmdSt 0x05 0 [0x19, 1, 1, 0, 1, 0, 0, 0] [], 4000000, 0, 12, 15, cmdOf 0x05 0 [0x19, 1, 1, 0, 1, 0, 0, 0],
  by unfold Admitted; decide +kernel⟩,
   ⟨cmdSt 0x05 0 [0x7F, 0, 2, 0, 1, 0, 0, 0] [], 4000000, 0, 127, cmdOf 0x05 0 [0x7F, 0, 2, 0, 1, 0, 0, 0],
  by unfold Admitted; decide +kernel⟩⟩

theorem wit_Sessions :
    (∃ (s : State) (t slot : Nat) (c : Cmd), Admitted s slot 0x0B c ∧ field c.body 0 0 = 0 ∧
    field c.body 1 1 ≤ 3 ∧ c.len = 4 + field c.body 3 2 ∧ s.dev.sec.lockout = false ∧
    credOpens (devAt s t) (field c.body 1 1) (c.body.drop 4) = true ∧ s.dev.sys.up = true) ∧
    (∃ (s : State) (t slot : Nat) (c : Cmd), Admitted s slot 0x0B c ∧ field c.body 0 0 = 0 ∧
    field c.body 1 1 ≤ 3 ∧ c.len = 4 + field c.body 3 2 ∧
    (s.dev.sec.lockout = true ∨ credOpens (devAt s t) (field c.body 1 1) (c.body.drop 4) = false) ∧
    s.dev.sys.up = true) ∧
    (∃ (s : State) (t slot : Nat) (c : Cmd), Admitted s slot 0x0B c ∧ field c.body 0 0 = 1 ∧
    c.len = 4 ∧ field c.body 3 1 = 0 ∧ c.sess ≠ 0 ∧ s.dev.mbx.sessOpen = true) ∧
    (∃ (s : State) (t : Nat), s.dev.mbx.sessOpen = true ∧
    s.dev.mbx.sessLast + prm s.dev 0x0024 0 * 400000000 ≤ t) ∧
    (∃ (s : State) (t : Nat), s.dev.sec.lockout = true ∧ s.dev.sec.lockEnd ≤ t) :=
  ⟨⟨cmdSt 0x0B 0 [0, 3, 0, 0] [], 4000000, 0, cmdOf 0x0B 0 [0, 3, 0, 0], by unfold Admitted; decide +kernel⟩,
   ⟨cmdSt 0x0B 0 [0, 3, 0, 0] [fun d => { d with sec := { d.sec with lockout := true } }], 4000000, 0,
  cmdOf 0x0B 0 [0, 3, 0, 0], by unfold Admitted; decide +kernel⟩,
   ⟨cmdSt 0x0B 5 [1, 0, 0, 0] [
      fun d => { d with mbx := { d.mbx with sessOpen := true, sessToken := 5 } }],
  4000000, 0, cmdOf 0x0B 5 [1, 0, 0, 0], by unfold Admitted; decide +kernel⟩,
   ⟨st [fun d => { d with mbx := { d.mbx with sessOpen := true } }], 4000000000000, by decide +kernel⟩,
   ⟨st [fun d => { d with sec := { d.sec with lockout := true, lockEnd := 4000000 } }], 4000000, by decide +kernel⟩⟩

theorem wit_Firmware :
    (∃ (s : State) (t slot : Nat) (c : Cmd), Admitted s slot 0x08 c ∧
    bit (field c.body 8 8) 1 = false ∧ bit (field c.body 8 8) 0 = true ∧ field c.body 3 0 = 0 ∧ 1 ≤ field c.body 7 4 ∧
    field c.body 7 4 ≤ 8388608 ∧ (c.body.drop 12).length ≤ 8388608) ∧
    (∃ (s : State) (t slot : Nat) (c : Cmd) (x : FwSlot), Admitted s slot 0x08 c ∧
    bit (field c.body 8 8) 1 = false ∧ bit (field c.body 8 8) 0 = false ∧ x = fwSlot s.dev (otherSlot s.dev) ∧
    x.st = 1 ∧ x.total ≠ 0 ∧ field c.body 3 0 = x.image.length ∧ 1 ≤ field c.body 7 4 ∧ field c.body 7 4 ≤ 8388608 ∧
    x.image.length + (c.body.drop 12).length ≤ 8388608) ∧
    (∃ (s : State) (t slot : Nat) (c : Cmd) (x : FwSlot), Admitted s slot 0x08 c ∧
    bit (field c.body 8 8) 1 = true ∧ bit (field c.body 8 8) 0 = false ∧ x = fwSlot s.dev (otherSlot s.dev) ∧
    x.st = 1 ∧ x.total ≠ 0 ∧ field c.body 3 0 = x.image.length ∧ 1 ≤ field c.body 7 4 ∧ field c.body 7 4 ≤ 8388608 ∧
    x.image.length + (c.body.drop 12).length ≤ 8388608) ∧
    (∃ (s : State) (t r : Nat) (l : LongCmd) (x : FwSlot), longOf s.dev 0x08 = some l ∧
    s.dev.mbx.long.find? (fun y => y.slot = l.slot) = some l ∧ x = fwSlot s.dev (otherSlot s.dev) ∧
    imageCheck x.image x.total (prm s.dev 0xE020 0) = r ∧ s.dev.sys.up = true) ∧
    (∃ (s : State) (t slot : Nat) (c : Cmd), Admitted s slot 0x09 c ∧ field c.body 0 0 = 0 ∧
    s.dev.sys.standby = false ∧ swapOk s.dev = true ∧ staged s.dev = true ∧ s.dev.hold.warned = false) ∧
    (∃ (s : State) (t slot : Nat) (c : Cmd), Admitted s slot 0x09 c ∧ field c.body 0 0 = 1 ∧
    liveState s.dev = true ∧ staged s.dev = true) ∧
    (∃ (s : State) (t slot : Nat) (c : Cmd), Admitted s slot 0x09 c ∧ field c.body 0 0 = 2 ∧
    staged s.dev = true) ∧
    (∃ (s : State) (t k : Nat), s.dev.sec.live = some k ∧ s.dev.mbx.paused = false ∧
    liveState s.dev = true ∧ staged s.dev = true ∧ s.dev.sys.standby = false) ∧
    (∃ (s : State) (t k : Nat) (l : LongCmd), s.dev.sec.live = some k ∧ s.dev.mbx.paused = true ∧
    s.dev.mbx.long.find? (fun y => y.slot = k) = some l ∧ s.dev.sys.st ≠ .service) ∧
    (∃ (s : State) (t k : Nat), s.dev.sec.live = some k ∧ s.dev.mbx.paused = true ∧
    s.dev.sys.st = .service ∧ s.dev.sys.svcRet = .run) ∧
    (∃ (s : State) (t slot : Nat) (c : Cmd), Admitted s slot 0x0A c ∧ 1 ≤ field c.body 37 36 ∧
    field c.body 37 36 ≤ 488 ∧ field c.body 35 32 < 640 ∧ s.dev.sec.attNonce ≠ some (field c.body 31 0)) ∧
    (∃ (s : State) (t slot : Nat) (c : Cmd), Admitted s slot 0x0A c ∧ 1 ≤ field c.body 37 36 ∧
    field c.body 37 36 ≤ 488 ∧ field c.body 35 32 < 640 ∧ s.dev.sec.attNonce = some (field c.body 31 0)) ∧
    (∃ (s : State) (t : Nat) (l : LongCmd) (b : List Byte), longOf s.dev 0x0A = some l ∧
    s.dev.mbx.long.find? (fun y => y.slot = l.slot) = some l ∧ s.dev.sec.attBody = some b) :=
  ⟨⟨cmdSt 0x08 0 [0, 0, 0, 0, 0, 0, 0x80, 0, 1, 0, 0, 0, 7] [], 4000000, 0,
  cmdOf 0x08 0 [0, 0, 0, 0, 0, 0, 0x80, 0, 1, 0, 0, 0, 7], by unfold Admitted; decide +kernel⟩,
   ⟨cmdSt 0x08 0 [2, 0, 0, 0, 0, 0, 0x80, 0, 0, 0, 0, 0, 7] [
      fun d => { d with sec := { d.sec with fw1 := { st := 1, total := 3, image := [1, 2] } } }],
  4000000, 0, cmdOf 0x08 0 [2, 0, 0, 0, 0, 0, 0x80, 0, 0, 0, 0, 0, 7], { st := 1, total := 3, image := [1, 2] },
  by unfold Admitted; decide +kernel⟩,
   ⟨cmdSt 0x08 0 [2, 0, 0, 0, 0, 0, 0x80, 0, 2, 0, 0, 0, 7] [
      fun d => { d with sec := { d.sec with fw1 := { st := 1, total := 3, image := [1, 2] } } }],
  4000000, 0, cmdOf 0x08 0 [2, 0, 0, 0, 0, 0, 0x80, 0, 2, 0, 0, 0, 7], { st := 1, total := 3, image := [1, 2] },
  by unfold Admitted; decide +kernel⟩,
   ⟨st [
      fun d => { d with sec := { d.sec with fw1 := { st := 1, total := 2, image := [1, 2] } } },
      fun d => { d with mbx := { d.mbx with long := [⟨0, 8, 1, 2, []⟩] } }],
  4000000, 2, ⟨0, 8, 1, 2, []⟩, { st := 1, total := 2, image := [1, 2] }, by decide +kernel⟩,
   ⟨cmdSt 0x09 0 [0, 0, 0, 0] [
      fun d => { d with sys := { d.sys with st := .run } },
      fun d => { d with pnd := { d.pnd with role := 1, formed := true, peerSynced := true } },
      fun d => { d with sec := { d.sec with fw1 := { st := 2 } } }],
  4000000, 0, cmdOf 0x09 0 [0, 0, 0, 0], by unfold Admitted; decide +kernel⟩,
   ⟨cmdSt 0x09 0 [1, 0, 0, 0] [fun d => { d with sec := { d.sec with fw1 := { st := 2 } } }], 4000000, 0,
  cmdOf 0x09 0 [1, 0, 0, 0], by unfold Admitted; decide +kernel⟩,
   ⟨cmdSt 0x09 0 [2, 0, 0, 0] [fun d => { d with sec := { d.sec with fw1 := { st := 2 } } }], 4000000, 0,
  cmdOf 0x09 0 [2, 0, 0, 0], by unfold Admitted; decide +kernel⟩,
   ⟨st [fun d => { d with sec := { d.sec with fw1 := { st := 2 }, live := some 0 } }], 4000000, 0, by decide +kernel⟩,
   ⟨st [
      fun d => { d with sec := { d.sec with fw1 := { st := 2 }, live := some 0 } },
      fun d => { d with mbx := { d.mbx with paused := true, long := [⟨0, 9, 1, 2, []⟩] } }],
  4000000, 0, ⟨0, 9, 1, 2, []⟩, by decide +kernel⟩,
   ⟨st [
      fun d => { d with sec := { d.sec with fw1 := { st := 2 }, live := some 0 } },
      fun d => { d with mbx := { d.mbx with paused := true } },
      fun d => { d with sys := { d.sys with st := .service, svcRet := .run } }],
  4000000, 0, by decide +kernel⟩,
   ⟨cmdSt 0x0A 0 (List.replicate 32 1 ++ le 4 639 ++ le 2 488) [], 4000000, 0,
  cmdOf 0x0A 0 (List.replicate 32 1 ++ le 4 639 ++ le 2 488), by unfold Admitted; decide +kernel⟩,
   ⟨cmdSt 0x0A 0 (List.replicate 32 1 ++ le 4 639 ++ le 2 488) [
      fun d => { d with sec := { d.sec with attNonce := some (ofLe (List.replicate 32 1)) } }],
  4000000, 0, cmdOf 0x0A 0 (List.replicate 32 1 ++ le 4 639 ++ le 2 488), by unfold Admitted; decide +kernel⟩,
   ⟨st [
      fun d => { d with sec := { d.sec with attBody := some [1] } },
      fun d => { d with mbx := { d.mbx with long := [⟨0, 0x0A, 1, 2, []⟩] } }],
  4000000, ⟨0, 0x0A, 1, 2, []⟩, [1], by decide +kernel⟩⟩

theorem wit_RecorderUnits :
    (∃ (s : State) (t cls u : Nat), WriteServed s.dev cls 1 ∧ u < 4 ∧
    loupeOwned s.dev u = false ∧ s.dev.cask.up = true ∧ inGroup s.dev u = false ∧ (unit s.dev u).st = 0 ∧
    prm s.dev 0xA000 u ≠ 0) ∧
    (∃ (s : State) (t cls u : Nat), WriteServed s.dev cls 1 ∧ u < 4 ∧
    loupeOwned s.dev u = false ∧ s.dev.cask.up = true ∧ inGroup s.dev u = true ∧ prm s.dev 0xA006 u = 1 ∧
    (unit s.dev u).st = 0 ∧ (∀ v, v < 4 → (unit s.dev v).cfgWait = [])) ∧
    (∃ (s : State) (t cls u : Nat), WriteServed s.dev cls 1 ∧ u < 4 ∧
    loupeOwned s.dev u = false ∧ unitNames s.dev u 0x600 = true ∧ (unit s.dev u).st = 2 ∧
    prm s.dev 0xA003 u ≤ rowsBefore (unit s.dev u).ring t) ∧
    (∃ (s : State) (t cls u : Nat), WriteServed s.dev cls 1 ∧ u < 4 ∧
    loupeOwned s.dev u = false ∧ (unit s.dev u).st = 3) ∧
    (∃ (s : State) (t u : Nat), u < 4 ∧ (unit s.dev u).st = 1 ∧
    prm s.dev 0xA003 u ≤ (unit s.dev u).ring.length ∧ (unit s.dev u).readySeen = true) ∧
    (∃ (s : State) (t u a : Nat), u < 4 ∧ (unit s.dev u).st = 1 ∧
    prm s.dev 0xA003 u ≤ (unit s.dev u).ring.length ∧ (unit s.dev u).readySeen = false ∧
    (unit s.dev u).lastRow = some a) ∧
    (∃ (s : State) (t u : Nat), u < 4 ∧ postFull s.dev u = true) ∧
    (∃ (s : State) (t u : Nat) (p : TransferParity), u < 4 ∧ (unit s.dev u).st = 4 ∧
    s.dev.cask.up = true ∧ s.dev.sys.up = true ∧ t ≤ (unit s.dev u).stT + storeMax s.dev u) ∧
    (∃ (s : State) (t u : Nat), u < 4 ∧ (unit s.dev u).st = 5 ∧
    (unit s.dev u).holdT + prm s.dev 0xA007 u * 400000 ≤ t ∧ s.dev.cask.up = true ∧ inGroup s.dev u = false ∧
    prm (landCfg u s.dev) 0xA000 u ≠ 0) ∧
    (∃ (s : State) (t k u : Nat) (up : Bool), k < 4 ∧ u < 4 ∧
    unitNames s.dev u ((if up then 0x100 else 0x110) + k) = true ∧ (unit s.dev u).st = 2 ∧
    prm s.dev 0xA003 u ≤ rowsBefore (unit s.dev u).ring (t - 4)) ∧
    (∃ (s : State) (t : Nat) (errs : List EccError),
    t < s.dev.cask.scrubT + 34560000000000) ∧
    (∃ (s : State) (t : Nat) (errs : List EccError), s.dev.cask.up = true ∧
    (∀ e ∈ errs, e.double = false) ∧ s.dev.cask.scrubT + 34560000000000 ≤ t) ∧
    (∃ (s : State) (t a : Nat), s.dev.cask.up = true ∧ s.dev.sys.up = true ∧
    0x40000000 ≤ a ∧ s.dev.cask.scrubT + 34560000000000 ≤ t) ∧
    (∃ (s : State) (t : Nat), s.dev.cask.up = true) ∧
    (∃ (s : State) (t id : Nat) (r : Rec),
    s.dev.cask.recs.find? (fun x => x.id = id) = some r ∧ r.tier = 1 ∧ recLive r = true ∧
    r.at_ + prm s.dev 0x8032 0 * 1440000000000 ≤ t) :=
  ⟨⟨st [setPrm 0xA005 3 255, setPrm 0xA000 3 1], 4000000, 3, 3, by unfold WriteServed; decide +kernel⟩,
   ⟨st [setPrm 0xA005 3 0, setPrm 0xA006 3 1, setPrm 0xA000 3 1], 4000000, 3, 3,
  by unfold WriteServed; decide +kernel⟩,
   ⟨st [
      setPrm 0xA004 12 0x600, setPrm 0xA003 3 1, modUnit 3 (fun x => { x with st := 2, ring := [⟨3999999, []⟩] })],
  4000000, 3, 3, by unfold WriteServed; decide +kernel⟩,
   ⟨st [modUnit 3 (fun x => { x with st := 3 })], 4000000, 3, 3, by unfold WriteServed; decide +kernel⟩,
   ⟨st [setPrm 0xA003 3 0, modUnit 3 (fun x => { x with st := 1, readySeen := true })], 4000000, 3, by decide +kernel⟩,
   ⟨st [setPrm 0xA003 3 0, modUnit 3 (fun x => { x with st := 1, lastRow := some 9 })], 4000000, 3, 9,
  by decide +kernel⟩,
   ⟨st [setPrm 0xA002 3 0, modUnit 3 (fun x => { x with st := 3, trg := some 0 })], 4000000, 3, by decide +kernel⟩,
   ⟨st [modUnit 3 (fun x => { x with st := 4, stT := 4000000 })], 4000000, 3, .good, by decide +kernel⟩,
   ⟨st [setPrm 0xA005 3 255, setPrm 0xA000 3 1, modUnit 3 (fun x => { x with st := 5 })], 400000000000, 3,
  by decide +kernel⟩,
   ⟨st [
      setPrm 0xA004 0 0x103, setPrm 0xA003 0 1, modUnit 0 (fun x => { x with st := 2, ring := [⟨3999995, []⟩] })],
  4000000, 3, 0, true, by decide +kernel⟩,
   ⟨st [], 4000000, [], by decide +kernel⟩,
   ⟨st [], 34560000000000, [⟨0, false⟩], by decide +kernel⟩,
   ⟨st [], 34560000000000, 0x40000000, by decide +kernel⟩,
   ⟨st [], 4000000, by decide +kernel⟩,
   ⟨st [
      setPrm 0x8032 0 1, fun d => { d with cask := { d.cask with recs := [{ rec1 with tier := 1 }] } }],
  1440000000000, 1, { rec1 with tier := 1 }, by decide +kernel⟩⟩

theorem wit_Metering :
    (∃ (s : State) (t v : Nat), s.dev.sys.up = true ∧ bits v 5 0 ≤ 32 ∧
    bits v 11 8 ≤ (if bits v 5 0 = 0 then 13 else 3)) ∧
    (∃ (s : State) (t v : Nat), s.dev.sys.up = true ∧
    (32 < bits v 5 0 ∨ (if bits v 5 0 = 0 then 13 else 3) < bits v 11 8)) ∧
    (∃ (s : State) (t : Nat), s.dev.carat.selForm = false) ∧
    (∃ (s : State) (t : Nat), s.dev.carat.selForm = true) ∧
    (∃ (s : State) (t : Nat), caratRuns s.dev = true ∧
    s.dev.carat.saved.tMs + 1000 * prm s.dev 0x900A 0 ≤ t / 400000) ∧
    (∃ (s : State) (t cls : Nat), WriteServed s.dev cls 1) ∧
    (∃ (s : State) (t : Nat), t < s.dev.carat.resT + 8000000) ∧
    (∃ (s : State) (t : Nat), caratRuns s.dev = true ∧ tabWf 0 s.dev.carat.regs ∧
    s.dev.carat.resT + 8000000 ≤ t) ∧
    (∃ (s : State) (t cls v : Nat), WriteServed s.dev cls 2 ∧ bits v 1 0 < 3 ∧
    s.dev.carat.phCal = none ∧ prm s.dev 0x9002 (bits v 1 0) ≠ 0xFF ∧
    calAdmitted s.dev (prm s.dev 0x9001 (bits v 1 0)) = true ∧
    calAdmitted s.dev (prm s.dev 0x9002 (bits v 1 0)) = true) ∧
    (∃ (s : State) (t : Nat) (phiM : Int) (c : PhCal), s.dev.carat.phCal = some c ∧
    c.bad = false ∧ prm s.dev 0x110A (4 * prm s.dev 0x9002 c.x + prm s.dev 0x1101 (prm s.dev 0x9002 c.x)) ≤ c.cycles ∧
    (prm s.dev 0x9006 0 : Rat) / 10 ≤ (carPt s.dev 0).irms.getD c.x 0 ∧ absI (c.phiA - phiM) ≤ 2000 ∧
    s.dev.sys.up = true) ∧
    (∃ (s : State) (t : Nat) (phiM : Int) (c : PhCal), s.dev.carat.phCal = some c ∧
    (c.bad = true ∨ (prm s.dev 0x110A (4 * prm s.dev 0x9002 c.x + prm s.dev 0x1101 (prm s.dev 0x9002 c.x)) ≤ c.cycles ∧ 2000 < absI (c.phiA - phiM)))) ∧
    (∃ (s : State) (t : Nat) (phiM : Int) (c : PhCal), s.dev.carat.phCal = some c ∧
    c.bad = false ∧
    c.cycles < prm s.dev 0x110A (4 * prm s.dev 0x9002 c.x + prm s.dev 0x1101 (prm s.dev 0x9002 c.x))) :=
  ⟨⟨st [], 4000000, 0x320, by decide +kernel⟩,
   ⟨st [], 4000000, 33, by decide +kernel⟩,
   ⟨st [], 4000000, by decide +kernel⟩,
   ⟨st [fun d => { d with carat := { d.carat with selForm := true } }], 4000000, by decide +kernel⟩,
   ⟨st [setPrm 0x9000 0 1], 4000000000000, by decide +kernel⟩,
   ⟨st [], 4000000, 3, by unfold WriteServed; decide +kernel⟩,
   ⟨st [], 4000000, by decide +kernel⟩,
   ⟨st [setPrm 0x9000 0 1, fun d => { d with carat := { d.carat with regs := [(1, 7)] } }], 8000000,
  by unfold tabWf; decide +kernel⟩,
   ⟨st [calReady, setPrm 0x9001 2 4, setPrm 0x9002 2 4], 4000000, 3, 2, by unfold WriteServed; decide +kernel⟩,
   ⟨st [
      fun d => { d with carat := { d.carat with phCal := some ⟨0, 0, false, true, 65535⟩ } }, setPrm 0x9006 0 0],
  4000000, 2000, ⟨0, 0, false, true, 65535⟩, by decide +kernel⟩,
   ⟨st [fun d => { d with carat := { d.carat with phCal := some ⟨0, 0, false, true, 65535⟩ } }], 4000000, 2001,
  ⟨0, 0, false, true, 65535⟩, by decide +kernel⟩,
   ⟨st [
      fun d => { d with carat := { d.carat with phCal := some ⟨0, 0, false, true, 0⟩ } }, setPrm 0x110A 1020 1],
  4000000, 0, ⟨0, 0, false, true, 0⟩, by decide +kernel⟩⟩

/-- No binding is set up in a table that lists nothing. -/
theorem unbound_of_nil (d : Dev) (h : d.prm.active = []) (e : Nat) : prm d 0xB100 e = 0 := by
  have hd : descOf 0xB100 = some ⟨0xB100, 4096, 1, 2, 2, true, 0x0B, 4, 1, 0, 2, 0⟩ := by decide +kernel
  simp [prm, h, tget, factory, hd, factoryOf, ofInt]

theorem wit_PartnerTraffic :
    (∃ (s : State) (t p : Nat) (fr : CanFrame) (h : Nat), p < 12 ∧ busesRun s.dev = true ∧
    locked s.dev 0 = true ∧ (canPort s.dev p).st < 2 ∧ (prm s.dev 0xB000 p = 1 ∨ prm s.dev 0xB000 p = 2) ∧
    (fr.fdf = false ∨ prm s.dev 0xB001 p ≠ 0) ∧ fr.rtr = false ∧
    (List.range 8).find? (fun k => describes (prm s.dev 0xB021 (8 * p + k)) fr) = some h ∧
    tget none (canPort s.dev p).hp h = none) ∧
    (∃ (s : State) (t p : Nat) (fr : CanFrame) (k : Nat), p < 12 ∧ busesRun s.dev = true ∧
    locked s.dev 0 = true ∧ (canPort s.dev p).st < 2 ∧ (prm s.dev 0xB000 p = 1 ∨ prm s.dev 0xB000 p = 2) ∧
    (fr.fdf = false ∨ prm s.dev 0xB001 p ≠ 0) ∧ fr.rtr = false ∧
    (∀ h, h < 8 → describes (prm s.dev 0xB021 (8 * p + h)) fr = false) ∧ decider s.dev p fr = some k ∧
    bit (prm s.dev 0xB020 (512 * p + k)) 30 = true ∧ (canPort s.dev p).rx.length < 128 - prm s.dev 0xB00B p) ∧
    (∃ (s : State) (t p : Nat) (r : CanRx) (rs : List CanRx), p < 12 ∧
    busesRun s.dev = true ∧ (∀ q, q < 12 → ∀ h, h < 8 → tget none (canPort s.dev q).hp h = none) ∧
    (canPort s.dev p).rx = r :: rs ∧ (∀ e, e < 4096 → claims s.dev p r e = false)) ∧
    (∃ (s : State) (t p h : Nat) (r : CanRx), p < 12 ∧ busesRun s.dev = true ∧ h < 8 ∧
    (∀ k, k < h → tget none (canPort s.dev p).hp k = none) ∧ tget none (canPort s.dev p).hp h = some r ∧
    (∀ e, e < 4096 → claims s.dev p r e = false)) ∧
    (∃ (s : State) (t p e : Nat) (r : CanRx) (rs : List CanRx), p < 12 ∧
    busesRun s.dev = true ∧ (∀ q, q < 12 → ∀ h, h < 8 → tget none (canPort s.dev q).hp h = none) ∧
    (canPort s.dev p).rx = r :: rs ∧ (List.range 4096).find? (claims s.dev p r) = some e ∧ prm s.dev 0xB105 e = 0 ∧
    0 < prm s.dev 0xB103 e ∧ 0 < prm s.dev 0xB108 e ∧ typeSize (prm s.dev 0xB104 e) ≤ r.data.length) ∧
    (∃ (s : State) (t i : Nat) (src : Endpoint) (b : List Byte), i < 2 ∧
    busesRun s.dev = true ∧ (ethPort s.dev i).link = true ∧ (∀ e, e < 4096 → ¬ (prm s.dev 0xB100 e = 2 ∧
    prm s.dev 0x1322001 e = i ∧ prm s.dev 0xB130 e = src.ip ∧ prm s.dev 0xB131 e = src.port))) ∧
    (∃ (s : State) (t i e : Nat) (src : Endpoint) (b : List Byte), i < 2 ∧
    busesRun s.dev = true ∧ (ethPort s.dev i).link = true ∧
    (List.range 4096).find? (fun e => prm s.dev 0xB100 e = 2 && prm s.dev 0xB101 e = i && prm s.dev 0xB130 e = src.ip && prm s.dev 0xB131 e = src.port) = some e ∧
    field b 1 0 = 0x5A50 ∧ field b 2 2 = 1 ∧ field b 3 3 = 1 ∧ field b 5 4 = 0 ∧ 0 < field b 7 6 ∧
    field b 8 8 = prm s.dev 0xB104 e ∧ field b 11 9 = 0 ∧ 0 < prm s.dev 0xB103 e ∧
    field b 7 6 * typeSize (prm s.dev 0xB104 e) ≤ 1456 ∧
    b.length = 16 + field b 7 6 * typeSize (prm s.dev 0xB104 e)) ∧
    (∃ (s : State) (t e : Nat), e < 4096 ∧ prm s.dev 0xB100 e ≠ 0 ∧ busesRun s.dev = true ∧
    (ptnEnt s.dev e).lost = false ∧ max s.dev.can.startT (ptnEnt s.dev e).lastRx + prm s.dev 0xB107 e * 400000 ≤ t) ∧
    (∃ (s : State) (t e : Nat), sends s.dev e = true ∧ prm s.dev 0xB114 e ≠ 0 ∧
    t % 400000 = 0 ∧ (t / 400000 + prm s.dev 0xB114 e * 60000 - prm s.dev 0xB115 e) % prm s.dev 0xB114 e = 0 ∧
    0 < pagesOf s.dev e (prm s.dev 0xB111 e)) ∧
    (∃ (s : State) (t e : Nat), sends s.dev e = true ∧ prm s.dev 0xB114 e ≠ 0 ∧
    t % 400000 = 0 ∧ (t / 400000 + prm s.dev 0xB114 e * 60000 - prm s.dev 0xB115 e) % prm s.dev 0xB114 e = 0 ∧
    pagesOf s.dev e (prm s.dev 0xB111 e) = 1 ∧ prm s.dev 0xB100 e = 2) ∧
    (∃ (s : State) (t e g : Nat), sends s.dev e = true ∧ prm s.dev 0xB116 e = 1 ∧
    g < pagesOf s.dev e (prm s.dev 0xB111 e) ∧ t % 400000 = 0 ∧
    pageFields s.dev e g ≠ tget [] (ptnEnt s.dev e).sentVals g ∧
    (tget 0 (ptnEnt s.dev e).changeT g = 0 ∨ tget 0 (ptnEnt s.dev e).changeT g + prm s.dev 0xB117 e * 400000 ≤ t)) :=
  ⟨⟨st [
      setPrm 0xB000 11 2, setPrm 0xB001 11 1, modPort 11 (fun x => { x with st := 1 }),
      setPrm 0xB021 88 0x2000000000000005],
  4000000, 11, ⟨5, false, true, false, false, false, [1, 2]⟩, 0, by decide +kernel⟩,
   ⟨st [
      setPrm 0xB000 11 1, modPort 11 (fun x => { x with st := 0 }), setPrm 0xB00C 11 1,
      setPrm 0xB020 5632 0x2000000040000005],
  4000000, 11, ⟨5, false, false, false, false, false, [1, 2]⟩, 0, by decide +kernel⟩,
   ⟨st [modPort 11 (fun x => { x with rx := [⟨0, 5, false, 0, [1]⟩] })], 4000000, 11, ⟨0, 5, false, 0, [1]⟩, [],
  by decide, by decide +kernel, by decide +kernel, by decide +kernel,
  fun e _ => by simp only [claims]; rw [unbound_of_nil _ (by decide +kernel)]; rfl⟩,
   ⟨st [modPort 11 (fun x => { x with hp := [(7, some ⟨0, 5, false, 0, [1]⟩)] })], 4000000, 11, 7, ⟨0, 5, false, 0, [1]⟩,
  by decide, by decide +kernel, by decide, by decide +kernel, by decide +kernel,
  fun e _ => by simp only [claims]; rw [unbound_of_nil _ (by decide +kernel)]; rfl⟩,
   ⟨st [
      modPort 11 (fun x => { x with rx := [⟨0, 5, false, 0, [1]⟩] }), setPrm 0xB100 4095 1, setPrm 0xB101 4095 11,
      setPrm 0xB106 4095 5, setPrm 0xB103 4095 1, setPrm 0xB108 4095 1, setPrm 0xB104 4095 1],
  4000000, 11, 4095, ⟨0, 5, false, 0, [1]⟩, [], by decide +kernel⟩,
   ⟨st [modEth 1 (fun x => { x with link := true })], 4000000, 1, ⟨1, 2⟩, [1],
  by decide, by decide +kernel, by decide +kernel,
  fun e _ h => by rw [unbound_of_nil _ (by decide +kernel)] at h; exact absurd h.1 (by decide)⟩,
   ⟨st [
      modEth 1 (fun x => { x with link := true }), setPrm 0xB100 4095 2, setPrm 0xB101 4095 1, setPrm 0xB130 4095 1,
      setPrm 0xB131 4095 2, setPrm 0xB103 4095 1, setPrm 0xB104 4095 1],
  4000000, 1, 4095, ⟨1, 2⟩, le 2 0x5A50 ++ [1, 1] ++ le 2 0 ++ le 2 1 ++ [1, 0, 0, 0] ++ le 4 0 ++ [9],
  by decide +kernel⟩,
   ⟨st [setPrm 0xB100 4095 1], 400000000000, 4095, by decide +kernel⟩,
   ⟨st [
      setPrm 0xB100 4095 2, setPrm 0xB111 4095 1, setPrm 0xB114 4095 1, setPrm 0xB108 4095 1, setPrm 0xB115 4095 0],
  4000000, 4095, by decide +kernel⟩,
   ⟨st [
      setPrm 0xB100 4095 2, setPrm 0xB111 4095 1, setPrm 0xB114 4095 1, setPrm 0xB108 4095 1, setPrm 0xB115 4095 0],
  4000000, 4095, by decide +kernel⟩,
   ⟨st [setPrm 0xB100 4095 2, setPrm 0xB111 4095 1, setPrm 0xB116 4095 1, setPrm 0xB108 4095 1], 4000000, 4095, 0,
  by decide +kernel⟩⟩

theorem wit_CanPorts :
    (∃ (s : State) (t p : Nat) (f : CanTx), p < 12 ∧ (canPort s.dev p).st < 2 ∧
    locked s.dev 0 = true ∧ nextTx (canPort s.dev p).tx = some f ∧ prm s.dev 0xB000 p ≠ 3 ∧
    listenOnly s.dev p = false) ∧
    (∃ (s : State) (t p e g : Nat) (f : CanTx), p < 12 ∧ (canPort s.dev p).st < 2 ∧
    locked s.dev 0 = true ∧ nextTx (canPort s.dev p).tx = some f ∧ f.ent = some (e, g) ∧ listenOnly s.dev p = false) ∧
    (∃ (s : State) (t p : Nat) (f : CanTx), p < 12 ∧ (canPort s.dev p).st < 2 ∧
    locked s.dev 0 = true ∧ nextTx (canPort s.dev p).tx = some f ∧ prm s.dev 0xB000 p = 3) ∧
    (∃ (s : State) (t p : Nat) (f : CanTx), p < 12 ∧ (canPort s.dev p).st < 2 ∧
    locked s.dev 0 = true ∧ nextTx (canPort s.dev p).tx = some f ∧ listenOnly s.dev p = false ∧ f.cancel = true) ∧
    (∃ (s : State) (t p tec rec lec : Nat), p < 12 ∧ (canPort s.dev p).st < 2 ∧
    busesRun s.dev = true ∧ locked s.dev 0 = true ∧ listenOnly s.dev p = true) ∧
    (∃ (s : State) (t p tec rec lec : Nat), p < 12 ∧ (canPort s.dev p).st < 2 ∧
    busesRun s.dev = true ∧ locked s.dev 0 = true ∧ listenOnly s.dev p = false ∧ prm s.dev 0xB000 p ≠ 3 ∧ tec ≤ 127 ∧
    rec ≤ 127) ∧
    (∃ (s : State) (t p tec rec lec : Nat), p < 12 ∧ (canPort s.dev p).st = 0 ∧
    busesRun s.dev = true ∧ locked s.dev 0 = true ∧ listenOnly s.dev p = false ∧ prm s.dev 0xB000 p ≠ 3 ∧ tec ≤ 255 ∧
    (127 < tec ∨ 127 < rec)) ∧
    (∃ (s : State) (t p tec rec lec : Nat), p < 12 ∧ (canPort s.dev p).st < 2 ∧
    busesRun s.dev = true ∧ locked s.dev 0 = true ∧ listenOnly s.dev p = false ∧ prm s.dev 0xB000 p ≠ 3 ∧ 255 < tec) ∧
    (∃ (s : State) (t p : Nat), p < 12 ∧ (canPort s.dev p).st = 2 ∧
    (canPort s.dev p).recov = false ∧ prm s.dev 0xB00E p = 1 ∧
    (canPort s.dev p).boffT + prm s.dev 0xB00F p * 400000 ≤ t) ∧
    (∃ (s : State) (t cls p : Nat), WriteServed s.dev cls 1 ∧ p < 12 ∧ (canPort s.dev p).st = 2 ∧
    (canPort s.dev p).recov = false) ∧
    (∃ (s : State) (t cls p : Nat), WriteServed s.dev cls 1 ∧ p < 12 ∧
    (canPort s.dev p).st ≠ 2) ∧
    (∃ (s : State) (t p : Nat), p < 12 ∧ (canPort s.dev p).st = 2 ∧
    (canPort s.dev p).recov = true ∧ (canPort s.dev p).recT + 1408 * canBit s.dev p ≤ t) :=
  ⟨⟨st [
      setPrm 0xB000 11 1, modPort 11 (fun x => { x with st := 1, tx := [⟨5, [1], some (4095, 0), false⟩] })],
  4000000, 11, ⟨5, [1], some (4095, 0), false⟩, by decide +kernel⟩,
   ⟨st [
      setPrm 0xB000 11 1, modPort 11 (fun x => { x with st := 1, tx := [⟨5, [1], some (4095, 0), false⟩] })],
  4000000, 11, 4095, 0, ⟨5, [1], some (4095, 0), false⟩, by decide +kernel⟩,
   ⟨st [
      setPrm 0xB000 11 3, modPort 11 (fun x => { x with st := 1, tx := [⟨5, [1], some (4095, 0), false⟩] })],
  4000000, 11, ⟨5, [1], some (4095, 0), false⟩, by decide +kernel⟩,
   ⟨st [
      setPrm 0xB000 11 1, modPort 11 (fun x => { x with st := 1, tx := [⟨5, [1], some (4095, 0), true⟩] })],
  4000000, 11, ⟨5, [1], some (4095, 0), true⟩, by decide +kernel⟩,
   ⟨st [setPrm 0xB000 11 2, modPort 11 (fun x => { x with st := 1 })], 4000000, 11, 127, 127, 1, by decide +kernel⟩,
   ⟨st [setPrm 0xB000 11 1, modPort 11 (fun x => { x with st := 1 })], 4000000, 11, 127, 127, 1, by decide +kernel⟩,
   ⟨st [setPrm 0xB000 11 1, modPort 11 (fun x => { x with st := 0 })], 4000000, 11, 255, 0, 1, by decide +kernel⟩,
   ⟨st [setPrm 0xB000 11 1, modPort 11 (fun x => { x with st := 1 })], 4000000, 11, 256, 0, 1, by decide +kernel⟩,
   ⟨st [setPrm 0xB00E 11 1, modPort 11 (fun x => { x with st := 2 })], 400000000000, 11, by decide +kernel⟩,
   ⟨st [modPort 11 (fun x => { x with st := 2 })], 4000000, 3, 11, by unfold WriteServed; decide +kernel⟩,
   ⟨st [modPort 0 (fun x => { x with st := 0 })], 4000000, 3, 0, by unfold WriteServed; decide +kernel⟩,
   ⟨st [modPort 11 (fun x => { x with st := 2, recov := true })], 4000000, 11, by decide +kernel⟩⟩

theorem wit_LanesAndLinks :
    (∃ (s : State) (t cls k v : Nat), WriteServed s.dev cls 2 ∧ k < 8 ∧ v ≤ 3 ∧
    laneMode s.dev k = 2) ∧
    (∃ (s : State) (t k : Nat) (ok : Bool), k < 8 ∧ laneMode s.dev k = 2 ∧
    lanePll s.dev k = true) ∧
    (∃ (s : State) (t k : Nat), k < 8 ∧ laneMode s.dev k = 2 ∧
    (lane s.dev k).prbsLock = true ∧ s.dev.sys.up = true ∧ (lane s.dev k).prbsSeen = false ∧
    (lane s.dev k).prbsEp ≠ t / 400000 + 1) ∧
    (∃ (s : State) (t i v : Nat) (full : Bool), ethOn s.dev i = true ∧
    (full = true ∨ ethMode s.dev i ≠ 3) ∧ (ethPort s.dev i).link = false ∧ prm s.dev 0xC040 0 ≠ 0 ∧
    prm s.dev 0xC046 i ≠ 0) ∧
    (∃ (s : State) (t i : Nat), i < 2 ∧ (ethPort s.dev i).link = true ∧ s.dev.sys.up = true ∧
    prm s.dev 0xC040 0 ≠ 0 ∧ prm s.dev 0xC046 i ≠ 0) ∧
    (∃ (s : State) (t i : Nat) (fr : EthFrame), i < 2 ∧ (ethPort s.dev i).link = true ∧
    fr.fcsOk = false) ∧
    (∃ (s : State) (t i n ip mac : Nat), i < 2 ∧ (ethPort s.dev i).link = true ∧
    prm s.dev 0xC024 i = 0 ∧ n ≤ 1522) ∧
    (∃ (s : State) (t i ip : Nat), i < 2) ∧
    (∃ (s : State) (t k : Nat) (b : List Byte), 2 ≤ k ∧ k < 8 ∧ laneMode s.dev k = 1 ∧
    lanePll s.dev k = true ∧ busesRun s.dev = true ∧ frameGood b = true ∧
    bits (field b 3 2) 11 0 ≠ prm s.dev 0xC030 0 ∧ k ≠ pndLane s.dev) ∧
    (∃ (s : State) (t k : Nat) (b : List Byte), 2 ≤ k ∧ k < 8 ∧ laneMode s.dev k = 1 ∧
    lanePll s.dev k = true ∧ busesRun s.dev = true ∧ frameGood b = false ∧ (lane s.dev k).badRun = 3 ∧
    (lane s.dev k).link = true) ∧
    (∃ (s : State) (t k u : Nat) (b : List Byte), chainUp s.dev k = true ∧
    bit (field b 0 0) 7 = true ∧ bit (field b 0 0) 3 = false ∧ bits (field b 3 2) 11 0 ≠ prm s.dev 0xC030 0 ∧
    s.dev.chain.seen = [] ∧ s.dev.cask.up = true ∧ (∀ v, v < 4 → (unit s.dev v).cfgWait = []) ∧ u < 4 ∧
    prm s.dev 0xA005 u = bits (field b 0 0) 2 0 ∧ (unit s.dev u).st = 0 ∧ prm s.dev 0xA000 u ≠ 0) ∧
    (∃ (s : State) (t k u : Nat) (b : List Byte), chainUp s.dev k = true ∧
    bit (field b 0 0) 7 = true ∧ bit (field b 0 0) 3 = true ∧ bits (field b 3 2) 11 0 ≠ prm s.dev 0xC030 0 ∧
    s.dev.chain.seen = [] ∧ u < 4 ∧ prm s.dev 0xA005 u = bits (field b 0 0) 2 0 ∧ (unit s.dev u).st = 2 ∧
    (unit s.dev u).fired = false ∧
    prm s.dev 0xA003 u ≤ rowsBefore (unit s.dev u).ring (trigInstant (devAt s t) (field b 11 8) (field b 15 12))) ∧
    (∃ (s : State) (t : Nat) (b : List Byte), mirrors s.dev = true ∧ b.length = 48) ∧
    (∃ (s : State) (t : Nat) (b : List Byte), s.dev.time.valid = true ∧
    s.dev.sys.up = true ∧
    (t * 5 / 2 + 1000000 < field b 7 0 * 256000000 ∨ (field b 7 0 + 1) * 256000000 + 1000000 ≤ t * 5 / 2)) :=
  ⟨⟨st [setPrm 0xC000 7 2], 4000000, 3, 7, 3, by unfold WriteServed; decide +kernel⟩,
   ⟨st [setPrm 0xC000 7 2], 4000000, 7, true, by decide +kernel⟩,
   ⟨st [setPrm 0xC000 7 2, modLane 7 (fun x => { x with prbsLock := true })], 4000000, 7, by decide +kernel⟩,
   ⟨st [setPrm 0xC000 1 1, setPrm 0xC020 1 1, setPrm 0xC040 0 1, setPrm 0xC046 1 1], 4000000, 1, 2, true,
  by decide +kernel⟩,
   ⟨st [modEth 1 (fun x => { x with link := true }), setPrm 0xC040 0 1, setPrm 0xC046 1 1], 4000000, 1,
  by decide +kernel⟩,
   ⟨st [modEth 1 (fun x => { x with link := true })], 4000000, 1, ⟨false, 64, none, .other⟩, by decide +kernel⟩,
   ⟨st [modEth 1 (fun x => { x with link := true }), setPrm 0xC024 1 0], 4000000, 1, 1522, 1, 1, by decide +kernel⟩,
   ⟨st [modEth 1 (fun x => { x with arp := [⟨1, 2, 0⟩] })], 4000000, 1, 1, by decide +kernel⟩,
   ⟨st [setPrm 0xC000 7 1, setPrm 0xC031 0 2], 4000000, 7, frame128 5, by decide +kernel⟩,
   ⟨st [setPrm 0xC000 7 1, modLane 7 (fun x => { x with badRun := 3, link := true })], 4000000, 7, [],
  by decide +kernel⟩,
   ⟨st [
      setPrm 0xC000 7 1, modLane 7 (fun x => { x with link := true }), setPrm 0xA005 3 3, setPrm 0xA000 3 1],
  4000000, 7, 3, [0x83, 0] ++ le 2 5 ++ le 12 0, by decide +kernel⟩,
   ⟨st [
      setPrm 0xC000 7 1, modLane 7 (fun x => { x with link := true }), setPrm 0xA005 3 3, setPrm 0xA003 3 0,
      modUnit 3 (fun x => { x with st := 2 })],
  4000000, 7, 3, [0x8B, 0] ++ le 2 5 ++ le 12 0, by decide +kernel⟩,
   ⟨st [
      fun d => { d with sys := { d.sys with standby := true } },
      fun d => { d with pnd := { d.pnd with formed := true } }],
  4000000, List.replicate 48 1, by decide +kernel⟩,
   ⟨st [fun d => { d with time := { d.time with valid := true } }], 4000000000, le 16 0, by decide +kernel⟩⟩

theorem wit_PtpPorts :
    (∃ (s : State) (t i : Nat) (off : Int), ptpOn s.dev i = true ∧
    ((ptpPort s.dev i).st = 8 ∨ (ptpPort s.dev i).st = 9) ∧ s.dev.mbx.paused = false ∧
    prm s.dev 0xC050 0 < (absI off).toNat ∧ s.dev.sys.st = .ready) ∧
    (∃ (s : State) (t i : Nat) (off : Int), ptpOn s.dev i = true ∧
    ((ptpPort s.dev i).st = 8 ∨ (ptpPort s.dev i).st = 9) ∧ s.dev.mbx.paused = false ∧
    ((absI off).toNat ≤ prm s.dev 0xC050 0 ∨ s.dev.sys.st ≠ .ready) ∧ s.dev.time.holdover = true) ∧
    (∃ (s : State) (t i : Nat) (off : Int), ptpOn s.dev i = true ∧
    ((ptpPort s.dev i).st = 8 ∨ (ptpPort s.dev i).st = 9) ∧ s.dev.mbx.paused = false ∧
    ((absI off).toNat ≤ prm s.dev 0xC050 0 ∨ s.dev.sys.st ≠ .ready) ∧ s.dev.time.holdover = false) ∧
    (∃ (s : State) (t i : Nat) (a : Announce), ptpOn s.dev i = true ∧
    a.domain = prm s.dev 0xC042 0 ∧ (∀ f ∈ (ptpPort s.dev i).foreign, f.ann.sender ≠ a.sender)) ∧
    (∃ (s : State) (t i : Nat), ptpOn s.dev i = true ∧ portBest (devAt s t) i = none) ∧
    (∃ (s : State) (t i delay : Nat), ptpOn s.dev i = true) ∧
    (∃ (s : State) (t i ty : Nat), ptpOn s.dev i = true ∧ s.dev.mbx.paused = false ∧
    (ty = 9 ∨ ty = 11) ∧ maySend s.dev i ty = true) ∧
    (∃ (s : State) (t i j : Nat) (e : TsqEnt), ptpOn s.dev i = true ∧ s.dev.mbx.paused = false ∧
    maySend s.dev i 8 = true ∧ j < 16 ∧ tget none s.dev.time.tsq j = some e ∧ e.port = i ∧ e.stamp.isSome = true ∧
    e.msgType = 0 ∧ (∀ k, k < j → tget none s.dev.time.tsq k = none)) ∧
    (∃ (s : State) (t i ty j : Nat), ptpOn s.dev i = true ∧ s.dev.mbx.paused = false ∧ ty ≤ 3 ∧
    maySend s.dev i ty = true ∧ (List.range 16).find? (fun k => (tget none s.dev.time.tsq k).isNone) = some j) ∧
    (∃ (s : State) (t i ty : Nat), ptpOn s.dev i = true ∧ s.dev.mbx.paused = false ∧ ty ≤ 3 ∧
    maySend s.dev i ty = true ∧ (∀ k, k < 16 → (tget none s.dev.time.tsq k).isSome = true) ∧ s.dev.sys.up = true ∧
    s.dev.time.tsqEp ≠ t / 400000 + 1) ∧
    (∃ (s : State) (t j : Nat) (err : Int) (e : TsqEnt), j < 16 ∧
    tget none s.dev.time.tsq j = some e ∧ e.stamp = none) ∧
    (∃ (s : State) (t j sec ns w : Nat) (e : TsqEnt), tget none s.dev.time.tsq j = some e ∧
    e.stamp = some (sec, ns, w) ∧ w + 40000000 ≤ t ∧ s.dev.sys.up = true ∧ s.dev.time.tsqEp ≠ t / 400000 + 1) :=
  ⟨⟨st [
      setPrm 0xC040 0 1, setPrm 0xC042 0 0, setPrm 0xC046 1 1, modEth 1 (fun x => { x with link := true }),
      modPtp 1 (fun x => { x with st := 8 })],
  4000000, 1, -5000000000, by decide +kernel⟩,
   ⟨st [
      setPrm 0xC040 0 1, setPrm 0xC042 0 0, setPrm 0xC046 1 1, modEth 1 (fun x => { x with link := true }),
      modPtp 1 (fun x => { x with st := 8 }), fun d => { d with time := { d.time with holdover := true } },
      fun d => { d with sys := { d.sys with st := .run } }],
  4000000, 1, 5, by decide +kernel⟩,
   ⟨st [
      setPrm 0xC040 0 1, setPrm 0xC042 0 0, setPrm 0xC046 1 1, modEth 1 (fun x => { x with link := true }),
      modPtp 1 (fun x => { x with st := 9 })],
  4000000, 1, 0, by decide +kernel⟩,
   ⟨st [
      setPrm 0xC040 0 1, setPrm 0xC042 0 0, setPrm 0xC046 1 1, modEth 1 (fun x => { x with link := true }),
      modPtp 1 (fun x => { x with st := 4 })],
  4000000, 1, ⟨0, 1, 6, 0x20, 0, 128, 5, 0, 9⟩, by decide +kernel⟩,
   ⟨st [
      setPrm 0xC040 0 1, setPrm 0xC042 0 0, setPrm 0xC046 1 1, modEth 1 (fun x => { x with link := true }),
      modPtp 1 (fun x => { x with st := 8 })],
  4000000, 1, by decide +kernel⟩,
   ⟨st [
      setPrm 0xC040 0 1, setPrm 0xC042 0 0, setPrm 0xC046 1 1, modEth 1 (fun x => { x with link := true }),
      modPtp 1 (fun x => { x with st := 8 })],
  4000000, 1, 100, by decide +kernel⟩,
   ⟨st [
      setPrm 0xC040 0 1, setPrm 0xC041 0 0, setPrm 0xC042 0 0, setPrm 0xC046 1 1,
      modEth 1 (fun x => { x with link := true }), modPtp 1 (fun x => { x with st := 6 })],
  4000000, 1, 9, by decide +kernel⟩,
   ⟨st [
      setPrm 0xC040 0 1, setPrm 0xC042 0 0, setPrm 0xC046 1 1, modEth 1 (fun x => { x with link := true }),
      modPtp 1 (fun x => { x with st := 6 }),
      fun d => { d with time := { d.time with tsq := [(0, some ⟨1, 0, 0, 9, some (5, 7, 0)⟩)] } }],
  4000000, 1, 0, ⟨1, 0, 0, 9, some (5, 7, 0)⟩, by decide +kernel⟩,
   ⟨st [
      setPrm 0xC040 0 1, setPrm 0xC042 0 0, setPrm 0xC046 1 1, modEth 1 (fun x => { x with link := true }),
      modPtp 1 (fun x => { x with st := 6 })],
  4000000, 1, 0, 0, by decide +kernel⟩,
   ⟨st [
      setPrm 0xC040 0 1, setPrm 0xC042 0 0, setPrm 0xC046 1 1, modEth 1 (fun x => { x with link := true }),
      modPtp 1 (fun x => { x with st := 6 }),
      fun d => { d with time := { d.time with tsq := (List.range 16).map (fun k => (k, some ⟨1, 3, 0, k, none⟩)) } }],
  4000000, 1, 0, by decide +kernel⟩,
   ⟨st [fun d => { d with time := { d.time with tsq := [(15, some ⟨1, 3, 0, 9, none⟩)] } }], 4000000, 15, -9,
  ⟨1, 3, 0, 9, none⟩, by decide +kernel⟩,
   ⟨st [fun d => { d with time := { d.time with tsq := [(15, some ⟨1, 3, 0, 9, some (5, 7, 0)⟩)] } }], 40000000, 15,
  5, 7, 0, ⟨1, 3, 0, 9, some (5, 7, 0)⟩, by decide +kernel⟩⟩

theorem wit_TimeOfDay :
    (∃ (s : State) (t sec : Nat), t % 400000 = 0 ∧ s.dev.sys.st = .ready ∧ s.dev.sys.up = true ∧
    s.dev.time.setPend = some sec) ∧
    (∃ (s : State) (t : Nat) (off : Int), t % 400000 = 0 ∧ s.dev.sys.st = .ready ∧
    s.dev.sys.up = true ∧ s.dev.time.setPend = none ∧ s.dev.time.stepPend = some off) ∧
    (∃ (s : State) (t cls sec : Nat), WriteServed s.dev cls 2 ∧ s.dev.sys.st = .ready ∧
    ptpAny s.dev [9] = false ∧ sec < 2 ^ 63) ∧
    (∃ (s : State) (t : Nat), s.dev.time.holdover = true ∧
    s.dev.time.hoT + prm s.dev 0xC054 0 * 400000000 ≤ t) ∧
    (∃ (s : State) (t k a : Nat), k < 8 ∧ s.dev.sys.up = true ∧ pulseDue (devAt s t) k = some a ∧
    (pulse s.dev k).active = false) ∧
    (∃ (s : State) (t k : Nat), k < 8 ∧ s.dev.sys.up = true ∧ (pulse s.dev k).active = true ∧
    (pulse s.dev k).endNs ≤ t * 5 / 2 + 2) ∧
    (∃ (s : State) (t k : Nat) (falling : Bool), k < 8 ∧ s.dev.sys.up = true ∧
    prm s.dev 0xC070 k = 1 ∧ (prm s.dev 0xC071 k = 2 ∨ prm s.dev 0xC071 k = b01 falling) ∧
    (capt s.dev k).ep ≠ t / 400000 + 1) :=
  ⟨⟨st [fun d => { d with time := { d.time with setPend := some 5 } }], 4000000, 5, by decide +kernel⟩,
   ⟨st [fun d => { d with time := { d.time with stepPend := some 1000 } }], 4000000, 1000, by decide +kernel⟩,
   ⟨st [], 4000000, 3, 9223372036854775807, by unfold WriteServed; decide +kernel⟩,
   ⟨st [fun d => { d with time := { d.time with holdover := true } }], 400000000000000, by decide +kernel⟩,
   ⟨st [setPrm 0xC060 7 1, setPrm 0xC061 7 0, setPrm 0xC062 7 10000000], 4000000, 7, 10000000, by decide +kernel⟩,
   ⟨st [modPulse 7 (fun x => { x with active := true, endNs := 10000002 })], 4000000, 7, by decide +kernel⟩,
   ⟨st [setPrm 0xC070 7 1, setPrm 0xC071 7 1], 4000000, 7, true, by decide +kernel⟩⟩

theorem wit_TimeLatches :
    (∃ (s : State) (t : Nat), s.dev.sys.up = true) ∧
    (∃ (s : State) (t : Nat), s.dev.sys.up = true) :=
  ⟨⟨st [], 4000000, by decide +kernel⟩,
   ⟨st [], 4000000, by decide +kernel⟩⟩

theorem wit_PairForms :
    (∃ (s : State) (t g v a o : Nat), pndLink s.dev = true ∧ s.dev.pnd.offer = 0) ∧
    (∃ (s : State) (t v a : Nat), pndLink s.dev = true ∧ s.dev.pnd.offer = 2 ∧
    s.dev.pnd.formed = false ∧ mirverOk v = true ∧ pairCheck s.dev = true ∧ s.dev.sys.st = .ready ∧
    syncRefusal s.dev = none ∧ s.dev.hold.warned = false) ∧
    (∃ (s : State) (t slot : Nat) (c : Cmd), Admitted s slot 0x0F c ∧ field c.body 0 0 = 1 ∧
    pairStates s.dev = true ∧ s.dev.sys.standby = false ∧ s.dev.pnd.formed = false ∧ s.dev.pnd.hello = none) ∧
    (∃ (s : State) (t slot : Nat) (c : Cmd), Admitted s slot 0x0F c ∧ field c.body 0 0 = 2 ∧
    s.dev.sys.st = .ready ∧ s.dev.sys.standby = false ∧ s.dev.pnd.formed = false ∧ s.dev.pnd.hello = none) ∧
    (∃ (s : State) (t slot : Nat) (c : Cmd), Admitted s slot 0x0F c ∧ field c.body 0 0 = 0 ∧
    s.dev.pnd.swapSlot = none) ∧
    (∃ (s : State) (t : Nat), s.dev.pnd.formed = true ∧ s.dev.pnd.swapSlot = none) ∧
    (∃ (s : State) (t r : Nat) (l : LongCmd), longOf s.dev 0x0F = some l ∧
    s.dev.mbx.long.find? (fun x => x.slot = l.slot) = some l ∧ s.dev.pnd.offer ≠ 0 ∧
    s.dev.pnd.offerT + 4000000000 ≤ t ∧ pairReason (devAt s t) = some r ∧ s.dev.sys.standby = false) ∧
    (∃ (s : State) (t r : Nat) (l : LongCmd), longOf s.dev 0x0F = some l ∧
    s.dev.mbx.long.find? (fun x => x.slot = l.slot) = some l ∧ s.dev.pnd.offer ≠ 0 ∧
    s.dev.pnd.offerT + 4000000000 ≤ t ∧ pairReason (devAt s t) = some r ∧ s.dev.sys.standby = true ∧
    s.dev.sys.st = .sync ∧ s.dev.hold.warned = false ∧ s.dev.gd.estop = false) ∧
    (∃ (s : State) (t r : Nat) (l : LongCmd), longOf s.dev 0x0F = some l ∧
    s.dev.mbx.long.find? (fun x => x.slot = l.slot) = some l ∧ s.dev.pnd.offer ≠ 0 ∧
    s.dev.pnd.offerT + 4000000000 ≤ t ∧ pairReason (devAt s t) = some r ∧ s.dev.sys.standby = true ∧
    s.dev.sys.st ≠ .sync) ∧
    (∃ (s : State) (t : Nat), s.dev.clasp.pwrEn = true ∧ locked s.dev 2 = true ∧
    s.dev.sys.testStop = false ∧ s.dev.boot.hboT + 400 ≤ t) ∧
    (∃ (s : State) (t : Nat), s.dev.pnd.formed = true ∧ s.dev.sys.standby = true ∧
    s.dev.sys.up = true ∧ s.dev.pnd.frameT.getD 0 + 3200 ≤ t ∧ s.dev.pnd.hbiT.getD 0 + 3200 ≤ t ∧
    s.dev.pnd.silentLink = false ∧ takeoverOk s.dev = false) ∧
    (∃ (s : State) (t : Nat), s.dev.pnd.formed = true ∧ s.dev.pnd.frameT.getD 0 + 3200 ≤ t ∧
    s.dev.pnd.hbiT.getD 0 + 3200 ≤ t ∧ s.dev.pnd.silentLink = false ∧ takeoverOk s.dev = true) ∧
    (∃ (s : State) (t : Nat), s.dev.pnd.formed = true ∧ s.dev.sys.standby = true ∧
    s.dev.sys.up = true ∧ s.dev.pnd.hbiT.getD 0 + 3200 ≤ t ∧ t < s.dev.pnd.frameT.getD 0 + 3200 ∧
    s.dev.pnd.silentWire = false) ∧
    (∃ (s : State) (t : Nat), s.dev.pnd.formed = true ∧ s.dev.sys.standby = true ∧
    s.dev.sys.up = true ∧ s.dev.pnd.frameT.getD 0 + 3200 ≤ t ∧ t < s.dev.pnd.hbiT.getD 0 + 3200 ∧
    s.dev.pnd.silentLink = false) :=
  ⟨⟨st [setPrm 0xC031 0 7, setPrm 0xC000 7 1, modLane 7 (fun x => { x with link := true })], 4000000, 5, 1, 1, 0,
  by decide +kernel⟩,
   ⟨st [
      setPrm 0xC031 0 7, setPrm 0xC000 7 1, modLane 7 (fun x => { x with link := true }),
      fun d => { d with pnd := { d.pnd with offer := 2 } },
      fun d => { d with gs := { d.gs with vValid := true, vMag := 1 } }],
  4000000, Config.mirver, 2, by decide +kernel, by decide +kernel, by decide +kernel, by simp [mirverOk],
  by decide +kernel, by decide +kernel, by decide +kernel, by decide +kernel⟩,
   ⟨cmdSt 0x0F 0 [1, 0, 0, 0] [], 4000000, 0, cmdOf 0x0F 0 [1, 0, 0, 0], by unfold Admitted; decide +kernel⟩,
   ⟨cmdSt 0x0F 0 [2, 0, 0, 0] [], 4000000, 0, cmdOf 0x0F 0 [2, 0, 0, 0], by unfold Admitted; decide +kernel⟩,
   ⟨cmdSt 0x0F 0 [0, 0, 0, 0] [], 4000000, 0, cmdOf 0x0F 0 [0, 0, 0, 0], by unfold Admitted; decide +kernel⟩,
   ⟨st [fun d => { d with pnd := { d.pnd with formed := true } }], 4000000, by decide +kernel⟩,
   ⟨st [
      fun d => { d with pnd := { d.pnd with offer := 1 } },
      fun d => { d with mbx := { d.mbx with long := [⟨0, 0x0F, 1, 2, []⟩] } }],
  4000000000, 1, ⟨0, 0x0F, 1, 2, []⟩, by decide +kernel⟩,
   ⟨st [
      fun d => { d with pnd := { d.pnd with offer := 2 } },
      fun d => { d with mbx := { d.mbx with long := [⟨0, 0x0F, 1, 2, []⟩] } },
      fun d => { d with sys := { d.sys with standby := true, st := .sync } }],
  4000000000, 1, ⟨0, 0x0F, 1, 2, []⟩, by decide +kernel⟩,
   ⟨st [
      fun d => { d with pnd := { d.pnd with offer := 2 } },
      fun d => { d with mbx := { d.mbx with long := [⟨0, 0x0F, 1, 2, []⟩] } },
      fun d => { d with sys := { d.sys with standby := true, st := .trip } }],
  4000000000, 1, ⟨0, 0x0F, 1, 2, []⟩, by decide +kernel⟩,
   ⟨st [], 4000000, by decide +kernel⟩,
   ⟨st [
      fun d => { d with pnd := { d.pnd with formed := true } },
      fun d => { d with sys := { d.sys with standby := true } }],
  4000000, by decide +kernel⟩,
   ⟨st [
      fun d => { d with sys := { d.sys with standby := true, st := .sync } },
      fun d => { d with pnd := { d.pnd with formed := true, synced := true, mirror := .run } }, setPrm 0xD004 0 1,
      setPrm 0xE100 0 0],
  4000000, by decide +kernel⟩,
   ⟨st [
      fun d => { d with pnd := { d.pnd with formed := true, frameT := some 4000000 } },
      fun d => { d with sys := { d.sys with standby := true } }],
  4000000, by decide +kernel⟩,
   ⟨st [
      fun d => { d with pnd := { d.pnd with formed := true, hbiT := some 4000000 } },
      fun d => { d with sys := { d.sys with standby := true } }],
  4000000, by decide +kernel⟩⟩

theorem wit_PairDrives :
    (∃ (s : State) (t : Nat), takeoverOk s.dev = true ∧ s.dev.sys.up = true ∧
    takeoverDue (devAt s t) = true) ∧
    (∃ (s : State) (t : Nat), takeoverDue (devAt s t) = false) ∧
    (∃ (s : State) (t : Nat), takeoverOk s.dev = true ∧ takeoverDue (devAt s t) = true ∧
    (∀ n, n < 48 → inSvc s.dev n = true → guardHold s.dev n = false ∧ (leg s.dev n).dfltLat = false ∧ (leg s.dev n).duvLat = false)) ∧
    (∃ (s : State) (t slot : Nat) (c : Cmd), Admitted s slot 0x0F c ∧ field c.body 0 0 = 3 ∧
    swapOk s.dev = true ∧ s.dev.sys.st = .run) ∧
    (∃ (s : State) (t ms : Nat), s.dev.sys.standby = true ∧ s.dev.pnd.formed = true) ∧
    (∃ (s : State) (ms : Nat), s.dev.pnd.swapMs = some ms ∧ s.dev.sys.standby = true ∧
    s.dev.pnd.synced = true ∧ s.dev.pnd.mirror = .run ∧ s.dev.hold.warned = false ∧ s.dev.sys.up = true) ∧
    (∃ (s : State) (ms : Nat), s.dev.pnd.swapMs = some ms ∧ s.dev.sys.standby = false ∧
    s.dev.sys.st = .run ∧ s.dev.pnd.peerSynced = true ∧ s.dev.setr.intent = none ∧ s.dev.hold.warned = false ∧
    s.dev.sys.up = true ∧ s.dev.pnd.swapFw = false) ∧
    (∃ (s : State) (t cls v : Nat), 2 ≤ cls ∧ (v ≤ 167 ∨ (0x100 ≤ v ∧ v ≤ 0x102)) ∧
    mirrors s.dev = true ∧ s.dev.pnd.synced = true) ∧
    (∃ (s : State) (t cls v : Nat), 2 ≤ cls ∧ (v ≤ 167 ∨ (0x100 ≤ v ∧ v ≤ 0x102)) ∧
    (mirrors s.dev = false ∨ s.dev.pnd.synced = false)) ∧
    (∃ (s : State) (t sel sec : Nat), s.dev.pnd.role = 1 ∧ s.dev.pnd.formed = true) ∧
    (∃ (s : State) (t v : Nat), s.dev.pnd.xcal = some v ∧ s.dev.pnd.xcalRun = false ∧
    s.dev.pnd.xcalSec ≤ t * 5 / 2 / 1000000000) ∧
    (∃ (s : State) (t : Nat) (phi : Int), t < s.dev.pnd.xcalEnd) ∧
    (∃ (s : State) (t v : Nat) (phi : Int), s.dev.pnd.xcal = some v ∧
    s.dev.pnd.xcalRun = true ∧ s.dev.pnd.xcalEnd ≤ t ∧ mirrors s.dev = false) ∧
    (∃ (s : State) (t v : Nat) (phi : Int), s.dev.pnd.xcal = some v ∧
    s.dev.pnd.xcalRun = true ∧ s.dev.pnd.xcalEnd ≤ t ∧ mirrors s.dev = true ∧ s.dev.pnd.xcalStats = none) :=
  ⟨⟨st [
      fun d => { d with sys := { d.sys with standby := true, st := .sync } },
      fun d => { d with pnd := { d.pnd with formed := true, synced := true, mirror := .run } }, setPrm 0xD004 0 1,
      setPrm 0xE100 0 0, fun d => { d with pnd := { d.pnd with peerFault := true, takeT := some 3999999 } }],
  4000000, by decide +kernel⟩,
   ⟨st [
      fun d => { d with sys := { d.sys with standby := true, st := .sync } },
      fun d => { d with pnd := { d.pnd with formed := true, synced := true, mirror := .run, peerFault := true, takeT := some 4000000 } }],
  4000000, by decide +kernel⟩,
   ⟨st [
      fun d => { d with sys := { d.sys with standby := true, st := .sync } },
      fun d => { d with pnd := { d.pnd with formed := true, synced := true, mirror := .run } }, setPrm 0xD004 0 1,
      setPrm 0xE100 0 0, fun d => { d with pnd := { d.pnd with peerFault := true, takeT := some 3999999 } }],
  4000000, by decide +kernel⟩,
   ⟨cmdSt 0x0F 0 [3, 0, 0, 0] [
      fun d => { d with sys := { d.sys with st := .run } },
      fun d => { d with pnd := { d.pnd with role := 1, formed := true, peerSynced := true } }],
  4000000, 0, cmdOf 0x0F 0 [3, 0, 0, 0], by unfold Admitted; decide +kernel⟩,
   ⟨st [
      fun d => { d with pnd := { d.pnd with formed := true } },
      fun d => { d with sys := { d.sys with standby := true } }],
  4000000, 10, by decide +kernel⟩,
   ⟨st [
      fun d => { d with pnd := { d.pnd with swapMs := some 10, synced := true, mirror := .run } },
      fun d => { d with sys := { d.sys with standby := true, st := .sync } }],
  10, by decide +kernel⟩,
   ⟨st [
      fun d => { d with pnd := { d.pnd with swapMs := some 10, peerSynced := true } },
      fun d => { d with sys := { d.sys with st := .run } }],
  10, by decide +kernel⟩,
   ⟨st [
      fun d => { d with pnd := { d.pnd with formed := true, synced := true } },
      fun d => { d with sys := { d.sys with standby := true } }],
  4000000, 3, 0x102, by decide +kernel⟩,
   ⟨st [], 4000000, 3, 167, by decide +kernel⟩,
   ⟨st [fun d => { d with pnd := { d.pnd with role := 1, formed := true } }], 4000000, 4, 5, by decide +kernel⟩,
   ⟨st [fun d => { d with pnd := { d.pnd with xcal := some 4, xcalSec := 0 } }], 4000000, 4, by decide +kernel⟩,
   ⟨st [fun d => { d with pnd := { d.pnd with xcal := some 4, xcalRun := true, xcalEnd := 4000001 } }], 4000000, 0,
  by decide +kernel⟩,
   ⟨st [fun d => { d with pnd := { d.pnd with xcal := some 4, xcalRun := true } }], 4000000, 4, 0, by decide +kernel⟩,
   ⟨st [
      fun d => { d with pnd := { d.pnd with xcal := some 4, xcalRun := true, formed := true } },
      fun d => { d with sys := { d.sys with standby := true } }],
  4000000, 4, 0, by decide +kernel⟩⟩

theorem wit_MirrorRecords :
    (∃ (s : State) (t c sq o : Nat) (xs : List IntPair), mirrors s.dev = true ∧ sq < 16 ∧
    c < 128 ∧ casOn s.dev c = true ∧ (cas s.dev c).out.origin % 65536 = o) ∧
    (∃ (s : State) (t n h : Nat) (insvc : Bool), mirrors s.dev = true ∧ n < 48) ∧
    (∃ (s : State) (t n h : Nat) (insvc : Bool), mirrors s.dev = true ∧ n < 48) ∧
    (∃ (s : State) (t : Nat) (r : EpochRecord), mirrors s.dev = true) ∧
    (∃ (s : State) (t m : Nat) (xs : List NatPair), mirrors s.dev = true ∧ m < 33) ∧
    (∃ (s : State) (t i v : Nat) (b : List Byte) (x : Desc), mirrors s.dev = true ∧
    descOf (field b 1 0) = some x ∧ recKind x = 0 ∧ notMirrored (field b 1 0) = false ∧ field b 1 0 ≠ 0x3132 ∧
    field b 1 0 ≠ 0x0052 ∧ field b 1 0 ≠ 0x4010 ∧ field b 7 6 = x.vsize ∧ field b 3 2 + field b 5 4 ≤ x.n ∧
    recordVals x b = [(i, v)]) ∧
    (∃ (s : State) (t k : Nat) (b : List Byte) (x : Desc), descOf (field b 1 0) = some x ∧
    x.n < field b 3 2 + field b 5 4) ∧
    (∃ (s : State) (t : Nat) (c : SnapChunk), chunkOk c = false) ∧
    (∃ (s : State) (t g ms : Nat), mirrors s.dev = true) ∧
    (∃ (s : State) (t : Nat) (c : SnapChunk), mirrors s.dev = true ∧ chunkOk c = true ∧
    c.total ≤ c.offset + c.len) ∧
    (∃ (s : State) (t : Nat) (c : SnapChunk), mirrors s.dev = true ∧ chunkOk c = true ∧
    c.offset + c.len < c.total) ∧
    (∃ (s : State) (t sel : Nat) (mean rms : Rat), mirrors s.dev = true ∧
    s.dev.pnd.xcal = some sel ∧ s.dev.pnd.xcalObs = none) ∧
    (∃ (s : State) (t sel : Nat) (o : XcalObs), mirrors s.dev = true ∧
    s.dev.pnd.xcal = some sel ∧ s.dev.pnd.xcalObs = some o) ∧
    (∃ (s : State) (t c sq o n h : Nat) (xs : List IntPair) (insvc peak : Bool) (r : EpochRecord) (k : Nat) (ys : List NatPair) (b : List Byte) (kind g ms sel : Nat) (ch : SnapChunk) (m v : Rat),
    mirrors s.dev = false) :=
  ⟨⟨st [
      fun d => { d with pnd := { d.pnd with formed := true } },
      fun d => { d with sys := { d.sys with standby := true } }, setPrm 0x2010 127 1],
  4000000, 127, 15, 0, [⟨1, -1⟩], by decide +kernel⟩,
   ⟨st [
      fun d => { d with pnd := { d.pnd with formed := true } },
      fun d => { d with sys := { d.sys with standby := true } }],
  4000000, 47, 100, true, by decide +kernel⟩,
   ⟨st [
      fun d => { d with pnd := { d.pnd with formed := true } },
      fun d => { d with sys := { d.sys with standby := true } }],
  4000000, 0, 100, true, by decide +kernel⟩,
   ⟨st [
      fun d => { d with pnd := { d.pnd with formed := true } },
      fun d => { d with sys := { d.sys with standby := true } }],
  4000000, epoch1, by decide +kernel⟩,
   ⟨st [
      fun d => { d with pnd := { d.pnd with formed := true } },
      fun d => { d with sys := { d.sys with standby := true } }],
  4000000, 32, [⟨1, 5⟩], by decide +kernel⟩,
   ⟨st [
      fun d => { d with pnd := { d.pnd with formed := true } },
      fun d => { d with sys := { d.sys with standby := true } }],
  4000000, 47, 2, le 2 0x3100 ++ le 2 47 ++ le 2 1 ++ le 2 4 ++ le 4 2, (descOf 0x3100).getD wDesc,
  by decide +kernel⟩,
   ⟨st [
      fun d => { d with pnd := { d.pnd with formed := true } },
      fun d => { d with sys := { d.sys with standby := true } }],
  4000000, 0, le 2 0x3100 ++ le 2 47 ++ le 2 2 ++ le 2 4 ++ le 4 2 ++ le 4 2, (descOf 0x3100).getD wDesc,
  by decide +kernel⟩,
   ⟨st [
      fun d => { d with pnd := { d.pnd with formed := true } },
      fun d => { d with sys := { d.sys with standby := true } }],
  4000000, ⟨0, 8, 8, [⟨0x3100, 48, 2⟩], [], []⟩, by decide +kernel⟩,
   ⟨st [
      fun d => { d with pnd := { d.pnd with formed := true } },
      fun d => { d with sys := { d.sys with standby := true } }],
  4000000, 4, 10, by decide +kernel⟩,
   ⟨st [
      fun d => { d with pnd := { d.pnd with formed := true } },
      fun d => { d with sys := { d.sys with standby := true } }],
  4000000, ⟨0, 8, 8, [⟨0x3100, 47, 2⟩], [], []⟩, by decide +kernel⟩,
   ⟨st [
      fun d => { d with pnd := { d.pnd with formed := true } },
      fun d => { d with sys := { d.sys with standby := true } }],
  4000000, ⟨0, 4, 8, [⟨0x3100, 47, 2⟩], [], []⟩, by decide +kernel⟩,
   ⟨st [
      fun d => { d with pnd := { d.pnd with formed := true } },
      fun d => { d with sys := { d.sys with standby := true } },
      fun d => { d with pnd := { d.pnd with xcal := some 4 } }],
  4000000, 4, 100, 70, by decide +kernel⟩,
   ⟨st [
      fun d => { d with pnd := { d.pnd with formed := true } },
      fun d => { d with sys := { d.sys with standby := true } },
      fun d => { d with pnd := { d.pnd with xcal := some 4, xcalObs := some ⟨100, 70, 0, false⟩ } }],
  4000000, 4, ⟨100, 70, 0, false⟩, by decide +kernel⟩,
   ⟨st [], 4000000, 127, 15, 0, 47, 1, [], true, true, epoch1, 3, [], [], 0, 3, 10, 4, ⟨0, 8, 8, [], [], []⟩, 32, 0,
  by decide +kernel⟩⟩

theorem wit_PvTracking :
    (∃ (s : State) (t q a : Nat), q < pvCount s.dev ∧ (pvIn s.dev q).mode = 1 ∧
    (pvIn s.dev q).startSince = some a ∧ a + prm s.dev 0x7031 0 * 400000000 ≤ t) ∧
    (∃ (s : State) (t q a : Nat), q < pvCount s.dev ∧
    ((pvIn s.dev q).mode = 2 ∨ (pvIn s.dev q).mode = 3) ∧ (pvIn s.dev q).stopSince = some a ∧
    a + prm s.dev 0x7033 0 * 400000000 ≤ t) ∧
    (∃ (s : State) (t q : Nat), q < pvCount s.dev ∧
    ((pvIn s.dev q).mode = 2 ∨ (pvIn s.dev q).mode = 3) ∧ sweeping s.dev q = false ∧
    prm s.dev 0x7003 0 ≤ (pvIn s.dev q).epochs ∧ t % 400000 = 0 ∧
    none ∈ (pvIn s.dev q).ps.take (prm s.dev 0x7003 0)) ∧
    (∃ (s : State) (t q : Nat) (w a m b : List Rat), q < pvCount s.dev ∧
    (pvIn s.dev q).mode = 2 ∧ sweeping s.dev q = false ∧ prm s.dev 0x7003 0 ≤ (pvIn s.dev q).epochs ∧ t % 400000 = 0 ∧
    ((pvIn s.dev q).ps.take (prm s.dev 0x7003 0)).reverse = (w ++ a ++ m ++ b).map some ∧
    w.length = prm s.dev 0x7004 0 ∧ a.length = b.length ∧ m.length ≤ 1 ∧ a ≠ [] ∧
    meanRat (a ++ b) ≤ (pvIn s.dev q).ceil) ∧
    (∃ (s : State) (t q a : Nat), q < pvCount s.dev ∧ pvTracks s.dev q = true ∧
    (pvIn s.dev q).ratioSince = some a ∧ a + prm s.dev 0x7024 0 * 400000000 ≤ t ∧ s.dev.sys.up = true) ∧
    (∃ (s : State) (t q a : Nat), q < pvCount s.dev ∧ pvTracks s.dev q = true ∧
    (pvIn s.dev q).yieldSince = some a ∧ a + prm s.dev 0x7024 0 * 400000000 ≤ t ∧ s.dev.sys.up = true) ∧
    (∃ (s : State) (t q : Nat), SweepFree s.dev q t ∧ sweepDue (devAt s t) q = true) ∧
    (∃ (s : State) (t q : Nat), SweepFree s.dev q t ∧ prm s.dev 0x7015 0 = 1 ∧
    pvTracks s.dev q = true ∧ (pvIn s.dev q).startDone = false ∧ (pvIn s.dev q).trackT + 4000000000 ≤ t) ∧
    (∃ (s : State) (t q a : Nat), SweepFree s.dev q t ∧ (pvIn s.dev q).lastEnd = some a ∧
    (pvIn s.dev q).retry = true) ∧
    (∃ (s : State) (t cls q : Nat), WriteServed s.dev cls 1 ∧ q < 16 ∧ SweepFree s.dev q t) ∧
    (∃ (s : State) (t cls q v : Nat), WriteServed s.dev cls 1 ∧ q < 16 ∧ v ≤ 1000) ∧
    (∃ (s : State) (t q : Nat), q < pvCount s.dev ∧ sweepMayStart (devAt s t) q = true) ∧
    (∃ (s : State) (t q a : Nat), (q, a) ∈ s.dev.pv.queue ∧
    a + prm s.dev 0x7012 0 * 400000000 ≤ t ∧ s.dev.sys.up = true) ∧
    (∃ (s : State) (t : Nat), t % 400000 = 0 ∧ s.dev.pv.sweepPh = 2 ∧
    s.dev.pv.reachAt + prm s.dev 0x7004 0 * 400000 ≤ t ∧ prm s.dev 0x7002 0 < 4) ∧
    (∃ (s : State) (t : Nat), t % 400000 = 0 ∧ s.dev.pv.sweepPh = 3 ∧
    s.dev.pv.riseT + 16000000 ≤ t ∧ s.dev.pv.others = none) ∧
    (∃ (s : State) (t : Nat), s.dev.pv.sweepPh = 4 ∧ s.dev.pv.extT < t ∧ s.dev.sys.up = true ∧
    s.dev.pv.sweepQ < 16) ∧
    (∃ (s : State) (t : Nat), t % 400000 = 0 ∧ s.dev.pv.sweepPh = 5 ∧
    (pvIn s.dev s.dev.pv.sweepQ).vNext = none ∧ s.dev.pv.reachAt + prm s.dev 0x7004 0 * 400000 ≤ t) :=
  ⟨⟨st [setPrm 0x7001 0 1, modPv 0 (fun x => { x with mode := 1, startSince := some 0 })], 400000000000, 0, 0,
  by decide +kernel⟩,
   ⟨st [setPrm 0x7001 0 1, modPv 0 (fun x => { x with mode := 3, stopSince := some 0 })], 400000000000, 0, 0,
  by decide +kernel⟩,
   ⟨st [
      setPrm 0x7001 0 1, setPrm 0x7003 0 4, setPrm 0x7004 0 1,
      modPv 0 (fun x => { x with mode := 2, epochs := 4, ps := [some 1, some 1, some 1, none] })],
  4000000, 0, by decide +kernel⟩,
   ⟨st [
      setPrm 0x7001 0 1, setPrm 0x7003 0 4, setPrm 0x7004 0 1,
      modPv 0 (fun x => { x with mode := 2, epochs := 4, ps := [some 3, some 2, some 1, some 9], ceil := 100 })],
  4000000, 0, [9], [1], [2], [3], by decide +kernel⟩,
   ⟨st [setPrm 0x7001 0 1, modPv 0 (fun x => { x with mode := 4, ratioSince := some 0 })], 400000000000, 0, 0,
  by decide +kernel⟩,
   ⟨st [setPrm 0x7001 0 1, modPv 0 (fun x => { x with mode := 3, yieldSince := some 0 })], 400000000000, 0, 0,
  by decide +kernel⟩,
   ⟨st [setPrm 0x7001 0 1, setPrm 0x7010 0 1], 24000000000, 0, by unfold SweepFree; decide +kernel⟩,
   ⟨st [setPrm 0x7001 0 16, setPrm 0x7015 0 1, modPv 15 (fun x => { x with mode := 2 })], 4000000000, 15,
  by unfold SweepFree; decide +kernel⟩,
   ⟨st [setPrm 0x7001 0 16, modPv 15 (fun x => { x with lastEnd := some 0, retry := true })], 400000000000, 15, 0,
  by unfold SweepFree; decide +kernel⟩,
   ⟨st [setPrm 0x7001 0 16], 4000000, 3, 15, by unfold WriteServed SweepFree; decide +kernel⟩,
   ⟨st [], 4000000, 3, 15, 1000, by unfold WriteServed; decide +kernel⟩,
   ⟨st [
      setPrm 0x7001 0 1, setPrm 0x5050 0 1, setPrm 0x7002 0 3, setPrm 0x7106 0 1, setPrm 0x8011 0 0,
      fun d => { d with sys := { d.sys with st := .run } }, modPv 0 (fun x => { x with mode := 2, pBar := some 0 }),
      fun d => { d with pv := { d.pv with queue := [(0, 0)] } },
      fun d => { d with setr := { d.setr with hDis := 10, hCh := 1000 } }],
  4000000, 0, by decide +kernel⟩,
   ⟨st [setPrm 0x7001 0 1, fun d => { d with pv := { d.pv with queue := [(0, 0)] } }], 400000000000, 0, 0,
  by decide +kernel⟩,
   ⟨st [setPrm 0x7004 0 1, setPrm 0x7002 0 3, fun d => { d with pv := { d.pv with sweepPh := 2 } }], 4000000,
  by decide +kernel⟩,
   ⟨st [fun d => { d with pv := { d.pv with sweepPh := 3 } }], 16000000, by decide +kernel⟩,
   ⟨st [
      setPrm 0x7001 0 1, fun d => { d with pv := { d.pv with sweepPh := 4, sweepQ := 0, rec_ := [(1, 1), (2, 1)] } }],
  4000000, by decide +kernel⟩,
   ⟨st [setPrm 0x7004 0 1, fun d => { d with pv := { d.pv with sweepPh := 5 } }], 4000000, by decide +kernel⟩⟩

theorem wit_Placements :
    (∃ (s : State) (t : Nat) (r : SetRec), t % 400000 = 0 ∧ s.dev.sys.up = true ∧
    s.dev.sys.standby = false ∧
    (if s.dev.time.valid then t / 400000 else t / 400000 - s.dev.setr.cycleMs) % cycleLen s.dev = 0 ∧
    s.dev.setr.intent = some r) ∧
    (∃ (s : State) (t : Nat), t % 400000 = 0 ∧ s.dev.sys.up = true ∧ s.dev.sys.standby = false ∧
    (if s.dev.time.valid then t / 400000 else t / 400000 - s.dev.setr.cycleMs) % cycleLen s.dev = 0 ∧
    s.dev.setr.intent = none) ∧
    (∃ (s : State) (t : Nat) (r : SetRec), s.dev.setr.intent = some r ∧ r.landMs ≤ t / 400000 ∧
    s.dev.setr.unplanned = false ∧ s.dev.pv.sweepPh = 0 ∧ (frozen s.dev = true → s.dev.setr.frozen = true)) ∧
    (∃ (s : State) (t : Nat) (r : SetRec), s.dev.setr.intent = some r ∧ r.landMs ≤ t / 400000 ∧
    s.dev.setr.unplanned = true ∧ r.typ = 1 ∧ (frozen s.dev = true → s.dev.setr.frozen = true)) ∧
    (∃ (s : State) (t : Nat), s.dev.setr.unplanned = true ∧ s.dev.sys.up = true ∧
    s.dev.sys.standby = false) ∧
    (∃ (s : State) (t : Nat), prm s.dev 0x8006 0 ≠ 0 ∧
    s.dev.setr.rotT + prm s.dev 0x8006 0 * 24000000000 ≤ t) ∧
    (∃ (s : State) (t : Nat), t < s.dev.setr.rotT + prm s.dev 0x8006 0 * 24000000000) ∧
    (∃ (s : State) (t : Nat), t < s.dev.setr.stressT + 240000000000) ∧
    (∃ (s : State) (t : Nat), s.dev.setr.stressT + 240000000000 ≤ t) ∧
    (∃ (s : State) (t k : Nat), k < strCount s.dev ∧ (str s.dev k).lost = false ∧
    (∀ a, rackAge (devAt s t) k = some a → prm s.dev 0x8013 0 * 1000000 + prm s.dev 0x8014 0 * 1000000000 ≤ a)) :=
  ⟨⟨st [fun d => { d with setr := { d.setr with intent := some intent1 } }], 8000000, intent1, by decide +kernel⟩,
   ⟨st [], 8000000, by decide +kernel⟩,
   ⟨st [fun d => { d with setr := { d.setr with intent := some intent1 } }], 4000000, intent1, by decide +kernel⟩,
   ⟨st [fun d => { d with setr := { d.setr with intent := some intent1, unplanned := true } }], 4000000, intent1,
  by decide +kernel⟩,
   ⟨st [fun d => { d with setr := { d.setr with unplanned := true } }], 4000000, by decide +kernel⟩,
   ⟨st [setPrm 0x8006 0 1], 24000000000, by decide +kernel⟩,
   ⟨st [setPrm 0x8006 0 1], 4000000, by decide +kernel⟩,
   ⟨st [modLeg 47 (fun x => { x with stress := 5 })], 4000000, by decide +kernel⟩,
   ⟨st [modLeg 47 (fun x => { x with stress := 5 })], 240000000000, by decide +kernel⟩,
   ⟨st [setPrm 0x8011 0 16, setPrm 0x8013 0 0, setPrm 0x8014 0 0], 400000000000000, 15, by decide +kernel⟩⟩
end Sys2Proof.Tests
end

section
/-!
PROOF. Results and cascade outputs as points of a PTREAD (R38, R85): the rule of an admitted quick command, what PTREAD
answers, and what the points of the inputs, the diagnostic positions and the cascades hold.
-/
namespace Sys2Proof.Safety

open Sys2Proof.Machine

/-! ### Admitted commands -/

/-- The checks that admit a command do not read the tick, so they hold at the command's tick too. -/
theorem runCmd_of_admitted {s : State} {slot op : Nat} {c : Cmd} (ha : Admitted s slot op c) (t : Nat)
    (f : Cmd → Dev → Dev) : runCmd s.hostMem slot op f (devAt s t) = f c (devAt s t) := by
  obtain ⟨rfl, hhead, hrec, hlong⟩ := ha
  exact runCmd_of_isHead (d := devAt s t) hhead hrec hlong f

/-- An admitted command runs its body at its tick: what `runs_lift` is for a command that acts on the device alone. -/
theorem runs_liftCmd {i : Instr} {t slot op : Nat} {s : State} {f : Cmd → Dev → Dev} {c : Cmd} {ps : List Part}
    {post : Dev → Prop} (he : exec i s = liftCmd t slot op f s) (ha : Admitted s slot op c)
    (hk : Keeps ps (devAt s t) (f c (devAt s t))) (ht : Part.t ∉ ps) (hp : post (f c (devAt s t))) :
    Runs i t s ps post := by
  rw [← runCmd_of_admitted ha t f] at hk hp
  exact runs_lift he hk ht hp

/-- A quick command that ends with OK raises no event: it completes and leaves the ring order. -/
theorem finish_ok (c : Cmd) (resp : List Byte) (d : Dev) :
    finish c 0 0 resp d = complete ⟨c.slot, c.tag, c.op, 0, 0, resp, tMs d⟩ (popRung d) := by
  simp [finish]

theorem completed_finish_ok (s : State) (c : Cmd) (t : Nat) (resp : List Byte) :
    Completed s c t 0 0 resp (finish c 0 0 resp (devAt s t)) := by
  rw [finish_ok]
  exact ⟨rfl, rfl⟩

/-! ### PTREAD -/

/-- A PTREAD of points that exist answers their slots, up to the last point (R364). -/
theorem ptRead_ok {c : Cmd} (hfirst : field c.body 3 0 < 2 ^ 23) (hpos : 1 ≤ field c.body 5 4)
    (hmax : field c.body 5 4 ≤ 15) (d : Dev) :
    ptRead c d = finish c 0 0 ((List.range (min (field c.body 5 4) (2 ^ 23 - field c.body 3 0))).flatMap
      (fun i => pointBytes (readPoint d (field c.body 3 0 + i)))) d := by
  have hcount : ¬ (field c.body 5 4 = 0 ∨ 15 < field c.body 5 4) := by omega
  simp only [ptRead, if_neg (Nat.not_le.mpr hfirst), if_neg hcount]

theorem ptRead_one {c : Cmd} {p : Nat} (hfirst : field c.body 3 0 = p) (hp : p < 2 ^ 23) (hone : field c.body 5 4 = 1)
    (d : Dev) : ptRead c d = finish c 0 0 (pointBytes (readPoint d p)) d := by
  have hmin : min 1 (2 ^ 23 - p) = 1 := by omega
  rw [ptRead_ok (by omega) (by omega) (by omega), hone, hfirst, hmin]
  simp

/-- A PTREAD of one point answers the point's slot, which holds the point's value. -/
theorem runs_ptread_one {s : State} {t slot p v : Nat} {c : Cmd} (ha : Admitted s slot 0x05 c)
    (hfirst : field c.body 3 0 = p) (hp : p < 2 ^ 23) (hone : field c.body 5 4 = 1)
    (hv : (readPoint (devAt s t) p).value = v) :
    Runs (.ptread t slot) t s (.mbx :: evParts) (fun d =>
      Completed s c t 0 0 (pointBytes (readPoint (devAt s t) p)) d ∧ (readPoint (devAt s t) p).value = v) := by
  have hread := ptRead_one hfirst hp hone (devAt s t)
  refine runs_liftCmd (f := ptRead) rfl ha ?_ (by decide) ?_
  · rw [hread]
    exact finish_keeps c 0 0 _ _
  · rw [hread]
    exact ⟨completed_finish_ok s c t _, hv⟩

/-! ### The points of the results and the cascades -/

/-- Point 0x10000 + i holds the word pair of AIN i (R38). -/
theorem readPoint_ain_value (d : Dev) {i : Nat} (hi : i < 168) :
    (readPoint d (0x10000 + i)).value = resPair (ain d i).res := by
  have hlow : ¬ 0x10000 + i < 0x10000 := by omega
  have hdev : 0x10000 + i < 0x100000 := by omega
  have hain : 0x10000 + i < 0x100A8 := by omega
  simp only [readPoint, if_neg hlow, if_pos hdev, if_pos hain, Nat.add_sub_cancel_left]

/-- Point 0x10100 + k holds the word pair of the k-th diagnostic position, two to a Facet (R38). -/
theorem readPoint_diag_value (d : Dev) {k : Nat} (hk : k < 26) :
    (readPoint d (0x10100 + k)).value = resPair (tget {} d.acq.diag k) := by
  have hlow : ¬ 0x10100 + k < 0x10000 := by omega
  have hdev : 0x10100 + k < 0x100000 := by omega
  have hain : ¬ 0x10100 + k < 0x100A8 := by omega
  have hdiag : 0x10100 ≤ 0x10100 + k ∧ 0x10100 + k < 0x1011A := by omega
  simp only [readPoint, if_neg hlow, if_pos hdev, if_neg hain, if_pos hdiag, Nat.add_sub_cancel_left]

/-- Point 0x20000 + k holds the word pair of the output of cascade k (R85). -/
theorem readPoint_cas_value (d : Dev) {k : Nat} (hk : k < 128) :
    (readPoint d (0x20000 + k)).value = casPair (cas d k).out := by
  have hlow : ¬ 0x20000 + k < 0x10000 := by omega
  have hdev : 0x20000 + k < 0x100000 := by omega
  have hain : ¬ 0x20000 + k < 0x100A8 := by omega
  have hdiag : ¬ (0x10100 ≤ 0x20000 + k ∧ 0x20000 + k < 0x1011A) := by omega
  have hcas : 0x20000 ≤ 0x20000 + k ∧ 0x20000 + k < 0x20080 := by omega
  simp only [readPoint, if_neg hlow, if_pos hdev, if_neg hain, if_neg hdiag, if_pos hcas, Nat.add_sub_cancel_left]

/-- Settles O45: PTREAD answers the slot of its one point, and the point lies in the range of the inputs, the diagnostic
positions or the cascades. -/
theorem pointPairs : Obligations.PointPairs := by
  unfold Obligations.PointPairs
  refine ⟨?ain, ?diag, ?cas⟩
  case ain =>
    intro s t slot i c ha hi hfirst hone
    exact runs_ptread_one ha hfirst (by omega) hone (readPoint_ain_value (devAt s t) hi)
  case diag =>
    intro s t slot f p c ha hf hp hfirst hone
    have hk : 2 * f + (p - 14) < 26 := by omega
    rw [Nat.add_assoc] at hfirst ⊢
    exact runs_ptread_one ha hfirst (by omega) hone (readPoint_diag_value (devAt s t) hk)
  case cas =>
    intro s t slot k c ha hk hfirst hone
    exact runs_ptread_one ha hfirst (by omega) hone (readPoint_cas_value (devAt s t) hk)

end Sys2Proof.Safety
end

section
/-!
PROOF. The discard of the staged coefficients (R91): what a copy of words does to a bank, what the copy of one cascade does
to its own words and to those of the others, and the same for the sweep over all cascades.
-/
namespace Sys2Proof.Safety

open Sys2Proof.Machine

/-! ### Immediate writes -/

/-- A served write reaches its rule. -/
theorem immediate_of_served {d : Dev} {cls need : Nat} (h : WriteServed d cls need) (f : Dev → Dev) :
    immediate cls need f d = f d := by
  obtain ⟨hup, htest, hcls, hrec, hstandby⟩ := h
  simp [immediate, hup, htest, Nat.not_lt.mpr hcls, hrec, hstandby]

/-- A served write completes with what its rule does: what `runs_lift` is for a command that acts on the device alone. -/
theorem runs_immediate {i : Instr} {t cls need : Nat} {s : State} {f : Dev → Dev} {ps : List Part} {post : Dev → Prop}
    (he : exec i s = lift t (immediate cls need f) s) (hs : WriteServed s.dev cls need)
    (hk : Keeps ps (devAt s t) (f (devAt s t))) (ht : Part.t ∉ ps) (hp : post (f (devAt s t))) : Runs i t s ps post := by
  have hf : immediate cls need f (devAt s t) = f (devAt s t) := immediate_of_served (d := devAt s t) hs f
  rw [← hf] at hk hp
  exact runs_lift he hk ht hp

theorem answered_answer (status detail : Nat) (d : Dev) : Answered status detail (answer status detail d) := ⟨rfl, rfl⟩

/-! ### Sweeps over the indices below a bound -/

theorem forAll_succ (n : Nat) (f : Nat → Dev → Dev) (d : Dev) : forAll (n + 1) f d = f n (forAll n f d) := by
  simp [forAll, List.range_succ]

theorem forAll_preserves {n : Nat} {f : Nat → Dev → Dev} {P : Dev → Prop} (hf : ∀ k e, k < n → P e → P (f k e)) {d : Dev}
    (h : P d) : P (forAll n f d) := by
  induction n with
  | zero => exact h
  | succ n ih =>
    rw [forAll_succ]
    exact hf n _ n.lt_succ_self (ih fun k e hk => hf k e (Nat.lt_succ_of_lt hk))

/-- What the turn of index `c` makes of a device that the turns of the others leave ready for it, and that they then keep,
holds after the sweep. -/
theorem forAll_at {n c : Nat} {f : Nat → Dev → Dev} {P Q : Dev → Prop} (hc : c < n)
    (hbefore : ∀ k e, k < n → k ≠ c → P e → P (f k e)) (hat : ∀ e, P e → Q (f c e))
    (hafter : ∀ k e, k < n → k ≠ c → Q e → Q (f k e)) {d : Dev} (h : P d) : Q (forAll n f d) := by
  induction n with
  | zero => exact absurd hc c.not_lt_zero
  | succ n ih =>
    rw [forAll_succ]
    rcases Nat.lt_succ_iff_lt_or_eq.mp hc with hlt | rfl
    · exact hafter n _ n.lt_succ_self hlt.ne' (ih hlt (fun k e hk => hbefore k e (Nat.lt_succ_of_lt hk))
        (fun k e hk => hafter k e (Nat.lt_succ_of_lt hk)))
    · exact hat _ (forAll_preserves (fun k e hk => hbefore k e (Nat.lt_succ_of_lt hk) hk.ne) h)

/-! ### Words of a bank -/

/-- A write to another key does not show, whatever the unlisted keys of the two read as. -/
theorem tget_tput_other {α : Type} [DecidableEq α] (a d : α) {k j : Nat} (v : α) (m : Tab α) (h : j ≠ k) :
    tget a (tput d k v m) j = tget a m j := by
  unfold tput
  split
  · rw [tget_tdel, if_neg h]
  · rw [tget_tins a k j v _ (not_mem_tdel k m), if_neg h, tget_tdel, if_neg h]

theorem pkey_inj {p q i j : Nat} (hi : i < 65536) (hj : j < 65536) (h : pkey p i = pkey q j) : p = q ∧ i = j := by
  unfold pkey at h
  omega

theorem bankGet_bankPut {p q i j : Nat} (hi : i < 65536) (hj : j < 65536) (v : Nat) (b : Bank) :
    bankGet (bankPut p i v b) q j = if (q, j) = (p, i) then v else bankGet b q j := by
  split
  next h =>
    obtain ⟨rfl, rfl⟩ := Prod.mk.inj h
    exact tget_tput_self _ _ v b
  next h =>
    exact tget_tput_other _ _ v b fun hkey => h (Prod.ext_iff.mpr (pkey_inj hj hi hkey))

/-- The words `ks` of bank `src` copied into bank `b`. -/
def copyWords (src : Bank) (ks : List (Nat × Nat)) (b : Bank) : Bank :=
  ks.foldl (fun b k => bankPut k.1 k.2 (bankGet src k.1 k.2) b) b

/-- After a copy the copied words read as in the source, and every other word as before. -/
theorem bankGet_copyWords (src : Bank) {ks : List (Nat × Nat)} (hks : ∀ k ∈ ks, k.2 < 65536) {j : Nat × Nat}
    (hj : j.2 < 65536) (b : Bank) : bankGet (copyWords src ks b) j.1 j.2 =
      if j ∈ ks then bankGet src j.1 j.2 else bankGet b j.1 j.2 := by
  induction ks generalizing b with
  | nil => simp [copyWords]
  | cons k ks ih =>
    obtain ⟨hk, hrest⟩ := List.forall_mem_cons.mp hks
    have htail : copyWords src (k :: ks) b = copyWords src ks (bankPut k.1 k.2 (bankGet src k.1 k.2) b) := rfl
    rw [htail, ih hrest, bankGet_bankPut hk hj]
    by_cases hmem : j ∈ ks
    · simp [hmem]
    · by_cases heq : j = k <;> simp [hmem, heq]

theorem mem_bankKeys {c : Nat} {k : Nat × Nat} : k ∈ bankKeys c ↔ k = (0x2103, c) ∨
    ∃ s, s < 16 ∧ (k.1 = 0x2100 ∨ k.1 = 0x2101 ∨ k.1 = 0x2102) ∧ k.2 = 16 * c + s := by
  obtain ⟨p, i⟩ := k
  simp only [bankKeys, List.mem_cons, List.mem_flatMap, List.mem_range, List.not_mem_nil, or_false,
    Prod.mk.injEq, ← or_and_right]

theorem bankKeys_index_lt {c : Nat} (hc : c < 128) {k : Nat × Nat} (hk : k ∈ bankKeys c) : k.2 < 65536 := by
  rcases mem_bankKeys.mp hk with rfl | ⟨s, hs, -, hi⟩
  · exact lt_trans hc (by decide)
  · omega

/-- No word belongs to two cascades. -/
theorem not_mem_bankKeys_of_ne {c c' : Nat} (h : c ≠ c') {k : Nat × Nat} (hk : k ∈ bankKeys c) : k ∉ bankKeys c' := by
  intro hk'
  rcases mem_bankKeys.mp hk with rfl | ⟨s, hs, hp, hi⟩ <;> rcases mem_bankKeys.mp hk' with heq | ⟨s', hs', hp', hi'⟩
  · exact h (Prod.mk.inj heq).2
  · simp at hp'
  · simp [heq] at hp
  · omega

/-! ### The copy of one cascade -/

@[simp] theorem activeBank_setOther (b : Bank) (d : Dev) : activeBank (setOther b d) = activeBank d := by
  by_cases h : d.fil.bank = true <;> simp [activeBank, setOther, h]

@[simp] theorem otherBank_setOther (b : Bank) (d : Dev) : otherBank (setOther b d) = b := by
  by_cases h : d.fil.bank = true <;> simp [otherBank, setOther, h]

@[simp] theorem cas_setOther (b : Bank) (d : Dev) (c : Nat) : cas (setOther b d) c = cas d c := by
  by_cases h : d.fil.bank = true <;> simp [cas, setOther, h]

@[simp] theorem activeBank_modCas (c : Nat) (f : Cas → Cas) (d : Dev) : activeBank (modCas c f d) = activeBank d := rfl

@[simp] theorem otherBank_modCas (c : Nat) (f : Cas → Cas) (d : Dev) : otherBank (modCas c f d) = otherBank d := rfl

@[simp] theorem activeBank_answer (status detail : Nat) (d : Dev) : activeBank (answer status detail d) = activeBank d := rfl

@[simp] theorem otherBank_answer (status detail : Nat) (d : Dev) : otherBank (answer status detail d) = otherBank d := rfl

@[simp] theorem cas_answer (status detail : Nat) (d : Dev) (c : Nat) : cas (answer status detail d) c = cas d c := rfl

theorem cas_modCas (c j : Nat) (f : Cas → Cas) (d : Dev) :
    cas (modCas c f d) j = if j = c then f (cas d c) else cas d j := by
  simp only [cas, modCas_fil, tget_tmod]

/-- A write of the Filigree's block that leaves the trace taps as they were. -/
theorem keeps_fil_of_taps {x : Fil} {d : Dev} (h : x.taps = d.fil.taps) : Keeps [.fil] d { d with fil := x } := by
  refine ⟨fun p hp => ?_⟩
  by_cases htaps : p = .taps
  · subst htaps
    exact h.symm
  · exact (keeps_fil x d).same p (by simp_all)

theorem setOther_keeps (b : Bank) (d : Dev) : Keeps [.fil] d (setOther b d) :=
  keeps_fil_of_taps (by split <;> rfl)

theorem modCas_keeps (c : Nat) (f : Cas → Cas) (d : Dev) : Keeps [.fil] d (modCas c f d) := keeps_fil_of_taps rfl

theorem copyCas_eq (c : Nat) (d : Dev) :
    copyCas c d = setOther (copyWords (activeBank d) (bankKeys c) (otherBank d)) d := rfl

/-- The turn of cascade `c` in `mirrorAll`. -/
def mirrorCas (c : Nat) (d : Dev) : Dev :=
  if (cas d c).mirror then d else modCas c (fun x => { x with mirror := true, stageBad := false }) (copyCas c d)

theorem mirrorAll_eq (d : Dev) : mirrorAll d = forAll 128 mirrorCas d := rfl

theorem mirrorCas_of_mirror {c : Nat} {d : Dev} (h : (cas d c).mirror = true) : mirrorCas c d = d := if_pos h

theorem mirrorCas_of_staged {c : Nat} {d : Dev} (h : (cas d c).mirror = false) : mirrorCas c d =
    modCas c (fun x => { x with mirror := true, stageBad := false }) (copyCas c d) := by
  simp [mirrorCas, h]

theorem mirrorCas_keeps (c : Nat) (d : Dev) : Keeps [.fil] d (mirrorCas c d) :=
  keeps_ite (fun _ => Keeps.refl _ d) (fun _ => (setOther_keeps _ d).trans (modCas_keeps c _ _))

@[simp] theorem activeBank_mirrorCas (c : Nat) (d : Dev) : activeBank (mirrorCas c d) = activeBank d := by
  unfold mirrorCas
  split <;> simp [copyCas_eq]

@[simp] theorem mirror_mirrorCas (c : Nat) (d : Dev) : (cas (mirrorCas c d) c).mirror = true := by
  cases h : (cas d c).mirror with
  | true => rwa [mirrorCas_of_mirror h]
  | false => simp [mirrorCas_of_staged h, cas_modCas]

theorem cas_mirrorCas_of_ne {c j : Nat} (h : j ≠ c) (d : Dev) : cas (mirrorCas c d) j = cas d j := by
  unfold mirrorCas
  split <;> simp [copyCas_eq, cas_modCas, h]

theorem otherBank_mirrorCas_of_staged {c : Nat} {d : Dev} (h : (cas d c).mirror = false) :
    otherBank (mirrorCas c d) = copyWords (activeBank d) (bankKeys c) (otherBank d) := by
  rw [mirrorCas_of_staged h, otherBank_modCas, copyCas_eq, otherBank_setOther]

/-- The turn of a staged cascade makes its words those of the active bank. -/
theorem bankGet_mirrorCas_of_staged {c : Nat} {d : Dev} (hc : c < 128) (h : (cas d c).mirror = false) {k : Nat × Nat}
    (hk : k ∈ bankKeys c) : bankGet (otherBank (mirrorCas c d)) k.1 k.2 = bankGet (activeBank d) k.1 k.2 := by
  rw [otherBank_mirrorCas_of_staged h,
    bankGet_copyWords _ (fun _ => bankKeys_index_lt hc) (bankKeys_index_lt hc hk), if_pos hk]

/-- The turn of another cascade leaves the words of `c` as they were. -/
theorem bankGet_mirrorCas_of_ne {c j : Nat} {d : Dev} (hc : c < 128) (hj : j < 128) (h : j ≠ c) {k : Nat × Nat}
    (hk : k ∈ bankKeys c) : bankGet (otherBank (mirrorCas j d)) k.1 k.2 = bankGet (otherBank d) k.1 k.2 := by
  cases hm : (cas d j).mirror with
  | true => rw [mirrorCas_of_mirror hm]
  | false =>
    rw [otherBank_mirrorCas_of_staged hm, bankGet_copyWords _ (fun _ => bankKeys_index_lt hj) (bankKeys_index_lt hc hk),
      if_neg (not_mem_bankKeys_of_ne h.symm hk)]

/-! ### The copy of every cascade -/

theorem mirrorAll_keeps (d : Dev) : Keeps [.fil] d (mirrorAll d) := keeps_forAll 128 mirrorCas mirrorCas_keeps d

theorem activeBank_mirrorAll (d : Dev) : activeBank (mirrorAll d) = activeBank d :=
  forAll_preserves (P := fun e => activeBank e = activeBank d) (f := mirrorCas)
    (fun k e _ h => (activeBank_mirrorCas k e).trans h) rfl

theorem mirror_mirrorAll {c : Nat} (hc : c < 128) (d : Dev) : (cas (mirrorAll d) c).mirror = true :=
  forAll_at (P := fun _ => True) (Q := fun e => (cas e c).mirror = true) (f := mirrorCas) hc (fun _ _ _ _ h => h)
    (fun e _ => mirror_mirrorCas c e) (fun _ e _ hne h => by rwa [cas_mirrorCas_of_ne hne.symm e]) trivial

/-- Cascade `c` waits for its turn in the sweep over `d`: the turns before it left it and the active bank as they were. -/
def AwaitsTurn (d : Dev) (c : Nat) (e : Dev) : Prop := activeBank e = activeBank d ∧ cas e c = cas d c

/-- The words of a cascade with MIRROR = 0 read as in the active bank after the sweep, which no other turn undoes. -/
theorem bankGet_mirrorAll_of_staged {c : Nat} {d : Dev} (hc : c < 128) (hm : (cas d c).mirror = false) {k : Nat × Nat}
    (hk : k ∈ bankKeys c) : bankGet (otherBank (mirrorAll d)) k.1 k.2 = bankGet (activeBank d) k.1 k.2 := by
  refine forAll_at (P := AwaitsTurn d c)
    (Q := fun e => bankGet (otherBank e) k.1 k.2 = bankGet (activeBank d) k.1 k.2) (f := mirrorCas) hc ?before ?turn
    ?after ⟨rfl, rfl⟩
  case before =>
    rintro j e - hne ⟨hbank, hcas⟩
    exact ⟨(activeBank_mirrorCas j e).trans hbank, (cas_mirrorCas_of_ne hne.symm e).trans hcas⟩
  case turn =>
    rintro e ⟨hbank, hcas⟩
    have hstaged : (cas e c).mirror = false := by rw [hcas, hm]
    rw [bankGet_mirrorCas_of_staged hc hstaged hk, hbank]
  case after =>
    intro j e hj hne h
    rw [bankGet_mirrorCas_of_ne hc hj hne hk, h]

/-- Settles O22: the sweep over all cascades, in which the turn of each writes its own words only. -/
theorem stageDiscard : Obligations.StageDiscard := by
  unfold Obligations.StageDiscard
  intro s t cls hs
  refine runs_immediate (f := stageDiscardFil) rfl hs ?_ (by decide) ?_
  · exact ((mirrorAll_keeps _).mono (by decide)).trans ((answer_keeps 0 0 _).mono (by decide))
  · simp only [stageDiscardFil, activeBank_answer, otherBank_answer, cas_answer]
    exact ⟨answered_answer 0 0 _, activeBank_mirrorAll (devAt s t), fun c hc =>
      ⟨mirror_mirrorAll hc _, fun hm _ hk => bankGet_mirrorAll_of_staged (d := devAt s t) hc hm hk⟩⟩

end Sys2Proof.Safety
end

section
/-!
PROOF. The driver status inputs of a leg out of service (R140): what a read of a leg returns after a change of one, the rule
of a command whose whole work is such a change, and the branch that DFLT_ASSERT and DUV_ASSERT take when no latch is set.
-/
namespace Sys2Proof.Safety

open Sys2Proof.Machine

/-! ### A leg after a change of one -/

theorem leg_modLeg (n m : Nat) (f : Leg → Leg) (d : Dev) :
    leg (modLeg n f d) m = if m = n then f (leg d n) else leg d m := by
  simp only [leg, modLeg_legs, tget_tmod]

@[simp] theorem leg_modLeg_self (n : Nat) (f : Leg → Leg) (d : Dev) : leg (modLeg n f d) n = f (leg d n) := by
  rw [leg_modLeg, if_pos rfl]

theorem otherLegs_modLeg (n : Nat) (f : Leg → Leg) (d : Dev) : OtherLegs n d (modLeg n f d) := by
  intro m hne
  rw [leg_modLeg, if_neg hne]

@[simp] theorem inSvc_modLeg_self (n : Nat) (f : Leg → Leg) (d : Dev) :
    inSvc (modLeg n f d) n = (f (leg d n)).insvc := by
  simp only [inSvc, leg_modLeg_self]

/-- A command that does nothing but change leg `n` completes with the changed leg, every other leg as it was, and no event,
as its frame names the legs alone. -/
theorem runs_modLeg {i : Instr} {t n : Nat} {s : State} {g : Dev → Dev} {f : Leg → Leg} (he : exec i s = lift t g s)
    (hg : g (devAt s t) = modLeg n f (devAt s t)) :
    Runs i t s [.legs] (fun d => leg d n = f (leg s.dev n) ∧ OtherLegs n s.dev d) := by
  refine runs_lift he ?frame (by decide) ?result
  case frame => exact hg ▸ modLeg_keeps n f (devAt s t)
  case result =>
    have hresult : leg (modLeg n f (devAt s t)) n = f (leg s.dev n) ∧ OtherLegs n s.dev (modLeg n f (devAt s t)) :=
      ⟨leg_modLeg_self n f (devAt s t), otherLegs_modLeg n f (devAt s t)⟩
    exact hg ▸ hresult

/-! ### DFLT and DUV without a latch -/

theorem dfltAssert_of_outOfService {d : Dev} {n : Nat} (hn : n < 48) (hout : inSvc d n = false) :
    dfltAssert n d = modLeg n (fun x => { x with dfltIn := true }) d := by
  have hstays : (leg d n).insvc = false := hout
  simp [dfltAssert, hn, hstays]

theorem duvAssert_of_outOfService {d : Dev} {n : Nat} (hn : n < 48) (hout : inSvc d n = false) :
    duvAssert n d = modLeg n (fun x => { x with duvIn := true }) d := by
  have hstays : (leg d n).insvc = false := hout
  simp [duvAssert, hn, hstays]

/-- Settles O13: out of service, each assertion is the change of one shown state of the leg and nothing else. -/
theorem driverInputsOutOfService : Obligations.DriverInputsOutOfService := by
  unfold Obligations.DriverInputsOutOfService
  refine ⟨?dflt, ?duv⟩
  case dflt =>
    intro s t n hn hout
    exact runs_modLeg rfl (dfltAssert_of_outOfService (d := devAt s t) hn hout)
  case duv =>
    intro s t n hn hout
    exact runs_modLeg rfl (duvAssert_of_outOfService (d := devAt s t) hn hout)

end Sys2Proof.Safety
end

section
/-!
PROOF. The seconds that reads of TIME_NS and TCAP_NS latch (R441): what each read does to the device, and what the latched
registers return at any later tick.
-/
namespace Sys2Proof.Safety

open Sys2Proof.Machine

/-! ### A read that latches -/

/-- The word a host read returns is kept in the mailbox, and sends nothing. -/
theorem keeps_hostRd (w : List Byte) (d : Dev) : Keeps [.mbx] d { d with mbx := { d.mbx with hostRd := w } } := by
  refine ⟨fun p hp => ?_⟩
  by_cases hsent : p = .sent
  · subst hsent
    rfl
  · exact (keeps_mbx _ d).same p (by simp_all)

theorem timeNsRead_keeps (d : Dev) : Keeps [.time, .mbx] d (timeNsRead d) :=
  ((keeps_time _ d).mono (by decide)).trans ((keeps_hostRd _ (timeNsLatch d)).mono (by decide))

theorem tcapNsRead_keeps (d : Dev) : Keeps [.time, .mbx] d (tcapNsRead d) :=
  ((keeps_time _ d).mono (by decide)).trans ((keeps_hostRd _ (tcapLatch d)).mono (by decide))

/-- A read of TCAP_NS clears NEW of the capture it selects. -/
theorem capt_tcapNsRead (d : Dev) :
    capt (tcapNsRead d) d.time.capSel = { capt d d.time.capSel with new_ := false } :=
  tget_tmod_self (α := Capt) {} _ (fun x => { x with new_ := false }) _

/-! ### The latched registers -/

/-- TIME_SEC_LO and TIME_SEC_HI read as the latched seconds, whatever the time is by then. -/
theorem regVal_timeSec {d : Dev} (hup : d.sys.up = true) (x : Nat) :
    regVal { d with t := x } 0x104 = d.time.secLatch % 2 ^ 32 ∧
      regVal { d with t := x } 0x108 = d.time.secLatch / 2 ^ 32 % 2 ^ 32 := by
  simp [regVal, regServed, hup]

/-- TCAP_SEC_LO and TCAP_SEC_HI read as the latched seconds of the capture, whatever the time is by then. -/
theorem regVal_tcapSec {d : Dev} (hup : d.sys.up = true) (x : Nat) :
    regVal { d with t := x } 0x11C = d.time.capLatch % 2 ^ 32 ∧
      regVal { d with t := x } 0x120 = d.time.capLatch / 2 ^ 32 % 2 ^ 32 := by
  simp [regVal, regServed, hup]

/-- Settles O55: each read stores the seconds in its latch, and the latched registers read the latch, not the clock. -/
theorem timeLatches : Obligations.TimeLatches := by
  unfold Obligations.TimeLatches
  refine ⟨?time, ?capture⟩
  case time =>
    intro s t hup
    exact runs_lift rfl (timeNsRead_keeps _) (by decide)
      ⟨rfl, rfl, regVal_timeSec (d := timeNsRead (devAt s t)) hup⟩
  case capture =>
    intro s t hup
    exact runs_lift rfl (tcapNsRead_keeps _) (by decide)
      ⟨rfl, capt_tcapNsRead (devAt s t), regVal_tcapSec (d := tcapNsRead (devAt s t)) hup⟩

end Sys2Proof.Safety
end

section
/-!
PROOF. The queue, the host memory and reset: which commands act on the device alone, and what the others, the accesses of
the host, a posting and the end of a start, do to the host memory.
-/
namespace Sys2Proof.Safety

open Sys2Proof.Machine

/-! ### What a command does to the queue and to the host memory -/

/-- Each command takes the device to another one; the accesses of the host, a posting and the end of a start may write the
host memory too, and the read of registers over UDP is written as they are. -/
theorem exec_lift_or_host (c : Instr) (s : State) : (∃ t f, exec c s = lift t f s) ∨ writesMemory c ∨
    ∃ t e b, c = .udpRegRead t e b := by
  cases c
  case qspiFrame t i a b n => exact .inr (.inl (.inl ⟨t, i, a, b, n, rfl⟩))
  case udpCommand t e b => exact .inr (.inl (.inr (.inl ⟨t, e, b, rfl⟩)))
  case udpRegWrite t e b => exact .inr (.inl (.inr (.inr (.inl ⟨t, e, b, rfl⟩))))
  case completionPost t => exact .inr (.inl (.inr (.inr (.inr (.inl ⟨t, rfl⟩)))))
  case bootComplete t o => exact .inr (.inl (.inr (.inr (.inr (.inr ⟨t, o, rfl⟩)))))
  case udpRegRead t e b => exact .inr (.inr ⟨t, e, b, rfl⟩)
  case pndXcalGo t cls v => exact .inl ⟨t, fun d => if cls < 2 then answer 2 2 d else xcalGo v d, rfl⟩
  all_goals exact .inl ⟨_, _, rfl⟩

/-- `s'` follows `s` with the queue as it was and a host memory in canonical form. -/
structure KeepsForm (s s' : State) : Prop where
  pending : s'.pending = s.pending
  mem : memWf s → memWf s'

theorem KeepsForm.refl (s : State) : KeepsForm s s := ⟨rfl, id⟩

theorem KeepsForm.trans {s s' s'' : State} (h : KeepsForm s s') (k : KeepsForm s' s'') : KeepsForm s s'' :=
  ⟨k.pending.trans h.pending, k.mem ∘ h.mem⟩

/-- A change of the device alone. -/
theorem keepsForm_dev (s : State) (d : Dev) : KeepsForm s { s with dev := d } := ⟨rfl, id⟩

/-- A store of bytes, with a change of the device. -/
theorem keepsForm_writeMem (s : State) (d : Dev) (a : Nat) (bs : List Byte) :
    KeepsForm s { s with hostMem := writeMem s.hostMem a bs, dev := d } := ⟨rfl, fun h => tabWf_writeMem bs _ a h⟩

theorem writeSlotByte_form (a : Nat) (b : Byte) (s : State) : KeepsForm s (writeSlotByte a b s) := by
  unfold writeSlotByte
  split
  · split
    · exact keepsForm_dev s _
    · exact keepsForm_writeMem s s.dev a [b]
  · exact .refl s

theorem foldl_form {β : Type} (g : State → β → State) (h : ∀ e b, KeepsForm e (g e b)) (l : List β) :
    ∀ s, KeepsForm s (l.foldl g s) := by
  induction l with
  | nil => exact fun s => .refl s
  | cons b r ih => exact fun s => (h s b).trans (ih _)

theorem hostWrite_form (a : Nat) (bs : List Byte) (s : State) : KeepsForm s (hostWrite a bs s) := by
  have hregs := keepsForm_dev s (writeRegs s.hostMem a bs s.dev)
  unfold hostWrite
  split
  · exact .refl s
  · dsimp only
    split
    · exact hregs
    · exact hregs.trans (foldl_form (fun e (b : Byte × Nat) => writeSlotByte (a + b.2) b.1 e)
        (fun e b => writeSlotByte_form (a + b.2) b.1 e) _ _)

theorem qspiFrame_form (i a : Nat) (bs : List Byte) (n : Nat) (s : State) : KeepsForm s (qspiFrame i a bs n s) := by
  unfold qspiFrame
  dsimp only
  split
  · exact .refl s
  · split
    · exact hostWrite_form _ bs s
    · split
      · exact keepsForm_dev s _
      · split
        · exact keepsForm_dev s _
        · exact .refl s

theorem udpAdmit_form {typ : Nat} {b : List Byte} {f : State → State} (hf : ∀ s, KeepsForm s (f s)) (s : State) :
    KeepsForm s (udpAdmit typ b f s) := by
  unfold udpAdmit
  split
  · exact .refl s
  · split
    · exact keepsForm_dev s _
    · split
      · exact .refl s
      · exact hf s

theorem udpCommand_form (e : Endpoint) (b : List Byte) (s : State) : KeepsForm s (udpCommand e b s) := by
  unfold udpCommand
  dsimp only
  split
  · exact keepsForm_dev s _
  · split
    · exact keepsForm_dev s _
    · split
      · exact keepsForm_dev s _
      · exact keepsForm_writeMem s _ _ _

theorem udpWrite_form (e : Endpoint) (b : List Byte) (s : State) : KeepsForm s (udpWrite e b s) := by
  unfold udpWrite
  dsimp only
  split
  · exact keepsForm_dev s _
  · exact ((keepsForm_dev s _).trans (hostWrite_form _ _ _)).trans (keepsForm_dev _ _)

theorem post_form (s : State) : KeepsForm s (post s) := by
  unfold post
  split
  · exact .refl s
  · split
    · exact keepsForm_dev s _
    · exact ⟨rfl, fun h => tabWf_writeMem _ _ _ (tabWf_writeMem _ _ _ h)⟩

/-- A register read over UDP reads the host memory and writes none. -/
theorem udpRead_hostMem (e : Endpoint) (b : List Byte) (s : State) : (udpRead e b s).hostMem = s.hostMem := by
  unfold udpRead
  dsimp only
  split <;> rfl

theorem udpAdmit_hostMem {typ : Nat} {b : List Byte} {f : State → State} {s : State}
    (hf : (f s).hostMem = s.hostMem) : (udpAdmit typ b f s).hostMem = s.hostMem := by
  unfold udpAdmit
  split
  · rfl
  · split
    · rfl
    · split
      · rfl
      · exact hf

theorem exec_udpRegRead_hostMem (t : Nat) (e : Endpoint) (b : List Byte) (s : State) :
    ∃ s', exec (.udpRegRead t e b) s = .next s' ∧ s'.pending = s.pending ∧ s'.hostMem = s.hostMem :=
  ⟨_, rfl, rfl, udpAdmit_hostMem (s := { s with dev := devAt s t }) (udpRead_hostMem e b _)⟩

/-- A command of the host memory completes at any tick with the canonical form kept. -/
theorem liftS_form {t : Nat} {f : State → State} (hf : ∀ s, KeepsForm s (f s)) (s : State) :
    ∃ s', liftS t f s = .next s' ∧ KeepsForm s s' :=
  ⟨_, rfl, rfl, ((keepsForm_dev s (devAt s t)).trans (hf _)).mem⟩

/-- Every command answers a next state with the queue as it was and the host memory in canonical form. -/
theorem exec_form (c : Instr) (s : State) : ∃ s', exec c s = .next s' ∧ KeepsForm s s' := by
  obtain ⟨t, f, he⟩ | hw | ⟨t, e, b, rfl⟩ := exec_lift_or_host c s
  · exact ⟨_, he, keepsForm_dev s _⟩
  · obtain ⟨t, i, a, b, n, rfl⟩ | ⟨t, e, b, rfl⟩ | ⟨t, e, b, rfl⟩ | ⟨t, rfl⟩ | ⟨t, o, rfl⟩ := hw
    · exact liftS_form (qspiFrame_form i a b n) s
    · exact liftS_form (udpAdmit_form (udpCommand_form e b)) s
    · exact liftS_form (udpAdmit_form (udpWrite_form e b)) s
    · exact ⟨_, rfl, (keepsForm_dev s _).trans (post_form _)⟩
    · refine ⟨_, rfl, rfl, fun h => ?_⟩
      dsimp only [memWf]
      split
      · exact tabWf_nil 0
      · exact h
  · obtain ⟨s', he, hp, hm⟩ := exec_udpRegRead_hostMem t e b s
    exact ⟨s', he, hp, fun h => by rwa [memWf, hm]⟩

/-! ### The statements -/

/-- Settles O3: a step is the front command of the queue, and each keeps the canonical form. -/
theorem stepKeepsMemoryForm : Obligations.StepKeepsMemoryForm := by
  unfold Obligations.StepKeepsMemoryForm
  intro s s' hwf hstep
  unfold step at hstep
  split at hstep
  case h_1 =>
    cases hstep
    exact hwf
  case h_2 c rest _ =>
    obtain ⟨s'', he, hform⟩ := exec_form c { s with pending := rest }
    cases he.symm.trans hstep
    exact hform.mem hwf

/-- Settles O2: the queue is no part of the device, and the accesses of the host leave it too. -/
theorem everyCommandAnswers : Obligations.EveryCommandAnswers := by
  unfold Obligations.EveryCommandAnswers
  intro c s
  obtain ⟨s', he, hform⟩ := exec_form c s
  exact ⟨s', he, hform.pending⟩

/-- Settles O5: a command that is none of those acts on the device alone, or reads registers over UDP. -/
theorem onlyHostWritesMemory : Obligations.OnlyHostWritesMemory := by
  unfold Obligations.OnlyHostWritesMemory
  intro c s s' hexec hnot
  obtain ⟨t, f, he⟩ | hw | ⟨t, e, b, rfl⟩ := exec_lift_or_host c s
  · cases he.symm.trans hexec
    rfl
  · exact absurd hw hnot
  · obtain ⟨s'', he, -, hm⟩ := exec_udpRegRead_hostMem t e b s
    cases he.symm.trans hexec
    exact hm

/-- Settles O1: by the equations of `step` on a queue with a front and on an empty one. -/
theorem stepTakesFront : Obligations.StepTakesFront := by
  unfold Obligations.StepTakesFront
  refine ⟨fun s c rest h => ?_, fun s h => ?_⟩ <;> simp only [step, h]

/-- Settles O4: the fixed state's fields, with every sparse table empty. -/
theorem resetState : Obligations.ResetState := by
  unfold Obligations.ResetState
  refine ⟨rfl, fun n => ?_, tabWf_nil 0, fun a => rfl, fun pid i => rfl, rfl, rfl, rfl⟩
  have hhigh : hiZ State.reset.dev = true := by decide
  simp [gateOut, hhigh]

end Sys2Proof.Safety
end

section
/-!
PROOF. Rules that the proofs below share: how frames compose, what the operations of the mailbox do to its fields, and
commands that act on the host memory and the device together.
-/
namespace Sys2Proof.Safety

open Sys2Proof.Machine

/-! ### Frames -/

/-- One more operation with a smaller frame. -/
theorem Keeps.andThen {ps qs : List Part} {d e f : Dev} (h : Keeps ps d e) (k : Keeps qs e f) (hs : ∀ p ∈ qs, p ∈ ps) :
    Keeps ps d f := h.trans (k.mono hs)

/-! ### Commands on a known device -/

/-- A command on the device alone completes with the device that its work is shown to give. -/
theorem runs_eq {i : Instr} {t : Nat} {s : State} {f : Dev → Dev} {e : Dev} {ps : List Part} {post : Dev → Prop}
    (he : exec i s = lift t f s) (hf : f (devAt s t) = e) (hk : Keeps ps (devAt s t) e) (ht : Part.t ∉ ps) (hp : post e) :
    Runs i t s ps post := by
  subst hf
  exact runs_lift he hk ht hp

theorem liftS_eq {t : Nat} {f : State → State} {s s' : State} (hf : f { s with dev := devAt s t } = s')
    (hp : s'.pending = s.pending) : liftS t f s = .next s' := by
  have hrun : liftS t f s = .next { f { s with dev := devAt s t } with pending := s.pending } := rfl
  rw [hrun, hf, ← hp]

/-- A command of the host port that writes no host memory completes like one on the device alone. -/
theorem runs_liftS {i : Instr} {t : Nat} {s : State} {f : State → State} {e : Dev} {ps : List Part} {post : Dev → Prop}
    (he : exec i s = liftS t f s) (hf : f { s with dev := devAt s t } = { s with dev := e })
    (hk : Keeps ps (devAt s t) e) (ht : Part.t ∉ ps) (hp : post e) : Runs i t s ps post := by
  refine ⟨{ s with dev := e }, ?_, hk.t ht, ⟨rfl, rfl, ?_⟩, hp⟩
  · exact he.trans (liftS_eq hf rfl)
  · exact (Keeps.mono (keeps_t t s.dev) (by simp)).trans (hk.mono (by simp_all))

/-! ### Events and the mailbox's counters -/

theorem mbxErr_sent (slot status b : Nat) (d : Dev) : (mbxErr slot status b d).mbx =
    { d.mbx with sent := (mbxErr slot status b d).mbx.sent, notifyT := (mbxErr slot status b d).mbx.notifyT } :=
  (mbxErr_keeps slot status b d).mbxSent (by decide)

theorem setAccErr_keeps (d : Dev) : Keeps (.mbx :: evParts) d (setAccErr d) := by
  have h : Keeps (.mbx :: evParts) d { d with mbx := { d.mbx with accErr := true } } :=
    ⟨fun p hp => by cases p <;> first | rfl | exact absurd (by decide) hp⟩
  exact keeps_ite (fun _ => h) (fun _ => h.andThen (mbxErr_keeps _ _ _ _) (by decide))

theorem setWrBusy_keeps (d : Dev) : Keeps (.mbx :: evParts) d (setWrBusy d) := by
  have h : Keeps (.mbx :: evParts) d { d with mbx := { d.mbx with wrBusy := true } } :=
    ⟨fun p hp => by cases p <;> first | rfl | exact absurd (by decide) hp⟩
  exact keeps_ite (fun _ => h) (fun _ => h.andThen (mbxErr_keeps _ _ _ _) (by decide))

theorem countDoorBusy_keeps (d : Dev) : Keeps (.mbx :: evParts) d (countDoorBusy d) := by
  have h : Keeps (.mbx :: evParts) d { d with mbx := { d.mbx with doorBusy := incSat 255 d.mbx.doorBusy } } :=
    ⟨fun p hp => by cases p <;> first | rfl | exact absurd (by decide) hp⟩
  exact keeps_ite (fun _ => h.andThen (mbxErr_keeps _ _ _ _) (by decide)) (fun _ => h)

theorem setAccErr_mbx (d : Dev) : (setAccErr d).mbx =
    { d.mbx with accErr := true, sent := (setAccErr d).mbx.sent, notifyT := (setAccErr d).mbx.notifyT } := by
  unfold setAccErr
  dsimp only
  split
  · rfl
  · exact mbxErr_sent _ _ _ _

theorem setWrBusy_mbx (d : Dev) : (setWrBusy d).mbx =
    { d.mbx with wrBusy := true, sent := (setWrBusy d).mbx.sent, notifyT := (setWrBusy d).mbx.notifyT } := by
  unfold setWrBusy
  dsimp only
  split
  · rfl
  · exact mbxErr_sent _ _ _ _

theorem countDoorBusy_mbx (d : Dev) : (countDoorBusy d).mbx = { d.mbx with
    doorBusy := incSat 255 d.mbx.doorBusy, sent := (countDoorBusy d).mbx.sent, notifyT := (countDoorBusy d).mbx.notifyT } := by
  unfold countDoorBusy
  dsimp only
  split
  · exact mbxErr_sent _ _ _ _
  · rfl

/-- What the end of a quick command does to the mailbox: its completion waits and it leaves the ring order. -/
theorem finish_mbx (c : Cmd) (st dt : Nat) (resp : List Byte) (d : Dev) : (finish c st dt resp d).mbx = { d.mbx with
    rung := d.mbx.rung.tail, checked := false, done := d.mbx.done ++ [⟨c.slot, c.tag, c.op, st, dt, resp, tMs d⟩],
    sent := (finish c st dt resp d).mbx.sent, notifyT := (finish c st dt resp d).mbx.notifyT } := by
  unfold finish
  dsimp only
  split
  · exact mbxErr_sent _ _ _ _
  · rfl

theorem completed_finish (s : State) (c : Cmd) (t st dt : Nat) (resp : List Byte) :
    Completed s c t st dt resp (finish c st dt resp (devAt s t)) := by
  rw [Completed, finish_mbx]
  exact ⟨rfl, rfl⟩

/-- A quick command that ends with a status outside 3 to 7 raises no event (R370). -/
theorem finish_quiet {c : Cmd} {st : Nat} (h : ¬ (3 ≤ st ∧ st ≤ 7)) (dt : Nat) (resp : List Byte) (d : Dev) :
    finish c st dt resp d = complete ⟨c.slot, c.tag, c.op, st, dt, resp, tMs d⟩ (popRung d) := by
  simp [finish, h]

theorem finish_quiet_keeps {c : Cmd} {st : Nat} (h : ¬ (3 ≤ st ∧ st ≤ 7)) (dt : Nat) (resp : List Byte) (d : Dev) :
    Keeps [.mbx] d (finish c st dt resp d) := by
  rw [finish_quiet h]
  exact (popRung_keeps d).trans (complete_keeps _ _)

/-- The turns that come leave everything of the mailbox but the ring order, its check and the completions. -/
theorem takeTurn_mbx (m : List Host.Cell) (n : Nat) (d : Dev) : (takeTurn m n d).mbx = { d.mbx with
    rung := (takeTurn m n d).mbx.rung, checked := (takeTurn m n d).mbx.checked, done := (takeTurn m n d).mbx.done,
    sent := (takeTurn m n d).mbx.sent, notifyT := (takeTurn m n d).mbx.notifyT } := by
  induction n generalizing d with
  | zero => rfl
  | succ n ih =>
    unfold takeTurn
    split
    · dsimp only
      split
      · rfl
      · rename_i x st dt _
        rw [ih (finish (cmdAt m (d.mbx.rung.headD 0)) st dt [] d), finish_mbx]
    · rfl

/-! ### Numbers and bytes -/

theorem setBits_two_pow {k : Nat} (hk : k < 16) : setBits 16 (2 ^ k) = [k] := by
  have h : ∀ j < 16, setBits 16 (2 ^ j) = [j] := by decide
  exact h k hk

theorem bit_setBit_self (n k : Nat) : bit (setBit n k) k = true := by
  have h : (n ||| 2 ^ k).testBit k = true := by simp
  rw [Nat.testBit_eq_decide_div_mod_eq, decide_eq_true_eq] at h
  exact decide_eq_true h

theorem ofLe_le (k n : Nat) : ofLe (le k n) = n % 256 ^ k := by
  induction k generalizing n with
  | zero => simp [le, ofLe, Nat.mod_one]
  | succ k ih =>
    have hstep : n % 256 ^ (k + 1) = n % 256 + 256 * (n / 256 % 256 ^ k) := by
      rw [Nat.pow_succ', Nat.mod_mul]
    simp [le, ofLe, ih, hstep]

theorem length_le (k n : Nat) : (le k n).length = k := by
  induction k generalizing n with
  | zero => rfl
  | succ k ih => simp [le, ih]

end Sys2Proof.Safety
end

section
/-!
PROOF. The host port (R350 to R356): frames over QSPI, reads and writes of registers, and datagrams.
-/
namespace Sys2Proof.Safety

open Sys2Proof.Machine

/-! ### The address space -/

theorem fastOn_of_up {d : Dev} (h : d.sys.up = true) : fastOn d = true := by simp [fastOn, h]

/-- No register stands in the slots, nor above them. -/
theorem isReg_high {off : Nat} (h : 0x500 ≤ off) : isReg off = false := by
  simp only [isReg, regOffsets, List.contains_eq_mem, List.mem_cons, List.not_mem_nil, or_false]
  have hdirect : ¬ off ≤ 0x13C := by omega
  simp only [Bool.or_eq_false_iff, decide_eq_false_iff_not, Bool.and_eq_false_iff]
  exact ⟨by omega, by omega⟩

theorem foldl_fixed {α β : Type} {g : α → β → α} {a : α} {l : List β} (h : ∀ b ∈ l, g a b = a) : l.foldl g a = a := by
  induction l with
  | nil => rfl
  | cons b l ih =>
    rw [List.foldl_cons, h b List.mem_cons_self]
    exact ih fun c hc => h c (List.mem_cons_of_mem _ hc)

/-- A write above the registers writes none. -/
theorem writeRegs_high {a : Nat} (h : 0x500 ≤ a) (m : List Host.Cell) (bs : List Byte) (d : Dev) :
    writeRegs m a bs d = d := by
  unfold writeRegs
  refine foldl_fixed fun k _ => ?_
  have hoff : isReg (4 * (a / 4 + k)) = false := isReg_high (by omega)
  simp [hoff]

theorem readRange_one {m : List Host.Cell} {a : Nat} {d : Dev} (h : a % 4 = 0) : readRange m a 4 d =
    ((hostWord m d a).take 4, if a < 0x1000 ∧ fastOn d then regTouch a d else d) := by
  have hcnt : (a + 4 + 3) / 4 - a / 4 = 1 := by omega
  have hoff : 4 * (a / 4) = a := by omega
  simp [readRange, hcnt, hoff]

theorem hostWord_reg {m : List Host.Cell} {d : Dev} {off : Nat} (hup : d.sys.up = true) (h : off < 0x1000) :
    hostWord m d off = le 4 (regVal d off) := by
  simp [hostWord, fastOn_of_up hup, h]

theorem take_le (n : Nat) : (le 4 n).take 4 = le 4 n := List.take_of_length_le (by simp [length_le])

/-- Bytes stored one by one into slots that are free. -/
theorem foldl_writeSlotByte {s : State} (hup : s.dev.sys.up = true) (a : Nat) (bs : List Byte) (n : Nat)
    (hlo : 0x2000 ≤ a + n) (hhi : a + n + bs.length ≤ 0x4000)
    (hfree : ∀ i, i < bs.length → bit s.dev.mbx.busy ((a + n + i - 0x2000) / 512) = false) :
    (bs.zipIdx n).foldl (fun e b => writeSlotByte (a + b.2) b.1 e) s =
      { s with hostMem := writeMem s.hostMem (a + n) bs } := by
  induction bs generalizing s n with
  | nil => rfl
  | cons b bs ih =>
    simp only [List.length_cons] at hhi hfree
    have hb : bit s.dev.mbx.busy ((a + n - 0x2000) / 512) = false := hfree 0 (by omega)
    have hone : writeSlotByte (a + n) b s = { s with hostMem := writeMem s.hostMem (a + n) [b] } := by
      have hin : s.dev.sys.up = true ∧ 0x2000 ≤ a + n ∧ a + n < 0x4000 := ⟨hup, hlo, by omega⟩
      simp [writeSlotByte, hin, hb]
    rw [List.zipIdx_cons, List.foldl_cons, hone]
    refine (ih (s := { s with hostMem := writeMem s.hostMem (a + n) [b] }) hup (n + 1) (by omega) (by omega)
      (fun i hi => ?_)).trans ?_
    · have := hfree (i + 1) (by omega)
      rwa [show a + (n + 1) + i = a + n + (i + 1) by omega]
    · simp [writeMem, Nat.add_assoc]

/-- A write into slots that the device does not hold stores its bytes and leaves the device. -/
theorem hostWrite_slots {s : State} {a : Nat} {bs : List Byte} (hup : s.dev.sys.up = true) (hlo : 0x2000 ≤ a)
    (hhi : a + bs.length ≤ 0x4000) (hfree : ∀ i, i < bs.length → bit s.dev.mbx.busy ((a + i - 0x2000) / 512) = false) :
    hostWrite a bs s = { s with hostMem := writeMem s.hostMem a bs } := by
  have hregs : writeRegs s.hostMem a bs s.dev = s.dev := writeRegs_high (by omega) _ _ _
  have hstore := foldl_writeSlotByte hup a bs 0 hlo hhi hfree
  simp only [hostWrite, fastOn_of_up hup, not_true_eq_false, if_false, hregs]
  split
  case isTrue h =>
    have hempty : bs = [] := by
      rw [← List.length_eq_zero_iff]
      by_cases hzero : bs.length = 0
      · exact hzero
      · omega
    subst hempty
    rfl
  case isFalse => exact hstore

theorem readMem_writeMem_self (m : List Host.Cell) (a : Nat) (bs : List Byte) :
    readMem (writeMem m a bs) a bs.length = bs := by
  refine List.ext_getElem (by simp [readMem]) fun i h1 h2 => ?_
  have hread := tget_writeMem_inside bs m a i h2
  rw [List.getD_eq_getElem _ _ h2] at hread
  simpa [readMem] using hread

/-- A byte for a slot that the device holds. -/
theorem hostWrite_held {s : State} {a : Nat} {b : Byte} (hup : s.dev.sys.up = true) (hlo : 0x2000 ≤ a) (hhi : a < 0x4000)
    (hbusy : bit s.dev.mbx.busy ((a - 0x2000) / 512) = true) : hostWrite a [b] s = { s with dev := setWrBusy s.dev } := by
  have hregs : writeRegs s.hostMem a [b] s.dev = s.dev := writeRegs_high (by omega) _ _ _
  simp [hostWrite, fastOn_of_up hup, hregs, writeSlotByte, hup, hlo, hhi, hbusy]

/-! ### QSPI -/

theorem qspiFrame_write {s : State} (hup : s.dev.sys.up = true) (hsel : s.dev.boot.hostsel = false) {a : Nat}
    (ha : a < 16777216) (bs : List Byte) (n : Nat) : qspiFrame 2 a bs n s = hostWrite a bs s := by
  simp [qspiFrame, fastOn_of_up hup, hsel, Nat.mod_eq_of_lt ha]

theorem qspiFrame_read {s : State} (hup : s.dev.sys.up = true) (hsel : s.dev.boot.hostsel = false) {a : Nat}
    (ha : a < 16777216) (hal : a % 4 = 0) (hlo : 0x1000 ≤ a) : qspiFrame 0x0B a [] 4 s =
      { s with dev := { s.dev with mbx := { s.dev.mbx with hostRd := (hostWord s.hostMem s.dev a).take 4 } } } := by
  have hreg : ¬ a < 0x1000 := by omega
  simp [qspiFrame, fastOn_of_up hup, hsel, Nat.mod_eq_of_lt ha, readRange_one hal, hreg]

theorem qspiFrame_other {s : State} (hup : s.dev.sys.up = true) (hsel : s.dev.boot.hostsel = false) {i : Nat}
    (h2 : i ≠ 2) (hB : i ≠ 0x0B) (a : Nat) (bs : List Byte) (n : Nat) :
    qspiFrame i a bs n s = { s with dev := setAccErr s.dev } := by
  simp [qspiFrame, fastOn_of_up hup, hsel, h2, hB, hup]

/-- Settles O6: each frame by its instruction byte. -/
theorem qspiFrames : Obligations.QspiFrames := by
  unfold Obligations.QspiFrames
  refine ⟨?write, ?held, ?read, ?other⟩
  case write =>
    intro s t a n bs hup hsel hlo hhi hfree
    have hmem : qspiFrame 2 a bs n { s with dev := devAt s t } =
        { s with dev := devAt s t, hostMem := writeMem s.hostMem a bs } :=
      (qspiFrame_write (s := { s with dev := devAt s t }) hup hsel (by omega) bs n).trans
        (hostWrite_slots (s := { s with dev := devAt s t }) hup hlo hhi hfree)
    refine ⟨_, liftS_eq hmem rfl, ?_, ?_, rfl, rfl⟩
    · exact readMem_writeMem_self _ a bs
    · exact fun j hj => tget_writeMem_outside bs _ a j hj
  case held =>
    intro s t a n b hup hsel hlo hhi hbusy
    refine runs_liftS (e := setWrBusy (devAt s t)) rfl ?_ (setWrBusy_keeps _) (by decide) ?_
    · rw [qspiFrame_write (s := { s with dev := devAt s t }) hup hsel (by omega),
        hostWrite_held (s := { s with dev := devAt s t }) hup hlo hhi hbusy]
    · rw [setWrBusy_mbx]
  case read =>
    intro s t a hup hsel hlo hhi hal hon
    have hword : (hostWord s.hostMem (devAt s t) a).take 4 = readMem s.hostMem a 4 := by
      have hon' : fastOn (devAt s t) = true := hon
      have hup' : (devAt s t).sys.up = true := hup
      have hreg : ¬ a < 0x1000 := by omega
      have hin : 0x2000 ≤ a ∧ a < 0x4000 ∨ 0x4000 ≤ a ∧ a < 0x4400 := by omega
      simp only [hostWord, hon', hup', hreg, hin, not_true_eq_false, if_false, and_self, if_true]
      exact List.take_of_length_le (by simp [readMem])
    refine runs_liftS (e := { devAt s t with mbx := { s.dev.mbx with hostRd := readMem s.hostMem a 4 } }) rfl ?_
      ⟨fun p hp => by cases p <;> first | rfl | exact absurd (by decide) hp⟩ (by decide) rfl
    rw [qspiFrame_read (s := { s with dev := devAt s t }) hup hsel (by omega) hal (by omega)]
    simp only [hword]
    rfl
  case other =>
    intro s t i a n bs hup hsel h2 hB
    refine runs_liftS (e := setAccErr (devAt s t)) rfl ?_ (setAccErr_keeps _) (by decide) ?_
    · rw [qspiFrame_other (s := { s with dev := devAt s t }) hup hsel h2 hB]
    · rw [setAccErr_mbx]

/-! ### Direct registers -/

/-- A write that lies in the register at `off`, of the whole of it. -/
theorem writeRegs_whole {m : List Host.Cell} {off : Nat} {bs : List Byte} {d : Dev} (h4 : off % 4 = 0)
    (hlen : bs.length = 4) (hreg : isReg off = true) : writeRegs m off bs d = regWrite m off (ofLe bs) d := by
  have hne : bs ≠ [] := by
    rintro rfl
    simp at hlen
  have hcnt : (off + 4 + 3) / 4 - off / 4 = 1 := by omega
  have hoff : 4 * (off / 4) = off := by omega
  have htake : bs.take 4 = bs := List.take_of_length_le (by omega)
  simp [writeRegs, hne, hlen, hcnt, hoff, hreg, htake]

/-- A byte written to a register is refused. -/
theorem writeRegs_part {m : List Host.Cell} {off : Nat} {b : Byte} {d : Dev} (h4 : off % 4 = 0)
    (hreg : isReg off = true) (hup : d.sys.up = true) : writeRegs m off [b] d = setAccErr d := by
  have hcnt : (off + 1 + 3) / 4 - off / 4 = 1 := by omega
  have hoff : 4 * (off / 4) = off := by omega
  simp [writeRegs, hcnt, hoff, hreg, hup]

theorem regWrite_capSel {m : List Host.Cell} {d : Dev} (hup : d.sys.up = true) (v : Nat) :
    regWrite m 0x114 v d = { d with time := { d.time with capSel := bits v 2 0 } } := by
  simp [regWrite, hup]

theorem isReg_capSel : isReg 0x114 = true := by decide

theorem regTouch_mbxStat {d : Dev} (hup : d.sys.up = true) : regTouch 0x050 d =
    { d with mbx := { d.mbx with accErr := false, wrBusy := false, doorBusy := 0, udpDrop := 0 } } := by
  simp [regTouch, regServed, hup]

theorem exec_registerWrite {s : State} {t addr : Nat} {data : List Byte} (hup : s.dev.sys.up = true)
    (ha : addr + data.length ≤ 0x1000) :
    ∃ f, exec (.registerWrite t addr data) s = lift t f s ∧ f (devAt s t) = writeRegs s.hostMem addr data (devAt s t) :=
  ⟨fun d => if addr + data.length ≤ 0x1000 ∧ fastOn d then writeRegs s.hostMem addr data d else d, rfl,
    if_pos ⟨ha, fastOn_of_up (d := devAt s t) hup⟩⟩

/-- Settles O7: each access covers one register. -/
theorem registerAccesses : Obligations.RegisterAccesses := by
  unfold Obligations.RegisterAccesses
  refine ⟨?mbxStat, ?capSel, ?part⟩
  case mbxStat =>
    intro s t hup
    have hup' : (devAt s t).sys.up = true := hup
    refine runs_eq rfl (e := { devAt s t with mbx := { s.dev.mbx with
      hostRd := le 4 (regVal (devAt s t) 0x050), accErr := false, wrBusy := false, doorBusy := 0, udpDrop := 0 } }) ?_
      ⟨fun p hp => by cases p <;> first | rfl | exact absurd (by decide) hp⟩ (by decide) ⟨rfl, rfl, rfl, rfl, rfl⟩
    simp only [regRead, fastOn_of_up hup', readRange_one, hostWord_reg hup', take_le, regTouch_mbxStat hup',
      Nat.reduceAdd, Nat.reduceLeDiff, Nat.reduceLT, and_self, if_true]
    rfl
  case capSel =>
    intro s t v hup hv
    have hup' : (devAt s t).sys.up = true := hup
    have hbits : bits (ofLe (le 4 v)) 2 0 = v % 8 := by
      simp only [ofLe_le, bits, pow_zero, Nat.div_one]
      omega
    obtain ⟨f, he, hf⟩ := exec_registerWrite (t := t) (addr := 0x114) (data := le 4 v) hup (by simp [length_le])
    rw [writeRegs_whole (off := 0x114) rfl (length_le 4 v) isReg_capSel, regWrite_capSel hup', hbits] at hf
    exact runs_eq he hf (keeps_time _ _) (by decide) rfl
  case part =>
    intro s t b hup
    have hup' : (devAt s t).sys.up = true := hup
    obtain ⟨f, he, hf⟩ := exec_registerWrite (t := t) (addr := 0x114) (data := [b]) hup (by simp)
    rw [writeRegs_part (off := 0x114) rfl isReg_capSel hup'] at hf
    refine runs_eq he hf (setAccErr_keeps _) (by decide) ⟨?_, ?_⟩
    · rw [setAccErr_mbx]
    · exact (setAccErr_keeps _).time (by decide)

/-! ### Datagrams -/

/-- A datagram of its type reaches a port that serves UDP. -/
theorem udpAdmit_served {typ : Nat} {b : List Byte} {f : State → State} {s : State} (hup : s.dev.sys.up = true)
    (hsel : s.dev.boot.hostsel = true) (hok : igzanOk b = true) (htyp : field b 3 3 = typ) : udpAdmit typ b f s = f s := by
  simp [udpAdmit, fastOn_of_up hup, hsel, hup, hok, htyp]

theorem length_of_igzanOk_write {b : List Byte} {n : Nat} (hok : igzanOk b = true) (htyp : field b 3 3 = 5)
    (hn : field b 11 10 = n) : 12 + 4 * n ≤ b.length := by
  simp [igzanOk, htyp, hn] at hok
  exact hok.2.2

theorem touchSession_mbx (b : List Byte) (d : Dev) : (touchSession b d).mbx =
    { d.mbx with sessLast := (touchSession b d).mbx.sessLast } := by
  unfold touchSession
  split <;> rfl

theorem touchSession_keeps (b : List Byte) (d : Dev) : Keeps [.mbx] d (touchSession b d) :=
  keeps_ite (fun _ => ⟨fun p hp => by cases p <;> first | rfl | exact absurd (by decide) hp⟩) (fun _ => Keeps.refl _ d)

/-- A free slot that is rung, before its turn is looked at. -/
def rungDev (m : List Host.Cell) (k : Nat) (d : Dev) : Dev :=
  let e := touchSession (slotBytes m k) d
  { e with mbx := { e.mbx with busy := setBit d.mbx.busy k, rung := d.mbx.rung ++ [k], checked := d.mbx.checked && !d.mbx.rung.isEmpty } }

theorem ring_free {m : List Host.Cell} {k : Nat} {d : Dev} (h : bit d.mbx.busy k = false) :
    ring m k d = takeTurn m 16 (rungDev m k d) := by
  have hmbx := touchSession_mbx (slotBytes m k) d
  have hbusy : (touchSession (slotBytes m k) d).mbx.busy = d.mbx.busy := by rw [hmbx]
  have hrung : (touchSession (slotBytes m k) d).mbx.rung = d.mbx.rung := by rw [hmbx]
  have hchecked : (touchSession (slotBytes m k) d).mbx.checked = d.mbx.checked := by rw [hmbx]
  simp [ring, h, rungDev, hbusy, hrung, hchecked]

theorem rungDev_keeps (m : List Host.Cell) (k : Nat) (d : Dev) : Keeps [.mbx] d (rungDev m k d) :=
  (touchSession_keeps _ d).trans ⟨fun p hp => by cases p <;> first | rfl | exact absurd (by decide) hp⟩

theorem ring_free_keeps {m : List Host.Cell} {k : Nat} {d : Dev} (h : bit d.mbx.busy k = false) :
    Keeps (.mbx :: evParts) d (ring m k d) := by
  rw [ring_free h]
  exact ((rungDev_keeps m k d).mono (by decide)).trans (takeTurn_keeps m 16 _)

theorem rungDev_mbx (m : List Host.Cell) (k : Nat) (d : Dev) : (rungDev m k d).mbx = { d.mbx with
    busy := setBit d.mbx.busy k, rung := d.mbx.rung ++ [k], checked := d.mbx.checked && !d.mbx.rung.isEmpty,
    sessLast := (rungDev m k d).mbx.sessLast } := by
  dsimp only [rungDev]
  rw [touchSession_mbx]

theorem ring_free_busy {m : List Host.Cell} {k : Nat} {d : Dev} (h : bit d.mbx.busy k = false) :
    bit (ring m k d).mbx.busy k = true := by
  rw [ring_free h, takeTurn_mbx, rungDev_mbx]
  exact bit_setBit_self _ k

theorem ring_free_lastSender {m : List Host.Cell} {k : Nat} {d : Dev} (h : bit d.mbx.busy k = false) :
    (ring m k d).mbx.lastSender = d.mbx.lastSender := by
  rw [ring_free h, takeTurn_mbx, rungDev_mbx]

theorem sendNotice_over_udp {d : Dev} {dst : Endpoint} (hdst : d.mbx.lastSender = some dst) (hsel : d.mbx.hostsel = true) :
    sendNotice d = { d with free := d.free + 1, mbx := { d.mbx with sent := ⟨dst, notice d⟩ :: d.mbx.sent, notifyT := d.t } } := by
  simp [sendNotice, hdst, hsel]

theorem udpSend_keeps (dst : Endpoint) (typ xid : Nat) (bs : List Byte) (d : Dev) :
    Keeps [.sent] d (udpSend dst typ xid bs d) :=
  ⟨fun p hp => by cases p <;> first | rfl | exact absurd (by decide) hp⟩

theorem udpRead_regId {s : State} {src : Endpoint} {b : List Byte} (hup : s.dev.sys.up = true) (hoff : field b 9 8 = 0)
    (hn : field b 11 10 = 1) : udpRead src b s =
      { s with dev := udpSend src 4 (field b 7 4) (le 2 0 ++ le 2 1 ++ le 4 (regVal s.dev 0)) s.dev } := by
  have htouch : regTouch 0 s.dev = s.dev := by simp [regTouch]
  simp [udpRead, hoff, hn, readRange_one, hostWord_reg hup, take_le, htouch]

theorem udpWrite_capSel {s : State} {src : Endpoint} {b : List Byte} (hup : s.dev.sys.up = true)
    (hoff : field b 9 8 = 0x114) (hn : field b 11 10 = 1) (hlen : 12 + 4 ≤ b.length) : udpWrite src b s =
      { s with dev := (udpSend src 4 (field b 7 4) (le 2 0x114 ++ le 2 0)
        { s.dev with time := { s.dev.time with capSel := bits (field b 15 12) 2 0 } }) } := by
  have hwords : ((b.drop 12).take 4).length = 4 := by simp; omega
  have hwrite : hostWrite 0x114 ((b.drop 12).take 4) s =
      { s with dev := { s.dev with time := { s.dev.time with capSel := bits (field b 15 12) 2 0 } } } := by
    simp only [hostWrite, fastOn_of_up hup, writeRegs_whole (off := 0x114) rfl hwords isReg_capSel, regWrite_capSel hup, hwords]
    simp [field]
  have hdoor : doorSource src (field b 7 4) 0x114 ((b.drop 12).take 4) s.dev = s.dev := by simp [doorSource]
  simp [udpWrite, hoff, hn, hdoor, hwrite]

/-- Settles O8: each datagram through `udpAdmit` to its rule. -/
theorem udpDatagrams : Obligations.UdpDatagrams := by
  unfold Obligations.UdpDatagrams
  refine ⟨?command, ?read, ?write, ?renotify⟩
  case command =>
    intro s t src b hup hsel hok htyp hslot hbusy hstored
    let d1 : Dev := { devAt s t with mbx := { s.dev.mbx with
      lastSender := some src, udpSrc := tput none (field b 8 8) (some (src, field b 7 4)) s.dev.mbx.udpSrc } }
    let m := writeMem s.hostMem (slotAt (field b 8 8)) (((b.drop 12).take (16 + field b 15 14)).take 512)
    have hfree : bit d1.mbx.busy (field b 8 8) = false := hbusy
    have hrun : udpAdmit 1 b (udpCommand src b) { s with dev := devAt s t } =
        { s with dev := ring m (field b 8 8) d1, hostMem := m } := by
      rw [udpAdmit_served (s := { s with dev := devAt s t }) hup hsel hok htyp]
      simp only [udpCommand, devAt, Nat.not_le.mpr hslot, hbusy, repeatOf, hstored, if_false, Bool.false_eq_true]
      rfl
    have hfirst : Keeps (.mbx :: evParts) (devAt s t) d1 :=
      ⟨fun p hp => by cases p <;> first | rfl | exact absurd (by decide) hp⟩
    have hkeeps := hfirst.trans (ring_free_keeps (m := m) hfree)
    refine ⟨_, liftS_eq hrun rfl, rfl,
      hkeeps.t (by decide), ring_free_busy hfree, ring_free_lastSender hfree, rfl, ?_⟩
    exact (Keeps.mono (keeps_t t s.dev) (by simp)).trans (hkeeps.mono (by simp_all))
  case read =>
    intro s t src b hup hsel hok htyp hoff hn
    refine runs_liftS rfl ((udpAdmit_served (s := { s with dev := devAt s t }) hup hsel hok htyp).trans
      (udpRead_regId (s := { s with dev := devAt s t }) hup hoff hn)) (udpSend_keeps _ _ _ _ _) (by decide) rfl
  case write =>
    intro s t src b hup hsel hok htyp hoff hn
    refine runs_liftS rfl ((udpAdmit_served (s := { s with dev := devAt s t }) hup hsel hok htyp).trans
      (udpWrite_capSel (s := { s with dev := devAt s t }) hup hoff hn (length_of_igzanOk_write hok htyp hn))) ?_ (by decide)
      ⟨rfl, rfl⟩
    exact (Keeps.mono (keeps_time _ _) (by decide)).trans (Keeps.mono (udpSend_keeps _ _ _ _ _) (by decide))
  case renotify =>
    intro s t dst hline hdst hsel htime
    have hdue : hirq (devAt s t) ≠ 0 ∧ (devAt s t).mbx.notifyT + prm (devAt s t) 0x0023 0 * ticksPerMs ≤ (devAt s t).t := by
      refine ⟨hline, ?_⟩
      rwa [Nat.mul_comm]
    refine runs_eq rfl ((if_pos hdue).trans (sendNotice_over_udp (d := devAt s t) hdst hsel)) ?_ (by decide) ⟨rfl, rfl⟩
    exact ⟨fun p hp => by cases p <;> first | rfl | exact absurd (by decide) hp⟩

end Sys2Proof.Safety
end

section
/-!
PROOF. The doorbell and the completion queue (R356 to R361), and the pending bits of events (R367).
-/
namespace Sys2Proof.Safety

open Sys2Proof.Machine

/-! ### Rings -/

/-- The checks of a rung command look at the session alone. -/
theorem slotFault_congr {d e : Dev} (hclass : e.mbx.sessClass = d.mbx.sessClass) (hopen : e.mbx.sessOpen = d.mbx.sessOpen)
    (htoken : e.mbx.sessToken = d.mbx.sessToken) (b : List Byte) : slotFault e b = slotFault d b := by
  simp only [slotFault, hclass, hopen, htoken]

theorem slotFault_devAt (s : State) (t : Nat) (b : List Byte) : slotFault (devAt s t) b = slotFault s.dev b :=
  slotFault_congr rfl rfl rfl b

theorem slotFault_rungDev (m : List Host.Cell) (k : Nat) (d : Dev) (b : List Byte) :
    slotFault (rungDev m k d) b = slotFault d b :=
  slotFault_congr (by rw [rungDev_mbx]) (by rw [rungDev_mbx]) (by rw [rungDev_mbx]) b

theorem turnDue_false {d : Dev} (h : d.mbx.rung = [] ∨ d.mbx.checked = true ∨ d.mbx.paused = true ∨ d.sys.testStop = true) :
    turnDue d = false := by
  obtain h | h | h | h := h <;> simp [turnDue, h]

/-- The turn of the only waiting command, which passes the checks. -/
theorem takeTurn_passes {m : List Host.Cell} {n k : Nat} {d : Dev} (hn : 0 < n) (hdue : turnDue d = true) (hrung : d.mbx.rung = [k])
    (hok : slotFault d (slotBytes m k) = none) :
    takeTurn m n d = { d with mbx := { d.mbx with checked := true } } := by
  obtain ⟨n, rfl⟩ := Nat.exists_eq_add_one.mpr hn
  simp [takeTurn, hdue, hrung, hok]

/-- The turn of the only waiting command, which fails a check. -/
theorem takeTurn_fails {m : List Host.Cell} {n k st dt : Nat} {d : Dev} (hn : 0 < n) (hdue : turnDue d = true) (hrung : d.mbx.rung = [k])
    (hbad : slotFault d (slotBytes m k) = some (st, dt)) :
    takeTurn m n d = finish (cmdAt m k) st dt [] d := by
  have hempty : (finish (cmdAt m k) st dt [] d).mbx.rung = [] := by rw [finish_mbx, hrung]; rfl
  obtain ⟨n, rfl⟩ := Nat.exists_eq_add_one.mpr hn
  have hrest := takeTurn_eq_self (turnDue_false (.inl hempty)) m n
  simp [takeTurn, hdue, hrung, hbad, hrest]

theorem doorWrite_one {m : List Host.Cell} {k : Nat} {d : Dev} (hk : k < 16) (hup : d.sys.up = true) :
    doorWrite m (2 ^ k) d = ring m k d := by
  simp [doorWrite, hup, setBits_two_pow hk]

/-- What a ring of a free slot leaves before its turn is looked at. -/
structure Rung (m : List Host.Cell) (k : Nat) (d r : Dev) : Prop where
  ring : ring m k d = takeTurn m 16 r
  keeps : Keeps [.mbx] d r
  busy : bit r.mbx.busy k = true
  rung : r.mbx.rung = d.mbx.rung ++ [k]
  checked : r.mbx.checked = (d.mbx.checked && !d.mbx.rung.isEmpty)
  paused : r.mbx.paused = d.mbx.paused
  done : r.mbx.done = d.mbx.done
  fault : ∀ b, slotFault r b = slotFault d b

theorem exists_rung {m : List Host.Cell} {k : Nat} {d : Dev} (h : bit d.mbx.busy k = false) : ∃ r, Rung m k d r := by
  refine ⟨rungDev m k d, ring_free h, rungDev_keeps m k d, ?_, ?_, ?_, ?_, ?_, slotFault_rungDev m k d⟩ <;> rw [rungDev_mbx]
  exact bit_setBit_self _ k

theorem Rung.turnDue {m : List Host.Cell} {k : Nat} {d r : Dev} (h : Rung m k d r) (hrung : d.mbx.rung = [])
    (hpaused : d.mbx.paused = false) (htest : d.sys.testStop = false) : turnDue r = true := by
  have hsys : r.sys = d.sys := h.keeps.sys (by decide)
  simp [Machine.turnDue, hsys, h.rung, h.checked, h.paused, hrung, hpaused, htest]

/-- Settles O9: a free slot is rung, and then its turn has come or it waits. -/
theorem doorRings : Obligations.DoorRings := by
  unfold Obligations.DoorRings
  refine ⟨?passes, ?fails, ?waits, ?busy⟩
  case passes =>
    intro s t k hk hup hfree hrung hpaused htest hok
    obtain ⟨r, hr⟩ := exists_rung (m := s.hostMem) (d := devAt s t) hfree
    have hdue := hr.turnDue hrung hpaused htest
    have hhead : r.mbx.rung = [k] := by rw [hr.rung, show (devAt s t).mbx.rung = [] from hrung]; rfl
    have hrun := (doorWrite_one (m := s.hostMem) (d := devAt s t) hk hup).trans (hr.ring.trans
      (takeTurn_passes (by decide) hdue hhead ((hr.fault _).trans ((slotFault_devAt s t _).trans hok))))
    refine runs_eq rfl hrun (hr.keeps.trans ?_) (by decide) ⟨hr.busy, hhead, rfl, hr.done⟩
    exact ⟨fun p hp => by cases p <;> first | rfl | exact absurd (by decide) hp⟩
  case fails =>
    intro s t k st dt hk hup hfree hrung hpaused htest hbad
    obtain ⟨r, hr⟩ := exists_rung (m := s.hostMem) (d := devAt s t) hfree
    have hdue := hr.turnDue hrung hpaused htest
    have hhead : r.mbx.rung = [k] := by rw [hr.rung, show (devAt s t).mbx.rung = [] from hrung]; rfl
    have ht : r.t = t := hr.keeps.t (by decide)
    have hrun := (doorWrite_one (m := s.hostMem) (d := devAt s t) hk hup).trans (hr.ring.trans
      (takeTurn_fails (by decide) hdue hhead ((hr.fault _).trans ((slotFault_devAt s t _).trans hbad))))
    refine runs_eq rfl hrun (hr.keeps.mono (by decide) |>.trans (finish_keeps _ _ _ _ _)) (by decide) ?_
    rw [finish_mbx]
    refine ⟨hr.busy, congrArg List.tail hhead, ?_⟩
    simp only [hr.done, tMs, ht]
    rfl
  case waits =>
    intro s t k hk hup hfree hwait
    obtain ⟨r, hr⟩ := exists_rung (m := s.hostMem) (d := devAt s t) hfree
    have hsys : r.sys = s.dev.sys := hr.keeps.sys (by decide)
    have hrest : turnDue r = false := by
      refine turnDue_false (.inr ?_)
      rw [hr.checked, hr.paused, hsys]
      obtain ⟨hne, hchecked⟩ | hpaused | htest := hwait
      · exact .inl (by simp [devAt, hchecked, hne])
      · exact .inr (.inl hpaused)
      · exact .inr (.inr htest)
    have hrun := (doorWrite_one (m := s.hostMem) (d := devAt s t) hk hup).trans (hr.ring.trans (takeTurn_eq_self hrest _ _))
    exact runs_eq rfl hrun hr.keeps (by decide) ⟨hr.busy, hr.rung, hr.done⟩
  case busy =>
    intro s t k hk hup hbusy
    have hring : ring s.hostMem k (devAt s t) = countDoorBusy (devAt s t) := if_pos hbusy
    refine runs_eq rfl ((doorWrite_one (d := devAt s t) hk hup).trans hring) (countDoorBusy_keeps _) (by decide) ?_
    rw [countDoorBusy_mbx]
    exact ⟨rfl, rfl, rfl⟩

/-! ### Postings -/

theorem length_cqEntry (c : Completion) (ph : Bool) : (cqEntry c ph).length = 16 := by
  simp [cqEntry, length_le]

theorem length_readMem (m : List Host.Cell) (a n : Nat) : (readMem m a n).length = n := by simp [readMem]

/-- A read beside a store. -/
theorem readMem_writeMem_outside {m : List Host.Cell} {a b n : Nat} {bs : List Byte}
    (h : b + n ≤ a ∨ a + bs.length ≤ b) : readMem (writeMem m a bs) b n = readMem m b n := by
  refine List.map_congr_left fun i hi => ?_
  have hi' := List.mem_range.mp hi
  exact tget_writeMem_outside bs m a (b + i) (by omega)

/-- The header of a slot after its completion: sixteen bytes before the response. -/
theorem slotDone_eq {b : List Byte} (hb : b.length = 512) (resp : List Byte) :
    ∃ h : List Byte, h.length = 16 ∧ slotDone b resp = h ++ resp := by
  refine ⟨_, ?_, rfl⟩
  simp [length_le, hb]

theorem writeMem_append (m : List Host.Cell) (a : Nat) (bs cs : List Byte) :
    writeMem m a (bs ++ cs) = writeMem (writeMem m a bs) (a + bs.length) cs := by
  induction bs generalizing m a with
  | nil => rfl
  | cons b bs ih =>
    simp only [List.cons_append, writeMem, List.length_cons, ih]
    rw [Nat.add_right_comm, Nat.add_assoc]

theorem udpReply_sent (slot : Nat) (ent resp : List Byte) (d : Dev) : Keeps [.sent] d (udpReply slot ent resp d) := by
  unfold udpReply
  split
  · exact Keeps.refl _ d
  · exact ⟨fun p hp => by cases p <;> first | rfl | exact absurd (by decide) hp⟩

/-- The mailbox after a posting, but for the datagrams. -/
theorem postDev_mbx (c : Completion) (crc : Nat) (d : Dev) : (postDev c crc d).mbx = { d.mbx with
    done := d.mbx.done.tail, tail := (d.mbx.tail + 1) % 64,
    phase := if (d.mbx.tail + 1) % 64 = 0 then !d.mbx.phase else d.mbx.phase, unread := d.mbx.unread + 1, cqFull := false,
    busy := clrBit d.mbx.busy c.slot,
    stored := tput none c.slot (some ⟨c.tag, crc, cqEntry c d.mbx.phase, c.resp⟩) d.mbx.stored,
    sent := (postDev c crc d).mbx.sent, notifyT := (postDev c crc d).mbx.notifyT } := by
  have hraise := (raiseI_keeps 3 c.slot (udpReply c.slot (cqEntry c d.mbx.phase) c.resp { d with mbx := { d.mbx with
    done := d.mbx.done.tail, tail := (d.mbx.tail + 1) % 64,
    phase := if (d.mbx.tail + 1) % 64 = 0 then !d.mbx.phase else d.mbx.phase, unread := d.mbx.unread + 1,
    cqFull := false, busy := clrBit d.mbx.busy c.slot,
    stored := tput none c.slot (some ⟨c.tag, crc, cqEntry c d.mbx.phase, c.resp⟩) d.mbx.stored } })).mbxSent (by decide)
  unfold postDev
  dsimp only at hraise ⊢
  rw [hraise, (udpReply_sent _ _ _ _).mbxSent (by decide)]

theorem postDev_keeps (c : Completion) (crc : Nat) (d : Dev) : Keeps (.mbx :: evParts) d (postDev c crc d) := by
  unfold postDev
  refine Keeps.trans ?_ ((raiseI_keeps _ _ _).mono (by decide))
  refine Keeps.trans ?_ ((udpReply_sent _ _ _ _).mono (by decide))
  exact ⟨fun p hp => by cases p <;> first | rfl | exact absurd (by decide) hp⟩

theorem bit_clrBit_self (n k : Nat) : bit (clrBit n k) k = false := by
  unfold clrBit
  split
  case isTrue h =>
    obtain ⟨q, r, hr, hn⟩ : ∃ q r, r < 2 ^ k ∧ n = r + 2 ^ k * q :=
      ⟨n / 2 ^ k, n % 2 ^ k, Nat.mod_lt _ (Nat.two_pow_pos k), (Nat.mod_add_div n (2 ^ k)).symm⟩
    have hdiv : ∀ p, (r + 2 ^ k * p) / 2 ^ k = p := fun p => by
      rw [Nat.add_mul_div_left _ _ (Nat.two_pow_pos k), Nat.div_eq_of_lt hr, Nat.zero_add]
    have hq : q % 2 = 1 := by simpa [bit, hn, hdiv] using h
    have hsub : n - 2 ^ k = r + 2 ^ k * (q - 1) := by
      obtain ⟨p, rfl⟩ : ∃ p, q = p + 1 := ⟨q - 1, by omega⟩
      rw [hn, Nat.mul_add, Nat.add_sub_cancel]
      omega
    rw [hsub, bit, hdiv]
    simp
    omega
  case isFalse h => simpa using h

/-- The posting of `c` by `s`, with room in the queue. -/
theorem post_eq {s : State} {c : Completion} {rest : List Completion} (hdone : s.dev.mbx.done = c :: rest)
    (hroom : s.dev.mbx.unread < 64) : post s = { s with
      hostMem := writeMem (writeMem s.hostMem (slotAt c.slot) (slotDone (slotBytes s.hostMem c.slot) c.resp))
        (0x4000 + 16 * s.dev.mbx.tail) (cqEntry c s.dev.mbx.phase),
      dev := postDev c (field (slotBytes s.hostMem c.slot) 15 12) s.dev } := by
  simp [post, hdone, Nat.not_le.mpr hroom]

/-- What a posting stores: the entry at the tail, the response in the slot, and nothing elsewhere. -/
theorem posted_memory (m : List Host.Cell) {c : Completion} {tail : Nat} (ph : Bool) (htail : tail < 64) (hslot : c.slot < 16)
    (hlen : c.resp.length ≤ 496) :
    let m' := writeMem (writeMem m (slotAt c.slot) (slotDone (slotBytes m c.slot) c.resp)) (0x4000 + 16 * tail) (cqEntry c ph)
    readMem m' (0x4000 + 16 * tail) 16 = cqEntry c ph ∧ readMem m' (slotAt c.slot + 16) c.resp.length = c.resp ∧
      ∀ j, j < slotAt c.slot ∨ slotAt (c.slot + 1) ≤ j → j < 0x4000 + 16 * tail ∨ 0x4000 + 16 * (tail + 1) ≤ j →
        tget 0 m' j = tget 0 m j := by
  obtain ⟨h, hh, hslotDone⟩ := slotDone_eq (length_readMem m (slotAt c.slot) 512) c.resp
  have hent := length_cqEntry c ph
  have hbytes : slotDone (slotBytes m c.slot) c.resp = h ++ c.resp := hslotDone
  have hat : slotAt c.slot = 0x2000 + 512 * c.slot := rfl
  intro m'
  refine ⟨?entry, ?response, ?frame⟩
  case entry =>
    have hself := readMem_writeMem_self
      (writeMem m (slotAt c.slot) (slotDone (slotBytes m c.slot) c.resp)) (0x4000 + 16 * tail) (cqEntry c ph)
    rwa [hent] at hself
  case response =>
    rw [readMem_writeMem_outside (by omega), hbytes, writeMem_append, hh]
    exact readMem_writeMem_self _ _ _
  case frame =>
    intro j hj hq
    have hnext : slotAt (c.slot + 1) = slotAt c.slot + 512 := by simp only [slotAt]; omega
    rw [tget_writeMem_outside _ _ _ _ (by omega), tget_writeMem_outside _ _ _ _ (by rw [hbytes, List.length_append]; omega)]

/-- A posting completes at its tick, from the device `d` that the turns leave. -/
theorem exec_post {s : State} {t : Nat} {d : Dev} {c : Completion} {rest : List Completion}
    (hturn : takeTurn s.hostMem 16 (devAt s t) = d) (hdone : d.mbx.done = c :: rest) (hroom : d.mbx.unread < 64) :
    exec (.completionPost t) s = .next { s with
      hostMem := writeMem (writeMem s.hostMem (slotAt c.slot) (slotDone (slotBytes s.hostMem c.slot) c.resp))
        (0x4000 + 16 * d.mbx.tail) (cqEntry c d.mbx.phase),
      dev := postDev c (field (slotBytes s.hostMem c.slot) 15 12) d } := by
  subst hturn
  exact congrArg Host.Outcome.next (post_eq (s := { s with dev := takeTurn s.hostMem 16 (devAt s t) }) hdone hroom)

theorem keeps_devAt {s : State} {t : Nat} {ps : List Part} {e : Dev} (h : Keeps ps (devAt s t) e) :
    Keeps (.t :: ps) s.dev e :=
  (Keeps.mono (keeps_t t s.dev) (by simp)).trans (h.mono (by simp_all))

theorem headWrite_back {d : Dev} {v : Nat} (hup : d.sys.up = true) (h : d.mbx.unread < (v % 64 + 64 - d.mbx.head) % 64) :
    headWrite v d = setAccErr d := by
  simp [headWrite, hup, h]

/-- A bit of a mask of 32 bits that stands at word `k`. -/
theorem getLsbD_word {k v i : Nat} (hv : v < 2 ^ 32) (hi : i < 128) :
    (BitVec.ofNat 128 v <<< (32 * k)).getLsbD i = (decide (32 * k ≤ i ∧ i < 32 * k + 32) && bit v (i - 32 * k)) := by
  have hbit : ∀ j, v.testBit j = bit v j := fun j => by
    rw [Nat.testBit_eq_decide_div_mod_eq, bit]
  simp only [BitVec.getLsbD_shiftLeft, BitVec.getLsbD_ofNat, hi, decide_true, Bool.true_and]
  by_cases hlo : 32 * k ≤ i
  · by_cases hhi : i < 32 * k + 32
    · have : i - 32 * k < 128 := by omega
      simp [Nat.not_lt.mpr hlo, hlo, hhi, this, hbit]
    · have hzero : v.testBit (i - 32 * k) = false := Nat.testBit_lt_two_pow (lt_of_lt_of_le hv (Nat.pow_le_pow_right (by decide) (by omega)))
      simp [hlo, hhi, hzero]
  · simp [hlo, Nat.not_le.mp hlo]

/-- Settles O10: the postings, and the writes of the head and of the pending bits. -/
theorem completionQueue : Obligations.CompletionQueue := by
  unfold Obligations.CompletionQueue
  refine ⟨?post, ?full, ?late, ?head, ?past, ?pend⟩
  case post =>
    intro s t c rest hturn hdone hroom htail hslot hlen
    have hself : takeTurn s.hostMem 16 (devAt s t) = devAt s t := takeTurn_eq_self (d := devAt s t) hturn _ _
    obtain ⟨hent, hresp, hframe⟩ := posted_memory s.hostMem s.dev.mbx.phase htail hslot hlen
    have hmbx := postDev_mbx c (field (slotBytes s.hostMem c.slot) 15 12) (devAt s t)
    have hkeeps := postDev_keeps c (field (slotBytes s.hostMem c.slot) 15 12) (devAt s t)
    refine ⟨_, exec_post hself hdone hroom, rfl, hkeeps.t (by decide), hent, hresp, hframe, ?_⟩
    dsimp only
    rw [hmbx]
    exact ⟨congrArg List.tail hdone, rfl, rfl, bit_clrBit_self _ _, keeps_devAt hkeeps⟩
  case full =>
    intro s t hturn hne hfull
    obtain ⟨c, rest, hdone⟩ := List.exists_cons_of_ne_nil hne
    have hself : takeTurn s.hostMem 16 (devAt s t) = devAt s t := takeTurn_eq_self (d := devAt s t) hturn _ _
    have hexec : exec (.completionPost t) s =
        .next { s with dev := { devAt s t with mbx := { s.dev.mbx with cqFull := true } } } := by
      refine congrArg Host.Outcome.next ?_
      change post { s with dev := takeTurn s.hostMem 16 (devAt s t) } = _
      rw [hself]
      simp [post, devAt, hdone, hfull]
    refine ⟨_, hexec, rfl, ⟨rfl, rfl, keeps_devAt (t := t) (ps := [.mbx]) ?_⟩, rfl⟩
    exact ⟨fun p hp => by cases p <;> first | rfl | exact absurd (by decide) hp⟩
  case late =>
    intro s t k st dt hdue hrung hdone hk hroom htail hbad
    generalize hc : cmdAt s.hostMem k = c
    have hslot : c.slot = k := by rw [← hc]; rfl
    have hfail : takeTurn s.hostMem 16 (devAt s t) = finish c st dt [] (devAt s t) := by
      rw [← hc]
      exact takeTurn_fails (d := devAt s t) (by decide) hdue hrung ((slotFault_devAt s t _).trans hbad)
    have hkeepsE := finish_keeps c st dt [] (devAt s t)
    have hmbxE := finish_mbx c st dt [] (devAt s t)
    generalize finish c st dt [] (devAt s t) = e at hfail hkeepsE hmbxE
    have htailE : e.mbx.tail = s.dev.mbx.tail := by rw [hmbxE]; rfl
    have hphaseE : e.mbx.phase = s.dev.mbx.phase := by rw [hmbxE]; rfl
    have hdoneE : e.mbx.done = [⟨k, c.tag, c.op, st, dt, [], t / 400000⟩] := by
      rw [hmbxE, ← hslot]
      exact congrArg (· ++ [(⟨c.slot, c.tag, c.op, st, dt, [], t / 400000⟩ : Completion)]) hdone
    have hroomE : e.mbx.unread < 64 := by rw [hmbxE]; exact hroom
    have hrungE : e.mbx.rung = [] := by rw [hmbxE]; exact congrArg List.tail hrung
    have hexec := exec_post hfail hdoneE hroomE
    obtain ⟨hent, -, -⟩ := posted_memory s.hostMem (c := ⟨k, c.tag, c.op, st, dt, [], t / 400000⟩) s.dev.mbx.phase htail hk
      (by simp)
    have hkeeps : Keeps (.mbx :: evParts) (devAt s t)
        (postDev ⟨k, c.tag, c.op, st, dt, [], t / 400000⟩ (field (slotBytes s.hostMem k) 15 12) e) :=
      hkeepsE.trans (postDev_keeps _ _ e)
    rw [htailE, hphaseE] at hexec
    refine ⟨_, hexec, rfl, hkeeps.t (by decide), hent, ?_⟩
    dsimp only
    rw [postDev_mbx]
    exact ⟨hrungE, by rw [hdoneE]; rfl, bit_clrBit_self _ _, keeps_devAt hkeeps⟩
  case head =>
    intro s t v hup hle
    have hhead : headWrite v (devAt s t) = { devAt s t with mbx := { s.dev.mbx with
        head := v % 64, unread := s.dev.mbx.unread - (v % 64 + 64 - s.dev.mbx.head) % 64 } } := by
      simp [headWrite, devAt, hup, Nat.not_lt.mpr hle]
    exact runs_eq rfl hhead ⟨fun p hp => by cases p <;> first | rfl | exact absurd (by decide) hp⟩ (by decide) ⟨rfl, rfl⟩
  case past =>
    intro s t v hup hlt
    refine runs_eq rfl (headWrite_back (d := devAt s t) hup hlt) (setAccErr_keeps _) (by decide) ?_
    rw [setAccErr_mbx]
    exact ⟨rfl, rfl, rfl⟩
  case pend =>
    intro s t k v hup hk hv
    have hwrite : evPendWrite k v (devAt s t) = { devAt s t with ev := { s.dev.ev with
        pend := s.dev.ev.pend &&& ~~~ (BitVec.ofNat 128 v <<< (32 * k)) } } := by
      have hcond : k < 4 ∧ (devAt s t).sys.up = true := ⟨hk, hup⟩
      rw [evPendWrite, if_pos hcond, Nat.mod_eq_of_lt hv]
      rfl
    refine runs_eq rfl hwrite (keeps_ev _ _) (by decide) ⟨fun i hi => ?_, rfl⟩
    simp only [BitVec.getLsbD_and, BitVec.getLsbD_not, hi, decide_true, Bool.true_and, getLsbD_word hv hi]

end Sys2Proof.Safety
end

section
/-!
PROOF. Carriers, edges and dead times of a leg (R115 to R124), legs lost to their driver inputs (R126, R134, R138, R139),
and the gate commands (R134, R135, R141, R143).
-/
namespace Sys2Proof.Safety

open Sys2Proof.Machine

/-! ### Reading a leg after shared operations -/

theorem leg_of_legs {d e : Dev} (h : e.legs = d.legs) (n : Nat) : leg e n = leg d n := by
  simp only [leg, h]

@[simp] theorem leg_raiseI (ev i : Nat) (d : Dev) (n : Nat) : leg (raiseI ev i d) n = leg d n :=
  leg_of_legs (raiseI_legs ev i d) n

@[simp] theorem leg_raise (ev i : Nat) (v : List Byte) (d : Dev) (n : Nat) : leg (raise ev i v d) n = leg d n :=
  leg_of_legs (raise_legs ev i v d) n

@[simp] theorem leg_answer (st dt : Nat) (d : Dev) (n : Nat) : leg (answer st dt d) n = leg d n := rfl

theorem otherLegs_of_legs {d e : Dev} (h : e.legs = d.legs) (n : Nat) : OtherLegs n d e := fun m _ => leg_of_legs h m

theorem OtherLegs.trans {n : Nat} {d e f : Dev} (h : OtherLegs n d e) (k : OtherLegs n e f) : OtherLegs n d f :=
  fun m hm => (k m hm).trans (h m hm)

theorem OtherLegs.refl (n : Nat) (d : Dev) : OtherLegs n d d := fun _ _ => rfl

/-! ### The carrier of a leg at its period start -/

/-- The period that has begun is the same in `x` and in `y`, and its planned edges. -/
structure SamePeriod (x y : Leg) : Prop where
  start : y.start = x.start
  running : y.running = x.running
  rise : y.rise = x.rise
  fall : y.fall = x.fall

theorem SamePeriod.refl (x : Leg) : SamePeriod x x := ⟨rfl, rfl, rfl, rfl⟩

theorem SamePeriod.trans {x y z : Leg} (h : SamePeriod x y) (k : SamePeriod y z) : SamePeriod x z :=
  ⟨k.start.trans h.start, k.running.trans h.running, k.rise.trans h.rise, k.fall.trans h.fall⟩

/-- What a period start may touch beside the legs: the cut of its window, the pulse of SYNC_OUT, the committed values it
loads, the scans it triggers, and events. -/
def periodParts : List Part := [.legs, .wins, .pwm, .prm, .acq] ++ evParts

/-- A part of the work of a period start of leg `n`, after the period has begun. -/
structure InPeriod (n : Nat) (d e : Dev) : Prop where
  keeps : Keeps periodParts d e
  others : OtherLegs n d e
  period : SamePeriod (leg d n) (leg e n)

theorem InPeriod.refl (n : Nat) (d : Dev) : InPeriod n d d := ⟨Keeps.refl _ d, OtherLegs.refl n d, SamePeriod.refl _⟩

theorem InPeriod.trans {n : Nat} {d e f : Dev} (h : InPeriod n d e) (k : InPeriod n e f) : InPeriod n d f :=
  ⟨h.keeps.trans k.keeps, h.others.trans k.others, h.period.trans k.period⟩

/-- Work that leaves the legs as they were. -/
theorem inPeriod_of_keeps {ps : List Part} {d e : Dev} (n : Nat) (h : Keeps ps d e) (hs : ∀ p ∈ ps, p ∈ periodParts)
    (hl : Part.legs ∉ ps) : InPeriod n d e :=
  ⟨h.mono hs, otherLegs_of_legs (h.legs hl) n, by rw [leg_of_legs (h.legs hl)]; exact SamePeriod.refl _⟩

theorem inPeriod_modLeg (n : Nat) (f : Leg → Leg) (d : Dev)
    (hf : ∀ x, SamePeriod x (f x) := by exact fun _ => ⟨rfl, rfl, rfl, rfl⟩) : InPeriod n d (modLeg n f d) :=
  ⟨(modLeg_keeps n f d).mono (by decide), otherLegs_modLeg n f d, by rw [leg_modLeg_self]; exact hf _⟩

theorem inPeriod_ite {n : Nat} {c : Prop} [Decidable c] {d e f : Dev} (h : InPeriod n d e) (k : InPeriod n d f) :
    InPeriod n d (if c then e else f) := by
  split
  · exact h
  · exact k

theorem inPeriod_raiseI (n ev i : Nat) (d : Dev) : InPeriod n d (raiseI ev i d) :=
  inPeriod_of_keeps n (raiseI_keeps ev i d) (by decide) (by decide)

theorem creditGl_inPeriod (n f : Nat) (d : Dev) : InPeriod n d (creditGl n f d) := by
  unfold creditGl
  split
  · exact inPeriod_ite (inPeriod_modLeg n _ d) (InPeriod.refl n d)
  · exact InPeriod.refl n d

theorem regateLeg_inPeriod (n : Nat) (d : Dev) : InPeriod n d (regateLeg n d) := by
  refine inPeriod_ite (InPeriod.refl n d) (inPeriod_ite ?_ ?_)
  · exact (creditGl_inPeriod n _ d).trans (inPeriod_modLeg n _ _)
  · exact inPeriod_modLeg n _ d

theorem shootPeriod_inPeriod (n : Nat) (d : Dev) : InPeriod n d (shootPeriod n d) :=
  inPeriod_modLeg n _ d

theorem startLeg_inPeriod (n : Nat) (d : Dev) : InPeriod n d (startLeg n d) :=
  inPeriod_modLeg n _ d

theorem inPeriod_modWin (n w : Nat) (f : Window → Window) (d : Dev) : InPeriod n d (modWin w f d) :=
  inPeriod_of_keeps n (modWin_keeps w f d) (by decide) (by decide)

theorem cutPeriod_inPeriod (n : Nat) (d : Dev) : InPeriod n d (cutPeriod n d) := by
  refine inPeriod_ite ((inPeriod_modWin n n _ d).trans (inPeriod_ite (InPeriod.refl n _) ?_)) (inPeriod_modWin n n _ d)
  exact (inPeriod_modWin n n _ _).trans (inPeriod_raiseI n 51 n _)

theorem inPeriod_pwm (n : Nat) (x : Pwm) (d : Dev) : InPeriod n d { d with pwm := x } :=
  inPeriod_of_keeps n (keeps_pwm x d) (by decide) (by decide)

theorem rejoinLeg_inPeriod (n : Nat) (d : Dev) : InPeriod n d (rejoinLeg n d) := by
  refine inPeriod_ite ?_ (InPeriod.refl n d)
  exact inPeriod_ite ((inPeriod_pwm n _ d).trans (startLeg_inPeriod n _)) (inPeriod_pwm n _ d)

theorem scanTrig_keeps (f : Nat) (d : Dev) : Keeps [.acq] d (scanTrig f d) :=
  keeps_ite (fun _ => keeps_acq _ d) (fun _ => keeps_acq _ d)

theorem legTrig_keeps (n : Nat) (peak : Bool) (d : Dev) : Keeps [.acq] d (legTrig n peak d) :=
  keeps_forAll 13 _ (fun f e => keeps_ite (fun _ => scanTrig_keeps f e) (fun _ => Keeps.refl _ e)) d

theorem interlock_inPeriod (n : Nat) (d : Dev) : InPeriod n d (interlock n d) := by
  have hblock := inPeriod_modLeg n (fun y => { y with blocked := true, glOn := none, shootCnt := incSat 255 y.shootCnt }) d
  have hep : ∀ e : Dev, InPeriod n e (modLeg n (fun y => { y with shootEp := ep d + 1 }) e) := fun e =>
    inPeriod_modLeg n _ e
  refine inPeriod_ite (hblock.trans (inPeriod_ite (InPeriod.refl n _) ?_)) (InPeriod.refl n d)
  exact ((hep _).trans (inPeriod_raiseI n 41 n _)).trans (inPeriod_pwm n _ _)

/-- The values that a period start loads are written one by one. -/
theorem foldl_load_keeps (n : Nat) (l : Tab (Option Nat)) (d : Dev) : Keeps [.prm] d (l.foldl (fun e kv => match kv.2 with
    | some v => setPrm kv.1 n v e
    | none => e) d) :=
  keeps_foldl _ (fun e kv => by
    split
    · exact setPrm_keeps _ _ _ e
    · exact Keeps.refl _ e) l d

/-- The skew rule of R131: a leg without a driver whose period has moved keeps a high time that fits. -/
def skewRule (n : Nat) (d : Dev) : Dev :=
  let e := { d with pwm := { d.pwm with skewAny := true } }
  if 16 * prm e 0x3104 n < prm e 0x3106 n then setPrm 0x3106 n (16 * prm e 0x3104 n) e else e

theorem skewRule_inPeriod (n : Nat) (d : Dev) : InPeriod n d (skewRule n d) := by
  have hprm : ∀ (v : Nat) (e : Dev), InPeriod n e (setPrm 0x3106 n v e) := fun v e =>
    inPeriod_of_keeps n (setPrm_keeps 0x3106 n v e) (by decide) (by decide)
  exact (inPeriod_pwm n _ d).trans (inPeriod_ite (hprm _ _) (InPeriod.refl n _))

theorem loadShadow_inPeriod (n : Nat) (d : Dev) : InPeriod n d (loadShadow n d) := by
  unfold loadShadow
  refine inPeriod_ite (InPeriod.refl n d) ?_
  refine InPeriod.trans (inPeriod_of_keeps n (foldl_load_keeps n (leg d n).load d) (by decide) (by decide)) ?_
  refine InPeriod.trans (inPeriod_modLeg n _ _) (inPeriod_ite ?_ (InPeriod.refl n _))
  refine InPeriod.trans (inPeriod_modLeg n (fun y => { y with skew := true }) _) ?_
  exact InPeriod.trans (inPeriod_raiseI n 40 n _) (skewRule_inPeriod n _)

/-- What comes after the period has begun: the counts and cuts of the one before, the gate, a rejoining leg, SYNC_OUT, the
scans and the interlock. -/
def periodRest (n : Nat) (d : Dev) : Dev :=
  let d6 := rejoinLeg n (regateLeg n (cutPeriod n (shootPeriod n d)))
  interlock n (legTrig n false (if n = 47 ∧ prm d6 0x3140 0 = 1 then
    { d6 with pwm := { d6.pwm with syncOut := true, syncEnd := d.t + prm d6 0x3141 0 } } else d6))

theorem periodRest_inPeriod (n : Nat) (d : Dev) : InPeriod n d (periodRest n d) := by
  have h6 := (((shootPeriod_inPeriod n d).trans (cutPeriod_inPeriod n _)).trans (regateLeg_inPeriod n _)).trans
    (rejoinLeg_inPeriod n _)
  have htrig : ∀ e : Dev, InPeriod n e (legTrig n false e) := fun e =>
    inPeriod_of_keeps n (legTrig_keeps n false e) (by decide) (by decide)
  exact ((h6.trans (inPeriod_ite (inPeriod_pwm n _ _) (InPeriod.refl n _))).trans (htrig _)).trans (interlock_inPeriod n _)

/-- The leg before its committed values load. -/
def periodClear (n : Nat) (d : Dev) : Dev :=
  modLeg n (fun x => { x with
    refresh := if x.refreshed then 0 else if x.insvc then x.refresh + 1 else 0,
    refreshed := false, transition := false, forceLow := false, rise := none, fall := none }) (creditPeriod n d)

theorem creditPeriod_inPeriod (n : Nat) (d : Dev) : InPeriod n d (creditPeriod n d) :=
  (creditGl_inPeriod n _ d).trans (inPeriod_ite (inPeriod_modLeg n _ _) (InPeriod.refl n _))

theorem periodStart_eq {n : Nat} {d : Dev} (hn : n < 48) (hrun : carriersRun d = true) (hdue : periodDue d n = true)
    (hnew : (leg d n).running = true → (leg d n).start ≠ d.t) : periodStart n d =
      periodRest n (modLeg n (fun x => { x with
        start := d.t, len := periodLen (loadShadow n (periodClear n d)) n, running := true, pend := false,
        starts := (d.t :: x.starts).take 4 }) (loadShadow n (periodClear n d))) := by
  have ht : (loadShadow n (periodClear n d)).t = d.t :=
    (((creditPeriod_inPeriod n d).keeps.trans ((modLeg_keeps n _ _).mono (by decide))).trans
      (loadShadow_inPeriod n _).keeps).t (by decide)
  rw [periodStart, if_pos ⟨hn, hrun, hdue, hnew⟩]
  simp only [periodRest, modLeg_t, ht]
  rfl

/-- A due period start begins the period: its tick, and no edge planned. -/
theorem periodStart_begins {n : Nat} {d : Dev} (hn : n < 48) (hrun : carriersRun d = true) (hdue : periodDue d n = true)
    (hnew : (leg d n).running = true → (leg d n).start ≠ d.t) :
    Keeps periodParts d (periodStart n d) ∧ OtherLegs n d (periodStart n d) ∧
      (leg (periodStart n d) n).start = d.t ∧ (leg (periodStart n d) n).running = true ∧
      (leg (periodStart n d) n).rise = none ∧ (leg (periodStart n d) n).fall = none := by
  rw [periodStart_eq hn hrun hdue hnew]
  have hcredit := creditPeriod_inPeriod n d
  have hload := loadShadow_inPeriod n (periodClear n d)
  have hclear : (leg (periodClear n d) n).rise = none ∧ (leg (periodClear n d) n).fall = none := by
    simp [periodClear]
  generalize hb : modLeg n (fun x : Leg => { x with
    start := d.t, len := periodLen (loadShadow n (periodClear n d)) n, running := true, pend := false,
    starts := (d.t :: x.starts).take 4 }) (loadShadow n (periodClear n d)) = b
  have hbegin : Keeps periodParts (loadShadow n (periodClear n d)) b ∧ OtherLegs n (loadShadow n (periodClear n d)) b :=
    hb ▸ ⟨(modLeg_keeps n _ _).mono (by decide), otherLegs_modLeg n _ _⟩
  have hleg : (leg b n).start = d.t ∧ (leg b n).running = true ∧ (leg b n).rise = none ∧ (leg b n).fall = none := by
    rw [← hb, leg_modLeg_self]
    exact ⟨rfl, rfl, hload.period.rise.trans hclear.1, hload.period.fall.trans hclear.2⟩
  have hrest := periodRest_inPeriod n b
  obtain ⟨hstart, hrunning, hrise, hfall⟩ := hleg
  refine ⟨?_, ?_, hrest.period.start.trans hstart, hrest.period.running.trans hrunning, hrest.period.rise.trans hrise,
    hrest.period.fall.trans hfall⟩
  · exact (((hcredit.keeps.trans ((modLeg_keeps n _ _).mono (by decide))).trans hload.keeps).trans hbegin.1).trans hrest.keeps
  · exact (((hcredit.others.trans (otherLegs_modLeg n _ _)).trans hload.others).trans hbegin.2).trans hrest.others

/-! ### Load points -/

/-- A change of leg `n` alone, and of nothing else. -/
structure LegAlone (n : Nat) (d e : Dev) : Prop where
  keeps : Keeps [.legs] d e
  others : OtherLegs n d e

theorem LegAlone.refl (n : Nat) (d : Dev) : LegAlone n d d := ⟨Keeps.refl _ d, OtherLegs.refl n d⟩

theorem LegAlone.trans {n : Nat} {d e f : Dev} (h : LegAlone n d e) (k : LegAlone n e f) : LegAlone n d f :=
  ⟨h.keeps.trans k.keeps, h.others.trans k.others⟩

theorem legAlone_modLeg (n : Nat) (f : Leg → Leg) (d : Dev) : LegAlone n d (modLeg n f d) :=
  ⟨modLeg_keeps n f d, otherLegs_modLeg n f d⟩

theorem legAlone_ite {n : Nat} {c : Prop} [Decidable c] {d e f : Dev} (h : LegAlone n d e) (k : LegAlone n d f) :
    LegAlone n d (if c then e else f) := by
  split
  · exact h
  · exact k

theorem loadValley_alone (n : Nat) (d : Dev) : LegAlone n d (loadValley n d) := by
  have h := legAlone_modLeg n
  exact legAlone_ite (legAlone_ite ((h _ d).trans (h _ _)) ((h _ d).trans (h _ _))) (h _ d)

theorem loadPeak_alone (n : Nat) (d : Dev) : LegAlone n d (loadPeak n d) := by
  have h := legAlone_modLeg n
  exact legAlone_ite (legAlone_ite (h _ d) ((h _ d).trans (h _ _))) (h _ d)

theorem h1_loadValley (n : Nat) (d : Dev) : (leg (loadValley n d) n).h1 = highTime d n (leg d n).len := by
  unfold loadValley
  dsimp only
  split
  · split <;> simp
  · simp

theorem h2_loadPeak {n : Nat} {d : Dev} (h : prm d 0x3107 n = 1) :
    (leg (loadPeak n d) n).h2 = highTime d n (leg d n).len := by
  unfold loadPeak
  simp only [h, or_true, if_true]
  split <;> simp

/-! ### Edges and dead times -/

theorem creditGl_alone (n f : Nat) (d : Dev) : LegAlone n d (creditGl n f d) := by
  unfold creditGl
  split
  · exact legAlone_ite (legAlone_modLeg n _ d) (LegAlone.refl n d)
  · exact LegAlone.refl n d

theorem gh3_creditGl (n f : Nat) (d : Dev) : (leg (creditGl n f d) n).gh3 = (leg d n).gh3 := by
  unfold creditGl
  split
  · split <;> simp
  · rfl

theorem sEdge_rise_eq {n p : Nat} {d : Dev} (hn : n < 48) (hrun : carriersRun d = true) (hon : (leg d n).running = true)
    (hrise : (leg d n).rise = some p) (hlo : (leg d n).start * 16 + p ≤ d.t * 16)
    (hhi : d.t * 16 < (leg d n).start * 16 + p + 16) (hs : (leg d n).s = false) (hforce : (leg d n).forceLow = false) :
    sEdge n true d = setS n true d := by
  simp [sEdge, hrise, hn, hrun, hon, atFine, hlo, hhi, hs, hforce]

theorem setS_rise_eq {n p : Nat} {d : Dev} (hrole : role d n ≠ 4) (hrise : (leg d n).rise = some p) : setS n true d =
    modLeg n (fun x => { x with
      s := true, rise := none, lastRise := some (16 * (leg d n).start + p), gl3 := false, glOn := none,
      dt := some true, dtAt := 16 * (leg d n).start + p + prm d 0x3109 n }) (creditGl n (16 * (leg d n).start + p) d) := by
  simp [setS, hrole, hrise, turnOn]

theorem deadTime_high_eq {n : Nat} {d : Dev} (hn : n < 48) (hrun : carriersRun d = true) (hdt : (leg d n).dt = some true)
    (hgl : (leg d n).gl3 = false) (hforce : bit (leg d n).force 0 = false) (hlo : (leg d n).dtAt ≤ d.t * 16)
    (hhi : d.t * 16 < (leg d n).dtAt + 16) :
    deadTime n true d = modLeg n (fun x => { x with gh3 := true, dt := none }) d := by
  simp [deadTime, hn, hrun, hdt, atFine, hlo, hhi, interlock, stage4, hgl, hforce]

theorem setS_fall_eq {n : Nat} {d : Dev} (hrole : role d n ≠ 4) : ∃ a b, setS n false d =
    modLeg n (fun x => { x with s := false, fall := none, lastFall := some a, gh3 := false, dt := some false, dtAt := b }) d :=
  ⟨_, _, (if_neg hrole).trans rfl⟩

theorem role_of_refreshDue {n : Nat} {d : Dev} (h : refreshDue d n = true) : role d n ≠ 4 := by
  simp only [refreshDue, refreshes, Bool.and_eq_true] at h
  obtain ⟨⟨⟨⟨⟨-, -, hrole⟩, -⟩, -⟩, -⟩, -⟩ := h
  simpa using hrole

theorem bootRefresh_eq {n : Nat} {d : Dev} (hn : n < 48) (hrun : carriersRun d = true) (hon : (leg d n).running = true)
    (hdue : refreshDue d n = true) (hlo : 16 * (leg d n).start + refreshFall d n ≤ d.t * 16)
    (hhi : d.t * 16 < 16 * (leg d n).start + refreshFall d n + 16) : bootRefresh n d =
      modLeg n (fun y => { y with forceLow := true, bootEnf := true })
        (setS n false (modLeg n (fun y => { y with fall := some (refreshFall d n) }) d)) := by
  simp [bootRefresh, hn, hrun, hon, hdue, atFine, hlo, hhi]

/-- Settles O11: each event of a carrier by what it does to its leg. -/
theorem carrierEvents : Obligations.CarrierEvents := by
  unfold Obligations.CarrierEvents
  refine ⟨?period, ?valley, ?peak, ?rise, ?deadTime, ?refresh, ?syncOut⟩
  case period =>
    intro s t n hn hrun hdue hnew
    obtain ⟨hkeeps, hothers, hstart, hrunning, hrise, hfall⟩ :=
      periodStart_begins (n := n) (d := devAt s t) hn hrun hdue hnew
    exact runs_lift rfl hkeeps (by decide) ⟨hstart, hrunning, hrise, hfall, hothers⟩
  case valley =>
    intro s t n hn hrun hon hstart
    have hload : loadPoint n false (devAt s t) = loadValley n (devAt s t) := if_pos ⟨hn, hrun, hon, hstart.symm⟩
    have halone := loadValley_alone n (devAt s t)
    exact runs_eq rfl hload halone.keeps (by decide) ⟨h1_loadValley n (devAt s t), halone.others⟩
  case peak =>
    intro s t n hn hrun hon hmid hdouble
    have hload : loadPoint n true (devAt s t) = legTrig n true (loadPeak n (devAt s t)) := if_pos ⟨hn, hrun, hon, hmid.symm⟩
    have halone := loadPeak_alone n (devAt s t)
    have htrig := legTrig_keeps n true (loadPeak n (devAt s t))
    refine runs_eq rfl hload ((halone.keeps.mono (by decide)).andThen htrig (by decide)) (by decide) ⟨?_, ?_⟩
    · rw [leg_of_legs (htrig.legs (by decide))]
      exact h2_loadPeak (d := devAt s t) hdouble
    · exact halone.others.trans (otherLegs_of_legs (htrig.legs (by decide)) n)
  case rise =>
    intro s t n p hn hrun hon hrole hrise hlo hhi hs hforce
    have hedge := (sEdge_rise_eq (d := devAt s t) hn hrun hon hrise hlo hhi hs hforce).trans
      (setS_rise_eq (d := devAt s t) hrole hrise)
    have hcredit := creditGl_alone n (16 * (leg (devAt s t) n).start + p) (devAt s t)
    refine runs_eq rfl hedge (hcredit.trans (legAlone_modLeg n _ _)).keeps (by decide) ?_
    rw [leg_modLeg_self]
    exact ⟨rfl, rfl, rfl, rfl, gh3_creditGl _ _ _, (hcredit.trans (legAlone_modLeg n _ _)).others⟩
  case deadTime =>
    intro s t n hn hrun hdt hgl hforce hlo hhi
    refine runs_eq rfl (deadTime_high_eq (d := devAt s t) hn hrun hdt hgl hforce hlo hhi) (modLeg_keeps n _ _) (by decide) ?_
    rw [leg_modLeg_self]
    exact ⟨rfl, hgl, rfl, otherLegs_modLeg n _ _⟩
  case refresh =>
    intro s t n hn hrun hon hdue hlo hhi
    have hrole := role_of_refreshDue hdue
    obtain ⟨a, b, hset⟩ := setS_fall_eq (n := n)
      (d := modLeg n (fun y => { y with fall := some (refreshFall (devAt s t) n) }) (devAt s t)) hrole
    have hboot := bootRefresh_eq (d := devAt s t) hn hrun hon hdue hlo hhi
    rw [hset] at hboot
    refine runs_eq rfl hboot ?_ (by decide) ?_
    · exact ((modLeg_keeps n _ _).trans (modLeg_keeps n _ _)).trans (modLeg_keeps n _ _)
    · simp only [leg_modLeg_self, true_and]
      exact ((otherLegs_modLeg n _ _).trans (otherLegs_modLeg n _ _)).trans (otherLegs_modLeg n _ _)
  case syncOut =>
    intro s t ht
    have hend : syncOutEnd (devAt s t) = { devAt s t with pwm := { s.dev.pwm with syncOut := false } } := if_pos ht.symm
    exact runs_eq rfl hend (keeps_pwm _ _) (by decide) rfl

end Sys2Proof.Safety
end

section
/-!
PROOF. Legs lost to their driver inputs (R126, R134, R138, R139), the gate commands (R135, R141, R143), and legs that enter
and leave service (R125, R183, R278, R283).
-/
namespace Sys2Proof.Safety

open Sys2Proof.Machine

/-! ### Legs that are lost -/

/-- A leg in service that is lost leaves it with its inputs and latches as they were. -/
theorem legOut_of_inSvc {n : Nat} {back : Bool} {d : Dev} (h : (leg d n).insvc = true) :
    LegStays (legLeft (leg d n)) (leg (legOut n back d) n) := legOut_leaves n back d (by simp [inSvc, h])

theorem duvTrip_of_inSvc {n : Nat} {d : Dev} (h : (leg d n).insvc = true) :
    Keeps tripParts d (duvTrip n d) ∧ inSvc (duvTrip n d) n = false ∧ (leg (duvTrip n d) n).duvIn = (leg d n).duvIn ∧
      (leg (duvTrip n d) n).duvLat = true := by
  have hsvc : (leg (raiseI 43 n (modLeg n (fun x => { x with duvLat := true }) d)) n).insvc = true := by simpa using h
  have hstays := legOut_of_inSvc (back := false) hsvc
  simp only [leg_raiseI, leg_modLeg_self] at hstays
  refine ⟨?_, hstays.out rfl, hstays.duvIn, hstays.duvLat⟩
  exact (((modLeg_keeps n _ d).mono (by decide)).andThen (raiseI_keeps _ _ _) (by decide)).trans (legOut_keeps _ _ _)

theorem dfltAssert_of_inSvc {n : Nat} {d : Dev} (hn : n < 48) (h : inSvc d n = true) :
    Keeps tripParts d (dfltAssert n d) ∧ inSvc (dfltAssert n d) n = false ∧ (leg (dfltAssert n d) n).dfltIn = true ∧
      (leg (dfltAssert n d) n).dfltLat = true := by
  have hsvc : (leg d n).insvc = true := h
  have heq : dfltAssert n d = legOut n false (raiseI 42 n (modLeg n (fun x => { x with dfltLat := true })
      (modLeg n (fun x => { x with dfltIn := true }) d))) := by simp [dfltAssert, hn, hsvc]
  have hstays := legOut_of_inSvc (n := n) (back := false) (d := raiseI 42 n (modLeg n (fun x => { x with dfltLat := true })
      (modLeg n (fun x => { x with dfltIn := true }) d))) (by simpa using hsvc)
  simp only [leg_raiseI, leg_modLeg_self] at hstays
  rw [heq]
  refine ⟨?_, hstays.out rfl, hstays.dfltIn, hstays.dfltLat⟩
  exact ((((modLeg_keeps n _ d).mono (by decide)).andThen (modLeg_keeps n _ _) (by decide)).andThen
    (raiseI_keeps _ _ _) (by decide)).trans (legOut_keeps _ _ _)

theorem shootLimit_of_inSvc {n : Nat} {d : Dev} (hn : n < 48) (h : inSvc d n = true)
    (hlimit : prm d 0x3124 n ≤ (leg d n).shootRun) :
    Keeps tripParts d (shootLimit n d) ∧ inSvc (shootLimit n d) n = false ∧ (leg (shootLimit n d) n).shootTrip = true := by
  have hsvc : (leg d n).insvc = true := h
  have heq : shootLimit n d = legOut n false (modLeg n (fun x => { x with shootTrip := true }) d) := if_pos ⟨hn, h, hlimit⟩
  have hstays := legOut_of_inSvc (n := n) (back := false) (d := modLeg n (fun x => { x with shootTrip := true }) d)
    (by simpa using hsvc)
  simp only [leg_modLeg_self] at hstays
  rw [heq]
  exact ⟨((modLeg_keeps n _ d).mono (by decide)).trans (legOut_keeps _ _ _), hstays.out rfl, hstays.shootTrip⟩

/-- Settles O12: each cause is latched, and then the leg is lost. -/
theorem legFaults : Obligations.LegFaults := by
  unfold Obligations.LegFaults
  refine ⟨?dflt, ?duv, ?blankTrip, ?blankEnd, ?shoot, ?dfltRelease, ?duvRelease⟩
  case dflt =>
    intro s t n hn hin
    obtain ⟨hkeeps, hout, hshown, hlat⟩ := dfltAssert_of_inSvc (d := devAt s t) hn hin
    exact runs_lift rfl hkeeps (by decide) ⟨hout, hshown, hlat⟩
  case duv =>
    intro s t n hn hin hblank
    have hsvc : (leg (devAt s t) n).insvc = true := hin
    have hblank' : (leg (devAt s t) n).duvBlank = false := hblank
    have heq : duvAssert n (devAt s t) = duvTrip n (modLeg n (fun x => { x with duvIn := true }) (devAt s t)) := by
      simp [duvAssert, hn, hsvc, hblank']
    obtain ⟨hkeeps, hout, hshown, hlat⟩ := duvTrip_of_inSvc (n := n)
      (d := modLeg n (fun x => { x with duvIn := true }) (devAt s t)) (by simpa using hsvc)
    rw [leg_modLeg_self] at hshown
    exact runs_eq rfl heq (((modLeg_keeps n _ _).mono (by decide)).trans hkeeps) (by decide) ⟨hout, hshown, hlat⟩
  case blankTrip =>
    intro s t n hn hin hblank hduv hend
    have hsvc : (leg (devAt s t) n).insvc = true := hin
    have heq : duvBlankEnd n (devAt s t) = duvTrip n (modLeg n (fun x => { x with duvBlank := false }) (devAt s t)) := by
      have hduv' : (leg (devAt s t) n).duvIn = true := hduv
      have hcond : n < 48 ∧ inSvc (devAt s t) n = true ∧ (leg (devAt s t) n).duvBlank = true ∧
        (devAt s t).t = (leg (devAt s t) n).duvEnd := ⟨hn, hin, hblank, hend.symm⟩
      simp [duvBlankEnd, hcond, hduv']
    obtain ⟨hkeeps, hout, -, hlat⟩ := duvTrip_of_inSvc (n := n)
      (d := modLeg n (fun x => { x with duvBlank := false }) (devAt s t)) (by simpa using hsvc)
    exact runs_eq rfl heq (((modLeg_keeps n _ _).mono (by decide)).trans hkeeps) (by decide) ⟨hout, hlat⟩
  case blankEnd =>
    intro s t n hn hin hblank hduv hend
    refine runs_modLeg (g := duvBlankEnd n) (f := fun x => { x with duvBlank := false }) rfl ?_
    have hduv' : (leg (devAt s t) n).duvIn = false := hduv
    have hcond : n < 48 ∧ inSvc (devAt s t) n = true ∧ (leg (devAt s t) n).duvBlank = true ∧
      (devAt s t).t = (leg (devAt s t) n).duvEnd := ⟨hn, hin, hblank, hend.symm⟩
    simp [duvBlankEnd, hcond, hduv']
  case shoot =>
    intro s t n hn hin hlimit
    obtain ⟨hkeeps, hout, htrip⟩ := shootLimit_of_inSvc (d := devAt s t) hn hin hlimit
    exact runs_lift rfl hkeeps (by decide) ⟨hout, htrip⟩
  case dfltRelease =>
    intro s t n hn
    exact runs_modLeg (g := dfltRelease n) (f := fun x => { x with dfltIn := false }) rfl (if_pos hn)
  case duvRelease =>
    intro s t n hn
    exact runs_modLeg (g := duvRelease n) (f := fun x => { x with duvIn := false }) rfl (if_pos hn)

/-! ### The gate commands -/

theorem regateLeg_alone (n : Nat) (d : Dev) : LegAlone n d (regateLeg n d) :=
  ⟨regateLeg_keeps n d, (regateLeg_inPeriod n d).others⟩

/-- What a change of the trip gate leaves of a leg: its service, its placement, its latches and how LEGSVC holds it. -/
structure SameService (x y : Leg) : Prop where
  insvc : y.insvc = x.insvc
  entering : y.entering = x.entering
  leaving : y.leaving = x.leaving
  companion : y.companion = x.companion
  held : y.held = x.held
  barred : y.barred = x.barred
  dfltLat : y.dfltLat = x.dfltLat
  duvLat : y.duvLat = x.duvLat
  shootTrip : y.shootTrip = x.shootTrip

theorem SameService.refl (x : Leg) : SameService x x := ⟨rfl, rfl, rfl, rfl, rfl, rfl, rfl, rfl, rfl⟩

theorem SameService.trans {x y z : Leg} (h : SameService x y) (k : SameService y z) : SameService x z :=
  ⟨k.insvc.trans h.insvc, k.entering.trans h.entering, k.leaving.trans h.leaving, k.companion.trans h.companion,
    k.held.trans h.held, k.barred.trans h.barred, k.dfltLat.trans h.dfltLat, k.duvLat.trans h.duvLat,
    k.shootTrip.trans h.shootTrip⟩

theorem sameService_modLeg (n m : Nat) (f : Leg → Leg) (d : Dev)
    (hf : ∀ x, SameService x (f x) := by exact fun _ => ⟨rfl, rfl, rfl, rfl, rfl, rfl, rfl, rfl, rfl⟩) :
    SameService (leg d m) (leg (modLeg n f d) m) := by
  rw [leg_modLeg]
  split
  · subst ‹m = n›
    exact hf _
  · exact SameService.refl _

theorem creditGl_service (n f m : Nat) (d : Dev) : SameService (leg d m) (leg (creditGl n f d) m) := by
  unfold creditGl
  split
  · split
    · exact sameService_modLeg n m _ d
    · exact SameService.refl _
  · exact SameService.refl _

theorem regateLeg_service (n m : Nat) (d : Dev) : SameService (leg d m) (leg (regateLeg n d) m) := by
  unfold regateLeg
  dsimp only
  split
  · exact SameService.refl _
  · split
    · exact (creditGl_service n _ m d).trans (sameService_modLeg n m _ _)
    · exact sameService_modLeg n m _ d

theorem regate_service (m : Nat) (d : Dev) : SameService (leg d m) (leg (regate d) m) :=
  forAll_preserves (P := fun e => SameService (leg d m) (leg e m)) (f := regateLeg)
    (fun k e _ h => h.trans (regateLeg_service k m e)) (SameService.refl _)

theorem clearLatches_alone (n : Nat) (d : Dev) : LegAlone n d (clearLatches n d) :=
  (legAlone_modLeg n _ d).trans (regateLeg_alone n _)

theorem clearLatches_clears (n : Nat) (d : Dev) :
    SameService { leg d n with dfltLat := false, duvLat := false, shootTrip := false } (leg (clearLatches n d) n) := by
  have h := regateLeg_service n n (modLeg n (fun x => { x with dfltLat := false, duvLat := false, shootTrip := false }) d)
  rwa [leg_modLeg_self] at h

/-- The leg and the window counts after the interlock has blocked leg `n`, in the first period of an epoch. -/
def blockLeg (n : Nat) (d : Dev) : Dev :=
  modLeg n (fun y => { y with shootEp := ep d + 1 })
    (modLeg n (fun y => { y with blocked := true, glOn := none, shootCnt := incSat 255 y.shootCnt }) d)

theorem blockLeg_alone (n : Nat) (d : Dev) : LegAlone n d (blockLeg n d) :=
  (legAlone_modLeg n _ d).trans (legAlone_modLeg n _ _)

theorem leg_blockLeg (n : Nat) (d : Dev) : leg (blockLeg n d) n = { leg d n with
    blocked := true, glOn := none, shootCnt := incSat 255 (leg d n).shootCnt, shootEp := ep d + 1 } := by
  simp only [blockLeg, leg_modLeg_self]

/-- The interlock blocks a leg with both outputs on, counts it, and reports the first of an epoch. -/
theorem interlock_blocks {n : Nat} {d : Dev} (hboth : stage4 (leg d n) = (true, true)) (hfree : (leg d n).blocked = false)
    (hep : (leg d n).shootEp ≠ ep d + 1) : interlock n d =
      { raiseI 41 n (blockLeg n d) with pwm := { (raiseI 41 n (blockLeg n d)).pwm with shootAny := true } } := by
  simp only [interlock, hboth, hfree, Bool.not_false, Bool.and_self, if_true, if_neg hep]
  rfl

theorem stage4_force_both (x : Leg) : stage4 { x with force := 7 } = (true, true) := by
  simp [stage4, bit]

/-- A force of both outputs. -/
theorem outForce_both {n : Nat} {d : Dev} (hst : d.sys.st = .service) (hn : n < 48) (hout : inSvc d n = false) :
    outForce n 7 d = answer 0 0 (interlock n (modLeg n (fun x => { x with force := 7 }) d)) := by
  simp [outForce, Nat.not_le.mpr hn, hst, hout]

@[simp] theorem pending_answer (ev st dt : Nat) (d : Dev) : Pending ev (answer st dt d) ↔ Pending ev d := Iff.rfl

theorem clrAt_of {d : Dev} {g us : Nat} (hbusy : bit d.pwm.clrBusy g = true) (ht : d.t = tget 0 d.pwm.clrT g + 400 * us) :
    clrAt d g us = true := by
  simp [clrAt, hbusy, ht]

/-- Settles O15: each write reaches its rule, and each step of a driver clear comes at its tick. -/
theorem gateCommands : Obligations.GateCommands := by
  unfold Obligations.GateCommands
  refine ⟨?clear, ?refused, ?force, ?noForce, ?go, ?low, ?high, ?done⟩
  case clear =>
    intro s t cls n hs hn hdflt hduv
    have hclear : gateClear n (devAt s t) = answer 0 0 (clearLatches n (devAt s t)) := by
      have hdflt' : (leg (devAt s t) n).dfltIn = false := hdflt
      have hduv' : (leg (devAt s t) n).duvIn = false := hduv
      simp [gateClear, Nat.not_le.mpr hn, hdflt', hduv']
    have halone := clearLatches_alone n (devAt s t)
    have hlegs := clearLatches_clears n (devAt s t)
    refine runs_eq rfl ((immediate_of_served (d := devAt s t) hs _).trans hclear)
      ((halone.keeps.mono (by decide)).andThen (answer_keeps _ _ _) (by decide)) (by decide) ?_
    rw [leg_answer]
    exact ⟨answered_answer 0 0 _, hlegs.dfltLat, hlegs.duvLat, hlegs.shootTrip, halone.others⟩
  case refused =>
    intro s t cls n hs hn hin
    have hrefused : gateClear n (devAt s t) = answer 1 1 (devAt s t) := by
      have hin' : (leg (devAt s t) n).dfltIn = true ∨ (leg (devAt s t) n).duvIn = true := hin
      simp [gateClear, Nat.not_le.mpr hn, hin']
    exact runs_eq rfl ((immediate_of_served (d := devAt s t) hs _).trans hrefused) (answer_keeps _ _ _) (by decide)
      (answered_answer 1 1 _)
  case force =>
    intro s t cls n hs hst hn hout hfree hep
    have hleg : leg (modLeg n (fun x => { x with force := 7 }) (devAt s t)) n = { leg s.dev n with force := 7 } :=
      leg_modLeg_self n _ (devAt s t)
    have hblocks := interlock_blocks (n := n) (d := modLeg n (fun x => { x with force := 7 }) (devAt s t))
      (by rw [hleg]; exact stage4_force_both _) (by rw [hleg]; exact hfree) (by rw [hleg]; exact hep)
    have heq := outForce_both (n := n) (d := devAt s t) hst hn hout
    rw [hblocks] at heq
    have halone := (legAlone_modLeg n (fun x => { x with force := 7 }) (devAt s t)).trans (blockLeg_alone n _)
    have hblocked := leg_blockLeg n (modLeg n (fun x => { x with force := 7 }) (devAt s t))
    rw [hleg] at hblocked
    generalize blockLeg n (modLeg n (fun x => { x with force := 7 }) (devAt s t)) = e at heq halone hblocked
    have hup : e.sys.up = true := by
      rw [halone.keeps.sys (by decide)]
      exact hs.1
    refine runs_eq rfl ((immediate_of_served (d := devAt s t) hs _).trans heq) ?_ (by decide) ?_
    · exact (((halone.keeps.mono (by decide)).andThen (raiseI_keeps 41 n e) (by decide)).andThen (keeps_pwm _ _)
        (by decide)).andThen (answer_keeps _ _ _) (by decide)
    · have hlegs : leg (answer 0 0 { raiseI 41 n e with pwm := { (raiseI 41 n e).pwm with shootAny := true } }) n =
          leg e n := leg_raiseI 41 n e n
      rw [hlegs, hblocked]
      refine ⟨answered_answer 0 0 _, raiseI_pending 41 n e hup (by decide), rfl, rfl, rfl, ?_⟩
      exact halone.others.trans (otherLegs_of_legs (raiseI_legs 41 n e) n)
  case noForce =>
    intro s t cls n v hs hst hn hv
    have hrefused : outForce n v (devAt s t) = answer 1 7 (devAt s t) := by
      have hrange : ¬ (48 ≤ n ∨ 7 < v) := by omega
      have hst' : (devAt s t).sys.st ≠ .service := hst
      simp [outForce, hrange, hst']
    exact runs_eq rfl ((immediate_of_served (d := devAt s t) hs _).trans hrefused) (answer_keeps _ _ _) (by decide)
      (answered_answer 1 7 _)
  case go =>
    intro s t cls g hs hg hfree houst hnone
    have hgo : drvClearGo g (devAt s t) = answer 0 0 (regate { devAt s t with pwm := { s.dev.pwm with
        clrT := tput 0 g t s.dev.pwm.clrT, clrW := tput 0 g (prm (devAt s t) 0x3130 g) s.dev.pwm.clrW,
        clrBusy := setBit s.dev.pwm.clrBusy g } }) := by
      have hnone' : groupSvc (devAt s t) g = [] := hnone
      have hfree' : ¬ (bit (devAt s t).pwm.clrBusy g = true ∨ (devAt s t).pnd.oustedHold = true) := by
        simp [devAt, hfree, houst]
      simp only [drvClearGo, if_neg (Nat.not_le.mpr hg), if_neg hfree', hnone', ne_eq, not_true_eq_false, false_and, if_false,
        List.foldl_nil]
      rfl
    have hregate := regate_keeps { devAt s t with pwm := { s.dev.pwm with
        clrT := tput 0 g t s.dev.pwm.clrT, clrW := tput 0 g (prm (devAt s t) 0x3130 g) s.dev.pwm.clrW,
        clrBusy := setBit s.dev.pwm.clrBusy g } }
    refine runs_eq rfl ((immediate_of_served (d := devAt s t) hs _).trans hgo) ?_ (by decide) ?_
    · exact (((keeps_pwm _ (devAt s t)).mono (by decide)).andThen hregate (by decide)).andThen (answer_keeps _ _ _) (by decide)
    · rw [answer_pwm, hregate.pwm (by decide)]
      exact ⟨answered_answer 0 0 _, bit_setBit_self _ g, rfl⟩
  case low =>
    intro s t g hg hbusy ht
    have hlow : drvClearLow g (devAt s t) = { devAt s t with pwm := { s.dev.pwm with clrLow := setBit s.dev.pwm.clrLow g } } :=
      if_pos ⟨hg, clrAt_of (d := devAt s t) hbusy ht⟩
    exact runs_eq rfl hlow (keeps_pwm _ _) (by decide) (bit_setBit_self _ g)
  case high =>
    intro s t g hg hbusy ht
    have hhigh : drvClearHigh g (devAt s t) = { devAt s t with pwm := { s.dev.pwm with clrLow := clrBit s.dev.pwm.clrLow g } } :=
      if_pos ⟨hg, clrAt_of (d := devAt s t) hbusy ht⟩
    exact runs_eq rfl hhigh (keeps_pwm _ _) (by decide) (bit_clrBit_self _ g)
  case done =>
    intro s t g hg hbusy hlow ht hup
    have hdone : drvClearDone g (devAt s t) =
        raiseI 44 g (regate { devAt s t with pwm := { s.dev.pwm with clrBusy := clrBit s.dev.pwm.clrBusy g } }) :=
      if_pos ⟨hg, clrAt_of (d := devAt s t) hbusy ht, by simpa [devAt] using hlow⟩
    have hregate := regate_keeps { devAt s t with pwm := { s.dev.pwm with clrBusy := clrBit s.dev.pwm.clrBusy g } }
    refine runs_eq rfl hdone ?_ (by decide) ?_
    · exact (((keeps_pwm _ (devAt s t)).mono (by decide)).andThen hregate (by decide)).andThen (raiseI_keeps _ _ _) (by decide)
    · rw [raiseI_pwm, hregate.pwm (by decide)]
      refine ⟨bit_clrBit_self _ g, rfl, raiseI_pending 44 g _ ?_ (by decide)⟩
      rw [hregate.sys (by decide)]
      exact hup

end Sys2Proof.Safety
end

section
/-!
PROOF. Legs that enter and leave service (R125, R126, R183, R278), LEGSVC (R283, R364), and the management view (R17).
-/
namespace Sys2Proof.Safety

open Sys2Proof.Machine

/-! ### What a trip does to a leg -/

/-- What a transition or a trip makes of a leg: it may leave service, and its service force may end. -/
inductive LegReach (x : Leg) : Leg → Prop
  | same : LegReach x x
  | left {y : Leg} (h : LegReach x y) : LegReach x (legLeft y)
  | unforced {y : Leg} (h : LegReach x y) : LegReach x { y with force := 0 }

theorem LegReach.trans {x y z : Leg} (h : LegReach x y) (k : LegReach y z) : LegReach x z := by
  induction k with
  | same => exact h
  | left _ ih => exact ih.left
  | unforced _ ih => exact ih.unforced

theorem LegReach.companion {x y : Leg} (h : LegReach x y) (hx : x.companion = false) : y.companion = false := by
  induction h with
  | same => exact hx
  | left _ _ => rfl
  | unforced _ ih => exact ih

theorem legReach_of_legs {d e : Dev} (n : Nat) (h : e.legs = d.legs) : LegReach (leg d n) (leg e n) := by
  rw [leg_of_legs h]
  exact .same

theorem modLeg_reach (n m : Nat) {f : Leg → Leg} (hf : ∀ x, LegReach x (f x)) (d : Dev) :
    LegReach (leg d m) (leg (modLeg n f d) m) := by
  rw [leg_modLeg]
  split
  · subst ‹m = n›
    exact hf _
  · exact .same

theorem leaveState_reach (n : Nat) (d : Dev) : LegReach (leg d n) (leg (leaveState d) n) := by
  unfold leaveState
  split
  · refine LegReach.trans (forAll_preserves (n := 48) (P := fun e => LegReach (leg d n) (leg e n))
      (f := fun k e => modLeg k (fun x => { x with force := 0 }) e)
      (fun k e _ h => h.trans (modLeg_reach k n (fun _ => .unforced .same) e)) .same) ?_
    exact legReach_of_legs n ((keeps_sys _ _).legs (by decide))
  · exact legReach_of_legs n rfl
  · exact legReach_of_legs n rfl
  · exact .same

theorem transition_reach (n : Nat) (target : OpState) (c : Nat) (d : Dev) :
    LegReach (leg d n) (leg (transition target c d) n) := by
  unfold transition
  split
  · exact .same
  · refine LegReach.trans (legReach_of_legs n ((probeState_keeps target d).legs (by decide))) ?_
    refine (leaveState_reach n _).trans (legReach_of_legs n ?_)
    rw [(calAbort_keeps _ _).legs (by decide), (enterState_keeps _ _).legs (by decide), raise_legs]

theorem legsOut_reach (n : Nat) (d : Dev) : LegReach (leg d n) (leg (legsOut d) n) := by
  have hturn : ∀ k e, k < 48 → LegReach (leg d n) (leg e n) → LegReach (leg d n)
      (leg (if (leg e k).insvc || (leg e k).entering then sweepLegLost k (modLeg k legLeft e) else e) n) := by
    intro k e _ h
    split
    · refine h.trans ((modLeg_reach k n (fun _ => .left .same) e).trans (legReach_of_legs n ?_))
      exact (sweepLegLost_keeps k _).legs (by decide)
    · exact h
  refine LegReach.trans (forAll_preserves (n := 48) (P := fun e => LegReach (leg d n) (leg e n)) hturn .same) ?_
  exact legReach_of_legs n ((keeps_setr _ _).legs (by decide))

theorem enterTrip_reach (n c : Nat) (d : Dev) : LegReach (leg d n) (leg (enterTrip c d) n) := by
  have demand : ∀ (b : Prop) [Decidable b] (g : Bool) (f : Dev), LegReach (leg f n) (leg (if b then gdDemand g f else f) n) := by
    intro b _ g f
    split
    · exact legReach_of_legs n ((gdDemand_keeps _ _).legs (by decide))
    · exact .same
  have mark : LegReach (leg d n) (leg
      (if 0x26 ≤ c ∧ c ≤ 0x29 ∧ d.pnd.role = 1 then { d with pnd := { d.pnd with fault := true } } else d) n) := by
    split
    · exact legReach_of_legs n rfl
    · exact .same
  have wake : ∀ e : Dev, LegReach (leg e n) (leg (if e.sys.st = .doze then wakeDomains e else e) n) := by
    intro e
    split
    · exact legReach_of_legs n ((wakeDomains_keeps e).legs (by decide))
    · exact .same
  unfold enterTrip
  refine mark.trans ?_
  generalize (if 0x26 ≤ c ∧ c ≤ 0x29 ∧ d.pnd.role = 1 then { d with pnd := { d.pnd with fault := true } } else d) = e
  dsimp only
  split
  · exact legReach_of_legs n rfl
  · split
    · refine LegReach.trans ?_ (demand _ _ _)
      refine LegReach.trans ?_ (legReach_of_legs n ((keeps_sys _ _).legs (by decide)))
      refine LegReach.trans ?_ (transition_reach n _ _ _)
      refine LegReach.trans ?_ (legsOut_reach n _)
      exact (wake e).trans (legReach_of_legs n ((keeps_pwm _ _).legs (by decide)))
    · exact .same

theorem checkAc_reach (n : Nat) (d : Dev) : LegReach (leg d n) (leg (checkAc d) n) := by
  unfold checkAc
  split
  · exact enterTrip_reach n _ d
  · exact .same

/-! ### Entering and leaving service -/

/-- The leg as it enters service, before its start pulse is looked at. -/
def enterSvc (n : Nat) (d : Dev) : Dev :=
  modLeg n (fun y => { y with
    insvc := true, entering := false, leaving := false, companion := false, duvBlank := true,
    duvEnd := d.t + 400 * prm d 0x3123 n, mayReturn := false, shootRun := 0 })
    (if bit d.pwm.clrBusy (n / 8) then { d with pwm := { d.pwm with rejoin := setBit d.pwm.rejoin n } } else d)

theorem legEntry_eq {n : Nat} {d : Dev} (hn : n < 48) (hrun : carriersRun d = true) (hentering : (leg d n).entering = true)
    (hrole : role d n ≠ 0) (hon : (leg d n).running = true) (hstart : (leg d n).start = d.t)
    (hat : startsAt d n d.t = true) : legEntry n d = startLeg n (enterSvc n d) := by
  rw [legEntry]
  exact if_pos ⟨hn, hrun, hentering, hrole, hon, hstart.symm, hat⟩

theorem enterSvc_keeps (n : Nat) (d : Dev) : Keeps [.legs, .pwm] d (enterSvc n d) :=
  Keeps.trans (keeps_ite (fun _ => (keeps_pwm _ d).mono (by decide)) (fun _ => Keeps.refl _ d))
    ((modLeg_keeps n _ _).mono (by decide))

theorem enterSvc_others (n : Nat) (d : Dev) : OtherLegs n d (enterSvc n d) := by
  refine OtherLegs.trans (otherLegs_of_legs ?_ n) (otherLegs_modLeg n _ _)
  split <;> rfl

theorem startLeg_keeps (n : Nat) (d : Dev) : Keeps [.legs] d (startLeg n d) := modLeg_keeps n _ d

/-- The rest of the exit of a leg that has left: its bridge may go down, and the last AC leg may trip the device. -/
theorem exitRest_leaves (n : Nat) (b c : Prop) [Decidable b] [Decidable c] {d e : Dev} (hkeeps : Keeps tripParts d e)
    (hin : (leg e n).insvc = false) (hleaving : (leg e n).leaving = false) {f g : Dev}
    (hf : f = if b then bridgeDown n true e else e) (hg : g = if c then checkAc f else f) :
    Keeps tripParts d g ∧ inSvc g n = false ∧ (leg g n).leaving = false := by
  have hdown : Keeps tripParts e f ∧ LegStays (leg e n) (leg f n) := by
    rw [hf]
    split
    · exact ⟨(bridgeDown_keeps n true e).mono (by decide), bridgeDown_stays n n true e⟩
    · exact ⟨Keeps.refl _ e, LegStays.refl _⟩
  have hac : Keeps tripParts f g ∧ LegStays (leg f n) (leg g n) := by
    rw [hg]
    split
    · exact ⟨checkAc_keeps f, checkAc_stays n f⟩
    · exact ⟨Keeps.refl _ f, LegStays.refl _⟩
  have hstays := hdown.2.trans hac.2
  exact ⟨(hkeeps.trans hdown.1).trans hac.1, hstays.out hin, hstays.leaving hleaving⟩

/-- A leaving leg, as its exit takes it out of service. -/
def exitLeg (n : Nat) (d : Dev) : Dev :=
  sweepLegLost n (modLeg n (fun y => { legLeft y with mayReturn := false })
    { d with setr := { d.setr with unplanned := d.setr.unplanned || bit d.setr.legs n } })

theorem exitLeg_keeps (n : Nat) (d : Dev) : Keeps tripParts d (exitLeg n d) :=
  (((keeps_setr _ d).mono (by decide)).andThen (modLeg_keeps n _ _) (by decide)).andThen (sweepLegLost_keeps n _) (by decide)

theorem leg_exitLeg (n : Nat) (d : Dev) : leg (exitLeg n d) n = { legLeft (leg d n) with mayReturn := false } := by
  rw [exitLeg, leg_of_legs ((sweepLegLost_keeps n _).legs (by decide)), leg_modLeg_self]
  rfl

/-- A leaving leg is out of service after its exit, and no longer leaves. -/
theorem legExit_leaves {n : Nat} {d : Dev} (hn : n < 48) (hin : (leg d n).insvc = true) (hleaving : (leg d n).leaving = true)
    (hon : (leg d n).running = true) (hstart : d.t = (leg d n).start) :
    Keeps tripParts d (legExit n d) ∧ inSvc (legExit n d) n = false ∧ (leg (legExit n d) n).leaving = false := by
  have hleg := leg_exitLeg n d
  refine exitRest_leaves n _ _ (exitLeg_keeps n d) (by rw [hleg]; rfl) (by rw [hleg]; rfl) rfl (if_pos ⟨hn, hin, hleaving, hon, hstart⟩)

theorem companionExit_leaves {n : Nat} {d : Dev} (hn : n < 48) (hin : (leg d n).insvc = true)
    (hcomp : (leg d n).companion = true) (hon : (leg d n).running = true) (hstart : d.t = (leg d n).start) :
    Keeps tripParts d (companionExit n d) ∧ inSvc (companionExit n d) n = false ∧
      (leg (companionExit n d) n).companion = false ∧ (leg (companionExit n d) n).dfltLat = (leg d n).dfltLat ∧
      (leg (companionExit n d) n).duvLat = (leg d n).duvLat := by
  have heq : companionExit n d = checkAc { modLeg n (fun y => { legLeft y with mayReturn := true }) d with
      setr := { d.setr with unplanned := true } } := if_pos ⟨hn, hin, hcomp, hon, hstart⟩
  rw [heq]
  generalize hf : ({ modLeg n (fun y => { legLeft y with mayReturn := true }) d with
    setr := { d.setr with unplanned := true } } : Dev) = f
  have hkeeps : Keeps tripParts d f :=
    hf ▸ ((modLeg_keeps n _ d).mono (by decide)).andThen (keeps_setr _ _) (by decide)
  have hleg : leg f n = { legLeft (leg d n) with mayReturn := true } := by
    rw [← hf]
    exact (leg_of_legs (d := modLeg n (fun y => { legLeft y with mayReturn := true }) d) rfl n).trans (leg_modLeg_self n _ d)
  have hstays := checkAc_stays n f
  have hreach := checkAc_reach n f
  rw [hleg] at hstays hreach
  exact ⟨hkeeps.trans (checkAc_keeps f), hstays.out rfl, hreach.companion rfl, hstays.dfltLat, hstays.duvLat⟩

/-! ### LEGSVC -/

/-- A LEGSVC of its action, for a leg with a role, on a device that is no standby. -/
theorem legsvc_eq {act : Nat} {f : Nat → Cmd → Dev → Dev} {c : Cmd} {d : Dev} (hleg : field c.body 0 0 < 48)
    (hact : field c.body 1 1 = act) (hle : act ≤ 2) (hstandby : d.sys.standby = false) (hrole : role d (field c.body 0 0) ≠ 0) :
    legsvc act f c d = f (field c.body 0 0) c d := by
  simp [legsvc, hact, hstandby, Nat.not_le.mpr hleg, Nat.not_lt.mpr hle, hrole]

@[simp] theorem leg_finish (c : Cmd) (st dt : Nat) (resp : List Byte) (d : Dev) (n : Nat) :
    leg (finish c st dt resp d) n = leg d n := leg_of_legs ((finish_keeps c st dt resp d).legs (by decide)) n

@[simp] theorem win_finish (c : Cmd) (st dt : Nat) (resp : List Byte) (d : Dev) (w : Nat) :
    win (finish c st dt resp d) w = win d w := by
  simp only [win, (finish_keeps c st dt resp d).wins (by decide)]

/-- The response of LEGSVC reads the legs and the outstanding intent. -/
theorem legsvcResp_congr {d e : Dev} (hlegs : e.legs = d.legs) (hsetr : e.setr = d.setr) (n : Nat) :
    legsvcResp e n = legsvcResp d n := by
  simp only [legsvcResp, inSvc, leg_of_legs hlegs, hsetr]
  rfl

theorem legsvcResp_finish (c : Cmd) (st dt : Nat) (resp : List Byte) (d : Dev) (n : Nat) :
    legsvcResp (finish c st dt resp d) n = legsvcResp d n :=
  legsvcResp_congr ((finish_keeps c st dt resp d).legs (by decide)) ((finish_keeps c st dt resp d).setr (by decide)) n

/-- A quick command that has left the mailbox as it was until its end completes. -/
theorem completed_of_keeps {s : State} {t : Nat} {c : Cmd} {ps : List Part} {d : Dev} (h : Keeps ps (devAt s t) d)
    (hmbx : Part.mbx ∉ ps) (ht : Part.t ∉ ps) (st dt : Nat) (resp : List Byte) :
    Completed s c t st dt resp (finish c st dt resp d) := by
  have hm := h.mbxSent hmbx
  have hdone : d.mbx.done = s.dev.mbx.done := by rw [hm]; rfl
  have hrung : d.mbx.rung = s.dev.mbx.rung := by rw [hm]; rfl
  have htime : tMs d = t / 400000 := by rw [tMs, h.t ht]; rfl
  rw [Completed, finish_mbx, hdone, hrung, htime]
  exact ⟨rfl, rfl⟩

theorem clearWin_keeps (w : Nat) (d : Dev) : Keeps [.wins, .legs] d (clearWin w d) :=
  ((modWin_keeps w _ d).mono (by decide)).andThen (regate_keeps _) (by decide)

theorem win_modWin (w v : Nat) (f : Window → Window) (d : Dev) :
    win (modWin w f d) v = if v = w then f (win d w) else win d v := by
  simp only [win, modWin_wins, tget_tmod]

@[simp] theorem win_modWin_self (w : Nat) (f : Window → Window) (d : Dev) : win (modWin w f d) w = f (win d w) := by
  rw [win_modWin, if_pos rfl]

theorem otherWins_modWin (w : Nat) (f : Window → Window) (d : Dev) : OtherWins w d (modWin w f d) := by
  intro v hne
  rw [win_modWin, if_neg hne]

theorem win_of_wins {d e : Dev} (h : e.wins = d.wins) (w : Nat) : win e w = win d w := by
  simp only [win, h]

theorem otherWins_of_wins {d e : Dev} (h : e.wins = d.wins) (w : Nat) : OtherWins w d e := fun v _ => win_of_wins h v

theorem OtherWins.trans {w : Nat} {d e f : Dev} (h : OtherWins w d e) (k : OtherWins w e f) : OtherWins w d f :=
  fun v hv => (k v hv).trans (h v hv)

theorem win_clearWin (w : Nat) (d : Dev) : win (clearWin w d) w =
    { win d w with lat := false, latHi := false, latLo := false, cutTrip := false } := by
  rw [clearWin, win_of_wins ((regate_keeps _).wins (by decide)), win_modWin_self]

theorem clearWin_others (w : Nat) (d : Dev) : OtherWins w d (clearWin w d) :=
  (otherWins_modWin w _ d).trans (otherWins_of_wins ((regate_keeps _).wins (by decide)) w)

/-- The device after ACTION 2 has freed leg `n`. -/
def legFreed (n : Nat) (d : Dev) : Dev :=
  clearWin n (clearLatches n (modLeg n (fun x => { x with held := false, barred := false, mayReturn := false, leaving := false }) d))

theorem legFreed_keeps (n : Nat) (d : Dev) : Keeps [.legs, .wins] d (legFreed n d) :=
  (((modLeg_keeps n _ d).mono (by decide)).andThen (clearLatches_alone n _).keeps (by decide)).andThen (clearWin_keeps n _)
    (by decide)

theorem legFreed_service (n : Nat) (d : Dev) : SameService { leg d n with
    held := false, barred := false, mayReturn := false, leaving := false, dfltLat := false, duvLat := false,
    shootTrip := false } (leg (legFreed n d) n) := by
  have hclear := clearLatches_clears n (modLeg n (fun x => { x with held := false, barred := false, mayReturn := false, leaving := false }) d)
  rw [leg_modLeg_self] at hclear
  refine hclear.trans ?_
  have hregate := regate_service n (modWin n (fun x => { x with lat := false, latHi := false, latLo := false, cutTrip := false })
    (clearLatches n (modLeg n (fun x => { x with held := false, barred := false, mayReturn := false, leaving := false }) d)))
  exact hregate

theorem legFreed_wins (n : Nat) (d : Dev) : (win (legFreed n d) n).lat = false ∧ OtherWins n d (legFreed n d) := by
  have hlegs : Keeps [.legs] d (clearLatches n (modLeg n (fun x => { x with held := false, barred := false, mayReturn := false, leaving := false }) d)) :=
    (modLeg_keeps n _ d).trans (clearLatches_alone n _).keeps
  refine ⟨?_, (otherWins_of_wins (hlegs.wins (by decide)) n).trans (clearWin_others n _)⟩
  rw [legFreed, win_clearWin]

theorem legsvcIn_free {n : Nat} {c : Cmd} {d : Dev} (h : legInRefusal d n = none) : ∃ b, legsvcIn n c d =
    finish c 0 0 (legsvcResp { legFreed n d with setr := { (legFreed n d).setr with hostChange := b } } n)
      { legFreed n d with setr := { (legFreed n d).setr with hostChange := b } } := by
  refine ⟨(legFreed n d).setr.hostChange || !legOn (legFreed n d) n, ?_⟩
  simp only [legsvcIn, h, legFreed]

theorem foldl_preserves {β : Type} {g : Dev → β → Dev} {P : Dev → Prop} (h : ∀ e b, P e → P (g e b)) (l : List β) {d : Dev}
    (hd : P d) : P (l.foldl g d) := by
  induction l generalizing d with
  | nil => exact hd
  | cons b l ih => exact ih (h d b hd)

/-- A bridge that goes down with leg `n` changes its other legs only. -/
theorem leg_bridgeDown_self (n : Nat) (up : Bool) (d : Dev) : leg (bridgeDown n up d) n = leg d n := by
  have hdown : ∀ l : List Nat, leg (l.foldl (fun e m =>
      if m = n then e
      else if inSvc e m then modLeg m (fun x => { x with companion := true }) e
      else if (leg e m).entering then modLeg m (fun x => { x with entering := false, mayReturn := true }) e
      else e) d) n = leg d n := fun l => by
    refine foldl_preserves (P := fun e => leg e n = leg d n) (fun e m h => ?_) l rfl
    split
    · exact h
    · rename_i hne
      split
      · rw [leg_modLeg, if_neg (Ne.symm hne), h]
      · split
        · rw [leg_modLeg, if_neg (Ne.symm hne), h]
        · exact h
  unfold bridgeDown
  split
  · rfl
  · dsimp only
    split
    · rw [leg_raiseI]
      exact hdown _
    · exact hdown _

/-- The device after ACTION 1 on a leg that was to enter. -/
theorem legsvcOutNow_entering {n : Nat} {c : Cmd} {d : Dev} (h : (leg d n).entering = true) : ∃ up, legsvcOutNow n c d =
    let d1 := { modLeg n (fun x => { x with held := true, leaving := x.leaving || x.insvc, entering := false }) d with
      setr := { d.setr with unplanned := true } }
    finish c 0 0 (legsvcResp (bridgeDown n up d1) n) (bridgeDown n up d1) :=
  ⟨match bridgeOf d n with
    | some k => brAvail d k
    | none => false, by
    simp only [legsvcOutNow, h, if_true]
    rfl⟩

/-- Settles O14: service entries and exits at period starts, then each action of LEGSVC. -/
theorem legService : Obligations.LegService := by
  unfold Obligations.LegService
  refine ⟨?entry, ?exit, ?companion, ?out, ?outNow, ?outEntering, ?free, ?refused, ?disagree⟩
  case entry =>
    intro s t n hn hrun hentering hrole hon hstart hat
    have heq := legEntry_eq (d := devAt s t) hn hrun hentering hrole hon hstart hat
    have hkeeps := (enterSvc_keeps n (devAt s t)).andThen (startLeg_keeps n _) (by decide)
    refine runs_eq rfl heq hkeeps (by decide) ?_
    simp only [inSvc, startLeg, enterSvc, leg_modLeg_self]
    exact ⟨trivial, trivial, trivial, trivial, rfl, trivial, (enterSvc_others n (devAt s t)).trans (otherLegs_modLeg n _ _)⟩
  case exit =>
    intro s t n hn hin hleaving hon hstart
    obtain ⟨hkeeps, hout, hleft⟩ := legExit_leaves (d := devAt s t) hn hin hleaving hon hstart.symm
    exact runs_lift rfl hkeeps (by decide) ⟨hout, hleft⟩
  case companion =>
    intro s t n hn hin hcomp hon hstart
    obtain ⟨hkeeps, hpost⟩ := companionExit_leaves (d := devAt s t) hn hin hcomp hon hstart.symm
    exact runs_lift rfl hkeeps (by decide) hpost
  case out =>
    intro s t slot c ha hn hact hstandby hrole
    have heq := legsvc_eq (f := legsvcOut) (d := devAt s t) hn hact (by decide) hstandby hrole
    generalize field c.body 0 0 = n at hn hrole heq
    generalize hd1 : modLeg n (fun x => { x with held := true }) { devAt s t with setr := { s.dev.setr with
      hostChange := s.dev.setr.hostChange || legOn (devAt s t) n } } = d1
    have hkeeps : Keeps [.legs, .setr] (devAt s t) d1 :=
      hd1 ▸ ((keeps_setr _ (devAt s t)).mono (by decide)).andThen (modLeg_keeps n _ _) (by decide)
    have hrun : legsvcOut n c (devAt s t) = finish c 0 0 (legsvcResp d1 n) d1 := by rw [← hd1]; rfl
    rw [hrun] at heq
    refine runs_liftCmd (f := legsvc 0 legsvcOut) rfl ha ?_ (by decide) ?_ <;> rw [heq]
    · exact (hkeeps.mono (by decide)).andThen (finish_keeps c 0 0 _ d1) (by decide)
    · rw [legsvcResp_finish, leg_finish, (finish_keeps c 0 0 _ d1).setr (by decide)]
      refine ⟨?_, ?_, ?_, completed_of_keeps hkeeps (by decide) (by decide) 0 0 _⟩
      · rw [← hd1]
        exact leg_modLeg_self n _ _
      · refine OtherLegs.trans ?_ (otherLegs_of_legs ((finish_keeps c 0 0 _ d1).legs (by decide)) n)
        rw [← hd1]
        exact otherLegs_modLeg n _ _
      · rw [← hd1]
        rfl
  case outNow =>
    intro s t slot c ha hn hact hstandby hrole hentering
    have heq := legsvc_eq (f := legsvcOutNow) (d := devAt s t) hn hact (by decide) hstandby hrole
    generalize field c.body 0 0 = n at hn hrole hentering heq
    generalize hd1 : modLeg n (fun x => { x with held := true, leaving := x.leaving || x.insvc, entering := false })
      (devAt s t) = d1
    have hkeeps : Keeps [.legs] (devAt s t) d1 := hd1 ▸ modLeg_keeps n _ (devAt s t)
    have hrun : legsvcOutNow n c (devAt s t) = finish c 0 0 (legsvcResp d1 n) d1 := by
      have hentering' : (leg (devAt s t) n).entering = false := hentering
      simp only [legsvcOutNow, hentering', hd1, if_false, Bool.false_eq_true]
    rw [hrun] at heq
    refine runs_liftCmd (f := legsvc 1 legsvcOutNow) rfl ha ?_ (by decide) ?_ <;> rw [heq]
    · exact (hkeeps.mono (by decide)).andThen (finish_keeps c 0 0 _ d1) (by decide)
    · rw [legsvcResp_finish, leg_finish]
      refine ⟨?_, ?_, completed_of_keeps hkeeps (by decide) (by decide) 0 0 _⟩
      · rw [← hd1]
        exact leg_modLeg_self n _ _
      · refine OtherLegs.trans ?_ (otherLegs_of_legs ((finish_keeps c 0 0 _ d1).legs (by decide)) n)
        rw [← hd1]
        exact otherLegs_modLeg n _ _
  case outEntering =>
    intro s t slot c ha hn hact hstandby hrole hentering
    have heq := legsvc_eq (f := legsvcOutNow) (d := devAt s t) hn hact (by decide) hstandby hrole
    generalize field c.body 0 0 = n at hn hrole hentering heq
    obtain ⟨up, hrun⟩ := legsvcOutNow_entering (c := c) (d := devAt s t) hentering
    generalize hd1 : ({ modLeg n (fun x => { x with held := true, leaving := x.leaving || x.insvc, entering := false })
      (devAt s t) with setr := { (devAt s t).setr with unplanned := true } } : Dev) = d1 at hrun
    have hkeeps1 : Keeps [.legs, .setr] (devAt s t) d1 :=
      hd1 ▸ ((modLeg_keeps n _ (devAt s t)).mono (by decide)).andThen (keeps_setr _ _) (by decide)
    have hleg1 : leg d1 n = { leg s.dev n with
        held := true, leaving := (leg s.dev n).leaving || (leg s.dev n).insvc, entering := false } := by
      rw [← hd1]
      exact (leg_of_legs (d := modLeg n (fun x => { x with held := true, leaving := x.leaving || x.insvc, entering := false })
        (devAt s t)) rfl n).trans (leg_modLeg_self n _ (devAt s t))
    have hsetr1 : d1.setr = { s.dev.setr with unplanned := true } := by rw [← hd1]; rfl
    have hdown := bridgeDown_keeps n up d1
    have hlegDown := leg_bridgeDown_self n up d1
    dsimp only at hrun
    generalize bridgeDown n up d1 = d2 at hrun hdown hlegDown
    have hkeeps : Keeps ([.legs, .setr] ++ evParts) (devAt s t) d2 := (hkeeps1.mono (by decide)).andThen hdown (by decide)
    rw [hrun] at heq
    refine runs_liftCmd (f := legsvc 1 legsvcOutNow) rfl ha ?_ (by decide) ?_ <;> rw [heq]
    · exact (hkeeps.mono (by decide)).andThen (finish_keeps c 0 0 _ d2) (by decide)
    · rw [legsvcResp_finish, leg_finish, (finish_keeps c 0 0 _ d2).setr (by decide), hlegDown, hleg1,
        hdown.setr (by decide), hsetr1]
      exact ⟨rfl, rfl, rfl, completed_of_keeps hkeeps (by decide) (by decide) 0 0 _⟩
  case free =>
    intro s t slot c ha hn hact hstandby hrole hnone
    have heq := legsvc_eq (f := legsvcIn) (d := devAt s t) hn hact (by decide) hstandby hrole
    generalize field c.body 0 0 = n at hn hrole hnone heq
    obtain ⟨b, hrun⟩ := legsvcIn_free (c := c) (d := devAt s t) hnone
    have hfreed := legFreed_keeps n (devAt s t)
    have hservice := legFreed_service n (devAt s t)
    obtain ⟨hlat, hothers⟩ := legFreed_wins n (devAt s t)
    generalize legFreed n (devAt s t) = d1 at hrun hfreed hservice hlat hothers
    generalize hd2 : ({ d1 with setr := { d1.setr with hostChange := b } } : Dev) = d2 at hrun
    have hlegs2 : d2.legs = d1.legs := by rw [← hd2]
    have hwins2 : d2.wins = d1.wins := by rw [← hd2]
    have hkeeps : Keeps [.legs, .wins, .setr] (devAt s t) d2 :=
      hd2 ▸ (hfreed.mono (by decide)).andThen (keeps_setr _ d1) (by decide)
    rw [hrun] at heq
    refine runs_liftCmd (f := legsvc 2 legsvcIn) rfl ha ?_ (by decide) ?_ <;> rw [heq]
    · exact (hkeeps.mono (by decide)).andThen (finish_keeps c 0 0 _ d2) (by decide)
    · rw [legsvcResp_finish, leg_finish, win_finish, leg_of_legs hlegs2, win_of_wins hwins2]
      refine ⟨hservice.held, hservice.barred, hservice.dfltLat, hservice.duvLat, hlat, ?_,
        completed_of_keeps hkeeps (by decide) (by decide) 0 0 _⟩
      exact (hothers.trans (otherWins_of_wins hwins2 n)).trans
        (otherWins_of_wins ((finish_keeps c 0 0 _ d2).wins (by decide)) n)
  case refused =>
    intro s t slot k c ha hn hact hstandby hrole hsome
    have heq := legsvc_eq (f := legsvcIn) (d := devAt s t) hn hact (by decide) hstandby hrole
    generalize field c.body 0 0 = n at hn hrole hsome heq
    generalize hd1 : (if (clearRefusal (win (devAt s t) n)).isSome then modWin n (fun x => { x with clrRef := true })
      (devAt s t) else devAt s t) = d1
    have hkeeps : Keeps [.wins] (devAt s t) d1 :=
      hd1 ▸ keeps_ite (fun _ => modWin_keeps n _ _) (fun _ => Keeps.refl _ _)
    have hsome' : legInRefusal (devAt s t) n = some k := hsome
    have hrun : legsvcIn n c (devAt s t) = finish c 1 k [] d1 := by simp only [legsvcIn, hsome', hd1]
    rw [hrun] at heq
    refine runs_liftCmd (f := legsvc 2 legsvcIn) rfl ha ?_ (by decide) ?_ <;> rw [heq]
    · exact (hkeeps.mono (by decide)).andThen (finish_quiet_keeps (by decide) _ _ d1) (by decide)
    · rw [win_finish]
      refine ⟨completed_of_keeps hkeeps (by decide) (by decide) 1 k [], ?_, ?_⟩
      · refine OtherWins.trans ?_ (otherWins_of_wins ((finish_keeps c 1 k [] d1).wins (by decide)) n)
        rw [← hd1]
        split
        · exact otherWins_modWin n _ _
        · exact fun _ _ => rfl
      · rw [← hd1]
        split
        case isTrue h =>
          have h' : (clearRefusal (win s.dev n)).isSome = true := h
          rw [win_modWin_self, h', Bool.or_true]
          rfl
        case isFalse h =>
          have h' : (clearRefusal (win (devAt s t) n)).isSome = false := by simpa using h
          have hat : (clearRefusal (win s.dev n)).isSome = false := h'
          rw [hat, Bool.or_false]
          rfl
  case disagree =>
    intro s t n hn hup
    have heq : reconcile .leg n (devAt s t) = raiseI 1 n (devAt s t) := if_pos ⟨hn, hup⟩
    exact runs_eq rfl heq (raiseI_keeps 1 n _) (by decide) (raiseI_pending 1 n _ hup (by decide))

end Sys2Proof.Safety
end

section
/-!
PROOF. What a transition and an entry into TRIP leave of SYS_STATE, of the legs and of the windows (R21, R24, R26, R137).
-/
namespace Sys2Proof.Safety

open Sys2Proof.Machine

/-! ### Transitions -/

@[simp] theorem probeState_sys (target : OpState) (d : Dev) : (probeState target d).sys = d.sys :=
  (probeState_keeps target d).sys (by decide)

/-- The SYS_STATE of a transition that is not held back: what leaving the old state undoes, then the new state. -/
theorem transition_sys {target : OpState} {d : Dev} (cause : Nat) (h : d.hold.warned = false ∨ target = .clasp) :
    (transition target cause d).sys = { (leaveState (probeState target d)).sys with
      st := target, prev := d.sys.st, cause := cause,
      seq := ((leaveState (probeState target d)).sys.seq + 1) % 256, auto := .none,
      formAuto := target = .form && (cause = 0x12 || cause = 0x13 || (cause = 0x30 && d.pnd.mirrorAuto)),
      autoT := if cause = 0x05 then (leaveState (probeState target d)).sys.autoT else some d.t } := by
  have hgo : ¬ (d.hold.warned = true ∧ target ≠ .clasp) := by
    rintro ⟨hw, hne⟩
    exact h.elim (fun hf => by simp [hf] at hw) hne
  unfold transition
  rw [if_neg hgo, (calAbort_keeps _ _).sys (by decide)]
  dsimp only
  rw [(enterState_keeps _ _).sys (by decide), raise_sys]

/-- What leaving a state leaves of SYS_STATE beside the causes of TRIP and the state that SERVICE returns to. -/
theorem leaveState_sys (d : Dev) : ∃ cs r, (leaveState d).sys = { d.sys with tripCauses := cs, svcRet := r } := by
  unfold leaveState
  split
  · refine ⟨d.sys.tripCauses, .off, ?_⟩
    have h : (forAll 48 (fun n e => modLeg n (fun x => { x with force := 0 }) e) d).sys = d.sys :=
      (keeps_forAll 48 _ (fun n e => modLeg_keeps n _ e) d).sys (by decide)
    simp only [h]
  · exact ⟨[], d.sys.svcRet, rfl⟩
  · exact ⟨d.sys.tripCauses, d.sys.svcRet, rfl⟩
  · exact ⟨d.sys.tripCauses, d.sys.svcRet, rfl⟩

theorem transition_st {target : OpState} {d : Dev} (cause : Nat) (h : d.hold.warned = false ∨ target = .clasp) :
    (transition target cause d).sys.st = target := by rw [transition_sys cause h]

theorem transition_cause {target : OpState} {d : Dev} (cause : Nat) (h : d.hold.warned = false ∨ target = .clasp) :
    (transition target cause d).sys.cause = cause := by rw [transition_sys cause h]

theorem transition_prev {target : OpState} {d : Dev} (cause : Nat) (h : d.hold.warned = false ∨ target = .clasp) :
    (transition target cause d).sys.prev = d.sys.st := by rw [transition_sys cause h]

/-! ### Entries into TRIP -/

/-- A device in a state with gates can trip with every cause. -/
theorem canTrip_of_gates {d : Dev} (h : gatesState d = true) (c : Nat) : canTrip d c = true ∧ d.sys.st ≠ .trip := by
  unfold gatesState at h
  unfold canTrip
  cases hst : d.sys.st <;> simp [hst] at h ⊢

/-- The device with the fault flag that the active one of a pair declares (R464). -/
def tripMark (c : Nat) (d : Dev) : Dev :=
  if 0x26 ≤ c ∧ c ≤ 0x29 ∧ d.pnd.role = 1 then { d with pnd := { d.pnd with fault := true } } else d

theorem tripMark_keeps (c : Nat) (d : Dev) : Keeps [.pnd] d (tripMark c d) :=
  keeps_ite (fun _ => keeps_pnd _ d) (fun _ => Keeps.refl _ d)

/-- The device as it is about to enter TRIP: awake, with every leg held off and out of service. -/
def tripHeld (c : Nat) (d : Dev) : Dev :=
  let d0 := if (tripMark c d).sys.st = .doze then wakeDomains (tripMark c d) else tripMark c d
  legsOut { d0 with pwm := { d0.pwm with devHold := true } }

theorem tripHeld_keeps (c : Nat) (d : Dev) :
    Keeps ([.pnd, .wins, .clk, .cask, .pwm, .legs, .setr, .pv, .prm] ++ evParts) d (tripHeld c d) := by
  have hwake : Keeps ([.pnd, .wins, .clk, .cask, .pwm, .legs, .setr, .pv, .prm] ++ evParts) d
      (if (tripMark c d).sys.st = .doze then wakeDomains (tripMark c d) else tripMark c d) :=
    keeps_ite (fun _ => ((tripMark_keeps c d).mono (by decide)).andThen (wakeDomains_keeps _) (by decide))
      (fun _ => (tripMark_keeps c d).mono (by decide))
  exact (hwake.andThen (keeps_pwm _ _) (by decide)).andThen (legsOut_keeps _) (by decide)

/-- The device that has entered TRIP, before the channel is asked to disconnect. -/
def tripEntered (c : Nat) (d : Dev) : Dev :=
  { transition .trip c (tripHeld c d) with sys := { (transition .trip c (tripHeld c d)).sys with tripCauses := [c] } }

/-- An entry into TRIP from a state that cause `c` trips. -/
theorem enterTrip_eq {c : Nat} {d : Dev} (hst : d.sys.st ≠ .trip) (hcan : canTrip d c = true)
    (hwarned : d.hold.warned = false) : enterTrip c d =
      if bit (gdPrm (tripEntered c d) 0xE101) (c - 0x20) ∨ (0x22 ≤ c ∧ c ≤ 0x25) then
        gdDemand (0x22 ≤ c && c ≤ 0x24) (tripEntered c d)
      else tripEntered c d := by
  have hm := tripMark_keeps c d
  have hcan' : canTrip (tripMark c d) c = true := by
    rw [canTrip, hm.sys (by decide)]
    exact hcan
  have hgo : ¬ ((tripMark c d).sys.st = .trip ∨ ((tripMark c d).hold.warned = true ∧ canTrip (tripMark c d) c = true)) := by
    rw [hm.sys (by decide), hm.hold (by decide), hwarned]
    simpa using hst
  unfold enterTrip
  rw [← tripMark, if_neg hgo, if_pos hcan']
  unfold tripEntered tripHeld
  with_reducible rfl

/-- Causes that neither are in the mask nor always demand leave the channel; the others add their demand only. -/
theorem enterTrip_parts {c : Nat} {d : Dev} (hst : d.sys.st ≠ .trip) (hcan : canTrip d c = true)
    (hwarned : d.hold.warned = false) : Keeps (.gd :: evParts) (tripEntered c d) (enterTrip c d) := by
  rw [enterTrip_eq hst hcan hwarned]
  exact keeps_ite (fun _ => (gdDemand_keeps _ _).mono (by decide)) (fun _ => Keeps.refl _ _)

theorem tripEntered_sys {c : Nat} {d : Dev} (hwarned : d.hold.warned = false) : (tripEntered c d).sys.st = .trip ∧
    (tripEntered c d).sys.cause = c ∧ (tripEntered c d).sys.tripCauses = [c] ∧ (tripEntered c d).sys.prev = d.sys.st := by
  have hw : (tripHeld c d).hold.warned = false := by rw [(tripHeld_keeps c d).hold (by decide), hwarned]
  have hprev := transition_prev (target := .trip) (d := tripHeld c d) c (.inl hw)
  rw [(tripHeld_keeps c d).sys (by decide)] at hprev
  have hst := transition_st (target := .trip) (d := tripHeld c d) c (.inl hw)
  have hcause := transition_cause (target := .trip) (d := tripHeld c d) c (.inl hw)
  dsimp only [tripEntered]
  exact ⟨hst, hcause, rfl, hprev⟩

/-- A trip enters TRIP with its cause, the only one that stands. -/
theorem enterTrip_sys {c : Nat} {d : Dev} (hst : d.sys.st ≠ .trip) (hcan : canTrip d c = true)
    (hwarned : d.hold.warned = false) : (enterTrip c d).sys.st = .trip ∧ (enterTrip c d).sys.cause = c ∧
      (enterTrip c d).sys.tripCauses = [c] ∧ (enterTrip c d).sys.prev = d.sys.st := by
  rw [(enterTrip_parts hst hcan hwarned).sys (by decide)]
  exact tripEntered_sys hwarned

/-! ### Windows -/

/-- What an entry into TRIP keeps of a window: its latches and counters. Only the filters may be armed anew. -/
structure WinLatches (x y : Window) : Prop where
  lat : y.lat = x.lat
  latHi : y.latHi = x.latHi
  latLo : y.latLo = x.latLo
  cutTrip : y.cutTrip = x.cutTrip
  trips : y.trips = x.trips
  testing : y.testing = x.testing

theorem WinLatches.refl (x : Window) : WinLatches x x := ⟨rfl, rfl, rfl, rfl, rfl, rfl⟩

theorem WinLatches.trans {x y z : Window} (h : WinLatches x y) (k : WinLatches y z) : WinLatches x z :=
  ⟨k.lat.trans h.lat, k.latHi.trans h.latHi, k.latLo.trans h.latLo, k.cutTrip.trans h.cutTrip, k.trips.trans h.trips,
    k.testing.trans h.testing⟩

theorem winLatches_of_wins {d e : Dev} (h : e.wins = d.wins) (w : Nat) : WinLatches (win d w) (win e w) := by
  rw [win_of_wins h]
  exact .refl _

theorem armWin_latches (v w : Nat) (d : Dev) : WinLatches (win d w) (win (armWin v d) w) := by
  unfold armWin
  split
  · rw [win_modWin]
    split
    · subst ‹w = v›
      exact ⟨rfl, rfl, rfl, rfl, rfl, rfl⟩
    · exact .refl _
  · exact .refl _

theorem wakeDomains_latches (w : Nat) (d : Dev) : WinLatches (win d w) (win (wakeDomains d) w) := by
  have harm : ∀ e, WinLatches (win e w) (win (armAll e) w) := fun e =>
    forAll_preserves (n := 56) (P := fun f => WinLatches (win e w) (win f w)) (f := armWin)
      (fun v f _ h => h.trans (armWin_latches v w f)) (.refl _)
  unfold wakeDomains
  refine WinLatches.trans (winLatches_of_wins ?_ w) (harm _)
  rfl

theorem enterTrip_latches (c w : Nat) (d : Dev) : WinLatches (win d w) (win (enterTrip c d) w) := by
  have hmark : WinLatches (win d w) (win (tripMark c d) w) := winLatches_of_wins ((tripMark_keeps c d).wins (by decide)) w
  unfold enterTrip
  rw [← tripMark]
  refine hmark.trans ?_
  generalize tripMark c d = e
  dsimp only
  split
  · exact winLatches_of_wins rfl w
  · split
    · have hwake : WinLatches (win e w) (win (if e.sys.st = .doze then wakeDomains e else e) w) := by
        split
        · exact wakeDomains_latches w e
        · exact .refl _
      refine hwake.trans ?_
      generalize (if e.sys.st = .doze then wakeDomains e else e) = f
      refine winLatches_of_wins ?_ w
      have htrip : (transition .trip c (legsOut { f with pwm := { f.pwm with devHold := true } })).wins = f.wins := by
        rw [(transition_keeps _ _ _).wins (by decide), (legsOut_keeps _).wins (by decide)]
      generalize transition .trip c (legsOut { f with pwm := { f.pwm with devHold := true } }) = g at htrip ⊢
      split
      · rw [(gdDemand_keeps _ _).wins (by decide)]
        exact htrip
      · exact htrip
    · exact .refl _

theorem checkAc_latches (w : Nat) (d : Dev) : WinLatches (win d w) (win (checkAc d) w) := by
  unfold checkAc
  split
  · exact enterTrip_latches _ w d
  · exact .refl _

theorem legOut_latches (n : Nat) (back : Bool) (w : Nat) (d : Dev) : WinLatches (win d w) (win (legOut n back d) w) := by
  have hac : ∀ (b : Prop) [Decidable b] (f : Dev), f.wins = d.wins →
      WinLatches (win d w) (win (if b then checkAc f else f) w) := by
    intro b _ f h
    split
    · exact (winLatches_of_wins h w).trans (checkAc_latches w _)
    · exact winLatches_of_wins h w
  unfold legOut
  split
  · refine hac _ _ ?_
    rw [(bridgeDown_keeps n _ _).wins (by decide), (sweepLegLost_keeps n _).wins (by decide)]
    exact modLeg_wins n (fun x => { legLeft x with mayReturn := back, barred := x.barred || !back }) d
  · exact .refl _

/-- A lost leg is out of service, whether it was in service before or not. -/
theorem legOut_out (n : Nat) (back : Bool) (d : Dev) : inSvc (legOut n back d) n = false := by
  by_cases h : (inSvc d n || (leg d n).entering) = true
  · exact (legOut_leaves n back d h).out rfl
  · rw [legOut, if_neg h]
    cases hin : inSvc d n
    · rfl
    · exact absurd (by rw [hin, Bool.true_or]) h

end Sys2Proof.Safety
end

section
/-!
PROOF. The protection windows: assertions and trips, releases, clears and self-tests (R151 to R167).
-/
namespace Sys2Proof.Safety

open Sys2Proof.Machine

/-! ### Assertions -/

theorem prm_modWin (w : Nat) (f : Window → Window) (d : Dev) (p i : Nat) : prm (modWin w f d) p i = prm d p i := by
  simp only [prm, modWin_prm]

@[simp] theorem win_raiseI (e i : Nat) (d : Dev) (w : Nat) : win (raiseI e i d) w = win d w :=
  win_of_wins ((raiseI_keeps e i d).wins (by decide)) w

@[simp] theorem win_regate (d : Dev) (w : Nat) : win (regate d) w = win d w := win_of_wins ((regate_keeps d).wins (by decide)) w

@[simp] theorem win_regateLeg (n : Nat) (d : Dev) (w : Nat) : win (regateLeg n d) w = win d w :=
  win_of_wins ((regateLeg_keeps n d).wins (by decide)) w

@[simp] theorem win_triggers (code inst : Nat) (d : Dev) (w : Nat) : win (triggers code inst d) w = win d w :=
  win_of_wins ((triggers_keeps code inst d).wins (by decide)) w

@[simp] theorem win_answer (st dt : Nat) (d : Dev) (w : Nat) : win (answer st dt d) w = win d w := rfl

theorem otherWins_answer {s : State} {t w : Nat} {e : Dev} (st dt : Nat) (h : OtherWins w (devAt s t) e) :
    OtherWins w s.dev (answer st dt e) := h

theorem inSvc_of_legs {d e : Dev} (h : e.legs = d.legs) (n : Nat) : inSvc e n = inSvc d n := by
  simp only [inSvc, leg_of_legs h]

theorem setAct_act (u v : Bool) (x : Window) : winAct (setAct u v x) u = v := by cases u <;> rfl

theorem setAct_monEp (u v : Bool) (x : Window) : (setAct u v x).monEp = x.monEp := by cases u <;> rfl

theorem setAct_trips (u v : Bool) (x : Window) : (setAct u v x).trips = x.trips := by cases u <;> rfl

/-- The device as window `w` trips, before its leg is lost or the device enters TRIP. -/
def winLatch (w : Nat) (d : Dev) : Dev :=
  regate (modWin w (fun x => { x with lat := true, trips := incSat 65535 x.trips }) d)

theorem winLatch_keeps (w : Nat) (d : Dev) : Keeps [.wins, .legs] d (winLatch w d) :=
  ((modWin_keeps w _ d).mono (by decide)).andThen (regate_keeps _) (by decide)

theorem winTrip_keeps (w : Nat) (d : Dev) : Keeps tripParts d (winTrip w d) := by
  have hlatch : Keeps tripParts d (winLatch w d) := (winLatch_keeps w d).mono (by decide)
  exact keeps_ite (fun _ => (hlatch.andThen (raiseI_keeps _ _ _) (by decide)).trans (legOut_keeps _ _ _))
    (fun _ => (hlatch.andThen (raiseI_keeps _ _ _) (by decide)).trans (enterTrip_keeps _ _))

/-- A window that trips is latched and counted. -/
theorem winTrip_latches (w : Nat) (d : Dev) :
    WinLatches { win d w with lat := true, trips := incSat 65535 (win d w).trips } (win (winTrip w d) w) := by
  have hlatch : win (winLatch w d) w = { win d w with lat := true, trips := incSat 65535 (win d w).trips } := by
    rw [winLatch, win_regate, win_modWin_self]
  rw [winTrip, ← winLatch, ← hlatch]
  generalize winLatch w d = e
  split
  · have h := legOut_latches w false w (raiseI 49 w e)
    rwa [win_raiseI] at h
  · have h := enterTrip_latches 0x20 w (raiseI 50 w e)
    rwa [win_raiseI] at h

theorem winTrip_leg {w : Nat} {d : Dev} (hw : w < 48) : inSvc (winTrip w d) w = false := by
  rw [winTrip, ← winLatch, if_pos hw]
  exact legOut_out w false _

theorem winTrip_block {w : Nat} {d : Dev} (hw : 48 ≤ w) (hgates : gatesState d = true) (hwarned : d.hold.warned = false) :
    (winTrip w d).sys.st = .trip ∧ (winTrip w d).sys.cause = 0x20 := by
  rw [winTrip, ← winLatch, if_neg (Nat.not_lt.mpr hw)]
  have hkeeps := ((winLatch_keeps w d).mono (by decide)).andThen (ps := .legs :: .wins :: evParts) (raiseI_keeps 50 w _) (by decide)
  generalize raiseI 50 w (winLatch w d) = e at hkeeps
  have hgates' : gatesState e = true := by rw [gatesState, hkeeps.sys (by decide)]; exact hgates
  have hwarned' : e.hold.warned = false := by rw [hkeeps.hold (by decide)]; exact hwarned
  obtain ⟨hcan, hne⟩ := canTrip_of_gates hgates' 0x20
  obtain ⟨hst, hcause, -, -⟩ := enterTrip_sys hne hcan hwarned'
  exact ⟨hst, hcause⟩

theorem winAssert_eq {w : Nat} {u : Bool} {pin : List Int} {d : Dev} (hwatch : watches d w u = true)
    (hact : winAct (win d w) u = false) (hn : prm d 0x4009 w ≤ activeSamples d w u pin) :
    winAssert w u pin d = triggers (0x300 + w) d.t (winActs w u (modWin w (setAct u true) d)) :=
  if_pos ⟨hwatch, by simp [hact], hn⟩

/-- An assertion with act 2: the side is latched, and the window trips. -/
theorem winActs_trip {w : Nat} {u : Bool} {d : Dev} (hact : prm d 0x4000 w = 2) : winActs w u (modWin w (setAct u true) d) =
    winTrip w (modWin w (fun x => if u then { x with latHi := true } else { x with latLo := true })
      (modWin w (setAct u true) d)) := by
  simp [winActs, prm_modWin, hact]

theorem winActs_cut {w : Nat} {u : Bool} {d : Dev} (hw : w < 48) (hact : prm d 0x4000 w = 3) :
    winActs w u (modWin w (setAct u true) d) =
      regateLeg w (modWin w (fun x => { x with cutHold := true }) (modWin w (setAct u true) d)) := by
  simp [winActs, prm_modWin, hact, hw]

theorem winActs_monitor {w : Nat} {u : Bool} {d : Dev} (hact : prm d 0x4000 w = 1) (hep : (win d w).monEp ≠ ep d + 1) :
    winActs w u (modWin w (setAct u true) d) =
      raiseI 48 w (modWin w (fun x => { x with monEp := ep d + 1 }) (modWin w (setAct u true) d)) := by
  have hep' : ep (modWin w (setAct u true) d) = ep d := rfl
  simp [winActs, prm_modWin, hact, setAct_monEp, hep, hep']

/-- The side that an assertion latches. -/
theorem side_latched (u : Bool) (x : Window) : (if u = true then
    (if u = true then { setAct u true x with latHi := true } else { setAct u true x with latLo := true }).latHi = true
    else (if u = true then { setAct u true x with latHi := true } else { setAct u true x with latLo := true }).latLo = true) ∧
    (if u = true then { setAct u true x with latHi := true } else { setAct u true x with latLo := true }).trips = x.trips := by
  cases u <;> exact ⟨rfl, rfl⟩

/-- What an assertion with act 2 leaves of the device. -/
theorem winAssert_trip {w : Nat} {u : Bool} {pin : List Int} {d : Dev} (hwatch : watches d w u = true)
    (hact : winAct (win d w) u = false) (h2 : prm d 0x4000 w = 2) (hn : prm d 0x4009 w ≤ activeSamples d w u pin) :
    ∃ e, winAssert w u pin d = triggers (0x300 + w) d.t (winTrip w e) ∧ Keeps [.wins] d e ∧
      (if u then (win e w).latHi = true else (win e w).latLo = true) ∧ (win e w).trips = (win d w).trips := by
  refine ⟨modWin w (fun x => if u then { x with latHi := true } else { x with latLo := true }) (modWin w (setAct u true) d),
    ?_, (modWin_keeps w _ d).andThen (modWin_keeps w _ _) (by decide), ?_⟩
  · rw [winAssert_eq hwatch hact hn, winActs_trip h2]
  · rw [win_modWin_self, win_modWin_self]
    exact side_latched u (win d w)

/-- Settles O16: the assertion with each act, and the limit of cut periods. -/
theorem windowsTrip : Obligations.WindowsTrip := by
  unfold Obligations.WindowsTrip
  refine ⟨?legTrip, ?blockTrip, ?cut, ?monitor, ?limit⟩
  case legTrip =>
    intro s t w u pin hw hwatch hact h2 hn
    obtain ⟨e, heq, hkeeps, hside, htrips⟩ := winAssert_trip (d := devAt s t) hwatch hact h2 hn
    have hlat := winTrip_latches w e
    have hout := winTrip_leg (d := e) hw
    refine runs_eq rfl heq ((hkeeps.mono (by decide)).trans ((winTrip_keeps w e).andThen (triggers_keeps _ _ _) (by decide)))
      (by decide) ?_
    rw [win_triggers, inSvc_of_legs ((triggers_keeps _ _ _).legs (by decide)), hlat.lat, hlat.latHi, hlat.latLo, hlat.trips]
    exact ⟨rfl, hside, congrArg (incSat 65535) htrips, hout⟩
  case blockTrip =>
    intro s t w u pin hw hwatch hact h2 hn hgates hwarned
    obtain ⟨e, heq, hkeeps, -, -⟩ := winAssert_trip (d := devAt s t) hwatch hact h2 hn
    have hlat := winTrip_latches w e
    have hsys : e.sys = s.dev.sys := hkeeps.sys (by decide)
    have hhold : e.hold = s.dev.hold := hkeeps.hold (by decide)
    obtain ⟨hst, hcause⟩ := winTrip_block (d := e) hw (by rw [gatesState, hsys]; exact hgates) (by rw [hhold]; exact hwarned)
    refine runs_eq rfl heq ((hkeeps.mono (by decide)).trans ((winTrip_keeps w e).andThen (triggers_keeps _ _ _) (by decide)))
      (by decide) ?_
    rw [win_triggers, (triggers_keeps _ _ _).sys (by decide), hlat.lat]
    exact ⟨rfl, hst, hcause⟩
  case cut =>
    intro s t w u pin hw hwatch hact h3 hn
    have heq := winAssert_eq (d := devAt s t) hwatch hact hn
    rw [winActs_cut (d := devAt s t) hw h3] at heq
    refine runs_eq rfl heq ?_ (by decide) ?_
    · exact (((((modWin_keeps w _ _).mono (by decide)).andThen (modWin_keeps w _ _) (by decide)).andThen
        (regateLeg_keeps w _) (by decide)).andThen (triggers_keeps _ _ _) (by decide))
    · rw [win_triggers, win_regateLeg, win_modWin_self, win_modWin_self]
      refine ⟨rfl, fun v hv => ?_⟩
      rw [win_triggers, win_regateLeg, win_modWin, if_neg hv, win_modWin, if_neg hv]
      rfl
  case monitor =>
    intro s t w u pin hwatch hact h1 hn hep hup
    have heq := winAssert_eq (d := devAt s t) hwatch hact hn
    rw [winActs_monitor (d := devAt s t) h1 hep] at heq
    refine runs_eq rfl heq ?_ (by decide) ?_
    · exact ((((modWin_keeps w _ _).mono (by decide)).andThen (modWin_keeps w _ _) (by decide)).andThen
        (raiseI_keeps _ _ _) (by decide)).andThen (triggers_keeps _ _ _) (by decide)
    · refine ⟨?_, ?_, fun v hv => ?_⟩
      · rw [Pending, triggers_ev]
        exact raiseI_pending 48 w _ hup (by decide)
      · rw [win_triggers, win_raiseI, win_modWin_self, win_modWin_self]
        cases u <;> rfl
      · rw [win_triggers, win_raiseI, win_modWin, if_neg hv, win_modWin, if_neg hv]
        rfl
  case limit =>
    intro s t w hw h3 hlimit
    have heq : cutLimit w (devAt s t) = winTrip w (modWin w (fun x => { x with cutTrip := true }) (devAt s t)) :=
      if_pos ⟨hw, h3, hlimit⟩
    have hlat := winTrip_latches w (modWin w (fun x => { x with cutTrip := true }) (devAt s t))
    rw [win_modWin_self] at hlat
    exact runs_eq rfl heq (((modWin_keeps w _ _).mono (by decide)).trans (winTrip_keeps w _)) (by decide)
      ⟨hlat.lat, hlat.cutTrip, winTrip_leg hw⟩

/-! ### Releases, clears and self-tests -/

/-- A step of a test of window `w` at the end of its phase. -/
theorem testStep_eq {w ph : Nat} {u : Bool} {f : Bool → Window → Window} {d : Dev} (hw : w < 56)
    (htest : (win d w).testing = some u) (hph : (win d w).testPh = ph) (ht : d.t = (win d w).testT + 800 * ph) :
    testStep w ph f d = modWin w (f u) d := by
  simp [testStep, testAt, hw, htest, hph, ht]

/-- A step of a test touches its window alone. -/
theorem runs_modWin {i : Instr} {t w : Nat} {s : State} {g : Dev → Dev} {f : Window → Window} {y : Window}
    (he : exec i s = lift t g s) (hg : g (devAt s t) = modWin w f (devAt s t)) (hy : f (win s.dev w) = y) :
    Runs i t s [.wins] (fun d => win d w = y ∧ OtherWins w s.dev d) :=
  runs_eq he hg (modWin_keeps w f _) (by decide) ⟨(win_modWin_self w f _).trans hy, otherWins_modWin w f _⟩

/-- ARMHOLD with both comparators released. -/
theorem armhold_released (x : Window) (en : Nat) (hhi : x.hiAct = false) (hlo : x.loAct = false) :
    (if x.armhold = true ∧ ¬ (bit en 0 = true ∧ x.hiAct = true) ∧ ¬ (bit en 1 = true ∧ x.loAct = true) then
      { x with armhold := false } else x) = { x with armhold := false } := by
  cases ha : x.armhold
  case true => simp [hhi, hlo]
  case false => simp [← ha]

theorem winRelease_eq {w : Nat} {u : Bool} {pin : List Int} {d : Dev} (hwatch : watches d w u = true)
    (hact : winAct (win d w) u = true) (hm : prm d 0x4008 w ≤ pin.length) (hnone : activeSamples d w u pin = 0) :
    winRelease w u pin d = regate (armCheck w (modWin w (setAct u false) d)) := if_pos ⟨hwatch, hact, hm, hnone⟩

theorem setAct_released {u : Bool} {x : Window} (h : winAct x (!u) = false) :
    (setAct u false x).hiAct = false ∧ (setAct u false x).loAct = false := by
  cases u
  · exact ⟨h, rfl⟩
  · exact ⟨rfl, h⟩

theorem testBegin_eq {w : Nat} {u : Bool} {d : Dev} (hw : w < 56) (hadm : testAdmitted d w = true) :
    winTest u w d = answer 0 0 (beginTest w u d) := by
  simp [winTest, Nat.not_le.mpr hw, hadm]

theorem beginTest_keeps (w : Nat) (u : Bool) (d : Dev) : Keeps [.wins] d (beginTest w u d) := modWin_keeps w _ d

/-- A write that begins a self-test, of either comparator. -/
theorem runs_winTest {i : Instr} {s : State} {t cls w : Nat} {u : Bool} (he : exec i s = lift t (immediate cls 2 (winTest u w)) s)
    (hs : WriteServed s.dev cls 2) (hw : w < 56) (hadm : testAdmitted s.dev w = true) :
    Runs i t s [.wins, .mbx] (fun d => Answered 0 0 d ∧ win d w = setAct u true { win s.dev w with
      testing := some u, testBad := 0, testPh := 1, testT := t, testSrc := relSource s.dev w u } ∧ OtherWins w s.dev d) := by
  have heq := (immediate_of_served (d := devAt s t) hs (winTest u w)).trans (testBegin_eq (d := devAt s t) hw hadm)
  refine runs_eq he heq (((beginTest_keeps w u _).mono (by decide)).andThen (answer_keeps _ _ _) (by decide)) (by decide) ?_
  refine ⟨answered_answer 0 0 _, ?_, otherWins_answer 0 0 (otherWins_modWin w _ _)⟩
  rw [win_answer, beginTest, win_modWin_self]
  rfl

/-- The end of a test whose window passed it. -/
theorem endTest_passed {w : Nat} {u : Bool} {d : Dev} (htest : (win d w).testing = some u) : endTest w 1 d =
    raiseI 53 w (modWin w (fun x => if u then { x with testing := none, testPh := 0, testRes := 1, testBad := 0, failHi := false }
      else { x with testing := none, testPh := 0, testRes := 1, testBad := 0, failLo := false }) d) := by
  simp [endTest, htest]

theorem nextTest_empty {d : Dev} (h : d.setr.testQueue = []) : nextTest d = d := by
  simp only [nextTest, h]

/-- A window that is armed keeps the results of its tests. -/
theorem armWin_tests (w : Nat) (d : Dev) : (win (armWin w d) w).testing = (win d w).testing ∧
    (win (armWin w d) w).testRes = (win d w).testRes ∧ (win (armWin w d) w).failHi = (win d w).failHi ∧
    (win (armWin w d) w).failLo = (win d w).failLo ∧ OtherWins w d (armWin w d) := by
  unfold armWin
  split
  · rw [win_modWin_self]
    exact ⟨rfl, rfl, rfl, rfl, otherWins_modWin w _ d⟩
  · exact ⟨rfl, rfl, rfl, rfl, fun _ _ => rfl⟩

/-- A test that released again by 8 µs. -/
theorem testEnd_eq {w : Nat} {u : Bool} {d : Dev} (hw : w < 56) (htest : (win d w).testing = some u)
    (hph : (win d w).testPh = 4) (hbad : (win d w).testBad = 0) (hqueue : d.setr.testQueue = [])
    (ht : d.t = (win d w).testT + 3200) :
    testEnd w true d = regate (armWin w (endTest w 1 (modWin w (setAct u false) d))) := by
  have hat : testAt d w 4 = true := by simp [testAt, hw, htest, hph, ht]
  have hend : ∀ e : Dev, Keeps (.wins :: evParts) e (endTest w 1 e) := fun e => by
    unfold endTest
    split
    · exact Keeps.refl _ e
    · exact ((modWin_keeps w _ e).mono (by decide)).andThen (raiseI_keeps _ _ _) (by decide)
  have hsetr : (regate (armWin w (endTest w 1 (modWin w (setAct u false) d)))).setr.testQueue = [] := by
    rw [(regate_keeps _).setr (by decide), (armWin_keeps _ _).setr (by decide), (hend _).setr (by decide), modWin_setr, hqueue]
  have hstep : testStep w 4 (fun upper x => setAct upper (!true) x) d = modWin w (setAct u false) d := testStep_eq hw htest hph ht
  rw [testEnd, if_pos hat, hbad, hstep]
  simp only [ne_eq, not_true_eq_false, if_false, if_true]
  exact nextTest_empty hsetr

/-- Settles O17: each release, clear and write of a test, then each step of a running test at its tick. -/
theorem windowClearsAndTests : Obligations.WindowClearsAndTests := by
  unfold Obligations.WindowClearsAndTests
  refine ⟨?release, ?clear, ?refused, ?upper, ?lower, ?testRelease, ?testDelay, ?testNone, ?testReturn, ?testEnd⟩
  case release =>
    intro s t w u pin hwatch hact hother hm hnone
    refine runs_eq rfl (winRelease_eq (d := devAt s t) hwatch hact hm hnone)
      ((((modWin_keeps w _ _).mono (by decide)).andThen (modWin_keeps w _ _) (by decide)).andThen (regate_keeps _) (by decide))
      (by decide) ⟨?_, fun v hv => ?_⟩
    · obtain ⟨hhi, hlo⟩ := setAct_released (u := u) (x := win s.dev w) hother
      rw [win_regate, armCheck, win_modWin_self, win_modWin_self]
      exact armhold_released _ _ hhi hlo
    · rw [win_regate, armCheck, win_modWin, if_neg hv, win_modWin, if_neg hv]
      rfl
  case clear =>
    intro s t cls w hs hw hhi hlo hhold hfail
    have heq : winClear w (devAt s t) = answer 0 0 (clearWin w (devAt s t)) := by
      have hnone : clearRefusal (win (devAt s t) w) = none := by
        have hrefuse : clearRefusal (win s.dev w) = none := by simp [clearRefusal, hhi, hlo, hhold, hfail]
        exact hrefuse
      simp only [winClear, Nat.not_le.mpr hw, if_false, hnone]
    refine runs_eq rfl ((immediate_of_served (d := devAt s t) hs _).trans heq)
      (((clearWin_keeps w _).mono (by decide)).andThen (answer_keeps _ _ _) (by decide)) (by decide)
      ⟨answered_answer 0 0 _, ?_, otherWins_answer 0 0 (clearWin_others w _)⟩
    rw [win_answer, win_clearWin]
    rfl
  case refused =>
    intro s t cls w hs hw hhi
    have heq : winClear w (devAt s t) = answer 1 2 (modWin w (fun x => { x with clrRef := true }) (devAt s t)) := by
      have hsome : clearRefusal (win (devAt s t) w) = some 2 := by
        have hrefuse : clearRefusal (win s.dev w) = some 2 := by simp [clearRefusal, hhi]
        exact hrefuse
      simp only [winClear, Nat.not_le.mpr hw, if_false, hsome]
    refine runs_eq rfl ((immediate_of_served (d := devAt s t) hs _).trans heq)
      (((modWin_keeps w _ _).mono (by decide)).andThen (answer_keeps _ _ _) (by decide)) (by decide)
      ⟨answered_answer 1 2 _, ?_, otherWins_answer 1 2 (otherWins_modWin w _ _)⟩
    rw [win_answer, win_modWin_self]
    rfl
  case upper => exact fun s t cls w hs hw hadm => runs_winTest (i := .winTestUpper t cls w) (u := true) rfl hs hw hadm
  case lower => exact fun s t cls w hs hw hadm => runs_winTest (i := .winTestLower t cls w) (u := false) rfl hs hw hadm
  case testRelease =>
    intro s t w u r hw htest hph hbad ht
    refine runs_modWin (g := testRelease w r) rfl (testStep_eq (d := devAt s t) hw htest hph ht) ?_
    rw [hbad]
    rfl
  case testDelay =>
    intro s t w k u hw htest hph hbad hk ht
    refine runs_modWin (g := testDeadline w (some k)) rfl (testStep_eq (d := devAt s t) hw htest hph ht) ?_
    have hmin : min 255 k = k := by omega
    simp only [hbad, hmin, ne_eq, not_true_eq_false, if_false, Option.isSome_some]
    rfl
  case testNone =>
    intro s t w u hw htest hph hbad ht
    refine runs_modWin (g := testDeadline w none) rfl (testStep_eq (d := devAt s t) hw htest hph ht) ?_
    simp only [hbad, ne_eq, not_true_eq_false, if_false, Option.isSome_none]
  case testReturn =>
    intro s t w u hw htest hph ht
    exact runs_modWin (g := testReturn w) rfl (testStep_eq (d := devAt s t) hw htest hph ht) rfl
  case testEnd =>
    intro s t w u hw htest hph hbad hqueue hup ht
    have heq := testEnd_eq (d := devAt s t) hw htest hph hbad hqueue ht
    have htest' : (win (modWin w (setAct u false) (devAt s t)) w).testing = some u := by
      rw [win_modWin_self]
      cases u <;> exact htest
    rw [endTest_passed htest'] at heq
    generalize hd1 : modWin w (setAct u false) (devAt s t) = d1 at heq
    have hothers1 : OtherWins w s.dev d1 := hd1 ▸ otherWins_modWin w _ (devAt s t)
    have hkeeps1 : Keeps [.wins] (devAt s t) d1 := hd1 ▸ modWin_keeps w _ (devAt s t)
    obtain ⟨htesting, hres, hhi, hlo, hothers⟩ := armWin_tests w (raiseI 53 w (modWin w (fun x =>
      if u then { x with testing := none, testPh := 0, testRes := 1, testBad := 0, failHi := false }
      else { x with testing := none, testPh := 0, testRes := 1, testBad := 0, failLo := false }) d1))
    rw [win_raiseI, win_modWin_self] at htesting hres hhi hlo
    refine runs_eq rfl heq ?_ (by decide) ?_
    · exact ((((hkeeps1.mono (by decide)).andThen (modWin_keeps w _ _) (by decide)).andThen (raiseI_keeps _ _ _)
        (by decide)).andThen (armWin_keeps w _) (by decide)).andThen (regate_keeps _) (by decide)
    · rw [win_regate, htesting, hres, hhi, hlo]
      refine ⟨?_, ?_, ?_, ?_, ?_⟩
      · cases u <;> rfl
      · cases u <;> rfl
      · cases u <;> rfl
      · rw [Pending, (regate_keeps _).ev (by decide), (armWin_keeps _ _).ev (by decide)]
        refine raiseI_pending 53 w _ ?_ (by decide)
        rw [modWin_sys, hkeeps1.sys (by decide)]
        exact hup
      · intro v hv
        rw [win_regate, hothers v hv, win_raiseI, win_modWin, if_neg hv]
        exact hothers1 v hv

end Sys2Proof.Safety
end

section
/-!
PROOF. Scans of the Facets, the rotation of Facet 12 and its takeover (R32 to R35, R52, R60 to R65, R295).
-/
namespace Sys2Proof.Safety

open Sys2Proof.Machine

/-! ### The Facets -/

theorem facet_modFacet (f g : Nat) (h : Facet → Facet) (d : Dev) :
    facet (modFacet f h d) g = if g = f then h (facet d f) else facet d g := by
  simp only [facet, modFacet_acq, tget_tmod]

@[simp] theorem facet_modFacet_self (f : Nat) (h : Facet → Facet) (d : Dev) : facet (modFacet f h d) f = h (facet d f) := by
  rw [facet_modFacet, if_pos rfl]

theorem facet_of_acq {d e : Dev} (h : e.acq.facets = d.acq.facets) (f : Nat) : facet e f = facet d f := by
  simp only [facet, h]

theorem modFacet_keeps (f : Nat) (h : Facet → Facet) (d : Dev) : Keeps [.acq] d (modFacet f h d) := keeps_acq _ d

theorem prm_of_prm {d e : Dev} (h : e.prm = d.prm) (p i : Nat) : prm e p i = prm d p i := by
  simp only [prm, h]

theorem prm_modFacet (f : Nat) (h : Facet → Facet) (d : Dev) (p i : Nat) : prm (modFacet f h d) p i = prm d p i :=
  prm_of_prm rfl p i

theorem prm_raiseI (ev n : Nat) (d : Dev) (p i : Nat) : prm (raiseI ev n d) p i = prm d p i :=
  prm_of_prm ((raiseI_keeps ev n d).prm (by decide)) p i

/-! ### Scan timers -/

/-- A device whose parameters, tick and Facet `f` are those of `d`. -/
structure SameFacet (f : Nat) (d e : Dev) : Prop where
  prm : e.prm = d.prm
  t : e.t = d.t
  facet : facet e f = facet d f

theorem scanTrig_idle {f : Nat} {d : Dev} (hw : (facet d f).waiting = none) (hu : (facet d f).until_ ≤ d.t) :
    scanTrig f d = modFacet f (fun x => { x with waiting := some (d.t + prm d 0x1004 f) }) d := by
  simp [scanTrig, hw, Nat.not_lt.mpr hu]

theorem scanTrig_busy {f : Nat} {d : Dev} (hu : d.t < (facet d f).until_) :
    scanTrig f d = modFacet f (fun x => { x with missed := incSat 65535 x.missed }) d := if_pos (.inr hu)

theorem scanTrig_other {f g : Nat} (hne : f ≠ g) (d : Dev) : facet (scanTrig g d) f = facet d f := by
  unfold scanTrig
  split
  · rw [facet_modFacet, if_neg hne]
  · rw [facet_modFacet, if_neg hne]

theorem timerFire_eq {k : Nat} {d : Dev} (hk : k < 8) (hp : prm d 0x1010 k ≠ 0) (hle : tget 0 d.acq.timers k ≤ d.t)
    (hat : (d.t - tget 0 d.acq.timers k) % prm d 0x1010 k = 0) : timerFire k d =
      forAll 13 (fun f e => if prm e 0x1000 f = 2 ∧ prm e 0x1002 f = 48 + k then scanTrig f e else e) d :=
  if_pos ⟨hk, hp, hle, hat⟩

theorem timerFire_keeps (k : Nat) (d : Dev) : Keeps [.acq] d (timerFire k d) :=
  keeps_ite (fun _ => keeps_forAll 13 _ (fun f e => keeps_ite (fun _ => scanTrig_keeps f e) (fun _ => Keeps.refl _ e)) d)
    (fun _ => Keeps.refl _ d)

/-- At its period, timer `k` triggers a Facet that names it as if it were the only one. -/
theorem timerFire_facet {k f : Nat} {d : Dev} {y : Facet} (hk : k < 8) (hp : prm d 0x1010 k ≠ 0)
    (hle : tget 0 d.acq.timers k ≤ d.t) (hat : (d.t - tget 0 d.acq.timers k) % prm d 0x1010 k = 0) (hf : f < 13)
    (hmode : prm d 0x1000 f = 2) (hname : prm d 0x1002 f = 48 + k)
    (htrig : ∀ e, SameFacet f d e → facet (scanTrig f e) f = y) : facet (timerFire k d) f = y := by
  rw [timerFire_eq hk hp hle hat]
  refine forAll_at (P := SameFacet f d) (Q := fun e => facet e f = y) hf ?_ ?_ ?_ ⟨rfl, rfl, rfl⟩
  · intro g e _ hne h
    split
    · have hkeeps := scanTrig_keeps g e
      exact ⟨(hkeeps.prm (by decide)).trans h.prm, (hkeeps.t (by decide)).trans h.t,
        (scanTrig_other (Ne.symm hne) e).trans h.facet⟩
    · exact h
  · intro e h
    rw [if_pos ⟨(prm_of_prm h.prm _ _).trans hmode, (prm_of_prm h.prm _ _).trans hname⟩]
    exact htrig e h
  · intro g e _ hne h
    split
    · rw [scanTrig_other (Ne.symm hne), h]
    · exact h

/-! ### Scan starts -/

/-- The device as a scan of Facet `f` starts with no values that waited for it. -/
def scanned (f : Nat) (d : Dev) : Dev :=
  modFacet f (fun y => { y with until_ := d.t + 10 * (scanLen d f - 1) + 1, next := d.t + 10 * scanLen d f,
                                due := y.due ++ scanItems f [] d })
    (overlapScan f false (modFacet f (fun y => { y with waiting := none, change := [] }) d))

theorem scanItems_congr {d e : Dev} (hprm : e.prm = d.prm) (ht : e.t = d.t) (hspare : e.acq.spareFor = d.acq.spareFor)
    (f : Nat) (ch : Tab (Option Nat)) : scanItems f ch e = scanItems f ch d := by
  simp only [scanItems, prm_of_prm hprm, ht, hspare]

theorem scanStart_eq {f : Nat} {d : Dev} (hdue : scanDue f d = true) (hch : (facet d f).change = [])
    (hmode : prm d 0x1000 f ≠ 0) (hlen : scanLen d f ≠ 0) : scanStart f d = scanned f d := by
  have hlen' : scanLen (modFacet f (fun y => { y with waiting := none, change := [] }) d) f = scanLen d f := by
    simp only [scanLen, prm_modFacet]
  have hitems : scanItems f [] (modFacet f (fun y => { y with waiting := none, change := [] }) d) = scanItems f [] d :=
    scanItems_congr rfl rfl rfl f []
  simp only [scanStart, hdue, if_true, hch, List.filter_nil, setVals, List.foldl_nil, prm_modFacet, hmode, hlen', hlen,
    or_self, if_false, hitems, ne_eq, not_true_eq_false, decide_false]
  rfl

theorem overlapScan_facets (f : Nat) (b : Bool) (d : Dev) : Keeps [.acq] d (overlapScan f b d) ∧
    (overlapScan f b d).acq.facets = d.acq.facets ∧ (overlapScan f b d).acq.ains = d.acq.ains := by
  unfold overlapScan
  split
  · exact ⟨keeps_acq _ d, rfl, rfl⟩
  · exact ⟨Keeps.refl _ d, rfl, rfl⟩

/-- A scan that is due starts, and leaves the other Facets and the inputs as they are. -/
theorem runs_scanStart {s : State} {t f : Nat} (hdue : scanDue f (devAt s t) = true) (hch : (facet s.dev f).change = [])
    (hmode : prm s.dev 0x1000 f ≠ 0) (hlen : scanLen s.dev f ≠ 0) : Runs (.scanStart t f) t s [.acq] (fun d =>
      facet d f = { facet s.dev f with
        waiting := none, until_ := t + 10 * (scanLen s.dev f - 1) + 1, next := t + 10 * scanLen s.dev f,
        due := (facet s.dev f).due ++ scanItems f [] (devAt s t) } ∧
        (∀ g, g ≠ f → facet d g = facet s.dev g) ∧ d.acq.ains = s.dev.acq.ains) := by
  have hfacets := overlapScan_facets f false (modFacet f (fun y => { y with waiting := none, change := [] }) (devAt s t))
  obtain ⟨hkeeps, hfs, hins⟩ := hfacets
  refine runs_eq rfl (scanStart_eq (d := devAt s t) hdue hch hmode hlen) ?_ (by decide) ⟨?_, fun g hg => ?_, ?_⟩
  · exact ((modFacet_keeps f _ _).andThen hkeeps (by decide)).andThen (modFacet_keeps f _ _) (by decide)
  · rw [scanned, facet_modFacet_self, facet_of_acq hfs, facet_modFacet_self]
    have hnone : (facet (devAt s t) f).change = [] := hch
    rw [← hnone]
    rfl
  · rw [scanned, facet_modFacet, if_neg hg, facet_of_acq hfs, facet_modFacet, if_neg hg]
    rfl
  · exact hins

/-! ### Facet faults and the rotation -/

theorem nextCore_of_good {d : Dev} (h : d.acq.facetFlt = 0) (f : Nat) : nextCore d f = f % 12 := by
  have hbit : ∀ g, bit 0 g = false := fun g => by simp [bit]
  have hrange : List.range 12 = 0 :: (List.range 11).map (fun k => k + 1) := by decide
  simp [nextCore, h, hbit, hrange]

/-- A core Facet that is declared faulty (R51): its bit, EV_FACETFLT, and the choice of what Facet 12 serves. -/
theorem facetFault_core {f : Nat} {d : Dev} (hf : f < 12) (hgood : bit d.acq.facetFlt f = false) :
    Keeps (.acq :: evParts) d (facetFault f d) ∧ (d.sys.up = true → Pending 17 (facetFault f d)) ∧
      ∃ next c, (facetFault f d).acq =
        { d.acq with facetFlt := setBit d.acq.facetFlt f, rotNext := next, takeover := c } := by
  have hne : f ≠ 12 := by omega
  have hgo : ¬ bit d.acq.facetFlt f = true := by simp [hgood]
  rw [facetFault, if_neg hne, if_neg hgo]
  dsimp only
  generalize hd1 : ({ d with acq := { d.acq with
    facetFlt := setBit d.acq.facetFlt f,
    rotNext := nextCore { d with acq := { d.acq with facetFlt := setBit d.acq.facetFlt f } } d.acq.rotNext } } : Dev) = d1
  have hkeeps1 : Keeps [.acq] d d1 := hd1 ▸ keeps_acq _ d
  have hacq1 : d1.acq = { d.acq with facetFlt := setBit d.acq.facetFlt f, rotNext := d1.acq.rotNext } := by rw [← hd1]
  have hkeeps2 : Keeps (.acq :: evParts) d (raiseI 17 f d1) := (hkeeps1.mono (by decide)).andThen (raiseI_keeps _ _ _) (by decide)
  have hpend : d.sys.up = true → Pending 17 (raiseI 17 f d1) := fun hup =>
    raiseI_pending 17 f d1 ((congrArg Sys.up (hkeeps1.sys (by decide))).trans hup) (by decide)
  have hacq2 : (raiseI 17 f d1).acq = { d.acq with facetFlt := setBit d.acq.facetFlt f, rotNext := d1.acq.rotNext } := by
    rw [(raiseI_keeps _ _ _).acq (by decide)]
    exact hacq1
  generalize raiseI 17 f d1 = d2 at hkeeps2 hpend hacq2 ⊢
  split
  · exact ⟨hkeeps2, hpend, d1.acq.rotNext, d.acq.takeover, by rw [hacq2]⟩
  · refine ⟨hkeeps2.andThen (keeps_acq _ d2) (by decide), hpend, d1.acq.rotNext, spareChoice d2, ?_⟩
    dsimp only
    rw [hacq2]

/-- A step of the rotation on a core that scans, from a device with the parameters of `d`. -/
theorem rotBegin_eq {f : Nat} {d : Dev} {a : Acq} (hon : prm d 0x1000 f ≠ 0) :
    rotBegin f { d with acq := a } = startSelfCal 12 { d with acq := { a with rotPhase := 1 } } := if_neg hon

/-- A self-calibration of Facet 12 that passes ends at its time. -/
theorem selfCalDone_pass12 {d : Dev} (hcal : (facet d 12).selfCal = true) (ht : d.t = (facet d 12).selfCalT + 1400000)
    (hphase : d.acq.rotPhase = 1) : selfCalDone 12 true d =
      (let d1 := modFacet 12 (fun x => { x with selfCal := false }) { d with acq := { d.acq with trim := tput 0 12 0 d.acq.trim } }
       { d1 with acq := { d1.acq with rotPhase := 2, overlap := 0 } }) := by
  simp [selfCalDone, selfCalTicks, hcal, ht, hphase]

/-- The device as the self-calibration of Facet `f` has ended. -/
def selfCalEnded (f : Nat) (d : Dev) : Dev :=
  modFacet f (fun x => { x with selfCal := false }) { d with acq := { d.acq with trim := tput 0 f 0 d.acq.trim } }

/-- A failed self-calibration of a core Facet declares it faulty, and the rotation goes on. -/
theorem selfCalDone_fail {f : Nat} {d : Dev} (hf : f < 12) (hcal : (facet d f).selfCal = true)
    (ht : d.t = (facet d f).selfCalT + 1400000) : ∃ ph tk,
      selfCalDone f false d = (let d2 := facetFault f (selfCalEnded f d)
        { d2 with acq := { d2.acq with rotPhase := ph, takeover := tk } }) := by
  have hgo : f < 13 ∧ (facet d f).selfCal = true ∧ d.t = (facet d f).selfCalT + selfCalTicks := ⟨by omega, hcal, ht⟩
  rw [selfCalDone, if_pos hgo, ← selfCalEnded]
  simp only [Bool.false_eq_true, not_false_eq_true, if_true]
  generalize facetFault f (selfCalEnded f d) = d2
  split
  · exact ⟨5, 15, rfl⟩
  · split
    · exact ⟨0, d2.acq.takeover, rfl⟩
    · exact ⟨d2.acq.rotPhase, d2.acq.takeover, rfl⟩

/-- The trim of the incoming converter at the end of an overlap. -/
def overlapTrimmed (ds : List Int) (d : Dev) : Dev :=
  { d with acq := { d.acq with trim := tput 0 12 (tget 0 d.acq.trim 12 + (overlapMatch (prm d 0x1202 0) ds).1) d.acq.trim } }

/-- The end of the overlap of a handover. -/
theorem overlapEnd_eq {ds : List Int} {d : Dev} (hds : ds ≠ []) (hzero : d.acq.calZero = none) (hfull : d.acq.calFull = none)
    (hphase : d.acq.rotPhase = 2) (hlock : locked d 3 = true) (hover : d.acq.overlap = 256)
    (huntil : (facet d d.acq.rotCur).until_ ≤ d.t) : overlapEnd ds d =
      if (overlapMatch (prm d 0x1202 0) ds).2 = false then rotIdle (raiseI 19 d.acq.rotCur (overlapTrimmed ds d))
      else startSelfCal d.acq.rotCur { overlapTrimmed ds d with
        acq := { (overlapTrimmed ds d).acq with spareFor := d.acq.rotCur, rotPhase := 3 } } := by
  have hbusy : calBusy d d.acq.rotCur = false := by simp [calBusy, hzero, hfull]
  have hgo : ds ≠ [] ∧ ¬ calBusy d d.acq.rotCur = true ∧ (d.acq.rotPhase = 2 ∨ d.acq.rotPhase = 4) ∧ locked d 3 = true ∧
      d.acq.overlap = 256 ∧ (facet d d.acq.rotCur).until_ ≤ d.t :=
    ⟨hds, ne_true_of_eq_false hbusy, .inl hphase, hlock, hover, huntil⟩
  rw [overlapEnd]
  dsimp only
  rw [if_pos hgo, if_pos hphase, if_pos hphase]
  simp only [overlapTrimmed, Bool.not_eq_true]

theorem giveBack_keeps (d : Dev) : Keeps [.acq] d (giveBack d) :=
  keeps_ite (fun _ => (keeps_acq _ d).andThen (modFacet_keeps _ _ _) (by decide)) (fun _ => Keeps.refl _ d)

theorem spareTakeover_eq {f : Nat} {d : Dev} (hf : f < 12) (htake : d.acq.takeover = f) (hgood : d.acq.spareFlt = false)
    (huntil : (facet d f).until_ ≤ d.t) : spareTakeover f d =
      modFacet 12 (fun x => { x with selfCal := false }) { giveBack d with
        acq := { (giveBack d).acq with spareFor := f, takeover := 15, rotPhase := 5 } } :=
  if_pos ⟨hf, htake, by simp [hgood], huntil⟩

theorem bit_two_pow (f k : Nat) : bit (2 ^ f) k = decide (f = k) := by
  have h : (2 ^ f).testBit k = decide (f = k) := Nat.testBit_two_pow ..
  rw [Nat.testBit_eq_decide_div_mod_eq] at h
  exact h

theorem facetFltWrite_eq {f : Nat} {d : Dev} (hf : f < 12) (hbad : bit d.acq.facetFlt f = true) :
    facetFltWrite (2 ^ f) d = startSelfCal f d := by
  refine forAll_at (P := fun e => e = d) (Q := fun e => e = startSelfCal f d) hf ?_ ?_ ?_ rfl
  · intro g e _ hne h
    rw [if_neg (by simp [bit_two_pow, Ne.symm hne]), h]
  · intro e h
    rw [h, if_pos ⟨by simp [bit_two_pow], hbad⟩]
  · intro g e _ hne h
    rw [if_neg (by simp [bit_two_pow, Ne.symm hne]), h]

theorem startSelfCal_keeps (f : Nat) (d : Dev) : Keeps [.acq] d (startSelfCal f d) := modFacet_keeps f _ d

theorem startSelfCal_others (f : Nat) (d : Dev) : ∀ g, g ≠ f → facet (startSelfCal f d) g = facet d g :=
  fun g hg => by rw [startSelfCal, facet_modFacet, if_neg hg]

/-- Settles O18: timers, scan starts, then each step of the rotation and of the takeover. -/
theorem facetScans : Obligations.FacetScans := by
  unfold Obligations.FacetScans
  refine ⟨?timer, ?missed, ?continuous, ?triggered, ?dwell, ?pass, ?fail, ?handover, ?mismatch, ?takeover, ?fltWrite,
    ?spareWrite⟩
  case timer =>
    intro s t k f hk hp hle hat hf hmode hname hwait huntil
    have hfacet : facet (timerFire k (devAt s t)) f = { facet s.dev f with waiting := some (t + prm s.dev 0x1004 f) } := by
      refine timerFire_facet (d := devAt s t) hk hp hle hat hf hmode hname (fun e h => ?_)
      have hw : (facet e f).waiting = none := by rw [h.facet]; exact hwait
      have hu : (facet e f).until_ ≤ e.t := by rw [h.facet, h.t]; exact huntil
      rw [scanTrig_idle hw hu, facet_modFacet_self, h.facet, h.t, prm_of_prm h.prm]
      rfl
    exact runs_lift (f := timerFire k) rfl (timerFire_keeps k _) (by decide) (congrArg Facet.waiting hfacet)
  case missed =>
    intro s t k f hk hp hle hat hf hmode hname hbusy
    refine runs_lift (f := timerFire k) rfl (timerFire_keeps k _) (by decide)
      (timerFire_facet (d := devAt s t) hk hp hle hat hf hmode hname (fun e h => ?_))
    have hu : e.t < (facet e f).until_ := by rw [h.facet, h.t]; exact hbusy
    rw [scanTrig_busy hu, facet_modFacet_self, h.facet]
    rfl
  case continuous =>
    intro s t f hf hlock hphase hmode hnext hlt hch hlen
    refine runs_scanStart ?_ hch (by rw [hmode]; decide) hlen
    have hmode' : prm (devAt s t) 0x1000 f = 1 := hmode
    have hlock' : locked (devAt s t) 3 = true := hlock
    have hphase' : (devAt s t).t % 10 = (devAt s t).clk.phase := hphase
    have hwin : (facet (devAt s t) f).next ≤ (devAt s t).t ∧ (devAt s t).t < (facet (devAt s t) f).next + 10 := ⟨hnext, hlt⟩
    simp [scanDue, hf, hlock', hphase', hmode', hwin]
  case triggered =>
    intro s t f w hf hlock hphase hmode hwait hle hlt hch hlen
    refine runs_scanStart ?_ hch (by rw [hmode]; decide) hlen
    have hmode' : prm (devAt s t) 0x1000 f = 2 := hmode
    have hlock' : locked (devAt s t) 3 = true := hlock
    have hphase' : (devAt s t).t % 10 = (devAt s t).clk.phase := hphase
    have hwait' : (facet (devAt s t) f).waiting = some w := hwait
    have hwin : w ≤ (devAt s t).t ∧ (devAt s t).t < w + 10 := ⟨hle, hlt⟩
    simp [scanDue, hf, hlock', hphase', hmode', hwait', hwin]
  case dwell =>
    intro s t henable hphase hspare hlock hflt hlt hon hle hat hbusy
    have hcore : nextCore (devAt s t) s.dev.acq.rotNext = s.dev.acq.rotNext :=
      (nextCore_of_good (d := devAt s t) hflt _).trans (Nat.mod_eq_of_lt hlt)
    have hnext : nextCore (devAt s t) (s.dev.acq.rotNext + 1) = (s.dev.acq.rotNext + 1) % 12 :=
      nextCore_of_good (d := devAt s t) hflt _
    have hdue : dwellDue (devAt s t) = true := by
      have hdue' : decide (s.dev.acq.rotBase ≤ t) && decide ((t - s.dev.acq.rotBase) % (prm s.dev 0x1201 0 * 400000000) = 0) := by
        simp [hle, hat]
      exact hdue'
    have heq : dwellStart (devAt s t) = rotBegin (nextCore (devAt s t) s.dev.acq.rotNext) { devAt s t with
        acq := { (devAt s t).acq with
          rotCur := nextCore (devAt s t) s.dev.acq.rotNext
          rotNext := nextCore (devAt s t) (nextCore (devAt s t) s.dev.acq.rotNext + 1), spareFor := 15 } } :=
      if_pos ⟨henable, hphase, ne_true_of_eq_false hspare, hlock, hdue, ne_true_of_eq_false hbusy⟩
    rw [hcore, hnext] at heq
    replace heq := heq.trans (rotBegin_eq (d := devAt s t) hon)
    refine runs_eq rfl heq ?_ (by decide) ?_
    · exact ((keeps_acq _ (devAt s t)).andThen (keeps_acq _ _) (by decide)).andThen (startSelfCal_keeps 12 _) (by decide)
    · rw [startSelfCal, facet_modFacet_self]
      exact ⟨rfl, rfl, rfl, rfl, rfl, rfl⟩
  case pass =>
    intro s t hcal ht hphase
    refine runs_eq rfl (selfCalDone_pass12 (d := devAt s t) hcal ht hphase) ?_ (by decide) ⟨rfl, rfl, ?_, ?_⟩
    · exact ((keeps_acq _ (devAt s t)).andThen (modFacet_keeps 12 _ _) (by decide)).andThen (keeps_acq _ _) (by decide)
    · exact congrArg Facet.selfCal (facet_modFacet_self 12 (fun x => { x with selfCal := false }) { devAt s t with
        acq := { (devAt s t).acq with trim := tput 0 12 0 (devAt s t).acq.trim } })
    · exact tget_tput_self (0 : Rat) 12 0 _
  case fail =>
    intro s t f hf hcal ht hgood hup
    obtain ⟨ph, tk, heq⟩ := selfCalDone_fail (d := devAt s t) hf hcal ht
    have hended : Keeps [.acq] (devAt s t) (selfCalEnded f (devAt s t)) :=
      (keeps_acq _ (devAt s t)).andThen (modFacet_keeps f _ _) (by decide)
    obtain ⟨hkeeps, hpend, next, c, hacq⟩ := facetFault_core (d := selfCalEnded f (devAt s t)) hf hgood
    have hcalEnd : (facet (facetFault f (selfCalEnded f (devAt s t))) f).selfCal = false := by
      rw [facet_of_acq (d := selfCalEnded f (devAt s t)) (by rw [hacq]), selfCalEnded, facet_modFacet_self]
    have hup' : Pending 17 (facetFault f (selfCalEnded f (devAt s t))) := hpend hup
    have hbit : bit (facetFault f (selfCalEnded f (devAt s t))).acq.facetFlt f = true := by
      rw [hacq]
      exact bit_setBit_self _ f
    generalize facetFault f (selfCalEnded f (devAt s t)) = d2 at heq hkeeps hcalEnd hup' hbit
    exact runs_eq rfl heq (((hended.mono (by decide)).trans hkeeps).andThen (keeps_acq _ d2) (by decide)) (by decide)
      ⟨hbit, hup', hcalEnd⟩
  case handover =>
    intro s t ds hds hmatch hzero hfull hphase hlock hover huntil
    have heq := overlapEnd_eq (d := devAt s t) hds hzero hfull hphase hlock hover huntil
    have hmatch' : ¬ (overlapMatch (prm (devAt s t) 0x1202 0) ds).2 = false := fun h =>
      Bool.false_ne_true (h.symm.trans hmatch)
    rw [if_neg hmatch'] at heq
    refine runs_eq rfl heq ?_ (by decide) ?_
    · exact ((keeps_acq _ (devAt s t)).andThen (keeps_acq _ _) (by decide)).andThen (startSelfCal_keeps _ _) (by decide)
    · rw [startSelfCal]
      have hself := facet_modFacet_self s.dev.acq.rotCur (fun x => { x with selfCal := true, selfCalT := t })
        { overlapTrimmed ds (devAt s t) with
          acq := { (overlapTrimmed ds (devAt s t)).acq with spareFor := s.dev.acq.rotCur, rotPhase := 3 } }
      exact ⟨rfl, rfl, congrArg Facet.selfCal hself, congrArg Facet.selfCalT hself⟩
  case mismatch =>
    intro s t ds hds hmatch hzero hfull hphase hlock hover huntil hup
    have heq := overlapEnd_eq (d := devAt s t) hds hzero hfull hphase hlock hover huntil
    have hmatch' : (overlapMatch (prm (devAt s t) 0x1202 0) ds).2 = false := hmatch
    rw [if_pos hmatch'] at heq
    refine runs_eq rfl heq ?_ (by decide) ⟨rfl, ?_, ?_⟩
    · exact (((keeps_acq _ (devAt s t)).mono (by decide)).andThen (raiseI_keeps _ _ _) (by decide)).andThen (keeps_acq _ _)
        (by decide)
    · have hacq := (raiseI_keeps 19 (devAt s t).acq.rotCur (overlapTrimmed ds (devAt s t))).acq (by decide)
      generalize raiseI 19 (devAt s t).acq.rotCur (overlapTrimmed ds (devAt s t)) = d1 at hacq
      rw [rotIdle]
      dsimp only
      rw [hacq]
      rfl
    · exact raiseI_pending 19 _ (overlapTrimmed ds (devAt s t)) hup (by decide)
  case takeover =>
    intro s t f htake hf hgood huntil
    refine runs_eq rfl (spareTakeover_eq (d := devAt s t) hf htake hgood huntil) ?_ (by decide) ⟨rfl, rfl, rfl, ?_⟩
    · exact ((giveBack_keeps _).andThen (keeps_acq _ _) (by decide)).andThen (modFacet_keeps _ _ _) (by decide)
    · rw [facet_modFacet_self]
  case fltWrite =>
    intro s t f hf hbad
    refine runs_eq rfl (facetFltWrite_eq (d := devAt s t) hf hbad) (startSelfCal_keeps f _) (by decide)
      ⟨?_, startSelfCal_others f _, rfl⟩
    rw [startSelfCal, facet_modFacet_self]
    rfl
  case spareWrite =>
    intro s t hbad
    have heq : spareFltWrite (devAt s t) = startSelfCal 12 (devAt s t) := if_pos hbad
    refine runs_eq rfl heq (startSelfCal_keeps 12 _) (by decide) ⟨?_, startSelfCal_others 12 _, hbad⟩
    rw [startSelfCal, facet_modFacet_self]
    rfl

end Sys2Proof.Safety
end

section
/-!
PROOF. System calibration by CALZERO and CALFULL (R54 to R57), and the end of a long command (R360, R361).
-/
namespace Sys2Proof.Safety

open Sys2Proof.Machine

/-! ### Long commands -/

theorem finishLong_eq {slot : Nat} {l : LongCmd} {d : Dev} (hfind : d.mbx.long.find? (fun x => x.slot = slot) = some l)
    (st dt : Nat) (resp : List Byte) : finishLong slot st dt resp d =
      complete ⟨l.slot, l.tag, l.op, st, dt, resp, tMs d⟩
        { d with mbx := { d.mbx with long := d.mbx.long.filter (fun x => x.slot ≠ l.slot) } } := by
  have hslot : l.slot = slot := by simpa using List.find?_some hfind
  simp only [finishLong, hfind, hslot]

/-- A long command that ends on a device that has left the mailbox as it was. -/
theorem endedLong_finishLong {s : State} {t slot : Nat} {l : LongCmd} {d : Dev} (hdone : d.mbx.done = s.dev.mbx.done)
    (hlong : d.mbx.long = s.dev.mbx.long) (ht : d.t = t) (hfind : s.dev.mbx.long.find? (fun x => x.slot = slot) = some l)
    (st dt : Nat) (resp : List Byte) : EndedLong s l t st dt resp (finishLong slot st dt resp d) := by
  rw [← hlong] at hfind
  rw [EndedLong, finishLong_eq hfind, complete_mbx, hdone, hlong, tMs, ht]
  exact ⟨rfl, rfl⟩

/-- A long command that ends on a device that differs from the state elsewhere. -/
theorem endedLong_of_keeps {s : State} {t slot : Nat} {l : LongCmd} {ps : List Part} {d : Dev} (h : Keeps ps (devAt s t) d)
    (hmbx : Part.mbx ∉ ps) (ht : Part.t ∉ ps) (hfind : s.dev.mbx.long.find? (fun x => x.slot = slot) = some l)
    (st dt : Nat) (resp : List Byte) : EndedLong s l t st dt resp (finishLong slot st dt resp d) := by
  have hm := h.mbxSent hmbx
  refine endedLong_finishLong ?_ ?_ (h.t ht) hfind st dt resp
  · rw [hm]; rfl
  · rw [hm]; rfl

/-- The command that goes long is the one of its opcode that runs. -/
theorem longOf_goLong (c : Cmd) (d : Dev) : (longOf (goLong c d) c.op).isSome = true := by
  simp only [longOf, goLong, List.find?_append]
  cases List.find? (fun l => decide (l.op = c.op)) (popRung d).mbx.long <;> simp

theorem goLong_mbx (c : Cmd) (d : Dev) : (goLong c d).mbx.rung = d.mbx.rung.tail ∧ (goLong c d).mbx.done = d.mbx.done :=
  ⟨rfl, rfl⟩

/-- A command at the head of the ring order has the opcode that its turn asks for. -/
theorem op_of_admitted {s : State} {slot op : Nat} {c : Cmd} (ha : Admitted s slot op c) : c.op = op := by
  obtain ⟨hc, hhead, -, -⟩ := ha
  simp only [isHead, hc, Bool.and_eq_true, decide_eq_true_eq] at hhead
  obtain ⟨⟨⟨-, hop⟩, -⟩, -⟩ := hhead
  exact hop

/-! ### Starts of a calibration -/

theorem calZeroStart_admitted {c : Cmd} {d : Dev} (hi : field c.body 1 0 < 168) (hg : field c.body 2 2 < 4)
    (hadm : calAdmitted d (field c.body 1 0) = true) : calZeroStart c d =
      { goLong c d with acq := { d.acq with calZero := some {
          slot := c.slot, ain := field c.body 1 0, gain := field c.body 2 2, full := false, ac := false, applied := 0,
          startT := d.t } } } := by
  have hrange : ¬ (168 ≤ field c.body 1 0 ∨ 4 ≤ field c.body 2 2) := by omega
  rw [calZeroStart]
  dsimp only
  rw [if_neg hrange, if_neg (not_not_intro hadm)]
  rfl

theorem calZeroStart_refused {c : Cmd} {d : Dev} (hi : field c.body 1 0 < 168) (hg : field c.body 2 2 < 4)
    (hadm : calAdmitted d (field c.body 1 0) = false) : calZeroStart c d = finish c 1 7 [] d := by
  have hrange : ¬ (168 ≤ field c.body 1 0 ∨ 4 ≤ field c.body 2 2) := by omega
  rw [calZeroStart]
  dsimp only
  rw [if_neg hrange, if_pos (ne_true_of_eq_false hadm)]

/-- A CALFULL in its mode, with its input and state admitted, goes by the conditions 1 and 2 of R56. -/
theorem calFullStart_eq {ac : Bool} {c : Cmd} {d : Dev} (hi : field c.body 1 0 < 168) (hg : field c.body 2 2 < 4)
    (hm : field c.body 3 3 = if ac then 1 else 0) (hadm : calAdmitted d (field c.body 1 0) = true) : calFullStart ac c d =
      if prm d 0x1109 (4 * field c.body 1 0 + field c.body 2 2) = 0 then finish c 1 1 [] d
      else if ¬ calModeOk (prm d 0x1100 (field c.body 1 0)) ac then finish c 1 2 [] d
      else { goLong c d with acq := { d.acq with calFull := some {
        slot := c.slot, ain := field c.body 1 0, gain := field c.body 2 2, full := true, ac := ac,
        applied := f32 (field c.body 7 4), startT := d.t } } } := by
  have hmode : ¬ field c.body 3 3 = if ac then 0 else 1 := by cases ac <;> simp_all
  have hrange : ¬ (168 ≤ field c.body 1 0 ∨ 4 ≤ field c.body 2 2 ∨ 1 < field c.body 3 3) := by
    cases ac <;> simp only [Bool.false_eq_true, if_false, if_true] at hm <;> omega
  rw [calFullStart]
  dsimp only
  rw [if_neg hmode, if_neg hrange, if_neg (not_not_intro hadm)]
  rfl

/-- A calibration that goes long leaves the ring order, and its command runs. -/
theorem goLong_acq {s : State} {t slot op : Nat} {c : Cmd} {i : Instr} {f : Cmd → Dev → Dev} {a : Acq} {post : Dev → Prop}
    (he : exec i s = liftCmd t slot op f s) (ha : Admitted s slot op c)
    (heq : f c (devAt s t) = { goLong c (devAt s t) with acq := a })
    (hp : ∀ d : Dev, d.acq = a → d.mbx.rung = s.dev.mbx.rung.tail → d.mbx.done = s.dev.mbx.done →
      (longOf d op).isSome = true → post d) : Runs i t s [.mbx, .acq] post := by
  have hlong : (longOf { goLong c (devAt s t) with acq := a } op).isSome = true := by
    have h := longOf_goLong c (devAt s t)
    rw [op_of_admitted ha] at h
    exact h
  refine runs_liftCmd he ha ?_ (by decide) ?_ <;> rw [heq]
  · exact ((goLong_keeps c _).mono (by decide)).andThen (keeps_acq _ _) (by decide)
  · exact hp _ rfl rfl rfl hlong

theorem runs_refused {s : State} {t slot op st dt : Nat} {c : Cmd} {i : Instr} {f : Cmd → Dev → Dev}
    (he : exec i s = liftCmd t slot op f s) (ha : Admitted s slot op c) (hst : ¬ (3 ≤ st ∧ st ≤ 7))
    (heq : f c (devAt s t) = finish c st dt [] (devAt s t)) : Runs i t s [.mbx] (fun d => Completed s c t st dt [] d) := by
  refine runs_liftCmd he ha ?_ (by decide) ?_ <;> rw [heq]
  · exact finish_quiet_keeps hst dt [] _
  · exact completed_of_keeps (Keeps.refl [] (devAt s t)) (by decide) (by decide) st dt []

/-! ### Ends of a calibration -/

theorem pkey_same (p q k : Nat) (h : p ≠ q) : pkey p k ≠ pkey q k := fun heq => by
  simp only [pkey] at heq
  omega

/-- The two results of a calibration wait for the next epoch, and the journal holds both. -/
theorem calResult_both {p q i g v w : Nat} (hne : p ≠ q) (d : Dev) :
    tget none (calResult q i g w (calResult p i g v d)).acq.calPend (pkey q (4 * i + g)) = some w ∧
    tget none (calResult q i g w (calResult p i g v d)).acq.calPend (pkey p (4 * i + g)) = some v ∧
    (calResult q i g w (calResult p i g v d)).lkt.journal =
      d.lkt.journal ++ [.always (pkey p (4 * i + g)) v, .always (pkey q (4 * i + g)) w] := by
  simp only [calResult, journal_acq, journal_lkt, List.append_assoc, List.cons_append, List.nil_append]
  refine ⟨tget_tput_self none _ _ _, ?_, trivial⟩
  rw [tget_tput_ne none _ _ (pkey_same p q _ hne), tget_tput_self]

theorem calResult_keeps (p i g v : Nat) (d : Dev) : Keeps [.acq, .lkt] d (calResult p i g v d) :=
  ((keeps_acq _ d).mono (by decide)).andThen (journal_keeps _ _) (by decide)

theorem calZeroDone_eq {j : CalJob} {d : Dev} (hjob : d.acq.calZero = some j)
    (hcount : j.count = 1024 * prm d 0x110A (4 * j.ain + j.gain)) : calZeroDone d =
      let v := ofInt 32 (clampI (-8388608) 8388607 (roundAway (j.sum / (j.count : Rat))))
      finishLong j.slot 0 0 (le 4 v) (raiseI 18 j.ain
        (calResult 0x1109 j.ain j.gain 1 (calResult 0x1107 j.ain j.gain v { d with acq := { d.acq with calZero := none } }))) := by
  simp only [calZeroDone, hjob, if_pos hcount]

/-- A CALFULL has measured all it needs (R56). -/
def calMeasured (j : CalJob) (d : Dev) : Prop :=
  if j.ac then prm d 0x110A (4 * j.ain + j.gain) ≤ j.cycles else j.count = 1024 * prm d 0x110A (4 * j.ain + j.gain)

/-- The device whose full calibration has ended. -/
def calFullOff (d : Dev) : Dev := { d with acq := { d.acq with calFull := none } }

theorem calFullDone_bad {j : CalJob} {d : Dev} (hjob : d.acq.calFull = some j) (hbad : j.bad = true) :
    calFullDone d = finishLong j.slot 1 3 [] (calFullOff d) := by
  simp only [calFullDone, hjob, hbad, if_true, calFullOff]

/-- A full calibration that has measured ends by the conditions 4 and 5 of R56. -/
theorem calFullDone_measured {j : CalJob} {d : Dev} (hjob : d.acq.calFull = some j) (hbad : j.bad = false)
    (hfull : calMeasured j d) : calFullDone d = match calGain d j with
      | none => finishLong j.slot 1 4 [] (calFullOff d)
      | some g =>
        if g < 1 / 2 ∨ 2 < g then finishLong j.slot 1 5 [] (calFullOff d)
        else finishLong j.slot 0 0 (le 4 (roundAway (g * 1073741824)).toNat)
          (calResult 0x1109 j.ain j.gain 2 (calResult 0x1108 j.ain j.gain (roundAway (g * 1073741824)).toNat
            { calFullOff d with carat := { d.carat with
              phDone := (List.range 3).foldl (fun m x => if prm d 0x9002 x = j.ain then clrBit m x else m) d.carat.phDone } })) := by
  unfold calMeasured at hfull
  simp only [calFullDone, hjob, hbad, Bool.false_eq_true, if_false, if_pos hfull, calFullOff] <;> rfl

theorem calFullDone_late {j : CalJob} {d : Dev} (hjob : d.acq.calFull = some j) (hbad : j.bad = false) (hac : j.ac = true)
    (hfew : j.cycles < prm d 0x110A (4 * j.ain + j.gain)) (hlate : j.startT + 800000000 ≤ d.t) :
    calFullDone d = finishLong j.slot 1 6 [] (calFullOff d) := by
  simp [calFullDone, hjob, hbad, hac, Nat.not_le.mpr hfew, hlate, calFullOff]

/-- A full calibration that is refused ends with the number of its condition. -/
theorem runs_calFull_refused {s : State} {t k : Nat} {j : CalJob} {l : LongCmd}
    (hfind : s.dev.mbx.long.find? (fun x => x.slot = j.slot) = some l)
    (heq : calFullDone (devAt s t) = finishLong j.slot 1 k [] (calFullOff (devAt s t))) :
    Runs (.calfullDone t) t s [.mbx, .acq] (fun d => d.acq.calFull = none ∧ EndedLong s l t 1 k [] d) := by
  have hoff : Keeps [.acq] (devAt s t) (calFullOff (devAt s t)) := keeps_acq _ _
  refine runs_eq rfl heq ((hoff.mono (by decide)).andThen (finishLong_keeps _ _ _ _ _) (by decide)) (by decide)
    ⟨?_, endedLong_of_keeps hoff (by decide) (by decide) hfind 1 k []⟩
  rw [(finishLong_keeps j.slot 1 k [] (calFullOff (devAt s t))).acq (by decide)]
  rfl

/-- Settles O20: the starts by their conditions, then the ends with a result or a refusal. -/
theorem calibration : Obligations.Calibration := by
  unfold Obligations.Calibration
  refine ⟨?zero, ?zeroRefused, ?zeroDone, ?dc, ?ac, ?noZero, ?noDc, ?full, ?bad, ?noGain, ?badGain, ?late⟩
  case zero =>
    intro s t slot c ha hi hg hadm
    refine goLong_acq (f := calZeroStart) rfl ha (calZeroStart_admitted (d := devAt s t) hi hg hadm) ?_
    intro d hacq hrung hdone hlong
    rw [hacq]
    exact ⟨rfl, hrung, hdone, hlong⟩
  case zeroRefused =>
    intro s t slot c ha hi hg hadm
    exact runs_refused (f := calZeroStart) rfl ha (by decide) (calZeroStart_refused (d := devAt s t) hi hg hadm)
  case zeroDone =>
    intro s t j l hjob hcount hfind hup
    have heq := calZeroDone_eq (d := devAt s t) hjob hcount
    dsimp only at heq
    generalize ofInt 32 (clampI (-8388608) 8388607 (roundAway (j.sum / (j.count : Rat)))) = v at heq
    generalize hd1 : ({ devAt s t with acq := { (devAt s t).acq with calZero := none } } : Dev) = d1 at heq
    have hkeeps1 : Keeps [.acq] (devAt s t) d1 := hd1 ▸ keeps_acq _ _
    have hzero : d1.acq.calZero = none := by rw [← hd1]
    obtain ⟨h2, h1, hj⟩ := calResult_both (p := 0x1107) (q := 0x1109) (i := j.ain) (g := j.gain) (v := v) (w := 1) (by decide) d1
    have hcal : (calResult 0x1109 j.ain j.gain 1 (calResult 0x1107 j.ain j.gain v d1)).acq.calZero = none := hzero
    have hkeeps2 : Keeps [.acq, .lkt] d1 (calResult 0x1109 j.ain j.gain 1 (calResult 0x1107 j.ain j.gain v d1)) :=
      (calResult_keeps _ _ _ _ _).trans (calResult_keeps _ _ _ _ _)
    generalize calResult 0x1109 j.ain j.gain 1 (calResult 0x1107 j.ain j.gain v d1) = d2 at heq h2 h1 hj hcal hkeeps2
    have hkeeps12 : Keeps ([.acq, .lkt] ++ evParts) (devAt s t) d2 := (hkeeps1.mono (by decide)).andThen hkeeps2 (by decide)
    have hkeeps3 : Keeps ([.acq, .lkt] ++ evParts) (devAt s t) (raiseI 18 j.ain d2) :=
      hkeeps12.andThen (raiseI_keeps _ _ _) (by decide)
    have hup2 : d2.sys.up = true := by rw [hkeeps2.sys (by decide), hkeeps1.sys (by decide)]; exact hup
    have hpend := raiseI_pending 18 j.ain d2 hup2 (by decide)
    have hev := raiseI_keeps 18 j.ain d2
    have hacq := hev.acq (by decide)
    have hlkt := hev.lkt (by decide)
    generalize raiseI 18 j.ain d2 = d3 at heq hkeeps3 hpend hacq hlkt
    have hfin := finishLong_keeps j.slot 0 0 (le 4 v) d3
    refine runs_eq rfl heq ((hkeeps3.mono (by decide)).andThen hfin (by decide)) (by decide)
      ⟨?_, ?_, ?_, ?_, ?_, ?_⟩
    · rw [hfin.acq (by decide), hacq, hcal]
    · rw [Pending, hfin.ev (by decide)]
      exact hpend
    · refine endedLong_finishLong ?_ ?_ (hkeeps3.t (by decide)) hfind 0 0 (le 4 v)
      · rw [hkeeps3.mbxSent (by decide)]; rfl
      · rw [hkeeps3.mbxSent (by decide)]; rfl
    · rw [hfin.acq (by decide), hacq, h2]
    · rw [hfin.acq (by decide), hacq, h1]
    · rw [hfin.lkt (by decide), hlkt, hj, hkeeps1.lkt (by decide)]
      rfl
  case dc =>
    intro s t slot c ha hi hg hm hadm hcal hsensor
    refine goLong_acq (f := calFullStart false) (a := { s.dev.acq with calFull := some {
      slot := c.slot, ain := field c.body 1 0, gain := field c.body 2 2, full := true, ac := false,
      applied := f32 (field c.body 7 4), startT := t } }) rfl ha ?_ (fun d hacq hrung _ hlong => ?_)
    · have hcal' : ¬ prm (devAt s t) 0x1109 (4 * field c.body 1 0 + field c.body 2 2) = 0 := hcal
      have hsensor' : prm (devAt s t) 0x1100 (field c.body 1 0) ≤ 1 := hsensor
      have hok : calModeOk (prm (devAt s t) 0x1100 (field c.body 1 0)) false = true := by simp [calModeOk, hsensor']
      rw [calFullStart_eq (d := devAt s t) (ac := false) hi hg hm hadm, if_neg hcal', if_neg (not_not_intro hok)]
      rfl
    · rw [hacq]
      exact ⟨rfl, hrung, hlong⟩
  case ac =>
    intro s t slot c ha hi hg hm hadm hcal
    refine goLong_acq (f := calFullStart true) (a := { s.dev.acq with calFull := some {
      slot := c.slot, ain := field c.body 1 0, gain := field c.body 2 2, full := true, ac := true,
      applied := f32 (field c.body 7 4), startT := t } }) rfl ha ?_ (fun d hacq hrung _ hlong => ?_)
    · have hcal' : ¬ prm (devAt s t) 0x1109 (4 * field c.body 1 0 + field c.body 2 2) = 0 := hcal
      have hok : calModeOk (prm (devAt s t) 0x1100 (field c.body 1 0)) true = true := rfl
      rw [calFullStart_eq (d := devAt s t) (ac := true) hi hg hm hadm, if_neg hcal', if_neg (not_not_intro hok)]
      rfl
    · rw [hacq]
      exact ⟨rfl, hrung, hlong⟩
  case noZero =>
    intro s t slot c ha hi hg hm hadm hcal
    refine runs_refused (f := calFullStart false) rfl ha (by decide) ?_
    have hcal' : prm (devAt s t) 0x1109 (4 * field c.body 1 0 + field c.body 2 2) = 0 := hcal
    rw [calFullStart_eq (d := devAt s t) (ac := false) hi hg hm hadm, if_pos hcal']
  case noDc =>
    intro s t slot c ha hi hg hm hadm hcal hsensor
    refine runs_refused (f := calFullStart false) rfl ha (by decide) ?_
    have hcal' : ¬ prm (devAt s t) 0x1109 (4 * field c.body 1 0 + field c.body 2 2) = 0 := hcal
    rw [calFullStart_eq (d := devAt s t) (ac := false) hi hg hm hadm, if_neg hcal', if_pos]
    have hno : calModeOk (prm s.dev 0x1100 (field c.body 1 0)) false = false := by
      simp [calModeOk, Nat.not_le.mpr hsensor]
    exact ne_true_of_eq_false hno
  case full =>
    intro s t j l g hjob hbad hfull hgain hlo hhi hfind
    have heq := calFullDone_measured (d := devAt s t) hjob hbad hfull
    have hgain' : calGain (devAt s t) j = some g := hgain
    have hrange : ¬ (g < 1 / 2 ∨ 2 < g) := not_or.mpr ⟨not_lt.mpr hlo, not_lt.mpr hhi⟩
    rw [hgain'] at heq
    dsimp only at heq
    rw [if_neg hrange] at heq
    generalize (roundAway (g * 1073741824)).toNat = v at heq
    generalize hd1 : ({ calFullOff (devAt s t) with carat := { (devAt s t).carat with
      phDone := (List.range 3).foldl (fun m x => if prm (devAt s t) 0x9002 x = j.ain then clrBit m x else m)
        (devAt s t).carat.phDone } } : Dev) = d1 at heq
    have hkeeps1 : Keeps [.acq, .carat] (devAt s t) d1 :=
      hd1 ▸ ((keeps_acq _ (devAt s t)).mono (by decide)).andThen (keeps_carat _ _) (by decide)
    have hnone : d1.acq.calFull = none := by rw [← hd1]; rfl
    obtain ⟨h2, h1, hj⟩ := calResult_both (p := 0x1108) (q := 0x1109) (i := j.ain) (g := j.gain) (v := v) (w := 2) (by decide) d1
    have hcal : (calResult 0x1109 j.ain j.gain 2 (calResult 0x1108 j.ain j.gain v d1)).acq.calFull = none := hnone
    have hkeeps2 : Keeps [.acq, .lkt, .carat] (devAt s t)
        (calResult 0x1109 j.ain j.gain 2 (calResult 0x1108 j.ain j.gain v d1)) :=
      (hkeeps1.mono (by decide)).andThen ((calResult_keeps _ _ _ _ _).trans (calResult_keeps _ _ _ _ _)) (by decide)
    generalize calResult 0x1109 j.ain j.gain 2 (calResult 0x1108 j.ain j.gain v d1) = d2 at heq h2 h1 hj hcal hkeeps2
    have hfin := finishLong_keeps j.slot 0 0 (le 4 v) d2
    refine runs_eq rfl heq ((hkeeps2.mono (by decide)).andThen hfin (by decide)) (by decide)
      ⟨?_, endedLong_of_keeps hkeeps2 (by decide) (by decide) hfind 0 0 (le 4 v), ?_, ?_, ?_⟩
    · rw [hfin.acq (by decide), hcal]
    · rw [hfin.acq (by decide), h2]
    · rw [hfin.acq (by decide), h1]
    · rw [hfin.lkt (by decide), hj, hkeeps1.lkt (by decide)]
      rfl
  case bad =>
    intro s t j l hjob hbad hfind
    exact runs_calFull_refused hfind (calFullDone_bad (d := devAt s t) hjob hbad)
  case noGain =>
    intro s t j l hjob hbad hfull hgain hfind
    refine runs_calFull_refused hfind ((calFullDone_measured (d := devAt s t) hjob hbad hfull).trans ?_)
    have hgain' : calGain (devAt s t) j = none := hgain
    rw [hgain']
  case badGain =>
    intro s t j l g hjob hbad hfull hgain hrange hfind
    refine runs_calFull_refused hfind ((calFullDone_measured (d := devAt s t) hjob hbad hfull).trans ?_)
    have hgain' : calGain (devAt s t) j = some g := hgain
    rw [hgain']
    dsimp only
    rw [if_pos hrange]
  case late =>
    intro s t j l hjob hbad hac hfew hlate hfind
    exact runs_calFull_refused hfind (calFullDone_late (d := devAt s t) hjob hbad hac hfew hlate)

end Sys2Proof.Safety
end

section
/-!
PROOF. What takes the result of an input changes no input: recorder rows, cascades, chips, PV powers, leg stress and energy.
-/
namespace Sys2Proof.Safety

open Sys2Proof.Machine

/-! ### Recorder rows -/

theorem violate_keeps (u t : Nat) (stop : Bool) (d : Dev) : Keeps evParts d (violate u t stop d) := by
  have hmark := (modUnit_keeps u (fun x => { x with
    ring := x.ring.map (fun r => if r.t = t then markViol r else r),
    maskViol := incSat 4294967295 x.maskViol, firstViol := if x.firstViol.isSome then x.firstViol else some t }) d).mono
    (qs := evParts) (by decide)
  unfold violate
  split
  · exact ((hmark.andThen (modUnit_keeps u _ _) (by decide)).andThen (keeps_loupe _ _) (by decide)).andThen (raiseI_keeps _ _ _)
      (by decide)
  · exact hmark

theorem maskTests_keeps (u : Nat) (d : Dev) : Keeps evParts d (maskTests u d) := by
  have htest : ∀ (g : Nat) (rs : List Row) (e : Dev), Keeps evParts e (rs.foldl (fun e r =>
      if (unit e u).st ≠ 3 then e
      else
        let hits := (List.range 4).filter (maskHit e u g r)
        let e1 := modUnit u (fun y => { y with tested := some r.t }) e
        if hits = [] then e1 else violate u r.t (hits.any (fun j => prm e 0xA032 (4 * u + j) = 1)) e1) e) :=
    fun g rs e => keeps_foldl _ (fun e r => keeps_ite (fun _ => Keeps.refl _ e) (fun _ =>
      keeps_ite (fun _ => (modUnit_keeps u _ e).mono (by decide))
        (fun _ => ((modUnit_keeps u _ e).mono (by decide)).trans (violate_keeps _ _ _ _)))) rs e
  unfold maskTests
  dsimp only
  split
  · exact Keeps.refl _ d
  · exact keeps_ite (fun _ => htest _ _ d) (fun _ => Keeps.refl _ d)

theorem patFeed_keeps (u : Nat) (r : Row) (d : Dev) : Keeps evParts d (patFeed u r d) := by
  have hunit : ∀ (b : Prop) [Decidable b] (x : RecUnit) (e : Dev), Keeps evParts e
      (if b then trigger 4 u 0x400 r.t 0 (modUnit u (fun _ => x) e) else modUnit u (fun _ => x) e) := fun b _ x e =>
    keeps_ite (fun _ => ((modUnit_keeps u _ e).mono (by decide)).andThen (trigger_keeps _ _ _ _ _ _) (by decide))
      (fun _ => (modUnit_keeps u _ e).mono (by decide))
  unfold patFeed
  exact keeps_ite (fun _ => Keeps.refl _ d) (fun _ => hunit _ _ d)

theorem addRow_keeps (u : Nat) (r : Row) (d : Dev) : Keeps evParts d (addRow u r d) :=
  keeps_ite (fun _ => Keeps.refl _ d) (fun _ => keeps_ite (fun _ => (modUnit_keeps u _ d).mono (by decide))
    (fun _ => ((modUnit_keeps u _ d).mono (by decide)).trans ((patFeed_keeps _ _ _).trans (maskTests_keeps _ _))))

theorem rowResult_keeps (src t : Nat) (d : Dev) : Keeps evParts d (rowResult src t d) := by
  refine keeps_forAll 4 _ (fun u e => keeps_ite (fun _ => ?_) (fun _ => Keeps.refl _ e)) d
  dsimp only
  split
  · exact ((modUnit_keeps u _ e).mono (by decide)).trans (addRow_keeps _ _ _)
  · exact (modUnit_keeps u _ e).mono (by decide)

/-! ### Cascades -/

theorem becomeReady_keeps (c o : Nat) (d : Dev) : Keeps [.fil] d (becomeReady c o d) := modCas_keeps c _ d

theorem freshen_keeps (code o c : Nat) (d : Dev) : Keeps [.fil] d (freshen code o c d) :=
  keeps_ite (fun _ => keeps_ite (fun _ => Keeps.refl _ d) (fun _ => keeps_ite (fun _ => becomeReady_keeps c o d)
    (fun _ => modCas_keeps c _ d))) (fun _ => Keeps.refl _ d)

theorem deliverSrc_keeps (code o : Nat) (d : Dev) : Keeps [.fil] d (deliverSrc code o d) :=
  keeps_forAll 128 _ (fun c e => freshen_keeps code o c e) d

theorem deliverAin_keeps (i : Nat) (d : Dev) : Keeps [.fil] d (deliverAin i d) :=
  (deliverSrc_keeps _ _ d).trans (keeps_forAll 128 _ (fun c e => keeps_ite (fun _ => freshen_keeps _ _ c e)
    (fun _ => Keeps.refl _ e)) _)

/-! ### Chips, PV powers and leg stress -/

theorem charmSample_keeps (d : Dev) : Keeps [.charm] d (charmSample d) := by
  unfold charmSample
  dsimp only
  split
  · exact Keeps.refl _ d
  · split
    · exact Keeps.refl _ d
    · exact keeps_charm _ d

theorem pvSample_keeps (q : Nat) (d : Dev) : Keeps (.pv :: .prm :: evParts) d (pvSample q d) :=
  keeps_ite
    (fun _ => keeps_ite (fun _ => ((modPv_keeps q _ d).mono (by decide)).andThen (keeps_pv _ _) (by decide))
      (fun _ => ((modPv_keeps q _ d).mono (by decide)).andThen (sweepAbort_keeps _) (by decide)))
    (fun _ => (modPv_keeps q _ d).mono (by decide))

theorem pvFeed_keeps (i : Nat) (d : Dev) : Keeps (.pv :: .prm :: evParts) d (pvFeed i d) :=
  keeps_forAll _ _ (fun q e => keeps_ite (fun _ => pvSample_keeps q e) (fun _ => Keeps.refl _ e)) d

theorem stressFeed_keeps (i : Nat) (d : Dev) : Keeps [.legs] d (stressFeed i d) :=
  keeps_forAll 48 _ (fun n e => keeps_ite (fun _ => modLeg_keeps n _ e) (fun _ => Keeps.refl _ e)) d

/-! ### Energy -/

theorem modPt_keeps (m : Nat) (f : CarPt → CarPt) (d : Dev) : Keeps [.carat] d (modPt m f d) := keeps_carat _ d

theorem addEnergy_keeps (m r : Nat) (j : Rat) (d : Dev) : Keeps [.carat] d (addEnergy m r j d) := keeps_carat _ d

theorem splitEnergy_keeps (m a b : Nat) (j : Rat) (d : Dev) : Keeps [.carat] d (splitEnergy m a b j d) :=
  keeps_ite (fun _ => addEnergy_keeps _ _ _ d) (fun _ => keeps_ite (fun _ => addEnergy_keeps _ _ _ d) (fun _ => Keeps.refl _ d))

theorem gapSample_keeps (m ts : Nat) (d : Dev) : Keeps (.carat :: evParts) d (gapSample m ts d) := by
  have hgap : Keeps (.carat :: evParts) d (modPt m (fun y => { y with gap := true, gapT := y.gapT + ts, n := 0, sums := [], secN := 0 })
      { d with carat := { d.carat with gapF := true } }) :=
    ((keeps_carat _ d).mono (by decide)).andThen (modPt_keeps m _ _) (by decide)
  have hraise : Keeps (.carat :: evParts) d (if (carPt d m).gap then modPt m (fun y => { y with
      gap := true, gapT := y.gapT + ts, n := 0, sums := [], secN := 0 }) { d with carat := { d.carat with gapF := true } }
      else raiseI 76 m (modPt m (fun y => { y with gap := true, gapT := y.gapT + ts, n := 0, sums := [], secN := 0 })
        { d with carat := { d.carat with gapF := true } })) :=
    keeps_ite (fun _ => hgap) (fun _ => hgap.andThen (raiseI_keeps _ _ _) (by decide))
  exact keeps_ite (fun _ => hraise.andThen (splitEnergy_keeps _ _ _ _ _) (by decide))
    (fun _ => hraise.andThen (splitEnergy_keeps _ _ _ _ _) (by decide))

theorem putF_keeps (p : Nat) (x : Rat) (d : Dev) : Keeps [.pts] d (putF p x d) := putPoint_keeps _ _ _ d

theorem acPoints_keeps (xs : List Rat) (d : Dev) : Keeps [.pts] d (acPoints d xs) := by
  refine keeps_foldl _ (fun e v => ?_) _ d
  exact putF_keeps (0x61000 + v.2) v.1 e

theorem phCycle_keeps (d : Dev) : Keeps [.carat] d (phCycle d) := keeps_carat _ d

theorem cycleAdd_keeps (m t : Nat) (ss : List Rat) (d : Dev) : Keeps [.carat, .pts] d (cycleAdd m t ss d) := by
  have hpt : ∀ f : CarPt → CarPt, Keeps [.carat, .pts] d (modPt m f d) := fun f => (modPt_keeps m f d).mono (by decide)
  have hpts : ∀ (p : Nat) (x : Rat) (e : Dev), Keeps [.carat, .pts] e (putF p x e) := fun p x e =>
    (putF_keeps p x e).mono (by decide)
  unfold cycleAdd
  refine keeps_ite (fun _ => keeps_ite (fun _ => ?_) (fun _ => ?_)) (fun _ => hpt _)
  · exact (((modPt_keeps 0 _ d).mono (by decide)).andThen (acPoints_keeps _ _) (by decide)).andThen (phCycle_keeps _) (by decide)
  · exact (((hpt _).trans (hpts _ _ _)).trans (hpts _ _ _)).trans (hpts _ _ _)

theorem secondAdd_keeps (m t : Nat) (p : Rat) (d : Dev) : Keeps [.carat] d (secondAdd m t p d) := modPt_keeps m _ d

theorem acSample_keeps (t ts : Nat) (d : Dev) : Keeps (.carat :: .pts :: evParts) d (acSample t ts d) := by
  have hsplit : ∀ (l : List Nat) (f : Dev → Nat → Dev) (e : Dev), (∀ e x, Keeps [.carat] e (f e x)) →
      Keeps (.carat :: .pts :: evParts) e (l.foldl f e) := fun l f e h => (keeps_foldl f h l e).mono (by decide)
  unfold acSample
  dsimp only
  refine Keeps.trans ?_ (keeps_ite (fun _ => (gapSample_keeps _ _ _).mono (by decide)) (fun _ => ?_))
  · exact ((keeps_carat _ d).trans (keeps_carat _ _)).mono (by decide)
  refine Keeps.trans ?_ ((cycleAdd_keeps 0 t _ _).mono (by decide))
  refine Keeps.trans ?_ (hsplit _ _ _ (fun e x => splitEnergy_keeps _ _ _ _ e))
  exact (((modPt_keeps 0 _ _).mono (by decide)).andThen (splitEnergy_keeps _ _ _ _ _) (by decide)).andThen
    (addEnergy_keeps _ _ _ _) (by decide)

theorem dcPointSample_keeps (m t ts : Nat) (d : Dev) : Keeps (.carat :: .pts :: evParts) d (dcPointSample m t ts d) :=
  keeps_ite (fun _ => (gapSample_keeps _ _ _).mono (by decide)) (fun _ =>
    (((((modPt_keeps m _ d).mono (by decide)).andThen (splitEnergy_keeps _ _ _ _ _) (by decide)).andThen
      (cycleAdd_keeps _ _ _ _) (by decide)).andThen (secondAdd_keeps _ _ _ _) (by decide)))

theorem caratFeed_keeps (i : Nat) (d : Dev) : Keeps (.carat :: .pts :: evParts) d (caratFeed i d) := by
  have hpt : ∀ (m t ts : Nat) (f : CarPt → CarPt) (e : Dev), Keeps (.carat :: .pts :: evParts) e
      (if m = 0 then acSample t ts (modPt m f e) else dcPointSample m t ts (modPt m f e)) := fun m t ts f e =>
    keeps_ite (fun _ => ((modPt_keeps m f e).mono (by decide)).trans (acSample_keeps _ _ _))
      (fun _ => ((modPt_keeps m f e).mono (by decide)).trans (dcPointSample_keeps _ _ _ _))
  refine keeps_ite (fun _ => keeps_forAll 33 _ (fun m e => keeps_ite (fun _ => ?_) (fun _ => Keeps.refl _ e)) d)
    (fun _ => Keeps.refl _ d)
  split
  · exact keeps_ite (fun _ => hpt _ _ _ _ e) (fun _ => Keeps.refl _ e)
  · exact Keeps.refl _ e

/-- What takes a result of an input leaves the inputs and the Facets as they are. -/
theorem feedAin_keeps (i : Nat) (d : Dev) :
    Keeps ([.fil, .charm, .carat, .pts, .legs, .prm, .pv] ++ evParts) d (feedAin i d) := by
  have hrows : Keeps ([.fil, .charm, .carat, .pts, .legs, .prm, .pv] ++ evParts) d
      (deliverAin i (rowResult (0x1000 + i) (ain d i).res.stamp d)) :=
    ((rowResult_keeps _ _ d).mono (by decide)).andThen (deliverAin_keeps _ _) (by decide)
  have hchip : Keeps ([.fil, .charm, .carat, .pts, .legs, .prm, .pv] ++ evParts) d
      (if prm (deliverAin i (rowResult (0x1000 + i) (ain d i).res.stamp d)) 0x5012 0 = i then
        charmSample (deliverAin i (rowResult (0x1000 + i) (ain d i).res.stamp d))
      else deliverAin i (rowResult (0x1000 + i) (ain d i).res.stamp d)) :=
    keeps_ite (fun _ => hrows.andThen (charmSample_keeps _) (by decide)) (fun _ => hrows)
  exact ((hchip.andThen (pvFeed_keeps _ _) (by decide)).andThen (stressFeed_keeps _ _) (by decide)).andThen
    (caratFeed_keeps _ _) (by decide)

end Sys2Proof.Safety
end

section
/-!
PROOF. Results of inputs and of diagnostic positions (R31, R36, R39, R41, R50, R51).
-/
namespace Sys2Proof.Safety

open Sys2Proof.Machine

/-! ### The conversion that is due -/

theorem takeDue_first {f : Nat} {it : ScanItem} {r : List ScanItem} {d : Dev} (hch : it.change = [])
    (hdue : d.t = it.at_ + latency d f it.pos) :
    takeDue f (it :: r) d = (some it, modFacet f (fun x => { x with due := r }) d) := by
  have hlat : latency (modFacet f (fun x => { x with due := r }) d) f it.pos = latency d f it.pos := by
    simp only [latency, prm_modFacet]
  simp [takeDue, hch, applyChange, hlat, hdue]

/-- The device as the first conversion of Facet `f` leaves its scan. -/
def popped (f : Nat) (r : List ScanItem) (d : Dev) : Dev := modFacet f (fun x => { x with due := r }) d

theorem facet_popped (f : Nat) (r : List ScanItem) (d : Dev) : (facet (popped f r d) f).due = r := by
  rw [popped, facet_modFacet_self]

/-- The result of the conversion that is due. -/
theorem ainResult_eq {f st : Nat} {raw : Int} {clip : Bool} {it : ScanItem} {r : List ScanItem} {d : Dev}
    (hup : d.sys.up = true) (hst : d.sys.st ≠ .doze) (hf : f < 13) (hdue : (facet d f).due = it :: r) (hch : it.change = [])
    (hat : d.t = it.at_ + latency d f it.pos) (hstamp : st = it.at_ % 2 ^ 32) :
    ainResult f it.pos raw clip st d = resultOf f it raw clip (popped f r d) := by
  have hgo : ¬ (¬ d.sys.up = true ∨ (d.sys.st = .doze ∧ d.sys.auto ≠ .wakeCheck) ∨ 13 ≤ f) := by
    simp [hup, hst, Nat.not_le.mpr hf]
  have hlat : latency (popped f r d) f it.pos = latency d f it.pos := by simp only [latency, popped, prm_modFacet]
  have hdue' : it.pos = it.pos ∧ d.t = it.at_ + latency (popped f r d) f it.pos ∧ st = it.at_ % 2 ^ 32 :=
    ⟨rfl, by rw [hlat]; exact hat, hstamp⟩
  rw [ainResult, if_neg hgo, hdue, takeDue_first hch hat]
  exact if_pos hdue'

/-! ### A conversion through a filter that passes every sample -/

/-- Input `a` with its next conversion in a filter of order 1 that passes every sample. -/
theorem decimate_pass {x : Rat} {a : Ain} (hsame : a.integ = a.comb) (hlen : a.comb.length ≤ 1) :
    ∃ i c, decimate 1 1 x a = ({ a with integ := i, comb := c, phase := 0 }, some x) := by
  have hpow : ((1 ^ 1 : Nat) : Rat) = 1 := by norm_num
  match hc : a.comb with
  | [] =>
    refine ⟨[x], [x], ?_⟩
    simp [decimate, hsame, hc, integrate, combStages]
  | [v] =>
    refine ⟨[v + x], [v + x], ?_⟩
    simp [decimate, hsame, hc, integrate, combStages]
  | _ :: _ :: _ => simp [hc] at hlen

theorem filtOrder_zero : filtOrder 0 = 1 := rfl

@[simp] theorem ain_modAin_self (i : Nat) (f : Ain → Ain) (d : Dev) : ain (modAin i f d) i = f (ain d i) := by
  simp only [ain, modAin_acq, tget_tmod_self]

theorem modAin_keeps (i : Nat) (f : Ain → Ain) (d : Dev) : Keeps [.acq] d (modAin i f d) := keeps_acq _ d

theorem calFeed_keeps (i : Nat) (z y : Rat) (o v : Bool) (d : Dev) : Keeps [.acq] d (calFeed i z y o v d) := keeps_acq _ d

/-- The calibrations take a measured output, the inputs and Facets stay. -/
theorem calFeed_inputs (i : Nat) (z y : Rat) (o v : Bool) (d : Dev) :
    (calFeed i z y o v d).acq.ains = d.acq.ains ∧ (calFeed i z y o v d).acq.facets = d.acq.facets := ⟨rfl, rfl⟩

theorem ain_of_acq {d e : Dev} (h : e.acq.ains = d.acq.ains) (i : Nat) : ain e i = ain d i := by
  simp only [ain, h]

theorem xcalFeed_keeps (i : Nat) (r : Res) (d : Dev) : Keeps [.pnd] d (xcalFeed i r d) :=
  keeps_ite (fun _ => keeps_pnd _ d) (fun _ => Keeps.refl _ d)

/-- The device as a conversion of input `i` through such a filter leaves it, before its result is delivered. -/
theorem convert_pass {i st : Nat} {raw : Int} {sp : Bool} {d : Dev} (hdec : prm d 0x1103 i = 0) (hty : prm d 0x1102 i = 0)
    (hsensor : prm d 0x1100 i ≠ 3) (hdis : (ain d i).discard = 0) (hclip : (ain d i).clipAge = none)
    (hsame : (ain d i).integ = (ain d i).comb) (hlen : (ain d i).comb.length ≤ 1)
    (htrim : tget 0 d.acq.trim (server sp (i / 14)) = 0) :
    ∃ e, convert i raw false sp st d = (deliver i
        (((raw * 256 - toInt 32 (prm d 0x1107 (4 * i + prm d 0x1101 i)) : Int) : Rat)) false sp st e, true) ∧
      Keeps [.acq] d e ∧ e.acq.facets = d.acq.facets ∧ e.acq.facetFlt = d.acq.facetFlt ∧ e.acq.spareFlt = d.acq.spareFlt ∧
      (ain e i).res = (ain d i).res ∧ (ain e i).invalid = (ain d i).invalid := by
  have hcode : ((raw : Rat) - 0) * 256 - (toInt 32 (prm d 0x1107 (4 * i + prm d 0x1101 i)) : Rat) =
      ((raw * 256 - toInt 32 (prm d 0x1107 (4 * i + prm d 0x1101 i)) : Int) : Rat) := by push_cast; ring
  have hratio : decRatio d i = 1 := by simp [decRatio, hdec]
  obtain ⟨ig, cb, hpass⟩ := decimate_pass
    (x := ((raw * 256 - toInt 32 (prm d 0x1107 (4 * i + prm d 0x1101 i)) : Int) : Rat))
    (a := { ain d i with discard := 0, clipAge := none }) hsame hlen
  have hconv : convert i raw false sp st d = (deliver i
        (((raw * 256 - toInt 32 (prm d 0x1107 (4 * i + prm d 0x1101 i)) : Int) : Rat)) false sp st
        (calFeed i (((raw * 256 - toInt 32 (prm d 0x1107 (4 * i + prm d 0x1101 i)) : Int) : Rat) +
            (toInt 32 (prm d 0x1107 (4 * i + prm d 0x1101 i)) : Rat))
          (((raw * 256 - toInt 32 (prm d 0x1107 (4 * i + prm d 0x1101 i)) : Int) : Rat)) false
          (facetGood d sp (i / 14) && (ain d i).invalid = 0)
          (modAin i (fun _ => { ain d i with discard := 0, clipAge := none, integ := ig, comb := cb, phase := 0 }) d)), true) := by
    simp only [convert, hty, hratio, hdis, hclip, htrim, hcode, filtOrder_zero, if_true, Bool.false_eq_true, false_and,
      if_false, Option.map_none, Nat.zero_sub, hpass, hsensor]
  refine ⟨_, hconv, (modAin_keeps i _ d).trans (calFeed_keeps _ _ _ _ _ _), rfl, rfl, rfl, ?_, ?_⟩
  · rw [ain_of_acq (calFeed_inputs i _ _ _ _ _).1, ain_modAin_self]
  · rw [ain_of_acq (calFeed_inputs i _ _ _ _ _).1, ain_modAin_self]

/-- The result that is delivered without overrange (R36). -/
theorem deliver_res (i : Nat) (y : Rat) (sp : Bool) (st : Nat) (d : Dev) :
    (ain (deliver i y false sp st d) i).res =
      { value := clampI (-8388608) 8388607 (roundAway (y * (prm d 0x1108 (4 * i + prm d 0x1101 i) : Rat) / 1073741824)),
        valid := facetGood d sp (i / 14) && (ain d i).invalid = 0, ovr := false, src := sp,
        cal := prm d 0x1109 (4 * i + prm d 0x1101 i) = 2, seq := ((ain d i).res.seq + 1) % 16, stamp := st } ∧
    Keeps [.acq, .pnd] d (deliver i y false sp st d) ∧ (deliver i y false sp st d).acq.facets = d.acq.facets := by
  have hno : ¬ (false = true ∧ (ain d i).ovrEp ≠ ep d + 1) := fun h => Bool.false_ne_true h.1
  simp only [deliver, if_neg hno]
  refine ⟨?_, ((modAin_keeps i _ d).mono (by decide)).andThen (xcalFeed_keeps _ _ _) (by decide), ?_⟩
  · rw [ain_of_acq (congrArg Acq.ains ((xcalFeed_keeps _ _ _).acq (by decide))), ain_modAin_self]
  · rw [(xcalFeed_keeps _ _ _).acq (by decide)]
    rfl

/-! ### Results -/

theorem facetGood_congr {d e : Dev} (hclk : e.clk = d.clk) (hspare : e.acq.spareFlt = d.acq.spareFlt)
    (hflt : e.acq.facetFlt = d.acq.facetFlt) (sp : Bool) (f : Nat) : facetGood e sp f = facetGood d sp f := by
  simp only [facetGood, locked, hclk, hspare, hflt]

theorem resultOf_input {f : Nat} {it : ScanItem} {raw : Int} {clip : Bool} {d e : Dev} (hf : f < 12) (hp : it.pos < 14)
    (hconv : convert (14 * f + it.pos) raw clip it.spare it.at_ d = (e, true)) :
    resultOf f it raw clip d = feedAin (14 * f + it.pos) e := by
  rw [resultOf, if_pos ⟨hf, hp⟩, hconv]
  exact if_pos rfl

theorem resultOf_diag {f : Nat} {it : ScanItem} {raw : Int} {clip : Bool} {d : Dev} (hp : it.pos = 14) :
    resultOf f it raw clip d = diagResult f 14 raw clip it.spare it.at_ d := by
  rw [resultOf, if_neg (by omega), hp]

theorem latency_diag {f : Nat} (d : Dev) : latency d f 14 = 118 := if_neg (by omega)

/-- The result of a reference whose raw value is `raw`. -/
def refResult (f st : Nat) (raw : Int) (sp : Bool) (d : Dev) : Res :=
  { value := raw, valid := facetGood d sp f, ovr := false, src := sp, cal := false,
    seq := ((tget {} d.acq.diag (2 * f)).seq + 1) % 16, stamp := st }

/-- A device with result `r` of the reference position of Facet `f`. -/
def withRef (f : Nat) (r : Res) (d : Dev) : Dev := { d with acq := { d.acq with diag := tput {} (2 * f) r d.acq.diag } }

theorem withRef_diag (f : Nat) (r : Res) (d : Dev) : tget {} (withRef f r d).acq.diag (2 * f) = r := tget_tput_self {} _ r _

/-- A reference of R51 within its limits. -/
theorem diagResult_good {f st : Nat} {raw : Int} {sp : Bool} {d : Dev} (hcode : prm d 0x1005 f = 1) (hlo : 1194000 ≤ raw)
    (hhi : raw ≤ 1206000) : diagResult f 14 raw false sp st d = withRef f (refResult f st raw sp d) d := by
  have hin : ¬ 6000 < absI (raw - 1200000) := by unfold absI; split <;> omega
  have hval : clampI (-8388608) 8388607 raw = raw := by unfold clampI; split <;> (try split) <;> omega
  simp [diagResult, hcode, hin, hval, withRef, refResult]

/-- A reference of R51 outside its limits declares its converter faulty. -/
theorem diagResult_bad {f st : Nat} {raw : Int} {sp : Bool} {d : Dev} (hcode : prm d 0x1005 f = 1)
    (hout : raw < 1194000 ∨ 1206000 < raw) :
    ∃ r : Res, r.valid = false ∧ diagResult f 14 raw false sp st d = withRef f r (facetFault (server sp f) d) := by
  have hbad : 6000 < absI (raw - 1200000) := by unfold absI; split <;> omega
  refine ⟨{ refResult f st (clampI (-8388608) 8388607 raw) sp d with valid := false }, rfl, ?_⟩
  simp [diagResult, hcode, hbad, withRef, refResult]

/-- Settles O19: an input whose filter passes every sample, then a reference within its limits and one outside them. -/
theorem conversionResults : Obligations.ConversionResults := by
  unfold Obligations.ConversionResults
  refine ⟨?input, ?good, ?bad⟩
  case input =>
    intro s t f p a st raw sp rest hup hst hf hp hdue ht hstamp hdec hty hsensor hdis hclip hsame hlen htrim
    have hlat : latency (devAt s t) f p = 118 := if_neg (fun h => hsensor h.2.2)
    have heq := ainResult_eq (d := devAt s t) (it := ⟨p, a, sp, []⟩) (raw := raw) (clip := false) hup hst (by omega) hdue rfl
      (ht.trans (congrArg (a + ·) hlat.symm)) hstamp
    have hdiv : (14 * f + p) / 14 = f := by omega
    have hd0 : Keeps [.acq] (devAt s t) (popped f rest (devAt s t)) := modFacet_keeps f _ _
    have hdue0 := facet_popped f rest (devAt s t)
    obtain ⟨e, hconv, hkeeps, hfacets, hflt, hspare, hres, hinv⟩ := convert_pass (i := 14 * f + p) (st := a) (raw := raw)
      (sp := sp) (d := popped f rest (devAt s t)) hdec hty hsensor hdis hclip hsame hlen (by rw [hdiv]; exact htrim)
    rw [resultOf_input (it := ⟨p, a, sp, []⟩) hf hp hconv] at heq
    have hkeepsE : Keeps [.acq] (devAt s t) e := hd0.trans hkeeps
    have hprm : ∀ q k, prm e q k = prm s.dev q k := fun q k => prm_of_prm (d := s.dev) (hkeepsE.prm (by decide)) q k
    obtain ⟨hdel, hkeepsD, hfacetsD⟩ := deliver_res (14 * f + p)
      (((raw * 256 - toInt 32 (prm (popped f rest (devAt s t)) 0x1107
        (4 * (14 * f + p) + prm (popped f rest (devAt s t)) 0x1101 (14 * f + p))) : Int) : Rat)) sp a e
    have hfeed := feedAin_keeps (14 * f + p) (deliver (14 * f + p)
      (((raw * 256 - toInt 32 (prm (popped f rest (devAt s t)) 0x1107
        (4 * (14 * f + p) + prm (popped f rest (devAt s t)) 0x1101 (14 * f + p))) : Int) : Rat)) false sp a e)
    refine runs_eq rfl heq (((hkeepsE.mono (by decide)).andThen hkeepsD (by decide)).andThen hfeed (by decide)) (by decide) ⟨?_, ?_⟩
    · rw [ain_of_acq (congrArg Acq.ains (hfeed.acq (by decide))), hdel, hprm, hprm, hprm, hdiv,
        facetGood_congr (d := s.dev) (hkeepsE.clk (by decide)) hspare hflt, hres, hinv]
      rfl
    · rw [facet_of_acq (congrArg Acq.facets (hfeed.acq (by decide))), facet_of_acq hfacetsD, facet_of_acq hfacets]
      exact hdue0
  case good =>
    intro s t f a st raw sp rest hup hst hf hdue ht hstamp hcode hlo hhi
    have heq := ainResult_eq (d := devAt s t) (it := ⟨14, a, sp, []⟩) (raw := raw) (clip := false) hup hst hf hdue rfl
      (ht.trans (congrArg (a + ·) (latency_diag _).symm)) hstamp
    rw [resultOf_diag rfl, diagResult_good (d := popped f rest (devAt s t)) hcode hlo hhi] at heq
    have hself := withRef_diag f (refResult f a raw sp (popped f rest (devAt s t))) (popped f rest (devAt s t))
    refine runs_eq rfl heq ((modFacet_keeps f _ _).trans (keeps_acq _ _)) (by decide) ⟨?_, ?_, ?_, rfl⟩
    · exact congrArg Res.value hself
    · exact congrArg Res.valid hself
    · exact congrArg Res.stamp hself
  case bad =>
    intro s t f a st raw rest hup hst hf hdue ht hstamp hcode hout hgood
    have heq := ainResult_eq (d := devAt s t) (it := ⟨14, a, false, []⟩) (raw := raw) (clip := false) hup hst (by omega) hdue rfl
      (ht.trans (congrArg (a + ·) (latency_diag _).symm)) hstamp
    obtain ⟨r, hinvalid, hdiag⟩ := diagResult_bad (f := f) (st := a) (sp := false) (d := popped f rest (devAt s t)) hcode hout
    rw [resultOf_diag rfl, hdiag] at heq
    obtain ⟨hkeeps, hpend, next, c, hacq⟩ := facetFault_core (d := popped f rest (devAt s t)) hf hgood
    have hpend' : Pending 17 (facetFault f (popped f rest (devAt s t))) := hpend hup
    have hserver : server false f = f := rfl
    rw [hserver] at heq
    have hbit : bit (facetFault f (popped f rest (devAt s t))).acq.facetFlt f = true := by
      rw [hacq]
      exact bit_setBit_self _ f
    have hpopped : Keeps [.acq] (devAt s t) (popped f rest (devAt s t)) := modFacet_keeps f _ _
    generalize facetFault f (popped f rest (devAt s t)) = d2 at heq hkeeps hpend' hbit
    refine runs_eq rfl heq (((hpopped.mono (by decide)).trans hkeeps).andThen (keeps_acq _ _) (by decide)) (by decide)
      ⟨hbit, hpend', ?_⟩
    exact (congrArg Res.valid (withRef_diag f r d2)).trans hinvalid

end Sys2Proof.Safety
end

section
/-!
PROOF. Evaluations of the cascades, their outputs and halts (R66 to R82, R105, R109).
-/
namespace Sys2Proof.Safety

open Sys2Proof.Machine

/-! ### Cascades -/

theorem cas_of_keeps {ps : List Part} {d e : Dev} (h : Keeps ps d e) (hp : Part.fil ∉ ps) (c : Nat) : cas e c = cas d c := by
  rw [cas, h.filTaps hp]
  rfl

theorem cas_of_cas {d e : Dev} (h : e.fil.cas = d.fil.cas) (c : Nat) : cas e c = cas d c := by
  simp only [cas, h]

@[simp] theorem cas_modCas_self (c : Nat) (f : Cas → Cas) (d : Dev) : cas (modCas c f d) c = f (cas d c) := by
  rw [cas_modCas, if_pos rfl]

theorem prm_modCas (c : Nat) (f : Cas → Cas) (d : Dev) (p i : Nat) : prm (modCas c f d) p i = prm d p i := prm_of_prm rfl p i

/-- What a delivery to a cascade, the flags of an output and its events leave of it. -/
structure CasKept (x y : Cas) : Prop where
  out : y.out = x.out
  states : y.states = x.states
  prev : y.prev = x.prev
  halt : y.halt = x.halt
  job : y.job = x.job
  good : y.good = x.good
  mirror : y.mirror = x.mirror
  spM : y.spM = x.spM
  spLost : y.spLost = x.spLost

theorem CasKept.refl (x : Cas) : CasKept x x := ⟨rfl, rfl, rfl, rfl, rfl, rfl, rfl, rfl, rfl⟩

theorem CasKept.trans {x y z : Cas} (h : CasKept x y) (k : CasKept y z) : CasKept x z :=
  ⟨k.out.trans h.out, k.states.trans h.states, k.prev.trans h.prev, k.halt.trans h.halt, k.job.trans h.job,
    k.good.trans h.good, k.mirror.trans h.mirror, k.spM.trans h.spM, k.spLost.trans h.spLost⟩

theorem casKept_of_eq {x y : Cas} (h : y = x) : CasKept x y := h ▸ CasKept.refl x

theorem modCas_kept (b c : Nat) (f : Cas → Cas) (d : Dev)
    (hf : ∀ x, CasKept x (f x) := by exact fun _ => ⟨rfl, rfl, rfl, rfl, rfl, rfl, rfl, rfl, rfl⟩) :
    CasKept (cas d c) (cas (modCas b f d) c) := by
  rw [cas_modCas]
  split
  · subst ‹c = b›
    exact hf _
  · exact .refl _

theorem becomeReady_kept (b o c : Nat) (d : Dev) : CasKept (cas d c) (cas (becomeReady b o d) c) := by
  refine modCas_kept b c _ d (fun x => ?_)
  dsimp only
  split
  · exact ⟨rfl, rfl, rfl, rfl, rfl, rfl, rfl, rfl, rfl⟩
  · split
    · exact ⟨rfl, rfl, rfl, rfl, rfl, rfl, rfl, rfl, rfl⟩
    · split
      · exact ⟨rfl, rfl, rfl, rfl, rfl, rfl, rfl, rfl, rfl⟩
      · exact ⟨rfl, rfl, rfl, rfl, rfl, rfl, rfl, rfl, rfl⟩

theorem freshen_kept (code o b c : Nat) (d : Dev) : CasKept (cas d c) (cas (freshen code o b d) c) := by
  unfold freshen
  split
  · dsimp only
    split
    · exact .refl _
    · split
      · exact becomeReady_kept b o c d
      · exact modCas_kept b c _ d
  · exact .refl _

theorem deliverSrc_kept (code o c : Nat) (d : Dev) : CasKept (cas d c) (cas (deliverSrc code o d) c) :=
  forAll_preserves (n := 128) (P := fun e => CasKept (cas d c) (cas e c)) (f := freshen code o)
    (fun b e _ h => h.trans (freshen_kept code o b c e)) (.refl _)

theorem noteLate_kept (b : Nat) (l : Bool) (c : Nat) (d : Dev) : CasKept (cas d c) (cas (noteLate b l d) c) := by
  unfold noteLate
  dsimp only
  split
  · split
    · exact modCas_kept b c _ d
    · rw [cas_of_keeps (raiseI_keeps _ _ _) (by decide)]
      exact modCas_kept b c _ d
  · exact .refl _

theorem noteLate_keeps (c : Nat) (l : Bool) (d : Dev) : Keeps (.fil :: evParts) d (noteLate c l d) :=
  keeps_ite (fun _ => keeps_ite (fun _ => (modCas_keeps c _ d).mono (by decide))
    (fun _ => ((modCas_keeps c _ d).mono (by decide)).andThen (raiseI_keeps _ _ _) (by decide))) (fun _ => Keeps.refl _ d)

/-! ### Halts -/

/-- The output of a halt (R74). -/
def haltOut (c : Nat) (d : Dev) : CasOut :=
  { value := (cas d c).out.value, valid := false, seq := ((cas d c).out.seq + 1) % 16,
    late := lateOut d c (min 65535 (d.t - (cas d c).origin)), delay := min 65535 (d.t - (cas d c).origin),
    origin := (cas d c).origin, tick := d.t }

/-- Cascade `c` as it halts, before its events. -/
def halted (c : Nat) (d : Dev) : Dev :=
  modCas c (fun y => { y with
    halt := true, ready := false, fresh := 0, job := none, haltRaised := true, out := haltOut c d, sat := false,
    delayMax := max y.delayMax (min 65535 (d.t - (cas d c).origin)), hist := (haltOut c d :: y.hist).take 16 }) d

/-- Cascade `c` has halted, with EV_FILHALT. -/
def halting (c : Nat) (d : Dev) : Dev :=
  raiseI 25 c (noteLate c (lateOut d c (min 65535 (d.t - (cas d c).origin))) (halted c d))

/-- A running cascade that drives no leg halts (R74). -/
theorem casHalt_free {c : Nat} {d : Dev} (hrun : (cas d c).halt = false) (hdest : destLeg d c = none) :
    casHalt c d = deliverSrc (0x2000 + c) (cas d c).origin (halting c d) := by
  simp only [casHalt, hrun, Bool.false_eq_true, if_false, hdest, halting, halted, haltOut]

/-- The leg that a running cascade drives is lost as it halts (R75). -/
theorem casHalt_leg {c n : Nat} {d : Dev} (hrun : (cas d c).halt = false) (hdest : destLeg d c = some n) :
    casHalt c d = deliverSrc (0x2000 + c) (cas d c).origin (legOut n true (halting c d)) := by
  simp only [casHalt, hrun, Bool.false_eq_true, if_false, hdest, halting, halted, haltOut]

theorem halted_cas (c : Nat) (d : Dev) : (cas (halted c d) c).halt = true ∧ (cas (halted c d) c).out = haltOut c d := by
  rw [halted, cas_modCas_self]
  exact ⟨rfl, rfl⟩

theorem halting_keeps (c : Nat) (d : Dev) : Keeps (.fil :: evParts) d (halting c d) :=
  (((modCas_keeps c _ d).mono (by decide)).trans (noteLate_keeps _ _ _)).andThen (raiseI_keeps _ _ _) (by decide)

theorem halting_cas (c : Nat) (d : Dev) : (cas (halting c d) c).halt = true ∧ (cas (halting c d) c).out = haltOut c d := by
  obtain ⟨hhalt, hout⟩ := halted_cas c d
  have hlate := noteLate_kept c (lateOut d c (min 65535 (d.t - (cas d c).origin))) c (halted c d)
  rw [halting, cas_of_keeps (raiseI_keeps _ _ _) (by decide), hlate.halt, hlate.out]
  exact ⟨hhalt, hout⟩

/-- What follows a halt leaves cascade `c` halted with its invalid output. -/
theorem delivered_halting {c code o : Nat} {d e : Dev} (h : cas e c = cas (halting c d) c) :
    (cas (deliverSrc code o e) c).halt = true ∧ (cas (deliverSrc code o e) c).out = haltOut c d := by
  obtain ⟨hhalt, hout⟩ := halting_cas c d
  have hkept := deliverSrc_kept code o c e
  rw [hkept.halt, hkept.out, h]
  exact ⟨hhalt, hout⟩

/-! ### Uncorrectable errors -/

theorem haltEvery_keeps (d : Dev) : Keeps [.fil] d (haltEvery d) := by
  unfold haltEvery
  refine Keeps.trans (e := { d with fil := { d.fil with haltAll := true } }) (keeps_fil_of_taps rfl) ?_
  exact keeps_forAll 128 _ (fun c e => keeps_ite (fun _ => modCas_keeps c _ e) (fun _ => Keeps.refl _ e)) _

/-- Every cascade halts: the flags of the fabric beside. -/
theorem haltEvery_flags (d : Dev) : (haltEvery d).fil.haltAll = true ∧ (haltEvery d).fil.unc = d.fil.unc ∧
    (haltEvery d).fil.replay = d.fil.replay := by
  unfold haltEvery
  refine forAll_preserves (n := 128)
    (P := fun e => e.fil.haltAll = true ∧ e.fil.unc = d.fil.unc ∧ e.fil.replay = d.fil.replay) (fun c e _ h => ?_)
    ⟨rfl, rfl, rfl⟩
  split
  · simpa using h
  · exact h

/-- The flags of an uncorrectable error, which ends the replay. -/
def uncMarked (d : Dev) : Dev := { d with fil := { d.fil with unc := true, replay := none, rplJobs := [] } }

/-- The fabric after an uncorrectable error, before the device trips. -/
def fabricHalted (d : Dev) : Dev := haltEvery (uncMarked d)

theorem fabricHalted_keeps (d : Dev) : Keeps [.fil] d (fabricHalted d) :=
  Keeps.trans (e := uncMarked d) (keeps_fil_of_taps rfl) (haltEvery_keeps _)

theorem fabricHalted_flags (d : Dev) : (fabricHalted d).fil.haltAll = true ∧ (fabricHalted d).fil.unc = true ∧
    (fabricHalted d).fil.replay = none := by
  unfold fabricHalted
  exact haltEvery_flags (uncMarked d)

theorem fabricError_eq (c : Nat) (d : Dev) : fabricError c d = enterTrip 0x29 (raiseI 32 c (fabricHalted d)) := rfl

theorem fabricError_keeps (c : Nat) (d : Dev) : Keeps (.fil :: tripParts) d (fabricError c d) := by
  rw [fabricError_eq]
  exact (((fabricHalted_keeps d).mono (by decide)).andThen (raiseI_keeps _ _ _) (by decide)).andThen (enterTrip_keeps _ _) (by decide)

/-- An uncorrectable error halts the fabric and trips the device (R109). -/
theorem fabricError_trips (c : Nat) {d : Dev} (hgates : gatesState d = true) (hwarned : d.hold.warned = false) :
    (fabricError c d).fil.unc = true ∧ (fabricError c d).fil.haltAll = true ∧ (fabricError c d).fil.replay = none ∧
      (fabricError c d).sys.st = .trip ∧ (fabricError c d).sys.cause = 0x29 := by
  have hkeeps : Keeps (.fil :: evParts) d (raiseI 32 c (fabricHalted d)) :=
    ((fabricHalted_keeps d).mono (by decide)).andThen (raiseI_keeps _ _ _) (by decide)
  obtain ⟨hall, hunc, hreplay⟩ := fabricHalted_flags d
  rw [fabricError_eq]
  have hgates' : gatesState (raiseI 32 c (fabricHalted d)) = true := by rw [gatesState, hkeeps.sys (by decide)]; exact hgates
  have hwarned' : (raiseI 32 c (fabricHalted d)).hold.warned = false := by rw [hkeeps.hold (by decide)]; exact hwarned
  obtain ⟨hcan, hne⟩ := canTrip_of_gates hgates' 0x29
  obtain ⟨hst, hcause, -, -⟩ := enterTrip_sys hne hcan hwarned'
  have hraise := (raiseI_keeps 32 c (fabricHalted d)).filTaps (by decide)
  generalize raiseI 32 c (fabricHalted d) = e at hst hcause hraise ⊢
  have hfil := (enterTrip_keeps 0x29 e).filTaps (by decide)
  generalize enterTrip 0x29 e = f at hst hcause hfil ⊢
  rw [hfil, hraise]
  dsimp only
  exact ⟨hunc, hall, hreplay, hst, hcause⟩

/-! ### Evaluations -/

theorem noteAge_keeps (c o : Nat) (d : Dev) : Keeps [.gs] d (noteAge c o d) :=
  keeps_ite (fun _ => keeps_gs _ d) (fun _ => keeps_ite (fun _ => keeps_gs _ d) (fun _ => Keeps.refl _ d))

theorem spUpdate_keeps (c : Nat) (d : Dev) : Keeps [.fil] d (spUpdate c d) := modCas_keeps c _ d

/-- The cascade whose setpoint is updated keeps all but its setpoint. -/
theorem spUpdate_cas (c : Nat) (d : Dev) : ∃ v k st, cas (spUpdate c d) c = { cas d c with spVal := v, spTick := k, spSet := st } := by
  rw [spUpdate]
  dsimp only
  rw [cas_modCas_self]
  exact ⟨_, _, _, rfl⟩

/-- The device with the setpoint of `c` updated where a source names it. -/
def spTaken (c : Nat) (d : Dev) : Dev :=
  if (List.range 4).any (fun k => srcCode d c k = 0x3000) && spValid d c then spUpdate c d else d

theorem spTaken_keeps (c : Nat) (d : Dev) : Keeps [.fil] d (spTaken c d) :=
  keeps_ite (fun _ => spUpdate_keeps c d) (fun _ => Keeps.refl _ d)

theorem spTaken_cas (c : Nat) (d : Dev) : ∃ v k st, cas (spTaken c d) c = { cas d c with spVal := v, spTick := k, spSet := st } := by
  unfold spTaken
  split
  · exact spUpdate_cas c d
  · exact ⟨(cas d c).spVal, (cas d c).spTick, (cas d c).spSet, rfl⟩

theorem spTaken_other {c b : Nat} (h : b ≠ c) (d : Dev) : cas (spTaken c d) b = cas d b := by
  unfold spTaken
  split
  · rw [spUpdate]
    dsimp only
    rw [cas_modCas, if_neg h]
  · rfl

theorem spTaken_cycles (c : Nat) (d : Dev) : (spTaken c d).fil.cycles = d.fil.cycles := by
  unfold spTaken
  split
  · rfl
  · rfl

theorem spTaken_of_none {c : Nat} {d : Dev} (h : ∀ k, k < 4 → srcCode d c k ≠ 0x3000) : spTaken c d = d := by
  refine if_neg ?_
  have hnone : (List.range 4).any (fun k => decide (srcCode d c k = 0x3000)) = false := by
    simp only [List.any_eq_false, List.mem_range, decide_eq_true_eq]
    exact h
  simp [hnone]

/-- The job of an evaluation that starts on the source values `vs`. -/
def startedJob (c : Nat) (vs : List Int) (d : Dev) : EvalJob :=
  { evaluate d c vs (startStates d c) with origin := (cas d c).origin, sp := sat24 (roundAway (cas d c).spVal) }

/-- Cascade `c` with the job that it starts. -/
def jobTaken (c : Nat) (vs : List Int) (d : Dev) : Dev :=
  noteAge c (cas d c).origin (modCas c (fun y => { y with job := some (startedJob c vs d), ready := false, fresh := 0 }) d)

theorem evalStart_none {c : Nat} {p : TransferParity} {d : Dev} (hp : p ≠ .failed) (hmay : mayStart d c = true)
    (hsrc : sources (spTaken c d) c = none) : evalStart c p d = casHalt c (spTaken c d) := by
  rw [evalStart, if_pos hmay, if_neg hp, ← spTaken]
  simp only [hsrc]

theorem evalStart_some {c : Nat} {p : TransferParity} {d : Dev} {vs : List Int} (hp : p ≠ .failed) (hmay : mayStart d c = true)
    (hsrc : sources (spTaken c d) c = some vs) : evalStart c p d =
      { jobTaken c vs (spTaken c d) with fil := { (jobTaken c vs (spTaken c d)).fil with
        cycles := (jobTaken c vs (spTaken c d)).fil.cycles + laneCycles d c } } := by
  rw [evalStart, if_pos hmay, if_neg hp, ← spTaken]
  simp only [hsrc, jobTaken, startedJob]

theorem evalStart_failed {c : Nat} {d : Dev} (hmay : mayStart d c = true) : evalStart c .failed d = fabricError c d := by
  simp only [evalStart, hmay, if_true]

/-- An evaluation without a setpoint among its sources halts where a source is invalid. -/
theorem evalStart_halts {c : Nat} {p : TransferParity} {d : Dev} (hp : p ≠ .failed) (hmay : mayStart d c = true)
    (hsp : ∀ k, k < 4 → srcCode d c k ≠ 0x3000) (hsrc : sources d c = none) : evalStart c p d = casHalt c d := by
  rw [evalStart_none hp hmay (by rw [spTaken_of_none hsp, hsrc]), spTaken_of_none hsp]

/-! ### Outputs -/

/-- The overflow of an evaluation: its flag, and EV_FILOVF at most once an epoch (R71). -/
def noteOvf (c : Nat) (j : EvalJob) (d : Dev) : Dev :=
  if j.ovf then
    (if (cas d c).ovfEp = ep d + 1 then modCas c (fun x => { x with ovf := true }) d
     else raiseI 24 c (modCas c (fun x => { x with ovf := true, ovfEp := ep d + 1 }) d)) else d

/-- One more evaluation of `c` in epoch `e1` (R84). -/
def countEval (c e1 : Nat) (d : Dev) : Dev :=
  modCas c (fun x => if x.ep = e1 then { x with epN := x.epN + 1 } else { x with ep := e1, epN := 1 }) d

/-- More evaluations in epoch `e1` than the rate of `c` allows raise EV_FILRATE, once an epoch (R84). -/
def noteRate (c e1 : Nat) (d : Dev) : Dev :=
  if prm d 0x2015 c / 1000 + 1 < (cas d c).epN ∧ d.fil.rateEp ≠ e1 then
    raiseI 27 c { d with fil := { d.fil with rateEp := e1 } }
  else d

theorem evalEvents_eq (c : Nat) (j : EvalJob) (l : Bool) (d : Dev) :
    evalEvents c j l d = noteRate c (ep d + 1) (countEval c (ep d + 1) (noteLate c l (noteOvf c j d))) := rfl

theorem noteOvf_keeps (c : Nat) (j : EvalJob) (d : Dev) : Keeps (.fil :: evParts) d (noteOvf c j d) :=
  keeps_ite (fun _ => keeps_ite (fun _ => (modCas_keeps c _ d).mono (by decide))
    (fun _ => ((modCas_keeps c _ d).mono (by decide)).andThen (raiseI_keeps _ _ _) (by decide))) (fun _ => Keeps.refl _ d)

theorem rateMarked_keeps (e1 : Nat) (d : Dev) : Keeps [.fil] d { d with fil := { d.fil with rateEp := e1 } } :=
  keeps_fil_of_taps rfl

theorem noteRate_keeps (c e1 : Nat) (d : Dev) : Keeps (.fil :: evParts) d (noteRate c e1 d) :=
  keeps_ite (fun _ => ((rateMarked_keeps e1 d).mono (by decide)).andThen (raiseI_keeps _ _ _) (by decide)) (fun _ => Keeps.refl _ d)

theorem evalEvents_keeps (c : Nat) (j : EvalJob) (l : Bool) (d : Dev) : Keeps (.fil :: evParts) d (evalEvents c j l d) := by
  rw [evalEvents_eq]
  exact (((noteOvf_keeps c j d).trans (noteLate_keeps c l _)).andThen (modCas_keeps c _ _) (by decide)).trans (noteRate_keeps _ _ _)

theorem noteOvf_kept (b : Nat) (j : EvalJob) (c : Nat) (d : Dev) : CasKept (cas d c) (cas (noteOvf b j d) c) := by
  unfold noteOvf
  split
  · split
    · exact modCas_kept b c _ d
    · rw [cas_of_keeps (raiseI_keeps _ _ _) (by decide)]
      exact modCas_kept b c _ d
  · exact .refl _

theorem countEval_kept (b e1 c : Nat) (d : Dev) : CasKept (cas d c) (cas (countEval b e1 d) c) := by
  refine modCas_kept b c _ d (fun x => ?_)
  split
  · exact ⟨rfl, rfl, rfl, rfl, rfl, rfl, rfl, rfl, rfl⟩
  · exact ⟨rfl, rfl, rfl, rfl, rfl, rfl, rfl, rfl, rfl⟩

theorem noteRate_cas (b e1 c : Nat) (d : Dev) : cas (noteRate b e1 d) c = cas d c := by
  unfold noteRate
  split
  · rw [cas_of_keeps (raiseI_keeps _ _ _) (by decide)]
    rfl
  · rfl

theorem evalEvents_kept (b : Nat) (j : EvalJob) (l : Bool) (c : Nat) (d : Dev) :
    CasKept (cas d c) (cas (evalEvents b j l d) c) := by
  rw [evalEvents_eq, noteRate_cas]
  exact ((noteOvf_kept b j c d).trans (noteLate_kept b l c _)).trans (countEval_kept b _ c _)

theorem noteMargin_keeps (c o : Nat) (d : Dev) : Keeps [.gs] d (noteMargin c o d) := by
  unfold noteMargin
  split
  · exact keeps_ite (fun _ => keeps_gs _ d) (fun _ => Keeps.refl _ d)
  · exact Keeps.refl _ d

theorem pvSat_keeps (c : Nat) (j : EvalJob) (d : Dev) : Keeps [.pv] d (pvSat c j d) :=
  keeps_ite (fun _ => modPv_keeps _ _ d) (fun _ => Keeps.refl _ d)

theorem tapFeed_keeps (j : EvalJob) (o : CasOut) (k : Nat) (d : Dev) : Keeps [.taps] d (tapFeed j o k d) := by
  unfold tapFeed
  refine keeps_ite (fun _ => Keeps.refl _ d) (fun _ => ?_)
  have hhit : ∀ b : Bool, Keeps [.taps] d (if b then tapTrigger k d else d) := fun b =>
    keeps_ite (fun _ => tapTrigger_keeps k d) (fun _ => Keeps.refl _ d)
  exact keeps_ite (fun _ => ((hhit _).trans (modTap_keeps k _ _)).trans (modTap_keeps k _ _))
    (fun _ => ((hhit _).trans (modTap_keeps k _ _)).trans (modTap_keeps k _ _))

theorem tapsFeed_keeps (c : Nat) (j : EvalJob) (o : CasOut) (d : Dev) : Keeps [.taps] d (tapsFeed c j o d) :=
  keeps_forAll 16 _ (fun k e => keeps_ite (fun _ => tapFeed_keeps j o k e) (fun _ => Keeps.refl _ e)) d

/-- The output of an evaluation (R79 to R82). -/
def evalOut (c : Nat) (j : EvalJob) (rpl : Bool) (d : Dev) : CasOut :=
  { value := j.value, valid := true, sat := j.sat, rpl := rpl, late := lateOut d c (min 65535 (d.t - j.origin)),
    seq := ((cas d c).out.seq + 1) % 16, delay := min 65535 (d.t - j.origin), origin := j.origin, tick := d.t }

/-- Cascade `c` with its output written. -/
def outWritten (c : Nat) (j : EvalJob) (rpl : Bool) (d : Dev) : Dev :=
  modCas c (fun y => { y with
    out := evalOut c j rpl d, hist := (evalOut c j rpl d :: y.hist).take 16, good := j.value, sat := j.sat, prev := y.states,
    states := j.states, lastSrcs := j.srcs, halt := false, job := none, newBank := y.newBank && !j.onNew,
    delayMax := max y.delayMax (min 65535 (d.t - j.origin)), rplF := y.rplF || rpl,
    ready := y.again, origin := if y.again then y.againOrigin else y.origin, again := false }) d

theorem writeOut_eq (c : Nat) (j : EvalJob) (rpl : Bool) (d : Dev) : writeOut c j rpl d =
    deliverSrc (0x2000 + c) j.origin (tapsFeed c j (evalOut c j rpl d) (noteMargin c j.origin
      (evalEvents c j (lateOut d c (min 65535 (d.t - j.origin))) (pvSat c j (outWritten c j rpl d))))) := rfl

theorem writeOut_keeps (c : Nat) (j : EvalJob) (rpl : Bool) (d : Dev) :
    Keeps ([.fil, .gs, .pv] ++ evParts) d (writeOut c j rpl d) := by
  rw [writeOut_eq]
  exact (((((((modCas_keeps c _ d).mono (by decide)).andThen (pvSat_keeps _ _ _) (by decide)).andThen
    (evalEvents_keeps _ _ _ _) (by decide)).andThen (noteMargin_keeps _ _ _) (by decide)).andThen (tapsFeed_keeps _ _ _ _)
    (by decide)).andThen (deliverSrc_keeps _ _ _) (by decide))

theorem writeOut_kept (c : Nat) (j : EvalJob) (rpl : Bool) (d : Dev) :
    CasKept (cas (outWritten c j rpl d) c) (cas (writeOut c j rpl d) c) := by
  rw [writeOut_eq]
  refine CasKept.trans ?_ (deliverSrc_kept _ _ c _)
  refine CasKept.trans ?_ (casKept_of_eq (cas_of_keeps (tapsFeed_keeps _ _ _ _) (by decide) c))
  refine CasKept.trans ?_ (casKept_of_eq (cas_of_keeps (noteMargin_keeps _ _ _) (by decide) c))
  refine CasKept.trans ?_ (evalEvents_kept _ _ _ c _)
  exact casKept_of_eq (cas_of_keeps (pvSat_keeps _ _ _) (by decide) c)

/-- An evaluation whose output is due. -/
theorem evalDone_good {c : Nat} {p : TransferParity} {j : EvalJob} {d : Dev} (hc : c < 128) (hjob : (cas d c).job = some j)
    (hdue : (p = .good ∧ d.t = evalDue j) ∨ (p = .replayed ∧ evalDue j ≤ d.t ∧ d.t ≤ evalDue j + 8)) :
    evalDone c p d = writeOut c j false d := by
  rcases hdue with ⟨rfl, ht⟩ | ⟨rfl, hlo, hhi⟩
  · simp [evalDone, hjob, hc, ht]
  · simp [evalDone, hjob, hc, hlo, hhi]

theorem evalDone_failed {c : Nat} {j : EvalJob} {d : Dev} (hc : c < 128) (hjob : (cas d c).job = some j)
    (hlo : evalDue j ≤ d.t) (hhi : d.t ≤ evalDue j + 8) : evalDone c .failed d = fabricError c d := by
  simp [evalDone, hjob, hc, hlo, hhi]

theorem startStates_spTaken (c : Nat) (d : Dev) : startStates (spTaken c d) c = startStates d c := by
  obtain ⟨v, k, st, hcas⟩ := spTaken_cas c d
  simp only [startStates, hcas, prm_of_prm ((spTaken_keeps c d).prm (by decide))]

theorem laneCycles_eq (d : Dev) (c : Nat) : laneCycles d c = 5 * prm d 0x2011 c + 4 := rfl

theorem jobTaken_keeps (c : Nat) (vs : List Int) (d : Dev) : Keeps [.fil, .gs] d (jobTaken c vs d) :=
  ((modCas_keeps c _ d).mono (by decide)).andThen (noteAge_keeps _ _ _) (by decide)

theorem jobTaken_cas (c : Nat) (vs : List Int) (d : Dev) (b : Nat) : cas (jobTaken c vs d) b =
    if b = c then { cas d c with job := some (startedJob c vs d), ready := false, fresh := 0 } else cas d b := by
  rw [jobTaken, cas_of_keeps (noteAge_keeps _ _ _) (by decide), cas_modCas]

theorem jobTaken_cycles (c : Nat) (vs : List Int) (d : Dev) : (jobTaken c vs d).fil.cycles = d.fil.cycles := by
  rw [jobTaken, (noteAge_keeps _ _ _).filTaps (by decide)]
  rfl

/-- Settles O21: the start of an evaluation, its halts and failures, then the output when it is due. -/
theorem cascadeEvaluations : Obligations.CascadeEvaluations := by
  unfold Obligations.CascadeEvaluations
  refine ⟨?start, ?halt, ?haltLeg, ?startFailed, ?doneFailed, ?done⟩
  case start =>
    intro s t c p d1 vs hp hmay hd1 hsrc
    have hspt : d1 = spTaken c (devAt s t) := hd1
    subst hspt
    obtain ⟨v, k, st, hcas⟩ := spTaken_cas c (devAt s t)
    have heq := evalStart_some (d := devAt s t) hp hmay hsrc
    have hjob : startedJob c vs (spTaken c (devAt s t)) = { evaluate (spTaken c (devAt s t)) c vs (startStates s.dev c) with
        origin := (cas s.dev c).origin, sp := sat24 (roundAway (cas (spTaken c (devAt s t)) c).spVal) } := by
      rw [startedJob, startStates_spTaken, hcas]
      rfl
    have hother : ∀ b, b ≠ c → cas (spTaken c (devAt s t)) b = cas s.dev b := fun b hb => spTaken_other hb _
    have hkeeps : Keeps [.fil, .gs] (devAt s t) (spTaken c (devAt s t)) := (spTaken_keeps c _).mono (by decide)
    have hcycles : (spTaken c (devAt s t)).fil.cycles = s.dev.fil.cycles := spTaken_cycles c _
    generalize spTaken c (devAt s t) = e at heq hcas hjob hother hkeeps hcycles ⊢
    have hbefore := jobTaken_cas c vs e
    have hkeepsJ := hkeeps.trans (jobTaken_keeps c vs e)
    have hcyclesJ := jobTaken_cycles c vs e
    generalize jobTaken c vs e = f at heq hbefore hkeepsJ hcyclesJ
    have hself : cas { f with fil := { f.fil with cycles := f.fil.cycles + laneCycles (devAt s t) c } } c =
        { cas e c with job := some (startedJob c vs e), ready := false, fresh := 0 } := (hbefore c).trans (if_pos rfl)
    refine runs_eq rfl heq (hkeepsJ.andThen (qs := [.fil]) (keeps_fil_of_taps rfl) (by decide)) (by decide)
      ⟨?_, ?_, ?_, ?_, fun b hb => ?_, ?_⟩
    · rw [hself, hjob]
    · rw [hself]
    · rw [hself]
    · rw [hself, hcas]
      rfl
    · exact ((hbefore b).trans (if_neg hb)).trans (hother b hb)
    · rw [laneCycles_eq, hcyclesJ, hcycles]
      rfl
  case halt =>
    intro s t c p hp hmay hsp hsrc hdest hrun hup
    have heq := (evalStart_halts (d := devAt s t) hp hmay hsp hsrc).trans (casHalt_free (d := devAt s t) hrun hdest)
    obtain ⟨hhalt, hout⟩ := delivered_halting (code := 0x2000 + c) (o := (cas (devAt s t) c).origin) (c := c) (d := devAt s t)
      (e := halting c (devAt s t)) rfl
    refine runs_eq rfl heq ((halting_keeps c _).andThen (deliverSrc_keeps _ _ _) (by decide)) (by decide) ?_
    rw [hhalt, hout]
    refine ⟨rfl, rfl, rfl, rfl, ?_⟩
    rw [Pending, (deliverSrc_keeps _ _ _).ev (by decide)]
    refine raiseI_pending 25 c _ ?_ (by decide)
    rw [(noteLate_keeps c _ _).sys (by decide)]
    exact hup
  case haltLeg =>
    intro s t c n p hp hmay hsp hsrc hdest hrun
    have heq := (evalStart_halts (d := devAt s t) hp hmay hsp hsrc).trans (casHalt_leg (d := devAt s t) hrun hdest)
    obtain ⟨hhalt, hout⟩ := delivered_halting (code := 0x2000 + c) (o := (cas (devAt s t) c).origin) (c := c) (d := devAt s t)
      (e := legOut n true (halting c (devAt s t))) (cas_of_keeps (legOut_keeps _ _ _) (by decide) c)
    refine runs_eq rfl heq ((((halting_keeps c _).mono (by decide)).andThen (legOut_keeps _ _ _) (by decide)).andThen
      (deliverSrc_keeps _ _ _) (by decide)) (by decide) ?_
    rw [hhalt, hout, inSvc_of_legs ((deliverSrc_keeps _ _ _).legs (by decide))]
    exact ⟨rfl, rfl, legOut_out n true _⟩
  case startFailed =>
    intro s t c hmay hgates hwarned hup
    obtain ⟨hunc, hall, -, hst, hcause⟩ := fabricError_trips c (d := devAt s t) hgates hwarned
    exact runs_eq rfl (evalStart_failed (d := devAt s t) hmay) (fabricError_keeps c _) (by decide) ⟨hunc, hall, hst, hcause⟩
  case doneFailed =>
    intro s t c j hc hjob hlo hhi hgates hwarned
    obtain ⟨hunc, hall, -, hst, hcause⟩ := fabricError_trips c (d := devAt s t) hgates hwarned
    have hdone := evalDone_failed (d := devAt s t) hc hjob hlo hhi
    have heq : evalFinish c .failed (devAt s t) = fabricError c (devAt s t) := by
      rw [evalFinish, hdone]
      exact if_neg (fun h => h.2.2 hall)
    exact runs_eq rfl heq (fabricError_keeps c _) (by decide) ⟨hunc, hall, hst, hcause⟩
  case done =>
    intro s t c j p hc hjob hdue
    have hdone := evalDone_good (d := devAt s t) hc hjob hdue
    have hkept := writeOut_kept c j false (devAt s t)
    have hkeeps := writeOut_keeps c j false (devAt s t)
    have hself : cas (outWritten c j false (devAt s t)) c = _ := cas_modCas_self c _ (devAt s t)
    rw [hself] at hkept
    have hrow : ∃ e, evalFinish c p (devAt s t) = e ∧ cas e c = cas (writeOut c j false (devAt s t)) c ∧
        Keeps ([.fil, .gs, .pv] ++ evParts) (devAt s t) e := by
      refine ⟨_, rfl, ?_⟩
      rw [evalFinish, hdone]
      split
      · exact ⟨cas_of_keeps (rowResult_keeps _ _ _) (by decide) c, hkeeps.andThen (rowResult_keeps _ _ _) (by decide)⟩
      · exact ⟨rfl, hkeeps⟩
    obtain ⟨e, heq, hcas, hkeepsE⟩ := hrow
    refine runs_eq rfl heq hkeepsE (by decide) ?_
    rw [hcas, hkept.out, hkept.states, hkept.prev, hkept.halt, hkept.job, hkept.good]
    exact ⟨rfl, rfl, rfl, rfl, rfl, rfl⟩

end Sys2Proof.Safety
end

section
/-!
PROOF. The banks of the Filigree after a swap and their scrub (R87 to R90, R110), and where a trace record that finds no room
in the upper tiers is placed (R104, R296).
-/
namespace Sys2Proof.Safety

open Sys2Proof.Machine

/-! ### The copy after a swap -/

/-- The turn of cascade `c` in the copy of the cascades `m`. -/
def copyTurn (m c : Nat) (d : Dev) : Dev :=
  if bit m c then modCas c (fun x => { x with mirror := true }) (copyCas c d) else d

theorem copyTurn_out {m c : Nat} (h : bit m c = false) (d : Dev) : copyTurn m c d = d := if_neg (ne_true_of_eq_false h)

theorem copyTurn_in {m c : Nat} (h : bit m c = true) (d : Dev) :
    copyTurn m c d = modCas c (fun x => { x with mirror := true }) (copyCas c d) := if_pos h

theorem copyCas_keeps (c : Nat) (d : Dev) : Keeps [.fil] d (copyCas c d) := by
  rw [copyCas_eq]
  exact setOther_keeps _ d

theorem copyTurn_keeps (m c : Nat) (d : Dev) : Keeps [.fil] d (copyTurn m c d) :=
  keeps_ite (fun _ => (copyCas_keeps c d).trans (modCas_keeps c _ _)) (fun _ => Keeps.refl _ d)

theorem activeBank_copyTurn (m c : Nat) (d : Dev) : activeBank (copyTurn m c d) = activeBank d := by
  unfold copyTurn
  split <;> simp [copyCas_eq]

theorem bank_setOther (b : Bank) (d : Dev) : (setOther b d).fil.bank = d.fil.bank := by
  unfold setOther
  split <;> rfl

theorem bank_copyTurn (m c : Nat) (d : Dev) : (copyTurn m c d).fil.bank = d.fil.bank := by
  unfold copyTurn
  split
  · rw [copyCas_eq]
    exact bank_setOther _ d
  · rfl

theorem cas_copyTurn_of_ne {m c j : Nat} (h : j ≠ c) (d : Dev) : cas (copyTurn m c d) j = cas d j := by
  unfold copyTurn
  split <;> simp [copyCas_eq, cas_modCas, h]

theorem cas_copyTurn_out {m j : Nat} (h : bit m j = false) (c : Nat) (d : Dev) : cas (copyTurn m c d) j = cas d j := by
  rcases eq_or_ne j c with rfl | hne
  · rw [copyTurn_out h]
  · exact cas_copyTurn_of_ne hne d

theorem mirror_copyTurn {m c : Nat} (h : bit m c = true) (d : Dev) : (cas (copyTurn m c d) c).mirror = true := by
  rw [copyTurn_in h, cas_modCas_self]

theorem otherBank_copyTurn_in {m c : Nat} (h : bit m c = true) (d : Dev) :
    otherBank (copyTurn m c d) = copyWords (activeBank d) (bankKeys c) (otherBank d) := by
  rw [copyTurn_in h, otherBank_modCas, copyCas_eq, otherBank_setOther]

theorem bankGet_copyTurn_self {m c : Nat} (hc : c < 128) (h : bit m c = true) {k : Nat × Nat} (hk : k ∈ bankKeys c) (d : Dev) :
    bankGet (otherBank (copyTurn m c d)) k.1 k.2 = bankGet (activeBank d) k.1 k.2 := by
  rw [otherBank_copyTurn_in h, bankGet_copyWords _ (fun _ => bankKeys_index_lt hc) (bankKeys_index_lt hc hk), if_pos hk]

theorem bankGet_copyTurn_of_ne {m c j : Nat} (hc : c < 128) (hj : j < 128) (h : j ≠ c) {k : Nat × Nat} (hk : k ∈ bankKeys c)
    (d : Dev) : bankGet (otherBank (copyTurn m j d)) k.1 k.2 = bankGet (otherBank d) k.1 k.2 := by
  cases hm : bit m j with
  | false => rw [copyTurn_out hm]
  | true =>
    rw [otherBank_copyTurn_in hm, bankGet_copyWords _ (fun _ => bankKeys_index_lt hj) (bankKeys_index_lt hc hk),
      if_neg (not_mem_bankKeys_of_ne h.symm hk)]

/-- The banks after the copy of the cascades that had MIRROR = 0 at the swap. -/
def copied (d : Dev) : Dev := forAll 128 (copyTurn d.fil.copySet) d

theorem copied_keeps (d : Dev) : Keeps [.fil] d (copied d) := keeps_forAll 128 _ (copyTurn_keeps _) d

theorem copied_bank (d : Dev) : (copied d).fil.bank = d.fil.bank :=
  forAll_preserves (P := fun e => e.fil.bank = d.fil.bank) (fun c e _ h => (bank_copyTurn _ c e).trans h) rfl

theorem copied_activeBank (d : Dev) : activeBank (copied d) = activeBank d :=
  forAll_preserves (P := fun e => activeBank e = activeBank d) (fun c e _ h => (activeBank_copyTurn _ c e).trans h) rfl

theorem copied_cas {d : Dev} {c : Nat} (h : bit d.fil.copySet c = false) : cas (copied d) c = cas d c :=
  forAll_preserves (P := fun e => cas e c = cas d c) (fun j e _ he => (cas_copyTurn_out h j e).trans he) rfl

theorem copied_mirror {d : Dev} {c : Nat} (hc : c < 128) (h : bit d.fil.copySet c = true) : (cas (copied d) c).mirror = true :=
  forAll_at (P := fun _ => True) (Q := fun e => (cas e c).mirror = true) hc (fun _ _ _ _ he => he)
    (fun e _ => mirror_copyTurn h e) (fun _ e _ hne he => by rwa [cas_copyTurn_of_ne hne.symm e]) trivial

theorem copied_words {d : Dev} {c : Nat} (hc : c < 128) (h : bit d.fil.copySet c = true) {k : Nat × Nat} (hk : k ∈ bankKeys c) :
    bankGet (otherBank (copied d)) k.1 k.2 = bankGet (activeBank d) k.1 k.2 :=
  forAll_at (P := fun e => activeBank e = activeBank d)
    (Q := fun e => bankGet (otherBank e) k.1 k.2 = bankGet (activeBank d) k.1 k.2) hc
    (fun j e _ _ he => (activeBank_copyTurn _ j e).trans he) (fun e he => by rw [bankGet_copyTurn_self hc h hk, he])
    (fun j e hj hne he => by rw [bankGet_copyTurn_of_ne hc hj hne hk, he]) rfl

/-- The fabric at the end of the copy. -/
def copyEnded (d : Dev) : Dev := { d with fil := { d.fil with copying := false, copySet := 0 } }

/-- The fabric and its parameters around the end of the copy. -/
theorem copyEnded_facts (e : Dev) : (copyEnded (setPrm 0x2001 0 0 e)).fil.copying = false ∧
    (copyEnded (setPrm 0x2001 0 0 e)).fil.bank = e.fil.bank ∧ activeBank (copyEnded (setPrm 0x2001 0 0 e)) = activeBank e ∧
    prm (copyEnded (setPrm 0x2001 0 0 e)) 0x2001 0 = 0 ∧ otherBank (copyEnded (setPrm 0x2001 0 0 e)) = otherBank e ∧
    ∀ c, cas (copyEnded (setPrm 0x2001 0 0 e)) c = cas e c :=
  ⟨rfl, rfl, rfl, tget_tput_self (factory 0x2001 0) (pkey 0x2001 0) 0 _, rfl, fun _ => rfl⟩

theorem mirrorDone_eq (d : Dev) : mirrorDone d = copyEnded (setPrm 0x2001 0 0 (copied d)) := rfl

theorem copyDone_eq {m : List Host.Cell} {d : Dev} (hcopy : d.fil.copying = true) (hheld : d.mbx.heldPset = []) :
    copyDone m d = copyEnded (setPrm 0x2001 0 0 (copied d)) := by
  have hkeeps : Keeps [.fil, .prm] d (mirrorDone d) := by
    rw [mirrorDone_eq]
    exact (((copied_keeps d).mono (by decide)).andThen (setPrm_keeps 0x2001 0 0 _) (by decide)).andThen (qs := [.fil])
      (keeps_fil_of_taps rfl) (by decide)
  have hpset : (mirrorDone d).mbx.heldPset = d.mbx.heldPset := by rw [hkeeps.mbxSent (by decide)]
  rw [copyDone, if_pos hcopy, ← mirrorDone_eq]
  generalize mirrorDone d = e at hpset ⊢
  dsimp only
  have hempty : e.mbx.heldPset = [] := hpset.trans hheld
  rw [hempty, List.foldl_nil, ← hempty]

/-- Settles O23: the sweep of the copy, in which each turn writes the words of its own cascade, and the scrub of one word. -/
theorem filigreeBanks : Obligations.FiligreeBanks := by
  unfold Obligations.FiligreeBanks
  refine ⟨?copy, ?mended, ?bad⟩
  case copy =>
    intro s t hcopy hheld
    have heq := copyDone_eq (m := s.hostMem) (d := devAt s t) hcopy hheld
    have hkeeps := copied_keeps (devAt s t)
    have hbank := copied_bank (devAt s t)
    have hactive := copied_activeBank (devAt s t)
    have hmirror := fun c (hc : c < 128) (hset : bit s.dev.fil.copySet c = true) => copied_mirror (d := devAt s t) hc hset
    have hwords := fun c (hc : c < 128) (hset : bit s.dev.fil.copySet c = true) k hk =>
      copied_words (d := devAt s t) (k := k) hc hset hk
    have hcas := fun c (hset : bit s.dev.fil.copySet c = false) => copied_cas (d := devAt s t) hset
    generalize copied (devAt s t) = e at heq hkeeps hbank hactive hmirror hwords hcas
    obtain ⟨hcopying, hbank', hactive', hswap, hother, hcas'⟩ := copyEnded_facts e
    refine runs_eq rfl heq (((hkeeps.mono (by decide)).andThen (setPrm_keeps 0x2001 0 0 _) (by decide)).andThen (qs := [.fil])
      (keeps_fil_of_taps rfl) (by decide)) (by decide) ⟨hcopying, hbank'.trans hbank, hactive'.trans hactive, hswap,
        fun c hc hset => ⟨?_, fun k hk => ?_⟩, fun c _ hset => (hcas' c).trans (hcas c hset)⟩
    · rw [hcas']
      exact hmirror c hc hset
    · rw [hother]
      exact hwords c hc hset k hk
  case mended =>
    intro s t c hc hm
    have heq : bankScrub c false (devAt s t) = copyCas c (devAt s t) := by
      have hm' : (cas (devAt s t) c).mirror = true := hm
      rw [bankScrub, if_neg (Nat.not_le.mpr hc), if_neg Bool.false_ne_true, if_pos hm']
    refine runs_eq rfl heq (copyCas_keeps c _) (by decide) ?_
    rw [copyCas_eq, activeBank_setOther, otherBank_setOther]
    refine ⟨rfl, ?_, fun k hk => ?_⟩
    · unfold setOther
      split <;> rfl
    · rw [bankGet_copyWords _ (fun _ => bankKeys_index_lt hc) (bankKeys_index_lt hc hk), if_pos hk]
      rfl
  case bad =>
    intro s t c hc hm
    have heq : bankScrub c false (devAt s t) = modCas c (fun x => { x with stageBad := true }) (devAt s t) := by
      have hm' : (cas (devAt s t) c).mirror = false := hm
      rw [bankScrub, if_neg (Nat.not_le.mpr hc), if_neg Bool.false_ne_true, if_neg (ne_true_of_eq_false hm')]
    exact runs_eq rfl heq (modCas_keeps c _ _) (by decide) ⟨rfl, rfl, cas_modCas_self _ _ _, fun b hb =>
      (cas_modCas c b _ _).trans (if_neg hb)⟩

/-! ### The place of a trace record -/

/-- A tier of no size has room for nothing. -/
theorem fit_of_tierSize {d : Dev} {t n : Nat} (hsize : tierSize d t = 0) (hn : 0 < n) : fit d t n = none := by
  have hnone : ∀ rs : List Rec, (tierBase d t :: rs.map (fun r => r.addr + r.len)).filter (fun a =>
      decide (tierBase d t ≤ a ∧ a + n ≤ tierBase d t + tierSize d t) &&
        rs.all (fun r => decide (r.addr + r.len ≤ a ∨ a + n ≤ r.addr))) = [] := by
    intro rs
    rw [List.filter_eq_nil_iff]
    intro a _
    have hout : ¬ (tierBase d t ≤ a ∧ a + n ≤ tierBase d t + tierSize d t) := by omega
    simp [hout]
  rw [fit, hnone]
  rfl

theorem tierSize_two {d : Dev} (h : prm d 0x8030 2 = 0) : tierSize d 2 = 0 := by
  rw [tierSize, if_neg (by decide), h, Nat.zero_mul]

theorem modRecs_keeps (p : Rec → Bool) (f : Rec → Rec) (d : Dev) : Keeps [.cask] d (modRecs p f d) :=
  ⟨fun q hq => by cases q <;> first | rfl | exact absurd (by decide) hq⟩

/-- The rule of a place in tier 0 for a search `F` of a free place. The kernel cannot compare searches of free places, whose
tier sizes are products with 2²⁸, so that the rules of places are stated over the search and tied to it by name. -/
def looseBy (F : Dev → Nat → Nat → Option Nat) (fuel n : Nat) (d : Dev) : Nat × Dev :=
  match F d 0 n with
  | some a => (a, d)
  | none =>
    match fuel, oldest d 0 with
    | fuel + 1, some r => looseBy F fuel n (modRecs (fun x => x.id = r.id) (fun x => { x with life := 3 }) d)
    | _, _ => (tierBase d 0, d)

theorem placeLoose_body : @placeLoose._f = @looseBy._f fit := by
  delta placeLoose._f looseBy._f
  generalize fit = F
  funext n fuel f d
  cases F d 0 n with
  | some a => rfl
  | none =>
    cases fuel with
    | zero => rfl
    | succ fuel =>
      cases oldest d 0 with
      | none => rfl
      | some r => rfl

theorem placeLoose_eq : placeLoose = looseBy fit := by
  delta placeLoose looseBy
  rw [placeLoose_body]

/-- The rule of a move to tier 0, for a rule `L` of a place there. -/
def moveBy (L : Nat → Nat → Dev → Nat × Dev) (id life : Nat) (d : Dev) : Dev :=
  match d.cask.recs.find? (fun r => r.id = id) with
  | none => d
  | some r =>
    let (a, d1) := L (d.cask.recs.length + 1) r.len d
    modRecs (fun x => x.id = id) (fun x => { x with tier := 0, life := life, addr := a }) d1

theorem moveLoose_eq : moveLoose = moveBy placeLoose := by
  delta moveLoose moveBy
  generalize placeLoose = L
  rfl

/-- The rule of a place in tier 1, for a search `F` of a free place, a move `M` to tier 0 and a place `L` there. -/
def heldBy (F : Dev → Nat → Nat → Option Nat) (M : Nat → Nat → Dev → Dev) (L : Nat → Nat → Dev → Nat × Dev) (fuel n : Nat)
    (d : Dev) : Nat × Nat × Dev :=
  match F d 1 n with
  | some a => (1, a, d)
  | none =>
    match fuel, oldest d 1 with
    | fuel + 1, some r => heldBy F M L fuel n (raiseI 73 1 (M r.id 2 d))
    | _, _ => let (a, d1) := L (d.cask.recs.length + 1) n d; (0, a, d1)

theorem placeHeld_body : @placeHeld._f = @heldBy._f fit moveLoose placeLoose := by
  delta placeHeld._f heldBy._f
  generalize fit = F
  generalize moveLoose = M
  generalize placeLoose = L
  funext n fuel f d
  cases F d 1 n with
  | some a => rfl
  | none =>
    cases fuel with
    | zero => rfl
    | succ fuel =>
      cases oldest d 1 with
      | none => rfl
      | some r => rfl

theorem placeHeld_eq : placeHeld = heldBy fit moveLoose placeLoose := by
  delta placeHeld heldBy
  rw [placeHeld_body]

/-- The rule of a place in any tier, for a search `F` and places `L` in tier 0 and `H` in tier 1. -/
def placeBy (F : Dev → Nat → Nat → Option Nat) (L : Nat → Nat → Dev → Nat × Dev) (H : Nat → Nat → Dev → Nat × Nat × Dev)
    (t n : Nat) (d : Dev) : Nat × Nat × Bool × Dev :=
  let fuel := d.cask.recs.length + 1
  if t = 0 then let (a, d1) := L fuel n d; (0, a, false, d1)
  else if t = 1 then let (k, a, d1) := H fuel n d; (k, a, false, d1)
  else
    match F d 2 n with
    | some a => (2, a, false, d)
    | none =>
      let (k, a, d2) := H fuel n (raiseI 73 2 { d with setr := { d.setr with tierOvf := true } })
      (k, a, true, d2)

theorem place_eq : place = placeBy fit placeLoose placeHeld := by
  delta place placeBy
  generalize fit = F
  generalize placeHeld = H
  generalize placeLoose = L
  funext t n d
  by_cases h0 : t = 0
  · subst h0
    rfl
  · by_cases h1 : t = 1
    · subst h1
      rfl
    · refine (if_neg h0).trans ((if_neg h1).trans (Eq.symm ((if_neg h0).trans ((if_neg h1).trans ?_))))
      cases F d 2 n with
      | some a => rfl
      | none => rfl

/-- What the search for a place does: records move to tier 0 or lose their bytes, and none comes or goes. -/
structure Placed (ps : List Part) (d e : Dev) : Prop where
  keeps : Keeps ps d e
  ids : e.cask.recs.map (fun r => r.id) = d.cask.recs.map (fun r => r.id)
  nextId : e.cask.nextId = d.cask.nextId

theorem Placed.refl (ps : List Part) (d : Dev) : Placed ps d d := ⟨Keeps.refl ps d, rfl, rfl⟩

theorem Placed.trans {ps : List Part} {d e f : Dev} (h : Placed ps d e) (k : Placed ps e f) : Placed ps d f :=
  ⟨h.keeps.trans k.keeps, k.ids.trans h.ids, k.nextId.trans h.nextId⟩

theorem Placed.mono {ps qs : List Part} {d e : Dev} (h : Placed ps d e) (hs : ∀ p ∈ ps, p ∈ qs) : Placed qs d e :=
  ⟨h.keeps.mono hs, h.ids, h.nextId⟩

theorem modRecs_placed (p : Rec → Bool) (f : Rec → Rec) (d : Dev) (hf : ∀ r, (f r).id = r.id) :
    Placed [.cask] d (modRecs p f d) := by
  refine ⟨modRecs_keeps p f d, ?_, rfl⟩
  show ((d.cask.recs.map _).map _) = _
  rw [List.map_map]
  refine List.map_congr_left (fun r _ => ?_)
  show (if p r then f r else r).id = r.id
  split
  · exact hf r
  · rfl

theorem looseBy_placed (F : Dev → Nat → Nat → Option Nat) (fuel n : Nat) (d : Dev) : Placed [.cask] d (looseBy F fuel n d).2 := by
  induction fuel generalizing d with
  | zero =>
    unfold looseBy
    split <;> exact .refl _ d
  | succ fuel ih =>
    unfold looseBy
    split
    · exact .refl _ d
    · split
      · rename_i hfuel _
        cases hfuel
        refine (modRecs_placed _ _ d ?_).trans (ih _)
        exact fun _ => rfl
      · exact .refl _ d

theorem placeLoose_placed (fuel n : Nat) (d : Dev) : Placed [.cask] d (placeLoose fuel n d).2 := by
  rw [placeLoose_eq]
  exact looseBy_placed fit fuel n d

theorem moveBy_placed {L : Nat → Nat → Dev → Nat × Dev} (hL : ∀ fuel n d, Placed [.cask] d (L fuel n d).2) (id life : Nat)
    (d : Dev) : Placed [.cask] d (moveBy L id life d) := by
  unfold moveBy
  split
  · exact .refl _ d
  · refine (hL _ _ d).trans (modRecs_placed _ _ _ ?_)
    exact fun _ => rfl

theorem moveLoose_placed (id life : Nat) (d : Dev) : Placed [.cask] d (moveLoose id life d) := by
  rw [moveLoose_eq]
  exact moveBy_placed placeLoose_placed id life d

theorem raiseI_placed (e i : Nat) (d : Dev) : Placed (.cask :: evParts) d (raiseI e i d) := by
  have hcask := (raiseI_keeps e i d).caskLost (by decide)
  refine ⟨(raiseI_keeps e i d).mono (by decide), ?_, ?_⟩ <;> rw [hcask]

theorem heldBy_placed (F : Dev → Nat → Nat → Option Nat) {M : Nat → Nat → Dev → Dev} {L : Nat → Nat → Dev → Nat × Dev}
    (hM : ∀ i l d, Placed [.cask] d (M i l d)) (hL : ∀ fuel n d, Placed [.cask] d (L fuel n d).2) (fuel n : Nat) (d : Dev) :
    Placed (.cask :: evParts) d (heldBy F M L fuel n d).2.2 := by
  induction fuel generalizing d with
  | zero =>
    unfold heldBy
    split
    · exact .refl _ d
    · exact (hL _ _ d).mono (by decide)
  | succ fuel ih =>
    unfold heldBy
    split
    · exact .refl _ d
    · split
      · rename_i hfuel _
        cases hfuel
        exact (((hM _ _ d).mono (by decide)).trans (raiseI_placed _ _ _)).trans (ih _)
      · exact (hL _ _ d).mono (by decide)

theorem placeHeld_placed (fuel n : Nat) (d : Dev) : Placed (.cask :: evParts) d (placeHeld fuel n d).2.2 := by
  rw [placeHeld_eq]
  exact heldBy_placed fit moveLoose_placed placeLoose_placed fuel n d

/-- A record for tier 2 that finds no room there marks the overflow of the tier (R296). -/
theorem placeBy_overflow {F : Dev → Nat → Nat → Option Nat} {L : Nat → Nat → Dev → Nat × Dev}
    {H : Nat → Nat → Dev → Nat × Nat × Dev} (hH : ∀ fuel n d, Placed (.cask :: evParts) d (H fuel n d).2.2) {d : Dev} {n : Nat}
    (h : F d 2 n = none) : (placeBy F L H 2 n d).2.2.2.setr.tierOvf = true := by
  unfold placeBy
  rw [if_neg (by decide), if_neg (by decide), h]
  dsimp only
  rw [(hH _ _ _).keeps.setr (by decide), raiseI_setr]

theorem place_overflow {d : Dev} {n : Nat} (h : fit d 2 n = none) : (place 2 n d).2.2.2.setr.tierOvf = true := by
  rw [place_eq]
  exact placeBy_overflow placeHeld_placed h

theorem placeBy_placed (F : Dev → Nat → Nat → Option Nat) {L : Nat → Nat → Dev → Nat × Dev}
    {H : Nat → Nat → Dev → Nat × Nat × Dev} (hL : ∀ fuel n d, Placed [.cask] d (L fuel n d).2)
    (hH : ∀ fuel n d, Placed (.cask :: evParts) d (H fuel n d).2.2) (t n : Nat) (d : Dev) :
    Placed (.cask :: .setr :: evParts) d (placeBy F L H t n d).2.2.2 := by
  unfold placeBy
  split
  · exact (hL _ _ d).mono (by decide)
  · split
    · exact (hH _ _ d).mono (by decide)
    · split
      · exact .refl _ d
      · refine Placed.trans ?_ ((hH _ _ _).mono (by decide))
        refine Placed.trans (e := { d with setr := { d.setr with tierOvf := true } }) ⟨?_, rfl, rfl⟩
          ((raiseI_placed _ _ _).mono (by decide))
        exact (keeps_setr _ d).mono (by decide)

theorem place_placed (t n : Nat) (d : Dev) : Placed (.cask :: .setr :: evParts) d (place t n d).2.2.2 := by
  rw [place_eq]
  exact placeBy_placed fit placeLoose_placed placeHeld_placed t n d

/-- The record of draft `x`, filed at tick `at_` under number `id` in tier `k` at address `a`. -/
def recOf (x : Draft) (at_ id k a : Nat) (ovf : Bool) : Rec :=
  let n := 512 + 4 * x.nch * x.rows.length
  let fl := x.flags + 16 * b01 ovf
  let h0 := header x id fl 0
  let h := header x id fl (crc32 (h0 ++ rowBytes x.rows))
  let ns := x.trg * 5 / 2
  ⟨id, x.cls, k, 0, fl, a, n, ns / 1000000000, ns % 1000000000, x.groupSeq, x.unit, x.kind, at_, h, x.rows⟩

/-- The index with record `r` at its end. -/
def addRec (r : Rec) (d : Dev) : Dev :=
  { d with cask := { d.cask with
      recs := (d.cask.recs ++ [r]).drop (d.cask.recs.length + 1 - 2097152), nextId := (d.cask.nextId + 1) % 2 ^ 32 } }

theorem addRec_keeps (r : Rec) (d : Dev) : Keeps [.cask, .arcLost] d (addRec r d) := keeps_cask _ d

/-- The device as a place for the bytes of draft `x` has been found. -/
def roomMade (x : Draft) (t : Nat) (d : Dev) : Dev := (place t (512 + 4 * x.nch * x.rows.length) d).2.2.2

theorem roomMade_placed (x : Draft) (t : Nat) (d : Dev) : Placed (.cask :: .setr :: evParts) d (roomMade x t d) :=
  place_placed t _ d

theorem fileRec_match : fileRec = fun x t d => match place t (512 + 4 * x.nch * x.rows.length) d with
    | (k, a, ovf, e) => addRec (recOf x d.t e.cask.nextId k a ovf) e := by
  delta fileRec addRec recOf
  generalize place = P
  rfl

/-- A record is filed under the next number in the place that was found for it. -/
theorem fileRec_eq (x : Draft) (t : Nat) (d : Dev) :
    ∃ k a ovf, fileRec x t d = addRec (recOf x d.t d.cask.nextId k a ovf) (roomMade x t d) := by
  rw [← (roomMade_placed x t d).nextId, roomMade, fileRec_match]
  dsimp only
  generalize place t (512 + 4 * x.nch * x.rows.length) d = p
  obtain ⟨k, a, ovf, e⟩ := p
  exact ⟨k, a, ovf, rfl⟩

theorem fileRec_keeps (x : Draft) (t : Nat) (d : Dev) : Keeps (.cask :: .setr :: evParts) d (fileRec x t d) := by
  obtain ⟨k, a, ovf, heq⟩ := fileRec_eq x t d
  rw [heq]
  exact (roomMade_placed x t d).keeps.andThen (addRec_keeps _ _) (by decide)

/-- A record that tier 2 has no size for marks the overflow of the tier. -/
theorem fileRec_overflow (x : Draft) {d : Dev} (hsize : tierSize d 2 = 0) : (fileRec x 2 d).setr.tierOvf = true := by
  obtain ⟨k, a, ovf, heq⟩ := fileRec_eq x 2 d
  rw [heq, (addRec_keeps _ _).setr (by decide)]
  exact place_overflow (fit_of_tierSize hsize (by omega))

theorem tracePost_dumped {k : Nat} {d : Dev} (hk : k < 16) (hpost : (tap d k).post = some 0) (hrun : (tap d k).stopped = false)
    (hdump : prm d 0x2309 k = 1) (hup : d.cask.up = true) : tracePost k d =
      raiseI 29 k { fileRec (traceDraft (modTap k (fun x => { x with stopped := true }) d) k) (prm d 0x8031 0)
        (modTap k (fun x => { x with stopped := true }) d) with free := d.free + 1 } := by
  rw [tracePost, if_pos ⟨hk, hpost, ne_true_of_eq_false hrun⟩]
  exact if_pos ⟨hdump, hup⟩

/-- The trace record of a full tap goes to tier 2, which has no size. -/
theorem tracePost_overflow {k : Nat} {d : Dev} (hk : k < 16) (hpost : (tap d k).post = some 0)
    (hrun : (tap d k).stopped = false) (hdump : prm d 0x2309 k = 1) (hup : d.cask.up = true) (htier : prm d 0x8031 0 = 2)
    (hempty : prm d 0x8030 2 = 0) : (tracePost k d).setr.tierOvf = true := by
  rw [tracePost_dumped hk hpost hrun hdump hup, raiseI_setr, htier]
  dsimp only
  exact fileRec_overflow _ (tierSize_two hempty)

/-- A device from READY on whose trace records go to tier 2, which has no room, with tap 0 full and its dump on. -/
def traceTierFull : State :=
  { State.reset with dev := { State.reset.dev with
      sys := { State.reset.dev.sys with up := true }
      cask := { State.reset.dev.cask with up := true }
      prm := { State.reset.dev.prm with active := [(pkey 0x2309 0, 1), (pkey 0x8031 0, 2), (pkey 0x8030 2, 0)] }
      fil := { State.reset.dev.fil with taps := [(0, { post := some 0 })] } } }

/-- Refutes O24: the trace record of tap 0 goes to tier 2, which has no size, so that the Setter's overflow flag is set
(R296), a part that the statement's frame of a dumped trace leaves out. -/
theorem not_setpointsAndTaps : ¬ Obligations.SetpointsAndTaps := by
  unfold Obligations.SetpointsAndTaps
  rintro ⟨-, -, -, -, -, hdump⟩
  obtain ⟨s', hexec, -, ⟨-, -, hkeeps⟩, -⟩ := hdump traceTierFull 0 0 (by decide) (by decide) (by decide) (by decide)
    (by decide) (by decide)
  have hnext : s'.dev = tracePost 0 (devAt traceTierFull 0) := by
    have h : exec (.tracePostComplete 0 0) traceTierFull =
        .next { traceTierFull with dev := tracePost 0 (devAt traceTierFull 0) } := rfl
    rw [h] at hexec
    injection hexec with hs
    rw [← hs]
  have hsame : s'.dev.setr.tierOvf = false := by
    rw [hkeeps.setr (by decide)]
    rfl
  rw [hnext, tracePost_overflow (by decide) (by decide) (by decide) (by decide) (by decide) (by decide) (by decide)] at hsame
  exact Bool.noConfusion hsame

end Sys2Proof.Safety
end

section
/-!
PROOF. Parity errors of the Filigree, their replay and the full check (R105 to R109): what a transition leaves of grid
synthesis, what the work of a replay leaves of its own record, and the hold of the legs.
-/
namespace Sys2Proof.Safety

open Sys2Proof.Machine

theorem Keeps.filAll {ps : List Part} {d e : Dev} (h : Keeps ps d e) (hp : Part.fil ∉ ps) (hq : Part.taps ∉ ps) :
    e.fil = d.fil := by
  have htaps : d.fil.taps = e.fil.taps := h.same .taps hq
  rw [h.filTaps hp, ← htaps]

/-! ### What a transition leaves of grid synthesis -/

/-- Grid synthesis without the power commands and the marks of a FORM, which a transition ends. -/
def gsCore (g : Gs) : Gs :=
  { g with forming := false, okSince := none, pR := 0, qCmd := 0, pCmd := 0, landP := 0, landQ := 0, gd := 0, gq := 0,
           slim := false, ramping := false }

theorem gsCore_of_keeps {ps : List Part} {d e : Dev} (h : Keeps ps d e) (hp : Part.gs ∉ ps) : gsCore e.gs = gsCore d.gs := by
  rw [h.gs hp]

theorem probeState_gsCore (target : OpState) (d : Dev) : gsCore (probeState target d).gs = gsCore d.gs := by
  unfold probeState
  split
  · rfl
  · unfold charmStop
    dsimp only
    split
    · rfl
    · rfl

theorem leaveState_gsCore (d : Dev) : gsCore (leaveState d).gs = gsCore d.gs := by
  unfold leaveState
  split
  · dsimp only
    rw [(keeps_forAll 48 _ (fun n e => modLeg_keeps n _ e) d).gs (by decide)]
  · rfl
  · rfl
  · rfl

theorem enterState_gsCore (target : OpState) (d : Dev) : gsCore (enterState target d).gs = gsCore d.gs := by
  unfold enterState
  split
  · rfl
  · rfl
  · rfl
  · rfl
  · rfl
  · rw [(sweepAbort_keeps d).gs (by decide)]
  · rw [(sweepAbort_keeps d).gs (by decide)]
  · rfl
  · rw [(sweepAbort_keeps _).gs (by decide)]
    have hunits : ∀ e : Dev, gsCore (zeroPower e).gs = gsCore e.gs := fun _ => rfl
    rw [hunits, (keeps_forAll 4 _ (fun u e => modUnit_keeps u _ e) _).gs (by decide)]
  · rfl

theorem transition_gsCore (target : OpState) (c : Nat) (d : Dev) : gsCore (transition target c d).gs = gsCore d.gs := by
  unfold transition
  split
  · rfl
  · rw [(calAbort_keeps _ _).gs (by decide), enterState_gsCore, raise_gs]
    exact (leaveState_gsCore _).trans (probeState_gsCore target d)

theorem tripEntered_gsCore (c : Nat) (d : Dev) : gsCore (tripEntered c d).gs = gsCore d.gs := by
  rw [tripEntered]
  dsimp only
  rw [transition_gsCore, gsCore_of_keeps (tripHeld_keeps c d) (by decide)]

/-- What an entry into TRIP comes to: a transition, a noted cause, or nothing but the mark of a fault. -/
theorem enterTrip_cases (c : Nat) (d : Dev) : (∃ x, enterTrip c d = { tripMark c d with sys := x }) ∨
    (∃ g, enterTrip c d = gdDemand g (tripEntered c d)) ∨ enterTrip c d = tripEntered c d ∨ enterTrip c d = tripMark c d := by
  unfold enterTrip
  rw [← tripMark]
  dsimp only
  split
  · exact .inl ⟨_, rfl⟩
  · split
    · refine .inr ?_
      have hentered : ∀ e, e = tripEntered c d → (∃ g, (if bit (gdPrm e 0xE101) (c - 0x20) = true ∨ (0x22 ≤ c ∧ c ≤ 0x25) then
          gdDemand (0x22 ≤ c && c ≤ 0x24) e else e) = gdDemand g (tripEntered c d)) ∨
          (if bit (gdPrm e 0xE101) (c - 0x20) = true ∨ (0x22 ≤ c ∧ c ≤ 0x25) then
            gdDemand (0x22 ≤ c && c ≤ 0x24) e else e) = tripEntered c d ∨
          (if bit (gdPrm e 0xE101) (c - 0x20) = true ∨ (0x22 ≤ c ∧ c ≤ 0x25) then
            gdDemand (0x22 ≤ c && c ≤ 0x24) e else e) = tripMark c d := by
        rintro e rfl
        split
        · exact .inl ⟨_, rfl⟩
        · exact .inr (.inl rfl)
      refine hentered _ ?_
      unfold tripEntered tripHeld
      with_reducible rfl
    · exact .inr (.inr (.inr rfl))

theorem enterTrip_gsCore (c : Nat) (d : Dev) : gsCore (enterTrip c d).gs = gsCore d.gs := by
  have hmark := gsCore_of_keeps (tripMark_keeps c d) (by decide)
  have hentered := tripEntered_gsCore c d
  have hdemand := fun g => gsCore_of_keeps (gdDemand_keeps g (tripEntered c d)) (by decide)
  have hcases := enterTrip_cases c d
  generalize enterTrip c d = e at hcases ⊢
  generalize tripMark c d = m at hmark hcases
  generalize tripEntered c d = f at hentered hdemand hcases
  rcases hcases with ⟨x, rfl⟩ | ⟨g, rfl⟩ | rfl | rfl
  · exact hmark
  · exact (hdemand g).trans hentered
  · exact hentered
  · exact hmark

theorem checkAc_gsCore (d : Dev) : gsCore (checkAc d).gs = gsCore d.gs := by
  unfold checkAc
  split
  · exact enterTrip_gsCore _ d
  · rfl

theorem legOut_gsCore (n : Nat) (back : Bool) (d : Dev) : gsCore (legOut n back d).gs = gsCore d.gs := by
  unfold legOut
  split
  · dsimp only
    have hdown : ∀ up e, e.gs = d.gs → gsCore (bridgeDown n up (sweepLegLost n e)).gs = gsCore d.gs := by
      intro up e he
      rw [(bridgeDown_keeps n up _).gs (by decide), (sweepLegLost_keeps n e).gs (by decide), he]
    split
    · rw [checkAc_gsCore]
      exact hdown _ _ rfl
    · exact hdown _ _ rfl
  · rfl

/-! ### What the work of a replay leaves of its own record -/

/-- The record of a replay and the mark of a deferred synthesis write. -/
structure RplKept (d e : Dev) : Prop where
  replay : e.fil.replay = d.fil.replay
  rplHold : e.fil.rplHold = d.fil.rplHold
  stateErr : e.fil.stateErr = d.fil.stateErr
  rplJobs : e.fil.rplJobs = d.fil.rplJobs
  deferred : e.gs.deferred = d.gs.deferred

theorem RplKept.refl (d : Dev) : RplKept d d := ⟨rfl, rfl, rfl, rfl, rfl⟩

theorem RplKept.trans {d e f : Dev} (h : RplKept d e) (k : RplKept e f) : RplKept d f :=
  ⟨k.replay.trans h.replay, k.rplHold.trans h.rplHold, k.stateErr.trans h.stateErr, k.rplJobs.trans h.rplJobs,
    k.deferred.trans h.deferred⟩

theorem rplKept_of_core {ps : List Part} {d e : Dev} (h : Keeps ps d e) (hp : Part.fil ∉ ps)
    (hgs : gsCore e.gs = gsCore d.gs) : RplKept d e := by
  have hfil := h.filTaps hp
  have hdef : (gsCore e.gs).deferred = (gsCore d.gs).deferred := congrArg Gs.deferred hgs
  refine ⟨?_, ?_, ?_, ?_, hdef⟩ <;> rw [hfil]

theorem rplKept_of_keeps {ps : List Part} {d e : Dev} (h : Keeps ps d e) (hp : Part.fil ∉ ps) (hg : Part.gs ∉ ps) :
    RplKept d e := rplKept_of_core h hp (gsCore_of_keeps h hg)

theorem modCas_rpl (c : Nat) (f : Cas → Cas) (d : Dev) : RplKept d (modCas c f d) := ⟨rfl, rfl, rfl, rfl, rfl⟩

theorem rplKept_ite {c : Prop} [Decidable c] {d e f : Dev} (h : RplKept d e) (k : RplKept d f) :
    RplKept d (if c then e else f) := by
  split
  · exact h
  · exact k

theorem raiseI_rpl (e i : Nat) (d : Dev) : RplKept d (raiseI e i d) :=
  rplKept_of_keeps (raiseI_keeps e i d) (by decide) (by decide)

theorem freshen_rpl (code o c : Nat) (d : Dev) : RplKept d (freshen code o c d) := by
  unfold freshen
  refine rplKept_ite ?_ (.refl d)
  dsimp only
  exact rplKept_ite (.refl d) (rplKept_ite (modCas_rpl c _ d) (modCas_rpl c _ d))

theorem deliverSrc_rpl (code o : Nat) (d : Dev) : RplKept d (deliverSrc code o d) :=
  forAll_preserves (n := 128) (P := RplKept d) (f := freshen code o) (fun c e _ h => h.trans (freshen_rpl code o c e)) (.refl d)

theorem noteLate_rpl (c : Nat) (l : Bool) (d : Dev) : RplKept d (noteLate c l d) :=
  rplKept_ite (rplKept_ite (modCas_rpl c _ d) ((modCas_rpl c _ d).trans (raiseI_rpl _ _ _))) (.refl d)

theorem noteOvf_rpl (c : Nat) (j : EvalJob) (d : Dev) : RplKept d (noteOvf c j d) :=
  rplKept_ite (rplKept_ite (modCas_rpl c _ d) ((modCas_rpl c _ d).trans (raiseI_rpl _ _ _))) (.refl d)

theorem noteRate_rpl (c e1 : Nat) (d : Dev) : RplKept d (noteRate c e1 d) :=
  rplKept_ite (RplKept.trans (e := { d with fil := { d.fil with rateEp := e1 } }) ⟨rfl, rfl, rfl, rfl, rfl⟩ (raiseI_rpl _ _ _))
    (.refl d)

theorem evalEvents_rpl (c : Nat) (j : EvalJob) (l : Bool) (d : Dev) : RplKept d (evalEvents c j l d) := by
  rw [evalEvents_eq]
  exact (((noteOvf_rpl c j d).trans (noteLate_rpl c l _)).trans (modCas_rpl c _ _)).trans (noteRate_rpl c _ _)

theorem noteMargin_rpl (c o : Nat) (d : Dev) : RplKept d (noteMargin c o d) := by
  unfold noteMargin
  split
  · exact rplKept_ite ⟨rfl, rfl, rfl, rfl, rfl⟩ (.refl d)
  · exact .refl d

theorem writeOut_rpl (c : Nat) (j : EvalJob) (rpl : Bool) (d : Dev) : RplKept d (writeOut c j rpl d) := by
  rw [writeOut_eq]
  have hout : RplKept d (outWritten c j rpl d) := modCas_rpl c _ d
  refine RplKept.trans (hout.trans ?_) (deliverSrc_rpl _ _ _)
  refine RplKept.trans ?_ (rplKept_of_keeps (tapsFeed_keeps _ _ _ _) (by decide) (by decide))
  refine RplKept.trans ?_ (noteMargin_rpl _ _ _)
  exact (rplKept_of_keeps (pvSat_keeps c j _) (by decide) (by decide)).trans (evalEvents_rpl _ _ _ _)

/-- The events of a halt: EV_FILHALT, where the cascade was not halted before. -/
def haltRaised (c : Nat) (d : Dev) : Dev :=
  let e := noteLate c (lateOut d c (min 65535 (d.t - (cas d c).origin))) (halted c d)
  if (cas d c).halt then e else raiseI 25 c e

/-- The leg that cascade `c` drives in `d` trips as the cascade halts in `e` (R75). -/
def haltLeg (c : Nat) (d e : Dev) : Dev := match destLeg d c with
  | some n => if (cas d c).halt then e else legOut n true e
  | none => e

theorem casHalt_eq (c : Nat) (d : Dev) :
    casHalt c d = deliverSrc (0x2000 + c) (cas d c).origin (haltLeg c d (haltRaised c d)) := rfl

theorem haltRaised_rpl (c : Nat) (d : Dev) : RplKept d (haltRaised c d) := by
  have hlate := (modCas_rpl c (fun y => { y with
    halt := true, ready := false, fresh := 0, job := none, haltRaised := true, out := haltOut c d, sat := false,
    delayMax := max y.delayMax (min 65535 (d.t - (cas d c).origin)), hist := (haltOut c d :: y.hist).take 16 }) d).trans
    (noteLate_rpl c (lateOut d c (min 65535 (d.t - (cas d c).origin))) _)
  exact rplKept_ite hlate (hlate.trans (raiseI_rpl _ _ _))

theorem haltRaised_keeps (c : Nat) (d : Dev) : Keeps (.fil :: evParts) d (haltRaised c d) :=
  keeps_ite (fun _ => ((modCas_keeps c _ d).mono (by decide)).trans (noteLate_keeps _ _ _))
    (fun _ => (((modCas_keeps c _ d).mono (by decide)).trans (noteLate_keeps _ _ _)).andThen (raiseI_keeps _ _ _) (by decide))

theorem legOut_rpl (n : Nat) (back : Bool) (d : Dev) : RplKept d (legOut n back d) :=
  rplKept_of_core (legOut_keeps n back d) (by decide) (legOut_gsCore n back d)

theorem haltLeg_rpl (c : Nat) (d e : Dev) : RplKept e (haltLeg c d e) := by
  unfold haltLeg
  split
  · exact rplKept_ite (.refl e) (legOut_rpl _ _ e)
  · exact .refl e

theorem haltLeg_keeps (c : Nat) (d e : Dev) : Keeps tripParts e (haltLeg c d e) := by
  unfold haltLeg
  split
  · exact keeps_ite (fun _ => Keeps.refl _ e) (fun _ => legOut_keeps _ _ e)
  · exact Keeps.refl _ e

theorem casHalt_rpl (c : Nat) (d : Dev) : RplKept d (casHalt c d) := by
  rw [casHalt_eq]
  exact ((haltRaised_rpl c d).trans (haltLeg_rpl c d _)).trans (deliverSrc_rpl _ _ _)

theorem casHalt_keeps (c : Nat) (d : Dev) : Keeps (.fil :: tripParts) d (casHalt c d) := by
  rw [casHalt_eq]
  exact (((haltRaised_keeps c d).mono (by decide)).andThen (haltLeg_keeps c d _) (by decide)).andThen (deliverSrc_keeps _ _ _)
    (by decide)

/-! ### The re-evaluation of a chain -/

/-- The lane cycles of an evaluation of `c` taken into account. -/
def cyclesTaken (c : Nat) (d : Dev) : Dev := { d with fil := { d.fil with cycles := d.fil.cycles + laneCycles d c } }

theorem rplEvalOne_rpl (ch org c : Nat) (d : Dev) : RplKept d (rplEvalOne ch org c d) := by
  unfold rplEvalOne
  exact rplKept_ite (RplKept.trans (e := cyclesTaken c d) ⟨rfl, rfl, rfl, rfl, rfl⟩ (writeOut_rpl _ _ _ _))
    ((modCas_rpl c _ d).trans (casHalt_rpl _ _))

theorem rplEvalOne_keeps (ch org c : Nat) (d : Dev) : Keeps (.fil :: tripParts) d (rplEvalOne ch org c d) := by
  unfold rplEvalOne
  have hfil : Keeps [.fil] d (cyclesTaken c d) := keeps_fil_of_taps rfl
  have hcycles : Keeps (.fil :: tripParts) d (cyclesTaken c d) := hfil.mono (by decide)
  exact keeps_ite (fun _ => hcycles.andThen (writeOut_keeps _ _ _ _) (by decide))
    (fun _ => ((modCas_keeps c _ d).mono (by decide)).trans (casHalt_keeps _ _))

/-- Work on a chain: it leaves the record of the replay, and touches what a halt may touch. -/
structure ChainWork (d e : Dev) : Prop where
  kept : RplKept d e
  keeps : Keeps (.fil :: tripParts) d e

theorem ChainWork.refl (d : Dev) : ChainWork d d := ⟨.refl d, Keeps.refl _ d⟩

theorem ChainWork.trans {d e f : Dev} (h : ChainWork d e) (k : ChainWork e f) : ChainWork d f :=
  ⟨h.kept.trans k.kept, h.keeps.trans k.keeps⟩

theorem modCas_work (c : Nat) (f : Cas → Cas) (d : Dev) : ChainWork d (modCas c f d) :=
  ⟨modCas_rpl c f d, (modCas_keeps c f d).mono (by decide)⟩

theorem foldl_work {α : Type} {g : Dev → α → Dev} (hg : ∀ e a, ChainWork e (g e a)) (l : List α) (d : Dev) :
    ChainWork d (l.foldl g d) := by
  induction l generalizing d with
  | nil => exact .refl d
  | cons a l ih => exact (hg d a).trans (ih _)

theorem replayEval_work (fuel ch org lost : Nat) (todo : List Nat) (d : Dev) :
    ChainWork d (replayEval fuel ch org lost todo d) := by
  induction fuel generalizing todo d with
  | zero => exact .refl d
  | succ fuel ih =>
    unfold replayEval
    split
    · exact .refl d
    · refine ChainWork.trans ?_ (ih _ _)
      split
      · exact .refl d
      · exact ⟨rplEvalOne_rpl _ _ _ _, rplEvalOne_keeps _ _ _ _⟩

theorem requeue_work (old : Dev) (ch : Nat) (d : Dev) : ChainWork d (requeue old ch d) :=
  foldl_work (fun e c => modCas_work c _ e) _ d

/-! ### The hold of the legs -/

/-- The hold of leg `n` by a replay is the same. -/
def HoldKept (n : Nat) (d e : Dev) : Prop := (leg e n).replayHold = (leg d n).replayHold

theorem HoldKept.trans {n : Nat} {d e f : Dev} (h : HoldKept n d e) (k : HoldKept n e f) : HoldKept n d f := Eq.trans k h

theorem modLeg_hold (n m : Nat) (f : Leg → Leg) (d : Dev)
    (hf : ∀ x, (f x).replayHold = x.replayHold := by exact fun _ => rfl) : HoldKept n d (modLeg m f d) := by
  unfold HoldKept
  rw [leg_modLeg]
  split
  · subst ‹n = m›
    exact hf _
  · rfl

theorem creditGl_hold (n m f : Nat) (d : Dev) : HoldKept n d (creditGl m f d) := by
  unfold creditGl
  split
  · split
    · exact modLeg_hold n m _ d
    · rfl
  · rfl

theorem regateLeg_hold (n m : Nat) (d : Dev) : HoldKept n d (regateLeg m d) := by
  unfold regateLeg
  dsimp only
  split
  · rfl
  · split
    · exact (creditGl_hold n m _ d).trans (modLeg_hold n m _ _)
    · exact modLeg_hold n m _ d

theorem regate_hold (n : Nat) (d : Dev) : HoldKept n d (regate d) :=
  forAll_preserves (n := 48) (P := HoldKept n d) (f := regateLeg) (fun m e _ h => h.trans (regateLeg_hold n m e)) rfl

theorem setS_hold (n m : Nat) (rise : Bool) (d : Dev) : HoldKept n d (setS m rise d) := by
  have hcredit : ∀ f, HoldKept n d (if rise then creditGl m f d else d) := by
    intro f
    split
    · exact creditGl_hold n m f d
    · rfl
  unfold setS
  dsimp only
  split
  · refine (hcredit _).trans (modLeg_hold n m _ _ (fun x => ?_))
    split <;> rfl
  · refine (hcredit _).trans (modLeg_hold n m _ _ (fun x => ?_))
    split <;> rfl

theorem setS_keeps (m : Nat) (rise : Bool) (d : Dev) : Keeps [.legs] d (setS m rise d) := by
  unfold setS
  have hcredit : ∀ f, Keeps [.legs] d (if rise then creditGl m f d else d) := fun f =>
    keeps_ite (fun _ => creditGl_keeps m f d) (fun _ => Keeps.refl _ d)
  exact keeps_ite (fun _ => (hcredit _).trans (modLeg_keeps m _ _)) (fun _ => (hcredit _).trans (modLeg_keeps m _ _))

theorem replayLoad_keeps (m : Nat) (d : Dev) : Keeps [.legs] d (replayLoad m d) := by
  unfold replayLoad
  refine keeps_ite (fun _ => ?_) (fun _ => Keeps.refl _ d)
  exact keeps_ite (fun _ => (modLeg_keeps m _ d).trans (modLeg_keeps m _ _))
    (fun _ => ((modLeg_keeps m _ d).trans (modLeg_keeps m _ _)).trans (setS_keeps _ _ _))

theorem holdKept_ite {n : Nat} {c : Prop} [Decidable c] {d e f : Dev} (h : HoldKept n d e) (k : HoldKept n d f) :
    HoldKept n d (if c then e else f) := by
  split
  · exact h
  · exact k

theorem replayLoad_hold (n m : Nat) (d : Dev) : HoldKept n d (replayLoad m d) := by
  unfold replayLoad
  refine holdKept_ite ?_ rfl
  refine holdKept_ite ((modLeg_hold n m _ d ?_).trans (modLeg_hold n m _ _ ?_))
    (((modLeg_hold n m _ d ?_).trans (modLeg_hold n m _ _ ?_)).trans (setS_hold n m _ _))
  all_goals exact fun _ => rfl

/-! ### The start of a replay -/

/-- The record of a replay that starts in cascade `c`, in the device `e` that has aborted its evaluation. -/
def replayStarted (c : Nat) (w : Bool) (d e : Dev) : Dev :=
  { e with fil := { e.fil with
      replay := some c, rplHold := legsOf d (chainOf d 128 (2 ^ c)), stateErr := w,
      rplJobs := [⟨c, w, ((cas d c).job.map (fun j => j.origin)).getD (cas d c).origin, !(cas d c).mirror⟩],
      rplCnt := incSat 255 d.fil.rplCnt } }

theorem replayStarted_keeps (c : Nat) (w : Bool) (d e : Dev) : Keeps [.fil] e (replayStarted c w d e) := keeps_fil_of_taps rfl

theorem abortEval_fil (c : Nat) (d : Dev) : (abortEval c d).fil = { d.fil with cas := (abortEval c d).fil.cas } := rfl

theorem abortEval_job (c : Nat) (d : Dev) : (cas (abortEval c d) c).job = none := by
  rw [abortEval, cas_modCas_self]
  cases hjob : (cas d c).job with
  | none => simp only [hjob]
  | some j => rfl

theorem parityError_first {c : Nat} {w : Bool} {d : Dev} (hc : c < 128) (hrun : d.fil.haltAll = false)
    (hreplay : d.fil.replay = none) (hjobs : d.fil.rplJobs = []) (hhold : d.fil.rplHold = 0) (hrole : d.pnd.role ≠ 1)
    (hmirror : (cas d c).mirror = true) : parityError c w d =
      raiseI 30 c (replayHolds (legsOf d (chainOf d 128 (2 ^ c))) (replayStarted c w d (abortEval c d))) := by
  have hgo : ¬ (128 ≤ c ∨ d.fil.haltAll = true) := by
    rw [hrun]
    simp [hc]
  have hfree : ¬ bit (rplChains d) c = true := by simp [rplChains, hjobs, bit]
  rw [parityError, if_neg hgo, if_neg hfree, if_neg (fun h => hrole h.1)]
  dsimp only
  rw [if_pos hmirror, replayStarted]
  have habort := abortEval_fil c d
  generalize abortEval c d = e at habort
  have hreplay' : e.fil.replay = none := by rw [habort]; exact hreplay
  have hjobs' : e.fil.rplJobs = [] := by rw [habort]; exact hjobs
  have hhold' : e.fil.rplHold = 0 := by rw [habort]; exact hhold
  have hcnt : e.fil.rplCnt = d.fil.rplCnt := by rw [habort]
  rw [hreplay', hjobs', hhold', hcnt, Nat.zero_or]
  rfl

/-- The turn of leg `n` as the legs `m` are held off. -/
def holdTurn (m n : Nat) (d : Dev) : Dev := if bit m n then modLeg n (fun x => { x with replayHold := true }) d else d

theorem holdTurn_keeps (m n : Nat) (d : Dev) : Keeps [.legs] d (holdTurn m n d) :=
  keeps_ite (fun _ => modLeg_keeps n _ d) (fun _ => Keeps.refl _ d)

theorem holdTurn_other {n k : Nat} (h : k ≠ n) (m : Nat) (d : Dev) : HoldKept n d (holdTurn m k d) := by
  unfold HoldKept holdTurn
  split
  · rw [leg_modLeg, if_neg (Ne.symm h)]
  · rfl

theorem replayHolds_eq (m : Nat) (d : Dev) : replayHolds m d = regate (forAll 48 (holdTurn m) d) := rfl

theorem replayHolds_keeps (m : Nat) (d : Dev) : Keeps [.legs] d (replayHolds m d) := by
  rw [replayHolds_eq]
  exact (keeps_forAll 48 _ (holdTurn_keeps m) d).trans (regate_keeps _)

theorem replayHolds_held {m n : Nat} (hn : n < 48) (h : bit m n = true) (d : Dev) :
    (leg (replayHolds m d) n).replayHold = true := by
  rw [replayHolds_eq, regate_hold]
  refine forAll_at (P := fun _ => True) (Q := fun e => (leg e n).replayHold = true) hn (fun _ _ _ _ he => he) (fun e _ => ?_)
    (fun k e _ hne he => Eq.trans (holdTurn_other hne m e) he) trivial
  rw [holdTurn, if_pos h, leg_modLeg_self]

theorem replayHolds_free {m n : Nat} (h : bit m n = false) (d : Dev) : HoldKept n d (replayHolds m d) := by
  rw [replayHolds_eq]
  refine HoldKept.trans ?_ (regate_hold n _)
  refine forAll_preserves (n := 48) (P := HoldKept n d) (fun k e _ he => he.trans ?_) rfl
  rcases eq_or_ne k n with rfl | hne
  · unfold HoldKept
    rw [holdTurn, if_neg (ne_true_of_eq_false h)]
  · exact holdTurn_other hne m e

/-! ### The end of a replay -/

/-- The record of a replay that has ended. -/
def replayCleared (d : Dev) : Dev :=
  { d with fil := { d.fil with replay := none, stateErr := false, rplHold := 0, rplJobs := [] } }

/-- The states of the cascades whose state words failed are restored (R107). -/
def statesRestored (d : Dev) : Dev :=
  d.fil.rplJobs.foldl (fun e j => if j.stateErr then modCas j.c (fun x => { x with states := x.prev }) e else e) (replayCleared d)

/-- The chains of the replay are re-evaluated (R106). -/
def chainsDone (d : Dev) : Dev :=
  d.fil.rplJobs.foldl (fun e j => requeue d (chainOf d 128 (2 ^ j.c)) (replayEval 128 (chainOf d 128 (2 ^ j.c)) j.origin
    (d.fil.rplJobs.foldl (fun m j => if j.lost then setBit m j.c else m) 0) (setBits 128 (chainOf d 128 (2 ^ j.c))) e))
    (statesRestored d)

/-- The turn of leg `n` as the hold of the legs `m` lifts. -/
def liftTurn (m n : Nat) (d : Dev) : Dev :=
  if bit m n then replayLoad n (modLeg n (fun x => { x with replayHold := false }) d) else d

theorem replayDone_repaired {c : Nat} {d : Dev} (h : d.fil.replay = some c) :
    replayDone true d = regate (forAll 48 (liftTurn d.fil.rplHold) (chainsDone d)) := by
  simp only [replayDone, h, not_true_eq_false, if_false]
  rfl

theorem chainsDone_work (d : Dev) : ChainWork (replayCleared d) (chainsDone d) := by
  unfold chainsDone statesRestored
  refine ChainWork.trans (foldl_work (fun e j => ?_) _ _)
    (foldl_work (fun e j => (replayEval_work _ _ _ _ _ e).trans (requeue_work d _ _)) _ _)
  split
  · exact modCas_work _ _ e
  · exact .refl e

theorem liftTurn_keeps (m n : Nat) (d : Dev) : Keeps [.legs] d (liftTurn m n d) :=
  keeps_ite (fun _ => (modLeg_keeps n _ d).trans (replayLoad_keeps n _)) (fun _ => Keeps.refl _ d)

theorem liftTurn_other {n k : Nat} (h : k ≠ n) (m : Nat) (d : Dev) : HoldKept n d (liftTurn m k d) := by
  unfold liftTurn
  refine holdKept_ite (HoldKept.trans ?_ (replayLoad_hold n k _)) rfl
  unfold HoldKept
  rw [leg_modLeg, if_neg (Ne.symm h)]

theorem liftTurn_self {m n : Nat} (h : bit m n = true) (d : Dev) : (leg (liftTurn m n d) n).replayHold = false := by
  rw [liftTurn, if_pos h, replayLoad_hold n n, leg_modLeg_self]

theorem replayDone_keeps {c : Nat} {d : Dev} (h : d.fil.replay = some c) :
    Keeps (.fil :: tripParts) d (replayDone true d) := by
  have hclear : Keeps [.fil] d (replayCleared d) := keeps_fil_of_taps rfl
  rw [replayDone_repaired h]
  exact (((hclear.mono (by decide)).trans (chainsDone_work d).keeps).andThen
    (keeps_forAll 48 _ (liftTurn_keeps _) _) (by decide)).andThen (regate_keeps _) (by decide)

theorem replayDone_kept {c : Nat} {d : Dev} (h : d.fil.replay = some c) : RplKept (replayCleared d) (replayDone true d) := by
  rw [replayDone_repaired h]
  have hlegs : Keeps [.legs] (chainsDone d) (regate (forAll 48 (liftTurn d.fil.rplHold) (chainsDone d))) :=
    (keeps_forAll 48 _ (liftTurn_keeps _) _).trans (regate_keeps _)
  exact (chainsDone_work d).kept.trans (rplKept_of_keeps hlegs (by decide) (by decide))

theorem replayDone_lifted {c n : Nat} {d : Dev} (h : d.fil.replay = some c) (hn : n < 48) (hheld : bit d.fil.rplHold n = true) :
    (leg (replayDone true d) n).replayHold = false := by
  rw [replayDone_repaired h, regate_hold]
  exact forAll_at (P := fun _ => True) (Q := fun e => (leg e n).replayHold = false) hn (fun _ _ _ _ he => he)
    (fun e _ => liftTurn_self hheld e) (fun k e _ hne he => Eq.trans (liftTurn_other hne _ e) he) trivial

/-! ### The full check -/

/-- Every leg without the hold of a replay. -/
def holdsLifted (d : Dev) : Dev := forAll 48 (fun n e => modLeg n (fun x => { x with replayHold := false }) e) d

theorem holdsLifted_keeps (d : Dev) : Keeps [.legs] d (holdsLifted d) := keeps_forAll 48 _ (fun n e => modLeg_keeps n _ e) d

theorem holdsLifted_hold {n : Nat} (hn : n < 48) (d : Dev) : (leg (holdsLifted d) n).replayHold = false := by
  refine forAll_at (n := 48) (P := fun _ => True) (Q := fun e => (leg e n).replayHold = false) hn (fun _ _ _ _ he => he)
    (fun e _ => ?_) (fun k e _ hne he => ?_) trivial
  · rw [leg_modLeg_self]
  · rw [leg_modLeg, if_neg (Ne.symm hne)]
    exact he

/-- The fabric after a passed check. -/
def checkPassed (d : Dev) : Dev :=
  { d with fil := { d.fil with unc := false, haltAll := !locked d 0, rplHold := 0, stateErr := false } }

/-- The check that runs has ended. -/
def checkEnded (d : Dev) : Dev := { d with fil := { d.fil with checking := false } }

theorem checkDone_pass {d : Dev} (h : d.fil.checking = true) :
    checkDone true d = regate (checkPassed (holdsLifted (checkEnded d))) := by
  rw [checkDone, if_pos h]
  dsimp only
  rw [if_pos rfl]
  rfl

theorem checkDone_fail {d : Dev} (h : d.fil.checking = true) : checkDone false d = checkEnded d := by
  rw [checkDone, if_pos h]
  rfl

/-- Settles O25: the start of a replay, its two ends, and the full check. -/
theorem filigreeReplay : Obligations.FiligreeReplay := by
  unfold Obligations.FiligreeReplay
  refine ⟨?start, ?repaired, ?failed, ?unc, ?pass, ?fail⟩
  case start =>
    intro s t c w hc hrun hreplay hjobs hhold hrole hmirror hup
    have heq := parityError_first (d := devAt s t) (w := w) hc hrun hreplay hjobs hhold hrole hmirror
    have habort : Keeps [.fil] (devAt s t) (abortEval c (devAt s t)) := modCas_keeps c _ _
    have hjob := abortEval_job c (devAt s t)
    generalize abortEval c (devAt s t) = e at heq habort hjob
    have hstart := habort.trans (replayStarted_keeps c w (devAt s t) e)
    have hcas : cas (replayStarted c w (devAt s t) e) c = cas e c := rfl
    have hfil : (replayStarted c w (devAt s t) e).fil = { e.fil with
        replay := some c, rplHold := legsOf s.dev (chainOf s.dev 128 (2 ^ c)), stateErr := w,
        rplJobs := (replayStarted c w (devAt s t) e).fil.rplJobs, rplCnt := incSat 255 s.dev.fil.rplCnt } := rfl
    generalize replayStarted c w (devAt s t) e = f at heq hstart hcas hfil
    have hheld := replayHolds_keeps (legsOf (devAt s t) (chainOf (devAt s t) 128 (2 ^ c))) f
    have hlegs : ∀ n, leg f n = leg s.dev n := fun n => leg_of_legs (hstart.legs (by decide)) n
    have hon := fun n (hn : n < 48) (h : bit (legsOf s.dev (chainOf s.dev 128 (2 ^ c))) n = true) => replayHolds_held hn h f
    have hoff := fun n (h : bit (legsOf s.dev (chainOf s.dev 128 (2 ^ c))) n = false) => replayHolds_free h f
    refine runs_eq rfl heq (((hstart.mono (by decide)).andThen hheld (by decide)).andThen (raiseI_keeps _ _ _) (by decide))
      (by decide) ?_
    have hraise := (raiseI_keeps 30 c (replayHolds (legsOf (devAt s t) (chainOf (devAt s t) 128 (2 ^ c))) f)).filTaps (by decide)
    rw [hraise, hheld.filAll (by decide) (by decide), hfil]
    refine ⟨rfl, rfl, rfl, rfl, raiseI_pending 30 c _ ?_ (by decide), ?_, fun n hn h => ?_, fun n _ h => ?_⟩
    · rw [hheld.sys (by decide), hstart.sys (by decide)]
      exact hup
    · rw [cas_of_keeps (raiseI_keeps _ _ _) (by decide), cas_of_keeps hheld (by decide), hcas]
      exact hjob
    · rw [leg_raiseI]
      exact hon n hn h
    · rw [leg_raiseI, ← hlegs n]
      exact hoff n h
  case repaired =>
    intro s t c hreplay hdef
    have hkept := replayDone_kept (d := devAt s t) hreplay
    have hkeeps := replayDone_keeps (d := devAt s t) hreplay
    have hlift := fun n (hn : n < 48) (h : bit s.dev.fil.rplHold n = true) => replayDone_lifted (d := devAt s t) hreplay hn h
    have heq : replayFinish true (devAt s t) = replayDone true (devAt s t) := by
      have hdef' : (replayDone true (devAt s t)).gs.deferred = false := hkept.deferred.trans hdef
      rw [replayFinish]
      exact if_neg (fun h => ne_true_of_eq_false hdef' h.1)
    generalize replayDone true (devAt s t) = e at hkept hkeeps hlift heq
    exact runs_eq rfl heq hkeeps (by decide) ⟨hkept.replay, hkept.rplHold, hkept.stateErr, hkept.rplJobs, hlift⟩
  case failed =>
    intro s t c hreplay hgates hwarned
    obtain ⟨hunc, hall, hnone, hst, hcause⟩ := fabricError_trips c (d := devAt s t) hgates hwarned
    have hdone : replayDone false (devAt s t) = fabricError c (devAt s t) := by
      have hreplay' : (devAt s t).fil.replay = some c := hreplay
      simp only [replayDone, hreplay', Bool.false_eq_true, not_false_eq_true, if_true]
    have heq : replayFinish false (devAt s t) = fabricError c (devAt s t) := by
      rw [replayFinish, hdone]
      exact if_neg (fun h => h.2.2 hall)
    exact runs_eq rfl heq (fabricError_keeps c _) (by decide) ⟨hnone, hunc, hall, hst, hcause⟩
  case unc =>
    intro s t hunc
    have heq : uncWrite (devAt s t) = { devAt s t with fil := { s.dev.fil with checking := true } } := if_pos hunc
    exact runs_eq rfl heq (keeps_fil_of_taps rfl) (by decide) rfl
  case pass =>
    intro s t hcheck hlock
    have heq := checkDone_pass (d := devAt s t) hcheck
    have hended : Keeps [.fil] (devAt s t) (checkEnded (devAt s t)) := keeps_fil_of_taps rfl
    have hlift := holdsLifted_keeps (checkEnded (devAt s t))
    have hheld := fun n (hn : n < 48) => holdsLifted_hold hn (checkEnded (devAt s t))
    have hfil : (checkEnded (devAt s t)).fil = { s.dev.fil with checking := false } := rfl
    generalize checkEnded (devAt s t) = e at heq hended hlift hheld hfil
    generalize holdsLifted e = f at heq hlift hheld
    have hpassed : Keeps [.fil] f (checkPassed f) := keeps_fil_of_taps rfl
    have hlocked : locked f 0 = true := by
      rw [locked, hlift.clk (by decide), hended.clk (by decide)]
      exact hlock
    refine runs_eq rfl heq ((((hended.mono (by decide)).andThen hlift (by decide)).andThen hpassed (by decide)).andThen
      (regate_keeps _) (by decide)) (by decide) ⟨?_, fun n hn => ?_⟩
    · rw [(regate_keeps _).filAll (by decide) (by decide), checkPassed, hlocked]
      dsimp only
      rw [hlift.filAll (by decide) (by decide), hfil]
      rfl
    · rw [regate_hold]
      exact hheld n hn
  case fail =>
    intro s t hcheck
    exact runs_eq rfl (checkDone_fail (d := devAt s t) hcheck) (keeps_fil_of_taps rfl) (by decide) rfl

end Sys2Proof.Safety
end

section
/-!
PROOF. The grid disconnect channel: its drives, its off-tests, its faults and ESTOP (R488 to R501).
-/
namespace Sys2Proof.Safety

open Sys2Proof.Machine

/-! ### Trips and the channel -/

/-- A transition to a state other than READY leaves the channel. -/
theorem transition_gd {target : OpState} (h : target ≠ .ready) (c : Nat) (d : Dev) : (transition target c d).gd = d.gd := by
  have hleave : ∀ e : Dev, (leaveState e).gd = e.gd := fun e => (leaveState_keeps e).gd (by decide)
  have henter : ∀ e : Dev, (enterState target e).gd = e.gd := by
    intro e
    unfold enterState
    cases target with
    | ready => exact absurd rfl h
    | ride => exact (sweepAbort_keeps e).gd (by decide)
    | service => exact (sweepAbort_keeps e).gd (by decide)
    | trip =>
      dsimp only
      rw [(sweepAbort_keeps _).gd (by decide)]
      have hzero : ∀ f : Dev, (zeroPower f).gd = f.gd := fun _ => rfl
      rw [hzero, (keeps_forAll 4 _ (fun u f => modUnit_keeps u _ f) _).gd (by decide)]
    | off => rfl
    | clasp => rfl
    | doze => rfl
    | sync => rfl
    | run => rfl
    | form => rfl
  unfold transition
  split
  · rfl
  · rw [(calAbort_keeps _ _).gd (by decide), henter, raise_gd]
    dsimp only
    rw [hleave, (probeState_keeps target d).gd (by decide)]

theorem tripEntered_gd (c : Nat) (d : Dev) : (tripEntered c d).gd = d.gd := by
  rw [tripEntered]
  dsimp only
  rw [transition_gd (by decide), (tripHeld_keeps c d).gd (by decide)]

theorem transition_t (target : OpState) (c : Nat) (d : Dev) : (transition target c d).t = d.t :=
  (transition_keeps target c d).t (by decide)

/-- The channel `x` as it goes down with a demand at tick `t` (R490, R491). -/
def downGd (g : Bool) (t : Nat) (x : Gd) : Gd :=
  { x with
    gdh := false, gdl := false, closing := false, opening := x.opening || x.gdh || x.gdl || x.closed,
    offT := if x.gdh || x.gdl || x.testing = 1 then t else x.offT, testing := if x.testing = 1 then 0 else x.testing,
    testBack := none, holdFrom := none, pairHold := false, old := [], dem := true, demGrid := x.demGrid || g }

theorem gdDemand_gd (g : Bool) (d : Dev) : (gdDemand g d).gd = downGd g d.t d.gd := rfl

theorem gdDemand_gd_congr {d e : Dev} (g : Bool) (hgd : e.gd = d.gd) (ht : e.t = d.t) :
    (gdDemand g e).gd = (gdDemand g d).gd := by
  rw [gdDemand_gd, gdDemand_gd, hgd, ht]

/-- An entry into TRIP leaves the channel or demands a disconnect. -/
theorem enterTrip_gd (c : Nat) (d : Dev) : (enterTrip c d).gd = d.gd ∨ ∃ g, (enterTrip c d).gd = (gdDemand g d).gd := by
  have hmark := (tripMark_keeps c d).gd (by decide)
  have hentered := tripEntered_gd c d
  have ht : (tripEntered c d).t = d.t := by
    rw [tripEntered]
    dsimp only
    exact (transition_t _ _ _).trans ((tripHeld_keeps c d).t (by decide))
  have hcases := enterTrip_cases c d
  generalize enterTrip c d = e at hcases ⊢
  generalize tripMark c d = m at hmark hcases
  generalize tripEntered c d = f at hentered ht hcases
  rcases hcases with ⟨x, rfl⟩ | ⟨g, rfl⟩ | rfl | rfl
  · exact .inl hmark
  · exact .inr ⟨g, gdDemand_gd_congr g hentered ht⟩
  · exact .inl hentered
  · exact .inl hmark

/-- What a demand leaves of the channel: its fault, the current it read, its watch and ESTOP; both drives are off. -/
structure GdDown (x y : Gd) : Prop where
  fault : y.fault = x.fault
  fcode : y.fcode = x.fcode
  mv : y.mv = x.mv
  watch : y.watch = x.watch
  estop : y.estop = x.estop
  dem : y.dem = true
  demGrid : x.demGrid = true → y.demGrid = true
  gdh : y.gdh = false
  gdl : y.gdl = false
  closing : y.closing = false

theorem gdDemand_down (g : Bool) (d : Dev) : GdDown d.gd (gdDemand g d).gd :=
  ⟨rfl, rfl, rfl, rfl, rfl, rfl, fun h => by rw [gdDemand, gdOff]; simp [h], rfl, rfl, rfl⟩

theorem GdDown.trans {x y z : Gd} (h : GdDown x y) (k : GdDown y z) : GdDown x z :=
  ⟨k.fault.trans h.fault, k.fcode.trans h.fcode, k.mv.trans h.mv, k.watch.trans h.watch, k.estop.trans h.estop, k.dem,
    fun hx => k.demGrid (h.demGrid hx), k.gdh, k.gdl, k.closing⟩

/-- A trip after a demand keeps the channel down. -/
theorem enterTrip_down (c : Nat) {x : Gd} {d : Dev} (h : GdDown x d.gd) : GdDown x (enterTrip c d).gd := by
  rcases enterTrip_gd c d with heq | ⟨g, heq⟩
  · rw [heq]
    exact h
  · rw [heq]
    exact h.trans (gdDemand_down g d)

/-- The device with the fault flag and code of the channel. -/
def gdFaulted (code : Nat) (d : Dev) : Dev := { d with gd := { d.gd with fault := true, fcode := code } }

theorem gdFault_eq (code : Nat) (d : Dev) : gdFault code d = enterTrip 0x25 (gdDemand false (raiseI 112 code (gdFaulted code d))) := rfl

theorem gdFault_down (code : Nat) (d : Dev) : GdDown { d.gd with fault := true, fcode := code } (gdFault code d).gd := by
  rw [gdFault_eq]
  refine enterTrip_down 0x25 ?_
  have hdown := gdDemand_down false (raiseI 112 code (gdFaulted code d))
  rw [raiseI_gd] at hdown
  exact hdown

/-- A fault takes both drives off with a demand. -/
theorem gdFault_channel (code : Nat) (d : Dev) : ChannelFault code (gdFault code d) := by
  obtain ⟨hfault, hcode, -, -, -, hdem, -, hgdh, hgdl, hclosing⟩ := gdFault_down code d
  exact ⟨hfault, hcode, hdem, hgdh, hgdl, hclosing⟩

/-- A fault trips a device that cause 0x25 can trip. -/
theorem gdFault_trips (code : Nat) (d : Dev) : FaultTrips d (gdFault code d) := by
  intro hcan hwarned
  have hkeeps : Keeps (.gd :: evParts) d (gdDemand false (raiseI 112 code (gdFaulted code d))) := by
    have hf : Keeps [.gd] d (gdFaulted code d) := keeps_gd _ d
    exact ((hf.mono (by decide)).andThen (raiseI_keeps _ _ _) (by decide)).andThen (gdDemand_keeps _ _) (by decide)
  rw [gdFault_eq]
  generalize gdDemand false (raiseI 112 code (gdFaulted code d)) = e at hkeeps
  have hcan' : canTrip e 0x25 = true := by
    rw [canTrip, hkeeps.sys (by decide)]
    exact hcan
  have hne : e.sys.st ≠ .trip := by
    intro hst
    rw [canTrip, hst] at hcan'
    exact Bool.noConfusion hcan'
  obtain ⟨hst, hcause, -, -⟩ := enterTrip_sys hne hcan' (by rw [hkeeps.hold (by decide)]; exact hwarned)
  exact ⟨hst, hcause⟩

theorem modGd_keeps (f : Gd → Gd) (d : Dev) : Keeps [.gd] d (modGd f d) := keeps_gd _ d

/-! ### Drives -/

theorem two_usTicks (n : Nat) : 2 * usTicks n = 800 * n := by
  rw [usTicks, ← Nat.mul_assoc]

/-- The first check of a closing finds a wrong readback: GDL_RB off, or GDH_RB on. -/
theorem readbackStep_wrong {gh gl : Bool} {d : Dev} (hclosing : d.gd.closing = true)
    (hwrong : (d.gd.gdh = false ∧ d.gd.seqT + 400 * gdPrm d 0xE105 ≤ d.t ∧ (gh = true ∨ gl = false)) ∨
      (d.gd.gdh = true ∧ d.gd.seqT + 800 * gdPrm d 0xE105 ≤ d.t ∧ (gh = false ∨ gl = false))) :
    readbackStep gh gl d = gdFault (if gl then 1 else 2) (modGd (fun g => { g with gdhRb := gh, gdlRb := gl }) d) := by
  rcases hwrong with ⟨hgdh, hwait, hrb⟩ | ⟨hgdh, hwait, hrb⟩
  · rw [readbackStep, if_neg (fun h => ne_true_of_eq_false hgdh h.2),
      if_pos ⟨hclosing, ne_true_of_eq_false hgdh, hwait⟩]
    rcases hrb with rfl | rfl
    · cases gl <;> simp
    · simp
  · rw [readbackStep, if_pos ⟨hclosing, hgdh⟩, if_pos (by rw [two_usTicks]; exact hwait)]
    rcases hrb with rfl | rfl
    · cases gl <;> simp
    · simp

theorem readbackStep_on {d : Dev} (hclosing : d.gd.closing = true) (hgdh : d.gd.gdh = false)
    (hwait : d.gd.seqT + 400 * gdPrm d 0xE105 ≤ d.t) : readbackStep false true d =
      modGd (fun g => { g with gdh := true, gdhRb := true }) (modGd (fun g => { g with gdhRb := false, gdlRb := true }) d) := by
  rw [readbackStep, if_neg (fun h => ne_true_of_eq_false hgdh h.2), if_pos ⟨hclosing, ne_true_of_eq_false hgdh, hwait⟩]
  rfl

theorem gdFault_keeps_after {f : Gd → Gd} (code : Nat) (d : Dev) : Keeps tripParts d (gdFault code (modGd f d)) :=
  ((modGd_keeps f d).mono (by decide)).trans (gdFault_keeps code _)

/-- The channel as its opening is confirmed at current `mv`. -/
def openedGd (mv : Nat) (d : Dev) : Dev :=
  modGd (fun g => { g with closed := false, opening := false, gdhRb := false, gdlRb := false, mv := mv, old := [] }) d

theorem openConfirmed_eq {mv : Nat} {d : Dev} (hopening : d.gd.opening = true) (hoff : mv < gdPrm d 0xE107) :
    openConfirmed mv d = if d.sys.auto = .syncToReady then enterReady 0x05 (openedGd mv d) else openedGd mv d := by
  rw [openConfirmed, if_pos ⟨hopening, .inl hoff⟩]
  rfl

/-- The device that stands no longer by. -/
def standsAlone (d : Dev) : Dev := { d with sys := { d.sys with standby := false } }

theorem enterReady_open {c : Nat} {d : Dev} (hestop : (transition .ready c (standsAlone d)).gd.estop = false) :
    enterReady c d = transition .ready c (standsAlone d) := by
  unfold enterReady
  rw [← standsAlone]
  exact if_neg (ne_true_of_eq_false hestop)

/-- The channel as READY is entered: without a demand. -/
theorem transition_ready_gd {c : Nat} {d : Dev} (hwarned : d.hold.warned = false) :
    (transition .ready c d).gd = { d.gd with dem := false, demGrid := false } := by
  unfold transition
  rw [if_neg (fun h => ne_true_of_eq_false hwarned h.1)]
  dsimp only
  rw [(calAbort_keeps _ _).gd (by decide)]
  have henter : ∀ e : Dev, (enterState .ready e).gd = { e.gd with dem := false, demGrid := false } := fun _ => rfl
  rw [henter, raise_gd]
  dsimp only
  rw [(leaveState_keeps _).gd (by decide), (probeState_keeps _ d).gd (by decide)]

/-- Settles O26: the steps of a closing and of an opening, and the faults that end them. -/
theorem disconnectDrives : Obligations.DisconnectDrives := by
  unfold Obligations.DisconnectDrives
  refine ⟨?hold, ?on, ?wrongLow, ?wrongHigh, ?pullin, ?closeTimeout, ?opened, ?ready, ?openTimeout, ?alarm⟩
  case hold =>
    intro s t a hfrom hconds hclosed hclosing hopening hwait
    have heq : closeHold (devAt s t) = gdStart (devAt s t) := by
      have hfrom' : (devAt s t).gd.holdFrom = some a := hfrom
      rw [closeHold, hfrom']
      exact if_pos ⟨hconds, ne_true_of_eq_false hclosed, ne_true_of_eq_false hclosing, ne_true_of_eq_false hopening, hwait⟩
    exact runs_eq rfl heq (keeps_gd _ _) (by decide) rfl
  case on =>
    intro s t hclosing hgdh hwait
    exact runs_eq rfl (readbackStep_on (d := devAt s t) hclosing hgdh hwait)
      ((modGd_keeps _ _).trans (modGd_keeps _ _)) (by decide) rfl
  case wrongLow =>
    intro s t gh gl hclosing hgdh hwait hrb
    exact runs_eq rfl (readbackStep_wrong (d := devAt s t) hclosing (.inl ⟨hgdh, hwait, hrb⟩)) (gdFault_keeps_after _ _)
      (by decide) (gdFault_channel _ _)
  case wrongHigh =>
    intro s t gh gl hclosing hgdh hwait hrb
    exact runs_eq rfl (readbackStep_wrong (d := devAt s t) hclosing (.inr ⟨hgdh, hwait, hrb⟩)) (gdFault_keeps_after _ _)
      (by decide) (gdFault_channel _ _)
  case pullin =>
    intro s t mv hclosing hgdh hmv hconds hwait
    have heq : pullIn mv (devAt s t) = modGd (fun g => { g with
        closed := true, closing := false, mv := mv, lastTest := t, old := [] }) (devAt s t) :=
      if_pos ⟨hclosing, hgdh, hmv, hconds, hwait⟩
    exact runs_eq rfl heq (modGd_keeps _ _) (by decide) rfl
  case closeTimeout =>
    intro s t hclosing hwait
    have heq : closeTimeout (devAt s t) = gdFault 5 (devAt s t) := if_pos ⟨hclosing, hwait⟩
    exact runs_eq rfl heq (gdFault_keeps 5 _) (by decide) (gdFault_channel 5 _)
  case opened =>
    intro s t mv hopening hmv hauto
    have heq := (openConfirmed_eq (d := devAt s t) hopening hmv).trans (if_neg hauto)
    exact runs_eq rfl heq (modGd_keeps _ _) (by decide) rfl
  case ready =>
    intro s t mv hopening hmv hauto hestop hwarned
    have hopen : Keeps [.gd] (devAt s t) (openedGd mv (devAt s t)) := modGd_keeps _ _
    have hgd : (openedGd mv (devAt s t)).gd = { s.dev.gd with
      closed := false, opening := false, gdhRb := false, gdlRb := false, mv := mv, old := [] } := rfl
    have hwarned' : (openedGd mv (devAt s t)).hold.warned = false := hwarned
    have heq := (openConfirmed_eq (d := devAt s t) hopening hmv).trans (if_pos hauto)
    generalize openedGd mv (devAt s t) = e at hopen hgd hwarned' heq
    have halone : Keeps [.sys] e (standsAlone e) := keeps_sys _ e
    have hw : (standsAlone e).hold.warned = false := hwarned'
    have hgd' : (standsAlone e).gd = e.gd := rfl
    generalize hf : standsAlone e = f at halone hw hgd'
    have hready := transition_ready_gd (c := 0x05) hw
    have hstays : (transition .ready 0x05 (standsAlone e)).gd.estop = false := by
      rw [hf, hready, hgd', hgd]
      exact hestop
    rw [enterReady_open hstays, hf] at heq
    refine runs_eq rfl heq ((((hopen.mono (by decide)).andThen halone (by decide)).andThen (transition_keeps _ _ _)
      (by decide))) (by decide) ⟨?_, ?_, transition_st _ (.inl hw), transition_cause _ (.inl hw)⟩
    · rw [hready, hgd', hgd]
    · rw [hready]
  case openTimeout =>
    intro s t hopening hfault hwait
    have heq : openTimeout (devAt s t) = gdFault 6 (devAt s t) := if_pos ⟨hopening, hfault, hwait⟩
    exact runs_eq rfl heq (gdFault_keeps 6 _) (by decide) (gdFault_channel 6 _)
  case alarm =>
    intro s t mv gh gl hruns hgdh hgdl hwait
    have heq : gdalm gh gl mv (devAt s t) = modGd (fun g => { g with
        gdhRb := gh, gdlRb := gl, mv := mv,
        alm := g.alm || gh || gl || (decide (gdPrm (devAt s t) 0xE107 < mv) && !peerHolds (devAt s t)) }) (devAt s t) :=
      if_pos ⟨hruns, ne_true_of_eq_false hgdh, ne_true_of_eq_false hgdl, hwait⟩
    exact runs_eq rfl heq (modGd_keeps _ _) (by decide) ⟨rfl, rfl⟩

/-! ### Off-tests -/

/-- The channel with a new reading of the coil current. -/
def readCurrent (mv : Nat) (d : Dev) : Dev := modGd (fun g => { g with mv := mv }) d

theorem offtestFail_keeps (d : Dev) : Keeps tripParts d (offtestFail d) :=
  ((raiseI_keeps _ _ d).mono (by decide)).trans (gdFault_keeps 7 _)

theorem offtestFail_after (mv : Nat) (d : Dev) : Keeps tripParts d (offtestFail (readCurrent mv d)) :=
  ((modGd_keeps _ d).mono (by decide)).trans (offtestFail_keeps _)

theorem offtestFail_channel (d : Dev) : ChannelFault 7 (offtestFail d) := gdFault_channel 7 _

/-- The tested side is driven again at tick `t`, with its readback still off. -/
theorem offtestBack_gd (mv t : Nat) (d : Dev) :
    (modGd (fun g => { setSide g.nextSide true false g with testBack := some t }) (readCurrent mv d)).gd =
      { setSide d.gd.nextSide true false d.gd with mv := mv, testBack := some t } := by
  show ({ setSide d.gd.nextSide true false { d.gd with mv := mv } with testBack := some t } : Gd) = _
  cases d.gd.nextSide <;> rfl

/-- The tested side has proved to turn off and on again. -/
theorem offtestPassed_gd (mv t : Nat) (d : Dev) :
    (modGd (fun g => { setSide g.nextSide true true g with
      testing := 0, testBack := none, tests := incSat 255 g.tests, nextSide := !g.nextSide, lastTest := t,
      old := [] }) (readCurrent mv d)).gd =
      { setSide d.gd.nextSide true true d.gd with
        mv := mv, testing := 0, testBack := none, tests := incSat 255 d.gd.tests, nextSide := !d.gd.nextSide,
        lastTest := t, old := [] } := by
  show ({ setSide d.gd.nextSide true true { d.gd with mv := mv } with
      testing := 0, testBack := none, tests := incSat 255 d.gd.tests, nextSide := !d.gd.nextSide, lastTest := t,
      old := [] } : Gd) = _
  cases d.gd.nextSide <;> rfl

/-- Settles O27: the start of an off-test, the return of its drive, its end, and its failures. -/
theorem disconnectOffTests : Obligations.DisconnectOffTests := by
  unfold Obligations.DisconnectOffTests
  refine ⟨?start, ?back, ?lost, ?timeoutBack, ?timeoutFail, ?passed, ?failed⟩
  case start =>
    intro s t hruns hclosed hopening htesting hwait
    have heq : offtestStart (devAt s t) = modGd (fun g => { (if g.nextSide then { g with gdl := false }
        else { g with gdh := false }) with testing := 1, seqT := t, testBack := none }) (devAt s t) :=
      if_pos ⟨hruns, hclosed, ne_true_of_eq_false hopening, htesting, hwait⟩
    refine runs_eq rfl heq (modGd_keeps _ _) (by decide) ?_
    show ({ (if s.dev.gd.nextSide then { s.dev.gd with gdl := false } else { s.dev.gd with gdh := false }) with
      testing := 1, seqT := t, testBack := none } : Gd) = _
    cases s.dev.gd.nextSide <;> simp
  case back =>
    intro s t mv htesting hback hwait hmv
    have hnone : (devAt s t).gd.testBack.isNone = true := Option.isNone_iff_eq_none.mpr hback
    have heq : offtestReadback mv (devAt s t) =
        modGd (fun g => { setSide g.nextSide true false g with testBack := some t }) (readCurrent mv (devAt s t)) := by
      rw [offtestReadback, if_pos ⟨htesting, hnone, hwait⟩]
      exact if_neg (Nat.not_le.mpr hmv)
    exact runs_eq rfl heq ((modGd_keeps _ _).trans (modGd_keeps _ _)) (by decide) (offtestBack_gd mv t _)
  case lost =>
    intro s t mv htesting hback hwait hmv
    have hnone : (devAt s t).gd.testBack.isNone = true := Option.isNone_iff_eq_none.mpr hback
    have heq : offtestReadback mv (devAt s t) = offtestFail (readCurrent mv (devAt s t)) := by
      rw [offtestReadback, if_pos ⟨htesting, hnone, hwait⟩]
      exact if_pos hmv
    exact runs_eq rfl heq (offtestFail_after _ _) (by decide) (offtestFail_channel _)
  case timeoutBack =>
    intro s t mv htesting hback hwait hmv
    have hnone : (devAt s t).gd.testBack.isNone = true := Option.isNone_iff_eq_none.mpr hback
    have heq : offtestTimeout false mv (devAt s t) =
        modGd (fun g => { setSide g.nextSide true false g with testBack := some t }) (readCurrent mv (devAt s t)) := by
      rw [offtestTimeout, if_pos ⟨htesting, hnone, hwait⟩]
      exact if_neg (fun h => h.elim Bool.false_ne_true (Nat.not_le.mpr hmv))
    exact runs_eq rfl heq ((modGd_keeps _ _).trans (modGd_keeps _ _)) (by decide) (offtestBack_gd mv t _)
  case timeoutFail =>
    intro s t mv htesting hback hwait
    have hnone : (devAt s t).gd.testBack.isNone = true := Option.isNone_iff_eq_none.mpr hback
    have heq : offtestTimeout true mv (devAt s t) = offtestFail (readCurrent mv (devAt s t)) := by
      rw [offtestTimeout, if_pos ⟨htesting, hnone, hwait⟩]
      exact if_pos (.inl rfl)
    exact runs_eq rfl heq (offtestFail_after _ _) (by decide) (offtestFail_channel _)
  case passed =>
    intro s t mv a htesting hback hwait hmv
    have hback' : (devAt s t).gd.testBack = some a := hback
    have heq : offtestEnd true mv (devAt s t) = modGd (fun g => { setSide g.nextSide true true g with
        testing := 0, testBack := none, tests := incSat 255 g.tests, nextSide := !g.nextSide, lastTest := s.dev.gd.seqT,
        old := [] }) (readCurrent mv (devAt s t)) := by
      rw [offtestEnd, hback']
      dsimp only
      rw [if_pos ⟨htesting, hwait⟩]
      exact if_neg (fun h => h.elim (fun hrb => hrb rfl) (Nat.not_le.mpr hmv))
    exact runs_eq rfl heq ((modGd_keeps _ _).trans (modGd_keeps _ _)) (by decide) (offtestPassed_gd mv _ _)
  case failed =>
    intro s t mv a rb htesting hback hwait hfail
    have hback' : (devAt s t).gd.testBack = some a := hback
    have heq : offtestEnd rb mv (devAt s t) = offtestFail (readCurrent mv (devAt s t)) := by
      rw [offtestEnd, hback']
      dsimp only
      rw [if_pos ⟨htesting, hwait⟩]
      exact if_pos (hfail.imp ne_true_of_eq_false id)
    exact runs_eq rfl heq (offtestFail_after _ _) (by decide) (offtestFail_channel _)

/-! ### Faults -/

/-- A fault declared on a changed channel: what it leaves of the device, of the reading and the watch, and its trip. -/
theorem gdFault_after (f : Gd → Gd) (code : Nat) (s : State) (t : Nat) :
    ChannelFault code (gdFault code (modGd f (devAt s t))) ∧
      (gdFault code (modGd f (devAt s t))).gd.mv = (f s.dev.gd).mv ∧
      (gdFault code (modGd f (devAt s t))).gd.watch = (f s.dev.gd).watch ∧
      FaultTrips s.dev (gdFault code (modGd f (devAt s t))) := by
  have hdown := gdFault_down code (modGd f (devAt s t))
  exact ⟨gdFault_channel code _, hdown.mv, hdown.watch, gdFault_trips code (modGd f (devAt s t))⟩

/-! ### ESTOP -/

theorem LegReach.out {x y : Leg} (h : LegReach x y) (hx : x.insvc = false) : y.insvc = false := by
  induction h with
  | same => exact hx
  | left _ _ => rfl
  | unforced _ ih => exact ih

/-- The turn of leg `k` as every leg leaves service. -/
def outTurn (k : Nat) (d : Dev) : Dev :=
  if (leg d k).insvc || (leg d k).entering then sweepLegLost k (modLeg k legLeft d) else d

theorem outTurn_reach (n k : Nat) (d : Dev) : LegReach (leg d n) (leg (outTurn k d) n) := by
  unfold outTurn
  split
  · exact (modLeg_reach k n (fun _ => .left .same) d).trans (legReach_of_legs n ((sweepLegLost_keeps k _).legs (by decide)))
  · exact .same

theorem outTurn_out (n : Nat) (d : Dev) : (leg (outTurn n d) n).insvc = false := by
  unfold outTurn
  split
  · rw [leg_of_legs ((sweepLegLost_keeps n _).legs (by decide)), leg_modLeg_self]
    rfl
  · rename_i hin
    cases hsvc : (leg d n).insvc
    · rfl
    · exact absurd (by rw [hsvc, Bool.true_or]) hin

theorem legsOut_out {n : Nat} (hn : n < 48) (d : Dev) : inSvc (legsOut d) n = false := by
  have hsweep : (leg (forAll 48 outTurn d) n).insvc = false :=
    forAll_at (P := fun _ => True) (Q := fun e => (leg e n).insvc = false) hn (fun _ _ _ _ he => he)
      (fun e _ => outTurn_out n e) (fun k e _ _ he => (outTurn_reach n k e).out he) trivial
  have hlegs : (legsOut d).legs = (forAll 48 outTurn d).legs := by
    unfold legsOut outTurn
    dsimp only
  rw [inSvc, leg_of_legs hlegs]
  exact hsweep

/-- An entry into TRIP takes every leg out of service. -/
theorem tripEntered_out {c n : Nat} (hn : n < 48) (d : Dev) : inSvc (tripEntered c d) n = false := by
  have hheld : inSvc (tripHeld c d) n = false := by
    unfold tripHeld
    exact legsOut_out hn _
  have hreach := transition_reach n .trip c (tripHeld c d)
  rw [tripEntered]
  generalize tripHeld c d = e at hheld hreach ⊢
  generalize transition .trip c e = f at hreach ⊢
  exact hreach.out hheld

theorem enterTrip_out {c n : Nat} {d : Dev} (hn : n < 48) (hst : d.sys.st ≠ .trip) (hcan : canTrip d c = true)
    (hwarned : d.hold.warned = false) : inSvc (enterTrip c d) n = false := by
  have hlegs : (enterTrip c d).legs = (tripEntered c d).legs := (enterTrip_parts hst hcan hwarned).legs (by decide)
  rw [inSvc, leg_of_legs hlegs]
  exact tripEntered_out hn d

/-- A transition out of another state than TRIP leaves the hold of every leg. -/
theorem transition_pwm {target : OpState} {c : Nat} {d : Dev} (h : d.sys.st ≠ .trip) : (transition target c d).pwm = d.pwm := by
  have hleave : ∀ e : Dev, e.sys.st ≠ .trip → (leaveState e).pwm = e.pwm := by
    intro e he
    unfold leaveState
    cases hst : e.sys.st with
    | trip => exact absurd hst he
    | service =>
      dsimp only
      exact (keeps_forAll 48 _ (fun n f => modLeg_keeps n _ f) e).pwm (by decide)
    | form => rfl
    | off => rfl
    | clasp => rfl
    | doze => rfl
    | ready => rfl
    | sync => rfl
    | run => rfl
    | ride => rfl
  unfold transition
  split
  · rfl
  · dsimp only
    rw [(calAbort_keeps _ _).pwm (by decide), (enterState_keeps _ _).pwm (by decide), raise_pwm]
    dsimp only
    have hprobe := probeState_keeps target d
    generalize probeState target d = e at hprobe ⊢
    rw [hleave e (by rw [hprobe.sys (by decide)]; exact h), hprobe.pwm (by decide)]

/-- The hold of every leg stays through an entry into TRIP from another state. -/
theorem enterTrip_noted {c : Nat} {d : Dev} (hst : d.sys.st = .trip) : ∃ x, enterTrip c d = { tripMark c d with sys := x } := by
  have hst' : (tripMark c d).sys.st = .trip := by
    rw [(tripMark_keeps c d).sys (by decide)]
    exact hst
  unfold enterTrip
  rw [← tripMark, if_pos (.inl hst')]
  exact ⟨_, rfl⟩

theorem enterTrip_held (c : Nat) {d : Dev} (h : d.pwm.devHold = true) : (enterTrip c d).pwm.devHold = true := by
  have hmark : (tripMark c d).pwm.devHold = true := by
    rw [(tripMark_keeps c d).pwm (by decide)]
    exact h
  by_cases hst : d.sys.st = .trip
  · obtain ⟨x, heq⟩ := enterTrip_noted (c := c) hst
    rw [heq]
    exact hmark
  have hheld : (tripHeld c d).pwm.devHold = true := by
    unfold tripHeld
    dsimp only
    rw [(legsOut_keeps _).pwm (by decide)]
  have hsys : (tripHeld c d).sys.st ≠ .trip := by
    rw [(tripHeld_keeps c d).sys (by decide)]
    exact hst
  have hentered : (tripEntered c d).pwm.devHold = true := by
    rw [tripEntered]
    dsimp only
    rw [transition_pwm hsys, hheld]
  have hcases := enterTrip_cases c d
  generalize enterTrip c d = e at hcases ⊢
  generalize tripMark c d = m at hmark hcases
  generalize tripEntered c d = f at hentered hcases
  rcases hcases with ⟨x, rfl⟩ | ⟨g, rfl⟩ | rfl | rfl
  · exact hmark
  · rw [(gdDemand_keeps g f).pwm (by decide)]
    exact hentered
  · exact hentered
  · exact hmark

/-- The device with every leg held off. -/
def devHeld (d : Dev) : Dev := { d with pwm := { d.pwm with devHold := true } }

/-- The device as the filtered ESTOP falls, before it trips. -/
def estopFell (d : Dev) : Dev := raiseI 113 0 (gdDemand true (regate (devHeld d)))

theorem estopFell_keeps (d : Dev) : Keeps ([.gd, .pwm, .legs] ++ evParts) d (estopFell d) := by
  have hheld : Keeps [.pwm] d (devHeld d) := keeps_pwm _ d
  exact (((hheld.mono (by decide)).andThen (regate_keeps _) (by decide)).andThen (gdDemand_keeps _ _) (by decide)).andThen
    (raiseI_keeps _ _ _) (by decide)

theorem estopFell_gd (d : Dev) : (estopFell d).gd = downGd true d.t d.gd := by
  rw [estopFell, raiseI_gd, gdDemand_gd, (regate_keeps _).t (by decide), (regate_keeps _).gd (by decide)]
  rfl

theorem estopFell_held (d : Dev) : (estopFell d).pwm.devHold = true := by
  rw [estopFell, raiseI_pwm, (gdDemand_keeps _ _).pwm (by decide), (regate_keeps _).pwm (by decide)]
  rfl

/-- The device with ESTOP seen low. -/
def estopSeen (d : Dev) : Dev := modGd (fun g => { g with estop := true }) d

theorem estopAssert_eq {since : Nat} {d : Dev} (hheld : since + 400 * gdPrm d 0xE108 ≤ d.t) (hruns : chanRuns d = true)
    (hnew : d.gd.estop = false) : estopAssert since d =
      enterTrip 0x24 (estopFell (if (estopSeen d).sys.st = .doze then wakeAll (estopSeen d) else estopSeen d)) := by
  have hlong : estopHeld since d = true := decide_eq_true hheld
  rw [estopAssert]
  dsimp only
  rw [if_neg (not_not_intro hlong), if_pos ⟨hruns, ne_true_of_eq_false hnew⟩]
  rfl

/-! ### Waking -/

theorem setVals_keeps (ch : Tab (Option Nat)) (d : Dev) : Keeps [.prm] d (setVals ch d) :=
  keeps_foldl _ (fun e kv => by
    cases kv.2 with
    | none => exact Keeps.refl _ e
    | some v => exact setPrm_keeps _ _ _ e) ch d

theorem restartAin_keeps (i s0 : Nat) (d : Dev) : Keeps [.acq] d (restartAin i s0 d) := modAin_keeps i _ d

theorem restartFacet_keeps (f s0 : Nat) (d : Dev) : Keeps [.acq] d (restartFacet f s0 d) :=
  keeps_forAll 14 _ (fun _ e => keeps_ite (fun _ => restartAin_keeps _ _ e) (fun _ => Keeps.refl _ e)) d

theorem restartChanged_keeps (f : Nat) (ks : List Nat) (d : Dev) : Keeps [.acq] d (restartChanged f ks d) :=
  keeps_forAll 14 _ (fun _ e => keeps_ite (fun _ => keeps_ite (fun _ => restartAin_keeps _ _ e) (fun _ =>
    keeps_ite (fun _ => restartAin_keeps _ _ e) (fun _ =>
      keeps_ite (fun _ => restartAin_keeps _ _ e) (fun _ => Keeps.refl _ e)))) (fun _ => Keeps.refl _ e)) d

theorem applyChange_keeps (f : Nat) (ch : Tab (Option Nat)) (d : Dev) : Keeps [.acq, .prm] d (applyChange f ch d) :=
  keeps_ite (fun _ => Keeps.refl _ d) (fun _ => ((setVals_keeps ch d).mono (by decide)).andThen
    (restartChanged_keeps f _ _) (by decide))

theorem flushFacet_keeps (f : Nat) (d : Dev) : Keeps [.acq, .prm] d (flushFacet f d) :=
  ((modFacet_keeps f _ d).mono (by decide)).trans (keeps_foldl _ (fun e it => applyChange_keeps f _ e) _ _)

theorem resumeScans_keeps (d : Dev) : Keeps [.acq, .prm] d (resumeScans d) :=
  keeps_forAll 13 _ (fun f e => (flushFacet_keeps f e).andThen (restartFacet_keeps f 2 _) (by decide)) d

theorem caratResume_keeps (d : Dev) : Keeps [.carat] d (caratResume d) := by
  unfold caratResume
  split
  · exact keeps_carat _ d
  · exact Keeps.refl _ d

theorem canMode_keeps (p : Nat) (d : Dev) : Keeps [.can] d (canMode p d) := keeps_can _ d

theorem canOn_keeps (d : Dev) : Keeps [.can] d (canOn d) := keeps_forAll 12 _ canMode_keeps d

theorem epochsResume_keeps (d : Dev) : Keeps [.clk, .gs] d (epochsResume d) := by
  unfold epochsResume
  split
  · exact Keeps.refl _ d
  · exact ⟨fun p hp => by cases p <;> first | rfl | exact absurd (by decide) hp⟩

/-- What a wake from DOZE touches (R29, R552). -/
theorem wakeAll_keeps (d : Dev) : Keeps [.wins, .clk, .cask, .acq, .prm, .carat, .can, .gs] d (wakeAll d) :=
  (((((wakeDomains_keeps d).mono (by decide)).andThen (resumeScans_keeps _) (by decide)).andThen (caratResume_keeps _)
    (by decide)).andThen (canOn_keeps _) (by decide)).andThen (epochsResume_keeps _) (by decide)

/-- What the filtered ESTOP does to a device `e` that has seen it and is awake. -/
theorem estopTrips {x : Gd} {d e : Dev} (hgd : e.gd = { x with estop := true }) (hsys : e.sys = d.sys)
    (hhold : e.hold = d.hold) :
    (enterTrip 0x24 (estopFell e)).gd.estop = true ∧ (enterTrip 0x24 (estopFell e)).gd.dem = true ∧
      (enterTrip 0x24 (estopFell e)).gd.demGrid = true ∧ (enterTrip 0x24 (estopFell e)).gd.gdh = false ∧
      (enterTrip 0x24 (estopFell e)).gd.gdl = false ∧ (enterTrip 0x24 (estopFell e)).pwm.devHold = true ∧
      (canTrip d 0x24 = true → d.hold.warned = false → (enterTrip 0x24 (estopFell e)).sys.st = .trip ∧
        (enterTrip 0x24 (estopFell e)).sys.cause = 0x24 ∧ ∀ n, n < 48 → inSvc (enterTrip 0x24 (estopFell e)) n = false) := by
  have hkeeps := estopFell_keeps e
  have hdown := gdDemand_down true e
  rw [gdDemand_gd, ← estopFell_gd] at hdown
  have hgrid : (estopFell e).gd.demGrid = true := by
    rw [estopFell_gd]
    exact Bool.or_true _
  have hheld := estopFell_held e
  generalize estopFell e = f at hkeeps hdown hgrid hheld ⊢
  have htrip := enterTrip_down 0x24 hdown
  refine ⟨?_, htrip.dem, ?_, htrip.gdh, htrip.gdl, enterTrip_held 0x24 hheld, fun hcan hwarned => ?_⟩
  · rw [htrip.estop, hgd]
  · rcases enterTrip_gd 0x24 f with heq | ⟨g, heq⟩
    · rw [heq]
      exact hgrid
    · rw [heq]
      exact (gdDemand_down g f).demGrid hgrid
  · have hcan' : canTrip f 0x24 = true := by
      rw [canTrip, hkeeps.sys (by decide), hsys]
      exact hcan
    have hne : f.sys.st ≠ .trip := by
      intro hst
      rw [canTrip, hst] at hcan'
      exact Bool.noConfusion hcan'
    have hwarned' : f.hold.warned = false := by rw [hkeeps.hold (by decide), hhold]; exact hwarned
    obtain ⟨hst, hcause, -, -⟩ := enterTrip_sys hne hcan' hwarned'
    exact ⟨hst, hcause, fun n hn => enterTrip_out hn hne hcan' hwarned'⟩

/-- Settles O28: each fault as it is declared, the clearing test, and the filtered ESTOP. -/
theorem disconnectFaults : Obligations.DisconnectFaults := by
  unfold Obligations.DisconnectFaults
  refine ⟨?mismatch, ?absent, ?present, ?osc, ?refresh, ?write, ?cleared, ?kept, ?estop, ?doze, ?release⟩
  case mismatch =>
    intro s t since low hruns htesting hwait hclosing
    have heq : readbackMismatch low since (devAt s t) = gdFault (if low then 2 else 1)
        (modGd (fun g => if low then { g with gdlRb := !g.gdl } else { g with gdhRb := !g.gdh }) (devAt s t)) := by
      refine if_pos ⟨hruns, hwait, htesting, fun h => ?_⟩
      rw [two_usTicks]
      exact hclosing h
    obtain ⟨hfault, -, -, htrips⟩ := gdFault_after
      (fun g => if low then { g with gdlRb := !g.gdl } else { g with gdhRb := !g.gdh }) (if low then 2 else 1) s t
    exact runs_eq rfl heq (gdFault_keeps_after _ _) (by decide) ⟨hfault, htrips⟩
  case absent =>
    intro s t mv hruns hpeer hclosed hopening hmv
    have hgo : ¬ (¬ chanRuns (devAt s t) = true ∨ peerHolds (devAt s t) = true) := fun h =>
      h.elim (fun hr => hr hruns) (ne_true_of_eq_false hpeer)
    have heq : coilFault mv (devAt s t) = gdFault 3 (readCurrent mv (devAt s t)) := by
      rw [coilFault]
      exact (if_neg hgo).trans (if_pos ⟨hclosed, ne_true_of_eq_false hopening, hmv⟩)
    obtain ⟨hfault, hread, -, htrips⟩ := gdFault_after (fun g => { g with mv := mv }) 3 s t
    exact runs_eq rfl heq (gdFault_keeps_after _ _) (by decide) ⟨hfault, hread, htrips⟩
  case present =>
    intro s t mv hruns hpeer hclosed hgdh hgdl hmv hwait
    have hgo : ¬ (¬ chanRuns (devAt s t) = true ∨ peerHolds (devAt s t) = true) := fun h =>
      h.elim (fun hr => hr hruns) (ne_true_of_eq_false hpeer)
    have heq : coilFault mv (devAt s t) = gdFault 4 (readCurrent mv (devAt s t)) := by
      rw [coilFault]
      exact (if_neg hgo).trans ((if_neg (fun h => ne_true_of_eq_false hclosed h.1)).trans
        (if_pos ⟨ne_true_of_eq_false hgdh, ne_true_of_eq_false hgdl, hmv, hwait⟩))
    obtain ⟨hfault, hread, -, htrips⟩ := gdFault_after (fun g => { g with mv := mv }) 4 s t
    exact runs_eq rfl heq (gdFault_keeps_after _ _) (by decide) ⟨hfault, hread, htrips⟩
  case osc =>
    intro s t osc hruns
    have heq : oscFault osc (devAt s t) = gdFault (if osc then 9 else 8) (devAt s t) := if_pos hruns
    exact runs_eq rfl heq (gdFault_keeps _ _) (by decide) ⟨gdFault_channel _ _, gdFault_trips _ (devAt s t)⟩
  case refresh =>
    intro s t hruns hdoze hpaused hlock hwatch hwait
    have heq : refreshMiss (devAt s t) = gdFault 10 (modGd (fun g => { g with watch := false }) (devAt s t)) :=
      if_pos ⟨hruns, hdoze, ne_true_of_eq_false hpaused, hlock, hwatch, hwait⟩
    obtain ⟨hfault, -, hoff, htrips⟩ := gdFault_after (fun g => { g with watch := false }) 10 s t
    exact runs_eq rfl heq (gdFault_keeps_after _ _) (by decide) ⟨hfault, hoff, htrips⟩
  case write =>
    intro s t hst hfault htesting
    have heq : faultWrite (devAt s t) = modGd (fun g => { g with testing := 2, seqT := t }) (devAt s t) :=
      if_pos ⟨hst, hfault, htesting⟩
    exact runs_eq rfl heq (modGd_keeps _ _) (by decide) rfl
  case cleared =>
    intro s t gh gl mv htesting hpass
    have hpass' : clearPass gh gl mv (devAt s t) = true := hpass
    have htesting' : (devAt s t).gd.testing = 2 := htesting
    have heq : clearTestEnd gh gl mv (devAt s t) = modGd (fun g => { g with
        fault := false, alm := false, gdhRb := false, gdlRb := false })
        (modGd (fun g => { g with testing := 0, gdh := false, gdl := false }) (devAt s t)) := by
      rw [clearTestEnd, if_pos htesting']
      dsimp only
      rw [hpass']
      rfl
    exact runs_eq rfl heq ((modGd_keeps _ _).trans (modGd_keeps _ _)) (by decide) rfl
  case kept =>
    intro s t gh gl mv htesting hpass
    have hpass' : clearPass gh gl mv (devAt s t) = false := hpass
    have htesting' : (devAt s t).gd.testing = 2 := htesting
    have heq : clearTestEnd gh gl mv (devAt s t) =
        gdFault 11 (modGd (fun g => { g with testing := 0, gdh := false, gdl := false }) (devAt s t)) := by
      rw [clearTestEnd, if_pos htesting']
      dsimp only
      rw [hpass', if_neg Bool.false_ne_true]
    exact runs_eq rfl heq (gdFault_keeps_after _ _) (by decide) (gdFault_channel _ _)
  case estop =>
    intro s t since hruns hnew hdoze hheld
    have heq := estopAssert_eq (d := devAt s t) hheld hruns hnew
    have hseen : Keeps [.gd] (devAt s t) (estopSeen (devAt s t)) := modGd_keeps _ _
    have hgd : (estopSeen (devAt s t)).gd = { s.dev.gd with estop := true } := rfl
    generalize estopSeen (devAt s t) = e at heq hseen hgd
    have hst : ¬ e.sys.st = .doze := by
      rw [hseen.sys (by decide)]
      exact hdoze
    rw [if_neg hst] at heq
    exact runs_eq rfl heq (((hseen.mono (by decide)).andThen (estopFell_keeps e) (by decide)).andThen (enterTrip_keeps _ _)
      (by decide)) (by decide) (estopTrips (d := s.dev) hgd (hseen.sys (by decide)) (hseen.hold (by decide)))
  case doze =>
    intro s t since hruns hnew hdoze hheld hwarned
    have heq := estopAssert_eq (d := devAt s t) hheld hruns hnew
    have hseen : Keeps [.gd] (devAt s t) (estopSeen (devAt s t)) := modGd_keeps _ _
    have hgd : (estopSeen (devAt s t)).gd = { s.dev.gd with estop := true } := rfl
    generalize estopSeen (devAt s t) = e at heq hseen hgd
    have hst : e.sys.st = .doze := by
      rw [hseen.sys (by decide)]
      exact hdoze
    rw [if_pos hst] at heq
    have hwake := (hseen.mono (qs := [.gd, .wins, .clk, .cask, .acq, .prm, .carat, .can, .gs]) (by decide)).andThen
      (wakeAll_keeps e) (by decide)
    have hgd' : (wakeAll e).gd = { s.dev.gd with estop := true } := by rw [(wakeAll_keeps e).gd (by decide), hgd]
    generalize wakeAll e = f at heq hwake hgd'
    have hcan : canTrip s.dev 0x24 = true := by
      rw [canTrip, hdoze]
      rfl
    obtain ⟨hestop, hdem, hgrid, hgdh, hgdl, hhold, htrips⟩ := estopTrips (d := s.dev) hgd' (hwake.sys (by decide))
      (hwake.hold (by decide))
    obtain ⟨hsys, hcause, -⟩ := htrips hcan hwarned
    exact runs_eq rfl heq (((hwake.mono (by decide)).andThen (estopFell_keeps f) (by decide)).andThen (enterTrip_keeps _ _)
      (by decide)) (by decide) ⟨hestop, hdem, hgrid, hgdh, hgdl, hhold, hsys, hcause⟩
  case release =>
    intro s t since hheld
    have heq : estopRelease since (devAt s t) = modGd (fun g => { g with estop := false }) (devAt s t) :=
      if_pos (decide_eq_true hheld)
    exact runs_eq rfl heq (modGd_keeps _ _) (by decide) rfl

end Sys2Proof.Safety
end

section
/-!
PROOF. Grid synthesis, ride-through and Charm outside the tick: setpoints, dispatch points, holds and timers (R184, R198,
R207, R209, R217, R228, R229, R242 to R246).
-/
namespace Sys2Proof.Safety

open Sys2Proof.Machine

/-! ### Parameters -/

theorem prm_setPrm_self (p i v : Nat) (d : Dev) : prm (setPrm p i v d) p i = v := by
  simp only [prm, setPrm, tget_tput_self]

theorem prm_setPrm_other {p i q j : Nat} (h : pkey q j ≠ pkey p i) (v : Nat) (d : Dev) : prm (setPrm p i v d) q j = prm d q j := by
  simp only [prm, setPrm]
  exact tget_tput_other _ _ _ _ h

theorem toInt_ofInt {v : Int} (hlo : -2147483648 ≤ v) (hhi : v < 2147483648) : toInt 32 (ofInt 32 v) = v := by
  unfold toInt ofInt
  dsimp only
  split <;> omega

theorem answer_prm (st dt p i : Nat) (d : Dev) : prm (answer st dt d) p i = prm d p i := prm_of_prm rfl p i

theorem gsSetpoint_ok {pid : Nat} {v : Int} {x : Desc} {d : Dev} (hpid : pid = 0x5031 ∨ pid = 0x5034 ∨ pid = 0x5035)
    (hdesc : descOf pid = some x) (hin : inRange x (ofInt 32 v) = true) (hlo : -2147483648 ≤ v) (hhi : v < 2147483648) :
    gsSetpoint pid v d = answer 0 0 (setPrm pid 0 (ofInt 32 v) d) := by
  rw [gsSetpoint, if_pos hpid, hdesc]
  exact if_pos ⟨hin, hlo, hhi⟩

/-! ### Dispatch points -/

/-- The stale flags of the dispatch points P and Q where `p` and `q` are new. -/
def staleMarked (p q : Bool) (d : Dev) : Dev :=
  { d with gs := { d.gs with pStale := d.gs.pStale || p, qStale := d.gs.qStale || q } }

/-- A dispatch point of P that is newly stale is marked and raises EV_PTSTALE, and one of Q may follow. -/
theorem dispatchStale_new {d : Dev} (h : prm d 0x5030 0 = 1) (hbad : dispatchOk d (prm d 0x5032 0) = false)
    (hfresh : d.gs.pStale = false) : ∃ q : Bool, dispatchStale d =
      if q then raiseI 8 0 (raiseI 8 0 (staleMarked true q d)) else raiseI 8 0 (staleMarked true q d) := by
  have hnew : (!dispatchOk d (prm d 0x5032 0) && !d.gs.pStale) = true := by rw [hbad, hfresh]; rfl
  unfold dispatchStale
  rw [if_pos h]
  dsimp only
  rw [hnew, if_pos rfl]
  exact ⟨_, rfl⟩

theorem staleMarked_keeps (p q : Bool) (d : Dev) : Keeps [.gs] d (staleMarked p q d) := keeps_gs _ d

theorem dispatchStale_known {d : Dev} (hp : d.gs.pStale = true) (hq : d.gs.qStale = true) : dispatchStale d = d := by
  have hknownP : (!dispatchOk d (prm d 0x5032 0) && !d.gs.pStale) = false := by rw [hp]; exact Bool.and_false _
  have hknownQ : (decide (prm d 0x5033 0 = 0) && !dispatchOk d (prm d 0x503C 0) && !d.gs.qStale) = false := by
    rw [hq]
    exact Bool.and_false _
  unfold dispatchStale
  split
  · dsimp only
    rw [hknownP, hknownQ, if_neg Bool.false_ne_true, if_neg Bool.false_ne_true, Bool.or_false, Bool.or_false]
  · rfl

/-! ### Transitions to RUN -/

/-- A transition to RUN from another state than FORM leaves grid synthesis. -/
theorem transition_run_gs {c : Nat} {d : Dev} (h : d.sys.st ≠ .form) : (transition .run c d).gs = d.gs := by
  have hleave : (leaveState d).gs = d.gs := by
    unfold leaveState
    cases hst : d.sys.st with
    | form => exact absurd hst h
    | service =>
      dsimp only
      exact (keeps_forAll 48 _ (fun n f => modLeg_keeps n _ f) d).gs (by decide)
    | trip => rfl
    | off => rfl
    | clasp => rfl
    | doze => rfl
    | ready => rfl
    | sync => rfl
    | run => rfl
    | ride => rfl
  have hprobe : probeState .run d = d := if_pos (.inl rfl)
  have henter : ∀ e : Dev, (enterState .run e).gs = e.gs := fun _ => rfl
  unfold transition
  split
  · rfl
  · rw [(calAbort_keeps _ _).gs (by decide), henter, raise_gs]
    dsimp only
    rw [hprobe, hleave]

/-- The device as RIDE ends: the recovery ramp from the power that flows (R218). -/
def rideEnded (d : Dev) : Dev :=
  { d with
    rt := { d.rt with pramp := true, okSince := none, injLim := false, jumpHold := false },
    gs := { d.gs with pR := d.gs.pCmd, qCmd := d.gs.qMeas } }

theorem rideEnded_keeps (d : Dev) : Keeps [.rt, .gs] d (rideEnded d) :=
  ⟨fun p hp => by cases p <;> first | rfl | exact absurd (by decide) hp⟩

theorem heldFor_some {a hold : Nat} {x : Option Nat} {d : Dev} (h : x = some a) : heldFor x hold d = decide (a + hold * 400000 ≤ d.t) := by
  subst h
  rfl

/-- A run that has not lasted long enough is not held. -/
theorem heldFor_early {hold : Nat} {x : Option Nat} {d : Dev} (h : ∀ a, x = some a → d.t < a + hold * 400000) :
    heldFor x hold d = false := by
  cases x with
  | none => rfl
  | some a =>
    rw [heldFor_some rfl]
    exact decide_eq_false (Nat.not_le.mpr (h a rfl))

/-- Settles O31: the writes of setpoints, stale dispatch points, and each hold at its time and before it. -/
theorem gridInputs : Obligations.GridInputs := by
  unfold Obligations.GridInputs
  refine ⟨?setpoint, ?stale, ?known, ?rideExit, ?formExit, ?rideEarly, ?formEarly, ?rearmEarly, ?jumpEarly, ?rearmF, ?rearmU,
    ?jump⟩
  case setpoint =>
    intro s t cls pid v x hs hpid hdesc hin hlo hhi
    have heq := (immediate_of_served (d := devAt s t) hs _).trans
      (gsSetpoint_ok (d := devAt s t) hpid hdesc hin hlo hhi)
    refine runs_eq rfl heq (((setPrm_keeps _ _ _ _).mono (by decide)).andThen (answer_keeps 0 0 _) (by decide)) (by decide)
      ⟨answered_answer 0 0 _, ?_, fun p i hne => ?_⟩
    · rw [prmI, answer_prm, prm_setPrm_self, toInt_ofInt hlo hhi]
    · rw [answer_prm, prm_setPrm_other hne]
      rfl
  case stale =>
    intro s t hon hbad hfresh hup
    obtain ⟨q, heq⟩ := dispatchStale_new (d := devAt s t) hon hbad hfresh
    have hmark := staleMarked_keeps true q (devAt s t)
    have hgs : (staleMarked true q (devAt s t)).gs.pStale = true ∧
        (staleMarked true q (devAt s t)).gs.pSet = s.dev.gs.pSet := ⟨Bool.or_true _, rfl⟩
    generalize staleMarked true q (devAt s t) = e at heq hmark hgs
    have hup' : e.sys.up = true := by rw [hmark.sys (by decide)]; exact hup
    have hpend : Pending 8 (raiseI 8 0 e) := raiseI_pending 8 0 e hup' (by decide)
    obtain ⟨hstale, hset⟩ := hgs
    cases q with
    | false =>
      refine runs_eq rfl (heq.trans (if_neg Bool.false_ne_true)) ((hmark.mono (by decide)).andThen (raiseI_keeps _ _ _)
        (by decide)) (by decide) ⟨?_, hpend, ?_⟩
      · rw [raiseI_gs]
        exact hstale
      · rw [raiseI_gs]
        exact hset
    | true =>
      refine runs_eq rfl (heq.trans (if_pos rfl)) (((hmark.mono (by decide)).andThen (raiseI_keeps _ _ _)
        (by decide)).andThen (raiseI_keeps _ _ _) (by decide)) (by decide) ⟨?_, raiseI_pending 8 0 _ ?_ (by decide), ?_⟩
      · rw [raiseI_gs, raiseI_gs]
        exact hstale
      · rw [raiseI_sys]
        exact hup'
      · rw [raiseI_gs, raiseI_gs]
        exact hset
  case known =>
    intro s t hp hq
    exact runs_eq rfl (dispatchStale_known (d := devAt s t) hp hq) (Keeps.refl _ _) (by decide) trivial
  case rideExit =>
    intro s t a hst hok hwait hwarned
    have heq : rideExit (devAt s t) = transition .run 0x11 (rideEnded (devAt s t)) := by
      exact if_pos ⟨hst, (heldFor_some hok).trans (decide_eq_true hwait)⟩
    have hended := rideEnded_keeps (devAt s t)
    have hrt : (rideEnded (devAt s t)).rt.pramp = true ∧ (rideEnded (devAt s t)).rt.injLim = false := ⟨rfl, rfl⟩
    have hgs : (rideEnded (devAt s t)).gs.pR = s.dev.gs.pCmd ∧ (rideEnded (devAt s t)).gs.qCmd = s.dev.gs.qMeas := ⟨rfl, rfl⟩
    generalize rideEnded (devAt s t) = e at heq hended hrt hgs
    have hw : e.hold.warned = false := by rw [hended.hold (by decide)]; exact hwarned
    have hst' : e.sys.st = .ride := by rw [hended.sys (by decide)]; exact hst
    refine runs_eq rfl heq ((hended.mono (by decide)).andThen (transition_keeps _ _ _) (by decide)) (by decide)
      ⟨transition_st _ (.inl hw), transition_cause _ (.inl hw), ?_, ?_, ?_, ?_, ?_⟩
    · rw [transition_prev _ (.inl hw), hst']
    · rw [(transition_keeps _ _ _).rt (by decide)]
      exact hrt.1
    · rw [(transition_keeps _ _ _).rt (by decide)]
      exact hrt.2
    · rw [transition_run_gs (by rw [hst']; decide)]
      exact hgs.1
    · rw [transition_run_gs (by rw [hst']; decide)]
      exact hgs.2
  case formExit =>
    intro s t a hst hauto hok hwait
    have heq : formExit (devAt s t) = stageExit 0x14 (devAt s t) := by
      exact if_pos ⟨hst, hauto, (heldFor_some hok).trans (decide_eq_true hwait)⟩
    exact runs_eq rfl heq ⟨fun p hp => by cases p <;> first | rfl | exact absurd (by decide) hp⟩ (by decide) ⟨rfl, rfl⟩
  case rideEarly =>
    intro s t hearly
    have heq : rideExit (devAt s t) = devAt s t := if_neg (fun h => ne_true_of_eq_false (heldFor_early hearly) h.2)
    exact runs_eq rfl heq (Keeps.refl _ _) (by decide) trivial
  case formEarly =>
    intro s t hearly
    have heq : formExit (devAt s t) = devAt s t := if_neg (fun h => ne_true_of_eq_false (heldFor_early hearly) h.2.2)
    exact runs_eq rfl heq (Keeps.refl _ _) (by decide) trivial
  case rearmEarly =>
    intro s t hearlyF hearlyU fr
    have heq : rearm fr (devAt s t) = devAt s t := by
      cases fr with
      | true => exact if_neg (fun h => Nat.not_le.mpr hearlyF h.2)
      | false => exact if_neg (fun h => Nat.not_le.mpr hearlyU h.2)
    exact runs_eq rfl heq (Keeps.refl _ _) (by decide) trivial
  case jumpEarly =>
    intro s t hearly
    have heq : jumpHoldEnd (devAt s t) = devAt s t := if_neg (fun h => Nat.not_le.mpr hearly h.2)
    exact runs_eq rfl heq (Keeps.refl _ _) (by decide) trivial
  case rearmF =>
    intro s t hheld hwait
    have heq : rearm true (devAt s t) = { devAt s t with rt := { s.dev.rt with heldF := false, tauF := 0 } } :=
      if_pos ⟨hheld, hwait⟩
    exact runs_eq rfl heq (keeps_rt _ _) (by decide) rfl
  case rearmU =>
    intro s t hheld hwait
    have heq : rearm false (devAt s t) = { devAt s t with rt := { s.dev.rt with heldU := false, tauU := 0 } } :=
      if_pos ⟨hheld, hwait⟩
    exact runs_eq rfl heq (keeps_rt _ _) (by decide) rfl
  case jump =>
    intro s t hheld hwait
    have heq : jumpHoldEnd (devAt s t) = { devAt s t with rt := { s.dev.rt with jumpHold := false } } :=
      if_pos ⟨hheld, hwait⟩
    exact runs_eq rfl heq (keeps_rt _ _) (by decide) rfl

/-! ### Charm and transitions -/

/-- Charm without its probe and its blanking, which transitions change. -/
def charmCore (c : Charm) : Charm :=
  { c with active := false, eNext := 0, open_ := [], blank := false, blankFrom := 0, formDone := false }

theorem enterState_charmCore (target : OpState) (d : Dev) : charmCore (enterState target d).charm = charmCore d.charm := by
  unfold enterState
  cases target with
  | ride => exact congrArg charmCore ((sweepAbort_keeps d).charm (by decide))
  | service => exact congrArg charmCore ((sweepAbort_keeps d).charm (by decide))
  | trip =>
    dsimp only
    rw [(sweepAbort_keeps _).charm (by decide)]
    have hzero : ∀ f : Dev, (zeroPower f).charm = f.charm := fun _ => rfl
    rw [hzero, (keeps_forAll 4 _ (fun u f => modUnit_keeps u _ f) _).charm (by decide)]
  | off => rfl
  | clasp => rfl
  | doze => rfl
  | ready => rfl
  | sync => rfl
  | run => rfl
  | form => rfl

theorem leaveState_charm {d : Dev} (h : d.sys.st ≠ .trip) : (leaveState d).charm = d.charm := by
  unfold leaveState
  cases hst : d.sys.st with
  | trip => exact absurd hst h
  | service =>
    dsimp only
    exact (keeps_forAll 48 _ (fun n f => modLeg_keeps n _ f) d).charm (by decide)
  | form => rfl
  | off => rfl
  | clasp => rfl
  | doze => rfl
  | ready => rfl
  | sync => rfl
  | run => rfl
  | ride => rfl

theorem probeState_charmCore (target : OpState) (d : Dev) : charmCore (probeState target d).charm = charmCore d.charm := by
  unfold probeState
  split
  · rfl
  · unfold charmStop
    dsimp only
    split
    · rfl
    · rfl

/-- A transition out of another state than TRIP leaves Charm but for its probe and its blanking. -/
theorem transition_charmCore {target : OpState} {c : Nat} {d : Dev} (h : d.sys.st ≠ .trip) :
    charmCore (transition target c d).charm = charmCore d.charm := by
  unfold transition
  split
  · rfl
  · rw [(calAbort_keeps _ _).charm (by decide), enterState_charmCore, raise_charm]
    dsimp only
    have hprobe := (probeState_keeps target d).sys (by decide)
    have hcore := probeState_charmCore target d
    generalize probeState target d = e at hprobe hcore ⊢
    rw [leaveState_charm (by rw [hprobe]; exact h), hcore]

/-- What an entry into TRIP leaves of Charm. -/
theorem enterTrip_charmCore {c : Nat} {d : Dev} (hst : d.sys.st ≠ .trip) (hcan : canTrip d c = true)
    (hwarned : d.hold.warned = false) : charmCore (enterTrip c d).charm = charmCore d.charm := by
  have hheld := tripHeld_keeps c d
  rw [(enterTrip_parts hst hcan hwarned).charm (by decide), tripEntered]
  dsimp only
  rw [transition_charmCore (by rw [hheld.sys (by decide)]; exact hst), hheld.charm (by decide)]

/-- An entry into TRIP leaves the persistence of an islanding cause. -/
theorem enterTrip_islandGone {c : Nat} {d : Dev} (hst : d.sys.st ≠ .trip) (hcan : canTrip d c = true)
    (hwarned : d.hold.warned = false) : (enterTrip c d).sys.islandGone = d.sys.islandGone := by
  have hheld := tripHeld_keeps c d
  have hw : (tripHeld c d).hold.warned = false := by rw [hheld.hold (by decide)]; exact hwarned
  rw [(enterTrip_parts hst hcan hwarned).sys (by decide), tripEntered]
  dsimp only
  rw [transition_sys c (.inl hw)]
  dsimp only
  obtain ⟨cs, r, hleave⟩ := leaveState_sys (probeState .trip (tripHeld c d))
  rw [hleave, (probeState_keeps _ _).sys (by decide), hheld.sys (by decide)]

/-! ### Trips of Charm -/

theorem ne_trip_of_canTrip {c : Nat} {d : Dev} (h : canTrip d c = true) : d.sys.st ≠ .trip := by
  intro hst
  rw [canTrip, hst] at h
  exact Bool.noConfusion h

/-- The device as an islanding cause begins to persist (R246). -/
def islandBegun (d : Dev) : Dev :=
  { d with sys := { d.sys with islandGone := false }, charm := { d.charm with recSince := none } }

theorem islandBegun_keeps (d : Dev) : Keeps [.sys, .charm] d (islandBegun d) :=
  ⟨fun p hp => by cases p <;> first | rfl | exact absurd (by decide) hp⟩

theorem trip23_eq (d : Dev) : trip23 d = enterTrip 0x23 (islandBegun d) := rfl

theorem trip23_keeps (d : Dev) : Keeps tripParts d (trip23 d) := by
  rw [trip23_eq]
  exact ((islandBegun_keeps d).mono (by decide)).trans (enterTrip_keeps _ _)

/-- A trip of Charm: the state, its cause, which persists, and what it leaves of Charm. -/
theorem trip23_trips {d : Dev} (hcan : canTrip d 0x23 = true) (hwarned : d.hold.warned = false) :
    (trip23 d).sys.st = .trip ∧ (trip23 d).sys.cause = 0x23 ∧ (trip23 d).sys.islandGone = false ∧
      charmCore (trip23 d).charm = charmCore { d.charm with recSince := none } := by
  have hcan' : canTrip (islandBegun d) 0x23 = true := hcan
  have hne := ne_trip_of_canTrip hcan'
  have hwarned' : (islandBegun d).hold.warned = false := hwarned
  obtain ⟨hst, hcause, -, -⟩ := enterTrip_sys hne hcan' hwarned'
  rw [trip23_eq]
  exact ⟨hst, hcause, enterTrip_islandGone hne hcan' hwarned', enterTrip_charmCore hne hcan' hwarned'⟩

/-- Charm as TIME_OK has been 0 for its time (R242). -/
def noTimeMarked (d : Dev) : Dev := { d with charm := { d.charm with noTimeDone := true } }

theorem noTimeMarked_keeps (d : Dev) : Keeps [.charm] d (noTimeMarked d) := keeps_charm _ d

theorem noTimeActs_marked (d : Dev) : noTimeActs (noTimeMarked d) 2 =
    (decide (prm d 0x6000 0 = 1) && !d.charm.timeOk && decide (prm d 0x6031 0 = 2)) := by
  have h : noTimeActs (noTimeMarked d) 2 =
    (decide (prm d 0x6000 0 = 1) && !d.charm.timeOk && true && decide (prm d 0x6031 0 = 2)) := rfl
  rw [h, Bool.and_true]

theorem noTime_eq {a : Nat} {d : Dev} (hok : d.charm.timeOk = false) (hdone : d.charm.noTimeDone = false)
    (hlost : d.charm.timeLostAt = some a) (hwait : a + prm d 0x6032 0 * 400000000 ≤ d.t) :
    noTime d = noTimeTrip (noTimeMarked d) := by
  rw [noTime, hlost]
  exact if_pos ⟨ne_true_of_eq_false hok, ne_true_of_eq_false hdone, hwait⟩

/-- The recorder units and Charm as islanding is decided. -/
def islandNoted (d : Dev) : Dev :=
  let d0 := forAll 4 (fun u e => modUnit u (fun x => if x.st = 3 then { x with islandSeen := true } else x) e)
    { d with loupe := { d.loupe with islandT := some d.t } }
  { d0 with charm := { d0.charm with island := true, zlow := 0, reported := !islandActs d } }

theorem islanding_eq (d : Dev) : islanding d =
    if islandActs d then trip23 (raiseI 66 0 (islandNoted d)) else raiseI 66 0 (islandNoted d) := rfl

theorem unitsNoted_keeps (d : Dev) : Keeps [.loupe] d
    (forAll 4 (fun u e => modUnit u (fun x => if x.st = 3 then { x with islandSeen := true } else x) e)
      { d with loupe := { d.loupe with islandT := some d.t } }) :=
  (keeps_loupe _ d).trans (keeps_forAll 4 _ (fun u e => modUnit_keeps u _ e) _)

theorem islandNoted_keeps (d : Dev) : Keeps [.charm, .loupe] d (islandNoted d) :=
  ((unitsNoted_keeps d).mono (by decide)).andThen (keeps_charm _ _) (by decide)

theorem islandNoted_charm (d : Dev) :
    (islandNoted d).charm = { d.charm with island := true, zlow := 0, reported := !islandActs d } := by
  unfold islandNoted
  dsimp only
  rw [(unitsNoted_keeps d).charm (by decide)]

/-- Charm as an automatic FORM has reached its time. -/
def formReached (d : Dev) : Dev := { d with charm := { d.charm with formt := true, formDone := true } }

theorem formTmax_eq {a : Nat} {d : Dev} (hon : prm d 0x6000 0 = 1) (hst : d.sys.st = .form) (hauto : d.sys.formAuto = true)
    (hdone : d.charm.formDone = false) (hat : d.sys.autoT = some a) (hwait : a + prm d 0x6003 0 * 400000 ≤ d.t) :
    formTmax d = islanding (formReached d) := by
  refine if_pos ⟨hon, hst, hauto, ne_true_of_eq_false hdone, ?_⟩
  rw [hat]
  exact hwait

/-- Settles O32: each timer of Charm at its time, and before it. -/
theorem islandingTimers : Obligations.IslandingTimers := by
  unfold Obligations.IslandingTimers
  refine ⟨?susp, ?blank, ?noted, ?noTimeTrips, ?formTrips, ?formReports, ?gone, ?suspEarly, ?blankEarly, ?noTimeEarly,
    ?formEarly, ?recEarly⟩
  case susp =>
    intro s t hsusp hwait
    have heq : suspClear (devAt s t) = { devAt s t with charm := { s.dev.charm with susp := false, suspSrc := 0 } } :=
      if_pos ⟨hsusp, hwait⟩
    exact runs_eq rfl heq (keeps_charm _ _) (by decide) rfl
  case blank =>
    intro s t hwait
    have heq : blankEnd (devAt s t) = { devAt s t with charm := { s.dev.charm with blank := false } } := if_pos hwait
    exact runs_eq rfl heq (keeps_charm _ _) (by decide) rfl
  case noted =>
    intro s t a hok hdone hlost hwait hact
    have hno : ¬ (noTimeActs (noTimeMarked (devAt s t)) 2 = true ∧ canTrip (noTimeMarked (devAt s t)) 0x23 = true ∧
        ¬ (noTimeMarked (devAt s t)).sys.standby = true) := by
      rintro ⟨hacts, hcan, hstandby⟩
      rw [noTimeActs_marked] at hacts
      simp only [Bool.and_eq_true, decide_eq_true_eq] at hacts
      rcases hact with h0 | h2 | hc | hb
      · exact absurd (h0.symm.trans hacts.1.1) (by decide)
      · exact h2 hacts.2
      · exact ne_true_of_eq_false hc hcan
      · exact hstandby hb
    exact runs_eq rfl ((noTime_eq (d := devAt s t) hok hdone hlost hwait).trans (if_neg hno)) (noTimeMarked_keeps _)
      (by decide) rfl
  case noTimeTrips =>
    intro s t a hon hok hdone hlost hwait hact hcan hstandby hwarned
    have hacts : noTimeActs (noTimeMarked (devAt s t)) 2 = true := by
      have hprm : ∀ p i, prm (devAt s t) p i = prm s.dev p i := fun _ _ => rfl
      have hok' : (devAt s t).charm.timeOk = false := hok
      rw [noTimeActs_marked, hprm, hprm, hon, hok', hact]
      rfl
    have hmark := noTimeMarked_keeps (devAt s t)
    have hcan' : canTrip (noTimeMarked (devAt s t)) 0x23 = true := hcan
    have hwarned' : (noTimeMarked (devAt s t)).hold.warned = false := hwarned
    have heq := (noTime_eq (d := devAt s t) hok hdone hlost hwait).trans
      (if_pos ⟨hacts, hcan', ne_true_of_eq_false hstandby⟩)
    generalize noTimeMarked (devAt s t) = e at heq hmark hcan' hwarned'
    obtain ⟨hst, hcause, hgone, -⟩ := trip23_trips hcan' hwarned'
    exact runs_eq rfl heq ((hmark.mono (by decide)).trans (trip23_keeps e)) (by decide) ⟨hst, hcause, hgone⟩
  case formTrips =>
    intro s t a hon hst hauto hdone hat hwait hact hwarned
    have hreached : Keeps [.charm] (devAt s t) (formReached (devAt s t)) := keeps_charm _ _
    have hformt : (formReached (devAt s t)).charm.formt = true := rfl
    have heq := formTmax_eq (d := devAt s t) hon hst hauto hdone hat hwait
    have hacts : islandActs (formReached (devAt s t)) = true := by
      have hprm : ∀ p i, prm (formReached (devAt s t)) p i = prm s.dev p i := fun _ _ => rfl
      have hsys : (formReached (devAt s t)).sys = s.dev.sys := rfl
      rw [islandActs, hprm, hsys, hact, hauto]
      simp
    generalize formReached (devAt s t) = e at heq hreached hacts hformt
    rw [islanding_eq, if_pos hacts] at heq
    have hnoted := islandNoted_keeps e
    have hcharm := islandNoted_charm e
    generalize islandNoted e = f at heq hnoted hcharm
    have hraise := raiseI_keeps 66 0 f
    have hcan : canTrip (raiseI 66 0 f) 0x23 = true := by
      rw [canTrip, hraise.sys (by decide), hnoted.sys (by decide), hreached.sys (by decide)]
      have hst' : (devAt s t).sys.st = .form := hst
      rw [hst']
    have hwarned' : (raiseI 66 0 f).hold.warned = false := by
      rw [hraise.hold (by decide), hnoted.hold (by decide), hreached.hold (by decide)]
      exact hwarned
    obtain ⟨htrip, hcause, hgone, hcore⟩ := trip23_trips hcan hwarned'
    rw [raiseI_charm] at hcore
    refine runs_eq rfl heq ((((hreached.mono (by decide)).andThen hnoted (by decide)).andThen hraise (by decide)).trans
      (trip23_keeps _)) (by decide) ⟨?_, ?_, htrip, hcause, hgone⟩
    · have h : (charmCore (trip23 (raiseI 66 0 f)).charm).formt = (charmCore { f.charm with recSince := none }).formt :=
        congrArg Charm.formt hcore
      refine Eq.trans (b := (charmCore { f.charm with recSince := none }).formt) h ?_
      rw [hcharm]
      exact hformt
    · have h : (charmCore (trip23 (raiseI 66 0 f)).charm).island = (charmCore { f.charm with recSince := none }).island :=
        congrArg Charm.island hcore
      refine Eq.trans (b := (charmCore { f.charm with recSince := none }).island) h ?_
      rw [hcharm]
      rfl
  case formReports =>
    intro s t a hon hst hauto hdone hat hwait hact hup
    have hreached : Keeps [.charm] (devAt s t) (formReached (devAt s t)) := keeps_charm _ _
    have hformt : (formReached (devAt s t)).charm.formt = true := rfl
    have heq := formTmax_eq (d := devAt s t) hon hst hauto hdone hat hwait
    have hacts : islandActs (formReached (devAt s t)) = false := by
      have hprm : ∀ p i, prm (formReached (devAt s t)) p i = prm s.dev p i := fun _ _ => rfl
      rw [islandActs, hprm, hact]
      rfl
    generalize formReached (devAt s t) = e at heq hreached hacts hformt
    rw [islanding_eq, if_neg (ne_true_of_eq_false hacts)] at heq
    have hnoted := islandNoted_keeps e
    have hcharm := islandNoted_charm e
    generalize islandNoted e = f at heq hnoted hcharm
    refine runs_eq rfl heq (((hreached.mono (by decide)).andThen hnoted (by decide)).andThen (raiseI_keeps _ _ _) (by decide))
      (by decide) ⟨?_, ?_, raiseI_pending 66 0 _ ?_ (by decide)⟩
    · rw [raiseI_charm, hcharm]
      exact hformt
    · rw [raiseI_charm, hcharm]
    · rw [hnoted.sys (by decide), hreached.sys (by decide)]
      exact hup
  case gone =>
    intro s t a hrec hst hwait
    have hrec' : (devAt s t).charm.recSince = some a := hrec
    have heq : recHold (devAt s t) = { devAt s t with sys := { s.dev.sys with islandGone := true } } := by
      rw [recHold, hrec']
      exact if_pos ⟨hst, hwait⟩
    exact runs_eq rfl heq (keeps_sys _ _) (by decide) rfl
  case suspEarly =>
    intro s t hearly
    have heq : suspClear (devAt s t) = devAt s t := if_neg (fun h => Nat.not_le.mpr hearly h.2)
    exact runs_eq rfl heq (Keeps.refl _ _) (by decide) trivial
  case blankEarly =>
    intro s t hearly
    have heq : blankEnd (devAt s t) = devAt s t := if_neg (Nat.not_le.mpr hearly)
    exact runs_eq rfl heq (Keeps.refl _ _) (by decide) trivial
  case noTimeEarly =>
    intro s t a hlost hearly
    have hlost' : (devAt s t).charm.timeLostAt = some a := hlost
    have heq : noTime (devAt s t) = devAt s t := by
      rw [noTime, hlost']
      exact if_neg (fun h => Nat.not_le.mpr hearly h.2.2)
    exact runs_eq rfl heq (Keeps.refl _ _) (by decide) trivial
  case formEarly =>
    intro s t a hat hearly
    have heq : formTmax (devAt s t) = devAt s t := by
      refine if_neg (fun h => Nat.not_le.mpr hearly ?_)
      have hlate := h.2.2.2.2
      have hat' : (devAt s t).sys.autoT = some a := hat
      rw [hat'] at hlate
      exact hlate
    exact runs_eq rfl heq (Keeps.refl _ _) (by decide) trivial
  case recEarly =>
    intro s t a hrec hearly
    have hrec' : (devAt s t).charm.recSince = some a := hrec
    have heq : recHold (devAt s t) = devAt s t := by
      rw [recHold, hrec']
      exact if_neg (fun h => Nat.not_le.mpr hearly h.2)
    exact runs_eq rfl heq (Keeps.refl _ _) (by decide) trivial

end Sys2Proof.Safety
end

section
/-!
PROOF. Requests for a state (R22 to R29): the two statements about them fail, each on a state that is written out here.
-/
namespace Sys2Proof.Safety

open Sys2Proof.Machine

/-- What a statement about a command says of the device that the command leaves. -/
theorem post_of_runs {c : Instr} {t : Nat} {s : State} {f : Dev → Dev} {ps : List Part} {post : Dev → Prop}
    (he : exec c s = lift t f s) (h : Runs c t s ps post) : Keeps (.t :: ps) s.dev (f (devAt s t)) ∧ post (f (devAt s t)) := by
  obtain ⟨s', hexec, -, ⟨-, -, hkeeps⟩, hpost⟩ := h
  have hs : s' = { s with dev := f (devAt s t) } := by
    rw [he, lift] at hexec
    injection hexec with h
    exact h.symm
  rw [hs] at hkeeps hpost
  exact ⟨hkeeps, hpost⟩

/-- A device in TRIP with no cause left, whose islanding has been reported to the host and not ended (R244). -/
def islandHeld : State :=
  { State.reset with dev := { State.reset.dev with
      sys := { State.reset.dev.sys with up := true, st := .trip }
      charm := { State.reset.dev.charm with island := true, reported := true } } }

theorem islandHeld_ready : (request 1 1 true reqReady (devAt islandHeld 0)).charm.island = true := by decide +kernel

/-- Refutes O33: a request for READY in TRIP ends ISLAND only where the islanding has not been reported, so that a reported
one is still shown in READY. -/
theorem not_requestsDown : ¬ Obligations.RequestsDown := by
  unfold Obligations.RequestsDown
  rintro ⟨hready, -⟩
  have hserved : RequestServed islandHeld 0 1 1 := ⟨⟨rfl, rfl, Nat.le_refl 1, rfl, rfl⟩, rfl, by decide, rfl⟩
  obtain ⟨-, -, -, -, -, -, -, -, hisland⟩ := post_of_runs (f := request 1 1 true reqReady) rfl
    (hready islandHeld 0 1 hserved rfl (by decide) (by decide) rfl)
  exact Bool.noConfusion (islandHeld_ready.symm.trans hisland)

/-- A wake from DOZE to RUN on a device whose first PV cascade stands far outside its range, so that the setpoint of V(0)
(0x2202) and the set-up of bridge 0 (0x5060) are one entry of the active values: the abort of the sweep that is under way
writes V_op of −1 there, which enables bridge 0 with the legs 63, and leg 63 is in service. -/
def strayedSweep : State :=
  { State.reset with dev := { State.reset.dev with
      sys := { State.reset.dev.sys with up := true, st := .doze, auto := .wakeCheck }
      gd := { State.reset.dev.gd with closed := true }
      prm := { State.reset.dev.prm with active := [(pkey 0x7000 0, (0x5060 - 0x2202) * 65536)] }
      legs := [(63, { insvc := true })]
      pv := { State.reset.dev.pv with sweepPh := 2, vop := -1 } } }

theorem strayedSweep_placed : 0 < mOn (runPlacement (transition .run 0x05 (powerOff (devAt strayedSweep 0)))) := by
  decide +kernel

theorem strayedSweep_trips : (wakeCheckDone 0 0 false (devAt strayedSweep 0)).sys.st = .trip := by decide +kernel

/-- Refutes O34: with no AC leg to place the entry into RUN trips (R25), and the bridge that the statement asks for can come
up only as the entry into TRIP aborts the sweep. -/
theorem not_requestsUp : ¬ Obligations.RequestsUp := by
  unfold Obligations.RequestsUp
  rintro ⟨-, -, -, -, -, -, -, -, -, -, hwake, -⟩
  obtain ⟨-, hrun, -⟩ := post_of_runs (f := wakeCheckDone 0 0 false) rfl
    (hwake strayedSweep 0 0 0 rfl rfl (by decide) (by decide +kernel) rfl strayedSweep_placed)
  rw [strayedSweep_trips] at hrun
  exact OpState.noConfusion hrun

end Sys2Proof.Safety
end

section
/-!
PROOF. Losses of lock and the sampling phase (R515 to R517): the two statements about the clock loops fail, each on a state
that is written out here.
-/
namespace Sys2Proof.Safety

open Sys2Proof.Machine

/-- A device with port 0 up and Charm probing, whose probe of the next tick is 1, though network time is not valid. -/
def probingAtLoss : State :=
  { State.reset with dev := { State.reset.dev with
      clk := { State.reset.dev.clk with lock := 16 }
      eth := [(0, { link := true })]
      charm := { State.reset.dev.charm with active := true, timeOk := true, eNext := 1 } } }

theorem probingAtLoss_landQ : (laneALoss (devAt probingAtLoss 0)).gs.landQ = -1 := by decide +kernel

/-- Refutes O35: the loss of LANE channel A takes the 1588 port down, so that TIME_OK falls and probing stops, and the probe
comes off the Q command of the next tick, a part that the statement's frame of that loss leaves out. -/
theorem not_lockLosses : ¬ Obligations.LockLosses := by
  unfold Obligations.LockLosses
  rintro ⟨-, -, -, -, hlaneA, -⟩
  obtain ⟨hkeeps, -⟩ := post_of_runs (f := laneALoss) rfl (hlaneA probingAtLoss 0 (by decide))
  have hlanded : (laneALoss (devAt probingAtLoss 0)).gs.landQ = 0 := by
    rw [hkeeps.gs (by decide)]
    rfl
  exact absurd (probingAtLoss_landQ.symm.trans hlanded) (by decide)

/-- A device in READY with the ADC PLL locked, whose dividers run at phase 1 where 0 is asked for, with a conversion of
Facet 0 under way that brings a changed scan mask into force (R46). -/
def changeUnderWay : State :=
  { State.reset with dev := { State.reset.dev with
      sys := { State.reset.dev.sys with up := true, st := .ready }
      clk := { State.reset.dev.clk with lock := 8, phase := 1 }
      prm := { State.reset.dev.prm with active := [(pkey 0xF204 0, 0)] }
      acq := { State.reset.dev.acq with
        facets := [(0, { due := [{ pos := 0, at_ := 0, change := [(pkey 0x1001 0, some 5)] }] })] } } }

theorem changeUnderWay_mask : prm (adcSyncEdge (devAt changeUnderWay 0)) 0x1001 0 = 5 := by decide +kernel

/-- Refutes O36: a phase that is set flushes the conversions under way, and what was to come into force with them does so at
once, in the active values, a part that the statement's frame of the edge leaves out. -/
theorem not_referenceAndRelocks : ¬ Obligations.ReferenceAndRelocks := by
  unfold Obligations.ReferenceAndRelocks
  rintro ⟨-, -, -, -, -, hedge, -⟩
  obtain ⟨hkeeps, -⟩ := post_of_runs (f := adcSyncEdge) rfl
    (hedge changeUnderWay 0 (by decide) (by decide) (by decide) (by decide))
  have hmask : prm (adcSyncEdge (devAt changeUnderWay 0)) 0x1001 0 = prm changeUnderWay.dev 0x1001 0 :=
    prm_of_prm (hkeeps.prm (by decide)) 0x1001 0
  exact absurd (changeUnderWay_mask.symm.trans hmask) (by decide)

end Sys2Proof.Safety
end

section
/-!
PROOF. The Clasp's own supply and what wakes the fast domains (R24, R502, R504, R507, R531, R532).
-/
namespace Sys2Proof.Safety

open Sys2Proof.Machine

theorem modClasp_keeps (f : Clasp → Clasp) (d : Dev) : Keeps [.clasp] d (modClasp f d) := keeps_clasp _ d

theorem modFw_keeps (i : Nat) (f : FwSlot → FwSlot) (d : Dev) : Keeps [.sec] d (modFw i f d) := by
  unfold modFw
  split
  · exact keeps_sec _ d
  · exact keeps_sec _ d

/-! ### The begin of a start -/

/-- The boot ROM runs the image that it has chosen, and counts a try of a marked one (R543). -/
def imageRun (d : Dev) : Dev :=
  match imageChoice d with
  | some i => modFw i (fun x => if x.mark then { x with tries := x.tries + 1 } else x) { d with sec := { d.sec with running := i } }
  | none => d

theorem imageRun_keeps (d : Dev) : Keeps [.sec] d (imageRun d) := by
  unfold imageRun
  split
  · exact (keeps_sec _ d).trans (modFw_keeps _ _ _)
  · exact Keeps.refl _ _

theorem imageChoice_congr {d e : Dev} (h : e.sec = d.sec) : imageChoice e = imageChoice d := by
  unfold imageChoice imageOrder markedSlot otherSlot fwSlot
  rw [h]

/-- The start of KIND `kind` for `cause` is under way, with `hostsel` and, without an image, in recovery. -/
def StartBegun (kind cause : Nat) (hostsel : Bool) (d e : Dev) : Prop :=
  e.clasp.start = some (kind, cause, d.t) ∧ e.clasp.pwrEn = true ∧ e.clasp.rstLow = d.clasp.rstLow ∧
    e.clasp.lastState = d.clasp.lastState ∧ e.boot.hostsel = hostsel ∧ e.boot.recovery = (imageChoice d).isNone

theorem rtcBase_keeps (trimmed : Bool) (d : Dev) : Keeps [.clasp] d (rtcBase trimmed d) := by
  unfold rtcBase
  exact modClasp_keeps _ d

theorem rtcBase_clasp (trimmed : Bool) (d : Dev) :
    (rtcBase trimmed d).clasp.rstLow = d.clasp.rstLow ∧ (rtcBase trimmed d).clasp.lastState = d.clasp.lastState := ⟨rfl, rfl⟩

/-- The device as a start has begun on it, with what BOOT_STAT then tells. -/
def startOn (kind cause src stat jl : Nat) (noImage hostsel : Bool) (d : Dev) : Dev :=
  { d with
    clasp := { d.clasp with start := some (kind, cause, d.t), pwrEn := true, wakeSrc := src }
    boot := { d.boot with stat := stat, recovery := noImage, hostsel := hostsel, jlost := jl } }

theorem startOn_keeps (kind cause src stat jl : Nat) (noImage hostsel : Bool) (d : Dev) :
    Keeps [.clasp, .boot] d (startOn kind cause src stat jl noImage hostsel d) :=
  ⟨fun p hp => by cases p <;> first | rfl | exact absurd (by decide) hp⟩

theorem beginStart_eq (kind cause : Nat) (hostsel : Bool) (d : Dev) : ∃ src stat jl, beginStart kind cause hostsel d =
    startOn kind cause src stat jl (imageChoice (rtcBase true d)).isNone hostsel (imageRun (rtcBase true d)) :=
  ⟨_, _, _, rfl⟩

theorem beginStart_begun (kind cause : Nat) (hostsel : Bool) (d : Dev) :
    Keeps [.clasp, .boot, .sec] d (beginStart kind cause hostsel d) ∧
      StartBegun kind cause hostsel d (beginStart kind cause hostsel d) := by
  obtain ⟨src, stat, jl, heq⟩ := beginStart_eq kind cause hostsel d
  have hbase := rtcBase_keeps true d
  obtain ⟨hrst, hlast⟩ := rtcBase_clasp true d
  rw [heq, imageChoice_congr (hbase.sec (by decide))]
  generalize rtcBase true d = e at hbase hrst hlast
  have hrun := imageRun_keeps e
  have hclasp := hrun.clasp (by decide)
  have ht := hrun.t (by decide)
  generalize imageRun e = f at hrun hclasp ht
  refine ⟨((hbase.mono (by decide)).andThen hrun (by decide)).andThen (startOn_keeps _ _ _ _ _ _ _ f) (by decide),
    ?_, rfl, ?_, ?_, rfl, rfl⟩
  · rw [← hbase.t (by decide), ← ht]
    rfl
  · rw [← hrst, ← hclasp]
    rfl
  · rw [← hlast, ← hclasp]
    rfl

/-! ### Supplies and wakes -/

/-- The KIND and the cause of a start that the wake source `src` has called (R507). -/
def calledStart (cold : Bool) (src : Nat) : Nat × Nat :=
  if cold then (1, 4) else match src with
    | 0 => (0, 4)
    | 1 => (0, 2)
    | 2 => (0, 3)
    | 3 => (2, 6)
    | _ => (0, 6)

/-- The wake source is that of the start. -/
def wokenBy (src : Nat) (d : Dev) : Dev := modClasp (fun c => { c with wakeSrc := src }) d

theorem supplyGood_eq {hostsel : Bool} {src : Nat} {d : Dev} (hst : d.sys.st = .clasp) (hstart : d.clasp.start = none)
    (hrst : d.clasp.rstLow = false) (hcalled : (d.clasp.pwrEn = true ∧ d.t ≤ d.clasp.pwrT + ticksPerMs * snapPrm d 0xF103) ∨
      bit (snapPrm d 0xF102) 2 = true) (hsrc : (if d.clasp.pwrEn then d.clasp.wakeSrc else 0) = src) :
    supplyGood hostsel d =
      beginStart (calledStart d.clasp.cold src).1 (calledStart d.clasp.cold src).2 hostsel (wokenBy src d) := by
  unfold supplyGood
  rw [if_pos ⟨hst, by rw [hstart]; rfl, ne_true_of_eq_false hrst, hcalled⟩]
  dsimp only
  rw [hsrc, ← wokenBy]
  generalize wokenBy src d = e
  cases d.clasp.cold with
  | true => rfl
  | false =>
    match src with
    | 0 => rfl
    | 1 => rfl
    | 2 => rfl
    | 3 => rfl
    | n + 4 =>
      rw [if_neg (by decide : ¬ (false = true)), if_neg (by omega : ¬ (n + 4 = 3))]
      rfl

/-- An answered call of the supplies begins the start of its source. -/
theorem supplyGood_starts {s : State} {t src : Nat} {hostsel : Bool} (hst : s.dev.sys.st = .clasp)
    (hstart : s.dev.clasp.start = none) (hrst : s.dev.clasp.rstLow = false)
    (hcalled : (s.dev.clasp.pwrEn = true ∧ t ≤ s.dev.clasp.pwrT + ticksPerMs * snapPrm s.dev 0xF103) ∨
      bit (snapPrm s.dev 0xF102) 2 = true) (hsrc : (if s.dev.clasp.pwrEn then s.dev.clasp.wakeSrc else 0) = src) :
    Runs (.mainSupplyGood t hostsel) t s [.clasp, .boot, .sec] (StartBegun (calledStart s.dev.clasp.cold src).1
      (calledStart s.dev.clasp.cold src).2 hostsel (wokenBy src (devAt s t))) := by
  obtain ⟨hkeeps, hbegun⟩ := beginStart_begun (calledStart s.dev.clasp.cold src).1 (calledStart s.dev.clasp.cold src).2
    hostsel (wokenBy src (devAt s t))
  have hwoken : Keeps [.clasp] (devAt s t) (wokenBy src (devAt s t)) := modClasp_keeps _ _
  exact runs_eq rfl (supplyGood_eq (d := devAt s t) hst hstart hrst hcalled hsrc)
    ((hwoken.mono (by decide)).trans hkeeps) (by decide) hbegun

theorem Runs.imp {c : Instr} {t : Nat} {s : State} {ps : List Part} {post post' : Dev → Prop} (h : Runs c t s ps post)
    (himp : ∀ d, post d → post' d) : Runs c t s ps post' := by
  obtain ⟨s', hexec, ht, hframe, hpost⟩ := h
  exact ⟨s', hexec, ht, hframe, himp _ hpost⟩

theorem selfref_of_keeps {ps : List Part} {d e : Dev} (h : Keeps ps d e) (hp : .cask ∉ ps) : e.cask.selfref = d.cask.selfref := by
  rw [h.caskLost hp]

theorem wakeDomains_selfref (d : Dev) : (wakeDomains d).cask.selfref = false := by
  unfold wakeDomains
  rw [selfref_of_keeps (armAll_keeps _) (by decide)]

theorem wakeAll_selfref (d : Dev) : (wakeAll d).cask.selfref = false := by
  have hkeeps : Keeps [.clk, .gs, .can, .carat, .acq, .prm] (wakeDomains d) (wakeAll d) :=
    ((((resumeScans_keeps _).mono (by decide)).andThen (caratResume_keeps _) (by decide)).andThen (canOn_keeps _)
      (by decide)).andThen (epochsResume_keeps _) (by decide)
  rw [selfref_of_keeps hkeeps (by decide), wakeDomains_selfref]

theorem claspStart_keeps (vbat vhold : Bool) (d : Dev) : Keeps [.sys, .clasp] d (claspStart vbat vhold d) :=
  ⟨fun p hp => by cases p <;> first | rfl | exact absurd (by decide) hp⟩

/-- What OFF leaves of a device. -/
def unsupplied (d : Dev) : Dev :=
  { t := d.t, free := d.free, lkt := d.lkt, sec := d.sec, carat := d.carat, hold := { savedLog := d.hold.savedLog } }

theorem claspAlone_st {d : Dev} (h : claspAlone d = true) : d.sys.st = .clasp := by
  simp only [claspAlone, Bool.and_eq_true, decide_eq_true_eq] at h
  exact h.1.1

/-- Settles O38: the Clasp's supplies, the wakes that call those of the fast domains, and the starts that follow. -/
theorem claspSupplies : Obligations.ClaspSupplies := by
  unfold Obligations.ClaspSupplies
  refine ⟨?vbat, ?vhold, ?cold, ?lost, ?change, ?wake, ?doze, ?alarm, ?timeout, ?called, ?self⟩
  case vbat =>
    intro s t vh hst
    have heq : powerApplied true vh (devAt s t) = claspStart true false (devAt s t) := if_neg (not_not_intro hst)
    exact runs_eq rfl heq (claspStart_keeps _ _ _) (by decide) ⟨rfl, rfl, rfl, rfl, rfl, rfl, rfl, rfl⟩
  case vhold =>
    intro s t vh hst
    have heq : powerApplied false vh (devAt s t) = modClasp (fun c => { c with charging := vh }) (devAt s t) :=
      if_neg (not_not_intro hst)
    exact runs_eq rfl heq (modClasp_keeps _ _) (by decide) rfl
  case cold =>
    intro s t hst hcharging
    have heq : coldStart (devAt s t) = claspStart false true (devAt s t) := if_pos ⟨hst, hcharging⟩
    exact runs_eq rfl heq (claspStart_keeps _ _ _) (by decide) ⟨rfl, rfl, rfl, rfl, rfl, rfl, rfl⟩
  case lost =>
    intro s t hst
    have heq : claspLost (devAt s t) = unsupplied (devAt s t) := if_pos hst
    refine runs_eq rfl heq ⟨fun p hp => ?_⟩ (by decide) ⟨rfl, rfl, rfl, rfl⟩
    cases p <;> first | rfl | exact absurd (by decide) hp
  case change =>
    intro s t b h hst
    have heq : claspSupply b h (devAt s t) = modClasp (fun c => { c with vbatOk := b, vholdOk := h, src := h }) (devAt s t) :=
      if_neg hst
    exact runs_eq rfl heq (modClasp_keeps _ _) (by decide) rfl
  case wake =>
    intro s t l halone hen hlevel
    have heq : wakeInput l (devAt s t) = callSupplies 1 (devAt s t) := (if_pos halone).trans (if_pos ⟨hen, hlevel⟩)
    exact runs_eq rfl heq (modClasp_keeps _ _) (by decide) rfl
  case doze =>
    intro s t l hst hfrom hlevel hwarned hestop
    have halone : ¬ claspAlone (devAt s t) = true := fun h =>
      OpState.noConfusion (hst.symm.trans (claspAlone_st (d := devAt s t) h))
    have hwake := wakeAll_keeps (devAt s t)
    have hself := wakeAll_selfref (devAt s t)
    have heq : wakeInput l (devAt s t) = enterReady 0x02 (wakeAll (devAt s t)) :=
      (if_neg halone).trans (if_pos ⟨hst, hfrom, hlevel, ne_true_of_eq_false hwarned⟩)
    have hwarned' : (wakeAll (devAt s t)).hold.warned = false := by
      rw [hwake.hold (by decide)]
      exact hwarned
    have hgd : (wakeAll (devAt s t)).gd = s.dev.gd := hwake.gd (by decide)
    generalize wakeAll (devAt s t) = e at heq hwake hself hwarned' hgd
    have hwarned'' : (standsAlone e).hold.warned = false := hwarned'
    rw [enterReady_open (by rw [transition_ready_gd hwarned'', standsAlone, hgd]; exact hestop)] at heq
    have halone' : Keeps [.sys] e (standsAlone e) := keeps_sys _ e
    refine runs_eq rfl heq (((hwake.mono (by decide)).andThen halone' (by decide)).andThen (transition_keeps _ _ _)
      (by decide)) (by decide) ⟨transition_st _ (.inl hwarned''), transition_cause _ (.inl hwarned''), ?_⟩
    rw [selfref_of_keeps (transition_keeps _ _ _) (by decide)]
    exact hself
  case alarm =>
    intro s t halone hset hnow hen
    have heq : rtcAlarm (devAt s t) = callSupplies 2 (devAt s t) := if_pos ⟨halone, hset, hnow, hen⟩
    exact runs_eq rfl heq (modClasp_keeps _ _) (by decide) rfl
  case timeout =>
    intro s t hst hcalled hstart hrst hlate
    have heq : pwrTimeout (devAt s t) = modClasp (fun c => { c with pwrEn := false, pwrFail := true }) (devAt s t) :=
      if_pos ⟨hst, hcalled, Option.isNone_iff_eq_none.mpr hstart, ne_true_of_eq_false hrst, hlate⟩
    exact runs_eq rfl heq (modClasp_keeps _ _) (by decide) rfl
  case called =>
    intro s t h hst hstart hrst hcalled hintime
    refine (supplyGood_starts hst hstart hrst (.inl ⟨hcalled, hintime⟩) (if_pos hcalled)).imp ?_
    rintro d ⟨hon, hpwr, -, -, hhost, hrec⟩
    refine ⟨hon.trans ?_, hpwr, hhost, hrec⟩
    cases s.dev.clasp.cold with
    | true => rfl
    | false =>
      match s.dev.clasp.wakeSrc with
      | 0 => rfl
      | 1 => rfl
      | 2 => rfl
      | 3 => rfl
      | n + 4 => rfl
  case self =>
    intro s t h hst hstart hrst hcalled hen
    refine (supplyGood_starts hst hstart hrst (.inr hen) (if_neg (ne_true_of_eq_false hcalled))).imp ?_
    rintro d ⟨hon, hpwr, -, -, hhost, -⟩
    refine ⟨hon.trans ?_, hpwr, hhost⟩
    cases s.dev.clasp.cold with
    | true => rfl
    | false => rfl

end Sys2Proof.Safety
end

section
/-!
PROOF. Warm resets, the lockstep reset and TEST_EN (R506, R535 to R539, R568).
-/
namespace Sys2Proof.Safety

open Sys2Proof.Machine

/-- A warm reset has taken the fast domains of `d` down: `e` reads as CLASP, with the last-state record, the Casket in
self-refresh, a demand, and the Locket as it was but for a write that was cut (R506, R535, R539). -/
structure WarmDown (d e : Dev) : Prop where
  st : e.sys.st = .clasp
  cause : e.sys.cause = 0x06
  down : e.sys.up = false
  lastState : e.clasp.lastState = stCode d.sys.st
  selfref : e.cask.selfref = true
  recs : e.cask.recs = d.cask.recs
  dem : e.gd.dem = true
  gdh : e.gd.gdh = false
  gdl : e.gd.gdl = false
  journal : e.lkt.journal = d.lkt.journal
  slotA : e.lkt.slotA = d.lkt.slotA
  slotB : e.lkt.slotB = d.lkt.slotB
  legs : e.legs = []

theorem warmDown_down (d : Dev) : WarmDown d (warmDown d) :=
  ⟨rfl, rfl, rfl, rfl, rfl, rfl, rfl, rfl, rfl, rfl, rfl, rfl, rfl⟩

theorem warmDown_keeps (d : Dev) : Keeps (allBut [.free]) d (warmDown d) :=
  ⟨fun p hp => by cases p <;> first | rfl | exact absurd (by decide) hp⟩

/-- RST_N is high again: the reset ends, and with it TEST_EN's stop of the SVP. -/
def rstLeft (d : Dev) : Dev := modClasp (fun c => { c with rstLow := false }) { d with sys := { d.sys with testStop := false } }

theorem rstLeft_keeps (d : Dev) : Keeps [.sys, .clasp] d (rstLeft d) :=
  ⟨fun p hp => by cases p <;> first | rfl | exact absurd (by decide) hp⟩

/-- A start of `kind` after a warm reset. -/
theorem restart_begun (kind : Nat) (hostsel : Bool) (d : Dev) :
    Keeps (allBut [.free]) d (beginStart kind 6 hostsel (warmDown d)) ∧
      StartBegun kind 6 hostsel (warmDown d) (beginStart kind 6 hostsel (warmDown d)) := by
  obtain ⟨hkeeps, hbegun⟩ := beginStart_begun kind 6 hostsel (warmDown d)
  exact ⟨(warmDown_keeps d).andThen hkeeps (by decide), hbegun⟩

/-- The device with the lockstep mismatch noted and every gate held off (R538). -/
def lockstepHeld (d : Dev) : Dev :=
  { d with pwm := { d.pwm with devHold := true }
           clk := { d.clk with lockstep := some (d.clk.lockstep.getD d.t) } }

theorem lockstepHeld_keeps (d : Dev) : Keeps [.pwm, .clk] d (lockstepHeld d) :=
  ⟨fun p hp => by cases p <;> first | rfl | exact absurd (by decide) hp⟩

/-- What the mismatch does before TRIP is entered. -/
def lockstepSeen (d : Dev) : Dev :=
  if bit (gdPrm (regate (lockstepHeld d)) 0xE101) 8 then gdDemand false (regate (lockstepHeld d)) else regate (lockstepHeld d)

theorem lockstepFail_eq {d : Dev} (hruns : chanRuns d = true) (hst : d.sys.st ≠ .doze) :
    lockstepFail d = enterTrip 0x28 (lockstepSeen d) := by
  unfold lockstepFail
  rw [if_pos hruns, if_neg hst]
  rfl

theorem lockstepSeen_keeps (d : Dev) : Keeps [.gd, .legs, .pwm, .clk] d (lockstepSeen d) := by
  have hregate : Keeps [.gd, .legs, .pwm, .clk] d (regate (lockstepHeld d)) :=
    ((lockstepHeld_keeps d).mono (by decide)).andThen (regate_keeps _) (by decide)
  exact keeps_ite (fun _ => hregate.andThen (gdDemand_keeps _ _) (by decide)) (fun _ => hregate)

theorem lockstepSeen_fields (d : Dev) : (lockstepSeen d).pwm = (lockstepHeld d).pwm ∧ (lockstepSeen d).clk = (lockstepHeld d).clk := by
  have hregate : Keeps [.gd, .legs] (lockstepHeld d) (lockstepSeen d) :=
    keeps_ite (fun _ => ((regate_keeps _).mono (by decide)).andThen (gdDemand_keeps _ _) (by decide))
      (fun _ => (regate_keeps _).mono (by decide))
  exact ⟨hregate.pwm (by decide), hregate.clk (by decide)⟩

/-- An entry into TRIP from a state other than DOZE wakes nothing: windows, loops and Casket stay. -/
theorem enterTrip_awake (c : Nat) {d : Dev} (h : d.sys.st ≠ .doze) : Keeps ([.setr, .pnd] ++ trParts) d (enterTrip c d) := by
  have hmark : Keeps ([.setr, .pnd] ++ trParts) d (tripMark c d) := (tripMark_keeps c d).mono (by decide)
  have hheld : Keeps ([.setr, .pnd] ++ trParts) d (tripHeld c d) := by
    unfold tripHeld
    dsimp only
    rw [if_neg (by rw [(tripMark_keeps c d).sys (by decide)]; exact h)]
    exact (hmark.andThen (keeps_pwm _ _) (by decide)).andThen (legsOut_keeps _) (by decide)
  have hentered : Keeps ([.setr, .pnd] ++ trParts) d (tripEntered c d) := by
    unfold tripEntered
    exact (hheld.andThen (transition_keeps _ _ _) (by decide)).andThen (keeps_sys _ _) (by decide)
  rcases enterTrip_cases c d with ⟨x, heq⟩ | ⟨g, heq⟩ | heq | heq
  · rw [heq]
    exact hmark.andThen (keeps_sys _ _) (by decide)
  · rw [heq]
    exact hentered.andThen (gdDemand_keeps _ _) (by decide)
  · rw [heq]
    exact hentered
  · rw [heq]
    exact hmark

/-- TEST_EN stops the SVP (R568). -/
def testStopped (d : Dev) : Dev := { d with sys := { d.sys with testStop := true } }

theorem testStopped_keeps (d : Dev) : Keeps [.sys, .legs] d (testStopped d) := (keeps_sys _ d).mono (by decide)

theorem gateOut_of_stop {d : Dev} (h : d.sys.testStop = true) (n : Nat) : gateOut d n = none := by
  have hz : hiZ d = true := by simp [hiZ, h]
  exact if_pos hz

/-- Settles O39: resets by RST_N, the watchdog and the lockstep cores, and TEST_EN. -/
theorem resets : Obligations.Resets := by
  unfold Obligations.Resets
  refine ⟨?early, ?assert, ?starts, ?calls, ?watchdog, ?mismatch, ?lockstep, ?testEn⟩
  case early =>
    intro s t a hearly
    have heq : rstAssert a (devAt s t) = devAt s t := if_pos (.inr hearly)
    exact runs_eq rfl heq (Keeps.refl _ _) (by decide) trivial
  case assert =>
    intro s t a hst hup hlate
    have hon : fastOn (devAt s t) = true := fastOn_of_up hup
    have heq : rstAssert a (devAt s t) = modClasp (fun c => { c with rstLow := true }) (warmDown (devAt s t)) := by
      unfold rstAssert
      rw [if_neg (fun h => h.elim hst (Nat.not_lt.mpr hlate)), if_pos hon]
    have hdown := warmDown_down (devAt s t)
    have hkeeps := warmDown_keeps (devAt s t)
    generalize warmDown (devAt s t) = e at heq hdown hkeeps
    exact runs_eq rfl heq (hkeeps.andThen (modClasp_keeps _ _) (by decide)) (by decide)
      ⟨hdown.st, hdown.cause, hdown.down, rfl, hdown.lastState, hdown.selfref, hdown.recs, hdown.dem, hdown.gdh, hdown.gdl,
        hdown.journal, hdown.slotA, hdown.slotB, hdown.legs⟩
  case starts =>
    intro s t h hrst hpwr
    have heq : rstRelease h (devAt s t) = beginStart 2 6 h (rstLeft (devAt s t)) := (if_pos hrst).trans (if_pos hpwr)
    have hleft := rstLeft_keeps (devAt s t)
    obtain ⟨hkeeps, hon, -, hlow, -⟩ := beginStart_begun 2 6 h (rstLeft (devAt s t))
    refine runs_eq rfl heq ((hleft.mono (by decide)).trans (hkeeps.mono (by decide))) (by decide) ⟨hlow.trans rfl, hon, ?_⟩
    exact hkeeps.sys (by decide)
  case calls =>
    intro s t h hrst hpwr
    have heq : rstRelease h (devAt s t) = callSupplies 3 (rstLeft (devAt s t)) :=
      (if_pos hrst).trans (if_neg (ne_true_of_eq_false hpwr))
    exact runs_eq rfl heq ((rstLeft_keeps _).andThen (modClasp_keeps _ _) (by decide)) (by decide) rfl
  case watchdog =>
    intro s t h hup htest
    have hon : fastOn (devAt s t) = true := fastOn_of_up hup
    have heq : watchdog h (devAt s t) = beginStart 3 6 h (warmDown (devAt s t)) := if_pos ⟨hon, ne_true_of_eq_false htest⟩
    obtain ⟨hkeeps, hstart, -, -, hlast, -⟩ := restart_begun 3 h (devAt s t)
    have hdown := warmDown_down (devAt s t)
    have hwork := (beginStart_begun 3 6 h (warmDown (devAt s t))).1
    refine runs_eq rfl heq hkeeps (by decide) ⟨?_, ?_, hstart, ?_, hlast.trans hdown.lastState, ?_⟩
    · rw [hwork.sys (by decide)]
      exact hdown.st
    · rw [hwork.sys (by decide)]
      exact hdown.down
    · rw [hwork.gd (by decide)]
      exact hdown.dem
    · rw [hwork.lkt (by decide)]
      exact hdown.journal
  case mismatch =>
    intro s t hruns hcan hst hwarned
    have hseen := lockstepSeen_keeps (devAt s t)
    obtain ⟨hpwm, hclk⟩ := lockstepSeen_fields (devAt s t)
    have hsys : (lockstepSeen (devAt s t)).sys = s.dev.sys := hseen.sys (by decide)
    have hhold : (lockstepSeen (devAt s t)).hold = s.dev.hold := hseen.hold (by decide)
    have heq := lockstepFail_eq (d := devAt s t) hruns hst
    generalize lockstepSeen (devAt s t) = e at heq hseen hpwm hclk hsys hhold
    have hcan' : canTrip e 0x28 = true := by rw [canTrip, hsys]; exact hcan
    have hwarned' : e.hold.warned = false := by rw [hhold]; exact hwarned
    obtain ⟨htrip, hcause, -, -⟩ := enterTrip_sys (ne_trip_of_canTrip hcan') hcan' hwarned'
    have hawake := enterTrip_awake 0x28 (d := e) (by rw [hsys]; exact hst)
    refine runs_eq rfl heq ((hseen.mono (by decide)).trans (hawake.mono (by decide))) (by decide)
      ⟨htrip, hcause, enterTrip_held _ (by rw [hpwm]; rfl), ?_,
        fun n hn => enterTrip_out hn (ne_trip_of_canTrip hcan') hcan' hwarned'⟩
    rw [hawake.clk (by decide), hclk]
    rfl
  case lockstep =>
    intro s t a h hseen hlate hup
    have hseen' : (devAt s t).clk.lockstep = some a := hseen
    have heq : lockstepReset h (devAt s t) = beginStart 4 6 h (warmDown (devAt s t)) := by
      unfold lockstepReset
      rw [hseen']
      exact if_pos ⟨hlate, hup⟩
    obtain ⟨hkeeps, hstart, -⟩ := restart_begun 4 h (devAt s t)
    have hdown := warmDown_down (devAt s t)
    have hwork := (beginStart_begun 4 6 h (warmDown (devAt s t))).1
    refine runs_eq rfl heq hkeeps (by decide) ⟨?_, ?_, hstart, ?_⟩
    · rw [hwork.sys (by decide)]
      exact hdown.st
    · rw [hwork.sys (by decide)]
      exact hdown.down
    · rw [hwork.gd (by decide)]
      exact hdown.dem
  case testEn =>
    intro s t hst
    have heq : testEn (devAt s t) = regate (testStopped (devAt s t)) := if_neg hst
    have hregate := regate_keeps (testStopped (devAt s t))
    have hsys := hregate.sys (by decide)
    exact runs_eq rfl heq ((testStopped_keeps _).andThen hregate (by decide)) (by decide)
      ⟨hsys, fun n => gateOut_of_stop (by rw [hsys]; rfl) n⟩

end Sys2Proof.Safety
end

section
/-!
PROOF. The hold-up supervisor: the gauge, the early warning, the save that follows it, and the thermal limit (R521 to R529,
R580).
-/
namespace Sys2Proof.Safety

open Sys2Proof.Machine

/-! ### Pending events -/

theorem Pending.of_ev {e : Nat} {d f : Dev} (h : Pending e d) (hev : f.ev = d.ev) : Pending e f := by
  rw [Pending, hev]
  exact h

/-- An event stays pending while others are raised. -/
theorem Pending.raise {e : Nat} {d : Dev} (h : Pending e d) (k i : Nat) (v : List Byte) : Pending e (raise k i v d) := by
  by_cases hup : d.sys.up = true
  · rw [Pending, raise_ev k i v d hup]
    simp only [BitVec.getLsbD_or, Bool.or_eq_true]
    exact .inl h
  · unfold Machine.raise
    rw [if_neg hup]
    exact h

theorem Pending.raiseI {e : Nat} {d : Dev} (h : Pending e d) (k i : Nat) : Pending e (raiseI k i d) := h.raise k i []

/-! ### The gauge -/

/-- The gauge as the store voltage gives it. -/
def gauged (v : Nat) (d : Dev) : Dev :=
  { d with hold := { d.hold with
      v := v, e := gauge d v, saveOk := decide (prm d 0xF003 0 ≤ gauge d v),
      gaspOk := decide (prm d 0xF004 0 + prm d 0xF005 0 ≤ gauge d v) } }

theorem gaugeUpdate_eq {v : Nat} {d : Dev} (hup : d.sys.up = true) (hv : v < 4096) : gaugeUpdate v d =
    if d.hold.saveOk = true ∧ ¬ decide (prm d 0xF003 0 ≤ gauge d v) = true ∧ ¬ d.hold.warned = true then
      raiseI 120 0 (gauged v d) else gauged v d := by
  have hmin : min v 4095 = v := by omega
  unfold gaugeUpdate
  rw [if_pos hup]
  dsimp only
  rw [hmin]
  rfl

/-! ### The early warning -/

/-- The device as its early warning `w` is known, with what its save is to be (R523, R525). -/
def warnNoted (w : WarnSource) (d : Dev) : Dev :=
  { d with hold := { d.hold with pfail := d.hold.pfail || byPfail w, plan := savePlan d } }

/-- The events of an early warning. -/
def warnEvents (w : WarnSource) (d : Dev) : Dev :=
  let d2 := if byRail w then raiseI 123 0 (raiseI 118 0 (warnNoted w d)) else raiseI 118 0 (warnNoted w d)
  if savePlan d < 2 then raiseI 119 0 d2 else d2

/-- The gates and both drives go off, and with them every leg (R524). -/
def gatesOff (d : Dev) : Dev := gdOff (regate { d with pwm := { d.pwm with devHold := true } })

/-- Carat has taken its closing boundary (R318). -/
def caratClosed (d : Dev) : Dev := { d with carat := { d.carat with closed := prm d 0x9000 0 = 1 } }

/-- Save mode is entered. -/
def saveEntered (d : Dev) : Dev := { saveStop d with hold := { (saveStop d).hold with warned := true } }

theorem earlyWarning_eq {w : WarnSource} {d : Dev} (hruns : chanRuns d = true) (hwarned : d.hold.warned = false)
    (hdue : warnDue d w = true) : earlyWarning w d =
      saveEntered (caratClosed (caratStop (lastGasp (savePlan d) (gatesOff (warnEvents w d))))) := by
  unfold earlyWarning
  rw [if_pos ⟨hruns, ne_true_of_eq_false hwarned, hdue⟩]
  unfold saveEntered caratClosed gatesOff warnEvents warnNoted
  with_reducible rfl

theorem warnNoted_keeps (w : WarnSource) (d : Dev) : Keeps [.hold] d (warnNoted w d) := keeps_hold _ d

theorem warnEvents_keeps (w : WarnSource) (d : Dev) : Keeps (.hold :: evParts) d (warnEvents w d) := by
  have hraised : Keeps (.hold :: evParts) d (raiseI 118 0 (warnNoted w d)) :=
    ((warnNoted_keeps w d).mono (by decide)).andThen (raiseI_keeps _ _ _) (by decide)
  have hrail : Keeps (.hold :: evParts) d (if byRail w then raiseI 123 0 (raiseI 118 0 (warnNoted w d)) else
      raiseI 118 0 (warnNoted w d)) :=
    keeps_ite (fun _ => hraised.andThen (raiseI_keeps _ _ _) (by decide)) (fun _ => hraised)
  exact keeps_ite (fun _ => hrail.andThen (raiseI_keeps _ _ _) (by decide)) (fun _ => hrail)

theorem warnEvents_hold (w : WarnSource) (d : Dev) : (warnEvents w d).hold = (warnNoted w d).hold := by
  unfold warnEvents
  dsimp only
  split <;> split <;> simp only [raiseI_hold]

theorem warnEvents_pending {w : WarnSource} {d : Dev} (hup : d.sys.up = true) : Pending 118 (warnEvents w d) := by
  have hraised : Pending 118 (raiseI 118 0 (warnNoted w d)) := raiseI_pending _ _ _ hup (by decide)
  unfold warnEvents
  dsimp only
  split <;> split
  · exact (hraised.raiseI _ _).raiseI _ _
  · exact hraised.raiseI _ _
  · exact hraised.raiseI _ _
  · exact hraised

theorem gatesOff_keeps (d : Dev) : Keeps [.gd, .legs, .pwm] d (gatesOff d) := by
  have hheld : Keeps [.pwm] d { d with pwm := { d.pwm with devHold := true } } := keeps_pwm _ d
  exact ((hheld.mono (by decide)).andThen (regate_keeps _) (by decide)).andThen (gdOff_keeps _) (by decide)

theorem gatesOff_off (d : Dev) : (gatesOff d).pwm.devHold = true ∧ (gatesOff d).gd.gdh = false ∧ (gatesOff d).gd.gdl = false := by
  have hheld : (regate { d with pwm := { d.pwm with devHold := true } }).pwm.devHold = true := by
    rw [(regate_keeps _).pwm (by decide)]
  unfold gatesOff
  generalize regate { d with pwm := { d.pwm with devHold := true } } = e at hheld ⊢
  exact ⟨hheld, rfl, rfl⟩

theorem modEnt_keeps (e : Nat) (f : PtnEnt → PtnEnt) (d : Dev) : Keeps [.can] d (modEnt e f d) := keeps_can _ d

theorem modPort_keeps (p : Nat) (f : CanPort → CanPort) (d : Dev) : Keeps [.can] d (modPort p f d) := keeps_can _ d

/-- The entries whose frames were to go out have failed. -/
theorem txFailed_keeps (d : Dev) (fs : List CanTx) : Keeps [.can] d (fs.foldl (fun y f => match f.ent with
    | some (k, _) => modEnt k (fun z => { z with txFail := true }) y
    | none => y) d) := by
  refine keeps_foldl _ (fun e f => ?_) fs d
  split
  · exact modEnt_keeps _ _ e
  · exact Keeps.refl _ e

theorem gaspPort_keeps (plan p : Nat) (d : Dev) : Keeps [.can] d (gaspPort plan p d) := by
  unfold gaspPort
  exact keeps_ite (fun _ => (txFailed_keeps d _).trans (modPort_keeps _ _ _)) (fun _ => Keeps.refl _ d)

/-- The gasp has been sent, or not. -/
def gaspNoted (sent : Bool) (d : Dev) : Dev := { d with hold := { d.hold with gaspSent := sent } }

theorem gaspNoted_keeps (sent : Bool) (d : Dev) : Keeps [.hold] d (gaspNoted sent d) := keeps_hold _ d

/-- The gasp touches, beside its mark, the ports and the event that tells of it. -/
theorem lastGasp_after (plan : Nat) (d : Dev) : ∃ sent, Keeps (.can :: evParts) (gaspNoted sent d) (lastGasp plan d) := by
  unfold lastGasp
  split
  · refine ⟨true, Keeps.andThen (Keeps.andThen (Keeps.mono (keeps_forAll 12 _ (gaspPort_keeps plan) _) (by decide))
      (raiseI_keeps 121 0 _) (by decide)) (sendNotice_keeps _) (by decide)⟩
  · exact ⟨false, Keeps.refl _ _⟩

theorem lastGasp_pending {e plan : Nat} {d : Dev} (h : Pending e d) : Pending e (lastGasp plan d) := by
  unfold lastGasp
  split
  · have hports : Keeps [.can] (gaspNoted true d) (forAll 12 (gaspPort plan) (gaspNoted true d)) :=
      keeps_forAll 12 _ (gaspPort_keeps plan) _
    have hnoted : Pending e (gaspNoted true d) := h
    exact ((hnoted.of_ev (hports.ev (by decide))).raiseI 121 0).of_ev (sendNotice_ev _)
  · exact h

theorem caratStop_keeps (d : Dev) : Keeps [.carat] d (caratStop d) :=
  keeps_ite (fun _ => Keeps.refl _ d) (fun _ => keeps_carat _ d)

/-! ### Save mode -/

theorem modEth_keeps (i : Nat) (f : Eth → Eth) (d : Dev) : Keeps [.eth] d (modEth i f d) := keeps_eth _ d

theorem stopFacets_keeps (d : Dev) : Keeps [.acq, .prm] d (stopFacets d) :=
  keeps_forAll 13 _ (fun f e => (flushFacet_keeps f e).andThen (modFacet_keeps f _ _) (by decide)) d

/-- A leg whose carrier has stopped (R118). -/
def legStopped (x : Leg) : Leg :=
  { x with running := false, transition := false, starts := [], glOn := none, s := false, gh3 := false, gl3 := false,
           dt := none, rise := none, fall := none }

/-- Epochs come no more from the first stop on. -/
def epochsStopped (d : Dev) : Dev := { d with clk := { d.clk with stopT := some (d.clk.stopT.getD d.t) } }

theorem stopCarriers_eq (d : Dev) : stopCarriers d = forAll 48 (fun n e => modLeg n legStopped e) (epochsStopped d) := rfl

theorem stopCarriers_keeps (d : Dev) : Keeps [.legs, .clk] d (stopCarriers d) := by
  have hstopped : Keeps [.clk] d (epochsStopped d) := keeps_clk _ d
  rw [stopCarriers_eq]
  exact (hstopped.mono (by decide)).andThen (keeps_forAll 48 _ (fun n e => modLeg_keeps n _ e) _) (by decide)

theorem stopCarriers_clk (d : Dev) : (stopCarriers d).clk = (epochsStopped d).clk := by
  rw [stopCarriers_eq]
  exact (keeps_forAll 48 _ (fun n e => modLeg_keeps n _ e) _).clk (by decide)

theorem stopCarriers_leg {n : Nat} (hn : n < 48) (d : Dev) : leg (stopCarriers d) n = legStopped (leg d n) := by
  rw [stopCarriers_eq]
  refine forAll_at (P := fun e => leg e n = leg d n) (Q := fun e => leg e n = legStopped (leg d n)) hn ?_ ?_ ?_ rfl
  · intro k e _ hk he
    rw [otherLegs_modLeg k _ e n (by omega)]
    exact he
  · intro e he
    rw [leg_modLeg_self, he]
  · intro k e _ hk he
    rw [otherLegs_modLeg k _ e n (by omega)]
    exact he

/-- Carriers, Facets and links stop. -/
def fastStopped (d : Dev) : Dev :=
  forAll 8 (fun k e => modLane k (fun x => { x with link := false, aligned := false, prbsLock := false })
    (modEth k (fun x => { x with link := false }) e)) (stopFacets (stopCarriers d))

theorem fastStopped_after (d : Dev) : Keeps [.acq, .prm, .lanes, .eth] (stopCarriers d) (fastStopped d) :=
  ((stopFacets_keeps _).mono (by decide)).trans (keeps_forAll 8 _ (fun k e =>
    ((modEth_keeps k _ e).mono (by decide)).andThen (modLane_keeps k _ _) (by decide)) _)

/-- What save mode sets once everything stands still; a snapshot that is being written is abandoned. -/
def saveMarked (lkt : Locket) (cut : Bool) (d : Dev) : Dev :=
  { d with
    clk := { d.clk with lock := d.clk.lock % 4 }
    sys := { d.sys with auto := .none }
    hold := { d.hold with saveMode := true, snapAbandoned := cut, warned := true }
    lkt := lkt }

theorem saveMarked_keeps (lkt : Locket) (cut : Bool) (d : Dev) : Keeps [.clk, .sys, .hold, .lkt] d (saveMarked lkt cut d) :=
  ⟨fun p hp => by cases p <;> first | rfl | exact absurd (by decide) hp⟩

/-- Save mode on a device that stands still. -/
def saveHalted (d : Dev) : Dev :=
  let writing := decide (d.lkt.snapState = 1)
  { d with
    clk := { d.clk with lock := d.clk.lock % 4 }
    sys := { d.sys with auto := .none }
    hold := { d.hold with saveMode := true, snapAbandoned := writing }
    lkt := if writing then { d.lkt with snapState := 0, retryDue := false, again := false, body := {} } else d.lkt }

theorem saveStop_eq (d : Dev) : saveStop d = saveHalted (fastStopped d) := by
  unfold saveStop saveHalted fastStopped
  with_reducible rfl

theorem saveEntered_eq (d : Dev) : ∃ lkt cut, saveEntered d = saveMarked lkt cut (fastStopped d) := by
  rw [saveEntered, saveStop_eq]
  generalize fastStopped d = e
  exact ⟨_, _, rfl⟩

/-- What save mode leaves: every carrier stopped, the two loops of the Clasp's side locked as they were (R524). -/
theorem saveEntered_stopped (d : Dev) :
    Keeps [.legs, .clk, .acq, .prm, .lanes, .eth, .sys, .hold, .lkt] d (saveEntered d) ∧
      (saveEntered d).hold.warned = true ∧ (saveEntered d).hold.saveMode = true ∧
      (saveEntered d).hold.plan = d.hold.plan ∧ (saveEntered d).sys.st = d.sys.st ∧
      (saveEntered d).clk.lock = d.clk.lock % 4 ∧ ∀ n, n < 48 → (leg (saveEntered d) n).running = false := by
  obtain ⟨lkt, cut, heq⟩ := saveEntered_eq d
  have hcarriers := stopCarriers_keeps d
  have hclk := stopCarriers_clk d
  have hlegs : ∀ n, n < 48 → (leg (stopCarriers d) n).running = false := fun n hn => by rw [stopCarriers_leg hn, legStopped]
  have hafter := fastStopped_after d
  rw [heq]
  generalize stopCarriers d = e at hcarriers hclk hlegs hafter
  generalize fastStopped d = f at hafter
  have hfhold : f.hold = d.hold := (hafter.hold (by decide)).trans (hcarriers.hold (by decide))
  have hfsys : f.sys = d.sys := (hafter.sys (by decide)).trans (hcarriers.sys (by decide))
  have hfclk : f.clk = (epochsStopped d).clk := (hafter.clk (by decide)).trans hclk
  refine ⟨((hcarriers.mono (by decide)).andThen hafter (by decide)).andThen (saveMarked_keeps _ _ _) (by decide), rfl, rfl,
    ?_, ?_, ?_, fun n hn => ?_⟩
  · rw [saveMarked, hfhold]
  · rw [saveMarked, hfsys]
  · rw [saveMarked, hfclk]
    rfl
  · have hleg : leg (saveMarked lkt cut f) n = leg e n := leg_of_legs (hafter.legs (by decide)) n
    rw [hleg]
    exact hlegs n hn

/-! ### The end of the save -/

/-- The device `d` has entered CLASP with cause `c`, with `lost` records of the journal lost. -/
structure InClasp (c lost : Nat) (d e : Dev) : Prop where
  st : e.sys.st = .clasp
  cause : e.sys.cause = c
  prev : e.sys.prev = d.sys.st
  down : e.sys.up = false
  lastSave : e.hold.lastSave = d.hold.lastSave
  savedLog : e.hold.savedLog = d.hold.savedLog
  jlost : e.clasp.jlost = lost
  journal : e.lkt.journal = d.lkt.journal

theorem enterClasp_inClasp (c lost : Nat) (d : Dev) : InClasp c lost d (enterClasp c lost d) := by
  have hevent : ∀ e : Dev, InClasp c lost e (modClasp (fun x => { x with pwrEn := false }) (fastOff false c (lastRecord lost e))) :=
    fun e => ⟨rfl, rfl, rfl, rfl, rfl, rfl, rfl, rfl⟩
  have hraise : (claspEvent c d).sys = d.sys ∧ (claspEvent c d).hold = d.hold ∧ (claspEvent c d).lkt = d.lkt :=
    ⟨raise_sys _ _ _ _, raise_hold _ _ _ _, raise_lkt _ _ _ _⟩
  unfold enterClasp
  generalize claspEvent c d = e at hraise ⊢
  obtain ⟨hsys, hhold, hlkt⟩ := hraise
  have hin := hevent e
  exact ⟨hin.st, hin.cause, hin.prev.trans (congrArg Sys.st hsys), hin.down, hin.lastSave.trans (congrArg Hold.lastSave hhold),
    hin.savedLog.trans (congrArg Hold.savedLog hhold), hin.jlost, hin.journal.trans (congrArg Locket.journal hlkt)⟩

theorem enterClasp_keeps (c lost : Nat) (d : Dev) : Keeps everyPart d (enterClasp c lost d) := by
  have hevent : ∀ e : Dev, (modClasp (fun x => { x with pwrEn := false }) (fastOff false c (lastRecord lost e))).t = e.t :=
    fun e => rfl
  have ht : (enterClasp c lost d).t = d.t := by
    unfold enterClasp
    rw [hevent, claspEvent, raise_t]
  exact ⟨fun p hp => by cases p <;> first | exact ht.symm | exact absurd (by decide) hp⟩

/-- The bursts that a save of plan `plan` counts (R526). -/
def burstsOf (plan bursts : Nat) : Nat := if plan = 2 then bursts else if plan = 1 then min bursts 1 else 0

/-- The journal records that a save of `b` bursts loses. -/
def lostOf (b jlost : Nat) (d : Dev) : Nat := if 2 ≤ b then 0 else min jlost d.lkt.journal.length

/-- The journal without the records that are lost. -/
def journalCut (lost : Nat) (d : Dev) : Dev :=
  { d with lkt := { d.lkt with journal := d.lkt.journal.take (d.lkt.journal.length - lost) } }

/-- The closing set of Carat is saved in the first burst. -/
def caratSaved (b : Nat) (d : Dev) : Dev :=
  if 1 ≤ b ∧ d.carat.closed then caratSave d else { d with carat := { d.carat with closed := false } }

/-- What the save tells at the next start. -/
def saveTold (plan b : Nat) (d : Dev) : Dev :=
  { d with hold := { d.hold with lastSave := lastSaveOf plan b, savedLog := if 3 ≤ b then d.ev.log.take 128 else [] } }

theorem saveComplete_eq {plan bursts jlost : Nat} {d : Dev} (hwarned : d.hold.warned = true) (hplan : d.hold.plan = plan) :
    saveComplete bursts jlost d = enterClasp 0x40 (lostOf (burstsOf plan bursts) jlost d)
      (saveTold plan (burstsOf plan bursts) (caratSaved (burstsOf plan bursts)
        (journalCut (lostOf (burstsOf plan bursts) jlost d) d))) := by
  unfold saveComplete
  rw [if_pos hwarned, ← hplan]
  rfl

theorem caratSave_keeps (d : Dev) : Keeps [.carat, .lkt, .clasp] d (caratSave d) :=
  ⟨fun p hp => by cases p <;> first | rfl | exact absurd (by decide) hp⟩

theorem caratSaved_keeps (b : Nat) (d : Dev) : Keeps [.carat, .lkt, .clasp] d (caratSaved b d) :=
  keeps_ite (fun _ => caratSave_keeps d) (fun _ => (keeps_carat _ d).mono (by decide))

/-- The end of the save is an entry into CLASP with cause 0x40, whose record tells what was saved. -/
theorem saveComplete_saved {plan bursts jlost : Nat} {d : Dev} (hwarned : d.hold.warned = true) (hplan : d.hold.plan = plan) :
    Keeps everyPart d (saveComplete bursts jlost d) ∧ ∃ e, InClasp 0x40 (lostOf (burstsOf plan bursts) jlost d) e
        (saveComplete bursts jlost d) ∧ e.sys = d.sys ∧ e.hold.lastSave = lastSaveOf plan (burstsOf plan bursts) ∧
      e.hold.savedLog = (if 3 ≤ burstsOf plan bursts then d.ev.log.take 128 else []) ∧
      (burstsOf plan bursts = 0 → e.lkt.journal =
        d.lkt.journal.take (d.lkt.journal.length - lostOf (burstsOf plan bursts) jlost d)) := by
  rw [saveComplete_eq hwarned hplan]
  generalize burstsOf plan bursts = b
  generalize lostOf b jlost d = lost
  have hcut : Keeps [.lkt] d (journalCut lost d) := keeps_lkt _ d
  have hjournal : (journalCut lost d).lkt.journal = d.lkt.journal.take (d.lkt.journal.length - lost) := rfl
  generalize journalCut lost d = e at hcut hjournal
  have hsaved := caratSaved_keeps b e
  have hnone : b = 0 → (caratSaved b e).lkt = e.lkt := by
    rintro rfl
    rw [caratSaved, if_neg (fun h => absurd h.1 (by decide))]
  generalize caratSaved b e = f at hsaved hnone
  have htold : Keeps [.hold] f (saveTold plan b f) := keeps_hold _ f
  have hev : f.ev = d.ev := (hsaved.ev (by decide)).trans (hcut.ev (by decide))
  have hsys : f.sys = d.sys := (hsaved.sys (by decide)).trans (hcut.sys (by decide))
  refine ⟨(((hcut.mono (by decide)).andThen hsaved (by decide)).andThen htold (by decide)).andThen (enterClasp_keeps _ _ _)
    (by decide), saveTold plan b f, enterClasp_inClasp _ _ _, hsys, rfl, ?_, fun hb => ?_⟩
  · rw [saveTold, hev]
  · rw [saveTold, hnone hb]
    exact hjournal

/-! ### The thermal limit -/

theorem legStays_of_leg {n : Nat} {d e : Dev} (h : leg e n = leg d n) : LegStays (leg d n) (leg e n) := by
  rw [h]
  exact .refl _

/-- The loss of one leg brings no other into service. -/
theorem legOut_stays (n m : Nat) (back : Bool) {d : Dev} (hm : m ≠ n) : LegStays (leg d m) (leg (legOut n back d) m) := by
  have hac : ∀ (b : Prop) [Decidable b] (f : Dev), LegStays (leg d m) (leg f m) →
      LegStays (leg d m) (leg (if b then checkAc f else f) m) := by
    intro b _ f h
    split
    · exact h.trans (checkAc_stays m f)
    · exact h
  unfold legOut
  split
  · refine hac _ _ (LegStays.trans ?_ (bridgeDown_stays m n _ _))
    refine LegStays.trans ?_ (legStays_of_legs m ((sweepLegLost_keeps n _).legs (by decide)))
    refine LegStays.trans ?_ (legStays_of_legs m ((keeps_setr _ _).legs (by decide)))
    exact legStays_of_leg (otherLegs_modLeg n _ d m hm)
  · exact .refl _

theorem allLegsOut_out {n : Nat} (hn : n < 48) (d : Dev) : inSvc (allLegsOut d) n = false :=
  forAll_at (P := fun _ => True) (Q := fun e => inSvc e n = false) hn (fun _ _ _ _ he => he)
    (fun e _ => legOut_out n false e) (fun k _ _ hk he => (legOut_stays k n false (fun h => hk h.symm)).out he) trivial

theorem allLegsOut_keeps (d : Dev) : Keeps tripParts d (allLegsOut d) := keeps_forAll 48 _ (fun n e => legOut_keeps n false e) d

/-- The readings of the die are taken. -/
def dieRead (ts : List Int) (d : Dev) : Dev := { d with boot := { d.boot with tDie := hottest ts, temps := ts } }

/-- The thermal state is `k`. -/
def thermAt (k : Nat) (d : Dev) : Dev := { d with boot := { d.boot with therm := k } }

/-- The thresholds that a sample of `new` after `old` passes, each with its event (R580). -/
def thermEvents (old new : Int) (d : Dev) : Dev :=
  let d2 := if old < 105 ∧ 105 ≤ new then raiseI 122 0 (thermAt 1 d) else d
  let d3 := if old < 118 ∧ 118 ≤ new then raiseI 122 0 (thermAt 2 d2) else d2
  if new < 100 ∧ d3.boot.therm ≠ 0 then raiseI 122 0 (thermAt 0 d3) else d3

theorem thermal_eq {ts : List Int} {d : Dev} (hup : d.sys.up = true) (hts : ts ≠ []) : thermal ts d =
    if 118 ≤ hottest ts then allLegsOut (thermEvents d.boot.tDie (hottest ts) (dieRead ts d))
    else thermEvents d.boot.tDie (hottest ts) (dieRead ts d) := by
  unfold thermal
  rw [if_pos ⟨hup, hts⟩]
  unfold thermEvents thermAt dieRead
  with_reducible rfl

/-- A threshold moves the thermal state only. -/
def ThermOnly (d e : Dev) : Prop := Keeps (.boot :: evParts) d e ∧ e.boot.tDie = d.boot.tDie ∧ e.boot.temps = d.boot.temps

theorem ThermOnly.refl (d : Dev) : ThermOnly d d := ⟨Keeps.refl _ d, rfl, rfl⟩

theorem ThermOnly.passed {d e : Dev} (h : ThermOnly d e) (k : Nat) : ThermOnly d (raiseI 122 0 (thermAt k e)) := by
  have hmarked : Keeps [.boot] e (thermAt k e) := keeps_boot _ e
  refine ⟨(h.1.andThen hmarked (by decide)).andThen (raiseI_keeps _ _ _) (by decide), ?_, ?_⟩
  · rw [raiseI_boot]
    exact h.2.1
  · rw [raiseI_boot]
    exact h.2.2

theorem ThermOnly.ite {c : Prop} [Decidable c] {d e f : Dev} (h : ThermOnly d e) (k : ThermOnly d f) :
    ThermOnly d (if c then e else f) := by
  split
  · exact h
  · exact k

theorem thermEvents_only (old new : Int) (d : Dev) : ThermOnly d (thermEvents old new d) := by
  unfold thermEvents
  dsimp only
  have hwarm : ThermOnly d (if old < 105 ∧ 105 ≤ new then raiseI 122 0 (thermAt 1 d) else d) :=
    .ite ((ThermOnly.refl d).passed 1) (.refl d)
  generalize (if old < 105 ∧ 105 ≤ new then raiseI 122 0 (thermAt 1 d) else d) = e at hwarm ⊢
  have hhot : ThermOnly d (if old < 118 ∧ 118 ≤ new then raiseI 122 0 (thermAt 2 e) else e) := .ite (hwarm.passed 2) hwarm
  generalize (if old < 118 ∧ 118 ≤ new then raiseI 122 0 (thermAt 2 e) else e) = f at hhot ⊢
  exact .ite (hhot.passed 0) hhot

theorem thermEvents_warm {old new : Int} (hold : old < 105) (hwarm : 105 ≤ new) (hhot : new < 118) (d : Dev) :
    thermEvents old new d = raiseI 122 0 (thermAt 1 d) := by
  have hpass : old < 105 ∧ 105 ≤ new := ⟨hold, hwarm⟩
  have hnot : ¬ (old < 118 ∧ 118 ≤ new) := by omega
  unfold thermEvents
  dsimp only
  rw [if_pos hpass, if_neg hnot, if_neg (fun h => absurd h.1 (by omega))]

theorem thermEvents_cool {old new : Int} (hcool : new < 105) {d : Dev} (h : d.boot.therm = 0) : thermEvents old new d = d := by
  have hwarm : ¬ (old < 105 ∧ 105 ≤ new) := by omega
  have hhot : ¬ (old < 118 ∧ 118 ≤ new) := by omega
  unfold thermEvents
  dsimp only
  rw [if_neg hwarm, if_neg hhot, if_neg (fun hn => hn.2 h)]

/-- What an early warning does: it is noted with its save and its event, the gates and both drives go off, and save mode is
entered (R523 to R525). -/
theorem earlyWarning_work {w : WarnSource} {d : Dev} (hup : d.sys.up = true) (hruns : chanRuns d = true)
    (hwarned : d.hold.warned = false) (hdue : warnDue d w = true) :
    Keeps (allBut [.pts, .commit, .wins, .gs, .rt, .setr, .sec, .clasp, .boot, .time, .pnd]) d (earlyWarning w d) ∧
      (earlyWarning w d).hold.warned = true ∧ (earlyWarning w d).hold.saveMode = true ∧
      (earlyWarning w d).hold.plan = savePlan d ∧ Pending 118 (earlyWarning w d) ∧
      (earlyWarning w d).pwm.devHold = true ∧ (earlyWarning w d).gd.gdh = false ∧ (earlyWarning w d).gd.gdl = false ∧
      (earlyWarning w d).sys.st = d.sys.st ∧ (earlyWarning w d).clk.lock = d.clk.lock % 4 ∧
      ∀ n, n < 48 → (leg (earlyWarning w d) n).running = false := by
  rw [earlyWarning_eq hruns hwarned hdue]
  have hevents := warnEvents_keeps w d
  have hplan : (warnEvents w d).hold.plan = savePlan d := by rw [warnEvents_hold]; rfl
  have hpend := warnEvents_pending (w := w) hup
  generalize savePlan d = plan at hplan ⊢
  generalize warnEvents w d = e1 at hevents hplan hpend ⊢
  have hgates := gatesOff_keeps e1
  obtain ⟨hheld, hgdh, hgdl⟩ := gatesOff_off e1
  have hplan2 := (congrArg Hold.plan (hgates.hold (by decide))).trans hplan
  have hpend2 := hpend.of_ev (hgates.ev (by decide))
  generalize gatesOff e1 = e2 at hgates hheld hgdh hgdl hplan2 hpend2 ⊢
  obtain ⟨sent, hgasp⟩ := lastGasp_after plan e2
  have hnoted := gaspNoted_keeps sent e2
  have hplan3 : (gaspNoted sent e2).hold.plan = plan := hplan2
  have hpend3 := lastGasp_pending (plan := plan) hpend2
  generalize gaspNoted sent e2 = e3 at hnoted hgasp hplan3
  generalize lastGasp plan e2 = e4 at hgasp hpend3 ⊢
  have hcarat : Keeps [.carat] e4 (caratClosed (caratStop e4)) := (caratStop_keeps e4).trans (keeps_carat _ _)
  generalize caratClosed (caratStop e4) = e5 at hcarat ⊢
  have hports : Keeps (.carat :: .can :: evParts) e3 e5 := (hgasp.mono (by decide)).andThen hcarat (by decide)
  have hgasped : Keeps (.carat :: .can :: .hold :: evParts) e2 e5 := (hnoted.mono (by decide)).andThen hports (by decide)
  obtain ⟨hsave, hw, hmode, hkeptplan, hst, hlock, hlegs⟩ := saveEntered_stopped e5
  have hpend5 := (hpend3.of_ev (hcarat.ev (by decide))).of_ev (hsave.ev (by decide))
  have hsys : e5.sys = d.sys :=
    ((hgasped.sys (by decide)).trans (hgates.sys (by decide))).trans (hevents.sys (by decide))
  have hclk : e5.clk = d.clk :=
    ((hgasped.clk (by decide)).trans (hgates.clk (by decide))).trans (hevents.clk (by decide))
  have hpwm : (saveEntered e5).pwm = e2.pwm := (hsave.pwm (by decide)).trans (hgasped.pwm (by decide))
  have hgd : (saveEntered e5).gd = e2.gd := (hsave.gd (by decide)).trans (hgasped.gd (by decide))
  refine ⟨(((hevents.mono (by decide)).andThen hgates (by decide)).andThen hgasped (by decide)).andThen hsave (by decide),
    hw, hmode, hkeptplan.trans ((congrArg Hold.plan (hports.hold (by decide))).trans hplan3), hpend5,
    (congrArg Pwm.devHold hpwm).trans hheld, (congrArg Gd.gdh hgd).trans hgdh, (congrArg Gd.gdl hgd).trans hgdl,
    hst.trans (congrArg Sys.st hsys), ?_, hlegs⟩
  rw [hlock, hclk]

theorem up_of_chanRuns {d : Dev} (h : chanRuns d = true) : d.sys.up = true := by
  unfold chanRuns at h
  split at h
  · exact Bool.noConfusion h
  · exact Bool.noConfusion h
  · exact h

theorem not_decide_of_lt {a b : Nat} (h : a < b) : ¬ decide (b ≤ a) = true := by
  rw [decide_eq_true_eq]
  exact Nat.not_le.mpr h

/-- Settles O37: the gauge, early warnings, the end of the save and the thermal limit. -/
theorem holdUp : Obligations.HoldUp := by
  unfold Obligations.HoldUp
  refine ⟨?gauge, ?notDue, ?warns, ?full, ?minimal, ?none, ?limit, ?warm, ?cool⟩
  case gauge =>
    intro s t v hup hv
    have heq := gaugeUpdate_eq (d := devAt s t) hup hv
    have hkeeps : Keeps [.hold] (devAt s t) (gauged v (devAt s t)) := keeps_hold _ _
    refine runs_eq rfl heq (keeps_ite (fun _ => (hkeeps.mono (by decide)).andThen (raiseI_keeps _ _ _) (by decide))
      (fun _ => hkeeps.mono (by decide))) (by decide) ⟨?_, fun hsave hlow hwarned => ?_⟩
    · split
      · rw [raiseI_hold, gauged]
        rfl
      · rfl
    · rw [if_pos ⟨hsave, not_decide_of_lt hlow, ne_true_of_eq_false hwarned⟩]
      exact raiseI_pending _ _ _ hup (by decide)
  case notDue =>
    intro s t w hdue
    have heq : earlyWarning w (devAt s t) = devAt s t := if_neg (fun h => ne_true_of_eq_false hdue h.2.2)
    exact runs_eq rfl heq (Keeps.refl _ _) (by decide) trivial
  case warns =>
    intro s t w hruns hwarned hdue
    obtain ⟨hkeeps, hpost⟩ := earlyWarning_work (w := w) (d := devAt s t) (up_of_chanRuns hruns) hruns hwarned hdue
    exact runs_eq rfl rfl hkeeps (by decide) hpost
  case full =>
    intro s t b j hwarned hplan hb
    obtain ⟨hkeeps, e, hin, hsys, hlast, hlog, -⟩ := saveComplete_saved (bursts := b) (jlost := j) (d := devAt s t) hwarned hplan
    have hb2 : burstsOf 2 b = b := rfl
    rw [hb2] at hin hlast hlog
    have hlost : lostOf b j (devAt s t) = 0 := if_pos (by omega)
    rw [if_pos hb] at hlog
    refine runs_eq rfl rfl hkeeps (by decide) ⟨hin.st, hin.cause, ?_, hin.down, ?_, ?_, hin.jlost.trans hlost⟩
    · rw [hin.prev, hsys]
      rfl
    · rw [hin.lastSave, hlast, lastSaveOf, if_pos rfl, if_pos hb]
    · rw [hin.savedLog, hlog]
      rfl
  case minimal =>
    intro s t b j hwarned hplan hb
    obtain ⟨hkeeps, e, hin, -, hlast, hlog, -⟩ := saveComplete_saved (bursts := b) (jlost := j) (d := devAt s t) hwarned hplan
    have hb1 : burstsOf 1 b = 1 := Nat.min_eq_right hb
    rw [hb1] at hlast hlog
    refine runs_eq rfl rfl hkeeps (by decide) ⟨hin.st, hin.cause, ?_, ?_⟩
    · rw [hin.lastSave, hlast]
      rfl
    · rw [hin.savedLog, hlog]
      rfl
  case none =>
    intro s t b j hwarned hplan
    obtain ⟨hkeeps, e, hin, -, hlast, hlog, hjournal⟩ := saveComplete_saved (bursts := b) (jlost := j) (d := devAt s t) hwarned
      hplan
    have hb0 : burstsOf 0 b = 0 := rfl
    rw [hb0] at hin hlast hlog hjournal
    refine runs_eq rfl rfl hkeeps (by decide) ⟨hin.st, hin.cause, ?_, ?_, hin.jlost, ?_⟩
    · rw [hin.lastSave, hlast]
      rfl
    · rw [hin.savedLog, hlog]
      rfl
    · exact hin.journal.trans (hjournal rfl)
  case limit =>
    intro s t ts hup hts hhot
    have heq := (thermal_eq (d := devAt s t) hup hts).trans (if_pos hhot)
    have hread : Keeps [.boot] (devAt s t) (dieRead ts (devAt s t)) := keeps_boot _ _
    obtain ⟨hkeeps, hdie, htemps⟩ := thermEvents_only (devAt s t).boot.tDie (hottest ts) (dieRead ts (devAt s t))
    generalize thermEvents (devAt s t).boot.tDie (hottest ts) (dieRead ts (devAt s t)) = e at heq hkeeps hdie htemps
    have hout := allLegsOut_keeps e
    refine runs_eq rfl heq (((hread.mono (by decide)).andThen hkeeps (by decide)).andThen hout (by decide)) (by decide)
      ⟨?_, ?_, fun n hn => allLegsOut_out hn e⟩
    · rw [hout.boot (by decide), hdie]
      rfl
    · rw [hout.boot (by decide), htemps]
      rfl
  case warm =>
    intro s t ts hup hts hold hwarm hhot
    have heq := (thermal_eq (d := devAt s t) hup hts).trans (if_neg (Int.not_le.mpr hhot))
    have hold' : (devAt s t).boot.tDie < 105 := hold
    rw [thermEvents_warm hold' hwarm hhot] at heq
    have hread : Keeps [.boot] (devAt s t) (thermAt 1 (dieRead ts (devAt s t))) := (keeps_boot _ _).trans (keeps_boot _ _)
    have hboot : (raiseI 122 0 (thermAt 1 (dieRead ts (devAt s t)))).boot = (thermAt 1 (dieRead ts (devAt s t))).boot :=
      raiseI_boot _ _ _
    refine runs_eq rfl heq ((hread.mono (by decide)).andThen (raiseI_keeps _ _ _) (by decide)) (by decide)
      ⟨?_, ?_, ?_, raiseI_pending _ _ _ hup (by decide)⟩
    · rw [hboot]
      rfl
    · rw [hboot]
      rfl
    · rw [hboot]
      rfl
  case cool =>
    intro s t ts hup hts hcool htherm
    have heq := (thermal_eq (d := devAt s t) hup hts).trans (if_neg (Int.not_le.mpr (by omega)))
    have hsame : (dieRead ts (devAt s t)).boot.therm = 0 := htherm
    rw [thermEvents_cool hcool hsame] at heq
    have hread : Keeps [.boot] (devAt s t) (dieRead ts (devAt s t)) := keeps_boot _ _
    exact runs_eq rfl heq hread (by decide) rfl

end Sys2Proof.Safety
end

section
/-!
PROOF. PGET and PSET: what a read clears, what a write stages, discards and host points (R87, R364, R374 to R379, R386,
R395).
-/
namespace Sys2Proof.Safety

open Sys2Proof.Machine

/-! ### Reads -/

/-- A completion stays through what leaves the mailbox. -/
theorem Completed.kept {s : State} {c : Cmd} {t st dt : Nat} {resp : List Byte} {ps : List Part} {d e : Dev}
    (h : Completed s c t st dt resp d) (hk : Keeps ps d e) (hmbx : Part.mbx ∉ ps) : Completed s c t st dt resp e := by
  rw [Completed, hk.mbxSent hmbx]
  exact h

/-- What a PGET of a value clears stands apart from the mailbox (R353). -/
theorem prmTouch_keeps (pid i : Nat) (d : Dev) :
    Keeps [.acq, .fil, .legs, .wins, .pv, .can, .taps, .loupe, .lanes] d (prmTouch pid i d) := by
  unfold prmTouch
  split
  · exact (modFacet_keeps i _ d).mono (by decide)
  · exact (modCas_keeps i _ d).mono (by decide)
  · exact (modCas_keeps i _ d).mono (by decide)
  · exact (modCas_keeps i _ d).mono (by decide)
  · exact (modTap_keeps i _ d).mono (by decide)
  · exact (modLeg_keeps i _ d).mono (by decide)
  · exact (modWin_keeps i _ d).mono (by decide)
  · exact (modWin_keeps i _ d).mono (by decide)
  · exact (modWin_keeps i _ d).mono (by decide)
  · exact (modPv_keeps i _ d).mono (by decide)
  · exact (modUnit_keeps i _ d).mono (by decide)
  · exact (modUnit_keeps i _ d).mono (by decide)
  · exact (modPort_keeps i _ d).mono (by decide)
  · exact (modPort_keeps i _ d).mono (by decide)
  · exact (modEnt_keeps i _ d).mono (by decide)
  · exact (modLane_keeps i _ d).mono (by decide)
  · exact (modLane_keeps i _ d).mono (by decide)
  · exact Keeps.refl _ d

/-- The values that a PGET of `n` instances from `first` on returns. -/
def pgetResp (shadow : Bool) (x : Desc) (first n : Nat) (d : Dev) : List Byte :=
  le 2 x.vsize ++ le 2 (pgetCount x.vsize n) ++
    (List.range (pgetCount x.vsize n)).flatMap (fun k => le x.vsize (pgetVal d shadow x (first + k)))

theorem pgetGo_answers {shadow : Bool} {c : Cmd} {x : Desc} {d : Dev} (hshadow : bit (field c.body 6 6) 0 = shadow)
    (hdesc : descOf (field c.body 1 0) = some x) (hfits : field c.body 3 2 + field c.body 5 4 ≤ x.n) :
    pgetGo shadow c d = ((List.range (pgetCount x.vsize (field c.body 5 4))).map (fun k => field c.body 3 2 + k)).foldl
      (fun e i => prmTouch (field c.body 1 0) i e)
      (finish c 0 0 (pgetResp shadow x (field c.body 3 2) (field c.body 5 4) d) d) := by
  unfold pgetGo
  dsimp only
  rw [if_neg (not_not_intro hshadow), hdesc]
  dsimp only
  rw [if_neg (Nat.not_lt.mpr hfits), List.length_map, List.length_range, List.flatMap_map]
  rfl

theorem pget_runs {i : Instr} {s : State} {t slot : Nat} {c : Cmd} {x : Desc} {shadow : Bool}
    (he : exec i s = liftCmd t slot 0x01 (pgetGo shadow) s) (ha : Admitted s slot 0x01 c)
    (hshadow : bit (field c.body 6 6) 0 = shadow) (hdesc : descOf (field c.body 1 0) = some x)
    (hfits : field c.body 3 2 + field c.body 5 4 ≤ x.n) :
    Runs i t s ([.mbx, .acq, .fil, .legs, .wins, .pv, .can] ++ evParts)
      (Completed s c t 0 0 (pgetResp shadow x (field c.body 3 2) (field c.body 5 4) (devAt s t))) := by
  have heq := pgetGo_answers (d := devAt s t) hshadow hdesc hfits
  have htouch := fun e : Dev => keeps_foldl (fun e i => prmTouch (field c.body 1 0) i e)
    (fun e i => prmTouch_keeps (field c.body 1 0) i e)
    ((List.range (pgetCount x.vsize (field c.body 5 4))).map (fun k => field c.body 3 2 + k)) e
  refine runs_liftCmd he ha ?_ (by decide) ?_
  · rw [heq]
    exact ((finish_keeps _ _ _ _ _).mono (by decide)).andThen (htouch _) (by decide)
  · rw [heq]
    exact (completed_finish s c t 0 0 _).kept (htouch _) (by decide)

/-- Settles O41: PGET of values in force and of staged ones, and its refusals. -/
theorem parameterReads : Obligations.ParameterReads := by
  unfold Obligations.ParameterReads
  refine ⟨?active, ?shadow, ?unknown, ?range⟩
  case active =>
    intro s t slot c x ha hshadow hdesc hfits
    exact (pget_runs rfl ha hshadow hdesc hfits).imp fun d h => h
  case shadow =>
    intro s t slot c x ha hshadow hdesc hfits
    exact (pget_runs rfl ha hshadow hdesc hfits).imp fun d h => h
  case unknown =>
    intro s t slot c ha hshadow hdesc
    have heq : pgetGo false c (devAt s t) = finish c 9 (field c.body 1 0) [] (devAt s t) := by
      unfold pgetGo
      dsimp only
      rw [if_neg (not_not_intro hshadow), hdesc]
    refine runs_liftCmd (f := pgetGo false) rfl ha ?_ (by decide) ?_
    · rw [heq]
      exact finish_keeps _ _ _ _ _
    · rw [heq]
      exact completed_finish s c t _ _ _
  case range =>
    intro s t slot c x ha hshadow hdesc hbeyond
    have heq : pgetGo false c (devAt s t) =
        finish c 8 (pdet (field c.body 1 0) (max (field c.body 3 2) x.n)) [] (devAt s t) := by
      unfold pgetGo
      dsimp only
      rw [if_neg (not_not_intro hshadow), hdesc]
      exact if_pos hbeyond
    refine runs_liftCmd (f := pgetGo false) rfl ha ?_ (by decide) ?_
    · rw [heq]
      exact finish_keeps _ _ _ _ _
    · rw [heq]
      exact completed_finish s c t _ _ _

/-! ### Writes -/

theorem mirrorOut_keeps (r a b : Nat) (bs : List Byte) (d : Dev) : Keeps [.chain] d (mirrorOut r a b bs d) :=
  keeps_ite (fun _ => keeps_chain _ d) (fun _ => Keeps.refl _ d)

theorem stage_keeps (pid i v : Nat) (d : Dev) : Keeps [.prm] d (stage pid i v d) := by
  unfold stage
  exact keeps_ite (fun _ => keeps_prm _ d) (fun _ => keeps_prm _ d)

theorem stage_active (pid i v : Nat) (d : Dev) : (stage pid i v d).prm.active = d.prm.active := by
  unfold stage
  split <;> rfl

theorem stage_ptSel (pid i v : Nat) (d : Dev) : (stage pid i v d).prm.ptSel = d.prm.ptSel := by
  unfold stage
  split <;> rfl

theorem declOf_of_pts {d e : Dev} (h : e.pts = d.pts) (p : Nat) : declOf e p = declOf d p := by
  unfold declOf point
  rw [h]

theorem stagedVal_congr {d e : Dev} (hprm : e.prm = d.prm) (hpts : e.pts = d.pts) (pid i : Nat) :
    stagedVal e pid i = stagedVal d pid i := by
  unfold stagedVal declOf point prm
  rw [hprm, hpts]

/-- Staging at one index stages the value there. -/
theorem stagedVal_stage_self (pid i v : Nat) (d : Dev) : stagedVal (stage pid i v d) pid i = v := by
  by_cases h : pid = 0x0052
  · have hdecl := declOf_of_pts ((stage_keeps pid i v d).pts (by decide))
    rw [stagedVal, if_pos h, hdecl, stage_ptSel]
    unfold stage
    rw [if_pos h]
    dsimp only
    rw [tget_tput_self]
    split
    · rename_i hv
      exact hv.symm
    · rfl
  · have hactive : prm (stage pid i v d) pid i = prm d pid i := by
      simp only [prm, stage_active]
    rw [stagedVal, if_neg h, hactive]
    unfold stage
    rw [if_neg h]
    dsimp only
    split
    · rename_i hv
      rw [tget_tdel, if_pos rfl]
      exact hv.1.symm
    · rw [tget_tins _ _ _ _ _ (fun e he => by simpa using (List.mem_filter.mp he).2), if_pos rfl]

/-- Staging at one index leaves the others of the parameter. -/
theorem stagedVal_stage_other {pid i j : Nat} (hj : j ≠ i) (v : Nat) (d : Dev) :
    stagedVal (stage pid i v d) pid j = stagedVal d pid j := by
  by_cases h : pid = 0x0052
  · have hdecl := declOf_of_pts ((stage_keeps pid i v d).pts (by decide))
    rw [stagedVal, stagedVal, if_pos h, if_pos h, hdecl, stage_ptSel]
    unfold stage
    rw [if_pos h]
    dsimp only
    rw [tget_tput_ne _ _ _ (by omega)]
  · have hactive : prm (stage pid i v d) pid j = prm d pid j := by
      simp only [prm, stage_active]
    have hkey : pkey pid j ≠ pkey pid i := by
      unfold pkey
      omega
    rw [stagedVal, stagedVal, if_neg h, if_neg h, hactive]
    unfold stage
    rw [if_neg h]
    dsimp only
    split
    · rw [tget_tdel, if_neg hkey]
    · rw [tget_tins _ _ _ _ _ (fun e he => by simpa using (List.mem_filter.mp he).2), if_neg hkey, tget_tdel, if_neg hkey]

/-- One staged value of a PSET; a trace mode arms its tap again. -/
def stageOne (pid i v : Nat) (d : Dev) : Dev := if pid = 0x2302 then tapRearm i (stage pid i v d) else stage pid i v d

theorem stageOne_keeps (pid i v : Nat) (d : Dev) : Keeps [.prm, .taps] d (stageOne pid i v d) :=
  keeps_ite (fun _ => ((stage_keeps pid i v d).mono (by decide)).andThen (modTap_keeps i _ _) (by decide))
    (fun _ => (stage_keeps pid i v d).mono (by decide))

theorem stageOne_after (pid i v : Nat) (d : Dev) : Keeps [.taps] (stage pid i v d) (stageOne pid i v d) :=
  keeps_ite (fun _ => modTap_keeps i _ _) (fun _ => Keeps.refl _ _)

theorem stageOne_active (pid i v : Nat) (d : Dev) : (stageOne pid i v d).prm.active = d.prm.active := by
  rw [(stageOne_after pid i v d).prm (by decide), stage_active]

theorem stagedVal_stageOne (pid i v j : Nat) (d : Dev) : stagedVal (stageOne pid i v d) pid j = stagedVal (stage pid i v d) pid j :=
  stagedVal_congr ((stageOne_after pid i v d).prm (by decide)) ((stageOne_after pid i v d).pts (by decide)) pid j

theorem bankWrite_keeps (pid i v : Nat) (d : Dev) : Keeps [.fil] d (bankWrite pid i v d) := by
  unfold bankWrite
  exact (setOther_keeps _ d).trans (modCas_keeps _ _ _)

theorem bankWrite_active (pid i v : Nat) (d : Dev) : activeBank (bankWrite pid i v d) = activeBank d := by
  unfold bankWrite
  rw [activeBank_modCas, activeBank_setOther]

/-- A banked write is to its word of the inactive bank alone. -/
theorem bankGet_bankWrite (pid i v j : Nat) (d : Dev) : bankGet (otherBank (bankWrite pid i v d)) pid j =
    if j = i then v else bankGet (otherBank d) pid j := by
  unfold bankWrite
  rw [otherBank_modCas, otherBank_setOther]
  unfold bankGet bankPut
  by_cases hj : j = i
  · rw [hj, tget_tput_self, if_pos rfl]
  · have hkey : pkey pid j ≠ pkey pid i := by
      unfold pkey
      omega
    rw [if_neg hj, tget_tput_other _ _ _ _ hkey]

/-! ### PSET -/

theorem descOf_pid {pid : Nat} {x : Desc} (h : descOf pid = some x) : x.pid = pid := by
  unfold descOf at h
  have hfound := List.find?_some (p := fun d : Desc => decide (d.pid = pid)) h
  exact of_decide_eq_true hfound

/-- The instances that a PSET writes, with their values. -/
def psetVals (c : Cmd) : List (Nat × Nat) :=
  (List.range (field c.body 5 4)).map (fun k => (field c.body 3 2 + k, psetVal c (field c.body 7 6) k))

/-- A PSET whose parameter and instances are its own to write: the values are judged, and written or held. -/
def psetJudged (c : Cmd) (x : Desc) (d : Dev) : Dev :=
  match (psetVals c).find? (fun iv => ¬ inRange x iv.2) with
  | some iv => finish c 8 (pdet (field c.body 1 0) iv.1) [] d
  | none =>
    let r := psetWrite (cmdClass d c) x (psetVals c) d
    if r.2 then { d with mbx := { d.mbx with
      heldPset := if d.mbx.heldPset.contains c.slot then d.mbx.heldPset else d.mbx.heldPset ++ [c.slot] } }
    else psetEnd c x r.1

theorem psetGo_checked {c : Cmd} {x : Desc} {d : Dev} (hstandby : standbyPset d (field c.body 1 0) = false)
    (hdesc : descOf (field c.body 1 0) = some x) (hkind : x.kind ≠ 0) (hvs : field c.body 7 6 = x.vsize)
    (hfits : field c.body 3 2 + field c.body 5 4 ≤ x.n) (hbusy : psetBusy d x (field c.body 3 2) (field c.body 5 4) = false)
    (howned : ∀ k, k < field c.body 5 4 → prmOwned d (field c.body 1 0) (field c.body 3 2 + k) = false) :
    psetGo c d = psetJudged c x d := by
  have hfree : (psetVals c).find? (fun iv => prmOwned d (field c.body 1 0) iv.1) = none := by
    rw [List.find?_eq_none]
    intro iv hiv
    obtain ⟨k, hk, rfl⟩ := List.mem_map.mp hiv
    exact ne_true_of_eq_false (howned k (List.mem_range.mp hk))
  unfold psetGo
  dsimp only
  rw [if_neg (ne_true_of_eq_false hstandby), hdesc]
  dsimp only
  rw [if_neg (not_not_intro hvs), if_neg hkind, if_neg (Nat.not_lt.mpr hfits), if_neg (ne_true_of_eq_false hbusy),
    ← psetVals, hfree]
  rfl

theorem psetVals_good {c : Cmd} {x : Desc}
    (hgood : ∀ k, k < field c.body 5 4 → inRange x (psetVal c (field c.body 7 6) k) = true) :
    (psetVals c).find? (fun iv => ¬ inRange x iv.2) = none := by
  rw [List.find?_eq_none]
  intro iv hiv
  obtain ⟨k, hk, rfl⟩ := List.mem_map.mp hiv
  simp [hgood k (List.mem_range.mp hk)]

/-- The first value out of range is the one that the answer names. -/
theorem psetVals_bad {c : Cmd} {x : Desc} {i : Nat} (hi : i < field c.body 5 4)
    (hgood : ∀ k, k < i → inRange x (psetVal c (field c.body 7 6) k) = true)
    (hbad : inRange x (psetVal c (field c.body 7 6) i) = false) : (psetVals c).find? (fun iv => ¬ inRange x iv.2) =
      some (field c.body 3 2 + i, psetVal c (field c.body 7 6) i) := by
  have hfirst : (List.range (field c.body 5 4)).find? (fun k => ¬ inRange x (psetVal c (field c.body 7 6) k)) = some i := by
    rw [List.find?_range_eq_some]
    refine ⟨by simp [hbad], List.mem_range.mpr hi, fun j hj => ?_⟩
    simp [hgood j hj]
  rw [psetVals, List.find?_map]
  have hcomp : (fun iv : Nat × Nat => decide (¬ inRange x iv.2 = true)) ∘
      (fun k => (field c.body 3 2 + k, psetVal c (field c.body 7 6) k)) =
      fun k => decide (¬ inRange x (psetVal c (field c.body 7 6) k) = true) := rfl
  rw [hcomp, hfirst]
  rfl

/-- Every value of a PSET written in index order by `f`. -/
def psetAll (f : Nat → Nat → Dev → Dev) (c : Cmd) (d : Dev) : Dev :=
  forAll (field c.body 5 4) (fun k e => f (field c.body 3 2 + k) (psetVal c (field c.body 7 6) k) e) (answer 0 0 d)

theorem psetVals_foldl (f : Nat → Nat → Dev → Dev) (c : Cmd) (d : Dev) :
    (psetVals c).foldl (fun e iv => f iv.1 iv.2 e) (answer 0 0 d) = psetAll f c d := by
  rw [psetVals, List.foldl_map]
  rfl

theorem psetAll_keeps {f : Nat → Nat → Dev → Dev} {qs : List Part} (hf : ∀ i v e, Keeps qs e (f i v e)) (c : Cmd) (d : Dev) :
    Keeps qs (answer 0 0 d) (psetAll f c d) := keeps_forAll _ _ (fun _ e => hf _ _ e) _

/-- The end of a PSET that has succeeded: it completes, and the standby is told. -/
theorem psetEnd_ok {c : Cmd} {x : Desc} {e : Dev} (hup : e.sys.up = true) (hst : e.mbx.lastStatus = 0)
    (hdt : e.mbx.lastDetail = 0) : ∃ b : Bool, psetEnd c x e =
      if b then mirrorOut 5 (recKind x) 0 c.body (finish c 0 0 [] e) else finish c 0 0 [] e := by
  unfold psetEnd
  rw [if_neg (not_not_intro hup), hst, hdt]
  dsimp only
  by_cases hm : ¬ notMirrored x.pid = true
  · exact ⟨true, by rw [if_pos ⟨rfl, hm⟩]; rfl⟩
  · exact ⟨false, by rw [if_neg (fun h => hm h.2)]; rfl⟩

/-- A PSET whose values are all in range and that is not held writes them, and completes with OK. -/
theorem pset_runs {s : State} {t slot : Nat} {c : Cmd} {x : Desc} {f : Nat → Nat → Dev → Dev} {qs ps : List Part}
    (ha : Admitted s slot 0x02 c) (hup : s.dev.sys.up = true) (hgo : psetGo c (devAt s t) = psetEnd c x (psetAll f c (devAt s t)))
    (hf : ∀ i v e, Keeps qs e (f i v e)) (hmbx : Part.mbx ∉ qs) (hsys : Part.sys ∉ qs) (htime : Part.t ∉ qs)
    (ht : Part.t ∉ ps) (hqs : ∀ p ∈ .mbx :: .chain :: qs, p ∈ ps) :
    Runs (.pset t slot) t s ps (fun d => Completed s c t 0 0 [] d ∧ Keeps [.mbx, .chain] (psetAll f c (devAt s t)) d) := by
  have hwritten := psetAll_keeps hf c (devAt s t)
  have hanswer := answer_keeps 0 0 (devAt s t)
  generalize psetAll f c (devAt s t) = e at hgo hwritten
  have hm := hwritten.mbxSent hmbx
  have hup' : e.sys.up = true := by rw [hwritten.sys hsys]; exact hup
  obtain ⟨b, hend⟩ := psetEnd_ok (c := c) (x := x) hup' (by rw [hm]; rfl) (by rw [hm]; rfl)
  have hfinish := finish_quiet_keeps (c := c) (st := 0) (by decide) 0 [] e
  have hdone : Completed s c t 0 0 [] (finish c 0 0 [] e) := by
    rw [Completed, finish_mbx, hm, tMs, hwritten.t htime]
    exact ⟨rfl, rfl⟩
  have hafter : Keeps [.mbx, .chain] e (psetEnd c x e) := by
    rw [hend]
    exact keeps_ite (fun _ => (hfinish.mono (by decide)).andThen (mirrorOut_keeps _ _ _ _ _) (by decide))
      (fun _ => hfinish.mono (by decide))
  have hcompleted : Completed s c t 0 0 [] (psetEnd c x e) := by
    rw [hend]
    split
    · exact hdone.kept (mirrorOut_keeps _ _ _ _ _) (by decide)
    · exact hdone
  refine runs_liftCmd (f := psetGo) rfl ha ?_ ht ?_
  · rw [hgo]
    refine ((hanswer.mono (qs := .mbx :: .chain :: qs) ?_).andThen hwritten ?_).andThen hafter ?_ |>.mono hqs
    · intro p hp
      rw [List.mem_singleton.mp hp]
      exact List.mem_cons_self
    · exact fun p hp => List.mem_cons_of_mem _ (List.mem_cons_of_mem _ hp)
    · intro p hp
      rcases List.mem_pair.mp hp with rfl | rfl
      · exact List.mem_cons_self
      · exact List.mem_cons_of_mem _ List.mem_cons_self
  · rw [hgo]
    exact ⟨hcompleted, hafter⟩

/-- Each value of a PSET is read back where it was written, when a write leaves the other instances. -/
theorem psetAll_reads {f : Nat → Nat → Dev → Dev} {val : Dev → Nat → Nat}
    (hself : ∀ i v e, val (f i v e) i = v) (hother : ∀ i v j e, j ≠ i → val (f i v e) j = val e j) {c : Cmd} {k : Nat}
    (hk : k < field c.body 5 4) (d : Dev) : val (psetAll f c d) (field c.body 3 2 + k) = psetVal c (field c.body 7 6) k :=
  forAll_at (P := fun _ => True) (Q := fun e => val e (field c.body 3 2 + k) = psetVal c (field c.body 7 6) k) hk
    (fun _ _ _ _ he => he) (fun _ _ => hself _ _ _)
    (fun _ _ _ hne he => (hother _ _ _ _ (fun h => hne (Nat.add_left_cancel h).symm)).trans he) trivial

/-! ### Discards -/

/-- Filtering a table by its keys leaves what it reads at a key that passes, and nothing at one that does not. -/
theorem tget_filter {α : Type} (d : α) (q : Nat → Bool) (m : Tab α) (k : Nat) :
    tget d (m.filter (fun e => q e.1)) k = if q k then tget d m k else d := by
  induction m with
  | nil => simp [tget]
  | cons e r ih =>
    obtain ⟨a, v⟩ := e
    by_cases ha : a = k
    · subst ha
      cases hq : q a with
      | true => simp [List.filter, hq, tget]
      | false => simp [List.filter, hq, ih]
    · cases hq : q a with
      | true => simp [List.filter, hq, tget, ha, ih]
      | false => simp [List.filter, hq, tget, ha, ih]

/-- A staged value that a discard keeps: its group is not in the mask. -/
def keepsStaged (d : Dev) (mask k : Nat) : Bool :=
  match groupOf d (k / 65536) (k % 65536) with
  | some g => !bit mask g
  | none => true

/-- The staged values of the groups in the mask are taken back. -/
def discarded (mask : Nat) (d : Dev) : Dev :=
  { d with prm := { d.prm with
      staged := d.prm.staged.filter (fun e => keepsStaged d mask e.1), declStaged := if bit mask 0 then [] else d.prm.declStaged } }

theorem discard_eq {mask : Nat} {d : Dev} (hmask : mask < 2 ^ 32) (hnames : commitNames d mask = false) :
    Machine.discard mask d = answer 0 0 (discarded mask d) := by
  unfold Machine.discard
  rw [if_neg (Nat.not_le.mpr hmask), if_neg (ne_true_of_eq_false hnames)]
  rfl

theorem stagedVal_discarded {mask pid i g : Nat} {d : Dev} (hpid : pid ≠ 0x0052) (hi : i < 65536)
    (hg : groupOf d pid i = some g) :
    stagedVal (discarded mask d) pid i = if bit mask g then prm d pid i else stagedVal d pid i := by
  have hkeep : keepsStaged d mask (pkey pid i) = !bit mask g := by
    have hp : pkey pid i / 65536 = pid := by unfold pkey; omega
    have hq : pkey pid i % 65536 = i := by unfold pkey; omega
    unfold keepsStaged
    rw [hp, hq, hg]
  have hprm : prm (discarded mask d) pid i = prm d pid i := rfl
  have hstaged : (discarded mask d).prm.staged = d.prm.staged.filter (fun e => keepsStaged d mask e.1) := rfl
  rw [stagedVal, if_neg hpid, hprm, hstaged, tget_filter, hkeep, stagedVal, if_neg hpid]
  cases bit mask g <;> rfl

/-! ### Host points -/

theorem modStr_keeps (k : Nat) (f : Str → Str) (d : Dev) : Keeps [.setr] d (modStr k f d) := keeps_setr _ d

theorem rackFeed_keeps (d : Dev) : Keeps [.setr] d (rackFeed d) :=
  keeps_forAll _ _ (fun k e => keeps_ite (fun _ => modStr_keeps k _ e) (fun _ => Keeps.refl _ e)) d

theorem point_putPoint (p typ v q : Nat) (d : Dev) : point (putPoint p typ v d) q =
    if q = p then { point d p with value := v, typ := typ, tNs := tNs d, valid := true, stale := false,
                                   seq := ((point d p).seq + 1) % 2 ^ 32 } else point d q := by
  unfold point putPoint
  dsimp only
  rw [tget_tput]
  rfl

theorem point_of_pts {d e : Dev} (h : e.pts = d.pts) (p : Nat) : point e p = point d p := by
  unfold point
  rw [h]

theorem typ_of_declared {d : Dev} {p : Nat} (h : declOf d p ≠ 0) : (point d p).typ = declOf d p := by
  unfold declOf at h ⊢
  dsimp only at h ⊢
  split
  · rfl
  · rename_i hno
    exact absurd (if_neg hno) h

/-- Settles O42: PSET of staged and of banked parameters, its refusals, discards and host points. -/
theorem parameterWrites : Obligations.ParameterWrites := by
  unfold Obligations.ParameterWrites
  refine ⟨?staged, ?banked, ?range, ?readOnly, ?discards, ?points⟩
  case staged =>
    intro s t slot c x ha hup hstandby hdesc hkind hvs hfits hbusy howned hgood
    have hpid : x.pid = field c.body 1 0 := descOf_pid hdesc
    have hgo : psetGo c (devAt s t) = psetEnd c x (psetAll (stageOne x.pid) c (devAt s t)) := by
      rw [psetGo_checked (d := devAt s t) hstandby hdesc (by omega) hvs hfits hbusy howned, psetJudged, psetVals_good hgood]
      dsimp only
      rw [psetWrite, if_pos hkind, if_neg Bool.false_ne_true, ← psetVals_foldl]
      rfl
    refine (pset_runs ha hup hgo (stageOne_keeps x.pid) (by decide) (by decide) (by decide) (by decide) (by decide)).imp ?_
    rintro d ⟨hdone, hkeeps⟩
    refine ⟨hdone, fun k hk => ?_, ?_⟩
    · rw [← hpid, stagedVal_congr (hkeeps.prm (by decide)) (hkeeps.pts (by decide))]
      exact psetAll_reads (val := fun e i => stagedVal e x.pid i)
        (fun i v e => (stagedVal_stageOne _ _ _ _ _).trans (stagedVal_stage_self _ _ _ _))
        (fun i v j e hj => (stagedVal_stageOne _ _ _ _ _).trans (stagedVal_stage_other hj _ _)) hk _
    · rw [hkeeps.prm (by decide)]
      exact forAll_preserves (P := fun e => e.prm.active = s.dev.prm.active)
        (fun _ e _ he => (stageOne_active _ _ _ e).trans he) rfl
  case banked =>
    intro s t slot c x ha hup hstandby hdesc hkind hvs hfits hbusy hcopying howned hgood
    have hpid : x.pid = field c.body 1 0 := descOf_pid hdesc
    have hfree : (psetVals c).any (fun iv => bankHeld (devAt s t) x.pid iv.1) = false := by
      have hcopying' : (devAt s t).fil.copying = false := hcopying
      simp [bankHeld, hcopying']
    have hgo : psetGo c (devAt s t) = psetEnd c x (psetAll (bankWrite x.pid) c (devAt s t)) := by
      rw [psetGo_checked (d := devAt s t) hstandby hdesc (by omega) hvs hfits hbusy howned, psetJudged, psetVals_good hgood]
      dsimp only
      have hone : ¬ x.kind = 1 := by omega
      rw [psetWrite, if_neg hone, if_pos hkind, if_neg (ne_true_of_eq_false hfree), if_neg Bool.false_ne_true, ← psetVals_foldl]
    refine (pset_runs ha hup hgo (bankWrite_keeps x.pid) (by decide) (by decide) (by decide) (by decide) (by decide)).imp ?_
    rintro d ⟨hdone, hkeeps⟩
    have hbanks : otherBank d = otherBank (psetAll (bankWrite x.pid) c (devAt s t)) ∧
        activeBank d = activeBank (psetAll (bankWrite x.pid) c (devAt s t)) := by
      unfold otherBank activeBank
      rw [hkeeps.filAll (by decide) (by decide)]
      exact ⟨rfl, rfl⟩
    refine ⟨hdone, fun k hk => ?_, ?_⟩
    · rw [hbanks.1, ← hpid]
      exact psetAll_reads (val := fun e i => bankGet (otherBank e) x.pid i)
        (fun i v e => (bankGet_bankWrite _ _ _ _ _).trans (if_pos rfl))
        (fun i v j e hj => (bankGet_bankWrite _ _ _ _ _).trans (if_neg hj)) hk _
    · rw [hbanks.2]
      exact forAll_preserves (P := fun e => activeBank e = activeBank s.dev)
        (fun _ e _ he => (bankWrite_active _ _ _ e).trans he) rfl
  case range =>
    intro s t slot i c x ha hstandby hdesc hkind hvs hfits hbusy howned hi hgood hbad
    have heq : psetGo c (devAt s t) = finish c 8 (pdet (field c.body 1 0) (field c.body 3 2 + i)) [] (devAt s t) := by
      rw [psetGo_checked (d := devAt s t) hstandby hdesc hkind hvs hfits hbusy howned, psetJudged, psetVals_bad hi hgood hbad]
    refine runs_liftCmd (f := psetGo) rfl ha ?_ (by decide) ?_
    · rw [heq]
      exact finish_keeps _ _ _ _ _
    · rw [heq]
      exact completed_finish s c t _ _ _
  case readOnly =>
    intro s t slot c x ha hstandby hdesc hvs hkind
    have hstandby' : standbyPset (devAt s t) (field c.body 1 0) = false := hstandby
    have heq : psetGo c (devAt s t) = finish c 0x0A (pdet (field c.body 1 0) (field c.body 3 2)) [] (devAt s t) := by
      unfold psetGo
      dsimp only
      rw [if_neg (ne_true_of_eq_false hstandby'), hdesc]
      dsimp only
      rw [if_neg (not_not_intro hvs), if_pos hkind]
    refine runs_liftCmd (f := psetGo) rfl ha ?_ (by decide) ?_
    · rw [heq]
      exact finish_keeps _ _ _ _ _
    · rw [heq]
      exact completed_finish s c t _ _ _
  case discards =>
    intro s t cls mask hserved hmask hnames
    have heq := (immediate_of_served (d := devAt s t) hserved (Machine.discard mask)).trans (discard_eq hmask hnames)
    have hkeeps : Keeps [.prm] (devAt s t) (discarded mask (devAt s t)) := keeps_prm _ _
    refine runs_eq rfl heq ((hkeeps.mono (by decide)).andThen (answer_keeps _ _ _) (by decide)) (by decide)
      ⟨answered_answer _ _ _, rfl, fun pid i g hpid hi hg => ?_⟩
    exact (stagedVal_congr (d := discarded mask (devAt s t)) rfl rfl pid i).trans
      (stagedVal_discarded (d := devAt s t) hpid hi hg)
  case points =>
    intro s t cls k v hserved hk hdecl hv
    have hgo : hostPoint k v (devAt s t) = answer 0 0 (rackFeed (putPoint (s.dev.prm.ptSel + k)
        (declOf s.dev (s.dev.prm.ptSel + k)) v (devAt s t))) := by
      unfold hostPoint
      exact if_neg (fun h => h.elim (Nat.not_le.mpr hk) (fun h => h.elim hdecl (Nat.not_le.mpr hv)))
    have heq := (immediate_of_served (d := devAt s t) hserved (hostPoint k v)).trans hgo
    have hput := putPoint_keeps (s.dev.prm.ptSel + k) (declOf s.dev (s.dev.prm.ptSel + k)) v (devAt s t)
    have hpoint := fun q => point_putPoint (s.dev.prm.ptSel + k) (declOf s.dev (s.dev.prm.ptSel + k)) v q (devAt s t)
    generalize putPoint (s.dev.prm.ptSel + k) (declOf s.dev (s.dev.prm.ptSel + k)) v (devAt s t) = e at heq hput hpoint
    have hfeed := rackFeed_keeps e
    have hsame : ∀ q, point (answer 0 0 (rackFeed e)) q = point e q :=
      fun q => (point_of_pts (hfeed.pts (by decide)) q)
    refine runs_eq rfl heq (((hput.mono (by decide)).andThen hfeed (by decide)).andThen (answer_keeps _ _ _) (by decide))
      (by decide) ⟨answered_answer _ _ _, ?_, fun p hp => ?_⟩
    · rw [hsame, hpoint, if_pos rfl, ← typ_of_declared hdecl]
      rfl
    · rw [hsame, hpoint, if_neg hp]
      rfl

end Sys2Proof.Safety
end

section
/-!
PROOF. The reads of the log, of points and of records (R342, R364): the statement about them fails, on a state that is written
out here.
-/
namespace Sys2Proof.Safety

open Sys2Proof.Machine

/-- A record that stands in the point store of the Casket, below the recorder's tiers. -/
def strayRecord : Rec :=
  { id := 0, cls := 0, tier := 0, life := 0, flags := 0, addr := 0, len := 64, tS := 0, tNs := 0, groupSeq := 0, unit := 0,
    kind := 0, at_ := 0, header := List.replicate 64 0, rows := [] }

/-- A device whose one record stands where point 0 is kept, with a RECREAD of its first 16 bytes in slot 0. -/
def strayRead : State :=
  { State.reset with
    hostMem := [(0x2000, 7), (0x2002, 16), (0x2018, 16)]
    dev := { State.reset.dev with
      cask := { State.reset.dev.cask with up := true, recs := [strayRecord] }
      pts := [(0, { valid := true })]
      mbx := { State.reset.dev.mbx with rung := [0], checked := true } } }

theorem strayRead_admitted : Admitted strayRead 0 0x07 (cmdAt strayRead.hostMem 0) :=
  ⟨rfl, by decide +kernel, rfl, rfl⟩

theorem strayRead_recread : bit (field (cmdAt strayRead.hostMem 0).body 10 10) 0 = false := by decide +kernel

theorem strayRead_length : field (cmdAt strayRead.hostMem 0).body 9 8 = 16 ∧ field (cmdAt strayRead.hostMem 0).body 7 4 = 0 ∧
    field (cmdAt strayRead.hostMem 0).body 3 0 = 0 := by decide +kernel

theorem strayRead_marks : (runCmd strayRead.hostMem 0 7 (recRead false (some ⟨0, true⟩)) (devAt strayRead 0)).pts ≠
    strayRead.dev.pts := by decide +kernel

/-- Refutes O44: an uncorrectable word below 0x10000000 marks the point that is kept there invalid, also where a record
stands at that address, so that the read changes more than the record store and the mailbox. -/
theorem not_reads : ¬ Obligations.Reads := by
  unfold Obligations.Reads
  rintro ⟨-, -, -, -, -, -, hdamaged⟩
  obtain ⟨hlen, hoff, hid⟩ := strayRead_length
  have hrun := hdamaged strayRead 0 0 _ strayRecord ⟨0, true⟩ strayRead_admitted rfl (by rw [hlen]; decide)
    (by rw [hlen]; decide) (by rw [hid]; rfl) rfl (by decide) rfl (by rw [hoff]; decide) (by rw [hoff, hlen]; decide) (by decide)
  rw [strayRead_recread] at hrun
  obtain ⟨hkeeps, -⟩ := post_of_runs (c := .recread 0 0 (some ⟨0, true⟩)) (f := runCmd strayRead.hostMem 0 7
    (recRead false (some ⟨0, true⟩))) rfl hrun
  exact strayRead_marks (hkeeps.pts (by decide))

end Sys2Proof.Safety
end

section
/-!
PROOF. Sessions: opening, failing, closing and ending them, and the lockout (R365, R482 to R486).
-/
namespace Sys2Proof.Safety

open Sys2Proof.Machine

/-! ### Opening -/

/-- The token of the next session. -/
def sessTok (d : Dev) : Nat := 1 + Config.freeNat d.free % (2 ^ 32 - 1)

/-- A session of class `cls` is in force, opened with the signature of key slot `slot` where `keyed`. -/
def sessionOpened (cls slot : Nat) (keyed : Bool) (d : Dev) : Dev :=
  { d with
    free := d.free + 1
    mbx := { d.mbx with sessOpen := true, sessClass := cls, sessToken := sessTok d, sessLast := d.t }
    sec := { d.sec with slot := slot, keyed := keyed } }

theorem sessionOpened_keeps (cls slot : Nat) (keyed : Bool) (d : Dev) :
    Keeps [.free, .mbx, .sec] d (sessionOpened cls slot keyed d) := by
  exact ⟨fun p hp => by cases p <;> first | rfl | exact absurd (by decide) hp⟩

theorem openSession_eq (cls slot : Nat) (keyed : Bool) (c : Cmd) (d : Dev) : openSession cls slot keyed c d =
    raiseI 5 cls (finish c 0 0 (le 4 (sessTok d) ++ le 4 (prm d 0x0024 0)) (sessionOpened cls slot keyed d)) := rfl

theorem openSession_keeps (cls slot : Nat) (keyed : Bool) (c : Cmd) (d : Dev) :
    Keeps (.mbx :: .sec :: evParts) d (openSession cls slot keyed c d) := by
  rw [openSession_eq]
  exact (((sessionOpened_keeps _ _ _ d).mono (by decide)).andThen (finish_keeps _ _ _ _ _) (by decide)).andThen
    (raiseI_keeps _ _ _) (by decide)

/-- A session that is opened is in force with the token that its completion answers. -/
theorem openSession_opens {s : State} {t : Nat} {ps : List Part} {d : Dev} (h : Keeps ps (devAt s t) d) (hmbx : Part.mbx ∉ ps)
    (hsys : Part.sys ∉ ps) (ht : Part.t ∉ ps) (hidle : prm d 0x0024 0 = prm s.dev 0x0024 0) (hup : s.dev.sys.up = true)
    (cls slot : Nat) (keyed : Bool) (c : Cmd) : (openSession cls slot keyed c d).mbx.sessOpen = true ∧
      (openSession cls slot keyed c d).mbx.sessClass = cls ∧ (openSession cls slot keyed c d).mbx.sessToken ≠ 0 ∧
      (openSession cls slot keyed c d).mbx.sessLast = t ∧
      Completed s c t 0 0 (le 4 (openSession cls slot keyed c d).mbx.sessToken ++ le 4 (prm s.dev 0x0024 0))
        (openSession cls slot keyed c d) ∧ Pending 5 (openSession cls slot keyed c d) := by
  have hm := h.mbxSent hmbx
  have hdone : d.mbx.done = s.dev.mbx.done := by rw [hm]; rfl
  have hrung : d.mbx.rung = s.dev.mbx.rung := by rw [hm]; rfl
  have htok : (openSession cls slot keyed c d).mbx.sessToken = sessTok d := by
    rw [openSession_eq, raiseI_mbx_sessToken, finish_mbx]
    rfl
  rw [htok, openSession_eq, raiseI_mbx_sessOpen, raiseI_mbx_sessClass, raiseI_mbx_sessLast, Completed, raiseI_mbx_done,
    raiseI_mbx_rung, finish_mbx, hidle]
  refine ⟨rfl, rfl, Nat.succ_ne_zero _ ∘ (Nat.add_comm _ 1).trans, h.t ht, ⟨?_, hrung ▸ rfl⟩, ?_⟩
  · rw [← hdone, ← show d.t = t from h.t ht]
    rfl
  · refine raiseI_pending 5 cls _ ?_ (by decide)
    rw [(finish_quiet_keeps (by decide) 0 _ _).sys (by decide)]
    exact (h.sys hsys).symm ▸ hup

theorem openSession_sec (cls slot : Nat) (keyed : Bool) (c : Cmd) (d : Dev) :
    (openSession cls slot keyed c d).sec = { d.sec with slot := slot, keyed := keyed } := by
  rw [openSession_eq, (raiseI_keeps _ _ _).sec (by decide), (finish_keeps _ _ _ _ _).sec (by decide)]
  rfl

/-! ### The credential -/

theorem cmdAt_body_length (m : List Host.Cell) (slot : Nat) : (cmdAt m slot).body.length = min (cmdAt m slot).len 496 := by
  simp [cmdAt, slotBytes, readMem]

/-- A credential that opens a class and is not empty is a signature of one of the eight key slots. -/
theorem key_of_credOpens {d : Dev} {cls : Nat} {cr : List Byte} (h : credOpens d cls cr = true) (hne : cr.length ≠ 0) :
    field cr 1 1 < 8 := by
  unfold credOpens at h
  split at h
  · simp [hne] at h
  · simp only [keyOpens, Bool.and_eq_true, decide_eq_true_eq] at h
    exact h.2.1.1.1.1.1
  · exact absurd h Bool.false_ne_true

/-- The device on which the signature of key slot `k` at `tms` has been used (R485). -/
def keyUsed (k tms : Nat) (d : Dev) : Dev := journal (.always (pkey 0xE011 k) tms) (setPrm 0xE011 k tms d)

theorem keyUsed_keeps (k tms : Nat) (d : Dev) : Keeps [.lkt, .prm] d (keyUsed k tms d) :=
  ((setPrm_keeps _ _ _ d).mono (by decide)).andThen (journal_keeps _ _) (by decide)

theorem prm_keyUsed (k tms p i : Nat) (d : Dev) : prm (keyUsed k tms d) p i = prm (setPrm 0xE011 k tms d) p i := rfl

theorem sessionOpen_good {c : Cmd} {d : Dev} (hop : field c.body 0 0 = 0) (hcls : field c.body 1 1 ≤ 3)
    (hlen : c.len = 4 + field c.body 3 2) (hlock : d.sec.lockout = false)
    (hcred : credOpens d (field c.body 1 1) (c.body.drop 4) = true) :
    sessionOpen c d = if field c.body 3 2 = 0 then openSession (field c.body 1 1) 0 false c d else
      openSession (field c.body 1 1) (field (c.body.drop 4) 1 1) true c
        (keyUsed (field (c.body.drop 4) 1 1) (field (c.body.drop 4) 11 4) d) := by
  unfold sessionOpen
  dsimp only
  rw [if_neg (by omega), if_neg (by omega), if_neg (not_not_intro hlen), if_neg (by simp [hlock, hcred])]
  rfl

/-! ### Failing -/

/-- The failure at this tick is counted with those of the last minute, and locks out where it is one too many (R486). -/
def failed (d : Dev) : Sec :=
  let fs := d.t :: d.sec.fails.filter (fun a => d.t < a + 24000000000)
  let lock := !d.sec.lockout && decide (prm d 0xE013 0 ≤ fs.length)
  { d.sec with fails := fs, authFail := incSat 255 d.sec.authFail, lockout := d.sec.lockout || lock, lockEnd := if lock then d.t + 400000000 * prm d 0xE014 0 else d.sec.lockEnd }

theorem authFail_eq (c : Cmd) (d : Dev) : authFail c d = raiseI 114 0 (finish c 0x11 0 [] { d with sec := failed d }) := rfl

theorem sessionOpen_bad {c : Cmd} {d : Dev} (hop : field c.body 0 0 = 0) (hcls : field c.body 1 1 ≤ 3)
    (hlen : c.len = 4 + field c.body 3 2)
    (hbad : d.sec.lockout = true ∨ credOpens d (field c.body 1 1) (c.body.drop 4) = false) :
    sessionOpen c d = raiseI 114 0 (finish c 0x11 0 [] { d with sec := failed d }) := by
  have hrefused : d.sec.lockout = true ∨ ¬ credOpens d (field c.body 1 1) (c.body.drop 4) = true :=
    hbad.imp id ne_true_of_eq_false
  unfold sessionOpen
  dsimp only
  rw [if_neg (by omega), if_neg (by omega), if_neg (not_not_intro hlen), if_pos hrefused, authFail_eq]

/-- Settles O46: sessions opened, refused, closed and ended, and the end of a lockout. -/
theorem sessions : Obligations.Sessions := by
  unfold Obligations.Sessions
  refine ⟨?opens, ?fails, ?closes, ?idle, ?unlocks⟩
  case opens =>
    intro s t slot c ha hop hcls hlen hlock hcred hup
    have heq := sessionOpen_good (d := devAt s t) hop hcls hlen hlock hcred
    by_cases hkeyless : field c.body 3 2 = 0
    · rw [if_pos hkeyless] at heq
      have hopens := openSession_opens (s := s) (t := t) (Keeps.refl [] _) (by decide) (by decide) (by decide) rfl hup
        (field c.body 1 1) 0 false c
      rw [if_pos hkeyless]
      refine runs_liftCmd (f := sessionOpen) rfl ha ?_ (by decide) ?_ <;> rw [heq]
      · exact (openSession_keeps _ _ _ _ _).mono (by decide)
      · obtain ⟨hopen, hclass, htok, hlast, hdone, hpending⟩ := hopens
        rw [if_pos hkeyless]
        exact ⟨hopen, hclass, htok, hlast, hdone, hpending, by rw [openSession_sec]⟩
    · rw [if_neg hkeyless] at heq
      have hne : (c.body.drop 4).length ≠ 0 := by
        have hbody := cmdAt_body_length s.hostMem slot
        rw [ha.1] at hbody
        rw [List.length_drop]
        omega
      have hk := key_of_credOpens hcred hne
      have hused := keyUsed_keeps (field (c.body.drop 4) 1 1) (field (c.body.drop 4) 11 4) (devAt s t)
      have hidle : prm (keyUsed (field (c.body.drop 4) 1 1) (field (c.body.drop 4) 11 4) (devAt s t)) 0x0024 0 =
          prm s.dev 0x0024 0 := by
        rw [prm_keyUsed, prm_setPrm_other]
        · rfl
        · unfold pkey
          omega
      have hopens := openSession_opens hused (by decide) (by decide) (by decide) hidle hup (field c.body 1 1)
        (field (c.body.drop 4) 1 1) true c
      have hopen := openSession_keeps (field c.body 1 1) (field (c.body.drop 4) 1 1) true c
        (keyUsed (field (c.body.drop 4) 1 1) (field (c.body.drop 4) 11 4) (devAt s t))
      rw [if_neg hkeyless]
      refine runs_liftCmd (f := sessionOpen) rfl ha ?_ (by decide) ?_ <;> rw [heq]
      · exact (hused.mono (by decide)).andThen hopen (by decide)
      · obtain ⟨hopened, hclass, htok, hlast, hdone, hpending⟩ := hopens
        rw [if_neg hkeyless, openSession_sec]
        refine ⟨hopened, hclass, htok, hlast, hdone, hpending, ?_, rfl, rfl⟩
        rw [prm_of_prm (hopen.prm (by decide)), prm_keyUsed, prm_setPrm_self]
  case fails =>
    intro s t slot c ha hop hcls hlen hbad hup
    have heq := sessionOpen_bad (d := devAt s t) hop hcls hlen hbad
    have hfailed : Keeps [.sec] (devAt s t) { devAt s t with sec := failed (devAt s t) } := keeps_sec _ _
    have hfinish := finish_keeps c 0x11 0 [] { devAt s t with sec := failed (devAt s t) }
    have hraise := raiseI_keeps 114 0 (finish c 0x11 0 [] { devAt s t with sec := failed (devAt s t) })
    refine runs_liftCmd (f := sessionOpen) rfl ha ?_ (by decide) ?_ <;> rw [heq]
    · exact ((hfailed.mono (by decide)).andThen hfinish (by decide)).andThen hraise (by decide)
    · rw [Completed, raiseI_mbx_done, raiseI_mbx_rung, raiseI_mbx_sessOpen, raiseI_mbx_sessToken, finish_mbx,
        hraise.sec (by decide), hfinish.sec (by decide)]
      refine ⟨⟨rfl, rfl⟩, rfl, raiseI_pending 114 0 _ ?_ (by decide), rfl, rfl, rfl, fun hlocked => ?_, fun hopen hmax => ?_⟩
      · rw [hfinish.sys (by decide)]
        exact hup
      · have hlocked' : (devAt s t).sec.lockout = true := hlocked
        simp only [failed, hlocked', Bool.not_true, Bool.false_and, Bool.or_false, Bool.false_eq_true, if_false]
        exact ⟨trivial, rfl⟩
      · have hopen' : (devAt s t).sec.lockout = false := hopen
        have hmax' : prm (devAt s t) 0xE013 0 ≤
          ((devAt s t).t :: (devAt s t).sec.fails.filter (fun a => (devAt s t).t < a + 24000000000)).length := hmax
        simp only [failed, hopen', hmax', Bool.not_false, Bool.true_and, decide_true, Bool.or_true, if_true]
        exact ⟨trivial, rfl⟩
  case closes =>
    intro s t slot c ha hop hlen hrest hsess hopen
    have hopen' : (devAt s t).mbx.sessOpen = true := hopen
    have heq : sessionClose c (devAt s t) = finish c 0 0 (le 4 c.sess ++ le 4 0) (closeSession (devAt s t)) := by
      unfold sessionClose
      rw [if_neg (not_not_intro hop), if_neg (not_not_intro hlen), if_neg (not_not_intro hrest), if_neg (by simp [hsess, hopen'])]
    have hclosed : Keeps [.mbx] (devAt s t) (closeSession (devAt s t)) :=
      ⟨fun p hp => by cases p <;> first | rfl | exact absurd (by decide) hp⟩
    refine runs_liftCmd (f := sessionClose) rfl ha ?_ (by decide) ?_ <;> rw [heq]
    · exact (hclosed.mono (by decide)).andThen (finish_keeps _ _ _ _ _) (by decide)
    · rw [Completed, finish_mbx]
      exact ⟨rfl, rfl, rfl, rfl, rfl⟩
  case idle =>
    intro s t hopen hidle
    have heq : sessionIdle (devAt s t) = closeSession (devAt s t) := if_pos ⟨hopen, hidle⟩
    exact runs_eq rfl heq ⟨fun p hp => by cases p <;> first | rfl | exact absurd (by decide) hp⟩ (by decide) rfl
  case unlocks =>
    intro s t hlock hend
    have heq : lockoutEnd (devAt s t) =
        { devAt s t with sec := { (devAt s t).sec with lockout := false, fails := [] } } := if_pos ⟨hlock, hend⟩
    exact runs_eq rfl heq (keeps_sec _ _) (by decide) rfl

end Sys2Proof.Safety
end

section
/-!
PROOF. Firmware staging and activation (R470): the statement about them fails, on a state that is written out here.
-/
namespace Sys2Proof.Safety

open Sys2Proof.Machine

/-- An active device of a synced pair in SERVICE from RUN, with a verified image, a FWACT by planned swap in slot 0, and a
CALZERO that still runs under the same slot. -/
def sharedSlot : State :=
  { State.reset with
    hostMem := [(0x2000, 9), (0x2002, 4)]
    dev := { State.reset.dev with
      sys := { State.reset.dev.sys with up := true, st := .service, svcRet := .run }
      pnd := { State.reset.dev.pnd with role := 1, formed := true, peerSynced := true }
      sec := { State.reset.dev.sec with fw1 := { st := 2 } }
      acq := { State.reset.dev.acq with calZero := some { slot := 0, ain := 0, gain := 0, full := false, ac := false, applied := 0 } }
      mbx := { State.reset.dev.mbx with rung := [0], checked := true } } }

theorem sharedSlot_admitted : Admitted sharedSlot 0 0x09 (cmdAt sharedSlot.hostMem 0) :=
  ⟨rfl, by decide +kernel, rfl, rfl⟩

theorem sharedSlot_mode : field (cmdAt sharedSlot.hostMem 0).body 0 0 = 0 := by decide +kernel

theorem sharedSlot_ends : (longOf (runCmd sharedSlot.hostMem 0 0x09 fwHandover (devAt sharedSlot 0)) 0x09).isSome = false := by
  decide +kernel

/-- Refutes O47: a planned swap from SERVICE first returns to RUN, which cuts off the calibrations that run; where one of them
stands under the slot of the FWACT, the FWACT ends with it and is no longer a long command that waits for the swap. -/
theorem not_firmware : ¬ Obligations.Firmware := by
  unfold Obligations.Firmware
  rintro ⟨-, -, -, -, hswap, -⟩
  obtain ⟨-, -, -, -, -, hlong⟩ := post_of_runs (f := runCmd sharedSlot.hostMem 0 0x09 fwHandover) rfl
    (hswap sharedSlot 0 0 _ sharedSlot_admitted sharedSlot_mode rfl (by decide) (by decide) rfl)
  exact Bool.noConfusion (sharedSlot_ends.symm.trans hlong)

end Sys2Proof.Safety
end

section
/-!
PROOF. The recorder units and the record store (R297, R327 to R336, R342, R347).
-/
namespace Sys2Proof.Safety

open Sys2Proof.Machine

/-! ### Units -/

theorem unit_of_loupe {d e : Dev} (h : e.loupe = d.loupe) (u : Nat) : unit e u = unit d u := by
  unfold unit
  rw [h]

theorem unit_modUnit (u : Nat) (f : RecUnit → RecUnit) (d : Dev) (v : Nat) :
    unit (modUnit u f d) v = if v = u then f (unit d u) else unit d v := tget_tmod ..

theorem unit_modUnit_self (u : Nat) (f : RecUnit → RecUnit) (d : Dev) : unit (modUnit u f d) u = f (unit d u) :=
  tget_tmod_self ..

theorem otherUnits_modUnit (u : Nat) (f : RecUnit → RecUnit) (d : Dev) : OtherUnits u d (modUnit u f d) := by
  intro v hv
  rw [unit_modUnit, if_neg hv]

theorem OtherUnits.trans {u : Nat} {d e f : Dev} (h : OtherUnits u d e) (k : OtherUnits u e f) : OtherUnits u d f :=
  fun v hv => (k v hv).trans (h v hv)

theorem otherUnits_of_loupe {d e : Dev} (h : e.loupe = d.loupe) (u : Nat) : OtherUnits u d e := fun v _ => unit_of_loupe h v

theorem inGroup_of_prm {d e : Dev} (h : e.prm = d.prm) (u : Nat) : inGroup e u = inGroup d u := by
  unfold inGroup
  rw [prm_of_prm h]

theorem unitNames_of_prm {d e : Dev} (h : e.prm = d.prm) (u code : Nat) : unitNames e u code = unitNames d u code := by
  unfold unitNames
  simp only [prm_of_prm h]

/-- A write of a unit that the host may write reaches its rule. -/
theorem loupeWrite_runs {d : Dev} {cls u : Nat} (hs : WriteServed d cls 1) (hu : u < 4) (howned : loupeOwned d u = false)
    (pid : Nat) (f : Dev → Dev) : immediate cls 1 (loupeWrite pid u f) d = f d := by
  rw [immediate_of_served hs]
  unfold loupeWrite
  rw [if_neg (Nat.not_le.mpr hu), if_neg (ne_true_of_eq_false howned)]

/-! ### Arming -/

/-- The waiting changes of a unit that come into force change parameters alone, besides the unit's own list. -/
theorem landCfg_after (u : Nat) (d : Dev) : Keeps [.prm] (modUnit u (fun x => { x with cfgWait := [] }) d) (landCfg u d) := by
  unfold landCfg
  refine keeps_foldl _ (fun e kv => ?_) _ _
  split
  · exact setPrm_keeps _ _ _ e
  · exact Keeps.refl _ e

theorem landCfg_keeps (u : Nat) (d : Dev) : Keeps [.loupe, .prm] d (landCfg u d) :=
  ((modUnit_keeps u _ d).mono (by decide)).andThen (landCfg_after u d) (by decide)

theorem unit_landCfg (u : Nat) (d : Dev) (v : Nat) :
    unit (landCfg u d) v = unit (modUnit u (fun x => { x with cfgWait := [] }) d) v :=
  unit_of_loupe ((landCfg_after u d).loupe (by decide)) v

theorem unit_landCfg_self (u : Nat) (d : Dev) : unit (landCfg u d) u = { unit d u with cfgWait := [] } := by
  rw [unit_landCfg, unit_modUnit_self]

theorem otherUnits_landCfg (u : Nat) (d : Dev) : OtherUnits u d (landCfg u d) := by
  intro v hv
  rw [unit_landCfg, unit_modUnit, if_neg hv]

/-- The parameters after a landing go by the unit's waiting changes and the parameters before it alone. -/
theorem landCfg_prm {u : Nat} {d e : Dev} (hwait : (unit d u).cfgWait = (unit e u).cfgWait) (hprm : d.prm = e.prm) :
    (landCfg u d).prm = (landCfg u e).prm := by
  unfold landCfg
  rw [hwait]
  have hstart : (modUnit u (fun x => { x with cfgWait := [] }) d).prm = (modUnit u (fun x => { x with cfgWait := [] }) e).prm := hprm
  generalize modUnit u (fun x => { x with cfgWait := [] }) d = a at hstart
  generalize modUnit u (fun x => { x with cfgWait := [] }) e = b at hstart
  induction (unit e u).cfgWait generalizing a b with
  | nil => exact hstart
  | cons kv rest ih =>
    obtain ⟨k, v⟩ := kv
    refine ih _ _ ?_
    cases v with
    | none => exact hstart
    | some v => simp only [setPrm, hstart]

theorem landCfg_quiet {u : Nat} {d : Dev} (h : (unit d u).cfgWait = []) :
    landCfg u d = modUnit u (fun x => { x with cfgWait := [] }) d := by
  unfold landCfg
  rw [h]
  rfl

/-- Unit `u` with an empty ring, armed under group number `seq`. -/
def armed (u seq : Nat) (d : Dev) : Dev := modUnit u (fun x => { refill x with groupSeq := seq, fired := false }) (landCfg u d)

theorem armUnit_idle {u : Nat} {d : Dev} (hup : d.cask.up = true) (hst : (unit d u).st = 0) (hmode : prm d 0xA000 u ≠ 0)
    (seq : Nat) : armUnit u seq d = armed u seq d := if_pos ⟨hup, hst, hmode⟩

theorem armed_keeps (u seq : Nat) (d : Dev) : Keeps [.loupe, .prm] d (armed u seq d) :=
  (landCfg_keeps u d).andThen (modUnit_keeps _ _ _) (by decide)

theorem unit_armed (u seq : Nat) (d : Dev) :
    unit (armed u seq d) u = { refill (unit d u) with cfgWait := [], groupSeq := seq, fired := false } := by
  unfold armed
  rw [unit_modUnit_self, unit_landCfg_self]
  rfl

theorem otherUnits_armed (u seq : Nat) (d : Dev) : OtherUnits u d (armed u seq d) :=
  (otherUnits_landCfg u d).trans (otherUnits_modUnit _ _ _)

/-- The arm of a unit whose waiting list is empty changes that unit alone. -/
theorem armUnit_quiet_keeps {u : Nat} {d : Dev} (h : (unit d u).cfgWait = []) (seq : Nat) : Keeps [.loupe] d (armUnit u seq d) := by
  refine keeps_ite (fun _ => ?_) (fun _ => Keeps.refl _ d)
  rw [landCfg_quiet h]
  exact (modUnit_keeps u _ d).trans (modUnit_keeps _ _ _)

theorem unit_armUnit_ne {u v : Nat} (h : v ≠ u) (seq : Nat) (d : Dev) : unit (armUnit u seq d) v = unit d v := by
  unfold armUnit
  split
  · exact otherUnits_armed u seq d v h
  · rfl

theorem armUnit_cfgWait (u seq : Nat) {d : Dev} (h : (unit d u).cfgWait = []) : (unit (armUnit u seq d) u).cfgWait = [] := by
  by_cases hidle : d.cask.up = true ∧ (unit d u).st = 0 ∧ prm d 0xA000 u ≠ 0
  · rw [armUnit_idle hidle.1 hidle.2.1 hidle.2.2, unit_armed]
  · rw [armUnit, if_neg hidle]
    exact h

/-- No unit has changes that wait to come into force. -/
def NoWaiting (d : Dev) : Prop := ∀ v, v < 4 → (unit d v).cfgWait = []

theorem armUnit_noWaiting (u seq : Nat) {d : Dev} (h : NoWaiting d) : NoWaiting (armUnit u seq d) := by
  intro v hv
  by_cases hvu : v = u
  · subst hvu
    exact armUnit_cfgWait v seq (h v hv)
  · rw [unit_armUnit_ne hvu]
    exact h v hv

/-- The members of group `g` are armed under number `seq`. -/
def groupArmed (g seq : Nat) (d : Dev) : Dev :=
  forAll 4 (fun v e => if prm e 0xA005 v = g then armUnit v seq e else e) d

theorem groupArmed_keeps (g seq : Nat) {d : Dev} (h : NoWaiting d) : Keeps [.loupe] d (groupArmed g seq d) := by
  refine (forAll_preserves (P := fun e => Keeps [.loupe] d e ∧ NoWaiting e) (fun k e hk he => ?_) ⟨Keeps.refl _ d, h⟩).1
  obtain ⟨hkeeps, hquiet⟩ := he
  split
  · exact ⟨hkeeps.trans (armUnit_quiet_keeps (hquiet k hk) seq), armUnit_noWaiting k seq hquiet⟩
  · exact ⟨hkeeps, hquiet⟩

/-- A member that is idle and not off is armed with its group. -/
theorem groupArmed_member {g seq v : Nat} {d : Dev} (hquiet : NoWaiting d) (hup : d.cask.up = true) (hv : v < 4)
    (hg : prm d 0xA005 v = g) (hst : (unit d v).st = 0) (hmode : prm d 0xA000 v ≠ 0) :
    (unit (groupArmed g seq d) v).st = 1 ∧ (unit (groupArmed g seq d) v).ring = [] ∧
      (unit (groupArmed g seq d) v).groupSeq = seq := by
  refine forAll_at (c := v) (P := fun e => Keeps [.loupe] d e ∧ NoWaiting e ∧ (unit e v).st = 0)
    (Q := fun e => (unit e v).st = 1 ∧ (unit e v).ring = [] ∧ (unit e v).groupSeq = seq) hv
    (fun k e hk hkv he => ?_) (fun e he => ?_) (fun k e hk hkv he => ?_) ⟨Keeps.refl _ d, hquiet, hst⟩
  · obtain ⟨hkeeps, hwait, hidle⟩ := he
    split
    · refine ⟨hkeeps.trans (armUnit_quiet_keeps (hwait k hk) seq), armUnit_noWaiting k seq hwait, ?_⟩
      rw [unit_armUnit_ne (Ne.symm hkv)]
      exact hidle
    · exact ⟨hkeeps, hwait, hidle⟩
  · obtain ⟨hkeeps, hwait, hidle⟩ := he
    have hprm := hkeeps.prm (by decide)
    have hup' : e.cask.up = true := by rw [hkeeps.caskLost (by decide)]; exact hup
    rw [if_pos ((prm_of_prm hprm _ _).trans hg), armUnit_idle hup' hidle (by rw [prm_of_prm hprm]; exact hmode), unit_armed]
    exact ⟨rfl, rfl, rfl⟩
  · split
    · rw [unit_armUnit_ne (Ne.symm hkv)]
      exact he
    · exact he

/-- The device as the master `u` of a group has counted its arm and sent it. -/
def armSent (u : Nat) (d : Dev) : Dev :=
  chainTrig (prm d 0xA005 u) false (((unit d u).armCount + 1) % 2 ^ 32) d.t
    (modUnit u (fun x => { x with armCount := ((unit d u).armCount + 1) % 2 ^ 32 }) d)

theorem armGroup_eq (u : Nat) (d : Dev) : armGroup u d =
    groupArmed (prm d 0xA005 u) (((unit d u).armCount + 1) % 2 ^ 32) (armSent u d) := rfl

theorem armSent_keeps (u : Nat) (d : Dev) : Keeps [.loupe, .lanes, .chain] d (armSent u d) :=
  ((modUnit_keeps u _ d).mono (by decide)).andThen (chainTrig_keeps _ _ _ _ _) (by decide)

theorem unit_armSent (u : Nat) (d : Dev) (v : Nat) : (unit (armSent u d) v).st = (unit d v).st ∧
    (unit (armSent u d) v).cfgWait = (unit d v).cfgWait := by
  unfold armSent
  rw [unit_of_loupe ((chainTrig_keeps _ _ _ _ _).loupe (by decide)), unit_modUnit]
  split
  · rename_i h
    rw [h]
    exact ⟨rfl, rfl⟩
  · exact ⟨rfl, rfl⟩

/-! ### Triggers -/

/-- The unit has accepted a trigger with instant `inst`. -/
def Taken (inst : Nat) (x : RecUnit) : Prop := x.st = 3 ∧ x.trigT = some inst

/-- The unit accepts a trigger with instant `inst`, or has accepted one already; `pre` is its loupe.pre. -/
def Takes (inst pre : Nat) (x : RecUnit) : Prop := (x.st = 2 ∧ pre ≤ rowsBefore x.ring inst) ∨ Taken inst x

theorem trigUnit_takes {inst pre : Nat} {x : RecUnit} (h : Takes inst pre x) (src slot origin st tau : Nat) :
    Taken inst (trigUnit pre src slot inst origin st tau x) := by
  unfold trigUnit
  rcases h with hready | ⟨hst, ht⟩
  · rw [if_pos hready]
    exact ⟨rfl, rfl⟩
  · rw [if_neg (fun h => absurd (hst.symm.trans h.1) (by decide))]
    split
    · simp only [ht]
      split
      · exact ⟨hst, rfl⟩
      · exact ⟨hst, ht⟩
    · rw [if_neg (by omega), if_neg (fun h => absurd (hst.symm.trans h.1) (by decide))]
      exact ⟨hst, ht⟩

/-- What one offer of a trigger to unit `w` makes of the device, before it goes on. -/
def offered (w src inst origin : Nat) (d : Dev) : Dev :=
  modUnit w (trigUnit (prm d 0xA003 w) src (trigSlot d w src) inst origin (stCode d.sys.st) d.rt.tauU) d

section
variable {u inst pre : Nat} {Q : RecUnit → Prop} (hQ : ∀ src slot origin st tau x, Q x → Q (trigUnit pre src slot inst origin st tau x))
include hQ

theorem unit_offered (w src origin : Nat) {d : Dev} (hpre : prm d 0xA003 u = pre) (h : Q (unit d u)) :
    Q (unit (offered w src inst origin d) u) := by
  unfold offered
  rw [unit_modUnit]
  split
  · rename_i hw
    rw [← hw, hpre]
    exact hQ _ _ _ _ _ _ h
  · exact h

omit hQ in
/-- Offers that are passed on keep what a unit is, when each of them does. -/
theorem unit_foldl_trigger {fuel : Nat} {p : Nat → Dev → Prop} [∀ v e, Decidable (p v e)] {src origin : Nat → Nat}
    (ih : ∀ w src origin d, prm d 0xA003 u = pre → Q (unit d u) → Q (unit (trigger fuel w src inst origin d) u))
    {d : Dev} (hpre : prm d 0xA003 u = pre) (h : Q (unit d u)) :
    Q (unit (forAll 4 (fun v e => if p v e then trigger fuel v (src v) inst (origin v) e else e) d) u) := by
  refine (forAll_preserves (P := fun e => prm e 0xA003 u = pre ∧ Q (unit e u)) (fun v e _ he => ?_) ⟨hpre, h⟩).2
  split
  · exact ⟨(prm_of_prm ((trigger_keeps _ _ _ _ _ e).prm (by decide)) _ _).trans he.1, ih _ _ _ e he.1 he.2⟩
  · exact he

omit hQ in
/-- A trigger keeps of a unit what the offer to its first unit has left, when the triggers that follow keep it. -/
theorem unit_trigger_succ {fuel : Nat}
    (ih : ∀ w src origin d, prm d 0xA003 u = pre → Q (unit d u) → Q (unit (trigger fuel w src inst origin d) u))
    (w src origin : Nat) {d : Dev} (hpre : prm d 0xA003 u = pre) (h : Q (unit (offered w src inst origin d) u)) :
    Q (unit (trigger (fuel + 1) w src inst origin d) u) := by
  have htaps := tapTriggers_keeps (0x100 + w) (offered w src inst origin d)
  have hpre2 : prm (tapTriggers (0x100 + w) (offered w src inst origin d)) 0xA003 u = pre :=
    (prm_of_prm (htaps.prm (by decide)) _ _).trans hpre
  have h2 : Q (unit (tapTriggers (0x100 + w) (offered w src inst origin d)) u) := by
    rw [unit_of_loupe (htaps.loupe (by decide))]
    exact h
  unfold trigger
  dsimp only
  rw [← offered]
  generalize tapTriggers (0x100 + w) (offered w src inst origin d) = e at hpre2 h2
  split
  · split
    · split
      · have hchain := chainTrig_keeps (prm d 0xA005 w) true (unit e w).groupSeq inst e
        refine unit_foldl_trigger (src := fun _ => 0x200 + prm d 0xA005 w) (origin := fun _ => 1) ih
          ((prm_of_prm (hchain.prm (by decide)) _ _).trans hpre2) ?_
        rw [unit_of_loupe (hchain.loupe (by decide))]
        exact h2
      · exact h2
    · exact unit_foldl_trigger (src := fun _ => 0x500 + w) (origin := fun _ => 0) ih hpre2 h2
  · exact h

theorem unit_trigger (fuel w src origin : Nat) (d : Dev) (hpre : prm d 0xA003 u = pre) (h : Q (unit d u)) :
    Q (unit (trigger fuel w src inst origin d) u) := by
  induction fuel generalizing w src origin d with
  | zero => exact h
  | succ fuel ih =>
    exact unit_trigger_succ (fun w src origin d => ih w src origin d) w src origin hpre
      (unit_offered hQ w src origin hpre h)

end

/-- A trigger that reaches a unit which accepts it is accepted at its instant. -/
theorem trigger_taken {u inst fuel src origin : Nat} {d : Dev} (h : Takes inst (prm d 0xA003 u) (unit d u)) :
    Taken inst (unit (trigger (fuel + 1) u src inst origin d) u) := by
  have hkeep := fun src slot origin st tau x (hx : Taken inst x) =>
    trigUnit_takes (pre := prm d 0xA003 u) (.inr hx) src slot origin st tau
  refine unit_trigger_succ (pre := prm d 0xA003 u) (fun w src origin e => unit_trigger hkeep fuel w src origin e) u src origin
    rfl ?_
  rw [offered, unit_modUnit_self]
  exact trigUnit_takes h _ _ _ _ _

/-- A source is accepted by each unit that names it and is ready for it. -/
theorem triggers_taken {u code inst : Nat} {d : Dev} (hu : u < 4) (hnames : unitNames d u code = true)
    (h : Takes inst (prm d 0xA003 u) (unit d u)) : Taken inst (unit (triggers code inst d) u) := by
  have hstep : ∀ k (e : Dev), Keeps [.taps, .loupe, .lanes, .chain] e
      (if unitNames e k code then trigger 4 k code inst 0 e else e) :=
    fun k e => keeps_ite (fun _ => trigger_keeps _ _ _ _ _ e) (fun _ => Keeps.refl _ e)
  refine (forAll_at (c := u) (f := fun k e => if unitNames e k code then trigger 4 k code inst 0 e else e)
    (P := fun e => e.prm = d.prm ∧ Takes inst (prm d 0xA003 u) (unit e u))
    (Q := fun e => e.prm = d.prm ∧ Taken inst (unit e u)) hu
    (fun k e hk hku he => ?_) (fun e he => ?_) (fun k e hk hku he => ?_) ⟨rfl, h⟩).2
  · refine ⟨((hstep k e).prm (by decide)).trans he.1, ?_⟩
    split
    · exact unit_trigger (fun src slot origin st tau x hx => .inr (trigUnit_takes hx src slot origin st tau)) 4 k code 0 e
        (prm_of_prm he.1 _ _) he.2
    · exact he.2
  · refine ⟨((hstep u e).prm (by decide)).trans he.1, ?_⟩
    rw [if_pos ((unitNames_of_prm he.1 u code).trans hnames)]
    exact trigger_taken (by rw [prm_of_prm he.1]; exact he.2)
  · refine ⟨((hstep k e).prm (by decide)).trans he.1, ?_⟩
    split
    · exact unit_trigger (pre := prm d 0xA003 u) (Q := Taken inst)
        (fun src slot origin st tau x hx => trigUnit_takes (.inr hx) src slot origin st tau) 4 k code 0 e
        (prm_of_prm he.1 _ _) he.2
    · exact he.2

/-! ### Storing a record -/

/-- A step that keeps the mark of an uncorrectable error, and every pending event. -/
structure Marked (d e : Dev) : Prop where
  unc : e.cask.unc = d.cask.unc
  pending : ∀ k, Pending k d → Pending k e

theorem Marked.refl (d : Dev) : Marked d d := ⟨rfl, fun _ h => h⟩

theorem Marked.trans {d e f : Dev} (h : Marked d e) (k : Marked e f) : Marked d f :=
  ⟨k.unc.trans h.unc, fun i hi => k.pending i (h.pending i hi)⟩

theorem modRecs_marked (p : Rec → Bool) (f : Rec → Rec) (d : Dev) : Marked d (modRecs p f d) := ⟨rfl, fun _ h => h⟩

theorem raiseI_marked (k i : Nat) (d : Dev) : Marked d (raiseI k i d) :=
  ⟨by rw [(raiseI_keeps k i d).caskLost (by decide)], fun _ h => h.raiseI k i⟩

theorem looseBy_marked (F : Dev → Nat → Nat → Option Nat) (fuel n : Nat) (d : Dev) : Marked d (looseBy F fuel n d).2 := by
  induction fuel generalizing d with
  | zero =>
    unfold looseBy
    split <;> exact .refl d
  | succ fuel ih =>
    unfold looseBy
    split
    · exact .refl d
    · split
      · rename_i hfuel _
        cases hfuel
        exact (modRecs_marked _ _ d).trans (ih _)
      · exact .refl d

theorem moveBy_marked {L : Nat → Nat → Dev → Nat × Dev} (hL : ∀ fuel n d, Marked d (L fuel n d).2) (id life : Nat) (d : Dev) :
    Marked d (moveBy L id life d) := by
  unfold moveBy
  split
  · exact .refl d
  · exact (hL _ _ d).trans (modRecs_marked _ _ _)

theorem heldBy_marked (F : Dev → Nat → Nat → Option Nat) {M : Nat → Nat → Dev → Dev} {L : Nat → Nat → Dev → Nat × Dev}
    (hM : ∀ i l d, Marked d (M i l d)) (hL : ∀ fuel n d, Marked d (L fuel n d).2) (fuel n : Nat) (d : Dev) :
    Marked d (heldBy F M L fuel n d).2.2 := by
  induction fuel generalizing d with
  | zero =>
    unfold heldBy
    split
    · exact .refl d
    · exact hL _ _ d
  | succ fuel ih =>
    unfold heldBy
    split
    · exact .refl d
    · split
      · rename_i hfuel _
        cases hfuel
        exact ((hM _ _ d).trans (raiseI_marked _ _ _)).trans (ih _)
      · exact hL _ _ d

theorem placeBy_marked (F : Dev → Nat → Nat → Option Nat) {L : Nat → Nat → Dev → Nat × Dev} {H : Nat → Nat → Dev → Nat × Nat × Dev}
    (hL : ∀ fuel n d, Marked d (L fuel n d).2) (hH : ∀ fuel n d, Marked d (H fuel n d).2.2) (t n : Nat) (d : Dev) :
    Marked d (placeBy F L H t n d).2.2.2 := by
  unfold placeBy
  split
  · exact hL _ _ d
  · split
    · exact hH _ _ d
    · split
      · exact .refl d
      · refine Marked.trans ?_ (hH _ _ _)
        exact Marked.trans (e := { d with setr := { d.setr with tierOvf := true } }) ⟨rfl, fun _ h => h⟩ (raiseI_marked _ _ _)

theorem place_marked (t n : Nat) (d : Dev) : Marked d (place t n d).2.2.2 := by
  have hloose : ∀ fuel n d, Marked d (placeLoose fuel n d).2 := by
    rw [placeLoose_eq]
    exact looseBy_marked fit
  have hmove : ∀ i l d, Marked d (moveLoose i l d) := by
    rw [moveLoose_eq]
    exact fun i l d => moveBy_marked hloose i l d
  have hheld : ∀ fuel n d, Marked d (placeHeld fuel n d).2.2 := by
    rw [placeHeld_eq]
    exact heldBy_marked fit hmove hloose
  rw [place_eq]
  exact placeBy_marked fit hloose hheld t n d

theorem newIndex_marked (rs : List Rec) (n : Nat) (d : Dev) : Marked d { d with cask := { d.cask with recs := rs, nextId := n } } :=
  ⟨rfl, fun _ h => h⟩

/-- The newest of a list stays when its oldest are dropped. -/
theorem mem_drop_append_last {α : Type} (l : List α) (r : α) {k : Nat} (hk : 0 < k) : r ∈ (l ++ [r]).drop (l.length + 1 - k) := by
  rw [List.drop_append_of_le_length (by omega)]
  exact List.mem_append_right _ List.mem_cons_self

theorem addRec_recs (r : Rec) (d : Dev) :
    (addRec r d).cask.recs = (d.cask.recs ++ [r]).drop (d.cask.recs.length + 1 - 2097152) := by
  unfold addRec
  generalize (d.cask.recs ++ [r]).drop (d.cask.recs.length + 1 - 2097152) = rs
  rfl

theorem addRec_nextId (r : Rec) (d : Dev) : (addRec r d).cask.nextId = (d.cask.nextId + 1) % 2 ^ 32 := by
  unfold addRec
  generalize (d.cask.recs ++ [r]).drop (d.cask.recs.length + 1 - 2097152) = rs
  rfl

/-- A record that is added stands in the index, and the next one bears the next number. -/
theorem addRec_files (r : Rec) (d : Dev) :
    (addRec r d).cask.nextId = (d.cask.nextId + 1) % 2 ^ 32 ∧ r ∈ (addRec r d).cask.recs ∧ Marked d (addRec r d) := by
  refine ⟨addRec_nextId r d, ?_, ?_⟩
  · rw [addRec_recs]
    exact mem_drop_append_last d.cask.recs r (k := 2097152) (by decide)
  · unfold addRec
    exact newIndex_marked _ _ d

/-- A record that is filed stands in the index under the next number. -/
theorem fileRec_files (x : Draft) (t : Nat) (d : Dev) : (fileRec x t d).cask.nextId = (d.cask.nextId + 1) % 2 ^ 32 ∧
    (∃ r ∈ (fileRec x t d).cask.recs, r.id = d.cask.nextId ∧ r.unit = x.unit ∧ r.kind = x.kind ∧ r.life = 0) ∧
    Marked d (fileRec x t d) := by
  obtain ⟨k, a, ovf, heq⟩ := fileRec_eq x t d
  have hroom : Marked d (roomMade x t d) := place_marked t _ d
  have hnext := (roomMade_placed x t d).nextId
  obtain ⟨hid, hmem, hmarked⟩ := addRec_files (recOf x d.t d.cask.nextId k a ovf) (roomMade x t d)
  rw [heq]
  exact ⟨hid.trans (by rw [hnext]), ⟨_, hmem, rfl, rfl, rfl, rfl⟩, hroom.trans hmarked⟩

/-- The device as the transfer of the record of unit `u` has ended with `p` (R343). -/
def transferred (u : Nat) (p : TransferParity) (d : Dev) : Dev :=
  if p = .failed then casUnc (modUnit u (fun x => { x with damaged := true }) d) else d

theorem casUnc_keeps (d : Dev) : Keeps (.cask :: evParts) d (casUnc d) :=
  ((keeps_cask _ d).mono (by decide)).andThen (raiseI_keeps _ _ _) (by decide)

theorem casUnc_marks {d : Dev} (hup : d.sys.up = true) : (casUnc d).cask.unc = true ∧ Pending 83 (casUnc d) := by
  unfold casUnc
  rw [(raiseI_marked _ _ _).unc]
  exact ⟨rfl, raiseI_pending 83 0 _ hup (by decide)⟩

theorem transferred_keeps (u : Nat) (p : TransferParity) (d : Dev) : Keeps (.loupe :: .cask :: evParts) d (transferred u p d) :=
  keeps_ite (fun _ => ((modUnit_keeps u _ d).mono (by decide)).andThen (casUnc_keeps _) (by decide)) (fun _ => Keeps.refl _ d)

theorem transferred_nextId (u : Nat) (p : TransferParity) (d : Dev) : (transferred u p d).cask.nextId = d.cask.nextId := by
  unfold transferred
  split
  · unfold casUnc
    rw [(raiseI_keeps _ _ _).caskLost (by decide)]
    rfl
  · rfl

theorem afterStore_keeps (u : Nat) (d : Dev) : Keeps [.loupe, .prm] d (afterStore u d) := by
  unfold afterStore
  exact keeps_ite (fun _ => (modUnit_keeps u _ d).mono (by decide))
    (fun _ => ((modUnit_keeps u _ d).mono (by decide)).andThen (landCfg_keeps u _) (by decide))

/-- A unit holds its record in mode 2, outside a group or as its master, and is free otherwise (R327). -/
theorem afterStore_st (u : Nat) (d : Dev) : (unit (afterStore u d) u).st =
    if prm d 0xA000 u = 2 ∧ (inGroup d u = false ∨ prm d 0xA006 u = 1) then 5 else 0 := by
  have hhold : (prm d 0xA000 u = 2 && (!inGroup d u || prm d 0xA006 u = 1)) =
      decide (prm d 0xA000 u = 2 ∧ (inGroup d u = false ∨ prm d 0xA006 u = 1)) := by
    cases inGroup d u <;> simp
  unfold afterStore
  dsimp only
  rw [hhold]
  by_cases h : prm d 0xA000 u = 2 ∧ (inGroup d u = false ∨ prm d 0xA006 u = 1)
  · rw [if_pos (decide_eq_true h), if_pos h, unit_modUnit_self]
    exact if_pos (decide_eq_true h)
  · rw [if_neg (by simpa using h), if_neg h, unit_landCfg_self, unit_modUnit_self]
    exact if_neg (by simpa using h)

/-- The record of unit `u` is reported. -/
def recNoted (u : Nat) (d : Dev) : Dev := raiseI 81 u { d with loupe := { d.loupe with rec_ := setBit d.loupe.rec_ u } }

theorem recNoted_keeps (u : Nat) (d : Dev) : Keeps (.loupe :: evParts) d (recNoted u d) := by
  have hnoted : Keeps [.loupe] d { d with loupe := { d.loupe with rec_ := setBit d.loupe.rec_ u } } := keeps_loupe _ d
  exact (hnoted.mono (by decide)).andThen (raiseI_keeps _ _ _) (by decide)

theorem recNoted_marked (u : Nat) (d : Dev) : Marked d (recNoted u d) :=
  Marked.trans (e := { d with loupe := { d.loupe with rec_ := setBit d.loupe.rec_ u } }) ⟨rfl, fun _ h => h⟩ (raiseI_marked _ _ _)

theorem recNoted_pending {u : Nat} {d : Dev} (hup : d.sys.up = true) : Pending 81 (recNoted u d) :=
  raiseI_pending 81 u _ hup (by decide)

theorem recNoted_cask (u : Nat) (d : Dev) :
    (recNoted u d).cask.nextId = d.cask.nextId ∧ (recNoted u d).cask.recs = d.cask.recs := by
  rw [(recNoted_keeps u d).caskLost (by decide)]
  exact ⟨rfl, rfl⟩

/-- The device as the record of unit `u` has been filed and reported. -/
def recFiled (u : Nat) (d : Dev) : Dev := recNoted u (fileRec (draftOf d u) (prm d 0x8031 (draftOf d u).cls) d)

theorem recFiled_keeps (u : Nat) (d : Dev) : Keeps (.loupe :: .cask :: .setr :: evParts) d (recFiled u d) :=
  ((fileRec_keeps _ _ d).mono (by decide)).andThen (recNoted_keeps u _) (by decide)

theorem storeDone_eq {u : Nat} {p : TransferParity} {d : Dev} (hu : u < 4) (hst : (unit d u).st = 4)
    (ht : d.t ≤ (unit d u).stT + storeMax d u) (hup : d.cask.up = true) :
    storeDone u p d = afterStore u (recFiled u (transferred u p d)) :=
  (if_pos ⟨hu, hst, ht⟩).trans (if_pos hup)

/-- What stands in the record store once the record of unit `u` is filed. -/
theorem recFiled_files {u : Nat} {d : Dev} (hup : d.sys.up = true) : (recFiled u d).cask.nextId = (d.cask.nextId + 1) % 2 ^ 32 ∧
    (∃ r ∈ (recFiled u d).cask.recs, r.id = d.cask.nextId ∧ r.unit = u ∧ r.kind = 1 ∧ r.life = 0) ∧
    Pending 81 (recFiled u d) ∧ Marked d (recFiled u d) := by
  obtain ⟨hnext, hrec, hmarked⟩ := fileRec_files (draftOf d u) (prm d 0x8031 (draftOf d u).cls) d
  obtain ⟨hid, hrecs⟩ := recNoted_cask u (fileRec (draftOf d u) (prm d 0x8031 (draftOf d u).cls) d)
  have hup' : (fileRec (draftOf d u) (prm d 0x8031 (draftOf d u).cls) d).sys.up = true := by
    rw [(fileRec_keeps _ _ d).sys (by decide)]
    exact hup
  refine ⟨hid.trans hnext, ?_, recNoted_pending hup', hmarked.trans (recNoted_marked _ _)⟩
  rw [recFiled, hrecs]
  exact hrec

/-! ### The record store -/

/-- Correctable errors are counted, and do nothing else. -/
theorem eccErrors_single (errs : List EccError) (h : ∀ e ∈ errs, e.double = false) (d : Dev) :
    errs.foldl (fun e x => eccError x e) d =
      { d with cask := { d.cask with ceCnt := errs.foldl (fun n _ => incSat 255 n) d.cask.ceCnt } } := by
  induction errs generalizing d with
  | nil => rfl
  | cons x xs ih =>
    have hx : eccError x d = { d with cask := { d.cask with ceCnt := incSat 255 d.cask.ceCnt } } :=
      if_neg (ne_true_of_eq_false (h x List.mem_cons_self))
    rw [List.foldl_cons, ih (fun e he => h e (List.mem_cons_of_mem _ he)), hx]
    rfl

/-- The store has been read through at this tick. -/
def scrubbed (d : Dev) : Dev := { d with cask := { d.cask with scrubT := d.t } }

theorem scrubbed_keeps (d : Dev) : Keeps [.cask] d (scrubbed d) :=
  ⟨fun p hp => by cases p <;> first | rfl | exact absurd (by decide) hp⟩

theorem ceCnt_keeps (n : Nat) (d : Dev) : Keeps [.cask] d { d with cask := { d.cask with ceCnt := n } } :=
  ⟨fun p hp => by cases p <;> first | rfl | exact absurd (by decide) hp⟩

theorem casketScrub_due {errs : List EccError} {d : Dev} (hup : d.cask.up = true) (hdue : d.cask.scrubT + 34560000000000 ≤ d.t) :
    casketScrub errs d = errs.foldl (fun e x => eccError x e) (scrubbed d) := if_pos ⟨hup, hdue⟩

/-- The live records that hold address `a` are marked damaged. -/
def damagedAt (a : Nat) (d : Dev) : Dev :=
  modRecs (fun r => recLive r && decide (r.addr ≤ a ∧ a < r.addr + r.len)) (fun r =>
    { r with flags := r.flags ||| 8, header := r.header.set 11 (BitVec.ofNat 8 (r.flags ||| 8)) }) d

/-- An uncorrectable error among the records marks the live ones that hold it. -/
theorem eccError_double {a : Nat} (ha : 0x40000000 ≤ a) (d : Dev) : eccError ⟨a, true⟩ d = casUnc (damagedAt a d) := by
  have hpoint : ¬ a < 0x10000000 := by omega
  have hring : ¬ (0x38000000 ≤ a ∧ a < 0x40000000) := by omega
  unfold eccError markDamage
  rw [if_pos rfl, if_neg hpoint, if_neg hring]
  rfl

theorem damagedAt_recs (a : Nat) (d : Dev) : (damagedAt a d).cask.recs.length = d.cask.recs.length ∧
    ∀ r ∈ d.cask.recs, recLive r = true → r.addr ≤ a → a < r.addr + r.len →
      { r with flags := r.flags ||| 8, header := r.header.set 11 (BitVec.ofNat 8 (r.flags ||| 8)) } ∈
        (damagedAt a d).cask.recs := by
  refine ⟨List.length_map .., fun r hr hlive hlo hhi => List.mem_map.mpr ⟨r, hr, if_pos ?_⟩⟩
  simp [hlive, hlo, hhi]

theorem casUnc_recs (d : Dev) : (casUnc d).cask.recs = d.cask.recs := by
  unfold casUnc
  rw [(raiseI_keeps _ _ _).caskLost (by decide)]

/-- A record that is moved to tier 0 is found there. -/
theorem moveBy_moves {L : Nat → Nat → Dev → Nat × Dev} (hL : ∀ fuel n e, Placed [.cask] e (L fuel n e).2) {id life : Nat}
    {r : Rec} {d : Dev} (hfind : d.cask.recs.find? (fun x => x.id = id) = some r) :
    (∃ x ∈ (moveBy L id life d).cask.recs, x.id = id) ∧
      ∀ x ∈ (moveBy L id life d).cask.recs, x.id = id → x.tier = 0 ∧ x.life = life := by
  have hrid : r.id = id := by simpa using List.find?_some hfind
  have hids := (hL (d.cask.recs.length + 1) r.len d).ids
  unfold moveBy
  rw [hfind]
  dsimp only
  generalize L (d.cask.recs.length + 1) r.len d = p at hids
  refine ⟨?_, fun x hx hxid => ?_⟩
  · have hin : id ∈ p.2.cask.recs.map (fun r => r.id) := by
      rw [hids]
      exact List.mem_map.mpr ⟨r, List.mem_of_find?_eq_some hfind, hrid⟩
    obtain ⟨y, hy, hyid⟩ := List.mem_map.mp hin
    refine ⟨_, List.mem_map.mpr ⟨y, hy, rfl⟩, ?_⟩
    rw [if_pos (decide_eq_true hyid)]
    exact hyid
  · obtain ⟨y, hy, rfl⟩ := List.mem_map.mp hx
    by_cases hyid : y.id = id
    · rw [if_pos (decide_eq_true hyid)]
      exact ⟨rfl, rfl⟩
    · rw [if_neg (by simpa using hyid)] at hxid
      exact absurd hxid hyid

/-- A record that falls to tier 0 is found there (R297). -/
theorem moveLoose_moves {id life : Nat} {r : Rec} {d : Dev} (hfind : d.cask.recs.find? (fun x => x.id = id) = some r) :
    (∃ x ∈ (moveLoose id life d).cask.recs, x.id = id) ∧
      ∀ x ∈ (moveLoose id life d).cask.recs, x.id = id → x.tier = 0 ∧ x.life = life := by
  rw [moveLoose_eq]
  exact moveBy_moves placeLoose_placed hfind

/-- The first READY after a record counts the dead time from its last row (R336). -/
theorem readied_deadUs {x : RecUnit} {a : Nat} (t : Nat) (h : x.lastRow = some a) :
    { x with st := 2, readySeen := true, deadUs := match x.lastRow with
      | some a => min 0xFFFFFFFF ((t - a) / 400)
      | none => 0xFFFFFFFF } = { x with st := 2, readySeen := true, deadUs := min 0xFFFFFFFF ((t - a) / 400) } := by
  rw [h]

/-- Settles O48: the recorder units, their records, and the record store. -/
theorem recorderUnits : Obligations.RecorderUnits := by
  unfold Obligations.RecorderUnits
  refine ⟨?arms, ?groups, ?fires, ?stops, ?refills, ?readies, ?posts, ?stores, ?rearms, ?edges, ?early, ?counts, ?damages,
    ?archives, ?ages⟩
  case arms =>
    intro s t cls u hs hu howned hup halone hst hmode
    have halone' : inGroup (devAt s t) u = false := halone
    have hup' : (devAt s t).cask.up = true := hup
    have heq : immediate cls 1 (loupeWrite 0xA008 u (loupeArm u)) (devAt s t) = answer 0 0 (armed u 0 (devAt s t)) := by
      rw [loupeWrite_runs (d := devAt s t) hs hu howned, loupeArm, if_neg (not_not_intro hup'),
        if_pos (ne_true_of_eq_false halone'), armUnit_idle (d := devAt s t) hup hst hmode]
    refine runs_eq rfl heq (((armed_keeps u 0 _).mono (by decide)).andThen (answer_keeps _ _ _) (by decide)) (by decide)
      ⟨answered_answer _ _ _, ?_, ?_⟩
    · exact unit_armed u 0 (devAt s t)
    · exact (otherUnits_armed u 0 (devAt s t)).trans (otherUnits_of_loupe rfl u)
  case groups =>
    intro s t cls u hs hu howned hup hgroup hmaster hst hquiet
    have hup' : (devAt s t).cask.up = true := hup
    have hgroup' : inGroup (devAt s t) u = true := hgroup
    have hmaster' : prm (devAt s t) 0xA006 u = 1 ∧ (unit (devAt s t) u).st = 0 := ⟨hmaster, hst⟩
    have heq : immediate cls 1 (loupeWrite 0xA008 u (loupeArm u)) (devAt s t) =
        answer 0 0 (groupArmed (prm (devAt s t) 0xA005 u) (((unit (devAt s t) u).armCount + 1) % 2 ^ 32)
          (armSent u (devAt s t))) := by
      rw [loupeWrite_runs (d := devAt s t) hs hu howned, loupeArm, if_neg (not_not_intro hup'),
        if_neg (not_not_intro hgroup'), if_pos hmaster', armGroup_eq]
    have hsent := armSent_keeps u (devAt s t)
    have hquiet' : NoWaiting (armSent u (devAt s t)) :=
      fun v hv => (unit_armSent u (devAt s t) v).2.trans (hquiet v hv)
    have hcask : (armSent u (devAt s t)).cask.up = true := by
      rw [hsent.caskLost (by decide)]
      exact hup
    have hprm := hsent.prm (by decide)
    have hmember := fun v hv (hg : prm s.dev 0xA005 v = prm s.dev 0xA005 u) (hidle : (unit s.dev v).st = 0)
        (hon : prm s.dev 0xA000 v ≠ 0) => groupArmed_member (seq := ((unit (devAt s t) u).armCount + 1) % 2 ^ 32) hquiet' hcask hv
      (g := prm (devAt s t) 0xA005 u) ((prm_of_prm hprm _ _).trans hg) ((unit_armSent u (devAt s t) v).1.trans hidle)
      (by rw [prm_of_prm hprm]; exact hon)
    have harmed := groupArmed_keeps (prm (devAt s t) 0xA005 u) (((unit (devAt s t) u).armCount + 1) % 2 ^ 32) hquiet'
    generalize groupArmed (prm (devAt s t) 0xA005 u) (((unit (devAt s t) u).armCount + 1) % 2 ^ 32) (armSent u (devAt s t)) = e
      at heq hmember harmed
    exact runs_eq rfl heq (((hsent.mono (by decide)).andThen harmed (by decide)).andThen (answer_keeps _ _ _) (by decide))
      (by decide) ⟨answered_answer _ _ _, hmember⟩
  case fires =>
    intro s t cls u hs hu howned hnames hst hrows
    have heq : immediate cls 1 (loupeWrite 0xA009 u (loupeFire u)) (devAt s t) =
        answer 0 0 (trigger 4 u 0x600 t 0 (devAt s t)) := by
      rw [loupeWrite_runs (d := devAt s t) hs hu howned, loupeFire, if_pos (show unitNames (devAt s t) u 0x600 = true from hnames)]
      rfl
    have htaken := trigger_taken (fuel := 3) (src := 0x600) (origin := 0) (inst := t) (u := u) (d := devAt s t)
      (.inl ⟨hst, hrows⟩)
    have hkeeps := trigger_keeps 4 u 0x600 t 0 (devAt s t)
    generalize trigger 4 u 0x600 t 0 (devAt s t) = e at heq htaken hkeeps
    exact runs_eq rfl heq ((hkeeps.mono (by decide)).andThen (answer_keeps _ _ _) (by decide)) (by decide)
      ⟨answered_answer _ _ _, htaken⟩
  case stops =>
    intro s t cls u hs hu howned hst
    have heq := loupeWrite_runs (d := devAt s t) hs hu howned 0xA00A (loupeStop u)
    rw [loupeStop, endUnit, if_pos (show (unit (devAt s t) u).st = 3 from hst)] at heq
    refine runs_eq rfl heq (((modUnit_keeps u _ _).mono (by decide)).andThen (answer_keeps _ _ _) (by decide)) (by decide)
      ⟨answered_answer _ _ _, unit_modUnit_self u _ (devAt s t), ?_⟩
    exact (otherUnits_modUnit u _ (devAt s t)).trans (otherUnits_of_loupe rfl u)
  case refills =>
    intro s t u hu hst hrows hseen
    have hseen' : (unit (devAt s t) u).readySeen = true := hseen
    have heq : preFilled u (devAt s t) = _ := if_pos ⟨hu, hst, hrows⟩
    refine runs_eq rfl heq (modUnit_keeps u _ _) (by decide) ⟨?_, otherUnits_modUnit u _ (devAt s t)⟩
    rw [unit_modUnit_self, if_pos hseen', ← hseen']
    rfl
  case readies =>
    intro s t u a hu hst hrows hseen hlast
    have hseen' : (unit (devAt s t) u).readySeen = false := hseen
    have hlast' : (unit (devAt s t) u).lastRow = some a := hlast
    have heq : preFilled u (devAt s t) = _ := if_pos ⟨hu, hst, hrows⟩
    refine runs_eq rfl heq (modUnit_keeps u _ _) (by decide) ⟨?_, otherUnits_modUnit u _ (devAt s t)⟩
    rw [unit_modUnit_self, if_neg (ne_true_of_eq_false hseen')]
    exact readied_deadUs t hlast'
  case posts =>
    intro s t u hu hfull
    have hst : (unit (devAt s t) u).st = 3 := by
      have hfull' := hfull
      simp only [postFull, Bool.and_eq_true, decide_eq_true_eq] at hfull'
      exact hfull'.1.1
    have heq : postComplete u (devAt s t) = endUnit u 0 (devAt s t) := if_pos ⟨hu, hfull⟩
    rw [endUnit, if_pos hst] at heq
    exact runs_eq rfl heq (modUnit_keeps u _ _) (by decide)
      ⟨unit_modUnit_self u _ (devAt s t), otherUnits_modUnit u _ (devAt s t)⟩
  case stores =>
    intro s t u p hu hst hup hsys ht
    have heq := storeDone_eq (p := p) (d := devAt s t) hu hst ht hup
    have htransfer := transferred_keeps u p (devAt s t)
    have hnext := transferred_nextId u p (devAt s t)
    have hfailed : p = .failed → (transferred u p (devAt s t)).cask.unc = true ∧ Pending 83 (transferred u p (devAt s t)) := by
      intro hp
      rw [transferred, if_pos hp]
      exact casUnc_marks hsys
    have hsys' : (transferred u p (devAt s t)).sys.up = true := by rw [htransfer.sys (by decide)]; exact hsys
    generalize transferred u p (devAt s t) = e at heq htransfer hnext hfailed hsys'
    have hfiled := recFiled_keeps u e
    obtain ⟨hid, hrec, hpending, hmarked⟩ := recFiled_files (u := u) hsys'
    have hst := afterStore_st u (recFiled u e)
    have hafter := afterStore_keeps u (recFiled u e)
    have hprm : (recFiled u e).prm = s.dev.prm := (hfiled.prm (by decide)).trans (htransfer.prm (by decide))
    have hcask := hafter.caskLost (by decide)
    rw [prm_of_prm hprm, prm_of_prm hprm, inGroup_of_prm hprm] at hst
    refine runs_eq rfl heq (((htransfer.mono (by decide)).andThen hfiled (by decide)).andThen hafter (by decide)) (by decide)
      ⟨hst, ?_, ?_, hpending.of_ev (hafter.ev (by decide)), fun hp => ⟨?_, ?_⟩⟩
    · rw [hcask]
      exact hid.trans (by rw [hnext]; rfl)
    · rw [hcask]
      obtain ⟨r, hr, hrid, hrest⟩ := hrec
      exact ⟨r, hr, hrid.trans hnext, hrest⟩
    · rw [hcask]
      exact hmarked.unc.trans (hfailed hp).1
    · exact (hmarked.pending 83 (hfailed hp).2).of_ev (hafter.ev (by decide))
  case rearms =>
    intro s t u hu hst hend hup halone hmode
    have halone' : inGroup (devAt s t) u = false := halone
    have hidle := unit_landCfg_self u (modUnit u (fun y => { y with st := 0 }) (devAt s t))
    rw [unit_modUnit_self] at hidle
    have hlanded := landCfg_keeps u (modUnit u (fun y => { y with st := 0 }) (devAt s t))
    have hother := otherUnits_landCfg u (modUnit u (fun y => { y with st := 0 }) (devAt s t))
    have hmode' : prm (landCfg u (modUnit u (fun y => { y with st := 0 }) (devAt s t))) 0xA000 u ≠ 0 := by
      have hsame := landCfg_prm (u := u) (d := modUnit u (fun y => { y with st := 0 }) (devAt s t)) (e := s.dev)
        (by rw [unit_modUnit_self]; rfl) rfl
      rw [prm_of_prm hsame]
      exact hmode
    have heq : rearmHold u (devAt s t) = armUnit u 0 (landCfg u (modUnit u (fun y => { y with st := 0 }) (devAt s t))) := by
      unfold rearmHold
      exact (if_pos ⟨hu, hst, hend⟩).trans (if_neg (ne_true_of_eq_false halone'))
    generalize landCfg u (modUnit u (fun y => { y with st := 0 }) (devAt s t)) = e at hidle hlanded hother hmode' heq
    have hup' : e.cask.up = true := by rw [hlanded.caskLost (by decide)]; exact hup
    have hst' : (unit e u).st = 0 := by rw [hidle]
    rw [armUnit_idle hup' hst' hmode'] at heq
    refine runs_eq rfl heq ((((modUnit_keeps u _ _).mono (by decide)).andThen hlanded (by decide)).andThen (armed_keeps u 0 e)
      (by decide)) (by decide) ⟨?_, ?_, ?_⟩
    · rw [unit_armed]
      rfl
    · rw [unit_armed]
      rfl
    · exact ((otherUnits_modUnit u _ (devAt s t)).trans hother).trans (otherUnits_armed u 0 e)
  case edges =>
    intro s t k u up hk hu hnames hst hrows
    have heq : trigIn k up (devAt s t) = triggers ((if up then 0x100 else 0x110) + k) (t - 4) (devAt s t) := if_pos hk
    exact runs_eq rfl heq ((triggers_keeps _ _ _).mono (by decide)) (by decide)
      (triggers_taken (d := devAt s t) hu hnames (.inl ⟨hst, hrows⟩))
  case early =>
    intro s t errs hearly
    have heq : casketScrub errs (devAt s t) = devAt s t := if_neg fun h => absurd h.2 (Nat.not_le.mpr hearly)
    exact runs_eq rfl heq (Keeps.refl _ _) (by decide) trivial
  case counts =>
    intro s t errs hup hsingle hdue
    have heq := (casketScrub_due (errs := errs) (d := devAt s t) hup hdue).trans (eccErrors_single errs hsingle _)
    exact runs_eq rfl heq ((scrubbed_keeps _).trans (ceCnt_keeps _ _)) (by decide) rfl
  case damages =>
    intro s t a hup hsys ha hdue
    have heq := (casketScrub_due (errs := [⟨a, true⟩]) (d := devAt s t) hup hdue).trans (eccError_double ha (scrubbed (devAt s t)))
    have hmarked := damagedAt_recs a (scrubbed (devAt s t))
    have hkeeps : Keeps [.cask] (devAt s t) (damagedAt a (scrubbed (devAt s t))) :=
      (scrubbed_keeps _).trans (modRecs_keeps _ _ _)
    generalize damagedAt a (scrubbed (devAt s t)) = e at heq hmarked hkeeps
    have hsys' : e.sys.up = true := by rw [hkeeps.sys (by decide)]; exact hsys
    refine runs_eq rfl heq ((hkeeps.mono (by decide)).andThen (casUnc_keeps _) (by decide)) (by decide)
      ⟨(casUnc_marks hsys').1, (casUnc_marks hsys').2, ?_⟩
    rw [casUnc_recs]
    exact hmarked
  case archives =>
    intro s t hup
    have heq : archiveCopy (devAt s t) = { devAt s t with
        ev := { s.dev.ev with copied := s.dev.ev.seq }
        cask := { s.dev.cask with
          archive := (s.dev.ev.log.filter (fun e => s.dev.ev.copied < e.seq) ++ s.dev.cask.archive).take 16777216 } } := if_pos hup
    exact runs_eq rfl heq ⟨fun p hp => by cases p <;> first | rfl | exact absurd (by decide) hp⟩ (by decide) ⟨rfl, rfl⟩
  case ages =>
    intro s t id r hfind htier hlive hdue
    have hfind' : (devAt s t).cask.recs.find? (fun x => x.id = id) = some r := hfind
    have hdue' : r.at_ + prm (devAt s t) 0x8032 0 * 3600 * 400000000 ≤ (devAt s t).t := by
      rw [Nat.mul_assoc]
      exact hdue
    have hmoves := moveLoose_moves (life := 2) hfind'
    have hkeeps := (moveLoose_placed id 2 (devAt s t)).keeps
    have heq : tierAge id (devAt s t) = moveLoose id 2 (devAt s t) := by
      unfold tierAge
      rw [hfind']
      exact if_pos ⟨htier, hlive, hdue'⟩
    generalize moveLoose id 2 (devAt s t) = e at hmoves hkeeps heq
    exact runs_eq rfl heq hkeeps (by decide) hmoves

end Sys2Proof.Safety
end

section
/-!
PROOF. Energy metering: the register window, saves and phase calibration (R306, R307, R315 to R318).
-/
namespace Sys2Proof.Safety

open Sys2Proof.Machine

/-! ### The register window -/

theorem caratLoCmd_lifetime {d : Dev} (h : d.carat.selForm = false) : caratLoCmd d =
    { d with
      carat := { d.carat with lval := true, hi := lifetime d (16 * d.carat.selM + d.carat.selR) / 2 ^ 32 }
      mbx := { d.mbx with hostRd := le 4 (lifetime d (16 * d.carat.selM + d.carat.selR)) } } := by
  have hform : caratForm d = lifetime d (16 * d.carat.selM + d.carat.selR) := if_neg (ne_true_of_eq_false h)
  unfold caratLoCmd caratLoRead
  dsimp only
  rw [if_neg (ne_true_of_eq_false h), hform]

/-- The bases once the interval of the selected register has been read. -/
def readBases (d : Dev) : Tab Int :=
  tput 0 (16 * d.carat.selM + d.carat.selR) (lifetime d (16 * d.carat.selM + d.carat.selR)) d.carat.bases

/-- The device once the interval of the selected register has been read (R307). -/
def intervalRead (d : Dev) : Dev :=
  { d with
    carat := { d.carat with lval := true, hi := interval d (16 * d.carat.selM + d.carat.selR) / 2 ^ 32, bases := readBases d }
    clasp := { d.clasp with bases := readBases d }
    lkt := { d.lkt with journal := d.lkt.journal ++ [.base (16 * d.carat.selM + d.carat.selR) (lifetime d (16 * d.carat.selM + d.carat.selR))] }
    mbx := { d.mbx with hostRd := le 4 (interval d (16 * d.carat.selM + d.carat.selR)) } }

theorem caratLoCmd_interval {d : Dev} (h : d.carat.selForm = true) : caratLoCmd d = intervalRead d := by
  have hform : caratForm d = interval d (16 * d.carat.selM + d.carat.selR) := if_pos h
  unfold caratLoCmd caratLoRead
  dsimp only
  rw [if_pos h, hform]
  rfl

theorem intervalRead_keeps (d : Dev) : Keeps [.carat, .clasp, .lkt, .mbx] d (intervalRead d) :=
  ⟨fun p hp => by cases p <;> first | rfl | exact absurd (by decide) hp⟩

/-- The interval of a register starts anew at 0 once it has been read. -/
theorem interval_intervalRead (d : Dev) : interval (intervalRead d) (16 * d.carat.selM + d.carat.selR) = 0 := by
  have hbase : tget 0 (intervalRead d).carat.bases (16 * d.carat.selM + d.carat.selR) =
      (lifetime d (16 * d.carat.selM + d.carat.selR) : Int) := tget_tput_self ..
  have hlife : lifetime (intervalRead d) (16 * d.carat.selM + d.carat.selR) = lifetime d (16 * d.carat.selM + d.carat.selR) := rfl
  unfold interval
  rw [hbase, hlife, Int.sub_self]
  rfl

/-! ### Saves -/

/-- A complete save keeps the whole units of the set, at the end of the journal, and clears the residual. -/
theorem caratSave_saves (d : Dev) :
    (caratSave d).carat.saved = ⟨d.carat.regs.map (fun e => (e.1, wholeUnits e.2)), d.carat.bases, tMs d⟩ ∧
      (caratSave d).lkt.journal.getLast? = some (.carat (caratSave d).carat.saved) ∧ (caratSave d).clasp.residual = none :=
  ⟨rfl, List.getLast?_concat, rfl⟩

/-- What each register has gathered since the save `old`, as the residual holds it (R317). -/
def sinceSave (old : Tab Int) (regs : Tab Int) : Tab Int :=
  regs.foldl (fun m e => tput 0 e.1 ((e.2 - tget 0 old e.1) % (2 : Int) ^ 96) m) []

theorem tget_foldl_other {old : Tab Int} {k : Nat} {regs : Tab Int} (h : ∀ e ∈ regs, k ≠ e.1) (m : Tab Int) :
    tget 0 (regs.foldl (fun m e => tput 0 e.1 ((e.2 - tget 0 old e.1) % (2 : Int) ^ 96) m) m) k = tget 0 m k := by
  induction regs generalizing m with
  | nil => rfl
  | cons x xs ih =>
    rw [List.foldl_cons, ih (fun e he => h e (List.mem_cons_of_mem _ he)), tget_tput_ne _ _ _ (h x List.mem_cons_self)]

/-- In a table whose keys differ each register reads what it has gathered. -/
theorem tget_sinceSave {old regs : Tab Int} (h : regs.Pairwise (fun a b => a.1 < b.1)) {e : Nat × Int} (he : e ∈ regs) :
    tget 0 (sinceSave old regs) e.1 = (e.2 - tget 0 old e.1) % (2 : Int) ^ 96 := by
  unfold sinceSave
  generalize ([] : Tab Int) = m
  induction regs generalizing m with
  | nil => exact absurd he List.not_mem_nil
  | cons x xs ih =>
    obtain ⟨hx, hxs⟩ := List.pairwise_cons.mp h
    rw [List.foldl_cons]
    rcases List.mem_cons.mp he with rfl | hin
    · rw [tget_foldl_other (fun y hy => (hx y hy).ne), tget_tput_self]
    · exact ih hxs hin _

/-- The residual with the energy since the last save (R317). -/
def residualKept (d : Dev) : CaratSave :=
  { regs := sinceSave d.carat.saved.regs d.carat.regs, bases := d.carat.bases, tMs := (d.carat.pts.map (fun e => e.2.last.getD 0)).foldl max 0 / 400000 }

theorem residualWrite_due {d : Dev} (hruns : caratRuns d = true) (hdue : d.carat.resT + 8000000 ≤ d.t) :
    residualWrite d =
      { d with
        carat := { d.carat with resT := d.t }
        clasp := { d.clasp with residual := some (residualKept d) } } := if_pos ⟨hruns, hdue⟩

/-! ### Phase calibration -/

/-- Enough cycles have been measured for the phase of `c`, or a result has spoilt it. -/
def phMeasured (d : Dev) (c : PhCal) : Prop :=
  ¬ (¬ c.bad = true ∧ c.cycles < prm d 0x110A (4 * prm d 0x9002 c.x + prm d 0x1101 (prm d 0x9002 c.x)))

/-- The correction of phase `x` is kept, for the next epoch and in the journal (R315). -/
def phKept (x v : Nat) (d : Dev) : Dev :=
  { d with
    carat := { d.carat with phCal := none, phPend := tput none x (some v) d.carat.phPend, phDone := setBit d.carat.phDone x }
    lkt := { d.lkt with journal := d.lkt.journal ++ [.always (pkey 0x9008 x) v] } }

theorem phKept_keeps (x v : Nat) (d : Dev) : Keeps [.carat, .lkt] d (phKept x v d) :=
  ⟨fun p hp => by cases p <;> first | rfl | exact absurd (by decide) hp⟩

theorem phCalDone_good {phiM : Int} {c : PhCal} {d : Dev} (hcal : d.carat.phCal = some c) (hmeasured : phMeasured d c)
    (hgood : ¬ (c.bad = true ∨ (carPt d 0).irms.getD c.x 0 < (prm d 0x9006 0 : Rat) / 10 ∨ 2000 < absI (c.phiA - phiM))) :
    phCalDone phiM d = raiseI 18 (prm d 0x9002 c.x) (phKept c.x (ofInt 32 (c.phiA - phiM)) d) := by
  unfold phCalDone
  rw [hcal]
  exact (if_neg hmeasured).trans (if_neg hgood)

theorem phCalDone_refused {phiM : Int} {c : PhCal} {d : Dev} (hcal : d.carat.phCal = some c) (hmeasured : phMeasured d c)
    (hbad : c.bad = true ∨ (carPt d 0).irms.getD c.x 0 < (prm d 0x9006 0 : Rat) / 10 ∨ 2000 < absI (c.phiA - phiM)) :
    phCalDone phiM d = { d with carat := { d.carat with phCal := none } } := by
  unfold phCalDone
  rw [hcal]
  exact (if_neg hmeasured).trans (if_pos hbad)

/-- Settles O49: the register window, complete saves, the residual, and phase calibration. -/
theorem metering : Obligations.Metering := by
  unfold Obligations.Metering
  refine ⟨?selects, ?missing, ?lifetime, ?interval, ?periodic, ?demand, ?early, ?residual, ?starts, ?keeps, ?refuses, ?runs⟩
  case selects =>
    intro s t v hup hm hr
    have heq : selWrite v (devAt s t) = { devAt s t with carat := { (devAt s t).carat with
        selM := bits v 5 0, selR := bits v 11 8, selForm := bit v 12, lval := false, hi := 0 } } := by
      refine (if_neg (not_not_intro hup)).trans ?_
      exact if_neg (not_or.mpr ⟨Nat.not_lt.mpr hm, Nat.not_lt.mpr hr⟩)
    exact runs_eq rfl heq (keeps_carat _ _) (by decide) rfl
  case missing =>
    intro s t v hup hmissing
    have heq : selWrite v (devAt s t) = { devAt s t with carat := { (devAt s t).carat with selErr := true } } := by
      refine (if_neg (not_not_intro hup)).trans ?_
      exact if_pos hmissing
    exact runs_eq rfl heq (keeps_carat _ _) (by decide) rfl
  case lifetime =>
    intro s t hform
    have heq := caratLoCmd_lifetime (d := devAt s t) hform
    exact runs_eq rfl heq ⟨fun p hp => by cases p <;> first | rfl | exact absurd (by decide) hp⟩ (by decide) ⟨rfl, rfl⟩
  case interval =>
    intro s t hform
    have heq := caratLoCmd_interval (d := devAt s t) hform
    exact runs_eq rfl heq (intervalRead_keeps _) (by decide)
      ⟨rfl, tget_tput_self .., rfl, rfl, rfl, interval_intervalRead (devAt s t)⟩
  case periodic =>
    intro s t hruns hdue
    have heq : periodicSave (devAt s t) = caratSave (devAt s t) := if_pos ⟨hruns, hdue⟩
    exact runs_eq rfl heq ((caratSave_keeps _).mono (by decide)) (by decide) (caratSave_saves (devAt s t))
  case demand =>
    intro s t cls hs
    have heq : immediate cls 1 saveGo (devAt s t) = answer 0 0 (caratSave (devAt s t)) :=
      immediate_of_served (d := devAt s t) hs _
    exact runs_eq rfl heq (((caratSave_keeps _).mono (by decide)).andThen (answer_keeps _ _ _) (by decide)) (by decide)
      ⟨answered_answer _ _ _, caratSave_saves (devAt s t)⟩
  case early =>
    intro s t hearly
    have heq : residualWrite (devAt s t) = devAt s t := if_neg fun h => absurd h.2 (Nat.not_le.mpr hearly)
    exact runs_eq rfl heq (Keeps.refl _ _) (by decide) trivial
  case residual =>
    intro s t hruns hwf hdue
    have heq := residualWrite_due (d := devAt s t) hruns hdue
    exact runs_eq rfl heq ⟨fun p hp => by cases p <;> first | rfl | exact absurd (by decide) hp⟩ (by decide)
      ⟨rfl, residualKept (devAt s t), rfl, rfl, fun e he => tget_sinceSave hwf.1 he⟩
  case starts =>
    intro s t cls v hs hx hnone hin hvolt hcurrent
    have hx3 : ¬ bits v 1 0 = 3 := Nat.ne_of_lt hx
    have hadmitted : (devAt s t).carat.phCal.isNone = true ∧ prm (devAt s t) 0x9002 (bits v 1 0) ≠ 0xFF ∧
        calAdmitted (devAt s t) (prm (devAt s t) 0x9001 (bits v 1 0)) = true ∧
        calAdmitted (devAt s t) (prm (devAt s t) 0x9002 (bits v 1 0)) = true :=
      ⟨Option.isNone_iff_eq_none.mpr hnone, hin, hvolt, hcurrent⟩
    have heq : immediate cls 2 (phCalGo v) (devAt s t) = answer 0 0 { devAt s t with carat := { (devAt s t).carat with
        phCal := some { x := bits v 1 0, phiA := toInt 16 (bits v 31 16) } } } :=
      (immediate_of_served (d := devAt s t) hs _).trans ((if_neg hx3).trans (if_pos hadmitted))
    exact runs_eq rfl heq (((keeps_carat _ _).mono (by decide)).andThen (answer_keeps _ _ _) (by decide)) (by decide)
      ⟨answered_answer _ _ _, rfl⟩
  case keeps =>
    intro s t phiM c hcal hgood hcycles hirms hangle hup
    have heq := phCalDone_good (d := devAt s t) (phiM := phiM) hcal (fun h => Nat.not_lt.mpr hcycles h.2)
      (fun h => h.elim (ne_true_of_eq_false hgood) (fun h => h.elim (not_lt.mpr hirms) (not_lt.mpr hangle)))
    have hkept := phKept_keeps c.x (ofInt 32 (c.phiA - phiM)) (devAt s t)
    have hraise := raiseI_keeps 18 (prm (devAt s t) 0x9002 c.x) (phKept c.x (ofInt 32 (c.phiA - phiM)) (devAt s t))
    refine runs_eq rfl heq ((hkept.mono (by decide)).andThen hraise (by decide)) (by decide)
      ⟨?_, ?_, ?_, raiseI_pending 18 _ _ hup (by decide)⟩
    · rw [hraise.carat (by decide)]
      rfl
    · rw [hraise.carat (by decide), phKept]
      exact tget_tput_self none c.x (some (ofInt 32 (c.phiA - phiM))) _
    · rw [hraise.lkt (by decide)]
      rfl
  case refuses =>
    intro s t phiM c hcal hbad
    have hmeasured : phMeasured (devAt s t) c := by
      rintro ⟨hgood, hfew⟩
      exact hbad.elim hgood (fun h => Nat.not_lt.mpr h.1 hfew)
    have heq := phCalDone_refused (d := devAt s t) (phiM := phiM) hcal hmeasured (hbad.imp id (fun h => .inr h.2))
    exact runs_eq rfl heq (keeps_carat _ _) (by decide) rfl
  case runs =>
    intro s t phiM c hcal hgood hfew
    have hcal' : (devAt s t).carat.phCal = some c := hcal
    have heq : phCalDone phiM (devAt s t) = devAt s t := by
      unfold phCalDone
      rw [hcal']
      exact if_pos ⟨ne_true_of_eq_false hgood, hfew⟩
    exact runs_eq rfl heq (Keeps.refl _ _) (by decide) trivial

end Sys2Proof.Safety
end

section
/-!
PROOF. Frames and datagrams of partners, and what goes out to them (R394, R402 to R411, R414 to R418).
-/
namespace Sys2Proof.Safety

open Sys2Proof.Machine

/-! ### Ports, entries and points -/

theorem canPort_of_can {d e : Dev} (h : e.can = d.can) (p : Nat) : canPort e p = canPort d p := by
  unfold canPort
  rw [h]

theorem ptnEnt_of_can {d e : Dev} (h : e.can = d.can) (k : Nat) : ptnEnt e k = ptnEnt d k := by
  unfold ptnEnt
  rw [h]

theorem canPort_modPort_self (p : Nat) (f : CanPort → CanPort) (d : Dev) : canPort (modPort p f d) p = f (canPort d p) :=
  tget_tmod_self ..

theorem otherPorts_modPort (p : Nat) (f : CanPort → CanPort) (d : Dev) : OtherPorts p d (modPort p f d) :=
  fun _ hq => tget_tmod_ne _ _ _ hq

theorem OtherPorts.trans {p : Nat} {d e f : Dev} (h : OtherPorts p d e) (k : OtherPorts p e f) : OtherPorts p d f :=
  fun q hq => (k q hq).trans (h q hq)

theorem otherPorts_of_can {d e : Dev} (h : e.can = d.can) (p : Nat) : OtherPorts p d e := fun q _ => canPort_of_can h q

theorem otherPorts_of_ports {d e : Dev} (h : e.can.ports = d.can.ports) (p : Nat) : OtherPorts p d e := by
  intro q _
  unfold canPort
  rw [h]

theorem ptnEnt_modEnt_self (e : Nat) (f : PtnEnt → PtnEnt) (d : Dev) : ptnEnt (modEnt e f d) e = f (ptnEnt d e) :=
  tget_tmod_self ..

theorem up_of_busesRun {d : Dev} (h : busesRun d = true) : d.sys.up = true := (Bool.and_eq_true_iff.mp h).1

/-- A sweep over the indices from 0 on leaves what its first turn made, when no later one undoes it. -/
theorem forAll_first {n : Nat} {f : Nat → Dev → Dev} {Q : Dev → Prop} {d : Dev} (hn : 0 < n) (h0 : Q (f 0 d))
    (hk : ∀ k e, 0 < k → Q e → Q (f k e)) : Q (forAll n f d) := by
  induction n, hn using Nat.le_induction with
  | base => exact h0
  | succ n hle ih =>
    rw [forAll_succ]
    exact hk n _ hle ih

/-! ### Reception -/

/-- The frame has been counted on its port. -/
def rxCounted (p : Nat) (d : Dev) : Dev := modPort p (fun y => { y with nRx := incSat 4294967295 y.nRx }) d

/-- A data frame that is valid for a running port goes to its receive path. -/
theorem canRx_accepts {p : Nat} {fr : CanFrame} {d : Dev} (hp : p < 12) (hrun : busesRun d = true) (hlock : locked d 0 = true)
    (hst : (canPort d p).st < 2) (hmode : prm d 0xB000 p = 1 ∨ prm d 0xB000 p = 2)
    (hfd : fr.fdf = false ∨ prm d 0xB001 p ≠ 0) (hrtr : fr.rtr = false) : canRx p fr d = acceptFrame p fr (rxCounted p d) := by
  have hserved : ¬ (12 ≤ p ∨ ¬ busesRun d = true ∨ ¬ locked d 0 = true ∨ (canPort d p).st = 2 ∨ (canPort d p).st = 3 ∨
      ¬ (prm d 0xB000 p = 1 ∨ prm d 0xB000 p = 2)) := by
    rintro (h | h | h | h | h | h)
    · omega
    · exact h hrun
    · exact h hlock
    · omega
    · omega
    · exact h hmode
  have hclassic : ¬ (fr.fdf = true ∧ prm d 0xB001 p = 0) :=
    fun h => hfd.elim (fun hf => ne_true_of_eq_false hf h.1) (fun hn => hn h.2)
  exact (if_neg hserved).trans ((if_neg hclassic).trans (if_neg (ne_true_of_eq_false hrtr)))

/-- What a port holds of a frame that element `by_` decided. -/
def heldFrame (by_ : Nat) (fr : CanFrame) (d : Dev) : CanRx := ⟨by_, frameWord fr, fr.esi, d.t, fr.data⟩

/-- The high-priority buffer `h` of port `p` holds the frame. -/
def buffered (p h : Nat) (fr : CanFrame) (d : Dev) : Dev :=
  modPort p (fun x => { x with hp := tput none h (some (heldFrame (0x200 + h) fr d)) x.hp }) d

theorem acceptFrame_buffer {p h : Nat} {fr : CanFrame} {d : Dev}
    (hfind : (List.range 8).find? (fun k => describes (prm d 0xB021 (8 * p + k)) fr) = some h)
    (hfree : tget none (canPort d p).hp h = none) :
    acceptFrame p fr d = raise 89 (8 * p + h) (le 4 (frameWord fr)) (buffered p h fr d) := by
  unfold acceptFrame
  dsimp only
  rw [hfind]
  dsimp only
  rw [if_neg (by rw [hfree]; exact Bool.false_ne_true)]
  rfl

/-- The queue of port `p` ends with the frame. -/
def queuedRx (p k : Nat) (fr : CanFrame) (d : Dev) : Dev := modPort p (fun x => { x with rx := x.rx ++ [heldFrame k fr d] }) d

theorem acceptFrame_queue {p k : Nat} {fr : CanFrame} {d : Dev}
    (hnone : (List.range 8).find? (fun h => describes (prm d 0xB021 (8 * p + h)) fr) = none) (hdecides : decider d p fr = some k)
    (haccepts : bit (prm d 0xB020 (512 * p + k)) 30 = true) (hroom : (canPort d p).rx.length < 128 - prm d 0xB00B p) :
    acceptFrame p fr d = queuedRx p k fr d := by
  unfold acceptFrame
  dsimp only
  rw [hnone, hdecides]
  dsimp only
  rw [if_pos haccepts, if_pos hroom]
  rfl

theorem find?_range_none {n : Nat} {q : Nat → Bool} (h : ∀ k, k < n → q k = false) : (List.range n).find? q = none :=
  List.find?_eq_none.mpr fun k hk => ne_true_of_eq_false (h k (List.mem_range.mp hk))

/-! ### The engine -/

theorem claims_of_prm {d e : Dev} (h : e.prm = d.prm) (p : Nat) (r : CanRx) (k : Nat) : claims e p r k = claims d p r k := by
  unfold claims pagesOf
  simp only [prm_of_prm h]

/-- A frame that no entry claims is discarded and counted. -/
theorem serveFrame_unclaimed {p : Nat} {r : CanRx} {d : Dev} (h : ∀ e, e < 4096 → claims d p r e = false) :
    serveFrame p r d = modPort p (fun x => { x with unbound := incSat 4294967295 x.unbound }) d := by
  unfold serveFrame
  rw [find?_range_none h]

/-- With every high-priority buffer empty the engine takes the oldest queued frame. -/
theorem frameProcess_queue {p : Nat} {r : CanRx} {rs : List CanRx} {d : Dev} (hp : p < 12) (hrun : busesRun d = true)
    (hempty : ∀ q, q < 12 → ∀ h, h < 8 → tget none (canPort d q).hp h = none) (hrx : (canPort d p).rx = r :: rs) :
    frameProcess p d = serveFrame p r (modPort p (fun y => { y with rx := rs }) d) := by
  have hserved : ¬ (12 ≤ p ∨ ¬ busesRun d = true) := fun h => h.elim (Nat.not_le.mpr hp) (fun h => h hrun)
  have hnone : (List.range 8).find? (fun h => (tget none (canPort d p).hp h).isSome) = none :=
    find?_range_none fun h hh => by rw [hempty p hp h hh]; rfl
  have hany : (List.range 12).any (fun q => (List.range 8).any (fun h => (tget none (canPort d q).hp h).isSome)) = false := by
    simp only [List.any_eq_false, List.mem_range]
    intro q hq
    rw [Bool.not_eq_true, List.any_eq_false]
    intro h hh
    rw [hempty q hq h (List.mem_range.mp hh)]
    exact Bool.false_ne_true
  unfold frameProcess
  dsimp only
  rw [if_neg hserved, hnone]
  dsimp only
  rw [if_neg (ne_true_of_eq_false hany), hrx]

/-- The engine takes the lowest high-priority buffer that holds a frame. -/
theorem frameProcess_buffer {p h : Nat} {r : CanRx} {d : Dev} (hp : p < 12) (hrun : busesRun d = true) (hh : h < 8)
    (hempty : ∀ k, k < h → tget none (canPort d p).hp k = none) (hheld : tget none (canPort d p).hp h = some r) :
    frameProcess p d = serveFrame p r (modPort p (fun y => { y with hp := tput none h none y.hp }) d) := by
  have hserved : ¬ (12 ≤ p ∨ ¬ busesRun d = true) := fun h => h.elim (Nat.not_le.mpr hp) (fun h => h hrun)
  have hfind : (List.range 8).find? (fun h => (tget none (canPort d p).hp h).isSome) = some h := by
    rw [List.find?_range_eq_some]
    exact ⟨by rw [hheld]; rfl, List.mem_range.mpr hh, fun k hk => by rw [hempty k hk]; rfl⟩
  unfold frameProcess
  dsimp only
  rw [if_neg hserved, hfind]
  dsimp only
  rw [hheld]

/-! ### Fields -/

theorem putField_keeps (e p v a : Nat) (d : Dev) : Keeps [.pts] d (putField e p v a d) := keeps_pts _ d

theorem point_putField (e p v a : Nat) (d : Dev) (q : Nat) : point (putField e p v a d) q =
    if q = p then { point d p with value := v, typ := prm d 0xB104 e, tNs := a * 5 / 2, valid := !isMarker (prm d 0xB104 e) v,
                                   stale := false, seq := ((point d p).seq + 1) % 2 ^ 32 } else point d q := tget_tput ..

/-- Field `k` of a page that starts at point number `first` of entry `e`. -/
def putOne (e first k : Nat) (bs : List Byte) (a : Nat) (d x : Dev) : Dev :=
  if first + k < prm d 0xB103 e then
    putField e (prm d 0xB102 e + first + k)
      (ofLe ((bs.drop (typeSize (prm d 0xB104 e) * k)).take (typeSize (prm d 0xB104 e)))) a x
  else x

theorem putFields_eq (e g n : Nat) (bs : List Byte) (a : Nat) (d : Dev) : putFields e g n bs a d =
    forAll (min n (bs.length / typeSize (prm d 0xB104 e))) (fun k x => putOne e (g * prm d 0xB108 e) k bs a d x) d := rfl

theorem putOne_keeps (e first k : Nat) (bs : List Byte) (a : Nat) (d x : Dev) : Keeps [.pts] x (putOne e first k bs a d x) :=
  keeps_ite (fun _ => putField_keeps _ _ _ _ x) (fun _ => Keeps.refl _ x)

theorem putFields_keeps (e g n : Nat) (bs : List Byte) (a : Nat) (d : Dev) : Keeps [.pts] d (putFields e g n bs a d) := by
  rw [putFields_eq]
  exact keeps_forAll _ _ (fun k x => putOne_keeps _ _ _ _ _ _ x) d

theorem typeSize_pos (ty : Nat) : 0 < typeSize ty := by
  unfold typeSize
  split
  · exact Nat.one_pos
  · split <;> decide

/-- The first field of the first page goes to the first point of the entry. -/
theorem putFields_first {e n : Nat} {bs : List Byte} {d : Dev} (hn : 0 < n) (hcount : 0 < prm d 0xB103 e)
    (hlen : typeSize (prm d 0xB104 e) ≤ bs.length) (a : Nat) :
    (point (putFields e 0 n bs a d) (prm d 0xB102 e)).value = ofLe (bs.take (typeSize (prm d 0xB104 e))) ∧
      (point (putFields e 0 n bs a d) (prm d 0xB102 e)).tNs = a * 5 / 2 := by
  have hfields : 0 < min n (bs.length / typeSize (prm d 0xB104 e)) :=
    lt_min hn (Nat.div_pos hlen (typeSize_pos _))
  rw [putFields_eq]
  refine forAll_first (Q := fun x => (point x (prm d 0xB102 e)).value = ofLe (bs.take (typeSize (prm d 0xB104 e))) ∧
    (point x (prm d 0xB102 e)).tNs = a * 5 / 2) hfields ?_ (fun k x hk hx => ?_)
  · have hone : putOne e (0 * prm d 0xB108 e) 0 bs a d d = putField e (prm d 0xB102 e)
        (ofLe (bs.take (typeSize (prm d 0xB104 e)))) a d := by
      have hin : 0 * prm d 0xB108 e + 0 < prm d 0xB103 e := by omega
      rw [putOne, if_pos hin, Nat.mul_zero, List.drop_zero, Nat.zero_mul, Nat.add_zero]
    rw [hone, point_putField, if_pos rfl]
    exact ⟨rfl, rfl⟩
  · unfold putOne
    split
    · rw [point_putField, if_neg (by omega)]
      exact hx
    · exact hx

theorem entrySeen_keeps (e : Nat) (d : Dev) : Keeps [.can] d (entrySeen e d) := modEnt_keeps e _ d

theorem entrySeen_ent (e : Nat) (d : Dev) : ptnEnt (entrySeen e d) e =
    { ptnEnt d e with lost := false, seen := true, rxCnt := ((ptnEnt d e).rxCnt + 1) % 65536, lastRx := d.t } :=
  ptnEnt_modEnt_self ..

/-- What a frame or datagram of entry `e` does: the entry is seen, its fields are written, and the racks are fed. -/
def entryFed (e g n : Nat) (bs : List Byte) (a : Nat) (d : Dev) : Dev := rackFeed (putFields e g n bs a (entrySeen e d))

theorem entryFed_keeps (e g n : Nat) (bs : List Byte) (a : Nat) (d : Dev) :
    Keeps [.can, .pts, .setr] d (entryFed e g n bs a d) :=
  (((entrySeen_keeps e d).mono (by decide)).andThen (putFields_keeps _ _ _ _ _ _) (by decide)).andThen (rackFeed_keeps _) (by decide)

theorem entryFed_can (e g n : Nat) (bs : List Byte) (a : Nat) (d : Dev) :
    (entryFed e g n bs a d).can = (entrySeen e d).can :=
  ((rackFeed_keeps _).can (by decide)).trans ((putFields_keeps _ _ _ _ _ _).can (by decide))

theorem entryFed_ent (e g n : Nat) (bs : List Byte) (a : Nat) (d : Dev) : (ptnEnt (entryFed e g n bs a d) e).lastRx = d.t ∧
    (ptnEnt (entryFed e g n bs a d) e).seen = true ∧ (ptnEnt (entryFed e g n bs a d) e).lost = false := by
  rw [ptnEnt_of_can (entryFed_can e g n bs a d), entrySeen_ent]
  exact ⟨rfl, rfl, rfl⟩

theorem entryFed_first {e n : Nat} {bs : List Byte} {d : Dev} (hn : 0 < n) (hcount : 0 < prm d 0xB103 e)
    (hlen : typeSize (prm d 0xB104 e) ≤ bs.length) (a : Nat) :
    (point (entryFed e 0 n bs a d) (prm d 0xB102 e)).value = ofLe (bs.take (typeSize (prm d 0xB104 e))) ∧
      (point (entryFed e 0 n bs a d) (prm d 0xB102 e)).tNs = a * 5 / 2 := by
  unfold entryFed
  rw [point_of_pts ((rackFeed_keeps _).pts (by decide))]
  exact putFields_first (d := entrySeen e d) hn hcount hlen a

/-! ### Staleness -/

/-- The points of entry `e` that have not been updated for its time are stale (R407). -/
def pointsStale (e : Nat) (d : Dev) : Dev :=
  forAll (prm d 0xB103 e) (fun k x =>
    if (point x (prm d 0xB102 e + k)).tNs + prm d 0xB107 e * 1000000 ≤ tNs d then
      { x with pts := tput {} (prm d 0xB102 e + k) { point x (prm d 0xB102 e + k) with stale := true } x.pts } else x) d

theorem pointsStale_keeps (e : Nat) (d : Dev) : Keeps [.pts] d (pointsStale e d) :=
  keeps_forAll _ _ (fun _ x => keeps_ite (fun _ => keeps_pts _ x) (fun _ => Keeps.refl _ x)) d

theorem pointsStale_point {e k : Nat} {d : Dev} (hk : k < prm d 0xB103 e)
    (hold : (point d (prm d 0xB102 e + k)).tNs + prm d 0xB107 e * 1000000 ≤ tNs d) :
    point (pointsStale e d) (prm d 0xB102 e + k) = { point d (prm d 0xB102 e + k) with stale := true } := by
  refine forAll_at (P := fun x => point x (prm d 0xB102 e + k) = point d (prm d 0xB102 e + k))
    (Q := fun x => point x (prm d 0xB102 e + k) = { point d (prm d 0xB102 e + k) with stale := true }) hk
    (fun j x _ hj hx => ?_) (fun x hx => ?_) (fun j x _ hj hx => ?_) rfl
  · split
    · exact (tget_tput_ne _ _ _ (by omega)).trans hx
    · exact hx
  · rw [hx, if_pos hold]
    exact tget_tput_self ..
  · split
    · exact (tget_tput_ne _ _ _ (by omega)).trans hx
    · exact hx

/-- An entry that has been silent for its time is lost, with its event. -/
theorem ptnStale_lost {e : Nat} {d : Dev} (he : e < 4096) (hkind : prm d 0xB100 e ≠ 0) (hrun : busesRun d = true)
    (hsilent : max d.can.startT (ptnEnt d e).lastRx + prm d 0xB107 e * 400000 ≤ d.t) (hheard : (ptnEnt d e).lost = false) :
    ptnStale e d = raiseI 92 e (modEnt e (fun x => { x with lost := true }) (pointsStale e d)) :=
  (if_pos ⟨he, hkind, hrun⟩).trans (if_pos ⟨hsilent, ne_true_of_eq_false hheard⟩)

/-! ### Transmission -/

/-- `f` leaves what entry `e` was last sent. -/
def SentKept (e : Nat) (d f : Dev) : Prop :=
  (ptnEnt f e).sentVals = (ptnEnt d e).sentVals ∧ (ptnEnt f e).changeT = (ptnEnt d e).changeT

theorem SentKept.trans {e : Nat} {d f g : Dev} (h : SentKept e d f) (k : SentKept e f g) : SentKept e d g :=
  ⟨k.1.trans h.1, k.2.trans h.2⟩

theorem sentKept_of_ents {e : Nat} {d f : Dev} (h : f.can.ents = d.can.ents) : SentKept e d f := by
  unfold SentKept ptnEnt
  rw [h]
  exact ⟨rfl, rfl⟩

theorem sentKept_modEnt {f : PtnEnt → PtnEnt} (hf : ∀ x, (f x).sentVals = x.sentVals ∧ (f x).changeT = x.changeT) (k e : Nat)
    (d : Dev) : SentKept e d (modEnt k f d) := by
  have hent : ptnEnt (modEnt k f d) e = if e = k then f (ptnEnt d k) else ptnEnt d e := tget_tmod ..
  unfold SentKept
  rw [hent]
  split
  · rename_i h
    rw [h]
    exact hf _
  · exact ⟨rfl, rfl⟩

theorem canOvf_keeps (p : Nat) (d : Dev) : Keeps (.can :: evParts) d (canOvf p d) := by
  have hmarked : Keeps [.can] d (modPort p (fun x => { x with ovfEp := ep d + 1 }) { d with can := { d.can with ovf := true } }) :=
    (keeps_can _ d).trans (modPort_keeps p _ _)
  exact keeps_ite (fun _ => Keeps.refl _ d) (fun _ => (hmarked.mono (by decide)).andThen (raiseI_keeps _ _ _) (by decide))

theorem canOvf_sentKept (p e : Nat) (d : Dev) : SentKept e d (canOvf p d) := by
  unfold canOvf
  split
  · exact ⟨rfl, rfl⟩
  · refine sentKept_of_ents ?_
    rw [(raiseI_keeps _ _ _).can (by decide)]
    rfl

theorem cancelTx_keeps (p : Nat) (eg : Nat × Nat) (d : Dev) : Keeps [.can] d (cancelTx p eg d) := modPort_keeps p _ d

theorem queueValue_keeps (p e g idw : Nat) (bs : List Byte) (d : Dev) :
    Keeps (.can :: evParts) d (queueValue p e g idw bs d) := by
  have hcancel := (cancelTx_keeps p (e, g) d).mono (qs := .can :: evParts) (by decide)
  unfold queueValue
  refine keeps_ite (fun _ => hcancel.andThen (modPort_keeps p _ _) (by decide)) (fun _ => ?_)
  exact ((hcancel.trans ((modPort_keeps p _ _).mono (by decide))).trans ((modEnt_keeps e _ _).mono (by decide))).trans
    (canOvf_keeps p _)

theorem queueValue_sentKept (p e g idw : Nat) (bs : List Byte) (d : Dev) : SentKept e d (queueValue p e g idw bs d) := by
  have hcancel : (cancelTx p (e, g) d).can.ents = d.can.ents := rfl
  unfold queueValue
  dsimp only
  generalize cancelTx p (e, g) d = x at hcancel
  split
  · exact sentKept_of_ents hcancel
  · have hdropped : (modPort p (fun y => { y with txDrop := incSat 4294967295 y.txDrop }) x).can.ents = d.can.ents := hcancel
    generalize modPort p (fun y => { y with txDrop := incSat 4294967295 y.txDrop }) x = y at hdropped
    have hfailed : SentKept e y (modEnt e (fun z => { z with txFail := true }) y) :=
      sentKept_modEnt (f := fun z => { z with txFail := true }) (fun _ => ⟨rfl, rfl⟩) e e y
    generalize modEnt e (fun z => { z with txFail := true }) y = z at hfailed
    exact ((sentKept_of_ents hdropped).trans hfailed).trans (canOvf_sentKept p e z)

theorem sendPtn_keeps (e typ page count vtype : Nat) (bs : List Byte) (d : Dev) :
    Keeps [.can, .sent] d (sendPtn e typ page count vtype bs d) :=
  ⟨fun p hp => by cases p <;> first | rfl | exact absurd (by decide) hp⟩

theorem sendPtn_sentKept (e typ page count vtype : Nat) (bs : List Byte) (d : Dev) :
    SentKept e d (sendPtn e typ page count vtype bs d) :=
  SentKept.trans (sentKept_modEnt (f := fun x => { x with txSeq := (x.txSeq + 1) % 2 ^ 32 }) (fun _ => ⟨rfl, rfl⟩) e e d)
    (sentKept_of_ents rfl)

/-- Entry `e` has been given the fields of page `g`. -/
def pageTaken (e g : Nat) (d : Dev) : Dev := modEnt e (fun x => { x with sentVals := tput [] g (pageFields d e g) x.sentVals }) d

theorem sendPage_udp {e : Nat} {d : Dev} (h : prm d 0xB100 e = 2) (g : Nat) : sendPage e g d =
    sendPtn e 1 g ((pageFields d e g).length / typeSize (prm d 0xB112 e)) (prm d 0xB112 e) (pageFields d e g) (pageTaken e g d) :=
  if_pos h

theorem sendPage_keeps (e g : Nat) (d : Dev) : Keeps (.can :: evParts) d (sendPage e g d) := by
  have htaken : Keeps [.can] d (pageTaken e g d) := modEnt_keeps e _ d
  exact keeps_ite (fun _ => (htaken.mono (by decide)).andThen (sendPtn_keeps _ _ _ _ _ _ _) (by decide))
    (fun _ => (htaken.mono (by decide)).andThen (queueValue_keeps _ _ _ _ _ _) (by decide))

theorem sendPage_sentKept (e g : Nat) (d : Dev) : SentKept e (pageTaken e g d) (sendPage e g d) := by
  unfold sendPage
  dsimp only
  rw [← pageTaken]
  split
  · exact sendPtn_sentKept _ _ _ _ _ _ _
  · exact queueValue_sentKept _ _ _ _ _ _

theorem sendPage_sentVals (e g h : Nat) (d : Dev) : tget [] (ptnEnt (sendPage e g d) e).sentVals h =
    if h = g then pageFields d e g else tget [] (ptnEnt d e).sentVals h := by
  rw [(sendPage_sentKept e g d).1, pageTaken, ptnEnt_modEnt_self]
  exact tget_tput ..

theorem sendPage_changeT (e g : Nat) (d : Dev) : (ptnEnt (sendPage e g d) e).changeT = (ptnEnt d e).changeT := by
  rw [(sendPage_sentKept e g d).2, pageTaken, ptnEnt_modEnt_self]

/-- Every page of entry `e` is sent. -/
def pagesSent (e : Nat) (d : Dev) : Dev := forAll (pagesOf d e (prm d 0xB111 e)) (fun g x => sendPage e g x) d

theorem txPeriod_due {e : Nat} {d : Dev} (hsends : sends d e = true) (hper : prm d 0xB114 e ≠ 0) (htick : d.t % 400000 = 0)
    (hdue : (d.t / 400000 + prm d 0xB114 e * 60000 - prm d 0xB115 e) % prm d 0xB114 e = 0) : txPeriod e d = pagesSent e d :=
  if_pos ⟨hsends, hper, htick, hdue⟩

theorem pagesSent_keeps (e : Nat) (d : Dev) : Keeps (.can :: evParts) d (pagesSent e d) :=
  keeps_forAll _ _ (fun g x => sendPage_keeps e g x) d

theorem pagesSent_first {e : Nat} {d : Dev} (h : 0 < pagesOf d e (prm d 0xB111 e)) :
    tget [] (ptnEnt (pagesSent e d) e).sentVals 0 = pageFields d e 0 := by
  refine forAll_first (Q := fun x => tget [] (ptnEnt x e).sentVals 0 = pageFields d e 0) h ?_ (fun k x hk hx => ?_)
  · rw [sendPage_sentVals, if_pos rfl]
  · rw [sendPage_sentVals, if_neg hk.ne]
    exact hx

/-- Settles O50: what partners send, and what goes out to them. -/
theorem partnerTraffic : Obligations.PartnerTraffic := by
  unfold Obligations.PartnerTraffic
  refine ⟨?buffers, ?queues, ?discards, ?discardsBuffer, ?serves, ?strangers, ?datagrams, ?silence, ?periods, ?datagramOut,
    ?changes⟩
  case buffers =>
    intro s t p fr h hp hrun hlock hst hmode hfd hrtr hfind hfree
    have hfree' : tget none (canPort (rxCounted p (devAt s t)) p).hp h = none := by
      rw [rxCounted, canPort_modPort_self]
      exact hfree
    have heq := (canRx_accepts (d := devAt s t) hp hrun hlock hst hmode hfd hrtr).trans
      (acceptFrame_buffer (d := rxCounted p (devAt s t)) hfind hfree')
    have hraise := raise_keeps 89 (8 * p + h) (le 4 (frameWord fr)) (buffered p h fr (rxCounted p (devAt s t)))
    have hport : canPort (buffered p h fr (rxCounted p (devAt s t))) p = { canPort s.dev p with
        nRx := incSat 4294967295 (canPort s.dev p).nRx
        hp := tput none h (some ⟨0x200 + h, frameWord fr, fr.esi, t, fr.data⟩) (canPort s.dev p).hp } := by
      rw [buffered, canPort_modPort_self, rxCounted, canPort_modPort_self]
      rfl
    refine runs_eq rfl heq ((((modPort_keeps p _ _).trans (modPort_keeps p _ _)).mono (by decide)).andThen hraise (by decide))
      (by decide) ⟨?_, ?_, ?_, raise_pending _ _ _ _ (up_of_busesRun hrun) (by decide)⟩
    · have hbuffers : (canPort (buffered p h fr (rxCounted p (devAt s t))) p).hp =
          tput none h (some ⟨0x200 + h, frameWord fr, fr.esi, t, fr.data⟩) (canPort s.dev p).hp := by rw [hport]
      rw [canPort_of_can (hraise.can (by decide)), hbuffers, tget_tput_self]
    · rw [canPort_of_can (hraise.can (by decide)), hport]
    · exact ((otherPorts_modPort p _ (devAt s t)).trans (otherPorts_modPort p _ _)).trans
        (otherPorts_of_can (hraise.can (by decide)) p)
  case queues =>
    intro s t p fr k hp hrun hlock hst hmode hfd hrtr hnone hdecides haccepts hroom
    have hroom' : (canPort (rxCounted p (devAt s t)) p).rx.length < 128 - prm (rxCounted p (devAt s t)) 0xB00B p := by
      rw [rxCounted, canPort_modPort_self]
      exact hroom
    have heq := (canRx_accepts (d := devAt s t) hp hrun hlock hst hmode hfd hrtr).trans
      (acceptFrame_queue (d := rxCounted p (devAt s t)) (find?_range_none hnone) hdecides haccepts hroom')
    refine runs_eq rfl heq ((modPort_keeps p _ _).trans (modPort_keeps p _ _)) (by decide)
      ⟨?_, (otherPorts_modPort p _ (devAt s t)).trans (otherPorts_modPort p _ _)⟩
    rw [queuedRx, canPort_modPort_self, rxCounted, canPort_modPort_self]
    rfl
  case discards =>
    intro s t p r rs hp hrun hempty hrx hunclaimed
    have heq := (frameProcess_queue (d := devAt s t) hp hrun hempty hrx).trans
      (serveFrame_unclaimed fun e he => (claims_of_prm (d := s.dev) rfl p r e).trans (hunclaimed e he))
    refine runs_eq rfl heq ((modPort_keeps p _ _).trans (modPort_keeps p _ _)) (by decide)
      ⟨?_, (otherPorts_modPort p _ (devAt s t)).trans (otherPorts_modPort p _ _)⟩
    rw [canPort_modPort_self, canPort_modPort_self]
    rfl
  case discardsBuffer =>
    intro s t p h r hp hrun hh hempty hheld hunclaimed
    have heq := (frameProcess_buffer (d := devAt s t) hp hrun hh hempty hheld).trans
      (serveFrame_unclaimed fun e he => (claims_of_prm (d := s.dev) rfl p r e).trans (hunclaimed e he))
    refine runs_eq rfl heq ((modPort_keeps p _ _).trans (modPort_keeps p _ _)) (by decide)
      ⟨?_, (otherPorts_modPort p _ (devAt s t)).trans (otherPorts_modPort p _ _)⟩
    rw [canPort_modPort_self, canPort_modPort_self]
    rfl
  case serves =>
    intro s t p e r rs hp hrun hempty hrx hclaims hmux hcount hpage hlen
    have hfind : (List.range 4096).find? (claims (modPort p (fun y => { y with rx := rs }) (devAt s t)) p r) = some e := by
      have hsame : claims (modPort p (fun y => { y with rx := rs }) (devAt s t)) p r = claims s.dev p r :=
        funext fun k => claims_of_prm rfl p r k
      rw [hsame]
      exact hclaims
    have hmux' : prm (modPort p (fun y => { y with rx := rs }) (devAt s t)) 0xB105 e = 0 := hmux
    have hserve : serveFrame p r (modPort p (fun y => { y with rx := rs }) (devAt s t)) =
        entryFed e 0 (prm s.dev 0xB108 e) r.data r.stamp (modPort p (fun y => { y with rx := rs }) (devAt s t)) := by
      unfold serveFrame
      rw [hfind]
      dsimp only
      rw [hmux']
      rfl
    have heq := (frameProcess_queue (d := devAt s t) hp hrun hempty hrx).trans hserve
    have hport := canPort_modPort_self p (fun y => { y with rx := rs }) (devAt s t)
    have hother := otherPorts_modPort p (fun y => { y with rx := rs }) (devAt s t)
    have htaken := modPort_keeps p (fun y => { y with rx := rs }) (devAt s t)
    have hfirst := entryFed_first (d := modPort p (fun y => { y with rx := rs }) (devAt s t)) hpage hcount hlen r.stamp
    have hent := entryFed_ent e 0 (prm s.dev 0xB108 e) r.data r.stamp (modPort p (fun y => { y with rx := rs }) (devAt s t))
    have hports : (entryFed e 0 (prm s.dev 0xB108 e) r.data r.stamp
        (modPort p (fun y => { y with rx := rs }) (devAt s t))).can.ports =
        (modPort p (fun y => { y with rx := rs }) (devAt s t)).can.ports := by
      rw [entryFed_can]
      rfl
    have hfed := entryFed_keeps e 0 (prm s.dev 0xB108 e) r.data r.stamp (modPort p (fun y => { y with rx := rs }) (devAt s t))
    generalize entryFed e 0 (prm s.dev 0xB108 e) r.data r.stamp (modPort p (fun y => { y with rx := rs }) (devAt s t)) = x
      at heq hfirst hent hports hfed
    refine runs_eq rfl heq ((htaken.mono (by decide)).andThen hfed (by decide)) (by decide)
      ⟨?_, hother.trans (otherPorts_of_ports hports p), hent.1, hent.2.1, hent.2.2, hfirst⟩
    exact (by unfold canPort; rw [hports] : canPort x p = _).trans hport
  case strangers =>
    intro s t i src b hi hrun hlink hnone
    have hserved : ¬ (2 ≤ i ∨ ¬ busesRun (devAt s t) = true ∨ ¬ (tget ({} : Eth) (devAt s t).eth i).link = true) := by
      rintro (h | h | h)
      · omega
      · exact h hrun
      · exact h hlink
    have hfind : (List.range 4096).find? (fun e => prm (devAt s t) 0xB100 e = 2 && prm (devAt s t) 0xB101 e = i &&
        prm (devAt s t) 0xB130 e = src.ip && prm (devAt s t) 0xB131 e = src.port) = none :=
      find?_range_none fun e he => by
        have hno := hnone e he
        simp only [Bool.and_eq_false_iff, decide_eq_false_iff_not]
        show ((¬ prm s.dev 0xB100 e = 2 ∨ ¬ prm s.dev 0xB101 e = i) ∨ ¬ prm s.dev 0xB130 e = src.ip) ∨ ¬ prm s.dev 0xB131 e = src.port
        tauto
    have heq : ptnDatagram i src b (devAt s t) = ptnUnbound i (devAt s t) := by
      unfold ptnDatagram
      rw [if_neg hserved]
      dsimp only
      rw [hfind]
    exact runs_eq rfl heq (modPort_keeps i _ _) (by decide) ⟨canPort_modPort_self i _ (devAt s t), otherPorts_modPort i _ (devAt s t)⟩
  case datagrams =>
    intro s t i e src b hi hrun hlink hfind hmagic hver htyp hpage hcnt hvtype hres hcount hfits hlen
    have hserved : ¬ (2 ≤ i ∨ ¬ busesRun (devAt s t) = true ∨ ¬ (tget ({} : Eth) (devAt s t).eth i).link = true) := by
      rintro (h | h | h)
      · omega
      · exact h hrun
      · exact h hlink
    have hlo : 16 ≤ b.length := by omega
    have hhi : b.length ≤ 1472 := by omega
    have hhead : (16 ≤ b.length && b.length ≤ 1472 && field b 1 0 = 0x5A50 && field b 2 2 = 1 && field b 11 9 = 0 : Bool) = true := by
      simp [hlo, hhi, hmagic, hver, hres]
    have hvtype' : field b 8 8 = prm (devAt s t) 0xB104 e := hvtype
    have hfits' : field b 7 6 * typeSize (prm (devAt s t) 0xB104 e) ≤ 1456 := hfits
    have hlen' : b.length = 16 + field b 7 6 * typeSize (prm (devAt s t) 0xB104 e) := hlen
    have hvalues : ((16 ≤ b.length && b.length ≤ 1472 && field b 1 0 = 0x5A50 && field b 2 2 = 1 && field b 11 9 = 0) &&
        field b 3 3 = 1 && field b 8 8 = prm (devAt s t) 0xB104 e &&
        decide (field b 7 6 * typeSize (prm (devAt s t) 0xB104 e) ≤ 1456) &&
        b.length = 16 + field b 7 6 * typeSize (prm (devAt s t) 0xB104 e) : Bool) = true := by
      rw [hhead, decide_eq_true htyp, decide_eq_true hvtype', decide_eq_true hfits', decide_eq_true hlen']
      rfl
    have heq : ptnDatagram i src b (devAt s t) = entryFed e 0 (field b 7 6) (b.drop 16) t (devAt s t) := by
      unfold ptnDatagram
      rw [if_neg hserved]
      dsimp only
      rw [show (List.range 4096).find? (fun e => prm (devAt s t) 0xB100 e = 2 && prm (devAt s t) 0xB101 e = i &&
        prm (devAt s t) 0xB130 e = src.ip && prm (devAt s t) 0xB131 e = src.port) = some e from hfind]
      dsimp only
      rw [if_pos hvalues, hpage]
      rfl
    have hsize : typeSize (prm s.dev 0xB104 e) ≤ (b.drop 16).length := by
      rw [List.length_drop, hlen]
      have := Nat.le_mul_of_pos_left (typeSize (prm s.dev 0xB104 e)) hcnt
      omega
    have hfirst := entryFed_first (d := devAt s t) hcnt hcount hsize t
    obtain ⟨hlast, hseen, hlost⟩ := entryFed_ent e 0 (field b 7 6) (b.drop 16) t (devAt s t)
    exact runs_eq rfl heq (entryFed_keeps _ _ _ _ _ _) (by decide) ⟨hlast, hseen, hlost, hfirst.1⟩
  case silence =>
    intro s t e he hkind hrun hheard hsilent
    have heq := ptnStale_lost (d := devAt s t) he hkind hrun hsilent hheard
    have hstale := pointsStale_keeps e (devAt s t)
    have hpoint := fun k hk hold => pointsStale_point (e := e) (k := k) (d := devAt s t) hk hold
    generalize pointsStale e (devAt s t) = x at heq hstale hpoint
    have hup : (modEnt e (fun y => { y with lost := true }) x).sys.up = true := by
      show x.sys.up = true
      rw [hstale.sys (by decide)]
      exact up_of_busesRun hrun
    have hraise := raiseI_keeps 92 e (modEnt e (fun y => { y with lost := true }) x)
    refine runs_eq rfl heq (((hstale.mono (by decide)).andThen (modEnt_keeps e _ x) (by decide)).andThen hraise (by decide))
      (by decide) ⟨?_, raiseI_pending _ _ _ hup (by decide), fun k hk hold => ?_⟩
    · rw [ptnEnt_of_can (hraise.can (by decide)), ptnEnt_modEnt_self, ptnEnt_of_can (hstale.can (by decide))]
      rfl
    · rw [point_of_pts (hraise.pts (by decide))]
      exact hpoint k hk hold
  case periods =>
    intro s t e hsends hper htick hdue hpages
    have heq := txPeriod_due (d := devAt s t) hsends hper htick hdue
    exact runs_eq rfl heq (pagesSent_keeps e _) (by decide) (pagesSent_first (d := devAt s t) hpages)
  case datagramOut =>
    intro s t e hsends hper htick hdue hpages hudp
    have hone : pagesSent e (devAt s t) = sendPage e 0 (devAt s t) := by
      unfold pagesSent
      rw [show pagesOf (devAt s t) e (prm (devAt s t) 0xB111 e) = 1 from hpages]
      rfl
    have heq := ((txPeriod_due (d := devAt s t) hsends hper htick hdue).trans hone).trans (sendPage_udp (d := devAt s t) hudp 0)
    have htaken : Keeps [.can] (devAt s t) (pageTaken e 0 (devAt s t)) := modEnt_keeps e _ _
    refine runs_eq rfl heq ((htaken.mono (by decide)).andThen (sendPtn_keeps _ _ _ _ _ _ _) (by decide)) (by decide) ?_
    have hseq : (ptnEnt (pageTaken e 0 (devAt s t)) e).txSeq = (ptnEnt s.dev e).txSeq := by
      rw [pageTaken, ptnEnt_modEnt_self]
      rfl
    unfold sendPtn
    dsimp only
    rw [hseq]
    rfl
  case changes =>
    intro s t e g hsends hmode hg htick hchanged htime
    have heq : txOnChange e g (devAt s t) =
        sendPage e g (modEnt e (fun y => { y with changeT := tput 0 g t y.changeT }) (devAt s t)) :=
      if_pos ⟨hsends, hmode, hg, htick, hchanged, htime⟩
    refine runs_eq rfl heq (((modEnt_keeps e _ _).mono (by decide)).andThen (sendPage_keeps e g _) (by decide)) (by decide) ⟨?_, ?_⟩
    · rw [sendPage_sentVals, if_pos rfl]
      rfl
    · rw [sendPage_changeT, ptnEnt_modEnt_self]
      exact tget_tput_self ..

end Sys2Proof.Safety
end

section
/-!
PROOF. The CAN ports: the ends of transmissions, the error states and recovery (R397, R408 to R413).
-/
namespace Sys2Proof.Safety

open Sys2Proof.Machine

/-! ### The end of a transmission -/

/-- Frame `f` has left port `p`, counted where it was sent, and a waiting Setter record may take a reserved entry. -/
def txTaken (p : Nat) (f : CanTx) (st : CanTxResult) (d : Dev) : Dev :=
  fillReserved p (modPort p (fun y => { y with
    tx := y.tx.erase f, nTx := if st = .sent then incSat 4294967295 y.nTx else y.nTx }) d)

theorem txTaken_keeps (p : Nat) (f : CanTx) (st : CanTxResult) (d : Dev) : Keeps [.can] d (txTaken p f st d) :=
  (modPort_keeps p _ d).trans (modPort_keeps p _ _)

theorem txTaken_other (p : Nat) (f : CanTx) (st : CanTxResult) (d : Dev) : OtherPorts p d (txTaken p f st d) :=
  (otherPorts_modPort p _ d).trans (otherPorts_modPort p _ _)

theorem canPort_txTaken (p : Nat) (f : CanTx) (st : CanTxResult) (d : Dev) :
    (canPort (txTaken p f st d) p).nTx = (if st = .sent then incSat 4294967295 (canPort d p).nTx else (canPort d p).nTx) ∧
      (canPort (txTaken p f st d) p).nRx = (canPort d p).nRx ∧
      ∃ xs, (canPort (txTaken p f st d) p).tx = (canPort d p).tx.erase f ++ xs ∧
        xs ++ (canPort (txTaken p f st d) p).wait = (canPort d p).wait := by
  rw [txTaken, fillReserved, canPort_modPort_self, canPort_modPort_self]
  exact ⟨rfl, rfl, _, rfl, List.take_append_drop ..⟩

/-- The entry whose frame has failed is marked. -/
def txNoted (f : CanTx) (st : CanTxResult) (d : Dev) : Dev :=
  match f.ent with
  | some (e, _) => if st = .failed then modEnt e (fun y => { y with txFail := true }) d else d
  | none => d

theorem txNoted_ok {f : CanTx} {st : CanTxResult} (h : st ≠ .failed) (d : Dev) : txNoted f st d = d := by
  unfold txNoted
  split
  · exact if_neg h
  · rfl

theorem txNoted_failed {f : CanTx} {e g : Nat} (h : f.ent = some (e, g)) (d : Dev) :
    txNoted f .failed d = modEnt e (fun y => { y with txFail := true }) d := by
  unfold txNoted
  rw [h]
  exact if_pos rfl

/-- The frame `f` as the port's own receive path sees it in loopback. -/
def loopFrame (f : CanTx) : CanFrame :=
  ⟨f.idw % 2 ^ 29, bit f.idw 29, bit f.idw 30, bit f.idw 31, false, false, f.data⟩

theorem canTxDone_eq {p : Nat} {f : CanTx} {st : CanTxResult} {d : Dev} (hp : p < 12) (hst : (canPort d p).st < 2)
    (hlock : locked d 0 = true) (hsends : listenOnly d p = false) (hnext : nextTx (canPort d p).tx = some f)
    (hcancel : st = .cancelled → f.cancel = true) :
    canTxDone p st d = if st = .sent ∧ prm d 0xB000 p = 3 then
      acceptFrame p (loopFrame f) (rxCounted p (txNoted f st (txTaken p f st d))) else txNoted f st (txTaken p f st d) := by
  have hserved : ¬ (12 ≤ p ∨ (canPort d p).st = 2 ∨ (canPort d p).st = 3 ∨ ¬ locked d 0 = true ∨ listenOnly d p = true) := by
    rintro (h | h | h | h | h)
    · omega
    · omega
    · omega
    · exact h hlock
    · exact ne_true_of_eq_false hsends h
  have hasked : ¬ (st = .cancelled ∧ ¬ f.cancel = true) := fun h => h.2 (hcancel h.1)
  unfold canTxDone
  dsimp only
  rw [if_neg hserved, hnext]
  dsimp only
  rw [if_neg hasked]
  rfl

theorem sends_of_loopback {d : Dev} {p : Nat} (h : prm d 0xB000 p = 3) : listenOnly d p = false := by
  unfold listenOnly
  rw [h]
  simp

/-! ### The receive path in loopback -/

/-- `e` differs from `d` in what port `p` holds alone, and its counters are as they were. -/
structure CountsKept (p : Nat) (d e : Dev) : Prop where
  other : OtherPorts p d e
  nTx : (canPort e p).nTx = (canPort d p).nTx
  nRx : (canPort e p).nRx = (canPort d p).nRx

theorem CountsKept.refl (p : Nat) (d : Dev) : CountsKept p d d := ⟨fun _ _ => rfl, rfl, rfl⟩

theorem CountsKept.trans {p : Nat} {d e f : Dev} (h : CountsKept p d e) (k : CountsKept p e f) : CountsKept p d f :=
  ⟨h.other.trans k.other, k.nTx.trans h.nTx, k.nRx.trans h.nRx⟩

theorem countsKept_modPort {p : Nat} {f : CanPort → CanPort} (hf : ∀ x, (f x).nTx = x.nTx ∧ (f x).nRx = x.nRx) (d : Dev) :
    CountsKept p d (modPort p f d) := by
  refine ⟨otherPorts_modPort p f d, ?_, ?_⟩ <;> rw [canPort_modPort_self]
  · exact (hf _).1
  · exact (hf _).2

theorem countsKept_of_ports {p : Nat} {d e : Dev} (h : e.can.ports = d.can.ports) : CountsKept p d e := by
  have hport : canPort e p = canPort d p := by
    unfold canPort
    rw [h]
  exact ⟨otherPorts_of_ports h p, by rw [hport], by rw [hport]⟩

theorem canOvf_counts (p : Nat) (d : Dev) : CountsKept p d (canOvf p d) := by
  unfold canOvf
  split
  · exact .refl p d
  · have hmarked : CountsKept p d { d with can := { d.can with ovf := true } } := countsKept_of_ports rfl
    generalize ({ d with can := { d.can with ovf := true } } : Dev) = x at hmarked
    have hepoch := countsKept_modPort (p := p) (f := fun y => { y with ovfEp := ep d + 1 }) (fun _ => ⟨rfl, rfl⟩) x
    exact (hmarked.trans hepoch).trans (countsKept_of_ports (by rw [(raiseI_keeps _ _ _).can (by decide)]))

theorem rxLost_counts (p : Nat) (d : Dev) : CountsKept p d (rxLost p d) :=
  (countsKept_modPort (f := fun x => { x with rxLost := incSat 4294967295 x.rxLost }) (fun _ => ⟨rfl, rfl⟩) d).trans
    (canOvf_counts p _)

theorem rxLost_keeps (p : Nat) (d : Dev) : Keeps (.can :: evParts) d (rxLost p d) :=
  ((modPort_keeps p _ d).mono (by decide)).trans (canOvf_keeps p _)

/-- A place in the queue of port `p` for a frame that element `k` decided, or the count of its loss. -/
def rxQueued (p k : Nat) (fr : CanFrame) (d : Dev) : Dev :=
  if (canPort d p).rx.length < 128 - prm d 0xB00B p then queuedRx p k fr d else rxLost p d

theorem rxQueued_counts (p k : Nat) (fr : CanFrame) (d : Dev) : CountsKept p d (rxQueued p k fr d) := by
  unfold rxQueued
  split
  · exact countsKept_modPort (f := fun x => { x with rx := x.rx ++ [heldFrame k fr d] }) (fun _ => ⟨rfl, rfl⟩) d
  · exact rxLost_counts p d

theorem rxQueued_keeps (p k : Nat) (fr : CanFrame) (d : Dev) : Keeps (.can :: evParts) d (rxQueued p k fr d) :=
  keeps_ite (fun _ => (modPort_keeps p _ d).mono (by decide)) (fun _ => rxLost_keeps p d)

/-- What the receive path does with a frame: nothing, a loss, a buffer with its event, or the queue. -/
theorem acceptFrame_cases (p : Nat) (fr : CanFrame) (d : Dev) : acceptFrame p fr d = d ∨ acceptFrame p fr d = rxLost p d ∨
    (∃ h, acceptFrame p fr d = raise 89 (8 * p + h) (le 4 (frameWord fr)) (buffered p h fr d)) ∨
    ∃ k, acceptFrame p fr d = rxQueued p k fr d := by
  unfold acceptFrame
  dsimp only
  split
  · split
    · exact .inr (.inl rfl)
    · exact .inr (.inr (.inl ⟨_, rfl⟩))
  · split
    · split
      · exact .inr (.inr (.inr ⟨_, rfl⟩))
      · exact .inl rfl
    · split
      · exact .inr (.inr (.inr ⟨_, rfl⟩))
      · exact .inl rfl

theorem acceptFrame_keeps (p : Nat) (fr : CanFrame) (d : Dev) : Keeps (.can :: evParts) d (acceptFrame p fr d) := by
  rcases acceptFrame_cases p fr d with h | h | ⟨k, h⟩ | ⟨k, h⟩ <;> rw [h]
  · exact Keeps.refl _ d
  · exact rxLost_keeps p d
  · exact ((modPort_keeps p _ d).mono (by decide)).andThen (raise_keeps _ _ _ _) (by decide)
  · exact rxQueued_keeps p k fr d

theorem acceptFrame_counts (p : Nat) (fr : CanFrame) (d : Dev) : CountsKept p d (acceptFrame p fr d) := by
  rcases acceptFrame_cases p fr d with h | h | ⟨k, h⟩ | ⟨k, h⟩ <;> rw [h]
  · exact .refl p d
  · exact rxLost_counts p d
  · have hbuffered : CountsKept p d (buffered p k fr d) :=
      countsKept_modPort (f := fun x => { x with hp := tput none k (some (heldFrame (0x200 + k) fr d)) x.hp }) (fun _ => ⟨rfl, rfl⟩) d
    exact hbuffered.trans (countsKept_of_ports (by rw [(raise_keeps _ _ _ _).can (by decide)]))
  · exact rxQueued_counts p k fr d

/-! ### The error states -/

/-- The error counters of port `p` have moved. -/
def errCounted (p tec rec_ lec : Nat) (d : Dev) : Dev :=
  modPort p (fun y => { y with tec := min 255 tec, rec_ := min 255 rec_, lec := lec % 8 }) d

/-- Port `p` goes to error state `st`. -/
def errState (p st : Nat) (d : Dev) : Dev := modPort p (fun y => { y with st := st }) d

/-- Port `p` goes bus-off at this tick. -/
def busOff (p : Nat) (d : Dev) : Dev := modPort p (fun y => { y with st := 2, recov := false, boffT := d.t }) d

section
variable {p tec rec_ lec : Nat} {d : Dev} (hp : p < 12) (hst : (canPort d p).st < 2) (hrun : busesRun d = true)
  (hlock : locked d 0 = true) (hmode : prm d 0xB000 p ≠ 3)
include hp hst hrun hlock hmode

theorem busError_served : ¬ (12 ≤ p ∨ (canPort d p).st = 2 ∨ (canPort d p).st = 3 ∨ ¬ busesRun d = true ∨ ¬ locked d 0 = true ∨
    prm d 0xB000 p = 3) := by
  rintro (h | h | h | h | h | h)
  · omega
  · omega
  · omega
  · exact h hrun
  · exact h hlock
  · exact hmode h

theorem busError_listens (hlisten : listenOnly d p = true) :
    busError p tec rec_ lec d = modPort p (fun y => { y with lec := lec % 8 }) d :=
  (if_neg (busError_served hp hst hrun hlock hmode)).trans (if_pos hlisten)

theorem busError_off (hsends : listenOnly d p = false) (htec : 255 < tec) :
    busError p tec rec_ lec d = raiseI 88 p (busOff p (errCounted p tec rec_ lec d)) :=
  (if_neg (busError_served hp hst hrun hlock hmode)).trans ((if_neg (ne_true_of_eq_false hsends)).trans (if_pos htec))

theorem busError_passive (hsends : listenOnly d p = false) (hactive : (canPort d p).st = 0) (htec : tec ≤ 255)
    (hpassive : 127 < tec ∨ 127 < rec_) :
    busError p tec rec_ lec d = raiseI 90 p (errState p 1 (errCounted p tec rec_ lec d)) :=
  (if_neg (busError_served hp hst hrun hlock hmode)).trans ((if_neg (ne_true_of_eq_false hsends)).trans
    ((if_neg (Nat.not_lt.mpr htec)).trans ((if_pos hpassive).trans (if_pos hactive))))

theorem busError_active (hsends : listenOnly d p = false) (htec : tec ≤ 127) (hrec : rec_ ≤ 127) :
    busError p tec rec_ lec d = errState p 0 (errCounted p tec rec_ lec d) := by
  have hactive : ¬ (127 < tec ∨ 127 < rec_) := by omega
  exact (if_neg (busError_served hp hst hrun hlock hmode)).trans ((if_neg (ne_true_of_eq_false hsends)).trans
    ((if_neg (by omega)).trans (if_neg hactive)))

end

theorem errState_counted_keeps (p st tec rec_ lec : Nat) (d : Dev) : Keeps [.can] d (errState p st (errCounted p tec rec_ lec d)) :=
  (modPort_keeps p _ d).trans (modPort_keeps p _ _)

theorem canPort_errState (p st tec rec_ lec : Nat) (d : Dev) : canPort (errState p st (errCounted p tec rec_ lec d)) p =
    { canPort d p with tec := min 255 tec, rec_ := min 255 rec_, lec := lec % 8, st := st } := by
  rw [errState, canPort_modPort_self, errCounted, canPort_modPort_self]

theorem otherPorts_errState (p st tec rec_ lec : Nat) (d : Dev) : OtherPorts p d (errState p st (errCounted p tec rec_ lec d)) :=
  (otherPorts_modPort p _ d).trans (otherPorts_modPort p _ _)

/-! ### Recovery -/

theorem startRecov_keeps (p : Nat) (d : Dev) : Keeps [.can] d (startRecov p d) := modPort_keeps p _ d

theorem startRecov_port {p : Nat} {d : Dev} (h : (canPort d p).recov = false) :
    canPort (startRecov p d) p = { canPort d p with recov := true, recT := d.t } := by
  rw [startRecov, canPort_modPort_self]
  exact if_neg (ne_true_of_eq_false h)

/-- Settles O51: the ends of transmissions, the error states, and recovery. -/
theorem canPorts : Obligations.CanPorts := by
  unfold Obligations.CanPorts
  refine ⟨?sent, ?failed, ?loopback, ?cancelled, ?listens, ?active, ?passive, ?off, ?waits, ?recovers, ?refuses, ?recovered⟩
  case sent =>
    intro s t p f hp hst hlock hnext hmode hsends
    have heq : canTxDone p .sent (devAt s t) = txTaken p f .sent (devAt s t) := by
      rw [canTxDone_eq (st := .sent) (d := devAt s t) hp hst hlock hsends hnext (fun h => nomatch h),
        if_neg (fun h => hmode h.2), txNoted_ok (by decide)]
    obtain ⟨hcount, -, htx⟩ := canPort_txTaken p f .sent (devAt s t)
    exact runs_eq rfl heq (txTaken_keeps _ _ _ _) (by decide) ⟨hcount, htx, txTaken_other p f .sent (devAt s t)⟩
  case failed =>
    intro s t p e g f hp hst hlock hnext hent hsends
    have heq : canTxDone p .failed (devAt s t) =
        modEnt e (fun y => { y with txFail := true }) (txTaken p f .failed (devAt s t)) := by
      rw [canTxDone_eq (st := .failed) (d := devAt s t) hp hst hlock hsends hnext (fun h => nomatch h),
        if_neg (fun h => nomatch h.1), txNoted_failed hent]
    obtain ⟨hcount, -⟩ := canPort_txTaken p f .failed (devAt s t)
    refine runs_eq rfl heq ((txTaken_keeps _ _ _ _).trans (modEnt_keeps e _ _)) (by decide) ⟨hcount, ?_, ?_⟩
    · rw [ptnEnt_modEnt_self]
      rfl
    · exact (txTaken_other p f .failed (devAt s t)).trans (otherPorts_of_ports rfl p)
  case loopback =>
    intro s t p f hp hst hlock hnext hmode
    have hsends : listenOnly (devAt s t) p = false := sends_of_loopback hmode
    have heq : canTxDone p .sent (devAt s t) = acceptFrame p (loopFrame f) (rxCounted p (txTaken p f .sent (devAt s t))) := by
      rw [canTxDone_eq (st := .sent) (d := devAt s t) hp hst hlock hsends hnext (fun h => nomatch h),
        if_pos (show CanTxResult.sent = .sent ∧ prm (devAt s t) 0xB000 p = 3 from ⟨rfl, hmode⟩), txNoted_ok (by decide)]
    obtain ⟨hcount, hrx, -⟩ := canPort_txTaken p f .sent (devAt s t)
    have htaken := txTaken_keeps p f .sent (devAt s t)
    have hother := txTaken_other p f .sent (devAt s t)
    generalize txTaken p f .sent (devAt s t) = x at heq hcount hrx htaken hother
    have haccept := acceptFrame_counts p (loopFrame f) (rxCounted p x)
    have hport := canPort_modPort_self p (fun y => { y with nRx := incSat 4294967295 y.nRx }) x
    refine runs_eq rfl heq (((htaken.mono (by decide)).andThen (modPort_keeps p _ x) (by decide)).andThen (acceptFrame_keeps _ _ _)
      (by decide)) (by decide) ⟨?_, ?_, (hother.trans (otherPorts_modPort p _ x)).trans haccept.other⟩
    · rw [haccept.nTx, rxCounted, hport]
      exact hcount
    · rw [haccept.nRx, rxCounted, hport]
      exact congrArg (incSat 4294967295) hrx
  case cancelled =>
    intro s t p f hp hst hlock hnext hsends hcancel
    have heq : canTxDone p .cancelled (devAt s t) = txTaken p f .cancelled (devAt s t) := by
      rw [canTxDone_eq (d := devAt s t) hp hst hlock hsends hnext (fun _ => hcancel),
        if_neg (fun h => nomatch h.1), txNoted_ok (by decide)]
    obtain ⟨hcount, -, htx⟩ := canPort_txTaken p f .cancelled (devAt s t)
    exact runs_eq rfl heq (txTaken_keeps _ _ _ _) (by decide) ⟨hcount, htx, txTaken_other p f .cancelled (devAt s t)⟩
  case listens =>
    intro s t p tec rec_ lec hp hst hrun hlock hlisten
    have hmode : prm s.dev 0xB000 p ≠ 3 := fun h => ne_true_of_eq_false (sends_of_loopback h) hlisten
    exact runs_eq rfl (busError_listens (d := devAt s t) hp hst hrun hlock hmode hlisten) (modPort_keeps p _ _) (by decide)
      ⟨canPort_modPort_self p _ (devAt s t), otherPorts_modPort p _ (devAt s t)⟩
  case active =>
    intro s t p tec rec_ lec hp hst hrun hlock hsends hmode htec hrec
    refine runs_eq rfl (busError_active (lec := lec) (d := devAt s t) hp hst hrun hlock hmode hsends htec hrec)
      (errState_counted_keeps _ _ _ _ _ _) (by decide) ⟨?_, otherPorts_errState p 0 tec rec_ lec (devAt s t)⟩
    rw [canPort_errState, Nat.min_eq_right (by omega : tec ≤ 255), Nat.min_eq_right (by omega : rec_ ≤ 255)]
    rfl
  case passive =>
    intro s t p tec rec_ lec hp hactive hrun hlock hsends hmode htec hpassive
    have hst : (canPort (devAt s t) p).st < 2 := by
      have hzero : (canPort (devAt s t) p).st = 0 := hactive
      omega
    have hraise := raiseI_keeps 90 p (errState p 1 (errCounted p tec rec_ lec (devAt s t)))
    refine runs_eq rfl (busError_passive (lec := lec) (d := devAt s t) hp hst hrun hlock hmode hsends hactive htec hpassive)
      (((errState_counted_keeps _ _ _ _ _ _).mono (by decide)).andThen hraise (by decide)) (by decide)
      ⟨?_, ?_, ?_, ?_, raiseI_pending _ _ _ (up_of_busesRun hrun) (by decide)⟩
    · rw [canPort_of_can (hraise.can (by decide)), canPort_errState]
    · rw [canPort_of_can (hraise.can (by decide)), canPort_errState]
      exact Nat.min_eq_right htec
    · rw [canPort_of_can (hraise.can (by decide)), canPort_errState]
    · exact (otherPorts_errState p 1 tec rec_ lec (devAt s t)).trans (otherPorts_of_can (hraise.can (by decide)) p)
  case off =>
    intro s t p tec rec_ lec hp hst hrun hlock hsends hmode htec
    have hraise := raiseI_keeps 88 p (busOff p (errCounted p tec rec_ lec (devAt s t)))
    have hport := canPort_modPort_self p (fun y => { y with st := 2, recov := false, boffT := t }) (errCounted p tec rec_ lec (devAt s t))
    refine runs_eq rfl (busError_off (lec := lec) (d := devAt s t) hp hst hrun hlock hmode hsends htec)
      ((((modPort_keeps p _ _).trans (modPort_keeps p _ _)).mono (by decide)).andThen hraise (by decide)) (by decide)
      ⟨?_, ?_, ?_, ?_, raiseI_pending _ _ _ (up_of_busesRun hrun) (by decide)⟩
    · rw [canPort_of_can (hraise.can (by decide))]
      exact congrArg CanPort.st hport
    · rw [canPort_of_can (hraise.can (by decide))]
      exact congrArg CanPort.recov hport
    · rw [canPort_of_can (hraise.can (by decide))]
      exact congrArg CanPort.boffT hport
    · exact ((otherPorts_modPort p _ (devAt s t)).trans (otherPorts_modPort p _ _)).trans
        (otherPorts_of_can (hraise.can (by decide)) p)
  case waits =>
    intro s t p hp hst hrecov hauto hdue
    have heq : boffWait p (devAt s t) = startRecov p (devAt s t) := if_pos ⟨hp, hst, ne_true_of_eq_false hrecov, hauto, hdue⟩
    exact runs_eq rfl heq (startRecov_keeps _ _) (by decide)
      ⟨startRecov_port (d := devAt s t) hrecov, otherPorts_modPort p _ (devAt s t)⟩
  case recovers =>
    intro s t cls p hs hp hst hrecov
    have hst' : (canPort (devAt s t) p).st = 2 := hst
    have heq : immediate cls 1 (canRecover p) (devAt s t) = answer 0 0 (startRecov p (devAt s t)) := by
      rw [immediate_of_served (d := devAt s t) hs, canRecover, if_neg (Nat.not_le.mpr hp), if_neg (not_not_intro hst')]
    exact runs_eq rfl heq (((startRecov_keeps _ _).mono (by decide)).andThen (answer_keeps _ _ _) (by decide)) (by decide)
      ⟨answered_answer _ _ _, startRecov_port (d := devAt s t) hrecov, otherPorts_modPort p _ (devAt s t)⟩
  case refuses =>
    intro s t cls p hs hp hst
    have hst' : (canPort (devAt s t) p).st ≠ 2 := hst
    have heq : immediate cls 1 (canRecover p) (devAt s t) = refuseOpen (devAt s t) := by
      rw [immediate_of_served (d := devAt s t) hs, canRecover, if_neg (Nat.not_le.mpr hp), if_pos hst']
    exact runs_eq rfl heq (((takeFree_keeps _).mono (by decide)).andThen (answer_keeps _ _ _) (by decide)) (by decide) rfl
  case recovered =>
    intro s t p hp hst hrecov hdue
    have heq : recoveryDone p (devAt s t) = _ := if_pos ⟨hp, hst, hrecov, hdue⟩
    exact runs_eq rfl heq (modPort_keeps p _ _) (by decide)
      ⟨canPort_modPort_self p _ (devAt s t), otherPorts_modPort p _ (devAt s t)⟩

end Sys2Proof.Safety
end

section
/-!
PROOF. The lanes and links (R430, R433, R444): the statement about them fails, on a state that is written out here.
-/
namespace Sys2Proof.Safety

open Sys2Proof.Machine

/-- A device with a 1588 port on a link that is up, whose network time is not valid while Charm still counts it as good and
probes, with a probe of 1 that lands at the next tick. -/
def probedLink : State :=
  { State.reset with dev := { State.reset.dev with
      sys := { State.reset.dev.sys with up := true }
      eth := [(0, { link := true })]
      prm := { State.reset.dev.prm with active := [(pkey 0xC040 0, 1), (pkey 0xC046 0, 1)] }
      charm := { State.reset.dev.charm with timeOk := true, active := true, eNext := 1 } } }

theorem probedLink_drops : (linkDown 0 (devAt probedLink 0)).gs.landQ ≠ probedLink.dev.gs.landQ := by decide +kernel

/-- Refutes O52: a link that goes down takes the good time of Charm away, which stops the probe (R242), and what would have
landed at the next tick loses it: the grid's setpoint changes, which is not among the parts that the statement lets change. -/
theorem not_lanesAndLinks : ¬ Obligations.LanesAndLinks := by
  unfold Obligations.LanesAndLinks
  rintro ⟨-, -, -, -, hdown, -⟩
  obtain ⟨hkeeps, -⟩ := post_of_runs (f := linkDown 0) rfl
    (hdown probedLink 0 0 (by decide) rfl rfl (by decide +kernel) (by decide +kernel))
  exact probedLink_drops (congrArg Gs.landQ (hkeeps.gs (by decide)))

end Sys2Proof.Safety
end

section
/-!
PROOF. The 1588 ports (R439, R449): the statement about them fails, on a state that is written out here.
-/
namespace Sys2Proof.Safety

open Sys2Proof.Machine

theorem probedLink_noMaster : portBest (devAt probedLink 0) 0 = none := by decide +kernel

theorem probedLink_silenced :
    (announceTimeout 0 (devAt probedLink 0)).gs.landQ ≠ probedLink.dev.gs.landQ := by decide +kernel

/-- Refutes O53: a 1588 port that hears no master any longer judges network time anew, and where that is not valid, the good
time of Charm goes and its probe stops (R242): the grid's setpoint that lands next changes, which is not among the parts that
the statement lets change at the end of the time for Announces. -/
theorem not_ptpPorts : ¬ Obligations.PtpPorts := by
  unfold Obligations.PtpPorts
  rintro ⟨-, -, -, -, hsilent, -⟩
  obtain ⟨hkeeps, -⟩ := post_of_runs (f := announceTimeout 0) rfl
    (hsilent probedLink 0 0 (by decide +kernel) probedLink_noMaster)
  exact probedLink_silenced (congrArg Gs.landQ (hkeeps.gs (by decide)))

end Sys2Proof.Safety
end

section
/-!
PROOF. Steps of network time (R443): the statement about them fails, on a state that is written out here.
-/
namespace Sys2Proof.Safety

open Sys2Proof.Machine

/-- The device after a command is what its function makes of the device at its tick. -/
theorem dev_of_next {c : Instr} {t : Nat} {s s' : State} {f : Dev → Dev} (he : exec c s = lift t f s)
    (hexec : exec c s = .next s') : s'.dev = f (devAt s t) := by
  rw [he, lift] at hexec
  injection hexec with h
  exact (congrArg State.dev h).symm

/-- A device in READY whose Facet 0 has a conversion under way that brings a landed set of positions into force (R46), with a
written time that acts at the next epoch tick. -/
def scannedStep : State :=
  { State.reset with dev := { State.reset.dev with
      sys := { State.reset.dev.sys with st := .ready, up := true }
      acq := { State.reset.dev.acq with facets := [(0, { due := [⟨0, 5, false, [(pkey 0x1001 0, some 3)]⟩] })] }
      time := { State.reset.dev.time with setPend := some 0 } } }

theorem scannedStep_before : prm scannedStep.dev 0x1001 0 ≠ 3 := by decide +kernel

theorem scannedStep_after : prm (clockStep (devAt scannedStep 0)) 0x1001 0 = 3 := by decide +kernel

/-- Refutes O54: a step of the clock ends the conversions that are under way, and the values that came with them come into
force at once: a parameter changes, which the statement says a step leaves. -/
theorem not_timeOfDay : ¬ Obligations.TimeOfDay := by
  unfold Obligations.TimeOfDay
  rintro ⟨hset, -⟩
  obtain ⟨s', hexec, -, ⟨-, -, hkeeps⟩, -⟩ := hset scannedStep 0 0 rfl rfl rfl rfl
  have hdev : s'.dev = clockStep (devAt scannedStep 0) := dev_of_next rfl hexec
  rw [hdev] at hkeeps
  exact scannedStep_before ((prm_of_prm (hkeeps.prm (by decide)) 0x1001 0).symm.trans scannedStep_after)

end Sys2Proof.Safety
end

section
/-!
PROOF. Who drives (R464, R465): the statement about it fails, on a state that is written out here.
-/
namespace Sys2Proof.Safety

open Sys2Proof.Machine

/-- A synced standby whose peer in RIDE has declared a fault while it probed, with a probe of 1 that lands at the next tick. -/
def probedTakeover : State :=
  { State.reset with dev := { State.reset.dev with
      sys := { State.reset.dev.sys with st := .sync, up := true, standby := true }
      prm := { State.reset.dev.prm with active := [(pkey 0xD004 0, 1), (pkey 0xE100 0, 0)] }
      pnd := { State.reset.dev.pnd with synced := true, mirror := .ride, peerFault := true, takeT := some 0 }
      charm := { State.reset.dev.charm with peer := true, eNext := 1 } } }

theorem probedTakeover_drops : (takeover (devAt probedTakeover 1)).gs.landQ ≠ probedTakeover.dev.gs.landQ := by decide +kernel

/-- Refutes O57: a takeover into RIDE ends the probe that the standby would have gone on with (R235), and what would have
landed at the next tick loses it: the grid's setpoint changes, which the statement says a takeover leaves. -/
theorem not_pairDrives : ¬ Obligations.PairDrives := by
  unfold Obligations.PairDrives
  rintro ⟨htake, -⟩
  obtain ⟨hkeeps, -⟩ := post_of_runs (f := takeover) rfl
    (htake probedTakeover 1 (by decide +kernel) rfl (by decide +kernel))
  exact probedTakeover_drops (congrArg Gs.landQ (hkeeps.gs (by decide)))

end Sys2Proof.Safety
end

section
/-!
PROOF. Forming and ending a Pendant pair, and its heartbeat (R454, R455, R457, R464, R472).
-/
namespace Sys2Proof.Safety

open Sys2Proof.Machine

/-! ### Entries into READY -/

/-- An entry into READY cuts no calibration off (R54, R364). -/
theorem calAbort_all (d : Dev) : calAbort (fun _ => true) d = d := by
  unfold calAbort
  cases hz : d.acq.calZero <;> cases hf : d.acq.calFull <;> simp [hf]

/-- What leaves the mailbox but its datagrams alone keeps the completions and the long commands. -/
theorem answers_of_keeps {ps : List Part} {d e : Dev} (h : Keeps ps d e) (hmbx : Part.mbx ∉ ps) :
    e.mbx.done = d.mbx.done ∧ e.mbx.long = d.mbx.long := by
  rw [h.mbxSent hmbx]
  exact ⟨rfl, rfl⟩

/-- An entry into READY answers no command. -/
theorem transition_ready_answers (c : Nat) (d : Dev) :
    (transition .ready c d).mbx.done = d.mbx.done ∧ (transition .ready c d).mbx.long = d.mbx.long := by
  by_cases hstop : d.hold.warned = true ∧ OpState.ready ≠ .clasp
  · rw [transition, if_pos hstop]
    exact ⟨rfl, rfl⟩
  · unfold transition
    rw [if_neg hstop]
    dsimp only
    have hall : calAbort (fun _ => OpState.ready = .ready || OpState.ready = .service) = fun e => e := funext calAbort_all
    rw [hall]
    refine answers_of_keeps (ps := trParts.filter (· ≠ .mbx)) ?_ (by decide)
    refine Keeps.trans ?_ ((enterState_keeps _ _).mono (by decide))
    refine Keeps.trans ?_ ((raise_keeps _ _ _ _).mono (by decide))
    exact (((probeState_keeps .ready d).mono (by decide)).trans ((leaveState_keeps _).mono (by decide))).trans
      ((keeps_sys _ _).mono (by decide))

/-! ### The operations of a pair -/

theorem control_keeps (k a b : Nat) (d : Dev) : Keeps [.chain] d (Machine.control k a b d) :=
  keeps_ite (fun _ => keeps_chain _ d) (fun _ => Keeps.refl _ d)

theorem setSynced_keeps (v : Bool) (d : Dev) : Keeps (.pnd :: evParts) d (setSynced v d) := by
  unfold setSynced
  exact keeps_ite (fun _ => Keeps.refl _ d) (fun _ =>
    ((keeps_pnd _ d).mono (by decide)).trans ((raiseI_keeps _ _ _).mono (by decide)))

theorem unpair_keeps (d : Dev) : Keeps (.pnd :: evParts) d (unpair d) :=
  (setSynced_keeps false d).trans ((keeps_pnd _ _).mono (by decide))

/-- A pair that ends leaves the device alone, whether it was synced or not (R457). -/
theorem unpair_pnd (d : Dev) : (unpair d).pnd = pndAlone d.pnd := by
  unfold unpair setSynced
  split
  · rfl
  · show pndAlone (raiseI 106 0 _).pnd = _
    rw [raiseI_pnd]
    rfl

theorem pndLost_keeps (d : Dev) : Keeps evParts d (pndLost d) :=
  keeps_ite (fun _ => raiseI_keeps _ _ _) (fun _ => Keeps.refl _ d)

theorem pndLost_pending {d : Dev} (hs : d.sys.standby = true) (hup : d.sys.up = true) : Pending 104 (pndLost d) := by
  rw [pndLost, if_pos hs]
  exact raiseI_pending 104 0 d hup (by decide)

theorem tryForm_alone {d : Dev} (h : d.pnd.hello = none) : tryForm d = d := by
  unfold tryForm
  have hno : peerOffers d = false := by rw [peerOffers, h]
  exact if_neg (fun hgo => ne_true_of_eq_false hno hgo.2.2.1)

/-- What a hello of the peer tells. -/
def greeted (g v a o : Nat) (d : Dev) : Dev := { d with pnd := { d.pnd with hello := some (g, v, a, o), mirver := v } }

theorem helloRx_eq {d : Dev} (h : pndLink d = true) (g v a o : Nat) : helloRx g v a o d = tryForm (greeted g v a o d) := if_pos h

/-- A device that offers nothing forms no pair. -/
theorem tryForm_unoffered {d : Dev} (h : d.pnd.offer = 0) : tryForm d = d := if_neg (fun hgo => hgo.1 h)

/-- The standby of a pair that forms (R455). -/
def formedStandby (d : Dev) : Dev :=
  { d with
    pnd := { d.pnd with role := d.pnd.offer, formed := true, xfer := true, xferPct := 0, fault := false, taken := false,
                        synced := false, syncRun := 0, oustedHold := false }
    sys := { d.sys with standby := true } }

theorem tryForm_standby {d : Dev} (hform : d.pnd.offer ≠ 0 ∧ ¬ d.pnd.formed ∧ peerOffers d ∧ digestOk d ∧ peerMirver d ∧
    pndLink d ∧ pairCheck d) (hoffer : d.pnd.offer = 2) (hready : d.sys.st = .ready ∧ syncRefusal d = none) :
    tryForm d = transition .sync 0x05 (formedStandby d) := by
  unfold tryForm
  rw [if_pos hform]
  exact (if_pos hoffer).trans (if_pos hready)

theorem formedStandby_keeps (d : Dev) : Keeps [.pnd, .sys] d (formedStandby d) :=
  ⟨fun p hp => by cases p <;> first | rfl | exact absurd (by decide) hp⟩

/-- What a hello may touch where the pair forms with this device as the standby (R455). -/
theorem paired_runs (s : State) (t v a : Nat) (hlink : pndLink s.dev = true) (hoffer : s.dev.pnd.offer = 2)
    (hformed : s.dev.pnd.formed = false) (hver : mirverOk v = true) (hcheck : pairCheck s.dev = true)
    (hready : s.dev.sys.st = .ready) (hsync : syncRefusal s.dev = none) (hwarned : s.dev.hold.warned = false) :
    Runs (.pndHelloRx t (prm s.dev 0xD001 0) v a 1) t s (.pnd :: trParts) (fun d =>
      d.sys.st = .sync ∧ d.sys.cause = 0x05 ∧ d.sys.standby = true ∧ d.pnd.role = 2 ∧ d.pnd.formed = true ∧
        d.pnd.xfer = true) := by
  have hform : ∀ e, e = greeted (prm s.dev 0xD001 0) v a 1 (devAt s t) → e.pnd.offer ≠ 0 ∧ ¬ e.pnd.formed ∧ peerOffers e ∧
      digestOk e ∧ peerMirver e ∧ pndLink e ∧ pairCheck e := by
    rintro e rfl
    refine ⟨?_, ne_true_of_eq_false hformed, ?_, ?_, hver, hlink, hcheck⟩
    · show s.dev.pnd.offer ≠ 0
      rw [hoffer]
      decide
    · show decide (1 = 3 - s.dev.pnd.offer) = true
      rw [hoffer]
      rfl
    · exact decide_eq_true rfl
  have heq := (helloRx_eq (d := devAt s t) hlink (prm s.dev 0xD001 0) v a 1).trans
    (tryForm_standby (hform _ rfl) hoffer ⟨hready, hsync⟩)
  have hkeeps := transition_keeps .sync 0x05 (formedStandby (greeted (prm s.dev 0xD001 0) v a 1 (devAt s t)))
  have hpnd := hkeeps.pnd (by decide)
  have hsys := transition_sys (target := .sync)
    (d := formedStandby (greeted (prm s.dev 0xD001 0) v a 1 (devAt s t))) 0x05 (.inl hwarned)
  refine runs_eq rfl heq ?_ (by decide) ⟨?_, ?_, ?_, ?_, ?_, ?_⟩
  · exact ((keeps_pnd _ _).mono (by decide)).trans (((formedStandby_keeps _).mono (by decide)).trans (hkeeps.mono (by decide)))
  · rw [hsys]
  · rw [hsys]
  · rw [hsys]
    show (leaveState _).sys.standby = true
    have hst : (probeState .sync (formedStandby (greeted (prm s.dev 0xD001 0) v a 1 (devAt s t)))).sys = _ :=
      (probeState_keeps .sync _).sys (by decide)
    have hleave : ∀ e : Dev, e.sys.st = .ready → leaveState e = e := fun e he => by rw [leaveState, he]
    rw [hleave _ (by rw [hst]; exact hready), hst]
    rfl
  · rw [hpnd]
    exact hoffer
  · rw [hpnd]
    rfl
  · rw [hpnd]
    rfl

/-! ### Offers -/

/-- The device offers a role (R455). -/
def pairOffered (op v : Nat) (c : Cmd) (d : Dev) : Dev :=
  let e := goLong c (setPrm 0xD001 0 v d)
  { e with pnd := { e.pnd with offer := op, offerT := e.t } }

theorem pairOffered_keeps (op v : Nat) (c : Cmd) (d : Dev) : Keeps [.pnd, .prm, .mbx] d (pairOffered op v c d) :=
  ((setPrm_keeps _ _ _ d).mono (by decide)).trans
    (((goLong_keeps c _).mono (by decide)).trans ((keeps_pnd _ _).mono (by decide)))

/-- An offer to a peer that has not said hello waits. -/
theorem pairOffer_eq {op : Nat} {c : Cmd} {d : Dev} (hop : field c.body 0 0 = op)
    (hok : (if op = 1 then pairStates d else d.sys.st = .ready) = true) (hstandby : d.sys.standby = false)
    (hformed : d.pnd.formed = false) (hhello : d.pnd.hello = none) :
    pairOffer op c d = Machine.control 1 op 0 (pairOffered op (field c.body 19 4) c d) := by
  have hgo : ¬ (¬ (if op = 1 then pairStates d else d.sys.st = .ready) = true ∨ d.sys.standby = true ∨ d.pnd.formed = true) := by
    simp [hok, hstandby, hformed]
  have halone : (Machine.control 1 op 0 (pairOffered op (field c.body 19 4) c d)).pnd.hello = none := by
    rw [(control_keeps 1 op 0 _).pnd (by decide)]
    exact hhello
  unfold pairOffer
  rw [if_neg (not_not_intro hop), if_neg hgo]
  exact tryForm_alone halone

/-- An offer runs on, with the digest that it names. -/
theorem pairOffer_runs {i : Instr} {s : State} {t slot op : Nat} {c : Cmd} (ha : Admitted s slot 0x0F c)
    (he : exec i s = liftCmd t slot 0x0F (pairOffer op) s) (hop : field c.body 0 0 = op)
    (hok : (if op = 1 then pairStates s.dev else s.dev.sys.st = .ready) = true) (hstandby : s.dev.sys.standby = false)
    (hformed : s.dev.pnd.formed = false) (hhello : s.dev.pnd.hello = none) :
    Runs i t s [.pnd, .prm, .chain, .mbx] (fun d =>
      d.pnd = { s.dev.pnd with offer := op, offerT := t } ∧ prm d 0xD001 0 = field c.body 19 4 ∧
        d.mbx.long = s.dev.mbx.long ++ [⟨c.slot, c.op, c.tag, cmdClass s.dev c, c.body⟩]) := by
  have heq := pairOffer_eq (d := devAt s t) hop hok hstandby hformed hhello
  have hsend := control_keeps 1 op 0 (pairOffered op (field c.body 19 4) c (devAt s t))
  refine runs_liftCmd he ha ?_ (by decide) ?_ <;> rw [heq]
  · exact ((pairOffered_keeps op _ c (devAt s t)).mono (by decide)).trans (hsend.mono (by decide))
  · refine ⟨hsend.pnd (by decide), ?_, ?_⟩
    · rw [prm_of_prm (hsend.prm (by decide))]
      exact prm_setPrm_self 0xD001 0 _ (devAt s t)
    · rw [hsend.mbxSent (by decide)]
      rfl

/-! ### The end of a pair -/

theorem pairUnpair_eq {c : Cmd} {d : Dev} (hop : field c.body 0 0 = 0) (hswap : d.pnd.swapSlot = none) :
    pairUnpair c d = finish c 0 0 (pairResp (unpair (Machine.control 3 0 0 d))) (unpair (Machine.control 3 0 0 d)) := by
  unfold pairUnpair
  rw [if_neg (not_not_intro hop), hswap]

theorem unpaired_runs (s : State) (t slot : Nat) (c : Cmd) (ha : Admitted s slot 0x0F c) (hop : field c.body 0 0 = 0)
    (hswap : s.dev.pnd.swapSlot = none) :
    Runs (.pairUnpair t slot) t s ([.pnd, .mbx] ++ evParts) (fun d =>
      d.pnd = pndAlone s.dev.pnd ∧ Completed s c t 0 0 (le 4 0) d) := by
  have heq := pairUnpair_eq (c := c) (d := devAt s t) hop hswap
  have hctrl := control_keeps 3 0 0 (devAt s t)
  have hend := unpair_keeps (Machine.control 3 0 0 (devAt s t))
  have halone : (unpair (Machine.control 3 0 0 (devAt s t))).pnd = pndAlone s.dev.pnd := by
    rw [unpair_pnd, hctrl.pnd (by decide)]
    rfl
  have hresp : pairResp (unpair (Machine.control 3 0 0 (devAt s t))) = le 4 0 := by rw [pairResp, halone]; rfl
  have hboth : Keeps (.pnd :: evParts) (devAt s t) (unpair (Machine.control 3 0 0 (devAt s t))) :=
    (hctrl.mono (by decide)).trans hend
  refine runs_liftCmd rfl ha ?_ (by decide) ?_ <;> rw [heq, hresp]
  · exact (hboth.mono (by decide)).trans ((finish_keeps _ _ _ _ _).mono (by decide))
  · exact ⟨((finish_keeps _ _ _ _ _).pnd (by decide)).trans halone, completed_of_keeps hboth (by decide) (by decide) 0 0 _⟩

theorem unpairRx_eq {d : Dev} (hformed : d.pnd.formed = true) (hswap : d.pnd.swapSlot = none) : unpairRx d = unpair d := by
  unfold unpairRx
  rw [if_pos hformed, hswap]

/-! ### A pair that is not synced in time -/

/-- The long PAIR as it is given up for reason `r` (R457). -/
def pairGivenUp (slot r : Nat) (d : Dev) : Dev := unpair (finishLong slot 1 r [] d)

theorem pairGivenUp_keeps (slot r : Nat) (d : Dev) : Keeps ([.pnd, .mbx] ++ evParts) d (pairGivenUp slot r d) :=
  ((finishLong_keeps _ _ _ _ d).mono (by decide)).trans ((unpair_keeps _).mono (by decide))

theorem pairGivenUp_pnd (slot r : Nat) (d : Dev) : (pairGivenUp slot r d).pnd = pndAlone d.pnd := by
  rw [pairGivenUp, unpair_pnd, (finishLong_keeps _ _ _ _ d).pnd (by decide)]

theorem pairGivenUp_ended {s : State} {t slot : Nat} {l : LongCmd} (r : Nat)
    (hfind : s.dev.mbx.long.find? (fun x => x.slot = slot) = some l) :
    EndedLong s l t 1 r [] (pairGivenUp slot r (devAt s t)) := by
  obtain ⟨hdone, hl⟩ := answers_of_keeps (unpair_keeps (finishLong slot 1 r [] (devAt s t))) (by decide)
  rw [EndedLong, pairGivenUp, hdone, hl]
  exact endedLong_of_keeps (Keeps.refl [] (devAt s t)) (by decide) (by decide) hfind 1 r []

section
variable {d : Dev} {l : LongCmd} {r : Nat} (hlong : longOf d 0x0F = some l) (hoffer : d.pnd.offer ≠ 0)
  (htime : d.pnd.offerT + 4000000000 ≤ d.t) (hreason : pairReason d = some r)
include hlong hoffer htime hreason

theorem pairTimeout_eq : pairTimeout d =
    if ¬ d.sys.standby then pairGivenUp l.slot r d
    else if d.sys.st = .sync then enterReady 0x05 (pairGivenUp l.slot r d)
    else { pairGivenUp l.slot r d with sys := { (pairGivenUp l.slot r d).sys with standby := false } } := by
  unfold pairTimeout
  rw [hlong]
  dsimp only
  rw [if_pos ⟨hoffer, htime⟩, hreason]
  rfl

end

section
variable (s : State) (t r : Nat) (l : LongCmd) (hlong : longOf s.dev 0x0F = some l)
  (hfind : s.dev.mbx.long.find? (fun x => x.slot = l.slot) = some l) (hoffer : s.dev.pnd.offer ≠ 0)
  (htime : s.dev.pnd.offerT + 4000000000 ≤ t) (hreason : pairReason (devAt s t) = some r)
include hlong hfind hoffer htime hreason

theorem timedOut_active_runs (hstandby : s.dev.sys.standby = false) :
    Runs (.pairTimeout t) t s ([.pnd, .mbx] ++ evParts) (fun d =>
      d.pnd = pndAlone s.dev.pnd ∧ EndedLong s l t 1 r [] d) :=
  runs_eq rfl ((pairTimeout_eq (d := devAt s t) hlong hoffer htime hreason).trans (if_pos (ne_true_of_eq_false hstandby)))
    (pairGivenUp_keeps _ _ _) (by decide) ⟨pairGivenUp_pnd _ _ _, pairGivenUp_ended r hfind⟩

theorem timedOut_standby_runs (hstandby : s.dev.sys.standby = true) (hst : s.dev.sys.st ≠ .sync) :
    Runs (.pairTimeout t) t s ([.sys, .pnd, .mbx] ++ evParts) (fun d =>
      d.pnd = pndAlone s.dev.pnd ∧ EndedLong s l t 1 r [] d ∧ d.sys = { s.dev.sys with standby := false }) := by
  have heq := (pairTimeout_eq (d := devAt s t) hlong hoffer htime hreason).trans
    ((if_neg (not_not_intro hstandby)).trans (if_neg hst))
  have hkeeps := pairGivenUp_keeps l.slot r (devAt s t)
  refine runs_eq rfl heq ((hkeeps.mono (by decide)).trans ((keeps_sys _ _).mono (by decide))) (by decide)
    ⟨pairGivenUp_pnd _ _ _, pairGivenUp_ended r hfind, ?_⟩
  show { (pairGivenUp l.slot r (devAt s t)).sys with standby := false } = _
  rw [hkeeps.sys (by decide)]
  rfl

theorem timedOut_sync_runs (hstandby : s.dev.sys.standby = true) (hst : s.dev.sys.st = .sync)
    (hwarned : s.dev.hold.warned = false) (hestop : s.dev.gd.estop = false) :
    Runs (.pairTimeout t) t s (.pnd :: trParts) (fun d =>
      d.pnd = pndAlone s.dev.pnd ∧ EndedLong s l t 1 r [] d ∧ d.sys.st = .ready ∧ d.sys.standby = false) := by
  have hkeeps := pairGivenUp_keeps l.slot r (devAt s t)
  have hgd := hkeeps.gd (by decide)
  have hw : (standsAlone (pairGivenUp l.slot r (devAt s t))).hold.warned = false := by
    show (pairGivenUp l.slot r (devAt s t)).hold.warned = false
    rw [hkeeps.hold (by decide)]
    exact hwarned
  have hopen : (transition .ready 0x05 (standsAlone (pairGivenUp l.slot r (devAt s t)))).gd.estop = false := by
    rw [transition_ready_gd hw]
    show (pairGivenUp l.slot r (devAt s t)).gd.estop = false
    rw [hgd]
    exact hestop
  have heq := ((pairTimeout_eq (d := devAt s t) hlong hoffer htime hreason).trans
    ((if_neg (not_not_intro hstandby)).trans (if_pos hst))).trans (enterReady_open hopen)
  have htr := transition_keeps .ready 0x05 (standsAlone (pairGivenUp l.slot r (devAt s t)))
  have hsys := transition_sys (target := .ready) (d := standsAlone (pairGivenUp l.slot r (devAt s t))) 0x05 (.inl hw)
  refine runs_eq rfl heq ?_ (by decide) ⟨?_, ?_, ?_, ?_⟩
  · exact (hkeeps.mono (by decide)).trans (((keeps_sys _ _).mono (by decide)).trans (htr.mono (by decide)))
  · rw [htr.pnd (by decide)]
    exact pairGivenUp_pnd _ _ _
  · obtain ⟨hdone, hl⟩ := transition_ready_answers 0x05 (standsAlone (pairGivenUp l.slot r (devAt s t)))
    rw [EndedLong, hdone, hl]
    exact pairGivenUp_ended r hfind
  · rw [hsys]
  · rw [hsys]
    show (leaveState _).sys.standby = false
    have hprobe : (probeState .ready (standsAlone (pairGivenUp l.slot r (devAt s t)))).sys =
        { s.dev.sys with standby := false } := by
      rw [(probeState_keeps .ready _).sys (by decide)]
      show { (pairGivenUp l.slot r (devAt s t)).sys with standby := false } = _
      rw [hkeeps.sys (by decide)]
      rfl
    have hleave : ∀ e : Dev, e.sys.st = .sync → leaveState e = e := fun e he => by rw [leaveState, he]
    rw [hleave _ (by rw [hprobe]; exact hst), hprobe]

end

/-! ### The heartbeat -/

/-- Both paths as silent (R464). -/
def allSilent (d : Dev) : Dev :=
  { d with pnd := { d.pnd with silentLink := true, silentWire := true, takeT := some d.t } }

theorem hbTimeout_eq {d : Dev} (hformed : d.pnd.formed = true) (hframe : d.pnd.frameT.getD 0 + 3200 ≤ d.t)
    (hwire : d.pnd.hbiT.getD 0 + 3200 ≤ d.t) (hlink : d.pnd.silentLink = false) :
    hbTimeout d = if takeoverOk (allSilent d) then allSilent d else pndLost (allSilent d) :=
  if_pos ⟨hformed, decide_eq_true hframe, decide_eq_true hwire, fun h => ne_true_of_eq_false hlink h.1⟩

/-- One path as silent (R464). -/
def pathSilent (wire : Bool) (d : Dev) : Dev :=
  { d with pnd := if wire then { d.pnd with silentWire := true } else { d.pnd with silentLink := true } }

theorem pathSilence_wire {d : Dev} (hformed : d.pnd.formed = true) (hwire : d.pnd.hbiT.getD 0 + 3200 ≤ d.t)
    (hframe : d.t < d.pnd.frameT.getD 0 + 3200) (hknown : d.pnd.silentWire = false) :
    pathSilence true d = pndLost (pathSilent true d) :=
  if_pos ⟨hformed, hwire, hframe, ne_true_of_eq_false hknown⟩

theorem pathSilence_link {d : Dev} (hformed : d.pnd.formed = true) (hframe : d.pnd.frameT.getD 0 + 3200 ≤ d.t)
    (hwire : d.t < d.pnd.hbiT.getD 0 + 3200) (hknown : d.pnd.silentLink = false) :
    pathSilence false d = pndLost (pathSilent false d) :=
  if_pos ⟨hformed, hframe, hwire, ne_true_of_eq_false hknown⟩

/-- A standby that marks its pair's paths and does not take over says so (R464). -/
theorem pndLost_runs {i : Instr} {s : State} {t : Nat} {f : Dev → Dev} {p : Pnd} (he : exec i s = lift t f s)
    (hstandby : s.dev.sys.standby = true) (hup : s.dev.sys.up = true)
    (hf : f (devAt s t) = pndLost { devAt s t with pnd := p }) :
    Runs i t s (.pnd :: evParts) (fun d => d.pnd = p ∧ Pending 104 d) :=
  runs_eq he hf (((keeps_pnd _ _).mono (by decide)).trans ((pndLost_keeps _).mono (by decide))) (by decide)
    ⟨(pndLost_keeps _).pnd (by decide), pndLost_pending hstandby hup⟩

/-! ### The statement -/

/-- Settles O56: every operation of the pair by its cases; the standby that forms and the one that is given up by the laws of
the transition. -/
theorem pairForms : Obligations.PairForms := by
  unfold Obligations.PairForms
  refine ⟨?_, ?_, ?_, ?_, ?_, ?_, ?_, ?_, ?_, ?_, ?_, ?_, ?_, ?_, ?_⟩
  · intro s t g v a o hlink hoffer
    exact runs_eq rfl ((helloRx_eq (d := devAt s t) hlink g v a o).trans (tryForm_unoffered hoffer)) (keeps_pnd _ _) (by decide) rfl
  · exact paired_runs
  · intro s t slot c ha hop hst hstandby hformed hhello
    exact pairOffer_runs ha rfl hop hst hstandby hformed hhello
  · intro s t slot c ha hop hst hstandby hformed hhello
    exact pairOffer_runs ha rfl hop (decide_eq_true hst) hstandby hformed hhello
  · exact unpaired_runs
  · intro s t hformed hswap
    exact runs_eq rfl (unpairRx_eq (d := devAt s t) hformed hswap) (unpair_keeps _) (by decide) (unpair_pnd _)
  · exact timedOut_active_runs
  · exact timedOut_sync_runs
  · exact timedOut_standby_runs
  · intro s t
    exact runs_eq rfl rfl (keeps_pnd _ _) (by decide) rfl
  · intro s t hpwr hlock hstop htime
    exact runs_eq rfl (if_pos ⟨hpwr, hlock, ne_true_of_eq_false hstop, htime⟩) (keeps_boot _ (devAt s t)) (by decide) rfl
  · intro s t hformed hstandby hup hframe hwire hlink hok
    exact pndLost_runs rfl hstandby hup ((hbTimeout_eq (d := devAt s t) hformed hframe hwire hlink).trans
      (if_neg (ne_true_of_eq_false hok)))
  · intro s t hformed hframe hwire hlink hok
    exact runs_eq rfl ((hbTimeout_eq (d := devAt s t) hformed hframe hwire hlink).trans (if_pos hok)) (keeps_pnd _ _)
      (by decide) rfl
  · intro s t hformed hstandby hup hwire hframe hknown
    exact pndLost_runs rfl hstandby hup (pathSilence_wire (d := devAt s t) hformed hwire hframe hknown)
  · intro s t hformed hstandby hup hframe hwire hknown
    exact pndLost_runs rfl hstandby hup (pathSilence_link (d := devAt s t) hformed hframe hwire hknown)

end Sys2Proof.Safety
end

section
/-!
PROOF. What the owned cascades, the landing of a commit, and what a landing starts may touch (R173, R382).
-/
namespace Sys2Proof.Safety

open Sys2Proof.Machine

/-! ### Owned cascades -/

/-- `e` differs from `d` at most as a build of owned cascades leaves it: parameters, banks, the tuning of grid synthesis. -/
def Built (d e : Dev) : Prop := Keeps [.prm, .fil, .gs] d e

theorem Built.refl (d : Dev) : Built d d := Keeps.refl _ d

theorem Built.trans {d e f : Dev} (h : Built d e) (k : Built e f) : Built d f := Keeps.trans h k

theorem Built.ite {d e f : Dev} {c : Prop} [Decidable c] (he : Built d e) (hf : Built d f) : Built d (if c then e else f) :=
  keeps_ite (fun _ => he) (fun _ => hf)

theorem Built.each {d e : Dev} {n : Nat} {f : Nat → Dev → Dev} (hf : ∀ k x, Built x (f k x)) (h : Built d e) :
    Built d (forAll n f e) := h.trans (keeps_forAll n f hf e)

theorem Built.fold {β : Type} {d e : Dev} {g : Dev → β → Dev} {l : List β} (hg : ∀ x b, Built x (g x b)) (h : Built d e) :
    Built d (l.foldl g e) := h.trans (keeps_foldl g hg l e)

theorem Built.prm {d e : Dev} {pid i v : Nat} (h : Built d e) : Built d (setPrm pid i v e) :=
  Keeps.andThen h (setPrm_keeps pid i v e) (by decide)

theorem Built.setSp {d e : Dev} {c : Nat} {v : Int} (h : Built d e) : Built d (setSp c v e) := h.prm

theorem Built.banks {d e : Dev} {pid i v : Nat} (h : Built d e) : Built d (bothBanks pid i v e) :=
  Keeps.andThen h (keeps_fil_of_taps (x := { e.fil with
    bank0 := bankPut pid i v e.fil.bank0, bank1 := bankPut pid i v e.fil.bank1 }) rfl) (by decide)

theorem Built.cas {d e : Dev} {c : Nat} {f : Cas → Cas} (h : Built d e) : Built d (modCas c f e) :=
  Keeps.andThen h (modCas_keeps c f e) (by decide)

theorem Built.gs {d e : Dev} {x : Gs} (h : Built d e) : Built d { e with gs := x } :=
  Keeps.andThen h (keeps_gs x e) (by decide)

theorem Built.coefs {d e : Dev} {c s : Nat} {k : Coefs} (h : Built d e) : Built d (putCoefs c s k e) := h.banks

theorem Built.weights {d e : Dev} {c : Nat} {ws : List Rat} (h : Built d e) : Built d (putWeights c ws e) := h.banks

theorem Built.flags {d e : Dev} {c s v : Nat} (h : Built d e) : Built d (putFlags c s v e) := h.banks

theorem Built.exp {d e : Dev} {c s : Nat} {x : Int} (h : Built d e) : Built d (putExp c s x e) := h.banks

theorem Built.fit {d e : Dev} {c s : Nat} {k : Coefs} (h : Built d e) : Built d (putFit c s k e) := h.coefs.exp

theorem Built.own {d e : Dev} {c trig prio i : Nat} {srcs : List Nat} (h : Built d e) :
    Built d (ownCas c srcs trig prio i e) :=
  Built.flags (Built.exp (Built.coefs (Built.fold (fun x _ => (Built.refl x).prm) (Built.fold (fun x _ => (Built.refl x).prm)
    (Built.fold (fun x _ => (Built.refl x).prm) (Built.ite h h.cas))))))

theorem Built.loopTuned {d e : Dev} {f : Rat} {c : Nat} (h : Built d e) : Built d (putLoop f c e) :=
  Built.fold (fun x _ => (Built.refl x).fit.flags) h.prm

theorem Built.tuned {d e : Dev} {f fo : Rat} (h : Built d e) : Built d (putTuned f fo e) :=
  have hall : Built d (putCoefs _ 0 _ (putCoefs _ 0 _ (putCoefs _ 0 _ (putCoefs _ 0 _ (putCoefs _ 0 _ (putCoefs _ 0 _ e)))))) :=
    h.coefs.coefs.coefs.coefs.coefs.coefs
  Built.ite (Built.fold (fun x _ => (Built.refl x).loopTuned) hall) hall

theorem Built.set {d e : Dev} {kp kq : Rat} {s : Nat} (h : Built d e) : Built d (putSet kp kq s e) :=
  Built.fold (fun x _ => (Built.refl x).weights.prm.prm) h.weights.exp.weights.exp

theorem buildGs_built (d : Dev) : Built d (buildGs d) := by
  unfold buildGs
  refine Built.each (fun _ x => (Built.refl x).set) (Built.tuned (Built.fit (Built.fit (Built.gs (Built.flags (Built.fit
    (Built.prm (Built.setSp (Built.prm (Built.prm (Built.weights (Built.own ?_))))))))))))
  refine Built.weights (Built.own (Built.weights (Built.own (Built.weights (Built.own (Built.weights (Built.own
    (Built.weights (Built.own (Built.weights (Built.own (Built.weights (Built.own (Built.weights (Built.own
    (Built.weights (Built.own (Built.weights (Built.own (Built.weights (Built.own (Built.weights (Built.own
    (Built.each (fun _ x => ?_) (Built.refl d)))))))))))))))))))))))))
  exact Built.own (Built.own (Built.each (fun _ y => (Built.refl y).own) (Built.refl x)))

theorem Built.loop {d e : Dev} {c ref i n : Nat} {k ki : Rat} (h : Built d e) : Built d (buildLoop c ref i n k ki e) :=
  h.own.weights.fit.flags.prm.prm.prm

theorem buildPv_built (d : Dev) : Built d (buildPv d) := by
  unfold buildPv
  exact Built.ite (Built.refl d) (Built.each (fun _ x => Built.fold (fun y _ => (Built.refl y).loop) (Built.refl x))
    (Built.each (fun _ x => (Built.refl x).own.weights.fit.flags.prm.prm.prm) (Built.refl d)))

theorem buildBat_built (d : Dev) : Built d (buildBat d) := by
  unfold buildBat
  exact Built.each (fun _ x => Built.fold (fun y _ => (Built.refl y).loop) (Built.refl x))
    (Built.each (fun _ x => (Built.refl x).own.prm.prm.weights.exp) (Built.refl d))

theorem buildOwned_built (d : Dev) : Built d (buildOwned d) :=
  ((buildGs_built d).trans (buildPv_built _)).trans (buildBat_built _)

theorem releaseCas_built (a n : Nat) (d : Dev) : Built d (releaseCas a n d) :=
  Built.each (fun _ x => Keeps.andThen (Built.fold (fun y _ => (Built.refl y).banks) (Built.fold (fun y _ => (Built.refl y).prm)
    (Built.fold (fun y _ => (Built.refl y).prm) (Built.refl x)))) (keeps_fil_of_taps rfl) (by decide)) (Built.refl d)

theorem reownMask_built (m : Nat) (d : Dev) : Built d (reownMask m d) :=
  (Built.each (fun _ x => Built.ite (releaseCas_built _ _ x) (Built.refl x)) (Built.refl d)).trans (buildOwned_built _)

theorem setKeys_built (xs : List (Nat × Nat)) (d : Dev) : Built d (setKeys xs d) :=
  Built.fold (fun x _ => (Built.refl x).prm) (Built.refl d)

theorem rebuildOwned_built (m : Nat) (d : Dev) : Built d (rebuildOwned m d) :=
  ((setKeys_built _ d).trans (reownMask_built m _)).trans (setKeys_built _ _)

/-- The banks change roles, and the cascades of `m` are to be copied (R88, R90). -/
def banksSwapped (m : Nat) (d : Dev) : Dev :=
  { d with fil := { d.fil with bank := !d.fil.bank, swapPend := false, copying := true, copySet := m } }

theorem banksSwapped_keeps (m : Nat) (d : Dev) : Keeps [.fil] d (banksSwapped m d) := keeps_fil_of_taps rfl

theorem bankSwap_keeps (d : Dev) : Keeps [.fil] d (bankSwap d) :=
  Keeps.trans (keeps_forAll 128 _ (fun c e => keeps_ite (fun _ => modCas_keeps c _ e) (fun _ => Keeps.refl _ e)) d)
    (banksSwapped_keeps (maskOf 128 (fun c => !(cas d c).mirror)) _)

/-! ### Network time -/

theorem charmRestart_keeps (d : Dev) : Keeps [.charm] d (charmRestart d) := keeps_charm _ d

theorem charmTime_keeps (ok : Bool) (d : Dev) : Keeps ([.charm, .gs] ++ evParts) d (charmTime ok d) := by
  unfold charmTime
  refine keeps_ite (fun _ => Keeps.refl _ d) (fun _ => keeps_ite (fun _ => (keeps_charm _ d).mono (by decide)) (fun _ => ?_))
  exact (((keeps_charm _ d).mono (by decide)).trans ((charmStop_keeps _).mono (by decide))).trans
    (((charmRestart_keeps _).mono (by decide)).trans ((raiseI_keeps _ _ _).mono (by decide)))

/-- What a change of a 1588 port may touch. -/
def timeParts : List Part := [.time, .charm, .gs] ++ evParts

theorem validCheck_keeps (d : Dev) : Keeps timeParts d (validCheck d) := by
  refine Keeps.trans (keeps_ite (fun _ => Keeps.refl _ d) (fun _ => ?_)) ((charmTime_keeps _ _).mono (by decide))
  exact ((keeps_time _ d).mono (by decide)).trans ((raiseI_keeps _ _ _).mono (by decide))

theorem timeUpdate_keeps (d : Dev) : Keeps timeParts d (timeUpdate d) :=
  Keeps.trans (keeps_ite (fun _ => (keeps_time _ d).mono (by decide)) (fun _ => Keeps.refl _ d)) (validCheck_keeps _)

theorem modPtp_keeps (i : Nat) (f : PtpPort → PtpPort) (d : Dev) : Keeps [.time] d (modPtp i f d) := keeps_time _ d

theorem ptpInit_keeps (i : Nat) (d : Dev) : Keeps timeParts d (ptpInit i d) :=
  ((modPtp_keeps i _ d).mono (by decide)).trans (timeUpdate_keeps _)

theorem modPulse_keeps (k : Nat) (f : Pulse → Pulse) (d : Dev) : Keeps [.time] d (modPulse k f d) := keeps_time _ d

theorem pulsePlan_keeps (fresh : Bool) (k : Nat) (d : Dev) : Keeps [.time] d (pulsePlan fresh k d) := by
  unfold pulsePlan
  refine keeps_ite (fun _ => keeps_ite (fun _ => ?_) (fun _ => modPulse_keeps _ _ d)) (fun _ =>
    keeps_ite (fun _ => modPulse_keeps _ _ d) (fun _ => modPulse_keeps _ _ d))
  exact (modPulse_keeps _ _ d).trans (keeps_time _ _)

theorem laneDown_keeps (k : Nat) (d : Dev) : Keeps (.eth :: evParts) d (laneDown k d) := by
  unfold laneDown
  have hlane : ∀ f : Lane → Lane, Keeps (.eth :: evParts) d (modLane k f d) := fun f => (modLane_keeps k f d).mono (by decide)
  refine keeps_ite (fun _ => ?_) (fun _ => keeps_ite (fun _ => (hlane _).trans ((raiseI_keeps _ _ _).mono (by decide)))
    (fun _ => hlane _))
  have heth : ∀ f g, Keeps (.eth :: evParts) d (modEth k g (modLane k f d)) := fun f g =>
    (hlane f).trans ((modEth_keeps k g _).mono (by decide))
  exact keeps_ite (fun _ => (heth _ _).trans ((raiseI_keeps _ _ _).mono (by decide))) (fun _ => heth _ _)

theorem linkDown_keeps (i : Nat) (d : Dev) : Keeps (.eth :: timeParts) d (linkDown i d) :=
  keeps_ite (fun _ => ((laneDown_keeps i d).mono (by decide)).trans ((ptpInit_keeps i _).mono (by decide)))
    (fun _ => Keeps.refl _ d)

end Sys2Proof.Safety
end

section
/-!
PROOF. The landing of a commit: what it may touch, and that it answers no command but a calibration that it cuts off (R364,
R382).
-/
namespace Sys2Proof.Safety

open Sys2Proof.Machine

/-- What a landing may touch. -/
def landParts : List Part := allBut [.sys, .commit, .rt, .clasp, .hold, .boot, .pnd]

/-- What the steps of a landing may touch beside the acquisition and the mailbox. -/
def landQuiet : List Part := allBut [.sys, .commit, .rt, .clasp, .hold, .boot, .pnd, .acq, .mbx]

/-- `e` is `d` after steps of a landing that cut no calibration off and answer no command. -/
structure Landed (d e : Dev) : Prop where
  keeps : Keeps landParts d e
  calZero : e.acq.calZero = d.acq.calZero
  calFull : e.acq.calFull = d.acq.calFull
  done : e.mbx.done = d.mbx.done
  long : e.mbx.long = d.mbx.long

theorem Landed.refl (d : Dev) : Landed d d := ⟨Keeps.refl _ d, rfl, rfl, rfl, rfl⟩

theorem Landed.trans {d e f : Dev} (h : Landed d e) (k : Landed e f) : Landed d f :=
  ⟨h.keeps.trans k.keeps, k.calZero.trans h.calZero, k.calFull.trans h.calFull, k.done.trans h.done, k.long.trans h.long⟩

theorem Landed.ite {d e f : Dev} {c : Prop} [Decidable c] (he : Landed d e) (hf : Landed d f) :
    Landed d (if c then e else f) := by
  split
  · exact he
  · exact hf

/-- A step that a condition adds. -/
theorem Landed.also {d e f : Dev} {c : Prop} [Decidable c] (h : Landed d e) (k : Landed e f) :
    Landed d (if c then f else e) := Landed.ite (h.trans k) h

/-- A step that a condition leaves out. -/
theorem Landed.unless {d e f : Dev} {c : Prop} [Decidable c] (h : Landed d e) (k : Landed e f) :
    Landed d (if c then e else f) := Landed.ite h (h.trans k)

theorem Landed.fold {β : Type} {d e : Dev} {g : Dev → β → Dev} {l : List β} (hg : ∀ x b, Landed x (g x b)) (h : Landed d e) :
    Landed d (l.foldl g e) := by
  induction l generalizing e with
  | nil => exact h
  | cons b bs ih => exact ih (h.trans (hg e b))

theorem Landed.foldr {β : Type} {d e : Dev} {g : β → Dev → Dev} {l : List β} (hg : ∀ b x, Landed x (g b x)) (h : Landed d e) :
    Landed d (l.foldr g e) := by
  induction l with
  | nil => exact h
  | cons b bs ih => exact ih.trans (hg b _)

theorem Landed.each {d e : Dev} {n : Nat} {f : Nat → Dev → Dev} (hf : ∀ k x, Landed x (f k x)) (h : Landed d e) :
    Landed d (forAll n f e) := Landed.fold (fun x k => hf k x) h

/-- A step that leaves the acquisition and the mailbox. -/
theorem Landed.quiet {ps : List Part} {d e f : Dev} (h : Landed d e) (k : Keeps ps e f) (hs : ∀ p ∈ ps, p ∈ landQuiet) :
    Landed d f := by
  have hq : Keeps landQuiet e f := k.mono hs
  have hacq := hq.acq (by decide)
  obtain ⟨hdone, hlong⟩ := answers_of_keeps hq (by decide)
  exact h.trans ⟨hq.mono (by decide), by rw [hacq], by rw [hacq], hdone, hlong⟩

theorem Landed.prm {d e : Dev} {pid i v : Nat} (h : Landed d e) : Landed d (setPrm pid i v e) :=
  h.quiet (setPrm_keeps pid i v e) (by decide)

/-! ### Landing one value -/

theorem Landed.facet {d e : Dev} {f : Nat} {g : Facet → Facet} (h : Landed d e) : Landed d (modFacet f g e) :=
  h.trans ⟨(modFacet_keeps f g e).mono (by decide), rfl, rfl, rfl, rfl⟩

theorem Landed.ain {d e : Dev} {i : Nat} {g : Ain → Ain} (h : Landed d e) : Landed d (modAin i g e) :=
  h.trans ⟨(modAin_keeps i g e).mono (by decide), rfl, rfl, rfl, rfl⟩

theorem Landed.timers {d e : Dev} {x : Tab Nat} (h : Landed d e) : Landed d { e with acq := { e.acq with timers := x } } :=
  h.trans ⟨(keeps_acq _ e).mono (by decide), rfl, rfl, rfl, rfl⟩

theorem Landed.rotBase {d e : Dev} {x : Nat} (h : Landed d e) : Landed d { e with acq := { e.acq with rotBase := x } } :=
  h.trans ⟨(keeps_acq _ e).mono (by decide), rfl, rfl, rfl, rfl⟩

theorem Landed.stale {d e : Dev} {k : Nat} (h : Landed d e) : Landed d (staleCal k e) :=
  Landed.ite (h.prm.quiet (journal_keeps _ _) (by decide)) h

theorem landAcq_landed (pid i v : Nat) (d : Dev) : Landed d (landAcq pid i v d) := by
  unfold landAcq
  have hcal : Landed d (if pid = 0x1100 ∨ pid = 0x1105 ∨ pid = 0x1106 then forAll 4 (fun g e => staleCal (4 * i + g) e) d else d) :=
    Landed.ite (Landed.each (fun _ x => (Landed.refl x).stale) (Landed.refl d)) (Landed.refl d)
  refine Landed.ite (Landed.each (fun _ x => Landed.ite (Landed.refl x).facet (Landed.refl x)) hcal.timers.prm)
    (Landed.ite (Landed.prm (Landed.ite hcal.rotBase hcal)) hcal.facet)

theorem setVals_landed (ch : Tab (Option Nat)) (d : Dev) : Landed d (setVals ch d) :=
  (Landed.refl d).quiet (setVals_keeps ch d) (by decide)

theorem restartAin_landed (i s : Nat) (d : Dev) : Landed d (restartAin i s d) := (Landed.refl d).ain

theorem restartChanged_landed (f : Nat) (ks : List Nat) (d : Dev) : Landed d (restartChanged f ks d) :=
  Landed.each (fun _ x => Landed.ite (Landed.ite (restartAin_landed _ _ x) (Landed.ite (restartAin_landed _ _ x)
    (Landed.ite (restartAin_landed _ _ x) (Landed.refl x)))) (Landed.refl x)) (Landed.refl d)

theorem applyChange_landed (f : Nat) (ch : Tab (Option Nat)) (d : Dev) : Landed d (applyChange f ch d) :=
  Landed.ite (Landed.refl d) ((setVals_landed ch d).trans (restartChanged_landed f _ _))

theorem landOff_landed (d : Dev) : Landed d (landOff d) :=
  Landed.each (fun _ x => Landed.ite ((Landed.refl x).facet.trans (applyChange_landed _ _ _)) (Landed.refl x)) (Landed.refl d)

theorem landUnit_landed (pid i v : Nat) (d : Dev) : Landed d (landUnit pid i v d) :=
  Landed.ite ((Landed.refl d).quiet (modUnit_keeps _ _ d) (by decide))
    (Landed.ite ((Landed.refl d).prm.quiet (modUnit_keeps _ _ _) (by decide)) (Landed.refl d).prm)

theorem landGd_landed (pid v : Nat) (d : Dev) : Landed d (landGd pid v d) := by
  unfold landGd
  refine Landed.ite ?_ (Landed.refl d).prm
  split
  · exact (Landed.refl d).prm
  · exact (Landed.refl d).prm.quiet (keeps_gd _ _) (by decide)

theorem landOne_landed (k v : Nat) (d : Dev) : Landed d (landOne k v d) :=
  Landed.ite (Landed.refl d) (Landed.ite (landAcq_landed _ _ _ d)
    (Landed.ite ((Landed.refl d).quiet (modLeg_keeps _ _ d) (by decide)) (Landed.ite (landUnit_landed _ _ _ d)
      (Landed.ite (landGd_landed _ _ d) (Landed.refl d).prm))))

/-! ### What landed changes start -/

theorem Landed.cas {d e : Dev} {c : Nat} {f : Cas → Cas} (h : Landed d e) : Landed d (modCas c f e) :=
  h.quiet (modCas_keeps c f e) (by decide)

theorem Landed.built {d e f : Dev} (h : Landed d e) (k : Built e f) : Landed d f := h.quiet (ps := [.prm, .fil, .gs]) k (by decide)

theorem landCas_landed (x : Ctx) (d : Dev) : Landed d (landCas x d) :=
  Landed.fold (fun e _ => Landed.ite (Landed.refl e).cas (Landed.refl e).cas) (Landed.fold (fun e _ => (Landed.refl e).cas) (Landed.refl d))

theorem landTaps_landed (x : Ctx) (d : Dev) : Landed d (landTaps x d) :=
  Landed.each (fun _ e => Landed.ite ((Landed.refl e).quiet (modTap_keeps _ _ e) (by decide)) (Landed.refl e)) (Landed.refl d)

theorem landPwm_landed (x : Ctx) (d : Dev) : Landed d (landPwm x d) := by
  unfold landPwm
  refine Landed.also ?_ ((Landed.refl _).quiet (keeps_pwm _ _) (by decide))
  exact Landed.each (fun _ e => Landed.ite ((Landed.refl e).quiet (modLeg_keeps _ _ e) (by decide)) (Landed.refl e))
    (Landed.refl d)

theorem landRoles_landed (x : Ctx) (d : Dev) : Landed d (landRoles x d) :=
  Landed.ite (Landed.refl d) ((Landed.refl d).quiet (keeps_setr _ d) (by decide))

theorem Landed.win {d e : Dev} {w : Nat} {f : Window → Window} (h : Landed d e) : Landed d (modWin w f e) :=
  h.quiet (modWin_keeps w f e) (by decide)

theorem Landed.raised {d e : Dev} {k i : Nat} (h : Landed d e) : Landed d (raiseI k i e) :=
  h.quiet (raiseI_keeps k i e) (by decide)

theorem landWins_landed (x : Ctx) (d : Dev) : Landed d (landWins x d) := by
  unfold landWins
  refine Landed.quiet (Landed.each (fun _ e => ?_) (Landed.refl d)) (regate_keeps _) (by decide)
  dsimp only
  have hidle : ∀ (c : Prop) [Decidable c] (w : Nat), Landed e (if c then idleCmps w e else e) := fun c _ w =>
    Landed.ite (Landed.refl e).win (Landed.refl e)
  exact Landed.ite (hidle _ _).win.raised (Landed.ite ((hidle _ _).quiet (armWin_keeps _ _) (by decide))
    (Landed.ite (hidle _ _).win (hidle _ _)))

theorem landOwned_landed (x : Ctx) (d : Dev) : Landed d (landOwned x d) :=
  Landed.ite (Landed.refl d) (Landed.ite ((Landed.refl d).quiet (keeps_gs _ d) (by decide))
    ((Landed.refl d).built (rebuildOwned_built _ d)))

theorem Landed.unit {d e : Dev} {u : Nat} {f : RecUnit → RecUnit} (h : Landed d e) : Landed d (modUnit u f e) :=
  h.quiet (modUnit_keeps u f e) (by decide)

theorem clearUnit_landed (u : Nat) (d : Dev) : Landed d (clearUnit u d) :=
  Landed.unit (Landed.fold (fun e _ => Landed.each (fun _ y => (Landed.refl y).prm) (Landed.refl e)) (Landed.refl d))

theorem setUpUnit_built (u : Nat) (d : Dev) : Built d (setUpUnit u d) :=
  Built.each (fun _ e => (Built.refl e).prm) (Built.fold (fun e _ => (Built.refl e).prm) (Built.refl d))

theorem loadMasks_built (u : Nat) (d : Dev) : Built d (loadMasks u d) := by
  unfold loadMasks
  exact Built.prm (Built.prm (Built.fold (fun y _ => (Built.refl y).prm) (Built.each (fun _ y => (Built.refl y).prm.prm.prm.prm)
    (Built.fold (fun y _ => (Built.refl y).prm) (Built.each (fun _ y => (Built.refl y).prm.prm.prm.prm)
      (Built.fold (fun y _ => (Built.refl y).prm) (Built.refl d)))))))

theorem ownUnit_built (d : Dev) : Built d (ownUnit d) :=
  Built.ite ((setUpUnit_built _ d).trans (loadMasks_built _ _)) (Built.refl d)

theorem Landed.masks {d e : Dev} {u : Nat} (h : Landed d e) : Landed d (loadMasks u e) := h.built (loadMasks_built u e)

theorem landUnits_landed (x : Ctx) (d : Dev) : Landed d (landUnits x d) :=
  Landed.each (fun u e => Landed.ite
    (Landed.ite (((clearUnit_landed u e).built (setUpUnit_built u _)).masks) (clearUnit_landed u e))
    (Landed.ite (Landed.refl e).masks (Landed.ite (((Landed.refl e).quiet (landCfg_keeps u e) (by decide)).unit) (Landed.refl e))))
    (Landed.refl d)

theorem landCharm_landed (x : Ctx) (d : Dev) : Landed d (landCharm x d) :=
  Landed.ite (Landed.refl d) (((Landed.refl d).quiet (keeps_charm _ d) (by decide)).quiet (charmRestart_keeps _) (by decide))

theorem landSweep_landed (x : Ctx) (d : Dev) : Landed d (landSweep x d) :=
  Landed.ite ((Landed.refl d).quiet (sweepAbort_keeps d) (by decide)) (Landed.refl d)

theorem landCarat_landed (x : Ctx) (d : Dev) : Landed d (landCarat x d) :=
  Landed.each (fun _ e => Landed.ite ((Landed.refl e).quiet (modPt_keeps _ _ e) (by decide)) (Landed.refl e)) (Landed.refl d)

theorem landBindings_landed (x : Ctx) (d : Dev) : Landed d (landBindings x d) :=
  Landed.fold (fun e _ => Landed.ite ((Landed.refl e).quiet (modEnt_keeps _ _ e) (by decide)) (Landed.refl e))
    (Landed.fold (fun e _ => Landed.fold (fun y _ => (Landed.refl y).quiet (keeps_pts _ y) (by decide)) (Landed.refl e))
      (Landed.fold (fun e _ => Landed.fold (fun y _ => (Landed.refl y).quiet (keeps_pts _ y) (by decide)) (Landed.refl e))
        (Landed.refl d)))

theorem Landed.lane {d e : Dev} {k : Nat} (h : Landed d e) : Landed d (laneReset k e) := h.quiet (laneDown_keeps k e) (by decide)

theorem Landed.linkLost {d e : Dev} {i : Nat} (h : Landed d e) : Landed d (linkDown i e) := h.quiet (linkDown_keeps i e) (by decide)

theorem landPorts_landed (x : Ctx) (d : Dev) : Landed d (landPorts x d) := by
  unfold landPorts
  refine Landed.unless ?_ ((Landed.refl _).quiet (keeps_clk _ _) (by decide))
  exact Landed.each (fun i e => Landed.ite (Landed.ite (Landed.refl e).linkLost (Landed.refl e).lane) (Landed.refl e))
    (Landed.each (fun k e => Landed.ite (Landed.ite (Landed.refl e).linkLost (Landed.refl e).lane) (Landed.refl e))
      (Landed.each (fun p e => Landed.ite ((Landed.refl e).quiet (canMode_keeps p e) (by decide)) (Landed.refl e))
        (Landed.refl d)))

theorem landTime_landed (x : Ctx) (d : Dev) : Landed d (landTime x d) :=
  Landed.each (fun _ e => Landed.ite ((Landed.refl e).quiet (pulsePlan_keeps _ _ e) (by decide)) (Landed.refl e))
    (Landed.each (fun i e => Landed.ite ((Landed.refl e).quiet (ptpInit_keeps i e) (by decide)) (Landed.refl e)) (Landed.refl d))

theorem landKeys_keeps (x : Ctx) (d : Dev) : Keeps [.sec] d (landKeys x d) :=
  keeps_ite (fun _ => keeps_sec _ d) (fun _ => Keeps.refl _ d)

/-- Every effect of a landing but the cut of calibrations and the keys. -/
def landBefore (x : Ctx) (d : Dev) : Dev :=
  landTime x (landPorts x (landBindings x (landCarat x (landSweep x (landCharm x (landUnits x (landOwned x (landWins x
    (landRoles x (landPwm x (landTaps x (landCas x d))))))))))))

theorem landBefore_landed (x : Ctx) (d : Dev) : Landed d (landBefore x d) :=
  ((((((((((((landCas_landed x d).trans (landTaps_landed x _)).trans (landPwm_landed x _)).trans (landRoles_landed x _)).trans
    (landWins_landed x _)).trans (landOwned_landed x _)).trans (landUnits_landed x _)).trans (landCharm_landed x _)).trans
    (landSweep_landed x _)).trans (landCarat_landed x _)).trans (landBindings_landed x _)).trans (landPorts_landed x _)).trans
    (landTime_landed x _)

theorem landEffects_eq (x : Ctx) (d : Dev) :
    landEffects x d = landKeys x (calAbort (fun i => ainTouched x i = []) (landBefore x d)) := rfl

/-! ### The landing of groups -/

/-- The values of a landing in force, its staged instances gone, its points declared. -/
def landedValues (mask : Nat) (d : Dev) : Dev :=
  let d1 := landOff ((changedVals d mask).foldr (fun kv e => landOne kv.1 kv.2 e) d)
  let keep := d.prm.staged.filter (fun e =>
    match groupOf d (e.1 / 65536) (e.1 % 65536) with
    | some g => !bit mask g
    | none => true)
  let d2 := { d1 with prm := { d1.prm with staged := keep, declStaged := if bit mask 0 then [] else d1.prm.declStaged } }
  (changedDecls d mask).foldl (fun e kv => declare kv.1 kv.2 e) d2

theorem landedValues_landed (mask : Nat) (d : Dev) : Landed d (landedValues mask d) := by
  unfold landedValues
  have hones : Landed d ((changedVals d mask).foldr (fun kv e => landOne kv.1 kv.2 e) d) :=
    Landed.foldr (fun kv e => landOne_landed kv.1 kv.2 e) (Landed.refl d)
  have hvals := hones.trans (landOff_landed _)
  refine Landed.fold (fun e _ => ?_) (hvals.quiet (keeps_prm _ _) (by decide))
  exact Landed.ite ((Landed.refl e).quiet (keeps_pts _ e) (by decide)) ((Landed.refl e).quiet (keeps_pts _ e) (by decide))

/-- A landing up to the cut of calibrations. -/
def landedBefore (mask : Nat) (d : Dev) : Dev := landBefore (commitCtx d mask) (landedValues mask d)

theorem landedBefore_landed (mask : Nat) (d : Dev) : Landed d (landedBefore mask d) :=
  (landedValues_landed mask d).trans (landBefore_landed _ _)

/-- The end of a landing: keys, and a swap of the banks where it is one of the changes `vs`. -/
def landEnd (vs : List (Nat × Nat)) (x : Ctx) (d : Dev) : Dev :=
  if vs.contains (pkey 0x2001 0, 1) then bankSwap (landKeys x d) else landKeys x d

theorem landEnd_landed (vs : List (Nat × Nat)) (x : Ctx) (d : Dev) : Landed d (landEnd vs x d) :=
  have hkeys : Landed d (landKeys x d) := (Landed.refl d).quiet (landKeys_keeps x d) (by decide)
  Landed.ite (hkeys.quiet (bankSwap_keeps _) (by decide)) hkeys

theorem landGroups_eq (mask : Nat) (d : Dev) : landGroups mask d = landEnd (changedVals d mask) (commitCtx d mask)
    (calAbort (fun i => ainTouched (commitCtx d mask) i = []) (landedBefore mask d)) := rfl

theorem landGroups_keeps (mask : Nat) (d : Dev) : Keeps landParts d (landGroups mask d) := by
  rw [landGroups_eq]
  exact ((landedBefore_landed mask d).keeps.trans ((calAbort_keeps _ _).mono (by decide))).trans (landEnd_landed _ _ _).keeps

/-- Without a calibration there is none to cut off. -/
theorem calAbort_none {d : Dev} (hzero : d.acq.calZero = none) (hfull : d.acq.calFull = none) (ok : Nat → Bool) :
    calAbort ok d = d := by
  simp only [calAbort, hzero, hfull]

/-- A landing without a calibration answers no command. -/
theorem landGroups_landed (mask : Nat) {d : Dev} (hzero : d.acq.calZero = none) (hfull : d.acq.calFull = none) :
    Landed d (landGroups mask d) := by
  have hbefore := landedBefore_landed mask d
  rw [landGroups_eq, calAbort_none (hbefore.calZero.trans hzero) (hbefore.calFull.trans hfull)]
  exact hbefore.trans (landEnd_landed _ _ _)

end Sys2Proof.Safety
end

section
/-!
PROOF. COMMIT: its checks, its landing and its snapshot (R364, R380 to R388, R545).
-/
namespace Sys2Proof.Safety

open Sys2Proof.Machine

/-! ### The command -/

theorem commitGo_idle {c : Cmd} {d : Dev} (hcheck : checkOnly c = false) (hstandby : d.sys.standby = false)
    (hidle : commitIdle d (commitMask c) = true) : commitGo c d = finish c 0 0 (le 8 0) d := by
  rw [commitGo, if_neg (ne_true_of_eq_false hcheck), if_neg (ne_true_of_eq_false hstandby), if_pos hidle]

/-- A COMMIT whose checks run (R382). -/
def committing (c : Cmd) (cls : Nat) (d : Dev) : Dev := { goLong c d with commit := some ⟨commitMask c, c.slot, cls, none, 0⟩ }

theorem commitGo_runs {c : Cmd} {d : Dev} (hcheck : checkOnly c = false) (hstandby : d.sys.standby = false)
    (hidle : commitIdle d (commitMask c) = false) : commitGo c d = committing c (cmdClass d c) d := by
  rw [commitGo, if_neg (ne_true_of_eq_false hcheck), if_neg (ne_true_of_eq_false hstandby), if_neg (ne_true_of_eq_false hidle)]
  rfl

theorem committing_keeps (c : Cmd) (cls : Nat) (d : Dev) : Keeps [.mbx, .commit] d (committing c cls d) :=
  ((goLong_keeps c d).mono (by decide)).trans ((keeps_commit _ _).mono (by decide))

theorem commitCheck_eq {c : Cmd} {d : Dev} {v : Nat × Nat} (hcheck : checkOnly c = true) (hstandby : d.sys.standby = false)
    (hv : commitVerdict d (commitMask c) (cmdClass d c) = v) :
    commitCheck c d = finish c v.1 v.2 (if v.1 = 0 then le 8 0 else []) d := by
  subst hv
  rw [commitCheck, if_neg (not_not_intro hcheck), if_neg (ne_true_of_eq_false hstandby)]

/-! ### The end of the checks -/

theorem landingEpoch_bounds (t : Nat) : t + 80000 ≤ landingEpoch t * 400000 ∧ landingEpoch t * 400000 < t + 480000 := by
  unfold landingEpoch
  omega

section
variable {d : Dev} {j : CommitJob} (hj : d.commit = some j) (hpassed : j.passedAt = none) (hup : d.sys.up = true)
  (hpaused : d.mbx.paused = false) (hstop : d.sys.testStop = false)
include hj hpassed hup hpaused hstop

theorem checksDone_failed (hv : (commitVerdict d j.groups j.cls).1 ≠ 0) : checksDone d =
    finishLong j.slot (commitVerdict d j.groups j.cls).1 (commitVerdict d j.groups j.cls).2 [] { d with commit := none } := by
  unfold checksDone
  rw [hj]
  dsimp only
  rw [if_neg (by simp [hpassed, hup, hpaused, hstop]), if_pos hv]

/-- A COMMIT whose checks have passed, and a swap of the banks that it waits to make. -/
theorem checksDone_passed (hv : commitVerdict d j.groups j.cls = (0, 0)) : ∃ swap : Bool, checksDone d =
    mirrorOut 6 j.groups (landingEpoch d.t) [] { d with
      commit := some { j with passedAt := some d.t, landEp := landingEpoch d.t }
      fil := { d.fil with swapPend := swap } } := by
  refine ⟨(changedVals d j.groups).contains (pkey 0x2001 0, 1), ?_⟩
  unfold checksDone
  rw [hj]
  dsimp only
  rw [if_neg (by simp [hpassed, hup, hpaused, hstop]), if_neg (by rw [hv]; exact not_not_intro rfl)]

end

theorem checksPassed_runs (s : State) (t : Nat) (j : CommitJob) (hj : s.dev.commit = some j) (hpassed : j.passedAt = none)
    (hup : s.dev.sys.up = true) (hpaused : s.dev.mbx.paused = false) (hstop : s.dev.sys.testStop = false)
    (hv : commitVerdict (devAt s t) j.groups j.cls = (0, 0)) :
    Runs (.commitChecksDone t) t s [.commit, .chain, .fil] (fun d =>
      ∃ e, d.commit = some { j with passedAt := some t, landEp := e } ∧ t + 80000 ≤ e * 400000 ∧
        e * 400000 < t + 480000) := by
  obtain ⟨swap, heq⟩ := checksDone_passed (d := devAt s t) hj hpassed hup hpaused hstop hv
  refine runs_eq rfl heq ?_ (by decide) ⟨landingEpoch t, ?_, landingEpoch_bounds t⟩
  · refine Keeps.trans ?_ ((mirrorOut_keeps _ _ _ _ _).mono (by decide))
    exact ⟨fun p hp => by cases p <;> first | rfl | exact absurd (by decide) hp⟩
  · exact (mirrorOut_keeps _ _ _ _ _).commit (by decide)

theorem checksFailed_runs (s : State) (t : Nat) (j : CommitJob) (l : LongCmd) (v : Nat × Nat) (hj : s.dev.commit = some j)
    (hpassed : j.passedAt = none) (hup : s.dev.sys.up = true) (hpaused : s.dev.mbx.paused = false)
    (hstop : s.dev.sys.testStop = false) (hv : commitVerdict (devAt s t) j.groups j.cls = v) (hne : v.1 ≠ 0)
    (hfind : s.dev.mbx.long.find? (fun x => x.slot = j.slot) = some l) :
    Runs (.commitChecksDone t) t s [.commit, .mbx] (fun d => d.commit = none ∧ EndedLong s l t v.1 v.2 [] d) := by
  subst hv
  have hdrop : Keeps [.commit] (devAt s t) { devAt s t with commit := none } := keeps_commit _ _
  refine runs_eq rfl (checksDone_failed (d := devAt s t) hj hpassed hup hpaused hstop hne) ?_ (by decide)
    ⟨(finishLong_keeps _ _ _ _ _).commit (by decide), endedLong_of_keeps hdrop (by decide) (by decide) hfind _ _ _⟩
  exact (hdrop.mono (by decide)).trans ((finishLong_keeps _ _ _ _ _).mono (by decide))

/-! ### Snapshots -/

theorem snapBegin_keeps (d : Dev) : Keeps [.lkt] d (snapBegin d) := keeps_lkt _ d

theorem snapshot_keeps (d : Dev) : Keeps [.lkt] d (snapshot d) :=
  keeps_ite (fun _ => keeps_lkt _ d) (fun _ => snapBegin_keeps d)

/-- After a landing a snapshot is being written (R388). -/
theorem snapshot_writing (d : Dev) : snapWriting (snapshot d) = true := by
  unfold snapshot
  split
  next hw => exact hw
  next =>
    unfold snapBegin snapWriting
    dsimp only
    split <;> rfl

section
variable {d : Dev} (hw : snapWriting d = true) (hretry : d.lkt.retryDue = false) (hup : d.sys.up = true)
include hw hretry hup

theorem snapDone_open : ¬ (¬ snapWriting d = true ∨ d.lkt.retryDue = true ∨ ¬ d.sys.up = true) := by
  simp [hw, hretry, hup]

/-- The target slot becomes the newest complete one (R545). -/
theorem snapDone_good (hagain : d.lkt.again = false) : snapDone true d =
    { d with lkt :=
      if snapTarget d then { d.lkt with newestB := snapTarget d, snapSeq := d.lkt.body.seq, snapState := 0, retrying := false,
                                        body := {}, slotB := { d.lkt.body with header := true } }
      else { d.lkt with newestB := snapTarget d, snapSeq := d.lkt.body.seq, snapState := 0, retrying := false, body := {},
                        slotA := { d.lkt.body with header := true } } } := by
  unfold snapDone
  rw [if_neg (snapDone_open hw hretry hup), if_pos rfl]
  exact if_neg (ne_true_of_eq_false hagain)

theorem snapDone_first (hretrying : d.lkt.retrying = false) :
    snapDone false d = { d with lkt := { d.lkt with retryDue := true, failT := d.t } } := by
  unfold snapDone
  rw [if_neg (snapDone_open hw hretry hup), if_neg Bool.false_ne_true]
  exact if_neg (ne_true_of_eq_false hretrying)

theorem snapDone_second (hretrying : d.lkt.retrying = true) (hagain : d.lkt.again = false) :
    snapDone false d = { d with lkt := { d.lkt with snapState := 2, retrying := false, body := {} } } := by
  unfold snapDone
  rw [if_neg (snapDone_open hw hretry hup), if_neg Bool.false_ne_true]
  exact (if_pos hretrying).trans (if_neg (ne_true_of_eq_false hagain))

end

theorem written_runs (s : State) (t : Nat) (hw : snapWriting s.dev = true) (hretry : s.dev.lkt.retryDue = false)
    (hup : s.dev.sys.up = true) (hagain : s.dev.lkt.again = false) :
    Runs (.snapshotWriteDone t true) t s [.lkt] (fun d =>
      d.lkt.snapState = 0 ∧ d.lkt.snapSeq = s.dev.lkt.body.seq ∧ d.lkt.newestB = snapTarget s.dev ∧
        (if snapTarget s.dev then d.lkt.slotB else d.lkt.slotA) = { s.dev.lkt.body with header := true } ∧
        (if snapTarget s.dev then d.lkt.slotA else d.lkt.slotB) =
          (if snapTarget s.dev then s.dev.lkt.slotA else s.dev.lkt.slotB) ∧
        d.lkt.journal = s.dev.lkt.journal) := by
  refine runs_eq rfl (snapDone_good (d := devAt s t) hw hretry hup hagain) (keeps_lkt _ _) (by decide) ?_
  have htarget : snapTarget (devAt s t) = snapTarget s.dev := rfl
  rw [htarget]
  cases snapTarget s.dev with
  | true => exact ⟨rfl, rfl, rfl, rfl, rfl, rfl⟩
  | false => exact ⟨rfl, rfl, rfl, rfl, rfl, rfl⟩

/-! ### The landing -/

theorem audit_keeps (j : CommitJob) (x : Ctx) (d : Dev) : Keeps [.sec, .lkt] d (audit j x d) :=
  keeps_ite (fun _ => Keeps.refl _ d) (fun _ =>
    ((keeps_sec _ d).mono (by decide)).trans ((journal_keeps _ _).mono (by decide)))

theorem lineRise_keeps (before after : Dev) : Keeps [.sent, .free] after (lineRise before after) :=
  keeps_ite (fun _ => sendNotice_keeps after) (fun _ => Keeps.refl _ after)

/-- A COMMIT in force, and its audit. -/
def commitLanded (j : CommitJob) (d : Dev) : Dev :=
  audit j (commitCtx d j.groups) (lineRise d (landGroups j.groups { d with commit := none }))

/-- The completion of a landed COMMIT, which ends the factory values. -/
def commitEnded (j : CommitJob) (d e : Dev) : Dev :=
  finishLong j.slot 0 0 (le 8 (tMs d)) { e with sys := { e.sys with factory := false } }

theorem commitLandCmd_eq {d : Dev} (hup : d.sys.up = true) (hlock : locked d 2 = true) (hpaused : d.mbx.paused = false)
    (hstop : d.sys.testStop = false) (ht : d.t % 400000 = 0) : commitLandCmd d = commitLand d :=
  if_pos ⟨hup, hlock, ne_true_of_eq_false hpaused, ne_true_of_eq_false hstop, ht⟩

section
variable {d : Dev} {j : CommitJob} {a : Nat} (hj : d.commit = some j) (hpassed : j.passedAt = some a)
  (hdue : j.landEp * 400000 ≤ d.t) (hreplay : d.fil.replay = none)
include hj hpassed hdue hreplay

theorem commitLand_open : commitLand d =
    if stateRules (commitCtx d j.groups) ≠ [] ∨ j.cls < neededClass d (commitCtx d j.groups).ch then
      finishLong j.slot 0x10 (stCode d.sys.st) [] (dropCommit d)
    else snapshot (commitEnded j d (commitLanded j d)) := by
  unfold commitLand
  rw [hj]
  dsimp only
  rw [if_neg (by simp [hpassed, hdue]), if_neg (by simp [hreplay])]
  rfl

end

theorem dropCommit_keeps (d : Dev) : Keeps [.commit, .fil] d (dropCommit d) :=
  ⟨fun p hp => by cases p <;> first | rfl | exact absurd (by decide) hp⟩

/-- What a device that lands a COMMIT without a calibration still owes to the host. -/
theorem commitLanded_facts {s : State} {t : Nat} {j : CommitJob} (hzero : s.dev.acq.calZero = none)
    (hfull : s.dev.acq.calFull = none) :
    Keeps (allBut [.rt, .clasp, .hold, .boot, .pnd, .sys]) (devAt s t) (commitLanded j (devAt s t)) ∧
      (commitLanded j (devAt s t)).commit = none ∧ (commitLanded j (devAt s t)).mbx.done = s.dev.mbx.done ∧
      (commitLanded j (devAt s t)).mbx.long = s.dev.mbx.long := by
  have hland := landGroups_landed j.groups (d := { devAt s t with commit := none }) hzero hfull
  have hcommit := hland.keeps.commit (by decide)
  have hnotice := lineRise_keeps (devAt s t) (landGroups j.groups { devAt s t with commit := none })
  have haudit := audit_keeps j (commitCtx (devAt s t) j.groups)
    (lineRise (devAt s t) (landGroups j.groups { devAt s t with commit := none }))
  have hafter : Keeps [.sent, .free, .sec, .lkt] (landGroups j.groups { devAt s t with commit := none })
      (commitLanded j (devAt s t)) := (hnotice.mono (by decide)).trans (haudit.mono (by decide))
  obtain ⟨hdone, hlong⟩ := answers_of_keeps hafter (by decide)
  refine ⟨?_, (hafter.commit (by decide)).trans hcommit, hdone.trans hland.done, hlong.trans hland.long⟩
  exact ((keeps_commit none (devAt s t)).mono (by decide)).trans
    ((hland.keeps.mono (by decide)).trans (hafter.mono (by decide)))

theorem landed_runs (s : State) (t a : Nat) (j : CommitJob) (l : LongCmd) (hj : s.dev.commit = some j)
    (hpassed : j.passedAt = some a) (hdue : j.landEp * 400000 ≤ t) (ht : t % 400000 = 0) (hup : s.dev.sys.up = true)
    (hlock : locked s.dev 2 = true) (hpaused : s.dev.mbx.paused = false) (hstop : s.dev.sys.testStop = false)
    (hreplay : s.dev.fil.replay = none) (hzero : s.dev.acq.calZero = none) (hfull : s.dev.acq.calFull = none)
    (hrules : stateRules (commitCtx (devAt s t) j.groups) = [])
    (hcls : neededClass (devAt s t) (commitCtx (devAt s t) j.groups).ch ≤ j.cls)
    (hfind : s.dev.mbx.long.find? (fun x => x.slot = j.slot) = some l) :
    Runs (.commitLanding t) t s (allBut [.rt, .clasp, .hold, .boot, .pnd]) (fun d =>
      d.commit = none ∧ d.sys.factory = false ∧ snapWriting d = true ∧ EndedLong s l t 0 0 (le 8 (t / 400000)) d) := by
  have hgo : ¬ (stateRules (commitCtx (devAt s t) j.groups) ≠ [] ∨
      j.cls < neededClass (devAt s t) (commitCtx (devAt s t) j.groups).ch) := by
    rintro (hne | hlt)
    · exact hne hrules
    · exact absurd hlt (Nat.not_lt.mpr hcls)
  have heq := ((commitLandCmd_eq (d := devAt s t) hup hlock hpaused hstop ht).trans
    (commitLand_open (d := devAt s t) hj hpassed hdue hreplay)).trans (if_neg hgo)
  obtain ⟨hkeeps, hcommit, hdone, hlong⟩ := commitLanded_facts (s := s) (t := t) (j := j) hzero hfull
  generalize commitLanded j (devAt s t) = e at heq hkeeps hcommit hdone hlong
  have hend : Keeps [.sys, .mbx] e (commitEnded j (devAt s t) e) :=
    ((keeps_sys _ e).mono (by decide)).trans ((finishLong_keeps _ _ _ _ _).mono (by decide))
  have hsnap := snapshot_keeps (commitEnded j (devAt s t) e)
  refine runs_eq rfl heq ?_ (by decide) ⟨?_, ?_, snapshot_writing _, ?_⟩
  · exact (hkeeps.mono (by decide)).trans ((hend.mono (by decide)).trans (hsnap.mono (by decide)))
  · rw [hsnap.commit (by decide), hend.commit (by decide), hcommit]
  · rw [hsnap.sys (by decide), commitEnded, (finishLong_keeps _ _ _ _ _).sys (by decide)]
  · obtain ⟨hd, hl⟩ := answers_of_keeps hsnap (by decide)
    rw [EndedLong, hd, hl]
    exact endedLong_finishLong (d := { e with sys := { e.sys with factory := false } }) hdone hlong
      (hkeeps.t (by decide)) hfind 0 0 (le 8 (t / 400000))

theorem aborted_runs (s : State) (t a : Nat) (j : CommitJob) (l : LongCmd) (hj : s.dev.commit = some j)
    (hpassed : j.passedAt = some a) (hdue : j.landEp * 400000 ≤ t) (ht : t % 400000 = 0) (hup : s.dev.sys.up = true)
    (hlock : locked s.dev 2 = true) (hpaused : s.dev.mbx.paused = false) (hstop : s.dev.sys.testStop = false)
    (hreplay : s.dev.fil.replay = none) (hrules : stateRules (commitCtx (devAt s t) j.groups) ≠ [])
    (hfind : s.dev.mbx.long.find? (fun x => x.slot = j.slot) = some l) :
    Runs (.commitLanding t) t s [.commit, .mbx, .fil] (fun d =>
      d.commit = none ∧ EndedLong s l t 0x10 (stCode s.dev.sys.st) [] d) := by
  have hdrop := dropCommit_keeps (devAt s t)
  refine runs_eq rfl (((commitLandCmd_eq (d := devAt s t) hup hlock hpaused hstop ht).trans
    (commitLand_open (d := devAt s t) hj hpassed hdue hreplay)).trans (if_pos (.inl hrules))) ?_ (by decide)
    ⟨(finishLong_keeps _ _ _ _ _).commit (by decide), endedLong_of_keeps hdrop (by decide) (by decide) hfind _ _ _⟩
  exact (hdrop.mono (by decide)).trans ((finishLong_keeps _ _ _ _ _).mono (by decide))

/-! ### The statement -/

/-- Settles O43: the command and the end of its checks by their cases, the landing by what its steps may touch, the snapshot
by its slots. -/
theorem commits : Obligations.Commits := by
  unfold Obligations.Commits
  refine ⟨?_, ?_, ?_, checksPassed_runs, checksFailed_runs, landed_runs, aborted_runs, written_runs, ?_, ?_, ?_⟩
  · intro s t slot c ha hcheck hstandby hidle
    have heq := commitGo_runs (d := devAt s t) hcheck hstandby hidle
    refine runs_liftCmd rfl ha ?_ (by decide) ?_ <;> rw [heq]
    · exact committing_keeps c _ _
    · obtain ⟨hrung, hdone⟩ := goLong_mbx c (devAt s t)
      exact ⟨rfl, hrung, hdone, op_of_admitted ha ▸ longOf_goLong c (devAt s t)⟩
  · intro s t slot c ha hcheck hstandby hidle
    have heq := commitGo_idle (d := devAt s t) hcheck hstandby hidle
    refine runs_liftCmd rfl ha ?_ (by decide) ?_ <;> rw [heq]
    · exact finish_keeps _ _ _ _ _
    · exact completed_finish s c t 0 0 _
  · intro s t slot c ha hcheck hstandby
    have heq := commitCheck_eq (d := devAt s t) hcheck hstandby rfl
    refine runs_liftCmd rfl ha ?_ (by decide) ?_ <;> rw [heq]
    · exact finish_keeps _ _ _ _ _
    · exact completed_finish s c t _ _ _
  · intro s t hw hretry hup hretrying
    exact runs_eq rfl (snapDone_first (d := devAt s t) hw hretry hup hretrying) (keeps_lkt _ _) (by decide) rfl
  · intro s t hw hretry htime
    exact runs_eq rfl (if_pos ⟨hw, hretry, htime⟩) (keeps_lkt _ (devAt s t)) (by decide) rfl
  · intro s t hw hretry hup hretrying hagain
    exact runs_eq rfl (snapDone_second (d := devAt s t) hw hretry hup hretrying hagain) (keeps_lkt _ _) (by decide) ⟨rfl, rfl⟩

end Sys2Proof.Safety
end

section
/-!
PROOF. The records of the mirror (R129, R456, R459): the statement about them fails, on a state that is written out here.
-/
namespace Sys2Proof.Safety

open Sys2Proof.Machine

/-- A formed standby whose Facet 0 waits with the landed mask 3 for its next scan start (R46), while the mask 0 is in force. -/
def waitingStandby : State :=
  { State.reset with dev := { State.reset.dev with
      sys := { State.reset.dev.sys with standby := true }
      pnd := { State.reset.dev.pnd with formed := true }
      acq := { State.reset.dev.acq with facets := [(0, { change := [(pkey 0x1001 0, some 3)] })] } } }

/-- The record of a write of the mask 0 to Facet 0. -/
def maskRecord : List Byte := le 2 0x1001 ++ le 2 0 ++ le 2 1 ++ le 2 4 ++ le 4 0

/-- The mask of a Facet. -/
def maskDesc : Desc := ⟨0x1001, 13, 1, 2, 2, true, 0x01, 4, 1, 0, 65535, 0⟩

theorem waitingStandby_stages : (paramWrite 0 maskRecord (devAt waitingStandby 0)).prm.staged = [(pkey 0x1001 0, 0)] := by
  decide +kernel

/-- Refutes O58: a mirrored write of the value in force, while a landed one waits to replace it, stays staged (R129), where the
statement takes it for no change. -/
theorem not_mirrorRecords : ¬ Obligations.MirrorRecords := by
  unfold Obligations.MirrorRecords
  rintro ⟨-, -, -, -, -, hwrite, -⟩
  obtain ⟨-, hprm⟩ := post_of_runs (c := .mirrorParamWriteRx 0 0 maskRecord) (f := paramWrite 0 maskRecord) rfl
    (hwrite waitingStandby 0 0 0 maskRecord maskDesc rfl (by decide +kernel) (by decide +kernel) (by decide +kernel)
      (by decide +kernel) (by decide +kernel) (by decide +kernel) (by decide +kernel) (by decide +kernel) (by decide +kernel))
  have hstaged : (paramWrite 0 maskRecord (devAt waitingStandby 0)).prm.staged = [] := congrArg (fun x => x.staged) hprm
  rw [waitingStandby_stages] at hstaged
  exact absurd hstaged (by decide)

end Sys2Proof.Safety
end

section
/-!
PROOF. The tracking of PV inputs: holds, intervals, shading suspicions, sweep requests and sweeps (R257 to R268).
-/
namespace Sys2Proof.Safety

open Sys2Proof.Machine

/-! ### One input -/

theorem pvIn_modPv_self (q : Nat) (f : PvIn → PvIn) (d : Dev) : pvIn (modPv q f d) q = f (pvIn d q) := tget_tmod_self _ _ _ _

theorem pvIn_modPv_ne {q k : Nat} (h : k ≠ q) (f : PvIn → PvIn) (d : Dev) : pvIn (modPv q f d) k = pvIn d k :=
  tget_tmod_ne _ _ _ h

theorem pvIn_of_pv {d e : Dev} (h : e.pv = d.pv) (q : Nat) : pvIn e q = pvIn d q := by rw [pvIn, pvIn, h]

theorem pvIn_modPv_modPv (q : Nat) (f g : PvIn → PvIn) (d : Dev) :
    pvIn (modPv q f (modPv q g d)) q = f (g (pvIn d q)) := by rw [pvIn_modPv_self, pvIn_modPv_self]

/-- A reference that moves at a rate (R265). -/
theorem setVref_pv (q : Nat) (v : Rat) (r : Int) (d : Dev) :
    (setVref q v r d).pv = (modPv q (fun x => { x with vref := v }) d).pv := by
  unfold setVref
  have hprm : Keeps [.prm] d (setSpRate (pvCas d q) r (setSp (pvCas d q) (toCode d (prm d 0x7102 q) v) d)) :=
    (setSp_keeps _ _ d).trans (setSpRate_keeps _ _ _)
  generalize setSpRate _ r _ = e at hprm
  have hpv := hprm.pv (by decide)
  simp only [modPv, hpv]

theorem pvIn_setVref (q : Nat) (v : Rat) (r : Int) (d : Dev) : pvIn (setVref q v r d) q = { pvIn d q with vref := v } := by
  rw [pvIn_of_pv (setVref_pv q v r d), pvIn_modPv_self]

/-! ### Holds (R257, R258) -/

theorem startHold_eq {d : Dev} {q a : Nat} (hq : q < pvCount d) (hmode : (pvIn d q).mode = 1)
    (hsince : (pvIn d q).startSince = some a) (htime : a + prm d 0x7031 0 * 400000000 ≤ d.t) :
    startHold q d = modPv q (fun x => { x with avail := true }) d := by
  unfold startHold
  rw [hsince]
  exact if_pos ⟨hq, hmode, htime⟩

/-- An input that waits again (R258). -/
def waitsAgain (x : PvIn) : PvIn :=
  { x with mode := 1, avail := false, stopSince := none, startSince := none, ratioSince := none, yieldSince := none,
           pBar := none, pPrev := none, epochs := 0, ps := [], vNext := none, ilim := false, vlim := false }

theorem stopHold_eq {d : Dev} {q a : Nat} (hq : q < pvCount d) (hmode : (pvIn d q).mode = 2 ∨ (pvIn d q).mode = 3)
    (hsince : (pvIn d q).stopSince = some a) (htime : a + prm d 0x7033 0 * 400000000 ≤ d.t) :
    stopHold q d = modPv q waitsAgain d := by
  unfold stopHold
  rw [hsince]
  exact if_pos ⟨hq, hmode, htime⟩

/-! ### Requests (R263) -/

theorem sweepRequest_keeps (q : Nat) (d : Dev) : Keeps [.pv] d (sweepRequest q d) :=
  keeps_ite (fun _ => Keeps.refl _ d) (fun _ => keeps_pv _ d)

/-- A request is queued, or changes nothing. -/
theorem sweepRequest_eq (q : Nat) (d : Dev) : ∃ l, sweepRequest q d = { d with pv := { d.pv with queue := l } } :=
  (Decidable.em _).elim (fun h => ⟨d.pv.queue, if_pos h⟩) (fun h => ⟨_, if_neg h⟩)

/-- A request leaves every input. -/
theorem pvIn_sweepRequest (q k : Nat) (d : Dev) : pvIn (sweepRequest q d) k = pvIn d k := by
  obtain ⟨l, hl⟩ := sweepRequest_eq q d
  rw [hl]
  rfl

theorem sweepFree_at {d : Dev} {q : Nat} (h : SweepFree d q d.t) : (q, d.t) ∈ (sweepRequest q d).pv.queue := by
  obtain ⟨hq, hgap, hidle, hqueue⟩ := h
  unfold sweepRequest
  have hsoon : (match (pvIn d q).lastEnd with
      | some a => decide (d.t < a + prm d 0x7011 0 * 400000000)
      | none => false) = false := by
    cases hlast : (pvIn d q).lastEnd with
    | none => rfl
    | some a => exact decide_eq_false (Nat.not_lt.mpr (hgap a hlast))
  have hany : d.pv.queue.any (fun e => e.1 = q) = false := by simpa [List.any_eq_false] using fun a b hab => hqueue (a, b) hab
  dsimp only
  rw [if_neg]
  · simp
  · rw [hidle, hany]
    simp only [Bool.false_eq_true, or_false, not_or]
    exact ⟨Nat.not_le.mpr hq, ne_true_of_eq_false hsoon⟩

/-- What a request asks for stands where an input has changed beside. -/
theorem SweepFree.modPv {d : Dev} {q t : Nat} (h : SweepFree d q t) {f : PvIn → PvIn} (hf : ∀ x, (f x).lastEnd = x.lastEnd) :
    SweepFree (modPv q f d) q t := by
  obtain ⟨hq, hgap, hidle, hqueue⟩ := h
  refine ⟨hq, fun a ha => hgap a ?_, hidle, hqueue⟩
  rw [pvIn_modPv_self, hf] at ha
  exact ha

/-! ### Shading suspicions (R263) -/

theorem shade_keeps (q src : Nat) (d : Dev) : Keeps (.pv :: evParts) d (shade q src d) :=
  (((modPv_keeps q _ d).mono (by decide)).trans ((raiseI_keeps _ _ _).mono (by decide))).trans
    ((sweepRequest_keeps q _).mono (by decide))

theorem pvIn_shade (q src : Nat) (d : Dev) : pvIn (shade q src d) q = { pvIn d q with shade := true, shadeSrc := src } := by
  rw [shade, pvIn_sweepRequest, pvIn_of_pv ((raiseI_keeps _ _ _).pv (by decide)), pvIn_modPv_self]

theorem shade_pending {q src : Nat} {d : Dev} (hup : d.sys.up = true) : Pending 68 (shade q src d) :=
  Pending.of_ev (raiseI_pending 68 q (modPv q _ d) hup (by decide)) ((sweepRequest_keeps q _).ev (by decide))

/-- The hold of the ratio or of the yield starts anew. -/
def holdAgain (yld : Bool) (t : Nat) (x : PvIn) : PvIn :=
  if yld then { x with yieldSince := some t } else { x with ratioSince := some t }

theorem shadeHold_eq {d : Dev} {q a : Nat} {yld : Bool} (hq : q < pvCount d) (htracks : pvTracks d q = true)
    (hsince : (if yld then (pvIn d q).yieldSince else (pvIn d q).ratioSince) = some a)
    (htime : a + prm d 0x7024 0 * 400000000 ≤ d.t) :
    shadeHold q yld d = shade q (if yld then 4 else 2) (modPv q (holdAgain yld d.t) d) := by
  unfold shadeHold
  dsimp only
  rw [hsince]
  exact if_pos ⟨hq, htracks, htime⟩

theorem shaded_runs {s : State} {t q a : Nat} {yld : Bool} (hq : q < pvCount s.dev) (htracks : pvTracks s.dev q = true)
    (hsince : (if yld then (pvIn s.dev q).yieldSince else (pvIn s.dev q).ratioSince) = some a)
    (htime : a + prm s.dev 0x7024 0 * 400000000 ≤ t) (hup : s.dev.sys.up = true) :
    Runs (.shadeHoldExpiry t q yld) t s (.pv :: evParts) (fun d =>
      (pvIn d q).shade = true ∧ (pvIn d q).shadeSrc = (if yld then 4 else 2) ∧ Pending 68 d) := by
  refine runs_eq rfl (shadeHold_eq (d := devAt s t) hq htracks hsince htime) ?_ (by decide) ⟨?_, ?_, shade_pending hup⟩
  · exact ((modPv_keeps q _ _).mono (by decide)).trans (shade_keeps _ _ _)
  · rw [pvIn_shade]
  · rw [pvIn_shade]

/-! ### Intervals (R259, R260) -/

theorem stepVref_keeps (q : Nat) (dv : Rat) (d : Dev) : Keeps [.pv] d (stepVref q dv d) :=
  keeps_ite (fun _ => modPv_keeps q _ d) (fun _ => modPv_keeps q _ d)

/-- What a step of the reference leaves of its input. -/
structure StepLeaves (x y : PvIn) : Prop where
  epochs : y.epochs = x.epochs
  mode : y.mode = x.mode
  dir : y.dir = x.dir

theorem stepVref_leaves (q : Nat) (dv : Rat) (d : Dev) : StepLeaves (pvIn d q) (pvIn (stepVref q dv d) q) := by
  unfold stepVref
  dsimp only
  split
  · rw [pvIn_modPv_self]
    exact ⟨rfl, rfl, rfl⟩
  · rw [pvIn_modPv_self]
    exact ⟨rfl, rfl, rfl⟩

/-- The direction of a step (R260). -/
def stepDir (d : Dev) (q : Nat) (p dr : Rat) : Int :=
  match (pvIn d q).firstStep, (pvIn d q).pPrev with
  | false, some p0 => if pEps d q < p - p0 - dr then (pvIn d q).dir else -(pvIn d q).dir
  | _, _ => (pvIn d q).dir

/-- A step of P&O turns its direction, and moves the reference. -/
theorem poStep_eq (q : Nat) (p dr : Rat) (d : Dev) : ∃ dv : Rat, poStep q p dr d =
    stepVref q dv (modPv q (fun y => { y with dir := stepDir d q p dr, firstStep := false }) d) := by
  unfold poStep stepDir
  dsimp only
  cases hfirst : (pvIn d q).firstStep with
  | true => exact ⟨_, rfl⟩
  | false =>
    cases hprev : (pvIn d q).pPrev with
    | none => exact ⟨_, rfl⟩
    | some p0 =>
      dsimp only
      split_ifs
      · exact ⟨_, rfl⟩
      · exact ⟨_, rfl⟩
      · exact ⟨_, rfl⟩

theorem poStep_keeps (q : Nat) (p dr : Rat) (d : Dev) : Keeps [.pv] d (poStep q p dr d) := by
  obtain ⟨dv, h⟩ := poStep_eq q p dr d
  rw [h]
  exact (modPv_keeps q _ d).trans (stepVref_keeps _ _ _)

/-- An interval that is over, of an input that does not sweep, is judged at an epoch tick. -/
theorem poEnd_open {d : Dev} {q : Nat} (hq : q < pvCount d) (hmode : (pvIn d q).mode = 2 ∨ (pvIn d q).mode = 3)
    (hepochs : prm d 0x7003 0 ≤ (pvIn d q).epochs) (hsweep : sweeping d q = false) (ht : d.t % 400000 = 0) :
    q < pvCount d ∧ intervalOver d (pvIn d q) = true ∧ ¬ sweeping d q = true ∧ d.t % 400000 = 0 := by
  refine ⟨hq, ?_, ne_true_of_eq_false hsweep, ht⟩
  simp only [intervalOver, Bool.and_eq_true, Bool.or_eq_true, decide_eq_true_eq]
  exact ⟨hmode, hepochs⟩

theorem intervalHalves_absent {d : Dev} {x : PvIn} (h : none ∈ x.ps.take (prm d 0x7003 0)) : intervalHalves d x = none := by
  unfold intervalHalves
  exact if_pos (List.any_eq_true.mpr ⟨none, List.mem_reverse.mpr h, rfl⟩)

/-- An interval without an absent power has its two halves, and what stands between them. -/
theorem intervalHalves_whole {d : Dev} {x : PvIn} {w a m b : List Rat}
    (hps : (x.ps.take (prm d 0x7003 0)).reverse = (w ++ a ++ m ++ b).map some) (hw : w.length = prm d 0x7004 0)
    (hab : a.length = b.length) (hm : m.length ≤ 1) :
    intervalHalves d x = some (a, b, a.length + m.length) := by
  have hall : ((w ++ a ++ m ++ b).map some).any (fun p => p.isNone) = false := by simp [List.any_eq_false]
  have hdrop : (((w ++ a ++ m ++ b).map some).drop (prm d 0x7004 0)).filterMap id = a ++ m ++ b := by
    rw [← hw, ← List.map_drop]
    simp [List.append_assoc, List.filterMap_map]
  have hhalf : (a ++ m ++ b).length / 2 = a.length := by simp only [List.length_append]; omega
  have hrest : (a ++ m ++ b).length - a.length = (a ++ m).length := by simp only [List.length_append]; omega
  have hup : ((a ++ m ++ b).length + 1) / 2 = a.length + m.length := by simp only [List.length_append]; omega
  unfold intervalHalves
  rw [hps]
  dsimp only
  rw [hall, if_neg Bool.false_ne_true, hdrop, hhalf, hrest, hup, List.drop_left, List.append_assoc, List.take_left]

/-- An interval that has been judged: its epochs go. -/
def intervalGone (x : PvIn) : PvIn := { x with epochs := 0, ps := [], satSeen := false }

theorem poEnd_absent {d : Dev} {q : Nat}
    (h : q < pvCount d ∧ intervalOver d (pvIn d q) = true ∧ ¬ sweeping d q = true ∧ d.t % 400000 = 0)
    (hnone : intervalHalves d (pvIn d q) = none) : poEnd q d = modPv q intervalGone d := by
  unfold poEnd
  rw [if_pos h, hnone]
  rfl

theorem meanPs_some (d : Dev) {xs : List Rat} (h : xs ≠ []) : meanPs d xs = meanRat xs := if_neg h

/-- The conditions that an interval times, and its saturation seen. -/
def intervalTimed (q : Nat) (p : Rat) (sat : Bool) (d : Dev) : Dev :=
  modPv q (fun y => { y with satSeen := sat }) (pvHolds q p d)

theorem pvHolds_keeps (q : Nat) (p : Rat) (d : Dev) : Keeps [.pv] d (pvHolds q p d) := modPv_keeps q _ d

/-- What the judgement of an interval reads of its input before the step. -/
structure IntervalKept (x y : PvIn) : Prop where
  mode : y.mode = x.mode
  ceil : y.ceil = x.ceil
  dir : y.dir = x.dir
  first : y.firstStep = x.firstStep
  epochs : y.epochs = 0

theorem shade_kept {q src : Nat} {d : Dev} {x : PvIn} (h : IntervalKept x (pvIn d q)) : IntervalKept x (pvIn (shade q src d) q) := by
  rw [pvIn_shade]
  exact ⟨h.mode, h.ceil, h.dir, h.first, h.epochs⟩

theorem intervalTimed_kept {q : Nat} {p : Rat} {sat : Bool} {d : Dev} {x : PvIn} (h : IntervalKept x (pvIn d q)) :
    IntervalKept x (pvIn (intervalTimed q p sat d) q) := by
  rw [intervalTimed, pvIn_modPv_self]
  have hholds : IntervalKept x (pvIn (pvHolds q p d) q) := by
    unfold pvHolds
    rw [pvIn_modPv_self]
    exact ⟨h.mode, h.ceil, h.dir, h.first, h.epochs⟩
  exact ⟨hholds.mode, hholds.ceil, hholds.dir, hholds.first, hholds.epochs⟩

/-- The judged input before its step: a shading suspicion where one is seen, and the holds timed. -/
def intervalJudged (q : Nat) (p : Rat) (sat : Bool) (d : Dev) : Dev :=
  intervalTimed q p sat (if dropSeen d q p then shade q 1 d else d)

theorem intervalJudged_kept {q : Nat} {p : Rat} {sat : Bool} {d : Dev} {x : PvIn} (h : IntervalKept x (pvIn d q)) :
    IntervalKept x (pvIn (intervalJudged q p sat d) q) := by
  refine intervalTimed_kept ?_
  split
  · exact shade_kept h
  · exact h

theorem intervalJudged_keeps (q : Nat) (p : Rat) (sat : Bool) (d : Dev) :
    Keeps (.pv :: evParts) d (intervalJudged q p sat d) := by
  have hshade : Keeps (.pv :: evParts) d (if dropSeen d q p then shade q 1 d else d) :=
    keeps_ite (fun _ => shade_keeps _ _ _) (fun _ => Keeps.refl _ d)
  exact hshade.trans (((pvHolds_keeps q p _).trans (modPv_keeps q _ _)).mono (by decide))

/-- The step that ends a judged interval of power `p` and drift `dr`; `x` is the input as the interval found it. -/
def intervalStep (q : Nat) (p dr : Rat) (x : PvIn) (d2 : Dev) : Dev :=
  let d3 := if x.mode = 2 ∧ (pvIn d2 q).ceil < p then modPv q (fun y => { y with mode := 3, downP := none }) d2 else d2
  let prev := modPv q (fun y => { y with pPrev := x.pBar }) d3
  let d4 := if (pvIn prev q).mode = 3 then curtStep q p prev else poStep q p dr prev
  modPv q (fun y => { y with pPrev := x.pBar, pBar := some p, satSeen := false }) d4

/-- The interval of an input whose epochs are whole is judged by its halves (R260). -/
theorem poEnd_judged {d : Dev} {q : Nat} {a b : List Rat} {h : Nat} (hq : q < pvCount d)
    (hmode : (pvIn d q).mode = 2 ∨ (pvIn d q).mode = 3) (hepochs : prm d 0x7003 0 ≤ (pvIn d q).epochs)
    (hsweep : sweeping d q = false) (ht : d.t % 400000 = 0) (hhalves : intervalHalves d (pvIn d q) = some (a, b, h))
    (ha : a ≠ []) :
    poEnd q d = intervalStep q (meanPs d (a ++ b)) ((meanPs d b - meanPs d a) * (prm d 0x7003 0 : Nat) / (h : Nat)) (pvIn d q)
      (intervalJudged q (meanPs d (a ++ b)) (pvIn d q).satSeen (modPv q intervalGone d)) := by
  have hfree : (if a = [] then { modPv q intervalGone d with free := (modPv q intervalGone d).free + 1 }
      else modPv q intervalGone d) = modPv q intervalGone d := if_neg ha
  unfold poEnd
  rw [if_pos (poEnd_open hq hmode hepochs hsweep ht), hhalves]
  exact congrArg (fun e => intervalStep q (meanPs d (a ++ b)) ((meanPs d b - meanPs d a) * (prm d 0x7003 0 : Nat) / (h : Nat))
    (pvIn d q) (intervalJudged q (meanPs d (a ++ b)) (pvIn d q).satSeen e)) hfree

/-- An interval that ends in a step of P&O, `bar` the power of the one before. -/
def intervalEnd (q : Nat) (p dr : Rat) (bar : Option Rat) (e : Dev) : Dev :=
  modPv q (fun y => { y with pPrev := bar, pBar := some p, satSeen := false })
    (poStep q p dr (modPv q (fun y => { y with pPrev := bar }) e))

theorem intervalEnd_keeps (q : Nat) (p dr : Rat) (bar : Option Rat) (e : Dev) : Keeps [.pv] e (intervalEnd q p dr bar e) :=
  ((modPv_keeps q _ e).trans (poStep_keeps q _ _ _)).trans (modPv_keeps q _ _)

/-- An input in MODE 2 whose power stays at or below the ceiling takes a step of P&O. -/
theorem intervalStep_po {q : Nat} {p dr : Rat} {x : PvIn} {e : Dev} (hmode : x.mode = 2) (hkept : IntervalKept x (pvIn e q))
    (hceil : p ≤ x.ceil) : intervalStep q p dr x e = intervalEnd q p dr x.pBar e := by
  have hbelow : ¬ (x.mode = 2 ∧ (pvIn e q).ceil < p) := fun h => absurd h.2 (by rw [hkept.ceil]; exact not_lt.mpr hceil)
  have hpo : ¬ (pvIn (modPv q (fun y => { y with pPrev := x.pBar }) e) q).mode = 3 := by
    rw [pvIn_modPv_self]
    show ¬ (pvIn e q).mode = 3
    rw [hkept.mode, hmode]
    decide
  unfold intervalStep
  rw [if_neg hbelow]
  show modPv q _ (if (pvIn (modPv q (fun y => { y with pPrev := x.pBar }) e) q).mode = 3 then _ else _) = _
  rw [if_neg hpo]
  rfl

/-- What a step of P&O that ends an interval leaves of its input. -/
theorem intervalEnd_leaves {q : Nat} {p dr : Rat} {x : PvIn} {e : Dev} (hmode : x.mode = 2) (hkept : IntervalKept x (pvIn e q)) :
    (pvIn (intervalEnd q p dr x.pBar e) q).epochs = 0 ∧ (pvIn (intervalEnd q p dr x.pBar e) q).pPrev = x.pBar ∧
      (pvIn (intervalEnd q p dr x.pBar e) q).pBar = some p ∧ (pvIn (intervalEnd q p dr x.pBar e) q).mode = 2 ∧
      ∀ p0, x.pBar = some p0 → x.firstStep = false →
        (pvIn (intervalEnd q p dr x.pBar e) q).dir = if pEps e q < p - p0 - dr then x.dir else -x.dir := by
  obtain ⟨dv, hstep⟩ := poStep_eq q p dr (modPv q (fun y => { y with pPrev := x.pBar }) e)
  have hleaves := stepVref_leaves q dv (modPv q (fun y => { y with
    dir := stepDir (modPv q (fun y => { y with pPrev := x.pBar }) e) q p dr, firstStep := false })
      (modPv q (fun y => { y with pPrev := x.pBar }) e))
  rw [pvIn_modPv_modPv] at hleaves
  rw [intervalEnd, pvIn_modPv_self, hstep]
  refine ⟨hleaves.epochs.trans hkept.epochs, rfl, rfl, hleaves.mode.trans (hkept.mode.trans hmode), ?_⟩
  intro p0 hp0 hfirst
  refine hleaves.dir.trans ?_
  show stepDir (modPv q (fun y => { y with pPrev := x.pBar }) e) q p dr = _
  unfold stepDir
  rw [pvIn_modPv_self]
  simp only [hp0, hkept.first, hfirst, hkept.dir]
  rfl

theorem steppedInterval_runs (s : State) (t q : Nat) (w a m b : List Rat) (hq : q < pvCount s.dev)
    (hmode : (pvIn s.dev q).mode = 2) (hsweep : sweeping s.dev q = false)
    (hepochs : prm s.dev 0x7003 0 ≤ (pvIn s.dev q).epochs) (ht : t % 400000 = 0)
    (hps : ((pvIn s.dev q).ps.take (prm s.dev 0x7003 0)).reverse = (w ++ a ++ m ++ b).map some)
    (hw : w.length = prm s.dev 0x7004 0) (hab : a.length = b.length) (hm : m.length ≤ 1) (ha : a ≠ [])
    (hceil : meanRat (a ++ b) ≤ (pvIn s.dev q).ceil) :
    Runs (.poIntervalEnd t q) t s (.pv :: evParts) (fun d =>
      (pvIn d q).epochs = 0 ∧ (pvIn d q).pPrev = (pvIn s.dev q).pBar ∧ (pvIn d q).pBar = some (meanRat (a ++ b)) ∧
        (pvIn d q).mode = 2 ∧
        ∀ p0, (pvIn s.dev q).pBar = some p0 → (pvIn s.dev q).firstStep = false →
          (pvIn d q).dir =
            if pEps s.dev q < meanRat (a ++ b) - p0 -
                (meanRat b - meanRat a) * ((prm s.dev 0x7003 0 : Nat) : Rat) / ((a.length + m.length : Nat) : Rat)
            then (pvIn s.dev q).dir else -(pvIn s.dev q).dir) := by
  have hb : b ≠ [] := by
    rintro rfl
    exact ha (List.length_eq_zero_iff.mp hab)
  have hwhole := intervalHalves_whole (d := devAt s t) (x := pvIn s.dev q) hps hw hab hm
  have hjudged := poEnd_judged (d := devAt s t) hq (.inl hmode) hepochs hsweep ht hwhole ha
  rw [meanPs_some _ (by simp [ha] : a ++ b ≠ []), meanPs_some _ ha, meanPs_some _ hb] at hjudged
  have hgone : IntervalKept (pvIn s.dev q) (pvIn (modPv q intervalGone (devAt s t)) q) := by
    rw [pvIn_modPv_self]
    exact ⟨rfl, rfl, rfl, rfl, rfl⟩
  have hkept := intervalJudged_kept (p := meanRat (a ++ b)) (sat := (pvIn s.dev q).satSeen) hgone
  have hkeeps := ((modPv_keeps q intervalGone (devAt s t)).mono (by decide)).trans
    (intervalJudged_keeps q (meanRat (a ++ b)) (pvIn s.dev q).satSeen (modPv q intervalGone (devAt s t)))
  have hprm := hkeeps.prm (by decide)
  change poEnd q (devAt s t) = intervalStep q _ _ (pvIn s.dev q) (intervalJudged q _ (pvIn s.dev q).satSeen _) at hjudged
  generalize intervalJudged q (meanRat (a ++ b)) (pvIn s.dev q).satSeen (modPv q intervalGone (devAt s t)) = e
    at hjudged hkept hkeeps hprm
  obtain ⟨hepo, hprev, hbar, hmode2, hdir⟩ := intervalEnd_leaves (p := meanRat (a ++ b))
    (dr := (meanRat b - meanRat a) * (prm s.dev 0x7003 0 : Nat) / ((a.length + m.length : Nat) : Rat)) hmode hkept
  refine runs_eq rfl (hjudged.trans (intervalStep_po hmode hkept hceil)) ?_ (by decide) ?_
  · exact hkeeps.trans ((intervalEnd_keeps _ _ _ _ e).mono (by decide))
  · refine ⟨hepo, hprev, hbar, hmode2, fun p0 hp0 hfirst => (hdir p0 hp0 hfirst).trans ?_⟩
    have heps : pEps e q = pEps s.dev q := by
      unfold pEps pRated
      rw [prm_of_prm hprm, prm_of_prm hprm]
      rfl
    rw [heps]

/-! ### Sweeps (R264 to R267) -/

/-- A sweep of input `q` begins its descent to `v`. -/
def descending (q : Nat) (v : Rat) (x : PvIn) (others : Option Rat) (reach : Nat) (d : Dev) : Dev :=
  { d with pv := { d.pv with
      sweepQ := q, sweepPh := 2, queue := d.pv.queue.tail, vop := x.vref, pBefore := x.pBar.getD 0, others := others,
      target := v, aborted := false, rec_ := [], reachAt := reach } }

theorem sweepStart_eq {d : Dev} {q : Nat} (h : q < pvCount d ∧ sweepMayStart d q = true) :
    ∃ (o : Option Rat) (k : Nat) (r : Int), sweepStart q d = setVref q ((pvIn d q).voc * 55 / 100) r
      (modPv q (fun y => { y with mode := 4, vNext := none }) (descending q ((pvIn d q).voc * 55 / 100) (pvIn d q) o k d)) :=
  ⟨_, _, _, if_pos h⟩

theorem sweepStarted_runs (s : State) (t q : Nat) (hq : q < pvCount s.dev) (hmay : sweepMayStart (devAt s t) q = true) :
    Runs (.sweepStart t q) t s [.pv, .prm] (fun d =>
      d.pv.sweepQ = q ∧ d.pv.sweepPh = 2 ∧ d.pv.queue = s.dev.pv.queue.tail ∧ d.pv.vop = (pvIn s.dev q).vref ∧
        (pvIn d q).mode = 4 ∧ (pvIn d q).vref = (pvIn s.dev q).voc * 55 / 100 ∧
        d.pv.target = (pvIn s.dev q).voc * 55 / 100) := by
  obtain ⟨o, k, r, heq⟩ := sweepStart_eq (d := devAt s t) ⟨hq, hmay⟩
  refine runs_eq rfl heq ?_ (by decide) ?_
  · exact ((keeps_pv _ _).mono (by decide)).trans (((modPv_keeps q _ _).mono (by decide)).trans (setVref_keeps _ _ _ _))
  · rw [pvIn_setVref, pvIn_modPv_self, setVref_pv]
    exact ⟨rfl, rfl, rfl, rfl, rfl, rfl, rfl⟩

theorem sweepDefer_eq {d : Dev} {q a : Nat} (hmem : (q, a) ∈ d.pv.queue) (htime : a + prm d 0x7012 0 * 400000000 ≤ d.t) :
    sweepDefer q d = countSkip q { d with pv := { d.pv with queue := d.pv.queue.filter (fun e => e.1 ≠ q) } } := by
  have hany : d.pv.queue.any (fun e => e.1 = q && e.2 + prm d 0x7012 0 * 400000000 ≤ d.t) = true :=
    List.any_eq_true.mpr ⟨(q, a), hmem, by simp [htime]⟩
  unfold sweepDefer
  rw [if_pos hany]

/-- The rising phase begins at tick `t`. -/
def rising (t : Nat) (d : Dev) : Dev := { d with pv := { d.pv with sweepPh := 3, riseT := t, rec_ := [] } }

theorem sweepRise_eq {d : Dev} (ht : d.t % 400000 = 0) (hph : d.pv.sweepPh = 2)
    (hreach : d.pv.reachAt + prm d 0x7004 0 * 400000 ≤ d.t) (hunit : prm d 0x7002 0 < 4) :
    ∃ r : Int, sweepRise d = sweepRecord (prm d 0x7002 0) d.pv.sweepQ
      (setVref d.pv.sweepQ (pvIn d d.pv.sweepQ).voc r (rising d.t d)) :=
  ⟨_, (if_pos ⟨ht, hph, hreach⟩).trans (if_pos hunit)⟩

/-- The sweep unit is set up and triggered (R324). -/
theorem sweepRecord_parts (u q : Nat) (d : Dev) : ∃ (e : Dev) (f : RecUnit → RecUnit), sweepRecord u q d = modUnit u f e ∧
    Keeps [.prm] d e ∧ (∀ x, (f x).st = 3 ∧ (f x).trigT = some d.t) :=
  ⟨_, _, rfl, Keeps.trans (keeps_foldl _ (fun e _ => setPrm_keeps _ _ _ e) _ d)
    (keeps_foldl _ (fun e _ => setPrm_keeps _ _ _ e) _ _), fun _ => ⟨rfl, rfl⟩⟩

theorem risen_runs (s : State) (t : Nat) (ht : t % 400000 = 0) (hph : s.dev.pv.sweepPh = 2)
    (hreach : s.dev.pv.reachAt + prm s.dev 0x7004 0 * 400000 ≤ t) (hunit : prm s.dev 0x7002 0 < 4) :
    Runs (.sweepRisingStart t) t s [.pv, .prm, .loupe] (fun d =>
      d.pv.sweepPh = 3 ∧ d.pv.riseT = t ∧ d.pv.rec_ = [] ∧
        (pvIn d s.dev.pv.sweepQ).vref = (pvIn s.dev s.dev.pv.sweepQ).voc ∧
        (unit d (prm s.dev 0x7002 0)).st = 3 ∧ (unit d (prm s.dev 0x7002 0)).trigT = some t) := by
  obtain ⟨r, hrise⟩ := sweepRise_eq (d := devAt s t) ht hph hreach hunit
  obtain ⟨e, f, hrec, hprm, hf⟩ := sweepRecord_parts (prm s.dev 0x7002 0) s.dev.pv.sweepQ
    (setVref s.dev.pv.sweepQ (pvIn s.dev s.dev.pv.sweepQ).voc r (rising t (devAt s t)))
  have hset := setVref_keeps s.dev.pv.sweepQ (pvIn s.dev s.dev.pv.sweepQ).voc r (rising t (devAt s t))
  have hpv : (modUnit (prm s.dev 0x7002 0) f e).pv =
      (modPv s.dev.pv.sweepQ (fun x => { x with vref := (pvIn s.dev s.dev.pv.sweepQ).voc }) (rising t (devAt s t))).pv :=
    ((modUnit_keeps _ f e).pv (by decide)).trans ((hprm.pv (by decide)).trans (setVref_pv _ _ _ _))
  have hrt := hset.t (by decide)
  refine runs_eq rfl (hrise.trans hrec) ?_ (by decide) ?_
  · exact ((keeps_pv _ _).mono (by decide)).trans ((hset.mono (by decide)).trans
      ((hprm.mono (by decide)).trans ((modUnit_keeps _ f e).mono (by decide))))
  · obtain ⟨hst, htrig⟩ := hf (unit e (prm s.dev 0x7002 0))
    rw [pvIn_of_pv hpv, pvIn_modPv_self, hpv, unit_modUnit_self, hst, htrig, hrt]
    exact ⟨rfl, rfl, rfl, rfl, rfl, rfl⟩

theorem sweepEnd_eq {d : Dev} (ht : d.t % 400000 = 0) (hph : d.pv.sweepPh = 3) (htime : d.pv.riseT + 16000000 ≤ d.t)
    (hothers : d.pv.others = none) : sweepEnd d = { d with pv := { d.pv with sweepPh := 4, extT := d.t } } := by
  unfold sweepEnd
  rw [if_pos ⟨ht, hph, htime⟩, hothers]
  exact if_neg Bool.false_ne_true

/-! ### The judgement of a sweep (R266, R267) -/

/-- What a sweep has found of its input: the best point, the number of maxima, the open-circuit voltage. -/
def sweepFound (vg pg : Rat) (n : Nat) (voc : Rat) (again : Bool) (x : PvIn) : PvIn :=
  { x with vg := vg, pg := pg, nMax := n, swpDone := true, retry := again, voc := voc }

/-- The sweep is judged: what it has found stands, and event 70 is raised. -/
def sweepJudged (f : PvIn → PvIn) (d : Dev) : Dev :=
  raiseI 70 d.pv.sweepQ (modPv d.pv.sweepQ f { d with free := d.free + 1 })

theorem pvIn_sweepJudged (f : PvIn → PvIn) (d : Dev) : pvIn (sweepJudged f d) d.pv.sweepQ = f (pvIn d d.pv.sweepQ) := by
  rw [sweepJudged, pvIn_of_pv ((raiseI_keeps _ _ _).pv (by decide)), pvIn_modPv_self]
  rfl

theorem sweepReturn_eq (q : Nat) (v p : Rat) (d : Dev) : sweepReturn q v p d =
    modPv q (fun x => { x with ceil := p, vNext := some v }) { d with pv := { d.pv with sweepPh := 5, target := v } } := rfl

/-- The smoothed powers of a record (R266). -/
def recordPowers (d : Dev) : List Rat := smooth (prm d 0x7013 0 / 2) (d.pv.rec_.map (fun x => x.1 * x.2))

/-- The largest power of a record, and the voltage at which it stands. -/
def recordBest (d : Dev) : Rat := (recordPowers d).foldl maxR ((recordPowers d).headD 0)

def recordAt (d : Dev) : Rat := (d.pv.rec_.getD ((recordPowers d).findIdx (· = recordBest d)) (0, 0)).1

/-- The input of a sweep as its record tells. -/
def recordTells (d : Dev) : PvIn → PvIn :=
  sweepFound (recordAt d) (recordBest d) (localMaxima (recordBest d) (recordPowers d)) (newVoc d d.pv.sweepQ).1
    (newVoc d d.pv.sweepQ).2

/-- The judged sweep returns to the better of two points. -/
theorem sweepExtract_eq {d : Dev} (hph : d.pv.sweepPh = 4) (htime : d.pv.extT < d.t) :
    ∃ v : Rat × Bool, sweepExtract d =
      if d.pv.pBefore + pEps d d.pv.sweepQ < recordBest d then
        sweepReturn d.pv.sweepQ v.1 (recordBest d) (modPv d.pv.sweepQ (fun x => { x with vlim := v.2 })
          (sweepJudged (recordTells d) d))
      else sweepReturn d.pv.sweepQ d.pv.vop d.pv.pBefore (sweepJudged (recordTells d) d) := by
  refine ⟨limVref (sweepJudged (recordTells d) d) d.pv.sweepQ (recordAt d), ?_⟩
  unfold sweepExtract
  rw [if_pos ⟨hph, htime⟩]
  rfl

/-- What a return to `v` shows of a judged sweep. -/
theorem sweepReturn_shows (v p : Rat) {q : Nat} {x : PvIn} {d : Dev} (hin : pvIn d q = x) (hdone : x.swpDone = true)
    (hpend : Pending 70 d) :
    (sweepReturn q v p d).pv.sweepPh = 5 ∧ (pvIn (sweepReturn q v p d) q).swpDone = true ∧ Pending 70 (sweepReturn q v p d) ∧
      (pvIn (sweepReturn q v p d) q).vNext = some (sweepReturn q v p d).pv.target ∧ (sweepReturn q v p d).pv.target = v ∧
      (pvIn (sweepReturn q v p d) q).pg = x.pg := by
  rw [sweepReturn_eq, pvIn_modPv_self]
  refine ⟨rfl, ?_, hpend, rfl, rfl, ?_⟩
  · show (pvIn d q).swpDone = true
    rw [hin, hdone]
  · show (pvIn d q).pg = x.pg
    rw [hin]

theorem judged_holds (s : State) (t : Nat) (hph : s.dev.pv.sweepPh = 4) (htime : s.dev.pv.extT < t)
    (hup : s.dev.sys.up = true) : ∃ d, sweepExtract (devAt s t) = d ∧
      d.pv.sweepPh = 5 ∧ (pvIn d s.dev.pv.sweepQ).swpDone = true ∧ Pending 70 d ∧
        (pvIn d s.dev.pv.sweepQ).vNext = some d.pv.target ∧
        ((pvIn d s.dev.pv.sweepQ).pg ≤ s.dev.pv.pBefore + pEps s.dev s.dev.pv.sweepQ →
          d.pv.target = s.dev.pv.vop) := by
  obtain ⟨v, heq⟩ := sweepExtract_eq (d := devAt s t) hph htime
  have hin := pvIn_sweepJudged (recordTells (devAt s t)) (devAt s t)
  have hpend : Pending 70 (sweepJudged (recordTells (devAt s t)) (devAt s t)) :=
    raiseI_pending 70 _ (modPv _ _ _) hup (by decide)
  generalize sweepJudged (recordTells (devAt s t)) (devAt s t) = e at heq hin hpend
  refine ⟨_, rfl, ?_⟩
  rw [heq]
  by_cases hbetter : s.dev.pv.pBefore + pEps s.dev s.dev.pv.sweepQ < recordBest (devAt s t)
  · have hlim : pvIn (modPv s.dev.pv.sweepQ (fun x => { x with vlim := v.2 }) e) s.dev.pv.sweepQ =
        { recordTells (devAt s t) (pvIn s.dev s.dev.pv.sweepQ) with vlim := v.2 } := by
      rw [pvIn_modPv_self]
      exact congrArg (fun x : PvIn => { x with vlim := v.2 }) hin
    obtain ⟨hph5, hdone, hp, hnext, -, hpg⟩ := sweepReturn_shows v.1 (recordBest (devAt s t)) hlim rfl hpend
    refine (if_pos (c := (devAt s t).pv.pBefore + pEps (devAt s t) (devAt s t).pv.sweepQ < recordBest (devAt s t)) hbetter).symm ▸
      ⟨hph5, hdone, hp, hnext, fun hle => absurd hbetter (not_lt.mpr ?_)⟩
    exact le_of_eq_of_le hpg.symm hle
  · obtain ⟨hph5, hdone, hp, hnext, htarget, -⟩ := sweepReturn_shows s.dev.pv.vop s.dev.pv.pBefore hin rfl hpend
    exact (if_neg (c := (devAt s t).pv.pBefore + pEps (devAt s t) (devAt s t).pv.sweepQ < recordBest (devAt s t)) hbetter).symm ▸
      ⟨hph5, hdone, hp, hnext, fun _ => htarget⟩

/-- Tracking restarts upwards with a first step at tick `t` (R265). -/
def trackAgain (t : Nat) (x : PvIn) : PvIn :=
  { x with mode := if x.mode = 4 then 2 else x.mode, dir := 1, firstStep := true, lastEnd := some t, epochs := 0, ps := [],
           satSeen := false }

/-- No input sweeps any longer. -/
def sweepOver (d : Dev) : Dev := { d with pv := { d.pv with sweepPh := 0 } }

theorem sweepResume_eq {d : Dev} (h : d.t % 400000 = 0 ∧ d.pv.sweepPh = 5 ∧ (pvIn d d.pv.sweepQ).vNext = none ∧
    d.pv.reachAt + prm d 0x7004 0 * 400000 ≤ d.t) :
    sweepResume d = setSpRate (pvCas d d.pv.sweepQ) 0 (modPv d.pv.sweepQ (trackAgain d.t) (sweepOver d)) := if_pos h

/-- What the restart of tracking shows of the sweep and of its input. -/
theorem resumed_shows (c q t : Nat) (d : Dev) :
    (setSpRate c 0 (modPv q (trackAgain t) (sweepOver d))).pv.sweepPh = 0 ∧
      pvIn (setSpRate c 0 (modPv q (trackAgain t) (sweepOver d))) q = trackAgain t (pvIn d q) := by
  have hpv := (setSpRate_keeps c 0 (modPv q (trackAgain t) (sweepOver d))).pv (by decide)
  refine ⟨by rw [hpv]; rfl, ?_⟩
  rw [pvIn_of_pv hpv, pvIn_modPv_self]
  rfl

theorem resumed_runs (s : State) (t : Nat) (ht : t % 400000 = 0) (hph : s.dev.pv.sweepPh = 5)
    (hnext : (pvIn s.dev s.dev.pv.sweepQ).vNext = none) (hreach : s.dev.pv.reachAt + prm s.dev 0x7004 0 * 400000 ≤ t) :
    Runs (.sweepResume t) t s [.pv, .prm] (fun d =>
      d.pv.sweepPh = 0 ∧ (pvIn d s.dev.pv.sweepQ).lastEnd = some t ∧ (pvIn d s.dev.pv.sweepQ).firstStep = true ∧
        (pvIn d s.dev.pv.sweepQ).dir = 1 ∧
        ((pvIn s.dev s.dev.pv.sweepQ).mode = 4 → (pvIn d s.dev.pv.sweepQ).mode = 2)) := by
  have heq := sweepResume_eq (d := devAt s t) ⟨ht, hph, hnext, hreach⟩
  have hkeeps : Keeps [.pv, .prm] (devAt s t) (setSpRate (pvCas (devAt s t) s.dev.pv.sweepQ) 0
      (modPv s.dev.pv.sweepQ (trackAgain t) (sweepOver (devAt s t)))) :=
    ((keeps_pv _ _).mono (by decide)).trans (((modPv_keeps _ _ _).mono (by decide)).trans
      ((setSpRate_keeps _ _ _).mono (by decide)))
  obtain ⟨hph0, hin⟩ := resumed_shows (pvCas (devAt s t) s.dev.pv.sweepQ) s.dev.pv.sweepQ t (devAt s t)
  refine runs_eq rfl heq hkeeps (by decide) ⟨hph0, congrArg PvIn.lastEnd hin, congrArg PvIn.firstStep hin,
    congrArg PvIn.dir hin, fun hmode => (congrArg PvIn.mode hin).trans (if_pos hmode)⟩

/-! ### The statement -/

/-- Settles O59: every operation by its cases; the interval by its halves and what each stage of its judgement leaves, the
sweep by its phases. -/
theorem pvTracking : Obligations.PvTracking := by
  unfold Obligations.PvTracking
  refine ⟨?_, ?_, ?_, steppedInterval_runs, ?_, ?_, ?_, ?_, ?_, ?_, ?_, sweepStarted_runs, ?_, risen_runs, ?_, ?_, resumed_runs⟩
  · intro s t q a hq hmode hsince htime
    exact runs_eq rfl (startHold_eq (d := devAt s t) hq hmode hsince htime) (modPv_keeps q _ _) (by decide)
      ⟨pvIn_modPv_self _ _ _, fun k hk => pvIn_modPv_ne hk _ _⟩
  · intro s t q a hq hmode hsince htime
    refine runs_eq rfl (stopHold_eq (d := devAt s t) hq hmode hsince htime) (modPv_keeps q _ _) (by decide) ?_
    rw [pvIn_modPv_self]
    exact ⟨rfl, rfl, rfl, fun k hk => pvIn_modPv_ne hk _ _⟩
  · intro s t q hq hmode hsweep hepochs ht habsent
    have heq := poEnd_absent (poEnd_open (d := devAt s t) hq hmode hepochs hsweep ht)
      (intervalHalves_absent (d := devAt s t) (x := pvIn s.dev q) habsent)
    exact runs_eq rfl heq (modPv_keeps q _ _) (by decide) (pvIn_modPv_self _ _ _)
  · intro s t q a hq htracks hsince htime hup
    exact shaded_runs (yld := false) hq htracks hsince htime hup
  · intro s t q a hq htracks hsince htime hup
    exact shaded_runs (yld := true) hq htracks hsince htime hup
  · intro s t q hfree hdue
    exact runs_eq rfl (if_pos ⟨hfree.1, hdue⟩) (sweepRequest_keeps q (devAt s t)) (by decide)
      (sweepFree_at (d := devAt s t) hfree)
  · intro s t q hfree hafter htracks hdone htime
    have hasked := hfree.modPv (d := devAt s t) (f := fun x => { x with startDone := true }) (fun _ => rfl)
    refine runs_eq rfl (if_pos ⟨hafter, htracks, ne_true_of_eq_false hdone, htime⟩)
      ((modPv_keeps q _ (devAt s t)).trans (sweepRequest_keeps q _)) (by decide) ⟨?_, sweepFree_at hasked⟩
    rw [pvIn_sweepRequest, pvIn_modPv_self]
  · intro s t q a hfree hlast hretry
    have hasked := hfree.modPv (d := devAt s t) (f := fun x => { x with retry := false }) (fun _ => rfl)
    have heq : sweepRetry q (devAt s t) = sweepRequest q (modPv q (fun x => { x with retry := false }) (devAt s t)) := by
      unfold sweepRetry
      rw [show (pvIn (devAt s t) q).lastEnd = some a from hlast]
      exact if_pos ⟨hretry, hfree.2.1 a hlast⟩
    refine runs_eq rfl heq ((modPv_keeps q _ (devAt s t)).trans (sweepRequest_keeps q _)) (by decide) ⟨?_, sweepFree_at hasked⟩
    rw [pvIn_sweepRequest, pvIn_modPv_self]
  · intro s t cls q hserved hq hfree
    have hgo : sweepGo q (devAt s t) = answer 0 0 (sweepRequest q (devAt s t)) := if_neg (Nat.not_le.mpr hq)
    have hans := answer_keeps 0 0 (sweepRequest q (devAt s t))
    refine runs_eq rfl ((immediate_of_served (d := devAt s t) hserved _).trans hgo) ?_ (by decide) ⟨answered_answer _ _ _, ?_⟩
    · exact ((sweepRequest_keeps q _).mono (by decide)).trans (hans.mono (by decide))
    · rw [hans.pv (by decide)]
      exact sweepFree_at (d := devAt s t) hfree
  · intro s t cls q v hserved hq hv
    have hgo : pMaxWrite q v (devAt s t) = answer 0 0 (setPrm 0x7107 q v (devAt s t)) :=
      if_neg (not_or.mpr ⟨Nat.not_le.mpr hq, Nat.not_lt.mpr hv⟩)
    have hans := answer_keeps 0 0 (setPrm 0x7107 q v (devAt s t))
    refine runs_eq rfl ((immediate_of_served (d := devAt s t) hserved _).trans hgo) ?_ (by decide) ⟨answered_answer _ _ _, ?_⟩
    · exact ((setPrm_keeps _ _ _ _).mono (by decide)).trans (hans.mono (by decide))
    · rw [prm_of_prm (hans.prm (by decide))]
      exact prm_setPrm_self _ _ _ _
  · intro s t q a hmem htime hup
    have hraise := raiseI_keeps 69 q { devAt s t with pv := { s.dev.pv with
      queue := s.dev.pv.queue.filter (fun e => e.1 ≠ q), skips := incSat 255 s.dev.pv.skips } }
    refine runs_eq rfl (sweepDefer_eq (d := devAt s t) hmem htime) ?_ (by decide)
      ⟨hraise.pv (by decide), raiseI_pending 69 q _ hup (by decide)⟩
    exact ((keeps_pv _ _).mono (by decide)).trans ((countSkip_keeps q _).mono (by decide))
  · intro s t ht hph htime hothers
    exact runs_eq rfl (sweepEnd_eq (d := devAt s t) ht hph htime hothers) (keeps_pv _ _) (by decide) rfl
  · intro s t hph htime hup hq
    exact judged_holds s t hph htime hup

end Sys2Proof.Safety
end

section
/-!
PROOF. Placement cycles (R277, R291): the statement about them fails, on a state that is written out here. The first cascade of
the strings is taken for any number there, and a limit of a string is then written in the place of another parameter.
-/
namespace Sys2Proof.Safety

open Sys2Proof.Machine

/-- A device in service with one string and no intent, at the start of a cycle on a grid of 60 Hz. Its first string cascade
is so far out of range that the key of the cascade's upper limit is the key of the nominal frequency. -/
def strayStringLimit : State :=
  { State.reset with dev := { State.reset.dev with
      sys := { State.reset.dev.sys with up := true }
      time := { State.reset.dev.time with valid := true }
      setr := { State.reset.dev.setr with facet12 := 7 }
      prm := { State.reset.dev.prm with
        active := [(pkey 0x5002 0, 60), (pkey 0x8010 0, 0x2FEC * 65536), (pkey 0x8011 0, 1)] } } }

theorem strayStringLimit_key : pkey 0x2016 (prm strayStringLimit.dev 0x8010 0) = pkey 0x5002 0 := by decide +kernel

theorem strayStringLimit_lands :
    (cycleStart (devAt strayStringLimit 0)).setr.intent.map (fun r => (r.typ, r.landMs)) = some (1, 20) := by
  decide +kernel

/-- Refutes O60: the limit of the string lands on the nominal frequency, so the intent that the cycle publishes lands after
the 20 ms of a grid of 50 Hz, not after the 17 ms of the cycle that started. -/
theorem not_placements : ¬ Obligations.Placements := by
  unfold Obligations.Placements
  rintro ⟨-, hcycle, -⟩
  obtain ⟨-, -, -, -, hintent⟩ := post_of_runs (c := .placementCycleStart 0) (f := cycleStart) rfl
    (hcycle strayStringLimit 0 (by decide) rfl rfl (by decide +kernel) rfl)
  obtain ⟨r, hr, heq⟩ := Option.map_eq_some_iff.mp strayStringLimit_lands
  obtain ⟨-, -, hland, -⟩ := hintent r hr
  have hcycleLen : cycleLen strayStringLimit.dev = 17 := by decide +kernel
  rw [hcycleLen] at hland
  exact absurd ((Prod.ext_iff.mp heq).2.symm.trans hland) (by decide)

end Sys2Proof.Safety
end

section
/-!
PROOF. The end of a start (R540): the statement about it fails, on a state that is written out here. First, what the build of the
owned cascades writes among the parameters, since the kernel cannot compute their coefficients.
-/
namespace Sys2Proof.Safety

open Sys2Proof.Machine

/-! ### The parameters beyond the Filigree's -/

/-- `e` has the parameters of `d` from the legs' on, at 0x3000 and above. -/
def KeepsBeyond (d e : Dev) : Prop := ∀ p i, 0x3000 ≤ p → prm e p i = prm d p i

theorem KeepsBeyond.refl (d : Dev) : KeepsBeyond d d := fun _ _ _ => rfl

theorem KeepsBeyond.trans {d e f : Dev} (h : KeepsBeyond d e) (k : KeepsBeyond e f) : KeepsBeyond d f :=
  fun p i hp => (k p i hp).trans (h p i hp)

theorem Keeps.beyond {ps : List Part} {d e : Dev} (h : Keeps ps d e) (hp : Part.prm ∉ ps) : KeepsBeyond d e :=
  fun p i _ => prm_of_prm (h.prm hp) p i

theorem KeepsBeyond.write {d e : Dev} (h : KeepsBeyond d e) {pid i v : Nat} (hpid : pid ≤ 0x2300) (hi : i < 0x1000000) :
    KeepsBeyond d (setPrm pid i v e) := fun p j hp => by
  have hkey : pkey p j ≠ pkey pid i := by unfold pkey; omega
  rw [prm_setPrm_other hkey, h p j hp]

theorem KeepsBeyond.fold {β : Type} {d : Dev} {g : Dev → β → Dev} (l : List β)
    (hg : ∀ x b, b ∈ l → KeepsBeyond d x → KeepsBeyond d (g x b)) {e : Dev} (h : KeepsBeyond d e) :
    KeepsBeyond d (l.foldl g e) := by
  induction l generalizing e with
  | nil => exact h
  | cons b l ih => exact ih (fun x c hc => hg x c (List.mem_cons_of_mem b hc)) (hg e b List.mem_cons_self h)

theorem KeepsBeyond.noEach {d e : Dev} {n : Nat} {f : Nat → Dev → Dev} (hn : n = 0) (h : KeepsBeyond d e) :
    KeepsBeyond d (forAll n f e) := by
  subst hn
  exact h

theorem KeepsBeyond.banks {d e : Dev} {pid i v : Nat} (h : KeepsBeyond d e) : KeepsBeyond d (bothBanks pid i v e) := h

theorem KeepsBeyond.coefs {d e : Dev} {c s : Nat} {k : Coefs} (h : KeepsBeyond d e) : KeepsBeyond d (putCoefs c s k e) := h.banks

theorem KeepsBeyond.weights {d e : Dev} {c : Nat} {ws : List Rat} (h : KeepsBeyond d e) :
    KeepsBeyond d (putWeights c ws e) := h.banks

theorem KeepsBeyond.flags {d e : Dev} {c s v : Nat} (h : KeepsBeyond d e) : KeepsBeyond d (putFlags c s v e) := h.banks

theorem KeepsBeyond.fit {d e : Dev} {c s : Nat} {k : Coefs} (h : KeepsBeyond d e) : KeepsBeyond d (putFit c s k e) :=
  h.coefs.banks

theorem KeepsBeyond.own {d e : Dev} {c trig prio i : Nat} {srcs : List Nat} (h : KeepsBeyond d e) (hc : c < 0x100000) :
    KeepsBeyond d (ownCas c srcs trig prio i e) := by
  have henabled : KeepsBeyond d (if casOn e c then e else casEnable c e) := by
    split
    · exact h
    · exact h.trans (Keeps.beyond (modCas_keeps c _ e) (by decide))
  have hsources := KeepsBeyond.fold (List.range 4) (g := fun e k => setPrm 0x2012 (4 * c + k) (srcs.getD k 0) e)
    (fun x k hk hx => hx.write (by decide) (by have := List.mem_range.mp hk; omega)) henabled
  have hrest := KeepsBeyond.fold [0x2016, 0x2017, 0x2019, 0x201A, 0x2200, 0x2205]
    (g := fun e pid => setPrm pid c (factory pid c) e)
    (fun x pid hk hx => hx.write (by revert pid; decide) (by omega)) hsources
  exact KeepsBeyond.flags (KeepsBeyond.banks (KeepsBeyond.coefs (KeepsBeyond.fold _
    (fun x kv hk hx => hx.write (by
      simp only [List.mem_cons, List.not_mem_nil, or_false] at hk
      rcases hk with rfl | rfl | rfl | rfl | rfl | rfl <;> exact Nat.le_of_ble_eq_true rfl) (by omega)) hrest)))

/-! ### A build without sets, PV inputs and strings -/

/-- No set of legs, no tuned loop, no PV input and no string are set up. -/
structure BuildsLittle (d : Dev) : Prop where
  base : prm d 0x5003 0 < 0x10000
  sets : prm d 0x5004 0 = 0
  loops : prm d 0x5042 0 = 0
  inputs : prm d 0x7001 0 = 0
  strings : prm d 0x8011 0 = 0

theorem KeepsBeyond.unless {d e f : Dev} {c : Prop} [Decidable c] (hc : ¬c) (hf : KeepsBeyond d f) :
    KeepsBeyond d (if c then e else f) := by
  rw [if_neg hc]
  exact hf

theorem KeepsBeyond.tuned {d e : Dev} {f fo : Rat} (h : KeepsBeyond d e) (hloops : prm d 0x5042 0 = 0) :
    KeepsBeyond d (putTuned f fo e) := by
  have hoff : ¬prm e 0x5042 0 = 1 := by rw [h 0x5042 0 (by decide), hloops]; decide
  exact KeepsBeyond.unless hoff h.coefs.coefs.coefs.coefs.coefs.coefs

theorem KeepsBeyond.gs {d e : Dev} {x : Gs} (h : KeepsBeyond d e) : KeepsBeyond d { e with gs := x } := h

theorem buildGs_beyond {d : Dev} (hd : BuildsLittle d) : KeepsBeyond d (buildGs d) := by
  have hb : ∀ n, n < 13 → gsE d + n < 0x100000 := fun n hn => by
    have h := hd.base
    have h' := hd.sets
    unfold gsE gsSets gsBase
    omega
  unfold buildGs
  have h12 : gsE d + 12 < 0x1000000 := Nat.lt_of_lt_of_le (hb 12 (by decide)) (by decide)
  refine KeepsBeyond.noEach hd.sets (KeepsBeyond.tuned (KeepsBeyond.fit (KeepsBeyond.fit (KeepsBeyond.gs (KeepsBeyond.flags
    (KeepsBeyond.fit (KeepsBeyond.write (KeepsBeyond.write (KeepsBeyond.write (KeepsBeyond.write
    (KeepsBeyond.weights (KeepsBeyond.own ?_ (hb 12 (by decide)))) (by decide) h12) (by decide) h12) (by decide) h12)
    (by decide) h12)))))) hd.loops)
  refine KeepsBeyond.weights (KeepsBeyond.own (KeepsBeyond.weights (KeepsBeyond.own (KeepsBeyond.weights (KeepsBeyond.own
    (KeepsBeyond.weights (KeepsBeyond.own (KeepsBeyond.weights (KeepsBeyond.own (KeepsBeyond.weights (KeepsBeyond.own
    (KeepsBeyond.weights (KeepsBeyond.own (KeepsBeyond.weights (KeepsBeyond.own (KeepsBeyond.weights (KeepsBeyond.own
    (KeepsBeyond.weights (KeepsBeyond.own (KeepsBeyond.weights (KeepsBeyond.own (KeepsBeyond.weights (KeepsBeyond.own
    (KeepsBeyond.noEach hd.sets (KeepsBeyond.refl d)) ?_)) ?_)) ?_)) ?_)) ?_)) ?_)) ?_)) ?_)) ?_)) ?_)) ?_)) ?_)
  all_goals exact hb _ (by decide)

theorem buildOwned_beyond {d : Dev} (hd : BuildsLittle d) : KeepsBeyond d (buildOwned d) := by
  have hgs := buildGs_beyond hd
  have hinputs : pvCount (buildGs d) = 0 := (hgs 0x7001 0 (by decide)).trans hd.inputs
  have hstrings : strCount (buildGs d) = 0 := (hgs 0x8011 0 (by decide)).trans hd.strings
  have hpv : buildPv (buildGs d) = buildGs d := if_pos hinputs
  unfold buildOwned
  rw [hpv]
  exact KeepsBeyond.noEach hstrings (KeepsBeyond.noEach hstrings hgs)

/-! ### The rest of a start -/

/-- The fast domains at the choice of the scans: everything that comes before the cascades are built. -/
def startScanned (obs : BootObs) (d : Dev) : Dev :=
  let d1 := lockLoops d.clasp.cold d
  startScans (ownUnit (fixTiers { d1 with
    cask := { d1.cask with up := obs.casketOk, selfref := false, scrubT := d1.t,
                           size := if obs.casketOk then 1 + Config.casketFit % 2 else d1.cask.size }
    boot := { d1.boot with casketKept := true }
    can := { d1.can with startT := d1.t }
    charm := { d1.charm with timeLostAt := some d1.t }
    carat := { d1.carat with resT := d1.t }
    setr := { d1.setr with rotT := d1.t, stressT := d1.t }
    gd := { estop := obs.estopLow, offT := d1.gd.offT } }))

theorem startCas_keeps (d : Dev) : Keeps [.fil] d (startCas d) :=
  keeps_forAll 128 _ (fun c e => keeps_ite (fun _ => modCas_keeps c _ e) (fun _ => Keeps.refl _ e)) d

/-- Arming, CAN, time and the timed outputs follow the build. -/
theorem bootHardware_keeps (obs : BootObs) (d : Dev) :
    Keeps ([.wins, .can] ++ timeParts) (buildOwned (startCas (startScanned obs d))) (bootHardware obs d) := by
  have hbuilt : bootHardware obs d =
      forAll 8 (pulsePlan true) (forAll 2 ptpInit (canOn (armAll (buildOwned (startCas (startScanned obs d)))))) := rfl
  rw [hbuilt]
  generalize buildOwned (startCas (startScanned obs d)) = e
  refine (armAll_keeps e).mono (by decide) |>.andThen (canOn_keeps _) (by decide) |>.trans ?_
  exact Keeps.trans (keeps_forAll 2 _ (fun i x => (ptpInit_keeps i x).mono (by decide)) _)
    (keeps_forAll 8 _ (fun k x => (pulsePlan_keeps true k x).mono (by decide)) _)

theorem bootHardware_clk (obs : BootObs) (d : Dev) : (bootHardware obs d).clk = (startScanned obs d).clk :=
  ((bootHardware_keeps obs d).clk (by decide)).trans
    (((buildOwned_built _).clk (by decide)).trans ((startCas_keeps _).clk (by decide)))

theorem bootHardware_beyond {obs : BootObs} {d : Dev} (h : BuildsLittle (startScanned obs d)) :
    KeepsBeyond (startScanned obs d) (bootHardware obs d) := by
  have hcas := (startCas_keeps (startScanned obs d)).prm (by decide)
  have hlittle : BuildsLittle (startCas (startScanned obs d)) := by
    constructor <;> rw [prm_of_prm hcas]
    exacts [h.base, h.sets, h.loops, h.inputs, h.strings]
  exact ((startCas_keeps _).beyond (by decide)).trans ((buildOwned_beyond hlittle).trans
    ((bootHardware_keeps obs d).beyond (by decide)))

theorem bootHardware_gd (obs : BootObs) (d : Dev) : (bootHardware obs d).gd = (startScanned obs d).gd :=
  ((bootHardware_keeps obs d).gd (by decide)).trans
    (((buildOwned_built _).gd (by decide)).trans ((startCas_keeps _).gd (by decide)))

/-- The parts that the entry into READY may touch after a start. -/
def entryParts : List Part := [.sys, .boot, .mbx, .clasp, .carat, .hold, .sec] ++ evParts

theorem readyEvents_keeps (snap cause : Nat) (d : Dev) : Keeps entryParts d (readyEvents snap cause d) := by
  unfold readyEvents
  refine keeps_ite (fun _ => Keeps.andThen ?_ (mbxErr_keeps _ _ _ _) (by decide)) (fun _ => ?_)
  all_goals
    refine Keeps.trans ?_ (keeps_ite (fun _ => (raise_keeps _ _ _ _).mono (by decide)) (fun _ => Keeps.refl _ _))
    refine (Keeps.andThen ?_ (raise_keeps _ _ _ _) (by decide)).andThen (raise_keeps _ _ _ _) (by decide)
    exact ⟨fun p hp => by cases p <;> first | rfl | exact absurd (by decide) hp⟩

theorem startReports_keeps {obs : BootObs} (hpass : obs.facetFail = 0) (fb : Bool) (d : Dev) :
    Keeps entryParts d (startReports fb obs d) := by
  unfold startReports
  have hnone : ∀ f, bit obs.facetFail f = false := fun f => by rw [hpass]; simp [bit]
  refine Keeps.trans ?_ (keeps_forAll 13 _ (fun f e => keeps_ite (fun hf => absurd hf (ne_true_of_eq_false (hnone f)))
    (fun _ => Keeps.refl _ e)) _)
  refine Keeps.trans ?_ (keeps_ite (fun _ => Keeps.refl _ _) (fun _ => (raiseI_keeps _ _ _).mono (by decide)))
  refine Keeps.trans ?_ (keeps_ite (fun _ => (raiseI_keeps _ _ _).mono (by decide)) (fun _ => Keeps.refl _ _))
  refine Keeps.trans ?_ (keeps_ite (fun _ => (raiseI_keeps _ _ _).mono (by decide)) (fun _ => Keeps.refl _ _))
  refine Keeps.trans (keeps_ite (fun _ => (raiseI_keeps _ _ d).mono (by decide)) (fun _ => Keeps.refl _ d))
    (keeps_ite (fun _ => ?_) (fun _ => Keeps.refl _ _))
  exact (((keeps_sec _ _).mono (by decide)).andThen (modFw_keeps _ _ _) (by decide)).andThen (raise_keeps _ _ _ _) (by decide)

/-- The fast domains as a start of `d` has set them up, before the entry into READY. -/
def restored (obs : BootObs) (d : Dev) : Dev :=
  caratRestore obs.residualOk (applyJournal (restoreSnap (verdict d d.lkt.slotA obs.locketA)
    (verdict d d.lkt.slotB obs.locketB) d))

/-- The device `e` as a start of `d` hands it to READY. -/
def entered (obs : BootObs) (cause0 t0 : Nat) (d e : Dev) : Dev :=
  let va := verdict d d.lkt.slotA obs.locketA
  let vb := verdict d d.lkt.slotB obs.locketB
  { e with
    sys := { st := .ready, prev := .clasp, cause := if d.boot.recovery then 6 else cause0, seq := 1, up := true,
             factory := e.sys.factory && !e.boot.recovery }
    boot := { e.boot with stat := e.boot.stat + 64 * snapOutcome va vb + 65536 * min 255 ((d.t - t0) / ticksPerMs),
                          why := va + 16 * vb }
    mbx := { doorBusy := d.mbx.doorBusy, udpDrop := d.mbx.udpDrop, hostsel := d.boot.hostsel }
    clasp := { e.clasp with start := none }
    carat := { e.carat with stopT := some t0 } }

theorem entered_keeps (obs : BootObs) (c a : Nat) (d e : Dev) : Keeps entryParts e (entered obs c a d e) :=
  ⟨fun p hp => by cases p <;> first | rfl | exact absurd (by decide) hp⟩

/-- The device once all that a start reports is reported. -/
def reported (obs : BootObs) (cause0 t0 : Nat) (d : Dev) : Dev :=
  startReports (bit d.boot.stat 4) obs (readyEvents
    (snapOutcome (verdict d d.lkt.slotA obs.locketA) (verdict d d.lkt.slotB obs.locketB))
    (if d.boot.recovery then 6 else cause0) (caratResume
      (entered obs cause0 t0 d (bootHardware obs (restored obs d)))))

theorem bootComplete_eq {obs : BootObs} {d : Dev} {k c a : Nat} (hstart : d.clasp.start = some (k, c, a))
    (hgo : ¬(d.sys.up ∨ d.sys.testStop ∨ d.clasp.rstLow)) : bootComplete obs d =
      if (reported obs c a d).gd.estop then enterTrip 0x24 (raiseI 113 0 (reported obs c a d)) else reported obs c a d := by
  unfold bootComplete
  simp only [hstart]
  unfold reported entered restored
  exact if_neg hgo

theorem dev_of_outcome {s s' : State} (h : (.next s : Host.Outcome State Fault Refusal) = .next s') : s'.dev = s.dev := by
  cases h
  rfl

theorem dev_of_start {t : Nat} {obs : BootObs} {s s' : State} (hexec : exec (.bootComplete t obs) s = .next s') :
    s'.dev = bootComplete obs (devAt s t) :=
  dev_of_outcome (s := { s with
    hostMem := if (devAt s t).clasp.start.isSome &&
      !((devAt s t).sys.up || (devAt s t).sys.testStop || (devAt s t).clasp.rstLow) then [] else s.hostMem
    dev := bootComplete obs (devAt s t) }) hexec

theorem reported_keeps {obs : BootObs} (hpass : obs.facetFail = 0) (c a : Nat) (d : Dev) :
    Keeps entryParts (bootHardware obs (restored obs d)) (reported obs c a d) :=
  ((entered_keeps obs c a d _).andThen (caratResume_keeps _) (by decide)).trans
    ((readyEvents_keeps _ _ _).trans (startReports_keeps hpass _ _))

/-! ### The state -/

/-- A start is under way, and a scan item of Facet 0 still carries a value of `lane.mode` that is to come into force. -/
def laneUnderWay : State :=
  { State.reset with dev := { State.reset.dev with
      clasp := { State.reset.dev.clasp with start := some (0, 4, 0) }
      prm := { State.reset.dev.prm with active := [(pkey 0x5004 0, 0), (pkey 0x5042 0, 0)] }
      acq := { State.reset.dev.acq with
        facets := [(0, { due := [{ pos := 0, at_ := 0, change := [(pkey 0xC000 2, some 1)] }] })] } } }

/-- Nothing fails, no slot of the Locket is read with an error, and ESTOP is high. -/
def goodBoot : BootObs := ⟨0, 0, 0, false, true, false⟩

/-- The scans of the start that is under way. -/
def laneScans : Dev := startScanned goodBoot (restored goodBoot (devAt laneUnderWay 0))

theorem laneScans_lock : laneScans.clk.lock = 31 := by decide +kernel

theorem laneScans_estop : laneScans.gd.estop = false := by decide +kernel

theorem laneScans_lane : prm laneScans 0xC000 2 = 1 := by decide +kernel

theorem laneScans_buildsLittle : BuildsLittle laneScans :=
  ⟨by decide +kernel, by decide +kernel, by decide +kernel, by decide +kernel, by decide +kernel⟩

theorem laneBoot_keeps : Keeps entryParts (bootHardware goodBoot (restored goodBoot (devAt laneUnderWay 0)))
    (bootComplete goodBoot (devAt laneUnderWay 0)) := by
  have hrep : Keeps entryParts (bootHardware goodBoot (restored goodBoot (devAt laneUnderWay 0)))
      (reported goodBoot 4 0 (devAt laneUnderWay 0)) := reported_keeps rfl 4 0 _
  have hestop : (reported goodBoot 4 0 (devAt laneUnderWay 0)).gd.estop = false :=
    (congrArg Gd.estop ((hrep.gd (by decide)).trans (bootHardware_gd _ _))).trans laneScans_estop
  rw [bootComplete_eq (d := devAt laneUnderWay 0) (k := 0) (c := 4) (a := 0) rfl (by decide), if_neg (ne_true_of_eq_false hestop)]
  exact hrep

theorem laneBoot_lock : (bootComplete goodBoot (devAt laneUnderWay 0)).clk.lock = 31 :=
  (congrArg Clk.lock ((laneBoot_keeps.clk (by decide)).trans (bootHardware_clk _ _))).trans laneScans_lock

theorem laneBoot_lane : prm (bootComplete goodBoot (devAt laneUnderWay 0)) 0xC000 2 = 1 :=
  ((bootHardware_beyond laneScans_buildsLittle).trans (laneBoot_keeps.beyond (by decide)) 0xC000 2 (by decide)).trans
    laneScans_lane

theorem loopsNeeded_of_lane {d : Dev} (h : prm d 0xC000 2 = 1) : 47 ≤ loopsNeeded d := by
  have hused : (List.range 6).any (fun k => laneUsed d (k + 2)) = true :=
    List.any_eq_true.mpr ⟨0, by decide, by simp [laneUsed, h]⟩
  unfold loopsNeeded
  rw [if_pos hused]
  omega

/-- Refutes O40: a value of `lane.mode` that a stopped scan still carries comes into force once the loops are locked, so a
lane is in use in READY whose channel is not among the locked loops. -/
theorem not_startCompletes : ¬ Obligations.StartCompletes := by
  unfold Obligations.StartCompletes
  rintro ⟨hready, -⟩
  obtain ⟨s', hrun, -, -, -, -, -, -, -, -, -, -, -, -, -, hlock, -⟩ :=
    hready laneUnderWay 0 0 4 0 goodBoot rfl rfl rfl rfl rfl
  have hdev : s'.dev = bootComplete goodBoot (devAt laneUnderWay 0) := dev_of_start hrun
  rw [hdev, laneBoot_lock] at hlock
  exact absurd (hlock ▸ loopsNeeded_of_lane laneBoot_lane) (by decide)

end Sys2Proof.Safety
end

section
/-!
PROOF. What the work of an epoch tick may touch (R29, R383): the measurements, the protection and the synthesis. Each step of it
leaves the tick, the Clasp domain, the hold-up and the boot registers as they are.
-/
namespace Sys2Proof.Safety

open Sys2Proof.Machine

/-! ### Steps of a tick -/

/-- `e` is `d` after steps of an epoch tick. -/
structure Ticked (d e : Dev) : Prop where
  t : e.t = d.t
  clasp : e.clasp = d.clasp
  hold : e.hold = d.hold
  boot : e.boot = d.boot

theorem Ticked.refl (d : Dev) : Ticked d d := ⟨rfl, rfl, rfl, rfl⟩

theorem Ticked.trans {d e f : Dev} (h : Ticked d e) (k : Ticked e f) : Ticked d f :=
  ⟨k.t.trans h.t, k.clasp.trans h.clasp, k.hold.trans h.hold, k.boot.trans h.boot⟩

theorem Ticked.of {ps : List Part} {d e : Dev} (h : Keeps ps d e) (hp : ∀ p ∈ [Part.t, .clasp, .hold, .boot], p ∉ ps) :
    Ticked d e :=
  ⟨h.t (hp _ (by decide)), h.clasp (hp _ (by decide)), h.hold (hp _ (by decide)), h.boot (hp _ (by decide))⟩

theorem Ticked.ite {d e f : Dev} {c : Prop} [Decidable c] (he : Ticked d e) (hf : Ticked d f) :
    Ticked d (if c then e else f) := by
  split
  · exact he
  · exact hf

theorem Ticked.fold {β : Type} {d e : Dev} {g : Dev → β → Dev} {l : List β} (hg : ∀ x b, Ticked x (g x b)) (h : Ticked d e) :
    Ticked d (l.foldl g e) := by
  induction l generalizing e with
  | nil => exact h
  | cons b l ih => exact ih (h.trans (hg e b))

theorem Ticked.each {d e : Dev} {n : Nat} {f : Nat → Dev → Dev} (hf : ∀ k x, Ticked x (f k x)) (h : Ticked d e) :
    Ticked d (forAll n f e) := Ticked.fold (fun x k => hf k x) h

/-! The parts that a step may replace. -/

theorem Ticked.sys {d e : Dev} {x : Sys} (h : Ticked d e) : Ticked d { e with sys := x } := ⟨h.t, h.clasp, h.hold, h.boot⟩

theorem Ticked.gs {d e : Dev} {x : Gs} (h : Ticked d e) : Ticked d { e with gs := x } := ⟨h.t, h.clasp, h.hold, h.boot⟩

theorem Ticked.rt {d e : Dev} {x : Rt} (h : Ticked d e) : Ticked d { e with rt := x } := ⟨h.t, h.clasp, h.hold, h.boot⟩

theorem Ticked.charm {d e : Dev} {x : Charm} (h : Ticked d e) : Ticked d { e with charm := x } :=
  ⟨h.t, h.clasp, h.hold, h.boot⟩

theorem Ticked.setr {d e : Dev} {x : Setter} (h : Ticked d e) : Ticked d { e with setr := x } :=
  ⟨h.t, h.clasp, h.hold, h.boot⟩

theorem Ticked.acq {d e : Dev} {x : Acq} (h : Ticked d e) : Ticked d { e with acq := x } := ⟨h.t, h.clasp, h.hold, h.boot⟩

theorem Ticked.commit {d e : Dev} {x : Option CommitJob} (h : Ticked d e) : Ticked d { e with commit := x } :=
  ⟨h.t, h.clasp, h.hold, h.boot⟩

theorem Ticked.params {d e : Dev} {x : Params} (h : Ticked d e) : Ticked d { e with prm := x } :=
  ⟨h.t, h.clasp, h.hold, h.boot⟩

theorem Ticked.pnd {d e : Dev} {x : Pnd} (h : Ticked d e) : Ticked d { e with pnd := x } := ⟨h.t, h.clasp, h.hold, h.boot⟩

theorem Ticked.carat {d e : Dev} {x : Carat} (h : Ticked d e) : Ticked d { e with carat := x } :=
  ⟨h.t, h.clasp, h.hold, h.boot⟩

theorem Ticked.chain {d e : Dev} {x : Chain} (h : Ticked d e) : Ticked d { e with chain := x } :=
  ⟨h.t, h.clasp, h.hold, h.boot⟩

theorem Ticked.prm {d e : Dev} {p i v : Nat} (h : Ticked d e) : Ticked d (setPrm p i v e) :=
  h.trans (.of (setPrm_keeps p i v e) (by decide))

theorem Ticked.cas {d e : Dev} {c : Nat} {f : Cas → Cas} (h : Ticked d e) : Ticked d (modCas c f e) :=
  h.trans (.of (modCas_keeps c f e) (by decide))

theorem Ticked.leg {d e : Dev} {n : Nat} {f : Leg → Leg} (h : Ticked d e) : Ticked d (modLeg n f e) :=
  h.trans (.of (modLeg_keeps n f e) (by decide))

theorem Ticked.pvIn {d e : Dev} {q : Nat} {f : PvIn → PvIn} (h : Ticked d e) : Ticked d (modPv q f e) :=
  h.trans (.of (modPv_keeps q f e) (by decide))

theorem Ticked.vref {d e : Dev} {q : Nat} {v : Rat} {r : Int} (h : Ticked d e) : Ticked d (setVref q v r e) :=
  h.trans (.of (setVref_keeps q v r e) (by decide))

theorem Ticked.event {d e : Dev} {k i : Nat} {vs : List Byte} (h : Ticked d e) : Ticked d (raise k i vs e) :=
  h.trans (.of (raise_keeps k i vs e) (by decide))

theorem Ticked.eventI {d e : Dev} {k i : Nat} (h : Ticked d e) : Ticked d (raiseI k i e) :=
  h.trans (.of (raiseI_keeps k i e) (by decide))

theorem Ticked.points {d e : Dev} {p : Nat} {xs : List Rat} (h : Ticked d e) :
    Ticked d ((xs.zipIdx).foldl (fun x (v, i) => putF (p + i) v x) e) :=
  h.fold (fun x b => .of (putF_keeps (p + b.2) b.1 x) (by decide))

theorem Ticked.enters {d e : Dev} {st : OpState} {c : Nat} (h : Ticked d e) : Ticked d (transition st c e) :=
  h.trans (.of (transition_keeps st c e) (by decide))

theorem Ticked.trips {d e : Dev} {c : Nat} (h : Ticked d e) : Ticked d (enterTrip c e) :=
  h.trans (.of (enterTrip_keeps c e) (by decide))

theorem Ticked.built {d e f : Dev} (h : Ticked d e) (k : Built e f) : Ticked d f := h.trans (.of k (by decide))

/-! ### Measurements -/

theorem estimate_ticked (d : Dev) : Ticked d (estimate d) := Ticked.ite (Ticked.gs (.refl d)) (Ticked.gs (.refl d))

theorem rawStep_ticked (d : Dev) : Ticked d (rawStep d) := Ticked.ite (Ticked.gs (.refl d)) (Ticked.gs (.refl d))

theorem lockStep_ticked (d : Dev) : Ticked d (lockStep d) :=
  Ticked.ite (.refl d) (Ticked.ite (Ticked.ite (Ticked.event (Ticked.gs (Ticked.gs (.refl d)))) (Ticked.gs (.refl d)))
    (Ticked.ite (Ticked.event (Ticked.gs (Ticked.gs (.refl d)))) (Ticked.gs (.refl d))))

theorem measure_ticked (d : Dev) : Ticked d (measure d) :=
  Ticked.ite (Ticked.gs (.refl d)) ⟨rfl, rfl, rfl, rfl⟩

theorem timerStep_ticked (d : Dev) : Ticked d (timerStep d) := Ticked.rt (Ticked.ite (Ticked.rt (.refl d)) (.refl d))

theorem rtEvaluate_ticked (d : Dev) : Ticked d (rtEvaluate d) :=
  Ticked.rt (Ticked.rt ((Ticked.rt (.refl d)).trans (timerStep_ticked _)))

theorem timeOkStep_ticked (d : Dev) : Ticked d (timeOkStep d) := .of (charmTime_keeps _ d) (by decide)

theorem epochFacts_ticked (d : Dev) : Ticked d (epochFacts d) :=
  (estimate_ticked d).trans ((rawStep_ticked _).trans ((lockStep_ticked _).trans ((measure_ticked _).trans
    ((rtEvaluate_ticked _).trans (timeOkStep_ticked _)))))

/-! ### Ride-through and the forming of a grid -/

theorem rtFire_ticked (d : Dev) : Ticked d (rtFire d) :=
  Ticked.ite (.of (trigger_keeps _ _ _ _ _ d) (by decide)) (.refl d)

theorem rideStep_ticked (d : Dev) : Ticked d (rideStep d) :=
  Ticked.ite (Ticked.ite (Ticked.trips (.refl d)) ((Ticked.enters (Ticked.rt (.refl d))).trans (rtFire_ticked _))) (.refl d)

theorem rideJump_ticked (lost : Bool) (d : Dev) : Ticked d (rideJump lost d) := by
  unfold rideJump
  refine Ticked.ite (Ticked.ite ?_ (Ticked.ite ⟨rfl, rfl, rfl, rfl⟩ (.refl d))) (.refl d)
  split
  · exact .refl d
  · exact Ticked.sys (.refl d)

theorem formStep_ticked (auto : Auto) (k : Nat) (d : Dev) : Ticked d (formStep auto k d) := by
  have hland : ∀ c, Ticked d (formLand c k d) := fun c => Ticked.enters (Ticked.gs (.refl d))
  unfold formStep
  refine Ticked.ite (.refl d) ?_
  split
  · exact Ticked.ite (hland 0x05) (.refl d)
  · exact Ticked.ite (hland _) (.refl d)
  · exact Ticked.ite (Ticked.enters ⟨rfl, rfl, rfl, rfl⟩) (.refl d)
  · exact .refl d

theorem formTick_ticked (auto : Auto) (d : Dev) : Ticked d (formTick auto d) :=
  Ticked.ite (.refl d) (formStep_ticked auto d.t d)

/-! ### Charm -/

theorem restarts_ticked (d : Dev) : Ticked d (charmRestart d) := .of (charmRestart_keeps d) (by decide)

theorem chipClose_ticked (m : Nat) (d : Dev) : Ticked d (chipClose m d) := by
  unfold chipClose
  refine Ticked.charm ?_
  split
  · refine Ticked.ite (Ticked.charm ?_) (restarts_ticked d)
    split
    · exact Ticked.ite (.refl d) (restarts_ticked d)
    · exact .refl d
  · exact restarts_ticked d

theorem correlateStep_ticked (d : Dev) : Ticked d (correlateStep d) := Ticked.ite (Ticked.charm (.refl d)) (Ticked.charm (.refl d))

theorem noiseStep_ticked (d : Dev) : Ticked d (noiseStep d) :=
  Ticked.ite (Ticked.eventI (Ticked.charm (.refl d))) (Ticked.charm (.refl d))

theorem trip23_ticked (d : Dev) : Ticked d (trip23 d) := .of (trip23_keeps d) (by decide)

theorem islanding_ticked (d : Dev) : Ticked d (islanding d) := by
  have hmark : ∀ (f : RecUnit → RecUnit) (x : Charm) (y : Loupe),
      Ticked d (raiseI 66 0 { forAll 4 (fun u e => modUnit u f e) { d with loupe := y } with charm := x }) := fun f _ _ =>
    Ticked.eventI (Ticked.charm (Ticked.each (fun u e => .of (modUnit_keeps u f e) (by decide)) ⟨rfl, rfl, rfl, rfl⟩))
  exact Ticked.ite ((hmark _ _ _).trans (trip23_ticked _)) (hmark _ _ _)

theorem decideStep_ticked (d : Dev) : Ticked d (decideStep d) :=
  Ticked.ite ((Ticked.charm (.refl d)).trans (islanding_ticked _)) (Ticked.ite (Ticked.charm (.refl d)) (.refl d))

theorem suspect_ticked (m : Nat) (d : Dev) : Ticked d (suspect m d) :=
  Ticked.ite (.refl d) (Ticked.ite (Ticked.charm (.refl d)) (Ticked.eventI (Ticked.charm (.refl d))))

theorem passiveStep_ticked (d : Dev) : Ticked d (passiveStep d) := by
  have hquant : ∀ e, Ticked e (passiveQuantities e) := fun e => Ticked.ite (Ticked.charm (.refl e)) (Ticked.charm (.refl e))
  have hseen : ∀ x : Charm, Ticked d (passiveQuantities (if d.gs.jump ∧ runLike d then { d with charm := x } else d)) :=
    fun x => (Ticked.ite (Ticked.charm (.refl d)) (.refl d)).trans (hquant _)
  exact Ticked.ite (Ticked.ite (((Ticked.charm (hseen _)).trans (suspect_ticked _ _)).charm.trans (islanding_ticked _))
    ((Ticked.charm (hseen _)).trans (suspect_ticked _ _))) (Ticked.charm (hseen _))

theorem charmStep_ticked (d : Dev) : Ticked d (charmStep d) := by
  have hrec : ∀ e, Ticked e (recStep e) := fun e => Ticked.ite (Ticked.charm (.refl e)) (Ticked.charm (.refl e))
  have htrip : ∀ e, Ticked e (noTimeTrip e) := fun e => Ticked.ite (trip23_ticked e) (.refl e)
  exact (chipClose_ticked _ d).trans ((correlateStep_ticked _).trans ((noiseStep_ticked _).trans ((passiveStep_ticked _).trans
    ((decideStep_ticked _).trans ((htrip _).trans (hrec _))))))

theorem probeStep_ticked (m : Nat) (d : Dev) : Ticked d (probeStep m d) :=
  Ticked.charm (Ticked.ite (.refl d) (.of (charmStop_keeps d) (by decide)))

/-! ### Step 1 -/

theorem powerOff_ticked (d : Dev) : Ticked d (powerOff d) :=
  (Ticked.gs (.refl d)).trans (.of (zeroPower_keeps _) (by decide))

theorem svcExit_ticked (d : Dev) : Ticked d (svcExit d) := by
  have hready : Ticked d (enterReady 0x32 (stopPower d)) :=
    (Ticked.of (legsOut_keeps d) (by decide)).trans ((powerOff_ticked _).trans (.of (enterReady_keeps _ _) (by decide)))
  unfold svcExit
  dsimp only
  split
  · exact Ticked.ite (Ticked.enters (.refl d)) hready
  · exact Ticked.ite (Ticked.enters (.refl d)) hready
  · exact hready

theorem tripStep_ticked (lower lost : Bool) (d : Dev) : Ticked d (tripStep lower lost d) := by
  have hend : ∀ e, Ticked e (svcEnd e) := fun e => Ticked.ite (svcExit_ticked e) (.refl e)
  have htrip : Ticked d (charmStep (if mustTrip d then rtFire (enterTrip 0x22 d) else d)) :=
    (Ticked.ite ((Ticked.trips (.refl d)).trans (rtFire_ticked _)) (.refl d)).trans (charmStep_ticked _)
  have hstandby : ∀ e, Ticked e (standbyDecide e) := fun e => Ticked.ite (.of (gdDemand_keeps true e) (by decide)) (.refl e)
  exact Ticked.ite ((charmStep_ticked d).trans (hstandby _)) (Ticked.ite
    (htrip.trans ((rideStep_ticked _).trans ((rideJump_ticked lost _).trans (hend _))))
    (Ticked.ite (htrip.trans (rideStep_ticked _)) htrip))

end Sys2Proof.Safety
end

section
/-!
PROOF. What the work of an epoch tick may touch (R29, R383): commits, placements, the writes of the synthesis, PV and the channel.
-/
namespace Sys2Proof.Safety

open Sys2Proof.Machine

/-! ### Step 2: calibrations and commits -/

theorem Ticked.ends {d e : Dev} {slot st dt : Nat} {resp : List Byte} (h : Ticked d e) :
    Ticked d (finishLong slot st dt resp e) := h.trans (.of (finishLong_keeps slot st dt resp e) (by decide))

theorem Ticked.saves {d e : Dev} (h : Ticked d e) : Ticked d (snapshot e) := h.trans (.of (snapshot_keeps e) (by decide))

theorem landGroups_ticked (m : Nat) (d : Dev) : Ticked d (landGroups m d) := .of (landGroups_keeps m d) (by decide)

theorem landAudited_ticked (j : CommitJob) (x : Ctx) (a d : Dev) :
    Ticked d (audit j x (lineRise a (landGroups j.groups d))) :=
  ((landGroups_ticked j.groups d).trans (.of (lineRise_keeps a _) (by decide))).trans (.of (audit_keeps j x _) (by decide))

theorem commitLand_ticked (d : Dev) : Ticked d (commitLand d) := by
  unfold commitLand
  split
  · refine Ticked.ite (.refl d) (Ticked.ite (Ticked.eventI (Ticked.commit (.refl d))) (Ticked.ite (Ticked.ends ?_)
      (Ticked.saves (Ticked.ends (Ticked.sys ?_)))))
    · exact .of (dropCommit_keeps d) (by decide)
    · exact (Ticked.commit (.refl d)).trans (landAudited_ticked _ _ d _)
  · exact .refl d

theorem keepOwn_ticked {f : Dev → Dev} (hf : ∀ x, Ticked x (f x)) (d : Dev) : Ticked d (keepOwn f d) :=
  Ticked.params ((Ticked.params (.refl d)).trans (hf _))

theorem mirrorLand_ticked (d : Dev) : Ticked d (mirrorLand d) := by
  unfold mirrorLand
  split
  · refine Ticked.ite (.refl d) (Ticked.saves (Ticked.sys ?_))
    exact (Ticked.pnd (.refl d)).trans (keepOwn_ticked (landGroups_ticked _) _)
  · exact .refl d

theorem calLand_ticked (d : Dev) : Ticked d (calLand d) := by
  refine Ticked.acq (Ticked.fold (fun x kv => ?_) (.refl d))
  split
  · exact Ticked.prm (.refl x)
  · exact .refl x

theorem caratLand_ticked (d : Dev) : Ticked d (caratLand d) := by
  refine Ticked.carat (Ticked.fold (fun x kv => ?_) (.refl d))
  split
  · exact Ticked.prm (.refl x)
  · exact .refl x

theorem commitStep_ticked (d : Dev) : Ticked d (commitStep d) :=
  ((calLand_ticked d).trans (caratLand_ticked _)).trans (Ticked.ite (mirrorLand_ticked _) (commitLand_ticked _))

/-! ### Step 3: intents -/

theorem queueSetter_ticked (p idw : Nat) (bs : List Byte) (d : Dev) : Ticked d (queueSetter p idw bs d) := by
  have hport : ∀ f e, Ticked e (modPort p f e) := fun f e => .of (modPort_keeps p f e) (by decide)
  exact Ticked.ite (hport _ d) ((hport _ d).trans (hport _ _))

theorem sendSetRec_ticked (r : SetRec) (d : Dev) : Ticked d (sendSetRec r d) := by
  unfold sendSetRec
  refine Ticked.ite (.refl d) (Ticked.ite (Ticked.chain ?_) ?_)
  all_goals
    exact Ticked.fold (fun x e => .of (sendPtn_keeps e 2 0 48 0 _ x) (by decide))
      (Ticked.fold (fun x pi => queueSetter_ticked pi.1 pi.2 _ x) (.refl d))

theorem Ticked.record {d e : Dev} {r : JRec} (h : Ticked d e) : Ticked d (journal r e) :=
  h.trans (.of (journal_keeps r e) (by decide))

theorem publish_ticked (r : SetRec) (d : Dev) : Ticked d (publish r d) := by
  refine (Ticked.eventI (Ticked.ite (Ticked.setr ?_) ?_)).trans (sendSetRec_ticked r _)
  all_goals exact Ticked.ite (Ticked.record (Ticked.prm (Ticked.setr (Ticked.setr (.refl d))))) (Ticked.setr (.refl d))

theorem retract_ticked (reason : Nat) (d : Dev) : Ticked d (retract reason d) := by
  unfold retract
  split
  · exact (Ticked.setr (.refl d)).trans (publish_ticked _ _)
  · exact .refl d

theorem states_ticked (c : Nat) (a b : Rat) (d : Dev) : Ticked d (putStates c a b d) := Ticked.cas (.refl d)

theorem seedLoop_ticked (c : Nat) (v : Rat) (d : Dev) : Ticked d (seedLoop c v d) :=
  Ticked.ite (states_ticked c 0 0 d) (states_ticked c _ 0 d)

theorem pvLegEnter_ticked (q n : Nat) (d : Dev) : Ticked d (pvLegEnter q n d) :=
  Ticked.ite ((((seedLoop_ticked _ _ d).trans (states_ticked _ 0 0 _)).pvIn).vref) (seedLoop_ticked _ _ d)

theorem enterLeg_ticked (n : Nat) (d : Dev) : Ticked d (enterLeg n d) := by
  unfold enterLeg
  extract_lets d1 d2
  have h1 : Ticked d d1 := Ticked.leg (.refl d)
  have h2 : Ticked d d2 := by
    unfold d2
    split
    · exact Ticked.ite (h1.trans (pvLegEnter_ticked _ n d1)) h1
    · exact h1
  split
  · exact Ticked.ite (h2.trans (seedLoop_ticked _ _ d2)) h2
  · exact h2

theorem putStr_ticked (s : Nat) (w : Rat) (d : Dev) : Ticked d (putStr s w d) :=
  (Ticked.prm (Ticked.prm (.refl d))).built (Built.exp (Built.weights (.refl _)))

theorem noBattery_ticked (d : Dev) : Ticked d (noBattery d) :=
  Ticked.ite (Ticked.eventI (Ticked.setr (.refl d))) (Ticked.setr (.refl d))

theorem landIntent_ticked (r : SetRec) (d : Dev) : Ticked d (landIntent r d) := by
  unfold landIntent
  extract_lets legs r1 down a0 d0 d1 d2 d3 tests s3 g3 d4
  have h0 : Ticked d d0 := Ticked.ite (.refl d) (Ticked.acq (.refl d))
  have h1 : Ticked d d1 := Ticked.each (fun n x => Ticked.ite (.refl x) (Ticked.ite (Ticked.ite (.refl x) (enterLeg_ticked n x))
    (Ticked.ite (Ticked.leg (.refl x)) (Ticked.ite (Ticked.leg (.refl x)) (.refl x))))) h0
  have h2 : Ticked d d2 := Ticked.fold (fun x k => Ticked.eventI (.refl x)) h1
  have h3 : Ticked d d3 := Ticked.each (fun s x => (Ticked.of (modStr_keeps s _ x) (by decide)).trans (putStr_ticked s _ _)) h2
  have h4 : Ticked d d4 := ⟨h3.t, h3.clasp, h3.hold, h3.boot⟩
  exact (h4.trans (publish_ticked _ d4)).trans ((Ticked.of (checkAc_keeps _) (by decide)).trans (noBattery_ticked _))

theorem intentStep_ticked (d : Dev) : Ticked d (intentStep d) := by
  have hland : Ticked d (intentLanding d) := by
    unfold intentLanding
    split
    · exact Ticked.ite (.refl d) (Ticked.ite (Ticked.ite (retract_ticked 8 d) (landIntent_ticked _ d)) (.refl d))
    · exact .refl d
  exact Ticked.ite (.refl d) hland

/-! ### Step 4: the writes of the synthesis -/

theorem landRebuild_ticked (d : Dev) : Ticked d (landRebuild d) := by
  unfold landRebuild
  split
  · exact Ticked.ite (.refl d) ((Ticked.gs (.refl d)).built (rebuildOwned_built _ _))
  · exact .refl d

theorem gains_ticked (d : Dev) : Ticked d (gains d).2 := by
  unfold gains
  dsimp only
  split_ifs <;> exact ⟨rfl, rfl, rfl, rfl⟩

theorem putOsc_ticked (d : Dev) : Ticked d (putOsc d) :=
  (((Ticked.refl d).built (Built.coefs (Built.coefs (.refl _)))).trans (states_ticked _ _ _ _)).trans (states_ticked _ _ _ _)

theorem putReseed_ticked (v : Vec) (d : Dev) : Ticked d (putReseed v d) :=
  (states_ticked _ _ _ d).trans ((states_ticked _ _ _ _).trans ((states_ticked _ _ _ _).trans (states_ticked _ _ _ _)))

theorem synthWrite_ticked (d : Dev) : Ticked d (synthWrite d) := by
  unfold synthWrite
  have hgains := gains_ticked d
  generalize gains d = g at hgains
  obtain ⟨⟨kp, kq, clamped⟩, d1⟩ := g
  dsimp -zeta only
  extract_lets d2 d3 d4 ka d5 d6
  have h2 : Ticked d d2 := Ticked.each (fun s x => (Ticked.refl x).built (Built.set (.refl x))) hgains
  have h3 : Ticked d d3 := Ticked.ite (h2.built (Built.tuned (.refl d2))) h2
  have h5 : Ticked d d5 := (h3.trans (putOsc_ticked d3)).built (Built.fit (Built.fit (.refl d4)))
  have h6 : Ticked d d6 := by
    unfold d6
    split
    · exact Ticked.ite (Ticked.gs (h5.trans (putReseed_ticked _ d5))) h5
    · exact h5
  exact ⟨h6.t, h6.clasp, h6.hold, h6.boot⟩

theorem ownWrites_ticked (m : Auto) (d : Dev) : Ticked d (ownWrites m d) :=
  Ticked.ite (Ticked.gs (.refl d)) ((Ticked.gs (.refl d)).trans (synthWrite_ticked _))

end Sys2Proof.Safety
end

section
/-!
PROOF. The epoch tick (R29, R383, R491): the epoch's work after the four steps, the refresh of the channel, and the whole tick.
-/
namespace Sys2Proof.Safety

open Sys2Proof.Machine

/-! ### The commands of the epoch -/

theorem Ticked.commands {d e : Dev} {p q : Rat} (h : Ticked d e) : Ticked d (landCommands p q e) :=
  Ticked.ite (Ticked.eventI (Ticked.gs h)) (Ticked.gs h)

theorem powerStep_ticked (d : Dev) : Ticked d (powerStep d) := Ticked.commands ⟨rfl, rfl, rfl, rfl⟩

theorem allocate_ticked (d : Dev) : Ticked d (allocate d) := by
  unfold allocate
  extract_lets
  split
  exact Ticked.commands ⟨rfl, rfl, rfl, rfl⟩

theorem commandStep_ticked (d : Dev) : Ticked d (commandStep d) := by
  unfold commandStep
  split
  · exact powerStep_ticked d
  · exact powerStep_ticked d
  · exact Ticked.ite (powerStep_ticked d) (allocate_ticked d)
  · exact Ticked.ite (powerStep_ticked d) (powerOff_ticked d)
  · exact powerOff_ticked d

theorem powerEpoch_ticked (d : Dev) : Ticked d (powerEpoch d) := by
  have hcommand : Ticked d (commandStep (dcSample (dispatchStep d))) :=
    (Ticked.gs (Ticked.gs (.refl d))).trans (commandStep_ticked _)
  have hswing : ∀ e, Ticked e (swing e) := fun e => Ticked.gs (.refl e)
  have hfollow : ∀ e, Ticked e (followE e) := fun e => Ticked.gs (.refl e)
  exact Ticked.ite (hcommand.trans ((measure_ticked _).trans (hswing _))) (hcommand.trans (hfollow _))

theorem asActive_ticked {f : Dev → Dev} (hf : ∀ x, Ticked x (f x)) (d : Dev) : Ticked d (asActive f d) :=
  have h : ∀ (x : Sys) (y : Gs), Ticked d (f { d with sys := x, gs := y }) := fun x y =>
    Ticked.trans (e := { d with sys := x, gs := y }) ⟨rfl, rfl, rfl, rfl⟩ (hf _)
  Ticked.ite (Ticked.sys (h _ _)) (hf d)

/-! ### Watching, tuning, the plant and its points -/

theorem derivedRow_ticked (d : Dev) : Ticked d (derivedRow d) := by
  have hrow : ∀ u r, Ticked d (addRow u r d) := fun u r => .of (addRow_keeps u r d) (by decide)
  have hbreach : ∀ u a b r, Ticked d (violate u a b (addRow u r d)) := fun u a b r =>
    (hrow u r).trans (.of (violate_keeps u a b _) (by decide))
  exact Ticked.ite (Ticked.ite (Ticked.ite (Ticked.eventI (Ticked.rt (hbreach _ _ _ _))) (hbreach _ _ _ _)) (hrow _ _)) (.refl d)

theorem watchEpoch_ticked (d : Dev) : Ticked d (watchEpoch d) := by
  have hruns : ∀ e, Ticked e (exitRuns e) := fun e => ⟨rfl, rfl, rfl, rfl⟩
  have harm : ∀ e, Ticked e (armOwn e) := fun e => Ticked.ite (Ticked.ite
    ((Ticked.of (landCfg_keeps _ e) (by decide)).trans (.of (modUnit_keeps _ _ _) (by decide))) (.refl e)) (.refl e)
  exact (hruns d).trans ((derivedRow_ticked _).trans (harm _))

theorem tuneEpoch_ticked (d : Dev) : Ticked d (tuneEpoch d) := by
  have hage : ∀ e, Ticked e (ageStep e) := fun e => Ticked.gs (Ticked.each (fun s x => Ticked.ite (.refl x)
    (Ticked.ite (Ticked.eventI (Ticked.gs (Ticked.gs (.refl x)))) (Ticked.gs (.refl x)))) (.refl e))
  have hmiss : ∀ e, Ticked e (missStep e) := fun e => Ticked.ite (Ticked.eventI (Ticked.gs (.refl e))) (.refl e)
  have htune : ∀ e, Ticked e (retuneStep e) := fun e => Ticked.ite (Ticked.gs (.refl e)) (.refl e)
  exact (hage d).trans ((hmiss _).trans (htune _))

theorem vrefLand_ticked (q : Nat) (d : Dev) : Ticked d (vrefLand q d) := by
  unfold vrefLand
  split
  · exact .refl d
  · exact Ticked.ite (Ticked.vref ⟨rfl, rfl, rfl, rfl⟩) (Ticked.vref (Ticked.pvIn (.refl d)))

theorem pvEpochIn_ticked (q : Nat) (d : Dev) : Ticked d (pvEpochIn q d) := by
  have hin : ∀ f, Ticked d (ceilStep q (modPv q f d)) := fun f => Ticked.pvIn (Ticked.pvIn (.refl d))
  exact Ticked.ite ((hin _).trans (.of (sweepAbort_keeps _) (by decide))) (hin _)

theorem sweepReturn_ticked (q : Nat) (v p : Rat) (d : Dev) : Ticked d (sweepReturn q v p d) :=
  Ticked.pvIn ⟨rfl, rfl, rfl, rfl⟩

theorem sweepExtract_ticked (d : Dev) : Ticked d (sweepExtract d) := by
  have hraise : ∀ (f : PvIn → PvIn) (n : Nat), Ticked d (raiseI 70 d.pv.sweepQ (modPv d.pv.sweepQ f { d with free := n })) :=
    fun _ _ => Ticked.eventI (Ticked.pvIn ⟨rfl, rfl, rfl, rfl⟩)
  exact Ticked.ite (Ticked.ite ((Ticked.pvIn (hraise _ _)).trans (sweepReturn_ticked _ _ _ _))
    ((hraise _ _).trans (sweepReturn_ticked _ _ _ _))) (.refl d)

theorem pvEpoch_ticked (d : Dev) : Ticked d (pvEpoch d) := by
  have hins : Ticked d (sweepExtract (forAll (pvCount d) (fun q x => pvEpochIn q (vrefLand q x)) d)) :=
    (Ticked.each (fun q x => (vrefLand_ticked q x).trans (pvEpochIn_ticked q _)) (.refl d)).trans (sweepExtract_ticked _)
  exact Ticked.each (fun q x => Ticked.ite (.refl x) (Ticked.ite (.refl x) (Ticked.pvIn (.refl x)))) hins

theorem stressStep_ticked (d : Dev) : Ticked d (stressStep d) :=
  Ticked.each (fun _ x => Ticked.ite (.refl x) (Ticked.leg (.refl x))) (.refl d)

theorem qualStep_ticked (d : Dev) : Ticked d (qualStep d) :=
  Ticked.each (fun _ x => Ticked.ite (.refl x) (Ticked.eventI (Ticked.carat (.refl x)))) (.refl d)

theorem freezeStep_ticked (d : Dev) : Ticked d (freezeStep d) :=
  Ticked.ite ((Ticked.setr (.refl d)).trans (retract_ticked 7 _)) (Ticked.setr (.refl d))

theorem plantEpoch_ticked (d : Dev) : Ticked d (plantEpoch d) := by
  have hsums : ∀ e, Ticked e (setterStep e) := fun e => Ticked.setr (Ticked.setr (.refl e))
  have hplant : Ticked d (stressStep (pvEpoch d)) := (pvEpoch_ticked d).trans (stressStep_ticked _)
  exact (Ticked.ite hplant (hplant.trans ((hsums _).trans (freezeStep_ticked _)))).trans (qualStep_ticked _)

theorem pointsEpoch_ticked (d : Dev) : Ticked d (pointsEpoch d) := by
  have hpv : ∀ e, Ticked e (pvPoints e) := fun e => Ticked.each (fun q x => Ticked.points (.refl x)) (.refl e)
  exact (Ticked.points (Ticked.points (Ticked.points (.refl d)))).trans ((hpv _).trans (Ticked.points (.refl _)))

/-! ### The channel and the services of the epoch -/

/-- `e` is `d` after services of the epoch: steps of a tick that leave the refresh of the channel as it is. -/
structure Serves (d e : Dev) : Prop extends Ticked d e where
  refreshT : e.gd.refreshT = d.gd.refreshT
  watch : e.gd.watch = d.gd.watch

theorem Serves.refl (d : Dev) : Serves d d := ⟨.refl d, rfl, rfl⟩

theorem Serves.trans {d e f : Dev} (h : Serves d e) (k : Serves e f) : Serves d f :=
  ⟨h.toTicked.trans k.toTicked, k.refreshT.trans h.refreshT, k.watch.trans h.watch⟩

theorem Serves.of {ps : List Part} {d e : Dev} (h : Keeps ps d e) (hp : ∀ p ∈ [Part.t, .clasp, .hold, .boot, .gd], p ∉ ps) :
    Serves d e :=
  have hgd := h.gd (hp _ (by decide))
  ⟨.of h fun p hm => hp p (by revert p; decide), congrArg Gd.refreshT hgd, congrArg Gd.watch hgd⟩

theorem Serves.ite {d e f : Dev} {c : Prop} [Decidable c] (he : Serves d e) (hf : Serves d f) :
    Serves d (if c then e else f) := by
  split
  · exact he
  · exact hf

theorem Serves.pnd {d e : Dev} {x : Pnd} (h : Serves d e) : Serves d { e with pnd := x } :=
  ⟨h.toTicked.pnd, h.refreshT, h.watch⟩

theorem Serves.sec {d e : Dev} {x : Sec} (h : Serves d e) : Serves d { e with sec := x } :=
  ⟨⟨h.t, h.clasp, h.hold, h.boot⟩, h.refreshT, h.watch⟩

theorem Serves.ends {d e : Dev} {slot st dt : Nat} {resp : List Byte} (h : Serves d e) :
    Serves d (finishLong slot st dt resp e) := h.trans (.of (finishLong_keeps slot st dt resp e) (by decide))

theorem gdOff_serves (d : Dev) : Serves d (gdOff d) :=
  ⟨.of (gdOff_keeps d) (by decide), rfl, rfl⟩

theorem pndEpoch_serves (d : Dev) : Serves d (pndEpoch d) := by
  have hsync : ∀ e, Serves e (syncStep e) := fun e =>
    Serves.ite ((Serves.pnd (.refl e)).trans (.of (setSynced_keeps _ _) (by decide))) (.refl e)
  have hhold : ∀ e, Serves e (pairHoldStep e) := fun e => by
    have hoff : ∀ (c : Prop) [Decidable c], Serves e (if c then gdOff e else e) := fun c _ => Serves.ite (gdOff_serves e) (.refl e)
    exact Serves.ite (Serves.ite ⟨⟨(hoff _).t, (hoff _).clasp, (hoff _).hold, (hoff _).boot⟩, (hoff _).refreshT, (hoff _).watch⟩
      (hoff _)) (.refl e)
  have hdone : ∀ e, Serves e (pairDone e) := fun e => by
    unfold pairDone
    split
    · exact Serves.ite (Serves.ends (Serves.pnd (.refl e))) (.refl e)
    · exact .refl e
  have hcancel : ∀ e, Serves e (swapCancel e) := fun e => by
    unfold swapCancel
    refine Serves.pnd ?_
    split
    · exact Serves.ends (.refl e)
    · exact .refl e
  have hswap : ∀ e, Serves e (swapStep e) := fun e => Serves.ite (.refl e) (Serves.ite (Serves.ite (.refl e) (hcancel e))
    (Serves.ite (.refl e) (hcancel e)))
  have hpair : Serves d (swapStep (pairDone (pairHoldStep (syncStep d)))) :=
    (hsync d).trans ((hhold _).trans ((hdone _).trans (hswap _)))
  exact Serves.ite (hpair.trans (.of (control_keeps _ _ _ _) (by decide))) hpair

theorem liveStep_serves (d : Dev) : Serves d (liveStep d) := by
  have hcancel : Serves d (liveCancel d) := by
    unfold liveCancel
    split
    · exact .refl d
    · exact Serves.ite (.refl d) (Serves.ends ((Serves.sec (.refl d)).trans (.of (modFw_keeps _ _ _) (by decide))))
  exact Serves.ite (.refl d) hcancel

theorem attestStep_serves (d : Dev) : Serves d (attestStep d) := by
  unfold attestStep
  split
  · exact Serves.ite (Serves.sec (.refl d)) (.refl d)
  · exact .refl d

theorem epochPhase_serves (d : Dev) : Serves d (epochPhase d) := by
  have hphase : ∀ x : Clk, Serves d (forAll 12 (fun f e => restartFacet f 2 (flushFacet f e)) { d with clk := x }) := fun x =>
    Serves.trans (e := { d with clk := x }) ⟨⟨rfl, rfl, rfl, rfl⟩, rfl, rfl⟩ (.of (keeps_forAll (ps := [.acq, .prm]) 12 _
      (fun f e => (flushFacet_keeps f e).andThen (restartFacet_keeps f 2 _) (by decide)) _) (by decide))
  exact Serves.ite (Serves.ite (.refl d) (hphase _)) (.refl d)

theorem probeSend_keeps (d : Dev) : Keeps [.chain] d (probeSend d) :=
  keeps_ite (fun _ => keeps_forAll 8 _ (fun _ e => keeps_ite (fun _ => keeps_chain _ e) (fun _ => Keeps.refl _ e)) d)
    (fun _ => Keeps.refl _ d)

/-- The refresh of the channel by the epoch (R491). -/
theorem gdEpoch_refreshes (d : Dev) :
    Ticked d (gdEpoch d) ∧ (gdEpoch d).gd.refreshT = d.t ∧ (gdEpoch d).gd.watch = true := by
  unfold gdEpoch
  extract_lets ok d1
  have h1 : Ticked d d1 ∧ d1.gd.refreshT = d.t ∧ d1.gd.watch = true := ⟨⟨rfl, rfl, rfl, rfl⟩, rfl, rfl⟩
  have hend : Serves d1 (if d1.gd.closing ∧ ¬ d1.gd.pairHold ∧ ¬ closeConds d1 then gdOff d1
      else if d1.sys.st = .sync ∧ ¬ d1.sys.standby ∧ d1.gd.closed ∧ ¬ d1.gd.opening ∧ (d1.rt.regU = 2 ∨ d1.rt.regF = 2) then
        gdOff d1
      else d1) := Serves.ite (gdOff_serves d1) (Serves.ite (gdOff_serves d1) (.refl d1))
  obtain ⟨hticked, hrefresh, hwatch⟩ := h1
  exact ⟨hticked.trans hend.toTicked, hend.refreshT.trans hrefresh, hend.watch.trans hwatch⟩

/-- What a whole tick leaves: the channel refreshed, and no lane cycle used yet. -/
structure TickDone (d e : Dev) : Prop extends Ticked d e where
  refreshT : e.gd.refreshT = d.t
  watch : e.gd.watch = true
  cycles : e.fil.cycles = 0

theorem serviceEpoch_done (d : Dev) : TickDone d (serviceEpoch d) := by
  obtain ⟨hticked, hrefresh, hwatch⟩ := gdEpoch_refreshes d
  unfold serviceEpoch
  extract_lets d1 d2
  have hserves : Serves (gdEpoch d) d2 :=
    (pndEpoch_serves _).trans ((liveStep_serves _).trans ((attestStep_serves _).trans ((epochPhase_serves _).trans
      (.of (probeSend_keeps _) (by decide)))))
  have hall := hticked.trans hserves.toTicked
  exact ⟨⟨hall.t, hall.clasp, hall.hold, hall.boot⟩, hserves.refreshT.trans hrefresh, hserves.watch.trans hwatch, rfl⟩

theorem epochBody_done (lower : Bool) (d : Dev) : TickDone d (epochBody lower d) := by
  unfold epochBody
  extract_lets auto0 f d1 d2 d3
  have h1 : Ticked d d1 := (epochFacts_ticked d).trans ((tripStep_ticked lower _ f).trans ((commitStep_ticked _).trans
    (intentStep_ticked _)))
  have h2 : Ticked d d2 := (h1.trans (Ticked.ite (formTick_ticked auto0 d1) (.refl d1))).trans ((landRebuild_ticked _).trans
    (ownWrites_ticked _ _))
  have h3 : Ticked d d3 := h2.trans ((probeStep_ticked _ d2).trans (asActive_ticked powerEpoch_ticked _))
  have h4 := h3.trans ((watchEpoch_ticked d3).trans ((tuneEpoch_ticked _).trans ((plantEpoch_ticked _).trans
    (pointsEpoch_ticked _))))
  have hdone := serviceEpoch_done (pointsEpoch (plantEpoch (tuneEpoch (watchEpoch d3))))
  exact ⟨h4.trans hdone.toTicked, hdone.refreshT.trans h4.t, hdone.watch, hdone.cycles⟩

theorem epochTick_done {d : Dev} (h : epochRuns d = true) : TickDone d (epochTick d) := by
  have hranked : TickDone d (ranked d (epochBody true d)) := by
    unfold ranked
    extract_lets r1
    split
    · exact epochBody_done false d
    · exact epochBody_done true d
  rw [show epochTick d = ranked d (epochBody true d) from if_pos h]
  exact hranked

theorem Ticked.keeps {d e : Dev} (h : Ticked d e) : Keeps (allBut [.clasp, .hold, .boot]) d e :=
  ⟨fun p hp => by
    cases p
    case clasp => exact h.clasp.symm
    case hold => exact h.hold.symm
    case boot => exact h.boot.symm
    case t => exact h.t.symm
    all_goals exact absurd (by decide) hp⟩

/-- Settles O29: no step of the tick touches the Clasp domain, the hold-up or the boot registers; of the epoch's services,
which come last, the channel's is the refresh, and none after it disarms the watch. -/
theorem epochTicks : Obligations.EpochTicks := by
  unfold Obligations.EpochTicks
  refine ⟨fun s t hruns => ?_, fun s t hidle => ?_⟩
  · have hdone := epochTick_done hruns
    exact runs_eq rfl rfl hdone.toTicked.keeps (by decide) ⟨hdone.refreshT, hdone.watch, hdone.cycles⟩
  · have hsame : epochTick (devAt s t) = devAt s t := if_neg (ne_true_of_eq_false hidle)
    exact runs_eq rfl hsame (Keeps.refl [] _) (by decide) trivial

end Sys2Proof.Safety
end
